-- ==== Sys2Proof/Word.lean ====
section
/-!
DEFINITION. The words of the interface: a register word (R4, R9) and a byte, with nothing but their types and the
reading of a bit field of a word.
-/

namespace Sys2Proof

/-- A 32-bit register word (R9), as a host command carries it. -/
abbrev Word := BitVec 32

/-- One byte of a frame, a packet or a record (R4). -/
abbrev Byte := BitVec 8

/-- Bits [lo + width - 1 : lo] of a word, as a number. -/
def Word.bits (w : Word) (lo width : Nat) : Nat := (w.toNat >>> lo) % 2 ^ width

/-- One bit of a word. -/
def Word.bit (w : Word) (n : Nat) : Bool := w.toNat.testBit n

end Sys2Proof
end

