-- ==== Sys2Proof/Syntax.lean ====
section
/-!
DEFINITION. The commands of the block: one constructor of `Instr` for each row of spec/opcode_table.json, in the
table's order.  The rows carry no operand fields; the operands here are what the event brings from outside the
device (the agent, the instance, the value on a bus or a pin, the bytes of a frame): DESIGN CHOICE, assumption log 1.
-/

namespace Sys2Proof

/-- Who makes a register access: tenants 0 to 15, management (16), the USB agent (17). -/
abbrev Agent := Fin 18

/-- A tenant, 0 to 15 (R11). -/
abbrev Tenant := Fin 16

/-- SDA and SCL of the two-wire controller as the port wants to send a START (R501): both free; SDA low until `clocks`
clocks have been sent; SDA low whatever is sent; SCL low for TIMEOUT_MS. -/
inductive BusLines where
  | free
  | low (clocks : Fin 10)
  | stuck
  | sclLow
  deriving DecidableEq, Repr

/-- How a controller transfer ends (R499): OK with the bytes read, the address or written byte `n` not acknowledged. -/
inductive TransferEnd where
  | ok (read : List Byte)
  | addressNack
  | dataNack (n : Fin 32)
  deriving DecidableEq, Repr

/-- What the outside answers to a register access that starts something there: the words of a queue's context in host
memory (none: the read failed) with the type of its completion queue (R358), the two-wire bus (R501), and whether a USB
control transfer is short of the end of its data stage (R492). -/
structure Outside where
  ctx : Option (List Nat) := none
  cqType : Fin 8 := 0
  bus : BusLines := .free
  usbCut : Bool := false
  deriving DecidableEq, Repr

/-- The flash that the board has fitted, as it is programmed before the device first starts: the images of banks A and
B, and the confirmed bank (R469). -/
structure FlashContent where
  bankA : List Byte := []
  bankB : List Byte := []
  confirmedB : Bool := false
  deriving DecidableEq, Repr

/-- A level of each of a channel's three colour inputs, nV. -/
structure Colours where
  red : Int := 0
  green : Int := 0
  blue : Int := 0
  deriving DecidableEq, Repr

/-- What a converter holds of one colour input: the value at the strobe and the reference level, nV (R89, R91). -/
structure Sample where
  held : Int := 0
  level : Int := 0
  deriving DecidableEq, Repr

/-- The level of an input pin, and for how many ns it has stood (R78, R510). -/
structure PinLevel where
  high : Bool := false
  stood : Nat := 0
  deriving DecidableEq, Repr

/-- The two inputs of a wheel of Onyx (R510). -/
structure WheelInputs where
  a : PinLevel := {}
  b : PinLevel := {}
  deriving DecidableEq, Repr

/-- A pulse on the Z input of an encoder: high for `stood` ns (R80). -/
structure IndexPulse where
  encoder : Fin 4 := 0
  stood : Nat := 0
  deriving DecidableEq, Repr

/-- A command of the block: one row of spec/opcode_table.json. -/
inductive Instr where
  /-- REGISTER_WRITE (R6). A host write to a register field that has no row of its own takes effect under its access type.
  With no value `v`: a host read of `width` bytes, which R9 and R427 log where they discard it. -/
  | registerWrite (agent : Agent) (p : Fin 8192) (o : Fin 4096) (width : Nat) (v : Option (BitVec 64)) (x : Outside)
  /-- PAGE_EVENT_CLEAR (R551). A W1C write to PAGE_EVENT clears bits and may withdraw the page source. -/
  | pageEventClear (p : Fin 8192) (v : Word)
  /-- PAGE_DISCARD (R550). PAGE_CTL.DISCARD sets every SH shadow of the page to its value in force. -/
  | pageDiscard (p : Fin 8192) (v : Word)
  /-- DEV_MODE_WRITE (R22). A write of the operating mode, refused while a run is active. -/
  | devModeWrite (agent : Agent) (v : Word)
  /-- PACE_WINDOW_END (R34). At the end of each measurement window the pace, headroom, KEEP and speed advisory are computed. -/
  | paceWindowEnd (tokens : List Nat)
  /-- AVS_EVALUATION (R41). Every INTERVAL windows the core-voltage loop evaluates headroom and issues a voltage command. -/
  | avsEvaluation
  /-- AVS_READBACK (R42). The regulator output is read back at the end of the next window and checked. -/
  | avsReadback (error : Bool) (mv : Fin 1024)
  /-- AVS_CTL_WRITE (R43). A write of AVS_CTL, whose LINK field is ignored while EN reads 1 and whose EN 0 to 1 restarts the loop. -/
  | avsCtlWrite (v : Word)
  /-- TIME_LO_READ (R48). A read of TIME_LO captures the 64-bit time base for the reading agent. -/
  | timeLoRead (agent : Agent) (sub : Fin 4) (width : Nat)
  /-- TB_STEP (R50). A write of TB_STEP_HI adds the signed step to the time base, refusing negative steps during a run. -/
  | tbStep (agent : Agent) (hi : Word)
  /-- REFCLK_LOSS (R53). REFCLK is lost: the time base runs from the internal oscillator and sampling stops. -/
  | refclkLoss
  /-- SYNTH_RELOCK (R53). The synthesiser relocks after REFCLK returns, and sampling resumes with a stale flush. -/
  | synthRelock
  /-- CONVERTER_WORD (R45). A converter word crosses into the lane's 256-sample buffer. -/
  | converterWord (c : Fin 97) (red green blue : Sample)
  /-- LINE_TRIGGER (R83). The line-trigger divider crosses a boundary and assigns line number y with its trigger time. -/
  | lineTrigger
  /-- TRIGGER_PREDICTION (R82). A scheduled predicted crossing time is reached with no count since, and the line is triggered. -/
  | triggerPrediction
  /-- ENCODER_COUNT (R78). An accepted encoder edge counts +1 or -1 and advances the line-trigger position. -/
  | encoderCount (n : Fin 4) (a b : PinLevel)
  /-- ENCODER_INDEX (R80). A rising edge of Z latches COUNT into INDEX. -/
  | encoderIndex (z : IndexPulse)
  /-- LT_LINE_LO_READ (R86). A read of LT_LINE_LO captures the line-number pair for the reading agent. -/
  | ltLineLoRead (agent : Agent) (sub : Fin 4) (width : Nat)
  /-- LT_POS_FRAC_READ (R86). A read of LT_POS_FRAC captures the position pair for the reading agent. -/
  | ltPosFracRead (agent : Agent) (sub : Fin 4) (width : Nat)
  /-- LINE_START (R84). A line start reaches every enabled group, restarting Pawn and applying settings delivered ahead. -/
  | lineStart
  /-- MIN_LINE_PERIOD_END (R85). A group's minimum line period ends, which may release a deferred line start. -/
  | minLinePeriodEnd (g : Fin 12)
  /-- FLUSH_LINE (R58). A group starts a flush line by itself after the stale limit, at a run stop, or after a swap or fallback change. -/
  | flushLine (g : Fin 12)
  /-- LED_STROBE (R75). An LED strobe starts or ends at its programmed time after a triggered line start. -/
  | ledStrobe (g : Fin 12) (n : Fin 2)
  /-- OUT (R63). Pawn OUT sets selected output modes at EDGE and issues the next instruction after WAIT periods. -/
  | pawnOut (g : Fin 12)
  /-- NOP (R63). Pawn NOP does nothing. -/
  | pawnNop (g : Fin 12)
  /-- LDC (R63). Pawn LDC loads a counter. -/
  | pawnLdc (g : Fin 12)
  /-- DJNZ (R63). Pawn DJNZ decrements a counter and branches if not zero. -/
  | pawnDjnz (g : Fin 12)
  /-- JMP (R63). Pawn JMP branches. -/
  | pawnJmp (g : Fin 12)
  /-- JC (R63). Pawn JC branches when its condition is true. -/
  | pawnJc (g : Fin 12)
  /-- STW (R65). Pawn STW writes half a word of the active bank. -/
  | pawnStw (g : Fin 12)
  /-- END (R63). Pawn END stops the program until the next line start. -/
  | pawnEnd (g : Fin 12)
  /-- PAWN_LINE_TIMEOUT (R70). END is not reached within the minimum line period, making the program invalid for reason 3. -/
  | pawnLineTimeout (g : Fin 12)
  /-- PAWN_DATA_HI_WRITE (R67). A write of PAWN_DATA_HI stores the word in the shadow bank and increments ADDR. -/
  | pawnDataHiWrite (g : Fin 12) (v : Word)
  /-- PAWN_DATA_LO_READ (R67). A read of PAWN_DATA_LO captures the word at ADDR. -/
  | pawnDataLoRead (agent : Agent) (g : Fin 12) (sub : Fin 4) (width : Nat)
  /-- PAWN_DATA_HI_READ (R67). A read of PAWN_DATA_HI returns the captured high half and increments ADDR. -/
  | pawnDataHiRead (agent : Agent) (g : Fin 12) (sub : Fin 4) (width : Nat)
  /-- DIAG_ENTRY_DONE (R98). A diagnostic entry completes and its result is written to DIAG[i]. -/
  | diagEntryDone (c : Fin 97) (xs : List Int)
  /-- PLAUS_CHECK (R101). When entry 4 has completed on every participant, the bank compares plausibility results. -/
  | plausCheck
  /-- FORCE_REQUEST (R103). A write of FORCE with GO requests one conversion of an input. -/
  | forceRequest (c : Fin 97) (v : Word)
  /-- FORCE_DONE (R103). A forced conversion completes and its result and time are written. -/
  | forceDone (c : Fin 97) (v ref : Int)
  /-- BANK_CAL_START (R105). A write of BANK_CAL.START starts self-calibration of all 97 converters. -/
  | bankCalStart (v : Word)
  /-- BANK_CAL_DONE (R107). Self-calibration ends after 180 ms; each channel passes or fails. -/
  | bankCalDone (results : List (List Nat × List Int × List Nat × Int))
  /-- CAST_REQ_GO (R122). CAST_REQ with GO makes a channel pending with rank host. -/
  | castReqGo (v : Word)
  /-- CAST_REQ_RELEASE (R114). CAST_REQ with RELEASE releases a RETAINED spare from its channel. -/
  | castReqRelease (v : Word)
  /-- CAST_INTERVAL_DUE (R122). INTERVAL_S passes since a channel's last calibration and it becomes pending. -/
  | castIntervalDue (c : Fin 96)
  /-- CAST_SELECT (R114). Castling leaves IDLE to calibrate a due spare or to begin a cycle on the highest-ranked pending channel. -/
  | castSelect
  /-- CAST_MATCH_WINDOW_END (R116). A match window ends and is fitted, accepted, rejected or found lacking span. -/
  | castMatchWindowEnd
  /-- CAST_OFFLINE_CAL_END (R118). A 125 ms offline calibration of a channel or the spare ends with pass or failure. -/
  | castOfflineCalEnd (errors : List (List Nat)) (gains : List Nat)
  /-- TRIM_SLOT_WRITE (R121). A host write to a trim slot, refused for a channel in a cycle or RETAINED. -/
  | trimSlotWrite (c : Fin 97) (j : Fin 4) (w : Fin 8) (v : Word)
  /-- CAST_SWAP_LINE_LO_READ (R128). A read of CAST_SWAP_LINE_LO captures the swap-line pair. -/
  | castSwapLineLoRead (agent : Agent) (sub : Fin 4) (width : Nat)
  /-- LANE_OUTPUT_LINE (R158). A lane emits an output line with its header, flags and generation. -/
  | laneOutputLine (k : Fin 12)
  /-- OPAL_CAP_GO (R141). A write of OPAL_CAP with GO starts a dark or white capture. -/
  | opalCapGo (v : Word)
  /-- OPAL_CAP_END (R143). A capture ends DONE and writes the staging set, or ends SHORT or ABORTED. -/
  | opalCapEnd
  /-- XFER_WINDOW_ACCESS (R162). An access to the transfer-aperture window reads or writes an image and may advance ADDR. -/
  | xferWindowAccess (agent : Agent) (port : Option (Fin 4)) (w : Fin 512) (sub : Fin 4) (width : Nat)
      (value : Option (BitVec 64))
  /-- XFER_WRITE_STORED (R162). A pending window write is stored in pixel memory. -/
  | xferWriteStored
  /-- PW_WINDOW_END (R154). A paper-white tracking window ends and gains are updated per segment and colour. -/
  | pwWindowEnd
  /-- PW_RESET (R155). A write of PW_CTL.RESET sets every gain to 0x4000 from a later line. -/
  | pwReset (v : Word)
  /-- REF_LINES (R175). A REF_LINES descriptor is fetched, checked and its payload read. -/
  | refLines (q : Fin 262144)
  /-- REF_EARLY_FETCH (R180). The limit reaches a waiting early descriptor's last line and it is fetched. -/
  | refEarlyFetch (q : Fin 262144)
  /-- REF_ARRIVAL (R175). The last payload byte arrives and the descriptor's lines become present together. -/
  | refArrival (c : Fin 64)
  /-- REF_PAIR_READ (R184). A low-half read of a reference-feed register pair captures the pair. -/
  | refPairRead (agent : Agent) (n : Fin 4) (sub : Fin 4) (width : Nat)
  /-- REG_TILE_DECIDE (R193). A tile's last line is accumulated and its peak, displacement and acceptance are decided. -/
  | regTileDecide (c : Fin 1024)
  /-- ROW_DONE (R196). A tile row becomes available, updating the state, field page and field record. -/
  | rowDone
  /-- REG_REACQ (R199). REG_CMD.REACQ requests acquisition from a later line. -/
  | regReacq (v : Word)
  /-- REG_PAIR_READ (R207). A low-half read of REG_ACQ_LINE or REG_TRACK_LINE captures the pair. -/
  | regPairRead (agent : Agent) (track : Bool) (sub : Fin 4) (width : Nat)
  /-- LABEL_LINE_DONE (R215). The labeller finishes a line, closing blobs and opening new ones. -/
  | labelLineDone
  /-- BLOB_RECORD_STAGE (R218). A closed blob's record is staged. -/
  | blobRecordStage
  /-- VERDICT (R223). An item's conditions of R222 are met and its verdict is decided and staged. -/
  | verdict
  /-- COVERAGE_RECORD_STAGE (R228). A closed coverage record is staged for COV_Q. -/
  | coverageRecordStage
  /-- COV_BACKLOG_RESUME (R229). A staging slot frees and the reason-0xFF backlog record is staged. -/
  | covBacklogResume
  /-- RECORD_DELIVERY (R225). A staged record is written to its queue once the queue has room. -/
  | recordDelivery (q : Fin 262144)
  /-- PATCH_MEASURED (R242). After a patch's last line its means and distance are computed and a record staged. -/
  | patchMeasured (n : Fin 64)
  /-- MARK_MEASURED (R245). After a mark window's last line its ink centroids are computed and a record staged. -/
  | markMeasured (n : Fin 32)
  /-- PREVIEW_RECORD (R250). A preview line is complete and its record is staged. -/
  | previewRecord
  /-- CROP_TOKEN_REFILL (R252). The crop rate limiter adds a token. -/
  | cropTokenRefill
  /-- CROP_COMPLETE (R254). A crop holds H lines and its blob has closed; it is written or discarded. -/
  | cropComplete (n : Fin 6)
  /-- BERYL_FSYNC (R263). An FSYNC rising edge starts a frame and the array temperature read. -/
  | berylFsync (p : Fin 4)
  /-- BERYL_LSYNC (R263). An LSYNC rising edge starts a row of video sampling. -/
  | berylLsync (p : Fin 4) (a b : List (Fin 16384 × Bool)) (full : Bool)
  /-- BERYL_FRAME_END (R263). An accepted frame ends and its contributions are committed. -/
  | berylFrameEnd (p : Fin 4)
  /-- BERYL_SYNC_TIMEOUT (R277). No FSYNC for TIMEOUT_MS moves the port to NO_SYNC or OPENING. -/
  | berylSyncTimeout (p : Fin 4)
  /-- BERYL_MOVE_TIMEOUT (R277). The shutter axis does not reach its target within MOVE_TMO, which is an axis failure. -/
  | berylMoveTimeout (p : Fin 4)
  /-- BERYL_RECAL_CMD (R275). BR_CMD.RECAL makes a recalibration due. -/
  | berylRecalCmd (p : Fin 4) (v : Word)
  /-- BERYL_RECAL_INTERVAL (R275). INTERVAL_S passes since the last pass and a recalibration becomes due. -/
  | berylRecalInterval (p : Fin 4)
  /-- BERYL_ACC_TAKE (R276). A due port takes the shutter accumulator and commands CLOSED_POS. -/
  | berylAccTake
  /-- BERYL_REOPEN (R277). BR_CMD.REOPEN leaves SHUT_FAULT and commands OPEN_POS. -/
  | berylReopen (p : Fin 4) (v : Word)
  /-- BERYL_SNAP (R287). BR_CMD.SNAP requests a snapshot of the next accepted frame. -/
  | berylSnap (p : Fin 4) (v : Word)
  /-- BERYL_SPI_GO (R265). BR_SPI_CTL.GO starts a serial transaction. -/
  | berylSpiGo (p : Fin 4) (v : Word)
  /-- SPI_DONE (R265). A host serial transaction ends. -/
  | spiDone (p : Fin 4) (rx : Word)
  /-- BVC_DATA_READ (R288). A read of BVC DATA returns the capture and clears VALID and OVERRUN. -/
  | bvcDataRead (agent : Agent) (n : Fin 8) (sub : Fin 4) (width : Nat)
  /-- BVC_FREE_CONVERT (R288). In mode 3 a video converter converts every 1.000 µs. -/
  | bvcFreeConvert (n : Fin 8) (code : Fin 16384) (clip : Bool)
  /-- PFE_SCAN_TIMER (R299). A periodic scan starts every SCAN_MS. -/
  | pfeScanTimer
  /-- PFE_GO (R299). PFE_CMD.GO triggers a scan, or is held or discarded during a scan. -/
  | pfeGo (v : Word)
  /-- PFE_STEP_END (R298). A conversion step's window ends. -/
  | pfeStepEnd (va vb : Int)
  /-- PFE_SCAN_END (R301). After the check step, every result, pair value and the scan count are written. -/
  | pfeScanEnd
  /-- AO_UPDATE (R310). A ratiometric output code is updated after results are written. -/
  | aoUpdate (n : Fin 8)
  /-- AO_REF_LOW (R311). AO_REF falls below 0.9 V. -/
  | aoRefLow (n : Fin 8)
  /-- RES_VALUE_READ (R317). A read of RES[i].VALUE captures RAW, STATUS and TIME for the agent. -/
  | resValueRead (agent : Agent) (n : Fin 16) (sub : Fin 4) (width : Nat)
  /-- SERVO_BOUNDARY (R324). At each servo-period boundary the profile is re-evaluated and a set-point emitted. -/
  | servoBoundary
  /-- PWM_PERIOD (R323). Each PWM period the converter scans its six inputs and the current loop sets duty. -/
  | pwmPeriod (a : Fin 8) (codes : List (Fin 16384 × Bool))
  /-- AUX_IDLE_SCAN (R322). A converter of a DISABLED axis scans every 10.0 µs. -/
  | auxIdleScan (n : Fin 8) (codes : List (Fin 16384 × Bool))
  /-- MOT_STANDBY (R329). After STBY_MS at rest the standstill mode applies. -/
  | motStandby (a : Fin 8)
  /-- MOT_TARGET_HI_WRITE (R326). A write of MOT_TARGET_HI stores the limited 40-bit target. -/
  | motTargetHiWrite (a : Fin 8) (v : Word)
  /-- MOT_CTL_WRITE (R327). A write of MOT_CTL enables or disables the axis. -/
  | motCtlWrite (a : Fin 8) (v : Word)
  /-- STOP (R327). MOT_CMD.STOP begins a controlled stop. -/
  | motStop (a : Fin 8)
  /-- RESUME (R328). MOT_CMD.RESUME resumes a held move, with back-off. -/
  | motResume (a : Fin 8)
  /-- HOME (R333). MOT_CMD.HOME starts homing. -/
  | motHome (a : Fin 8)
  /-- CLEAR (R327). MOT_CMD.CLEAR leaves FAULT when the cause is gone. -/
  | motClear (agent : Agent) (a : Fin 8)
  /-- ZERO (R333). MOT_CMD.ZERO sets position 0 in STANDSTILL. -/
  | motZero (a : Fin 8)
  /-- ABORT (R327). MOT_CMD.ABORT discards the remaining distance of a held axis. -/
  | motAbort (a : Fin 8)
  /-- MOT_HOME_SWITCH (R333). The home switch asserts during HOMING, zeroing the set-point. -/
  | motHomeSwitch (a : Fin 8) (high : Bool)
  /-- MOT_BRIDGE_FAULT (R334). MOT_FLT_N goes low and the axis enters FAULT code 2. -/
  | motBridgeFault (a : Fin 8) (high : Bool)
  /-- MOT_SERVO_WRITE (R335). A write of MOT_SERVO.US, refused while an axis moves. -/
  | motServoWrite (v : Word)
  /-- MOT_PAIR_READ (R339). A low-half read of MOT_POS or MOT_REMAIN captures the pair. -/
  | motPairRead (agent : Agent) (a : Fin 8) (remaining : Bool) (sub : Fin 4) (width : Nat)
  /-- FUNCTION_LEVEL_RESET (R346). An FLR of a function resets its tenant; of PF0, all VFs become ABSENT. -/
  | functionLevelReset (f : Tenant)
  /-- D3HOT_ENTRY (R346). Entry of a function into D3hot resets its tenant. -/
  | d3hotEntry (f : Tenant)
  /-- VF_ENABLE_CHANGE (R346). VF Enable or NumVFs changes and tenants become ABSENT or DOWN. -/
  | vfEnableChange (n : Fin 16) (enable : Bool)
  /-- TEN_RESET (R346). The owner writes TEN_RESET for tenants. -/
  | tenReset (mask : BitVec 16)
  /-- HELLO (R349). A HELLO is answered with WELCOME or REJECT after any tenant reset. -/
  | hello (t : Tenant)
  /-- FW_INFO (R459). A FW_INFO mailbox request returns firmware and Onyx identity. -/
  | fwInfo (t : Tenant)
  /-- LOG_MARK (R459). A LOG_MARK request writes a log entry and returns its SEQ. -/
  | logMark (t : Tenant)
  /-- LEASE_GRANT (R352). LEASE_CMD GRANT leases a resource to a tenant, or renews it. -/
  | leaseGrant (r : Fin 128) (t : Tenant) (ms : BitVec 16)
  /-- LEASE_REVOKE (R352). LEASE_CMD REVOKE ends a lease. -/
  | leaseRevoke (r : Fin 128)
  /-- LEASE_EXPIRY (R352). A lease's timeout passes and it ends. -/
  | leaseExpiry (r : Fin 88)
  /-- LEASE_RENEW (R352). TEN_RENEW renews every lease the tenant holds. -/
  | leaseRenew (t : Tenant)
  /-- ENABLE (R358). QADM ENABLE reads the context and runs the queue or faults it. -/
  | queueEnable (t : Tenant) (q : Fin 16384) (ctx : Option (List Nat)) (cqType : Fin 8)
  /-- DISABLE (R358). QADM DISABLE stops fetching and writes back after begun work completes. -/
  | queueDisable (t : Tenant) (q : Fin 16384) (ctx : Option (List Nat))
  /-- PAUSE (R358). QADM PAUSE stops fetching. -/
  | queuePause (t : Tenant) (q : Fin 16384) (ctx : Option (List Nat))
  /-- QUEUE_RESUME (R358). QADM RESUME returns a paused queue to RUNNING. -/
  | queueResume (t : Tenant) (q : Fin 16384) (ctx : Option (List Nat))
  /-- QUEUE_RESET (R416). QADM RESET discards the queue's work and leaves it DISABLED. -/
  | queueReset (t : Tenant) (q : Fin 16384) (ctx : Option (List Nat))
  /-- SYNC (R358). QADM SYNC writes back the device-owned fields. -/
  | queueSync (t : Tenant) (q : Fin 16384) (ctx : Option (List Nat))
  /-- DOORBELL (R360). A doorbell write updates PROD or CONS, is ignored, counted stale, or faults the queue.  The access
  is one of `width` bytes at byte `o` of the doorbells of tenant `t` (R344), a read where it has no value `v`. -/
  | doorbell (t : Tenant) (o : Fin 131072) (width : Nat) (v : Option (BitVec 64))
  /-- DESCRIPTOR_FETCH (R366). A fetched descriptor passes epoch and sequence checks before execution. -/
  | descriptorFetch (q : Fin 262144) (words : Option (List Nat))
  /-- DMA_XFER (R384). A DMA_XFER descriptor is checked and its transfer begun on its channel. -/
  | dmaXfer (q : Fin 262144)
  /-- REG_WRITE (R364). A REG_WRITE descriptor writes one register in queue order. -/
  | regWrite (q : Fin 262144) (x : Outside)
  /-- INDEX_WRITEBACK (R369). The device writes back PROD or CONS after entries, within 2 µs or at 32 entries. -/
  | indexWriteback (q : Fin 262144) (error : Bool)
  /-- CONTEXT_LOAD (R372). A context load from host memory completes, evicting another entry if needed. -/
  | contextLoad (q : Fin 262144) (ctx : Option (List Nat)) (cqType : Fin 8)
  /-- TEN_CTX_BASE_WRITE (R374). A write of TEN_CTX_BASE, ignored while any queue is not DISABLED. -/
  | tenCtxBaseWrite (t : Tenant) (high : Bool) (v : Word)
  /-- QSTAT_A_READ (R379). A read of QSTAT_A captures a queue's state, loading the context if needed. -/
  | qstatARead (agent : Agent) (t : Tenant) (sub : Fin 4) (width : Nat) (ctx : Option (List Nat))
  /-- LINK_CHANGE (R375). The PCI Express link changes state. -/
  | linkChange (speed : Fin 8) (width : Fin 32) (up : Bool)
  /-- LINK_DOWN (R415). A PCI Express hot reset or link down acts as an FLR of PF0. -/
  | linkDown (hotReset : Bool)
  /-- POISONED_REQUEST (R417). A poisoned or ECRC-failed request to a function faults its tenant. -/
  | poisonedRequest (t : Tenant)
  /-- LEASE_REVOKE_ON_FAULT (R418). Management revokes the leases of a faulted or reset holder. -/
  | leaseRevokeOnFault (t : Tenant)
  /-- DMA_BURST_GRANT (R389). The arbiter grants one burst by priority and guarantee class. -/
  | dmaBurstGrant (o : Outside)
  /-- DMA_READ_COMPLETION (R389). A read completion of a burst returns. -/
  | dmaReadCompletion (c : Fin 64) (b : Fin 8) (d : List Byte) (o : Outside)
  /-- DMA_BUS_ERROR (R391). A bus error schedules a retry or halts the channel. -/
  | dmaBusError (c : Fin 64) (b : Fin 8)
  /-- DMA_RETRY (R391). A retry delay passes and the failing request is reissued. -/
  | dmaRetry (c : Fin 64) (b : Fin 8)
  /-- DMA_TRANSFER_COMPLETE (R393). A transfer completes, posted or native, and the next waiting transfer begins. -/
  | dmaTransferComplete (c : Fin 64)
  /-- DMA_CLEAR (R392). DMA_CMD.CLEAR takes a HALTED channel to IDLE. -/
  | dmaClear (agent : Agent) (c : Fin 64)
  /-- DMA_ABORT (R392). DMA_CMD.ABORT discards the channel's transfers. -/
  | dmaAbort (c : Fin 64)
  /-- REQ_CLEAR (R390). DMA_CMD.REQ_CLEAR sets REQ_PEND to 0. -/
  | reqClear (c : Fin 64)
  /-- DMA_PACE_REQUEST (R390). A request line asserts and REQ_PEND counts it. -/
  | dmaPaceRequest (l : Fin 64)
  /-- DMA_TIMER (R390). The channel's timer line asserts every DMA_TIMER.US. -/
  | dmaTimer (c : Fin 64)
  /-- DMA_PAIR_READ (R397). A low-half read of DMA_ERR_ADDR captures the pair. -/
  | dmaPairRead (agent : Agent) (c : Fin 64) (sub : Fin 4) (width : Nat)
  /-- IC_EVENT (R401). An event on a source is coalesced and may make it pending. -/
  | icEvent (c : Fin 17) (src : Fin 1024)
  /-- IC_COALESCE_TIMEOUT (R401). A source's coalescing time passes and it becomes pending. -/
  | icCoalesceTimeout (c : Fin 17) (src : Fin 1024)
  /-- MSIX_SEND (R402). A rise of the request sends the MSI-X message or sets the PBA bit. -/
  | msixSend (c : Fin 17)
  /-- MSIX_VECTOR_USABLE (R402). The vector becomes usable and a held message is sent or cleared. -/
  | msixVectorUsable (c : Tenant) (enable functionMask vectorMask : Bool) (address : BitVec 64) (data : Word)
  /-- IC_CLAIM (R403). A read of IC_CLAIM returns and takes the highest claimable source. -/
  | icClaim (agent : Agent) (c : Fin 17) (sub : Fin 4) (width : Nat)
  /-- IC_COMPLETE (R403). A write of IC_COMPLETE clears a source's in-service bit. -/
  | icComplete (c : Fin 17) (src : Fin 1024)
  /-- IC_SET (R404). A write of IC_SET raises one event on a source. -/
  | icSet (c : Fin 17) (src : Fin 1024)
  /-- IC_CLEAR (R404). A write of IC_CLEAR withdraws a source's request. -/
  | icClear (c : Fin 17) (src : Fin 1024)
  /-- LANE_RESET_CMD (R419). FLT_CMD.LANE_RESET releases a held lane. -/
  | laneResetCmd (v : Word)
  /-- ECC_UNCORRECTABLE (R415). An uncorrectable memory error faults its lane, line, record or queue. -/
  | eccUncorrectable (kind : Fin 4) (n : Nat)
  /-- ECC_CORR (R415). A correctable memory error is corrected in place. -/
  | eccCorr
  /-- DEV_RESET_KEY (R421). A write of DEV_RESET.KEY starts a device reset, or raises KEY_REFUSED. -/
  | devResetKey (agent : Agent) (v : Word)
  /-- PERST_N_ASSERT (R421). PERST_N is asserted, causing a device reset. -/
  | perstNAssert
  /-- CORE_SUPPLY_FAULT (R421). VDD_CORE stays outside 0.60 to 0.90 V for 10 µs, causing a device reset. -/
  | coreSupplyFault
  /-- WATCHDOG (R455). A core watchdog expires, writing a log entry and resetting the device. -/
  | watchdog (core : Fin 2)
  /-- DOM_CTL_WRITE (R424). A write of DOM_CTL.ON drains or starts domains, refused during a run for some. -/
  | domCtlWrite (v : Word)
  /-- DOM_FAULT (R424). A domain's monitor or switch reports a fault; its work is discarded. -/
  | domFault (d : Fin 8)
  /-- DOM_OFF (R424). No work of a draining domain remains and it reaches OFF. -/
  | domOff (d : Fin 8)
  /-- DRAIN_TIMEOUT (R424). DOM_DRAIN passes and remaining work is discarded. -/
  | drainTimeout (d : Fin 8)
  /-- DOM_ON (R424). A starting domain's start time passes and it reaches ON. -/
  | domOn (d : Fin 8)
  /-- THERMAL_MODEL_STEP (R432). Every 100 µs the thermal model steps and the throttle fraction is recomputed. -/
  | thermalModelStep
  /-- CAPACITY_EVALUATION (R446). Every 1 ms cap_now, shortfall, level and allowances are computed. -/
  | capacityEvaluation
  /-- THIN_FROM_LO_READ (R451). A read of THIN_FROM_LO captures the pair. -/
  | thinFromLoRead (agent : Agent) (sub : Fin 4) (width : Nat)
  /-- MAILBOX_GO (R458). MBX_H2M_CTL.GO posts a request, or is refused. -/
  | mailboxGo (agent : Agent) (t : Tenant) (v : Word)
  /-- H2M_TAKEN (R458). Management copies the request. -/
  | h2mTaken (t : Tenant)
  /-- M2H_READY (R458). Management writes the reply. -/
  | m2hReady (t : Tenant)
  /-- MBX_M2H_ACK (R458). The tenant acknowledges the reply and the mailbox returns to IDLE. -/
  | mbxM2hAck (t : Tenant) (v : Word)
  /-- MBX_FENCE_READ (R460). A read of MBX_FENCE returns once the agent's earlier writes are visible. -/
  | mbxFenceRead (agent : Agent) (t : Tenant) (sub : Fin 4) (width : Nat)
  /-- MONITOR_SAMPLE (R462). Every 10 µs each power monitor samples voltage and current. -/
  | monitorSample (xs : List (Option (Nat × Nat)))
  /-- LOG_ENTRY (R463). An entry enters the log intake queue, or is dropped. -/
  | logEntry (kind tenant : Fin 32) (page : Fin 8192) (offset : Fin 4096) (be : Fin 16) (value arg1 : Word) (arg2 : BitVec 16)
  /-- LOG_MIRROR_PROGRAM (R467). Waiting mirrored entries are programmed to flash after 100 ms or eight entries. -/
  | logMirrorProgram (fail : Bool)
  /-- LOG_SEL_WRITE (R466). A write of LOG_SEL selects an entry to be fetched into LOG_DATA. -/
  | logSelWrite (v : Word)
  /-- LOG_DATA_READY (R466). LOG_DATA holds the selected entry. -/
  | logDataReady
  /-- LOG_DATA_READ (R466). A read of LOG_DATA[7] advances LOG_SEL. -/
  | logDataRead (agent : Agent) (w : Fin 8) (sub : Fin 4) (width : Nat)
  /-- BOOT (R472). At reset end the boot ROM checks banks and starts firmware or enters recovery. -/
  | boot
  /-- OPEN (R474). UPD OPEN begins receiving an image into the bank not running. -/
  | updOpen (usb : Bool)
  /-- VERIFY (R474). UPD VERIFY flushes the buffer and starts verification. -/
  | updVerify (usb : Bool)
  /-- VERIFY_DONE (R471). Verification ends in VERIFIED or FAILED. -/
  | updVerifyDone
  /-- ACTIVATE (R474). UPD ACTIVATE names the target bank as trial. -/
  | updActivate (usb : Bool)
  /-- CONFIRM (R474). UPD CONFIRM confirms the trial bank and blows rollback fuses. -/
  | updConfirm (usb : Bool)
  /-- CANCEL (R474). UPD CANCEL abandons receiving or removes the trial. -/
  | updCancel (usb : Bool)
  /-- UPD_DATA_WRITE (R475). A word written to UPD_DATA is appended to the image buffer. -/
  | updDataWrite (v : Word)
  /-- UPD_FLASH_PROGRAM (R475). Buffered image bytes are erased and programmed to flash. -/
  | updFlashProgram (fail : Bool)
  /-- USB_VBUS_CHANGE (R482). VBUS appears or disappears and the port attaches or detaches. -/
  | usbVbusChange (present : Bool)
  /-- BUS_RESET (R482). A USB bus reset returns the port to DEFAULT. -/
  | usbBusReset (hs cut : Bool)
  /-- SET_ADDRESS (R482). SET_ADDRESS sets the device address. -/
  | setAddress (a : Fin 128)
  /-- SET_CONFIGURATION (R482). SET_CONFIGURATION selects configuration 1 or 0. -/
  | setConfiguration (v : Fin 256)
  /-- GET_DESCRIPTOR (R484). GET_DESCRIPTOR returns a descriptor. -/
  | getDescriptor (kind index : Fin 256) (wLength : Fin 65536)
  /-- GET_CONFIGURATION (R484). GET_CONFIGURATION returns the configuration. -/
  | getConfiguration (wLength : Fin 65536)
  /-- GET_STATUS (R484). GET_STATUS returns status. -/
  | getStatus (recipient : Fin 32) (index wLength : Fin 65536)
  /-- SET_FEATURE (R484). SET_FEATURE sets remote wake, halt or test mode. -/
  | setFeature (recipient : Fin 32) (feature index : Fin 65536)
  /-- CLEAR_FEATURE (R484). CLEAR_FEATURE clears remote wake or an endpoint halt. -/
  | clearFeature (recipient : Fin 32) (feature index : Fin 65536)
  /-- GET_INTERFACE (R484). GET_INTERFACE returns alternate setting 0. -/
  | getInterface (index wLength : Fin 65536)
  /-- SET_INTERFACE (R484). SET_INTERFACE selects alternate setting 0. -/
  | setInterface (alt index : Fin 65536)
  /-- SET_DESCRIPTOR (R484). SET_DESCRIPTOR is answered with STALL. -/
  | setDescriptor
  /-- SYNCH_FRAME (R484). SYNCH_FRAME is answered with STALL. -/
  | synchFrame
  /-- GET_INFO (R484). Vendor GET_INFO returns DEV_ID and firmware information. -/
  | getInfo (wLength : Fin 65536)
  /-- USB_REG_READ (R485). Vendor REG_READ reads a register as tenant 0. -/
  | usbRegRead (p o wLength : Fin 65536) (x : Outside)
  /-- USB_REG_WRITE (R485). Vendor REG_WRITE writes a register as tenant 0 and logs it. -/
  | usbRegWrite (p o wLength : Fin 65536) (v : Word) (x : Outside)
  /-- LOG_START (R486). Vendor LOG_START begins a log stream on endpoint 1. -/
  | logStart (seq : Word) (mirror follow : Bool) (wLength : Fin 65536)
  /-- LOG_STOP (R486). Vendor LOG_STOP ends the log stream. -/
  | logStop (wLength : Fin 65536)
  /-- USB_UPD_CMD (R485). Vendor UPD_CMD gives an update command as the USB agent. -/
  | usbUpdCmd (op wLength : Fin 65536)
  /-- USB_UPD_STATUS (R484). Vendor UPD_STATUS returns update status. -/
  | usbUpdStatus (wLength : Fin 65536)
  /-- ONYX (R488). Vendor ONYX passes a command frame to Onyx. -/
  | onyxFrame (b : List Byte)
  /-- EVT_MASK (R485). Vendor EVT_MASK writes USB_EVT_MASK. -/
  | usbEvtMask (mask wLength : Fin 65536)
  /-- USB_LOG_PACKET (R486). An IN packet of log entries is sent on endpoint 1. -/
  | usbLogPacket
  /-- USB_IMAGE_PACKET (R487). An OUT packet on endpoint 2 is appended to the image or halts the endpoint. -/
  | usbImagePacket (b : List Byte)
  /-- SUSPEND (R482). 3.0 ms of bus idle suspends the port. -/
  | usbSuspend
  /-- USB_RESUME (R482). The host's resume ends and the port returns to its prior state. -/
  | usbResume
  /-- WAKE_SENT (R490). Remote wake signalling begins. -/
  | wakeSent
  /-- WAKE_COLLIDED (R491). The port finds K while released and treats it as a host resume. -/
  | wakeCollided
  /-- TWT_WRITE_TRANSACTION (R495). A target write transaction's bytes are applied at STOP. -/
  | twtWriteTransaction (address : Fin 128) (b : List Byte) (stop : Bool)
  /-- TWT_READ_TRANSACTION (R495). A target read transaction returns bytes from the pointer. -/
  | twtReadTransaction (address : Fin 128) (n : Nat)
  /-- BUS_TIMEOUT (R497). SCL stays low over 30 ms within a target transaction. -/
  | twtBusTimeout
  /-- ARA_DONE (R498). An alert response read answers the lowest alerting source. -/
  | twtAraDone (won : Bool)
  /-- TWT_HOST_ALERT (R505). TWT_HOST_ALERT.SET sets the status of source 9. -/
  | twtHostAlert (v : Word)
  /-- TWC_XFER_GO (R499). TWC_XFER.GO runs one controller transfer. -/
  | twcXferGo (v : Word) (bus : BusLines)
  /-- XFER_DONE (R499). A controller transfer ends with its result. -/
  | twcXferDone (e : TransferEnd)
  /-- TWC_ARB_LOST (R500). The controller loses arbitration and restarts after bus free. -/
  | twcArbLost
  /-- TWC_TIMEOUT (R499). A target holds SCL low over TIMEOUT_MS and recovery follows. -/
  | twcTimeout (bus : BusLines)
  /-- TWC_RECOVER (R501). TWC_RECOVER.GO runs a bus recovery. -/
  | twcRecover (v : Word) (bus : BusLines)
  /-- ONYX_WHEEL_COUNT (R513). A wheel count moves its odometer and the half-length. -/
  | onyxWheelCount (w : Fin 2) (x : WheelInputs)
  /-- SEAL_PRESS (R518). A recognised press of the seal switch commits staged values. -/
  | sealPress
  /-- ONYX_RETENTION (R510). VDD_ONYX falls below 1.62 V and Onyx enters retention. -/
  | onyxRetention
  /-- POWER_GAP (R510). VDD_ONYX returns and Onyx resumes, writing POWER_GAP. -/
  | powerGap
  /-- COLD_START (R511). A start with failed SRAM check clears Onyx and blows a fuse. -/
  | coldStart (temp vddMv : BitVec 16)
  /-- TEMP_START (R516). Onyx's temperature reaches 140 °C and it enters OVERTEMP. -/
  | tempStart (temp : BitVec 16)
  /-- TEMP_END (R516). Onyx's temperature falls below 130 °C and it leaves OVERTEMP. -/
  | tempEnd (temp : BitVec 16)
  /-- IDENT (R526). IDENT returns version, checksum, cold starts and state. -/
  | onyxIdent
  /-- READ_STATE (R526). READ_STATE returns Onyx's state page. -/
  | onyxReadState
  /-- READ_AUDIT (R526). READ_AUDIT returns held audit entries. -/
  | onyxReadAudit
  /-- JOB_MARK (R524). JOB_MARK records TOTAL as the mark and returns the job record. -/
  | onyxJobMark
  /-- STAGE_PARAM (R518). STAGE_PARAM stages a parameter value. -/
  | onyxStageParam
  /-- STAGE_RELEASE (R523). STAGE_RELEASE stages a release of audit entries. -/
  | onyxStageRelease
  /-- CLEAR_STAGE (R518). CLEAR_STAGE discards staged values. -/
  | onyxClearStage
  /-- ONYX_PUSH (R528). Onyx pushes its values into the read-only view. -/
  | onyxPush (temp vddMv : BitVec 16) (switch : Bool)
  /-- VIEW_STALE (R528). No push arrives for 50 ms and VIEW_VALID clears. -/
  | viewStale
  /-- ENUM (R535). An ENUM message enumerates positions at link bring-up. -/
  | ikEnum (port : Fin 2) (lead : Bool) (sender mine count : Fin 8) (offer : BitVec 8) (w : BitVec 32) (o src : BitVec 8)
  /-- TIME (R539). A TIME message adjusts a follower's time base. -/
  | ikTime (port : Fin 2) (time : BitVec 64)
  /-- PING (R539). A PING or PONG measures path latency. -/
  | ikPing (port : Fin 2) (pos : Fin 4) (t0 rx tx : BitVec 64) (l : BitVec 16)
  /-- TRIGGER (R540). A TRIGGER message schedules line y on a follower at t + D_c. -/
  | ikTrigger (port : Fin 2) (y : BitVec 48) (t : BitVec 64) (d : BitVec 16)
  /-- STATE (R541). A STATE message carries run state, digest, generation and KEEP. -/
  | ikState (port : Fin 2) (pos : Fin 4) (run : Bool) (digest : List Nat) (gen : Word) (keep : BitVec 16) (pause : Bool)
  /-- RUN (R541). A RUN message starts or stops the cascade run. -/
  | ikRun (port : Fin 2) (start : Bool) (y : BitVec 48) (t : BitVec 64)
  /-- THIN (R545). A THIN message sets the cascade KEEP from a line. -/
  | ikThin (port : Fin 2) (keep : BitVec 16) (y : BitVec 48)
  /-- COMMIT (R544). A COMMIT message reports a resulting digest or fixes y_k. -/
  | ikCommit (port : Fin 2) (pos : Fin 4) (digest : List Nat) (result : Option (Option (BitVec 48)))
  /-- JOINT (R545). A JOINT message delivers the eastern joint pixels. -/
  | ikJoint (y : BitVec 48) (o : Fin 65) (pixels : List (List Nat × Nat))
  /-- DEFECT (R545). A DEFECT message delivers boundary defect columns. -/
  | ikDefect (port : Fin 2) (y : BitVec 48) (cols : List (Bool × Bool))
  /-- FRAGMENT (R545). A FRAGMENT message joins runs across a device boundary. -/
  | ikFragment (port : Fin 2) (y : BitVec 48) (runs : List (Nat × Nat × Nat × Nat × Nat))
  /-- BLOB_PART (R545). A BLOB_PART message delivers a fragment's sums to the reporting device. -/
  | ikBlobPart (port : Fin 2) (v : List Nat)
  /-- ITEM_PART (R545). An ITEM_PART message delivers an item's counts to the verdict device. -/
  | ikItemPart (p : List Nat)
  /-- HALT (R541). A HALT message halts the cascade run. -/
  | ikHalt (port : Fin 2) (cause : BitVec 8) (y : BitVec 48)
  /-- IK_PORT_DOWN (R534). A port with no valid frame for 4 µs or a fourth CRC failure goes down. -/
  | ikPortDown (p : Fin 2)
  /-- IK_PORT_RETRY (R534). A down port retries training every 10 ms. -/
  | ikPortRetry (p : Fin 2)
  /-- IK_FRAME_CRC_ERROR (R537). A frame with a CRC error is retransmitted. -/
  | ikFrameCrcError (p : Fin 2)
  /-- IK_TIME_SEND (R537). The leader's 10 µs timer sends TIME and STATE. -/
  | ikTimeSend
  /-- IK_PING_SEND (R537). The leader's 1 ms timer sends PING. -/
  | ikPingSend
  /-- IK_COMMIT_TIMEOUT (R544). SYNC_MS passes without every report and the cascade commit is refused. -/
  | ikCommitTimeout
  /-- JOINT_WAIT_EXPIRY (R545). The 3.0 µs joint wait expires and the joint is formed from one side. -/
  | jointWaitExpiry
  /-- IK_CLEAR (R541). IK_CMD.CLEAR leaves HALTED for LINKING. -/
  | ikClear (v : Word)
  /-- IK_COMMIT_LINE_LO_READ (R546). A read of IK_COMMIT_LINE_LO captures the pair. -/
  | ikCommitLineLoRead (agent : Agent) (sub : Fin 4) (width : Nat)
  /-- COMMIT_REQUEST (R556). PAGE_COMMIT.REQ requests a commit of the page's group, accepted or refused. -/
  | commitRequest (agent : Agent) (p : Fin 8192) (v : Word)
  /-- COMMIT_MULTI (R556). A write of COMMIT_MULTI requests several groups at one line. -/
  | commitMulti (v : Word)
  /-- COMMIT_EFFECT (R557). An accepted commit takes effect at its line, at once, or at a run stop. -/
  | commitEffect
  /-- GRANT_WRITE (R553). A grant entry write maps or unmaps a page in a VF slot. -/
  | grantWrite (t : Tenant) (slot : Fin 256) (v : Word)
  /-- GROUP_LINE_LO_READ (R565). A read of GROUP[g].LINE_LO captures the pair. -/
  | groupLineLoRead (agent : Agent) (g : Fin 16) (sub : Fin 4) (width : Nat)
  /-- RUN_START (R561). DEV_RUN.START starts a run, waits, or is refused. -/
  | runStart
  /-- RUN_START_DELAYED (R561). A waiting start begins once a Castling abort ends. -/
  | runStartDelayed
  /-- RUN_STOP (R561). DEV_RUN.STOP stops the run at once. -/
  | runStop
  /-- POWER_ON_RESET (R580). Every supply holds above threshold for 2 ms with the synthesiser locked and power-on reset ends. -/
  | powerOnReset (lead link core : Bool) (addr : Fin 8) (flash : Option FlashContent)
  /-- SUPPLY_FALL (R580). VDDA, VDDIO[0] or a serdes supply falls below threshold for 10 µs and power-on reset re-enters. -/
  | supplyFall
  /-- ARRAY_TEMPERATURE_READ (R266). The port's own serial read of the array temperature ends, refreshing Ta and BR_TA.VALID and releasing a waiting host transaction. -/
  | arrayTemperatureRead (p : Fin 4) (w : Word)
  /-- OFFLINE_STEP_BOUNDARY (R125). A 10 ms step boundary of an offline calibration is reached, where an abort cuts the calibration short or a forced conversion becomes eligible. -/
  | offlineStepBoundary
  /-- TENANT_DRAIN_LIMIT (R417). The fixed 100 µs drain of a tenant reset expires, work still in flight is discarded, and the tenant reaches DOWN. -/
  | tenantDrainLimit (t : Tenant)
  /-- LOG_INTAKE_DRAIN (R463). An entry leaves the 256-entry intake queue into the log ring, freeing intake room and possibly overwriting an unmirrored entry. -/
  | logIntakeDrain
  /-- ONYX_REPLY_READY (R527). Onyx finishes a command and its reply becomes ready on endpoint 3, queuing an ONYX event message. -/
  | onyxReplyReady
  /-- ONYX_REPLY_TRANSFER (R488). The host reads the Onyx reply on endpoint 3, after which a further ONYX request is accepted. -/
  | onyxReplyTransfer
  /-- EVENT_MESSAGE_POLL (R489). The host polls endpoint 4 and takes an event message, freeing queue space so that a LOST message can precede the next one. -/
  | eventMessagePoll
  /-- IK_PORT_TRAINED (R534). An Ikito port completes training with its neighbour and goes up, raising LINK_CHANGE and source 20. -/
  | ikPortTrained (p : Fin 2) (width : Fin 8)
  deriving DecidableEq, Repr

end Sys2Proof
end

