-- ==== Sys2Proof/Decode.lean ====
section
/-!
DEFINITION. The decoder the interface asks for.  The rows of spec/opcode_table.json give no bits to any command (the
commands are events of the block: register accesses, pins, timers, frames), so no word spells one.
-/

namespace Sys2Proof

/-- The command that a word spells by the table's bits: none, since no row of the table has bits. -/
def decodeTableWord (_nbits _w : Nat) : Option Instr := none

end Sys2Proof
end

