-- ==== Sys2Proof/Config.lean ====
section
/-!
DEFINITION. What the spec leaves open: free values, which are constants without a body.  Each is applied to a counter
of the state (`State.fresh`) or to the operands that it may depend on; assumption log 4.
-/

namespace Sys2Proof.Config

/-- A value that the spec does not state: the n-th one that a run needs. -/
opaque freeValue : Nat → Nat

/-- What the fuses of a device hold where the spec states no value (R431, R470, R481): numbered by their reader. -/
opaque freeFuse : Nat → Nat

/-- The public keys of the boot ROM by KEY_ID, as affine coordinates on P-384 (R470). -/
opaque signingKey : Nat → Nat × Nat

/-- The eighths of a sample per token that the lane takes from the buffers of a thinned line beyond the least that R437
gives, by effective pace. -/
opaque thinnedPace : Nat → Nat

end Sys2Proof.Config
end

