-- ==== Sys2Proof/Machine/Arith.lean ====
section
/-!
DEFINITION. The arithmetic of the manual's pseudocode (R15), two's-complement readings of register fields, the
integer square root, and the checks the device computes: CRC-16 (R464, R509), CRC-32 (R175, R537) and the words of
little-endian records (R4).
-/

namespace Sys2Proof.Machine

/-- `rnd(x, n)` of R15: division by 2^n, rounding half away from zero. -/
def rnd (x : Int) (n : Nat) : Int :=
  if n = 0 then x
  else if 0 ≤ x then (x + 2 ^ (n - 1)) / 2 ^ n
  else -((-x + 2 ^ (n - 1)) / 2 ^ n)

/-- `sat(x, lo, hi)` of R15. -/
def sat (x lo hi : Int) : Int := if x < lo then lo else if hi < x then hi else x

/-- `a / b` of R15: truncation toward zero. -/
def quot (a b : Int) : Int := a.tdiv b

/-- `a % b` of R15: the sign of `a`. -/
def rem (a b : Int) : Int := a.tmod b

/-- `a >> n` of R15: rounding toward minus infinity. -/
def asr (a : Int) (n : Nat) : Int := a / 2 ^ n

/-- The signed number that the low `w` bits of `v` stand for. -/
def signed (w v : Nat) : Int :=
  let u := v % 2 ^ w
  if 2 * u < 2 ^ w then (u : Int) else (u : Int) - 2 ^ w

/-- The low `w` bits of a signed number (R15: a stored value keeps its low bits). -/
def low (w : Nat) (x : Int) : Nat := (x % (2 ^ w : Int)).toNat

/-- Saturating increment of a `w`-bit count by `n`. -/
def satAdd (w v n : Nat) : Nat := min (2 ^ w - 1) (v + n)

/-- Bit `n` of a number. -/
def bitOf (v n : Nat) : Nat := (v >>> n) % 2

/-- Bits [lo + w - 1 : lo] of a number. -/
def bitsOf (v lo w : Nat) : Nat := (v >>> lo) % 2 ^ w

/-- `v` with bit `n` set. -/
def setBit (v n : Nat) : Nat := v ||| (1 <<< n)

/-- `v` with bit `n` cleared. -/
def clearBit (v n : Nat) : Nat := if v.testBit n then v - 2 ^ n else v

/-- `v` with every bit of `m` cleared (a W1C write, R6). -/
def clearMask (v m : Nat) : Nat := v - (v &&& m)

/-- `v` with bit `n` equal to `b`. -/
def putBit (v n : Nat) (b : Bool) : Nat := if b then setBit v n else clearBit v n

/-- One bit of a CRC register, most significant bit first. -/
def crcStep (width poly : Nat) (c : Nat) : Nat :=
  if c.testBit (width - 1) then ((c <<< 1) ^^^ poly) % 2 ^ width else (c <<< 1) % 2 ^ width

/-- CRC-16 with polynomial 0x1021, not reflected, from the given initial value (R464, R509, R521). -/
def crc16 (init : Nat) (bytes : List Nat) : Nat :=
  bytes.foldl (fun c b => Nat.repeat (crcStep 16 0x1021) 8 (c ^^^ ((b % 256) <<< 8))) init

/-- One bit of a reflected CRC register. -/
def crcStepR (poly : Nat) (c : Nat) : Nat := if c.testBit 0 then (c >>> 1) ^^^ poly else c >>> 1

/-- CRC-32 as IEEE 802.3 defines it (R537): reflected, initial value and final XOR of all ones. -/
def crc32 (bytes : List Nat) : Nat :=
  (bytes.foldl (fun c b => Nat.repeat (crcStepR 0xEDB88320) 8 (c ^^^ (b % 256))) 0xFFFFFFFF) ^^^ 0xFFFFFFFF

/-- The four bytes of a word, least significant first (R4). -/
def wordBytes (v : Nat) : List Nat := [v % 256, (v >>> 8) % 256, (v >>> 16) % 256, (v >>> 24) % 256]

/-- The `n` low bytes of a number, least significant first (R4). -/
def leBytes : Nat → Nat → List Nat
  | 0, _ => []
  | n + 1, v => v % 256 :: leBytes n (v / 256)

/-- The number that little-endian bytes stand for (R4). -/
def ofBytes : List Nat → Nat
  | [] => 0
  | b :: bs => b % 256 + 256 * ofBytes bs

/-- Little-endian 32-bit words of a byte string, the last one padded with zeros. -/
def bytesToWords : List Nat → List Nat
  | [] => []
  | [a] => [ofBytes [a]]
  | [a, b] => [ofBytes [a, b]]
  | [a, b, c] => [ofBytes [a, b, c]]
  | a :: b :: c :: d :: r => ofBytes [a, b, c, d] :: bytesToWords r

/-- The bytes of a list of words (R4). -/
def wordsBytes (ws : List Nat) : List Nat := ws.flatMap wordBytes

/-- A field of a record: byte offset of its word, lowest bit, width, value. -/
abbrev RecField := Nat × Nat × Nat × Nat

/-- Word `i` of the record that the listed fields make: every field whose word offset is 4 i, the rest 0. -/
def recordWord (fs : List RecField) (i : Nat) : Nat :=
  fs.foldl (fun w f => if f.1 = 4 * i then w + (f.2.2.2 % 2 ^ f.2.2.1) <<< f.2.1 else w) 0

/-- The words of a record of `n` words, from its fields. -/
def recordWords (n : Nat) (fs : List RecField) : List Nat := (List.range n).map (recordWord fs)

/-- The integer square root: the largest r with r * r ≤ n (bit by bit from bit `b`). -/
def isqrtLoop : Nat → Nat → Nat → Nat
  | 0, r, _ => r
  | b + 1, r, n =>
    let t := r + 2 ^ b
    isqrtLoop b (if t * t ≤ n then t else r) n

/-- The integer square root of a number below 2^128. -/
def isqrt (n : Nat) : Nat := isqrtLoop 64 0 n

end Sys2Proof.Machine
end

