-- ==== Sys2Proof/Machine/State.lean ====
section
/-!
DEFINITION. The state of the YV9640 as plain data: the register map in force and its shadows, the events and
interrupt controllers, the log, the time base, and for each block the state that the chapters of spec/ give it beyond
its registers; the queue of waiting commands; `State.reset`; the reasons a step can stop.
-/

namespace Sys2Proof.Machine

/-- A sparse table: (index, value) pairs with strictly rising indexes. -/
abbrev Table (α : Type) := List (Nat × α)

/-- A sparse store of numbers: registers by field key, memories by address. -/
abbrev Store := Table Nat

/-! ## The register map's vocabulary (R6, R10) -/

/-- The access types of R6 that a field of the tables has. -/
inductive Access where
  | ro | rw | wo | w1c | sh
  deriving DecidableEq, Repr

/-- The Reset column of a field (R10). -/
inductive ResetValue where
  /-- The same value for every instance. -/
  | const (v : Nat)
  /-- A value for each index (0 beyond the list). -/
  | byIndex (l : List Nat)
  /-- The format A expansion table, (57,344 i + 127) / 255 (R187). -/
  | exp
  /-- The number of the instance's page (TEN_STATUS.TENANT, R378). -/
  | page
  deriving DecidableEq, Repr

/-- "Writes are stored within …": the range a written value is brought into. -/
inductive Clamp where
  | any
  | range (lo hi : Nat)
  /-- The range of a two's-complement field, both bounds positive. -/
  | signedRange (lo hi : Nat)
  /-- Even values only (BR_GEOM.COLS). -/
  | evenRange (lo hi : Nat)
  deriving DecidableEq, Repr

/-- One row of a field table: first page, number of pages and their step, offset, two index strides with their
counts, lowest bit, width, reset, access, stored range. -/
structure Row where
  page : Nat
  pages : Nat
  pageStep : Nat
  offset : Nat
  count1 : Nat
  stride1 : Nat
  count2 : Nat
  stride2 : Nat
  lo : Nat
  width : Nat
  reset : ResetValue
  access : Access
  clamp : Clamp
  deriving DecidableEq, Repr

/-- One bit of a PAGE_EVENT register (R550): first page, page step, bit. -/
structure Event where
  page : Nat
  step : Nat
  bit : Nat
  deriving DecidableEq, Repr

/-! ## What leaves the device -/

/-- What the device sends out, newest first in `State.out`. -/
inductive Output where
  /-- The answer to a register read: agent, page, offset, value. -/
  | readData (agent page offset value : Nat)
  /-- The answer to a read of a doorbell (R345): tenant, byte offset, value. -/
  | doorbellData (tenant offset value : Nat)
  /-- A record of a stream written to its queue: global queue number, index, words. -/
  | entry (queue index : Nat) (words : List Nat)
  /-- Payload written to host memory by a queue's descriptor or a DMA burst: tenant, address, bytes. -/
  | hostWrite (tenant address : Nat) (bytes : List Nat)
  /-- A read request to host memory: tenant, address, length. -/
  | hostRead (tenant address length : Nat)
  /-- An index write-back (R369): tenant, address, the 8-byte value. -/
  | writeback (tenant address value : Nat)
  /-- The device-owned fields written to a queue's context (R369): global queue number, the six words from 0x20. -/
  | contextWrite (queue : Nat) (words : List Nat)
  /-- The read of a queue's context (R372): global queue number. -/
  | contextRead (queue : Nat)
  /-- An MSI-X message (R402): tenant, address, data. -/
  | msix (tenant address data : Nat)
  /-- A rise of the request to the management cores (R402). -/
  | mgmtIrq
  /-- A command on the AVSBus or PMBus link of the core regulator (R39): PMBus, address, command, value. -/
  | regulator (pmbus : Bool) (address command value : Nat)
  /-- A line start sent to a sensor group (R84). -/
  | lineStart (group line : Nat)
  /-- What drives the pin SG[k]_PH[o] from an edge step of the line period on (R54, R59 to R61): group, output, step,
  mode, RISE and FALL. -/
  | phase (group output step mode rise fall : Nat)
  /-- A new level of a pin: pin name, index, level. -/
  | pin (name : String) (index : Nat) (level : Bool)
  /-- A code driven on an analogue output or a PWM duty: name, index, value. -/
  | drive (name : String) (index : Nat) (value : Int)
  /-- A serial transaction on a Beryl port (R265): port, bits, data. -/
  | spi (port bits data : Nat)
  /-- A packet or data stage sent to the USB host: endpoint, bytes. -/
  | usbIn (endpoint : Nat) (bytes : List Nat)
  /-- A STALL (R484, R485): endpoint. -/
  | usbStall (endpoint : Nat)
  /-- The remote wake signalling begins or stops (R490, R491). -/
  | usbWake (drive : Bool)
  /-- Bytes sent by the two-wire target (R495, R498). -/
  | twoWireTarget (bytes : List Nat)
  /-- A transfer put on the two-wire controller's bus (R499): address, bytes written, bytes to read. -/
  | twoWireTransfer (address : Nat) (write : List Nat) (readLength : Nat)
  /-- A bus recovery's clocks or STOP (R501). -/
  | twoWireRecovery (clocks : Nat) (stop : Bool)
  /-- A frame sent on an Ikito port (R537): port, type, payload bytes. -/
  | ikito (port type : Nat) (payload : List Nat)
  /-- A program or erase of the flash (R469): address, bytes (empty: a sector erase). -/
  | flash (address : Nat) (bytes : List Nat)
  /-- A reply from Onyx (R525). -/
  | onyxReply (bytes : List Nat)
  deriving DecidableEq, Repr

/-! ## The log, the events and the interrupt controllers -/

/-- A log entry (R464), CHECK apart. -/
structure LogEntry where
  time : Nat
  seq : Nat
  kind : Nat
  tenant : Nat
  page : Nat
  offset : Nat
  be : Nat
  value : Nat
  arg1 : Nat
  arg2 : Nat
  deriving DecidableEq, Repr

/-- The management log (R463 to R467). -/
structure LogState where
  /-- SEQ of the next entry. -/
  next : Nat := 0
  /-- The intake queue of 256 entries, oldest first. -/
  intake : List LogEntry := []
  /-- The ring of 8,192 entries, newest first. -/
  ring : List LogEntry := []
  /-- Dropped entries whose LOST entry is outstanding. -/
  lostPending : Nat := 0
  /-- LOG_LOST.INTAKE and LOG_LOST.MIRROR. -/
  lostIntake : Nat := 0
  lostMirror : Nat := 0
  /-- Mirrored-kind entries of the ring that wait to be programmed, oldest first. -/
  waiting : List LogEntry := []
  /-- Mirrored entries of the flash region, newest first, at most 130,944. -/
  mirror : List LogEntry := []
  /-- Entries not mirrored whose MIRROR_LOST entry is outstanding. -/
  mirrorLostPending : Nat := 0
  /-- SEQ after the newest mirrored entry, and how many entries have been programmed so far. -/
  mirrorSeq : Nat := 0
  mirrorAt : Nat := 0
  /-- A flash failure stopped mirroring (R467). -/
  mirrorStopped : Bool := false
  deriving DecidableEq, Repr

/-- The event messages of USB endpoint 4 (R489 to R491). -/
structure UsbEvents where
  /-- CONFIGURED, or SUSPENDED entered from CONFIGURED: messages are queued. -/
  active : Bool := false
  /-- SUSPENDED. -/
  suspended : Bool := false
  /-- The host has enabled remote wake, and USB_CTL.WAKE_EN at the last change. -/
  rwake : Bool := false
  /-- The queue, oldest first, four words a message, at most 64. -/
  queue : List (List Nat) := []
  /-- Number of the next message, from 0 at each bus reset. -/
  seq : Nat := 0
  /-- USB_EVT_LOST.COUNT. -/
  lost : Nat := 0
  /-- Messages dropped whose LOST message is outstanding. -/
  lostPending : Nat := 0
  /-- USB_STATUS.WAKE_PENDING, the KIND that caused it, and whether it collided. -/
  wakePending : Bool := false
  wakeKind : Nat := 0
  wakeCollided : Bool := false
  /-- Signalled once in this suspension. -/
  wakeSent : Bool := false
  deriving DecidableEq, Repr

/-- The alert sources of the two-wire target (R498). -/
structure Alerts where
  /-- TWT_ALERT_STATUS.BITS. -/
  status : Nat := 0
  /-- Sources that alert. -/
  alerting : Nat := 0
  deriving DecidableEq, Repr

/-- The MSI-X vector of a function (R344, R402). -/
structure Msix where
  enable : Bool := false
  functionMask : Bool := false
  vectorMask : Bool := false
  pba : Bool := false
  address : Nat := 0
  data : Nat := 0
  deriving DecidableEq, Repr

/-- The interrupt controllers of tenants 0 to 15 and of management (16), R399 to R410. -/
structure Interrupts where
  /-- The registers of pages 0x0840 to 0x0850. -/
  regs : Store := []
  /-- c[s] of R401, by 1024 * controller + s. -/
  count : Store := []
  /-- t0[s] of R401, by 1024 * controller + s. -/
  since : Store := []
  /-- The MSI-X vectors of functions 0 to 15 (absent: as after reset). -/
  msix : Table Msix := []
  /-- Controllers whose request has risen and whose message has not been issued yet, oldest first (R402, R405). -/
  owed : List Nat := []
  deriving DecidableEq, Repr

/-- Everything through which a block tells of an event: PAGE_EVENT registers, controllers, log, USB messages,
two-wire alerts.  Raising an event changes this part of the state and the outputs, and nothing else. -/
structure Notify where
  /-- PAGE_EVENT by page. -/
  events : Store := []
  ic : Interrupts := {}
  log : LogState := {}
  usb : UsbEvents := {}
  alerts : Alerts := {}
  deriving DecidableEq, Repr

/-! ## Time base, pace and core voltage (chapter "Handshake timing, pace and the time base") -/

/-- The time base (R47, R49): 64-bit count of ns with 32 fraction bits. -/
structure TimeBase where
  ns : Nat := 0
  frac : Nat := 0
  deriving DecidableEq, Repr

/-- The core-voltage loop (R41, R42) and the measurement windows. -/
structure Avs where
  /-- Windows ended since the last evaluation. -/
  windows : Nat := 0
  /-- An evaluation is due at this window's end. -/
  due : Bool := false
  /-- A command has been issued whose readback is outstanding, and whether the window it is due at has ended. -/
  awaiting : Bool := false
  readDue : Bool := false
  /-- The loop has stopped on a link error or mismatch (R42). -/
  stopped : Bool := false
  /-- The measurement window in use, µs (PACE_CTL.WINDOW applies from the next window). -/
  window : Nat := 10
  /-- The token counts of monitors 0 to 13 in the last window (R431). -/
  tokens : List Nat := []
  deriving DecidableEq, Repr

/-- Thinning (R437, R438): the KEEP computed at the last window end and when it takes effect. -/
structure Thin where
  /-- Computed values that wait, each with the triggers still to come up to its first line (2 at its window end). -/
  queue : List (Nat × Nat) := []
  /-- The device's own KEEP of the last window end (a cascade exchanges it in TIME frames, R545). -/
  own : Nat := 0
  /-- On a cascade, the KEEPs of THIN messages that wait, each with its first line (R545). -/
  cascade : List (Nat × Nat) := []
  deriving DecidableEq, Repr

/-! ## The line sensors (chapter "Driving the line sensors") -/

/-- Group strobes at whole pixel periods from the first (R60), and what CLAMP did before them (R89, mode 2): it rose in
the pixel period before the strobe, and it rose since the strobe before; of the first strobe and of each later one. -/
structure Train where
  first : Nat
  count : Nat
  risen : Bool
  risenRest : Bool
  fresh : Bool
  freshRest : Bool
  deriving DecidableEq, Repr

/-- One sensor group beyond its registers (R54 to R75). -/
structure Group where
  /-- A line period is in progress. -/
  live : Bool := false
  /-- The time base at its line start. -/
  startNs : Nat := 0
  /-- The line whose settings the group runs under. -/
  cfg : Nat := 0
  /-- The line number that JC condition 2 tests. -/
  number : Nat := 0
  priming : Bool := false
  flush : Bool := false
  /-- The line period in progress is within its minimum line period (R19). -/
  inMin : Bool := false
  /-- Pawn executes; false after END, an invalidity or a cut. -/
  runs : Bool := false
  /-- The address to issue next and the instruction fetched for it (R65). -/
  pc : Nat := 0
  ir : Nat := 0
  /-- Control instructions since the last OUT or line start (R64). -/
  controls : Nat := 0
  /-- The four counters (R63). -/
  counters : List Nat := [0, 0, 0, 0]
  /-- The modes of outputs 0 to 9 (R59). -/
  modes : List Nat := [0, 0, 0, 0, 0, 0, 0, 0, 0, 0]
  /-- The pixel period in which the next timed instruction issues. -/
  period : Nat := 0
  /-- The first edge step of the line period whose levels have not been evaluated. -/
  step : Nat := 0
  /-- The levels of PH[0] to PH[7], SMP and CLAMP at the last step evaluated (R54, R60). -/
  ph : List Bool := [false, false, false, false, false, false, false, false]
  smp : Bool := false
  clamp : Bool := false
  /-- Group strobes of the line period, the edge step of the last one, and all of them as trains, oldest first. -/
  strobes : Nat := 0
  lastStrobe : Option Nat := none
  trains : List Train := []
  /-- CLAMP was high in the line period (R89); the step at which it last rose in it; it has risen since the last group
  strobe. -/
  clamped : Bool := false
  clampRise : Option Nat := none
  clampFresh : Bool := false
  /-- The edge step at which the program became invalid in the line period (R95). -/
  badStep : Option Nat := none
  /-- The line period in progress is that of a plausibility line (R100). -/
  plaus : Bool := false
  /-- The line period in progress began in the run that is active (R97, R99). -/
  ran : Bool := false
  /-- The levels of the pins LED[0] and LED[1]. -/
  ledLevels : List Bool := [false, false]
  /-- The program became invalid in the line period: fallback from the next line start (R71). -/
  invalid : Bool := false
  /-- FORCE_FALLBACK was in force at the last line start. -/
  forced : Bool := false
  /-- The exposure that has not been read out: line and trigger time (R56). -/
  unread : Option (Nat × Nat) := none
  /-- The line that the read-out in progress carries, with its trigger time; none in a priming read-out. -/
  reads : Option (Nat × Nat) := none
  /-- The read-out is discarded (R71). -/
  discarded : Bool := false
  /-- The line from which a committed swap takes effect (R68). -/
  swapAt : Option Nat := none
  /-- A trigger has arrived since the last line start (R58). -/
  triggered : Bool := false
  /-- A flush line is due: the run stopped, or a swap or a change to fallback left an exposure unread, or REFCLK
  came back (R58, R420). -/
  flushDue : Bool := false
  /-- The LED strobes: 0 idle, 1 waiting for its start, 2 asserted (R75). -/
  leds : List Nat := [0, 0]
  /-- The high half that PAWN_DATA_LO captured (R67). -/
  capture : Nat := 0
  deriving DecidableEq, Repr

/-- One encoder input beyond its registers (R78 to R82). -/
structure Encoder where
  /-- The accepted levels. -/
  a : Bool := false
  b : Bool := false
  /-- The time of the last accepted edge. -/
  lastEdge : Option Nat := none
  /-- The decoder's record: direction and time of the last count. -/
  lastDir : Int := 0
  lastTime : Nat := 0
  /-- Counts of the last 100 µs, newest first: time and sign. -/
  recent : List (Nat × Int) := []
  deriving DecidableEq, Repr

/-- The line trigger (R81 to R85). -/
structure Trigger where
  /-- The source in use in this run. -/
  src : Nat := 15
  /-- Position and next boundary, signed 32.32. -/
  pos : Int := 0
  next : Int := 0
  /-- The divider in use and the committed value it came from. -/
  div : Nat := 0x100000000
  raw : Option Nat := none
  /-- The next line number to be assigned. -/
  line : Nat := 0
  /-- Boundaries crossed whose LINE_TRIGGER has not come: line and time, oldest first. -/
  owed : List (Nat × Nat) := []
  /-- The time of the scheduled predicted crossing. -/
  predict : Option Nat := none
  /-- The servo period that an axis source interpolates over (R81): its start and length in ns, the position at its start
  and the signed 32.32 counts that the set-point moves in it. -/
  seg : Option (Nat × Nat × Int × Int) := none
  /-- The line whose start is deferred (R85), with its trigger time. -/
  deferred : Option (Nat × Nat) := none
  /-- The line start on its way to the groups (R84). -/
  start : Option (Nat × Nat) := none
  deriving DecidableEq, Repr

/-- What the device records of an assigned line. -/
structure LineInfo where
  /-- The trigger time. -/
  time : Nat := 0
  /-- The line is thinned (R438). -/
  thinned : Bool := false
  /-- Coverage codes of R227 that hold for it: lane (12: the whole output width) and code. -/
  codes : List (Nat × Nat) := []
  deriving DecidableEq, Repr

/-- The two Opal sets that a channel interpolates, and the weight of the second (R137). -/
structure OpalMix where
  low : Nat := 0
  high : Nat := 0
  weight : Int := 0
  deriving DecidableEq, Repr

/-- Settings that a commit replaced (R557): the line it took effect from, the SH fields before it, DEV_GEN before, and
the roles of the Opal images and the channels' weights before an exchange (R144, R146). -/
structure Epoch where
  line : Nat := 0
  force : Store := []
  gen : Nat := 0
  roles : List Nat := []
  /-- The Opal weights of the sets before an installation, and those evaluated with the line starts still to come. -/
  mixes : Option (Table OpalMix × List (Nat × Table OpalMix)) := none
  /-- The overlaps of the weight ramp, and what was written of the weight image in force (R151). -/
  overlaps : Store := []
  weights : Store := []
  deriving DecidableEq, Repr

/-! ## Converters and Castling (chapters "Line converter bank" and "Castling") -/

/-- A trim of one colour: gain (unsigned 1.15) and offset (signed 8.7, codes), R119. -/
structure Trim where
  gain : Nat := 0x8000
  off : Int := 0
  deriving DecidableEq, Repr

/-- The read-out of one channel's pixels in the lane, or of the converter that is only matched (R94, R113). -/
structure Readout where
  /-- Trigger time of the line it carries. -/
  time : Nat := 0
  /-- Made under the fallback pattern (R72). -/
  fb : Bool := false
  /-- The converter that makes the words. -/
  conv : Nat := 0
  /-- The trims in force for it (R119), by colour. -/
  trims : List Trim := []
  /-- The Opal sets and weight in force for the channel; none without a valid slot (R137, R138). -/
  mix : Option OpalMix := none
  /-- Words, newest first: CODE, and OVR in bit 14 (R94). -/
  words : List Nat := []
  /-- The words after stages 1 to 4, newest first: linear value and OVR (R133). -/
  lin : List (Nat × Bool) := []
  /-- The PIXELS-th word of every colour has arrived. -/
  complete : Bool := false
  /-- Discarded (R46, R71, R420). -/
  discarded : Bool := false
  /-- The converter was SUSPECT (R102), or FAILED with its own words carrying the pixels (R107, R127). -/
  suspect : Bool := false
  uncal : Bool := false
  /-- The channel was disabled (R109) or its group was. -/
  disabled : Bool := false
  deriving DecidableEq, Repr

/-- A lane's buffer of one channel and the read-out in progress (R45). -/
structure Buffer where
  /-- Samples the buffer held at the time `since`, and the 1/8,000 sample that the lane had taken beyond them. -/
  level : Nat := 0
  since : Nat := 0
  taken : Nat := 0
  /-- Words converted in this line period. -/
  count : Nat := 0
  /-- The PIXELS-th word of the read-out has been delivered. -/
  complete : Bool := false
  deriving DecidableEq, Repr

/-- One converter beyond its registers. -/
structure Converter where
  /-- The colour inputs and their reference levels held at the last group strobe converted (R89, R91), nV. -/
  held : List Int := [0, 0, 0]
  levels : List Int := [0, 0, 0]
  /-- The clamp levels (R89, mode 0) and the last reset levels (mode 2) by colour, nV. -/
  clamp : List Int := [0, 0, 0]
  reset : List Int := [0, 0, 0]
  /-- The clamp levels of the line period in progress have been taken. -/
  clampTaken : Bool := false
  /-- The diagnostic entry at which the sequence of this quiet interval begins, and entries finished in it (R97). -/
  diagFrom : Nat := 0
  diagDone : Nat := 0
  /-- Slots that forced conversions have taken in this quiet interval. -/
  forcedSlots : Nat := 0
  /-- Sequences run while no run is active (R99). -/
  sequences : Nat := 0
  /-- The input of a pending forced conversion (R103); it was pending as the quiet interval began, whose first slots it
  then takes (R104). -/
  forced : Option Nat := none
  forcedFirst : Bool := false
  /-- Entries that had finished at the last line start and whose results were still to come (R92, R97): entry, the line
  number of its result, and that it converts. -/
  late : List (Nat × Nat × Bool) := []
  /-- CAL_STATUS.STATE before a calibration that may be aborted (R108). -/
  stateBefore : Nat := 0
  /-- DIAG[3] has been written since the last thermal step (R432), and when it was last written (R434). -/
  tempFresh : Bool := false
  tempTime : Nat := 0
  /-- The trims in force by colour, and those evaluated with the line starts still to come (R119). -/
  trims : List Trim := [{}, {}, {}]
  trimsNext : List (Nat × List Trim) := []
  deriving DecidableEq, Repr

/-- A plausibility check (R100, R101). -/
structure Plaus where
  /-- The index of the next level. -/
  next : Nat := 0
  /-- The level on the bus. -/
  level : Nat := 0
  /-- The channels that take part in the check in progress, and their results. -/
  parts : List Nat := []
  results : List (Nat × Nat) := []
  /-- A check is in progress. -/
  active : Bool := false
  /-- The plausibility line is the last line started: a spare without a group still converts the level (R100). -/
  isOpen : Bool := false
  deriving DecidableEq, Repr

/-- Castling beyond its registers (R112 to R125). -/
structure Castling where
  /-- Channel k's frozen trims, and its newly fitted trims that wait for the swap back. -/
  frozen : List Trim := []
  fitted : Option (List Trim) := none
  /-- Read-outs still to settle, and read-outs accumulated in the window (R116). -/
  settle : Nat := 0
  lines : Nat := 0
  /-- n, sx, sy, sxx, sxy, syy by colour. -/
  acc : List (List Int) := [[0, 0, 0, 0, 0, 0], [0, 0, 0, 0, 0, 0], [0, 0, 0, 0, 0, 0]]
  /-- The crosspoint is connected. -/
  connected : Bool := false
  /-- The settings of channel k that the match runs under. -/
  settings : List Nat := []
  /-- A decided swap: back, and the line starts still to come (R115). -/
  swap : Option (Bool × Nat) := none
  /-- The channel of the last swap, whose first read-out since still owes its line number to CAST_SWAP_LINE. -/
  lineOwed : Option Nat := none
  /-- The converter in offline calibration (R118). -/
  offline : Option Nat := none
  /-- Channel k's CAL_STATUS.STATE, WORST fields, stage gains and element choice before the cycle. -/
  before : List Nat := []
  /-- The element choice changed in this cycle (R120). -/
  elemChanged : Bool := false
  /-- An abort waits for the next step boundary of the offline calibration (R125). -/
  aborting : Bool := false
  /-- A forced conversion of the converter in offline calibration is eligible (R118). -/
  eligible : Bool := false
  /-- Channels made pending by the host or by the interval (R122). -/
  host : List Nat := []
  interval : List Nat := []
  /-- Channels passed over: channel and the time until which. -/
  excess : List (Nat × Nat) := []
  deriving DecidableEq, Repr

/-- A lane (R46, R419). -/
structure Lane where
  /-- The rest of the line is discarded (R46). -/
  overrun : Bool := false
  /-- Line starts until the lane resets after a fault (R419). -/
  resetIn : Option Nat := none
  /-- The next output line that the lane has not emitted. -/
  next : Nat := 0
  /-- The oldest line that its alignment history may hold (R419). -/
  histFrom : Nat := 0
  /-- Times of its faults, newest first. -/
  faults : List Nat := []
  deriving DecidableEq, Repr

/-! ## Pixel correction (chapter "Pixel correction, colour-row alignment and stitching") -/

/-- The Opal region and what works on it (R136 to R146, R162). -/
structure Opal where
  /-- Halfwords of the images, by 1,048,576 * physical image + index; an unlisted one holds its reset content. -/
  memory : Store := []
  /-- The physical image in the role of image 0 to 8 (R140). -/
  roles : List Nat := [0, 1, 2, 3, 4, 5, 6, 7, 8]
  /-- The host has written the weight images since reset (R151), and the overlaps of the ramp (16 where unlisted). -/
  weightsOwned : Bool := false
  overlaps : Store := []
  /-- Images that a requested commit locks: staging set, linearisation, weights (R144, R146). -/
  lockSet : Bool := false
  lockLin : Bool := false
  lockWgt : Bool := false
  /-- The aperture's pending writes, oldest first: physical image, byte address, word (R162). -/
  writes : List (Nat × Nat × Nat) := []
  /-- The capture in progress: kind and LINES_LOG, its first line (R141). -/
  kind : Nat := 0
  linesLog : Nat := 0
  start : Nat := 0
  /-- The lines that captures have covered: first line, and the line at which the capture ended (R142). -/
  captures : List (Nat × Option Nat) := []
  /-- The weights in force by channel, and those evaluated with the line starts still to come (R137). -/
  mixes : Table OpalMix := []
  next : List (Nat × Table OpalMix) := []
  deriving DecidableEq, Repr

/-- The gains of one segment (R154). -/
structure PwGain where
  red : Nat := 0x4000
  green : Nat := 0x4000
  blue : Nat := 0x4000
  /-- The gains that stand at a limit (R154). -/
  redLimit : Bool := false
  greenLimit : Bool := false
  blueLimit : Bool := false
  deriving DecidableEq, Repr

/-- A window of paper-white tracking (R154): its first line, the settings it runs under (MODE, GUARD, RATE, LINES, PW_MIN,
the limits and the targets, R164), and that a reset cut it short (R155). -/
structure PwWindow where
  start : Nat := 0
  settings : List Nat := [1, 3, 4, 1024, 4096, 0x3800, 0x4800, 0xE000, 0xE000, 0xE000]
  cut : Bool := false
  deriving DecidableEq, Repr

/-- Paper-white tracking (R153 to R155). -/
structure PaperWhite where
  /-- Gains by segment with the line from which they apply, newest first. -/
  gains : List (Nat × List PwGain) := []
  /-- The windows begun in the run, oldest first, and how many of them have ended with their statistics. -/
  windows : List PwWindow := [{}]
  ended : Nat := 0
  /-- The line of a reset that waits (R155). -/
  resetAt : Option Nat := none
  deriving DecidableEq, Repr

/-- One output pixel (R157) with what later stages learn of it. -/
structure Pixel where
  /-- Stitched values before stage 7. -/
  pre : List Nat := [0, 0, 0]
  /-- Native pixel: red, green, blue. -/
  rgb : List Nat := [0, 0, 0]
  /-- CLIP 1, FB 2, NOSET 4, SINGLE 8. -/
  flags : Nat := 0
  /-- It lies in a joint. -/
  joint : Bool := false
  /-- Its coverage code (R227), 0 where it is compared. -/
  code : Nat := 0
  deriving DecidableEq, Repr

/-- A reference token (R171). -/
structure Token where
  rgb : List Nat := [0, 0, 0]
  cls : Nat := 0
  dc : Bool := false
  paper : Bool := false
  absent : Bool := false
  deriving DecidableEq, Repr

/-- An output line of a lane (R158). -/
structure OutLine where
  /-- The first x. -/
  first : Nat := 0
  time : Nat := 0
  gen : Nat := 0
  incomplete : Bool := false
  capture : Bool := false
  pixels : List Pixel := []
  /-- The reference tokens of its pixels (R171), and whether some job covers the line. -/
  tokens : List Token := []
  covered : Bool := false
  /-- Every reference line covering q - 34 to q + 35 was present when the line reached the search (R190). -/
  searchable : Bool := false
  deriving DecidableEq, Repr

/-- The pixels of a cascade joint as the eastern device sent them (R545): O, and colours with flags. -/
structure JointPart where
  overlap : Nat := 0
  pixels : List (List Nat × Nat) := []
  deriving DecidableEq, Repr

/-! ## Reference feed (chapter "Reference feed and window") -/

/-- A job (R165 to R167) with the reference lines written for it. -/
structure Job where
  /-- The number of the job since reset. -/
  id : Nat := 0
  tag : Nat := 0
  format : Nat := 1
  rx : Nat := 0
  ry : Nat := 0
  x0 : Int := 0
  y0 : Nat := 0
  width : Nat := 78352
  /-- The first scan line that it covers, and the changeover line that ends it. -/
  start : Nat := 0
  stop : Option Nat := none
  /-- The bytes of the reference lines written, by v. -/
  lines : Table (List Nat) := []
  /-- The first reference line that has not been judged at its due instant (R178). -/
  judged : Nat := 0
  deriving DecidableEq, Repr

/-- The reference feed beyond its registers. -/
structure Reference where
  /-- The jobs of the run, oldest first; the last is the job in force. -/
  jobs : List Job := []
  /-- The pending job and its changeover line. -/
  pend : Option Job := none
  change : Nat := 0
  /-- The number of the next job. -/
  nextId : Nat := 0
  /-- The compare front y_c. -/
  front : Nat := 0
  deriving DecidableEq, Repr

/-! ## Registration (chapter "Predictive elastic registration") -/

/-- A decided tile (R193 to R195): displacement, CONF, STATE, accepted. -/
structure Tile where
  dx : Int := 0
  dy : Int := 0
  conf : Nat := 0
  state : Nat := 3
  accepted : Bool := false
  deriving DecidableEq, Repr

/-- A tile row whose every tile is decided and filled. -/
structure TileRow where
  /-- The job's number, the row, the tile size code and the first column. -/
  job : Nat := 0
  row : Nat := 0
  tile : Nat := 1
  col0 : Nat := 0
  tiles : List Tile := []
  /-- The output line from which it is available. -/
  avail : Nat := 0
  qualified : Bool := false
  deriving DecidableEq, Repr

/-- What holds of registration from a line on (R199): the line; registration runs (false: idle); the line at which tracking
began; the tile size code in force (R202). -/
structure RegEntry where
  line : Nat := 0
  active : Bool := false
  track : Option Nat := none
  tile : Nat := 1
  deriving DecidableEq, Repr

/-- Registration beyond its registers. -/
structure Registration where
  /-- The row being decided: job, row and tile size code; and its tiles by column. -/
  current : Option (Nat × Nat × Nat) := none
  tiles : Table Tile := []
  /-- Rows decided and filled that are not yet available, oldest first, and rows available, newest first. -/
  ready : List TileRow := []
  rows : List TileRow := []
  /-- The first line that tiles accumulate. -/
  from_ : Nat := 0
  /-- From which line what holds, newest first. -/
  history : List RegEntry := []
  deriving DecidableEq, Repr

/-! ## Comparison and items (chapter "Comparison, defects and items") -/

/-- A label fragment: its lane, its runs in the line before and in the line being labelled (R214). -/
structure Frag where
  lane : Nat := 0
  /-- It is of the trace of a SPLIT blob, without a run of the blob that continues it (R215). -/
  trace : Bool := false
  prev : List (Nat × Nat) := []
  cur : List (Nat × Nat) := []
  deriving DecidableEq, Repr

/-- A fragment of a neighbour that a blob is joined with (R545). -/
structure Remote where
  side : Nat := 0
  id : Nat := 0
  /-- Its newest line at the boundary, and its first pixel in raster order so far. -/
  last : Nat := 0
  firstY : Nat := 0
  firstX : Nat := 0
  /-- Its BLOB_PART has arrived. -/
  done : Bool := false
  deriving DecidableEq, Repr

/-- A run that touches the boundary, as a neighbour's FRAGMENT tells it: ends, fragment number, first pixel of the
fragment in raster order (assumption log 60). -/
structure FragRun where
  x0 : Nat := 0
  x1 : Nat := 0
  id : Nat := 0
  firstY : Nat := 0
  firstX : Nat := 0
  deriving DecidableEq, Repr

/-- An open blob (R214 to R217). -/
structure Blob where
  first : Nat := 0
  last : Nat := 0
  /-- x of its first pixel in raster order. -/
  firstX : Nat := 0
  xMin : Nat := 0
  xMax : Nat := 0
  area : Nat := 0
  sumDist : Nat := 0
  sumX : Nat := 0
  sumY : Nat := 0
  peak : Nat := 0
  peakX : Nat := 0
  peakY : Nat := 0
  peakClass : Nat := 0
  clip : Bool := false
  single : Bool := false
  lanes : Bool := false
  devices : Bool := false
  border : Bool := false
  cont : Bool := false
  chain : Nat := 0
  frags : List Frag := []
  /-- Serial numbers of the items that its pixels reach. -/
  items : List Nat := []
  /-- Crop buffers that wait for it. -/
  crops : List Nat := []
  /-- It is only the trace of a SPLIT blob, whose runs in the next line continue it (R215). -/
  ghost : Bool := false
  /-- Sides of the device and lines at which its pixels touch the device's boundary (R545): side 0 west, 1 east. -/
  touch : List (Nat × Nat) := []
  /-- The fragments of neighbours that it is joined with, and the numbers under which neighbours know its own. -/
  remotes : List Remote := []
  ids : List Nat := []
  deriving DecidableEq, Repr

/-- A closed blob whose record has not been staged. -/
structure ClosedBlob where
  /-- The item that its peak lies in; none in the gutter. -/
  item : Option Nat := none
  queue : Nat := 0
  words : List Nat := []
  deriving DecidableEq, Repr

/-- An open item (R219, R222). -/
structure Item where
  /-- Grid row, column and ID; the grid's serial number and the repeat. -/
  grid : Nat := 0
  rep : Nat := 0
  row : Nat := 0
  col : Nat := 0
  id : Nat := 0
  first : Nat := 0
  last : Nat := 0
  x0 : Nat := 0
  x1 : Nat := 0
  /-- The item table entry in force at its first line (R221). -/
  queue : Nat := 0
  valid : Bool := false
  blobsOn : Bool := false
  compared : Nat := 0
  uninsp : Nat := 0
  dontcare : Nat := 0
  reasons : Store := []
  blobs : Nat := 0
  failing : Nat := 0
  worstArea : Nat := 0
  worstPeak : Nat := 0
  /-- Blob records of the item dropped (R225). -/
  dropped : Nat := 0
  seq : Nat := 0
  truncated : Bool := false
  /-- Its area lies wholly on other devices: known for blobs whose peak lies there (R217). -/
  foreign : Bool := false
  gens : List Nat := []
  faultLoss : Bool := false
  devices : Bool := false
  /-- Parts received from other devices, and the parts that the verdict waits for (R230). -/
  parts : Nat := 0
  /-- No further line will be counted. -/
  ended : Bool := false
  deriving DecidableEq, Repr

/-- A coverage record (R228). -/
structure CovRecord where
  code : Nat := 0
  merged : Bool := false
  x0 : Nat := 0
  x1 : Nat := 0
  first : Nat := 0
  last : Nat := 0
  gen : Nat := 0
  /-- COV_Q as it stood for its last line, once it has closed. -/
  queue : Nat := 0
  deriving DecidableEq, Repr

/-- What chapter 9 keeps beyond its registers. -/
structure Compare where
  /-- The next line for the labeller. -/
  next : Nat := 0
  blobs : List Blob := []
  closed : List ClosedBlob := []
  /-- The next CHAIN number, and SEQ of gutter blobs. -/
  chain : Nat := 0
  gutterSeq : Nat := 0
  /-- Open items by their serial number, and the next serial number. -/
  items : Table Item := []
  nextItem : Nat := 0
  /-- The number of grid changes, and the line from which the grid in force holds. -/
  grid : Nat := 0
  gridFrom : Nat := 0
  /-- Open coverage records; closed ones that wait to be staged; the lines of the backlog. -/
  cover : List CovRecord := []
  coverClosed : List CovRecord := []
  backlog : Option (Nat × Nat) := none
  /-- Backlog records of runs that have ended, which still wait for a slot (R229). -/
  coverLeft : List CovRecord := []
  /-- The runs of the newest labelled line that found the table full (R216). -/
  excess : List (Nat × Nat) := []
  /-- Verdicts dropped since the last one written, by queue (R225). -/
  lost : Store := []
  /-- Boundary columns received, by 2 * line + side (0 west, 1 east): d and compared, two columns (R213, R545). -/
  edges : Table (List (Bool × Bool)) := []
  /-- Boundary runs received, in the same form of index (R214, R545). -/
  fragRuns : Table (List FragRun) := []
  /-- Item parts received for items that are not open here: ID and counts (R545). -/
  itemParts : List (List Nat) := []
  deriving DecidableEq, Repr

/-! ## Measurement products (chapter "Measurements, previews and crops") -/

/-- A crop buffer in use (R252 to R255). -/
structure Crop where
  x0 : Nat := 0
  y0 : Nat := 0
  width : Nat := 128
  height : Nat := 128
  clipped : Bool := false
  format : Nat := 0
  failOnly : Bool := true
  /-- What the closed blob gave: CHAIN, ITEM_ID, first line, CLASS, failing. -/
  result : Option (List Nat) := none
  /-- The run stopped: lines held are those before this one (R257). -/
  cut : Option Nat := none
  deriving DecidableEq, Repr

/-- What chapter 10 keeps beyond its registers. -/
structure Products where
  /-- Tokens of the crop rate limiter (R252). -/
  tokens : Nat := 8
  crops : Table Crop := []
  /-- The preview: base line, the next preview line, lines lost since the previous record (R249, R251). -/
  prevBase : Nat := 0
  prevIndex : Nat := 0
  prevLost : Nat := 0
  /-- The line from which the next patch of an entry, the next mark of an entry, may begin. -/
  patchFrom : Store := []
  markFrom : Store := []
  /-- After a run stop: the first line that the lanes had not emitted (R257). -/
  stopAt : Option Nat := none
  deriving DecidableEq, Repr

/-! ## Beryl (chapter "Beryl thermal imaging") -/

/-- A row of the frame in progress: its mid-exposure line in 1/16 (none: unmapped), EXTRAP, the samples by column: code,
clipped. -/
structure BrRow where
  y16 : Option Int := none
  extrap : Bool := false
  samples : List (Nat × Bool) := []
  deriving DecidableEq, Repr

/-- A frame in progress (R263 to R267). -/
structure BrFrame where
  time : Nat := 0
  gen : Nat := 0
  /-- It started as a shutter frame; in CLOSED; in OPENING after the axis reported at OPEN_POS (R277). -/
  shutter : Bool := false
  inClosed : Bool := false
  opened : Bool := false
  /-- Ta of the frame, once its first LSYNC has come, and whether BR_TA was VALID then (R266). -/
  ta : Option Int := none
  taValid : Bool := false
  /-- The shutter temperature read for it, if current (R274). -/
  tsh : Option Int := none
  /-- Newest first. -/
  rows : List BrRow := []
  deriving DecidableEq, Repr

/-- An open thermal item (R282, R283). -/
structure BrItem where
  id : Nat := 0
  first : Nat := 0
  last : Nat := 0
  queue : Nat := 0
  trunc : Bool := false
  frames : Nat := 0
  count : Nat := 0
  sum : Int := 0
  squares : Nat := 0
  tMin : Int := 0
  tMax : Int := 0
  maxX : Nat := 0
  maxY : Nat := 0
  hot : Nat := 0
  cold : Nat := 0
  drift : Bool := false
  stale : Bool := false
  extrap : Bool := false
  range : Bool := false
  clip : Bool := false
  gens : List Nat := []
  deriving DecidableEq, Repr

/-- A Beryl port beyond its registers. -/
structure BrPort where
  frame : Option BrFrame := none
  /-- The SH fields of the page under which the frame runs (R267). -/
  settings : Store := []
  /-- EN as it took effect at the newest FSYNC, and COLS, ROWS, INTERLEAVE, BASE, GSETS as they took effect at its last
  change to 1 (R267). -/
  en : Bool := false
  geom : List Nat := [640, 480, 1, 0, 0]
  /-- Rows since the newest FSYNC; none before the first one since the enabling. -/
  lsyncs : Option Nat := none
  /-- Since the enabling: a pass has occurred; the shutter was confirmed open.  The last attempt did not pass. -/
  passed : Bool := false
  confirmed : Bool := false
  failed : Bool := false
  /-- No FSYNC for TIMEOUT_MS. -/
  silent : Bool := false
  /-- When the recalibration became due, and until when the hold-off of R275 lasts. -/
  due : Option Nat := none
  retry : Nat := 0
  /-- The position last commanded to the axis; in OPENING: the axis has reported at OPEN_POS. -/
  position : Int := 0
  reported : Bool := false
  /-- Settling frames, accumulated frames, and the sums over them. -/
  settled : Nat := 0
  summed : Nat := 0
  acc : List Nat := []
  taSum : Int := 0
  tsh : List Int := []
  lastTsh : Option Int := none
  /-- Ta has been refreshed since the last FSYNC. -/
  taFresh : Bool := false
  /-- The port's own serial read is under way or waits; a host transaction waits (R265). -/
  tempBusy : Bool := false
  tempWaits : Bool := false
  hostWaits : Bool := false
  items : List BrItem := []
  /-- Items, not open, of which a clipped pixel was left out (R271). -/
  clipped : List BrItem := []
  /-- The radiance table. -/
  rad : Store := []
  deriving DecidableEq, Repr

/-- What chapter 11 keeps beyond its registers. -/
structure Beryl where
  ports : Table BrPort := []
  /-- Halfwords of the table pool, by 2,048 * block + index; an unwritten one holds its entry's reset content (R269). -/
  pool : Store := []
  /-- The snapshot requested: port and kind; the snapshot buffer by pixel. -/
  snapReq : Option (Nat × Nat) := none
  snap : List Nat := []
  /-- Video converters in mode 1: 1 waits for its frame, 2 in its frame; 0 holds. -/
  arm : Store := []
  deriving DecidableEq, Repr

/-! ## Precision front end (chapter "Precision front end") -/

/-- A conversion of the scan in progress: its code, whether it clipped, its result time (R296, R298). -/
structure PfeCode where
  code : Int := 0
  clipped : Bool := false
  time : Nat := 0
  deriving DecidableEq, Repr

/-- What drives a crosspoint pin during the step in progress (R293 to R295). -/
structure PfeDrive where
  pin : Nat := 0
  /-- 0 current source S0, 1 current source S1, 2 the bias, 3 the burn-out current. -/
  source : Nat := 0
  /-- The nominal current in nA; of the bias, VBIAS in mV. -/
  level : Nat := 0
  deriving DecidableEq, Repr

/-- What chapter 12 keeps beyond its registers. -/
structure Pfe where
  /-- What drives the crosspoint pins: from the start of a step's settling to the end of its window (R294, R295). -/
  drives : List PfeDrive := []
  /-- The SH fields of page 0x0240 under which scans run (R312). -/
  settings : Store := []
  /-- A trigger is held (R299). -/
  held : Bool := false
  /-- The conversions of the scan in progress by slot, and the codes of its check step once that has ended. -/
  codes : Table PfeCode := []
  check : Option (Int × Int) := none
  /-- The whole result times by slot. -/
  times : Store := []
  /-- The pairs in disagreement (R308). -/
  disagree : List Nat := []
  deriving DecidableEq, Repr

/-! ## Motion (chapter "Motion") -/

/-- A command of an axis that waits for its servo-period boundary (R326). -/
inductive AxisCommand where
  | target (v : Int)
  /-- V, A, J, A_s, J_s after a limit write. -/
  | limits (l : List Nat)
  | stop | resume | home | clear (mine : Bool) | zero | abort
  /-- The controlled stop that follows the home switch (R333). -/
  | homeStop
  /-- The axis's lease is revoked (R334, code 4). -/
  | revoke
  deriving DecidableEq, Repr

/-- What follows the rest of a controlled stop: HELD; STANDSTILL, homed or not; FAULT with a code. -/
inductive AfterStop where
  | held | homed | unhomed | fault (code : Nat)
  deriving DecidableEq, Repr

/-- The samples of a servo period (R330): their number, sums of IA, IB, VA, VB, VM and of the two references (binary64
patterns), and the first and last currents. -/
structure AxisSamples where
  n : Nat := 0
  sums : List Int := [0, 0, 0, 0, 0]
  refs : List Nat := [0, 0]
  first : List Int := [0, 0]
  last : List Int := [0, 0]
  deriving DecidableEq, Repr

/-- The fields of an axis page that act between servo boundaries, as the last boundary took them: MOT_CTL.HOLD and
DIR_INV, MOT_PWM.KHZ, MOT_CUR, MOT_SCALE and MOT_LOOP. -/
structure AxisFields where
  hold : Nat := 1
  reversed : Bool := false
  khz : Nat := 40
  runMa : Nat := 500
  holdMa : Nat := 250
  iFsMa : Nat := 2000
  vFsMv : Nat := 48000
  kp : Nat := 0x83
  ki : Nat := 0x83
  deriving DecidableEq, Repr

/-- An axis beyond its registers (R323 to R336). -/
structure Axis where
  /-- The page's fields in effect (chapter "Motion": a field takes effect at the next servo-period boundary). -/
  fields : AxisFields := {}
  /-- The set-point, the one before it, and the time of the boundary that emitted it. -/
  set : Int := 0
  before : Int := 0
  emitted : Nat := 0
  target : Int := 0
  /-- The motion at the start of the pieces in force (96 fraction bits: position, velocity, acceleration), the pieces
  (duration, jerk) still to run, and the exact end of a move. -/
  p : Int := 0
  v : Int := 0
  a : Int := 0
  pieces : List (Int × Int) := []
  goal : Option Int := none
  /-- V, A, J, A_s, J_s in force. -/
  limits : List Nat := [256000, 10000, 200000, 20000, 400000]
  waiting : List (Nat × AxisCommand) := []
  after : AfterStop := .held
  /-- HOMING: the set-point at its start; a controlled stop of it has begun. -/
  homeFrom : Int := 0
  homeStop : Bool := false
  /-- The levels of MOT[a]_HOME and of MOT[a]_FLT_N. -/
  home : Bool := false
  fltN : Bool := true
  /-- The standstill mode applies (R329). -/
  standby : Bool := false
  /-- integ of the windings, binary64. -/
  integ : List Nat := [0, 0]
  /-- Consecutive PWM periods with IA or IB clipped; the last scan's currents were unclipped. -/
  clipped : Nat := 0
  clean : Bool := false
  samples : AxisSamples := {}
  /-- Consecutive servo periods of the two stall tests (R331). -/
  stall : Nat := 0
  stallEmf : Nat := 0
  deriving DecidableEq, Repr

/-! ## Queues, the context cache and the DMA engine (chapters "Host interface …" and "DMA engine …") -/

/-- A descriptor that has been begun and has not completed (R362). -/
structure Begun where
  /-- Its ring index. -/
  index : Nat := 0
  words : List Nat := []
  deriving DecidableEq, Repr

/-- A completion that has fallen due and waits for its completion queue (R358, R367). -/
structure Completion where
  words : List Nat := []
  status : Nat := 0
  detail0 : Nat := 0
  detail1 : Nat := 0
  time : Nat := 0
  deriving DecidableEq, Repr

/-- A queue whose context is in the cache (R356, R372). -/
structure Queue where
  /-- The host's eight words of the context. -/
  host : List Nat := []
  /-- The device-owned fields. -/
  prod : Nat := 0
  cons : Nat := 0
  expSeq : Nat := 0
  state : Nat := 0
  fault : Nat := 0
  stale : Nat := 0
  dup : Nat := 0
  /-- The descriptor at the head that has passed the checks of R363 and R366 and has not begun. -/
  head : Option (List Nat) := none
  /-- The head is an early REF_LINES descriptor that waits (R180). -/
  early : Bool := false
  /-- Descriptors begun, oldest first. -/
  begun : List Begun := []
  /-- Completions that wait for the completion queue, oldest first. -/
  due : List Completion := []
  /-- Entries written, or descriptors begun, that no write-back covers yet, and the interrupt events owed with them. -/
  unpublished : Nat := 0
  events : Nat := 0
  /-- The QADM operation (1 DISABLE, 4 RESET) that ends when no begun descriptor is left; 17: the cache entry holds an
  uncorrectable error and is invalidated then (R415). -/
  ending : Option Nat := none
  /-- The pin limit refused this queue (R373). -/
  pinRefused : Bool := false
  /-- The cache's clock at the last use. -/
  used : Nat := 0
  deriving DecidableEq, Repr

/-- A record in staging: its queue, its kind (0 blob, 1 verdict, 2 coverage, 3 thermal item, 4 thermal region, 5 patch,
6 mark, 7 field, 8 preview, 9 crop), its words, the item it belongs to and the Beryl port it comes from. -/
structure Staged where
  queue : Nat := 0
  kind : Nat := 0
  words : List Nat := []
  /-- The item of a blob record or verdict; none in the gutter. -/
  item : Option Nat := none
  port : Nat := 0
  deriving DecidableEq, Repr

/-- A burst in flight (R389): its first element, its elements, and whether its read failed and waits for a retry. -/
structure Burst where
  /-- Its first byte, in the order in which the elements are moved, and how many it has. -/
  first : Nat := 0
  count : Nat := 0
  failed : Bool := false
  /-- Retries of its read so far. -/
  tries : Nat := 0
  /-- The bytes that its read returned, while an earlier burst is still out. -/
  data : Option (List Nat) := none
  deriving DecidableEq, Repr

/-- A transfer of a channel (R385, R392). -/
structure Xfer where
  /-- The queue and the ring index of its descriptor. -/
  queue : Nat := 0
  index : Nat := 0
  words : List Nat := []
  /-- The payload transfer of a REF_LINES descriptor. -/
  payload : Bool := false
  /-- Element size in bytes, loop counts, base addresses. -/
  esize : Nat := 1
  n0 : Nat := 1
  n1 : Nat := 1
  n2 : Nat := 1
  src : Nat := 0
  dst : Nat := 0
  linear : Bool := false
  swapB : Bool := false
  swapH : Bool := false
  native : Bool := false
  /-- The steps read when the transfer began. -/
  srcStep : List Int := []
  dstStep : List Int := []
  /-- The ranges overlap: one element in flight (R395). -/
  serial : Bool := false
  /-- Bytes granted to bursts, and elements whose writes were issued. -/
  granted : Nat := 0
  issued : Nat := 0
  /-- Bursts in flight, oldest first. -/
  bursts : List Burst := []
  retries : Nat := 0
  /-- Elements issued up to the last successful trailing read, and the trailing read is outstanding (R391, R393). -/
  trailing : Bool := false
  trailed : Bool := false
  /-- Retries of the trailing read so far, and whether it failed and waits for a retry. -/
  trailTries : Nat := 0
  trailFailed : Bool := false
  /-- The host writes that a retry of native completion issues again, oldest first: address and bytes (R391). -/
  writes : List (Nat × List Nat) := []
  /-- The transfer stops: its status. -/
  stop : Option Nat := none
  /-- The bytes read of an element that a burst's end has cut. -/
  carry : List Nat := []
  /-- Payload bytes received. -/
  data : List Nat := []
  deriving DecidableEq, Repr

/-- A DMA channel beyond its registers. -/
structure Channel where
  current : Option Xfer := none
  waiting : List Xfer := []
  deriving DecidableEq, Repr

/-- A tenant reset in progress (R346): the tenant becomes ABSENT, TENANT_DOWN is to be raised, and the HELLO that is
answered after it. -/
structure TenantReset where
  absent : Bool := false
  down : Bool := false
  hello : Option (List Nat) := none
  deriving DecidableEq, Repr

/-- The queue machinery beyond the contexts. -/
structure Freuri where
  /-- The cached contexts by global queue number. -/
  queues : Table Queue := []
  /-- STATE of queues that are not DISABLED and whose context is not cached. -/
  parked : Store := []
  /-- FAULT codes that the device keeps for those (R415). -/
  parkedFault : Store := []
  /-- Loads in progress, and loads that wait for an entry (R372). -/
  loads : List Nat := []
  stalled : List Nat := []
  /-- Doorbells held for a load: queue and value, oldest first. -/
  doorbells : List (Nat × Nat) := []
  /-- Notices held for a load: queue and words. -/
  notices : List (Nat × List Nat) := []
  /-- The cache's clock. -/
  clock : Nat := 0
  /-- Records in staging, oldest first. -/
  staged : List Staged := []
  /-- Queues whose ENABLE waits for a cache entry. -/
  enabling : List Nat := []
  /-- Tenant resets in progress, by tenant. -/
  resets : Table TenantReset := []
  /-- Leases: time of expiry and TIMEOUT_MS by lease index (R352). -/
  leaseEnd : Store := []
  leaseMs : Store := []
  /-- Leases whose holder faulted or was reset, to be revoked (R418). -/
  revoking : List Nat := []
  /-- One more than the time of the tenant's last lease expiry (R352). -/
  expired : Store := []
  deriving DecidableEq, Repr

/-- The DMA engine. -/
structure Dma where
  channels : Table Channel := []
  /-- The channel granted last at each priority (R389). -/
  last : Store := []
  /-- Token buckets by 4 * tenant + resource (0 HOST_IN, 1 HOST_OUT, 2 PIXEL): thousandths of a byte still missing to the
  depth of 64 KiB, and the time of the last refill (R445). -/
  used : Store := []
  refilled : Store := []
  deriving DecidableEq, Repr

/-! ## Faults and power domains (chapter "Faults, resets and power domains") -/

/-- What chapter 16 keeps beyond its registers. -/
structure Faults where
  /-- The thermal shutdown state (R422, R441). -/
  shutdown : Bool := false
  /-- In power-on reset, after a supply fell (R580). -/
  held : Bool := false
  /-- Drains in progress: time of entry by domain (R424). -/
  drains : Store := []
  /-- The straps as sampled (R576): leader, PMBus link, two-wire address bits. -/
  strapLead : Bool := false
  strapLink : Bool := false
  strapAddr : Nat := 0
  deriving DecidableEq, Repr


/-! ## The thermal model and capacity (chapter "Capacity, admission and thermal control") -/

/-- The thermal model (R431 to R434) and the power monitors' samples (R461, R462). -/
structure Thermal where
  /-- Node temperatures 0 to 15 in °C, binary64; none before the first step. -/
  temps : List Nat := []
  /-- Consecutive steps in which every monitor reported, at most 10. -/
  good : Nat := 0
  /-- Consecutive steps in which a monitor has failed to report, by monitor. -/
  missed : Store := []
  /-- Samples of this step by monitor: how many, and the sums of mV, mA and µW. -/
  samples : Store := []
  volts : Store := []
  amps : Store := []
  power : Store := []
  /-- Consecutive samples outside V_LO to V_HI, by monitor (R462). -/
  outside : Store := []
  deriving DecidableEq, Repr

/-- Capacity levels and allowances (R446), resources 0 HOST_IN, 1 HOST_OUT, 2 PIXEL. -/
structure Capacity where
  /-- Evaluations without a shortfall since the level last changed or a shortfall ended. -/
  clear : Nat := 0
  /-- Resources in shortfall at the last evaluation. -/
  short : List Nat := []
  /-- One more than the allowance, by 4 * tenant + resource; absent: the reservation holds. -/
  allow : Store := []
  deriving DecidableEq, Repr
/-! ## Management (chapter "Management subsystem") -/

/-- A copy of the boot record (R469, R472): its write count, whether its CRC holds, the confirmed bank (0 A, 1 B), the
trial bank and whether it was attempted. -/
structure BootCopy where
  count : Nat := 0
  valid : Bool := false
  confirmed : Nat := 0
  trial : Option Nat := none
  attempted : Bool := false
  deriving DecidableEq, Repr

/-- The serial flash (R469) but for the log mirror: the bytes programmed into each bank since it was erased. -/
structure Flash where
  fitted : Bool := false
  bankA : List Nat := []
  bankB : List Nat := []
  copyA : BootCopy := {}
  copyB : BootCopy := {}
  deriving DecidableEq, Repr

/-- A write of a mailbox word that not every agent sees yet (R460): its agent, the time at which it becomes visible, and
the write. -/
structure MailboxStore where
  agent : Nat
  due : Nat
  page : Nat
  offset : Nat
  be : Nat
  value : Nat
  deriving DecidableEq, Repr

/-- What chapter 18 keeps beyond its registers. -/
structure Mgmt where
  /-- The management firmware runs; the recovery ROM runs (R472). -/
  running : Bool := false
  recovery : Bool := false
  /-- The boot ROM has still to start firmware after the last reset. -/
  bootDue : Bool := true
  /-- Replies that management has ready for a mailbox, by tenant (R458). -/
  replies : Table (List Nat) := []
  /-- Requests as management copied them, by tenant. -/
  requests : Table (List Nat) := []
  /-- Mailbox writes that are not visible to every agent yet, oldest first (R460). -/
  stores : List MailboxStore := []
  /-- Signing keys whose fuse is blown, bit by KEY_ID (R470). -/
  revoked : Nat := 0
  flash : Flash := {}
  /-- Image bytes that wait for the flash, oldest first, and the bank that they go to (R475). -/
  buffer : List Nat := []
  target : Nat := 0
  /-- The selected log entry is still to be fetched (R466). -/
  logWanted : Bool := false
  deriving DecidableEq, Repr

/-! ## Service ports (chapter "Service ports") -/

/-- A log stream on endpoint 1 (R486): the next SEQ to look at, from the mirror, FOLLOW. -/
structure LogStream where
  seq : Nat
  mirror : Bool
  follow : Bool
  deriving DecidableEq, Repr

/-- What the USB port keeps beyond its registers and its event messages (R482 to R488). -/
structure UsbPort where
  /-- VBUS is present. -/
  vbus : Bool := false
  /-- The state before SUSPENDED, coded as USB_STATUS.STATE. -/
  prior : Nat := 0
  /-- The halted endpoints, bit by number. -/
  halts : Nat := 0
  stream : Option LogStream := none
  /-- An Onyx frame has been passed on and its reply not yet read in full; the reply on endpoint 3. -/
  onyxBusy : Bool := false
  onyxReply : Option (List Nat) := none
  /-- A test mode that SET_FEATURE(TEST_MODE) has selected. -/
  testMode : Option Nat := none
  deriving DecidableEq, Repr

/-- The two-wire target port (R494 to R498). -/
structure TwoWireTarget where
  /-- The pointer that the last transaction left. -/
  pointer : Nat := 0
  /-- The time until which the bytes of a write transaction are being applied (R497). -/
  busyUntil : Nat := 0
  deriving DecidableEq, Repr

/-- A controller transfer (R499): address, bytes to write, bytes to read. -/
structure TwcTransfer where
  address : Nat
  write : List Nat
  readLength : Nat
  deriving DecidableEq, Repr

/-- The two-wire controller (R499 to R502). -/
structure TwoWireController where
  /-- The core-voltage loop waits for the controller (R502). -/
  loopWaits : Bool := false
  /-- The host's transfer, its losses of arbitration so far. -/
  host : Option TwcTransfer := none
  losses : Nat := 0
  /-- The bus is stuck until a recovery succeeds (R501). -/
  stuck : Bool := false
  /-- A device reset cut a transfer off, so that a recovery runs at the first GO (R503). -/
  cutOff : Bool := false
  /-- TWC_CTL.EN was written 0 during the transfer (R503). -/
  refused : Bool := false
  deriving DecidableEq, Repr

/-! ## Onyx (chapter "Onyx legal metering partition") -/

/-- The states of R516. -/
inductive OnyxState where
  | unconfigured | metering | fault | overtemp
  deriving DecidableEq, Repr

/-- Onyx's supply (R510): never started since manufacture, operating, retention. -/
inductive OnyxPower where
  | never | operating | retention
  deriving DecidableEq, Repr

/-- An audit entry (R521). -/
structure AuditEntry where
  seq : Nat
  event : Nat
  sec : Nat
  kind : Nat
  param : Nat
  old : Nat
  new : Nat
  total : Nat
  check : Nat
  deriving DecidableEq, Repr

/-- One wheel (R512, R513): odometer, remainder, quadrature errors, the advance in the present window, and the moves
of the last 100 ms with the time of Onyx's clock. -/
structure Wheel where
  /-- The accepted levels of MW_A and MW_B. -/
  a : Bool := false
  b : Bool := false
  n : Int := 0
  r : Int := 0
  qerr : Nat := 0
  advance : Int := 0
  moves : List (Nat × Int) := []
  deriving DecidableEq, Repr

/-- The job record of the job that ended last (R524). -/
structure JobRecord where
  number : Nat := 0
  start : Int := 0
  stop : Int := 0
  sec : Nat := 0
  deriving DecidableEq, Repr

/-- Onyx: its own memory, which nothing else on the die reads or writes but through R508. -/
structure Onyx where
  power : OnyxPower := .never
  /-- Cold-start fuses blown, at most 32 (R511). -/
  coldStarts : Nat := 0
  /-- Onyx's own clock, in its ns since the cold start (R511). -/
  clock : Nat := 0
  /-- Legally relevant parameters in force by ID, 0 where unlisted (R517), and the staged ones (R518). -/
  params : Store := []
  staged : Table Nat := []
  release : Option Nat := none
  wheel0 : Wheel := {}
  wheel1 : Wheel := {}
  /-- H and U of R514, and the mark of R524. -/
  h : Int := 0
  u : Int := 0
  mark : Int := 0
  jobNo : Nat := 0
  lastJob : JobRecord := {}
  state : OnyxState := .unconfigured
  /-- The state before OVERTEMP. -/
  before : OnyxState := .unconfigured
  /-- Unmetered length as FAULT and as OVERTEMP began (R522). -/
  faultStart : Int := 0
  tempStart : Int := 0
  /-- A quadrature error fell in the present window (R512). -/
  windowError : Bool := false
  /-- Consecutive windows judged alike since the state was entered: how many, and whether they agree (R516). -/
  streak : Nat := 0
  streakAgrees : Bool := false
  lastA0 : Int := 0
  lastA1 : Int := 0
  windows : Nat := 0
  disagrees : Nat := 0
  /-- The event counter (R520). -/
  event : Nat := 0
  /-- The newest 1,024 entries, newest first; the next SEQ; the released limit; entries lost (R521, R523). -/
  audit : List AuditEntry := []
  head : Nat := 0
  released : Nat := 0
  overflow : Nat := 0
  /-- The last press kept its parameter stages for want of space (R518). -/
  kept : Bool := false
  /-- MSEAL_N is low after filtering (R519). -/
  switch : Bool := false
  /-- ONX_SEC as retention began (R522). -/
  gapSec : Nat := 0
  /-- The temperature, signed 7.8, and VDD_ONYX in mV, as last measured. -/
  temp : Nat := 0
  vddMv : Nat := 0
  /-- Pushes made, entries not pushed yet (oldest first), and the place in the rotation (R528). -/
  pushes : Nat := 0
  unpushed : List AuditEntry := []
  rotation : Nat := 0
  /-- The command frame that Onyx works on, and its reply (R525). -/
  frame : Option (List Nat) := none
  reply : Option (List Nat) := none
  deriving DecidableEq, Repr


/-! ## The cascade (chapter "Ikito cascade") -/

/-- What is known of a device of the chain (R537): its ENUM and its last STATE. -/
structure IkDevice where
  offer : Nat := 1
  width : Nat := 0
  overlap : Nat := 0
  src : Nat := 15
  lead : Bool := false
  digest : List Nat := []
  run : Bool := false
  gen : Nat := 0
  keep : Nat := 0x1000
  pause : Bool := false
  deriving DecidableEq, Repr

/-- The fields of R543 that a cascade commit holds (R544): captured fields, the digest that would result, and the line
the leader has fixed. -/
structure CascadeCommit where
  fields : List (Nat × Option Nat) := []
  digest : List Nat := []
  line : Option Nat := none
  deriving DecidableEq, Repr

/-- What chapter 21 keeps beyond its registers. -/
structure Ikito where
  /-- The devices of the chain by position. -/
  chain : Table IkDevice := []
  /-- The operating mode and the SH fields in force when the digest was last computed (R543); none before the first
  commit. -/
  basis : Option (Nat × Store) := none
  /-- The leader's digest as last received, 32 bytes (R548). -/
  leaderDigest : List Nat := []
  /-- Failures in a row of the frame that a port is receiving (R537). -/
  fails : Store := []
  /-- The leader has set IK_TRIG_DELAY since bring-up (R540). -/
  delaySet : Bool := false
  /-- The time base at the start of an unbroken series of TIME messages within tolerance (R539); none: not within. -/
  within : Option Nat := none
  /-- The time base is being slowed until |offset| is at most 2 (R539). -/
  slowing : Bool := false
  /-- The path latency to the leader (R539) in ns. -/
  latency : Nat := 0
  /-- The path latency to each follower by position, as the leader has measured it (R540). -/
  latencies : Store := []
  /-- Lines triggered by the leader whose start is still to come: line, trigger time and start instant (R540). -/
  starts : List (Nat × Nat × Nat) := []
  /-- The cascade commit that this device holds (R544). -/
  commit : Option CascadeCommit := none
  /-- The leader: resulting digests by position, and the time of the first report. -/
  reports : Table (List Nat) := []
  since : Nat := 0
  /-- The RUN message whose line and time of effect are to come: start, line, time. -/
  order : Option (Bool × Nat × Nat) := none
  deriving DecidableEq, Repr

/-! ## Commits (chapter "Register pages and configuration commit") -/

/-- An accepted commit that has not taken effect (R555 to R558): its groups, y_eff, and the captured fields that differ
from the values in force, each with its value (none: the reset value). -/
structure PendingCommit where
  groups : List Nat := []
  line : Nat := 0
  fields : List (Nat × Option Nat) := []
  deriving DecidableEq, Repr

/-- Commits accepted, oldest first, and pages whose move to another group waits (R562): page and one more than the
group. -/
structure Commits where
  waiting : List PendingCommit := []
  moves : Store := []
  deriving DecidableEq, Repr
/-! ## The machine -/

/-- Why a step can stop with a fault. The spec gives every command an effect or none, and a command without an
effect leaves the state as it is, so only an ill-formed term of the model stops. -/
inductive Fault where
  /-- Raised by no meaning: kept so that the interface's fault has a name. Safe: no step takes it. -/
  | never
  deriving DecidableEq, Repr

/-- Why a step can be refused. -/
inductive Refusal where
  /-- The command has no meaning in the model yet. Safe: nothing is claimed of it. -/
  | notModelled (mnemonic : String)
  deriving DecidableEq, Repr

/-- The state of the device. -/
structure State where
  /-- Every register field but the SH fields, by `Row.key`; an unlisted field holds its reset value. -/
  regs : Store := []
  /-- The SH fields in force, in the same form. -/
  force : Store := []
  /-- The shadows of the SH fields (R555), in the same form. -/
  shadow : Store := []
  /-- The captures of the reading agents (R48), by agent, page and offset. -/
  captures : Store := []
  nt : Notify := {}
  tb : TimeBase := {}
  avs : Avs := {}
  thin : Thin := {}
  /-- Sensor groups 0 to 11. -/
  groups : Table Group := []
  /-- Pawn program memory: word of 64 bits by ((group * 2 + bank) * 1024 + address). -/
  pawn : Store := []
  /-- Encoders 0 to 3. -/
  encoders : Table Encoder := []
  lt : Trigger := {}
  /-- The assigned lines of the run. -/
  lines : Table LineInfo := []
  /-- The settings that commits replaced in this run, newest first. -/
  epochs : List Epoch := []
  /-- Converters 0 to 96. -/
  converters : Table Converter := []
  /-- The lanes' buffers by channel; 96 is the converter that is only matched. -/
  buffers : Table Buffer := []
  /-- Read-outs by 128 * line + channel; channel 96 holds the words that go to the match accumulator only. -/
  readouts : Table Readout := []
  plaus : Plaus := {}
  cast : Castling := {}
  /-- Lanes 0 to 11. -/
  lanes : Table Lane := []
  opal : Opal := {}
  pw : PaperWhite := {}
  /-- Output lines by 16 * line + lane. -/
  outLines : Table OutLine := []
  /-- Joint parts received from the east, by line. -/
  joints : Table JointPart := []
  ref : Reference := {}
  reg : Registration := {}
  comp : Compare := {}
  mp : Products := {}
  /-- Queues, contexts, staging. -/
  fr : Freuri := {}
  dma : Dma := {}
  beryl : Beryl := {}
  pfe : Pfe := {}
  /-- Motion axes 0 to 7. -/
  axes : Table Axis := []
  ik : Ikito := {}
  flt : Faults := {}
  therm : Thermal := {}
  cap : Capacity := {}
  commits : Commits := {}
  mgmt : Mgmt := {}
  usb : UsbPort := {}
  twt : TwoWireTarget := {}
  twc : TwoWireController := {}
  onyx : Onyx := {}
  /-- The free values' counter: the model's own field (assumption log 4). -/
  fresh : Nat := 0
  /-- What the device has sent out, newest first. -/
  out : List Output := []
  /-- The commands that wait, first in, first out. -/
  pending : List Instr := []
  deriving DecidableEq, Repr

/-- The machine right after reset: every register at its Reset column (R10), every memory with nothing listed, every
block as it stands before POWER_ON_RESET brings the device up (R580, R582). -/
def State.reset : State := {}

end Sys2Proof.Machine
end

