-- ==== Sys2Proof/Machine/Regs.lean ====
section
/-!
DEFINITION. The register map: one `Row` per field of the register tables of spec/ (name, page range, offset, index
strides, lowest bit, width, reset value, access type, stored range), one `Event` per PAGE_EVENT bit, and the rows of
each page.  Transcribed from the field tables of the rules named in the section comments.
Reset values marked "—", "strap" or "fuse" in the tables are the named values of assumption log entries 2 and 3.
-/

namespace Sys2Proof.Machine

namespace Reg


/-! R35 -/
abbrev PACE_CTL_WINDOW : Row := ⟨0x11, 1, 1, 0x20, 1, 0x0, 1, 0x0, 0, 10, .const 10, .rw, .range 1 1000⟩
abbrev PACE_CTL_WARN : Row := ⟨0x11, 1, 1, 0x20, 1, 0x0, 1, 0x0, 16, 16, .const 0x10cd, .rw, .any⟩

/-! R36 -/
abbrev HEADROOM_MIN_VALUE : Row := ⟨0x11, 1, 1, 0x24, 1, 0x0, 1, 0x0, 0, 16, .const 0xffff, .ro, .any⟩
abbrev HEADROOM_MIN_MON : Row := ⟨0x11, 1, 1, 0x24, 1, 0x0, 1, 0x0, 16, 4, .const 15, .ro, .any⟩

/-! R37 -/
abbrev PACE_MON_PACE_MEAS : Row := ⟨0x11, 1, 1, 0x40, 14, 0x10, 1, 0x0, 0, 16, .const 0, .ro, .any⟩
abbrev PACE_MON_PACE_CEIL : Row := ⟨0x11, 1, 1, 0x40, 14, 0x10, 1, 0x0, 16, 16, .const 0xffff, .ro, .any⟩
abbrev PACE_MON_DEMAND_VALUE : Row := ⟨0x11, 1, 1, 0x44, 14, 0x10, 1, 0x0, 0, 16, .const 0, .ro, .any⟩
abbrev PACE_MON_HEADROOM_VALUE : Row := ⟨0x11, 1, 1, 0x48, 14, 0x10, 1, 0x0, 0, 16, .const 0xffff, .ro, .any⟩
abbrev PACE_MON_HEADROOM_LOW : Row := ⟨0x11, 1, 1, 0x48, 14, 0x10, 1, 0x0, 16, 1, .const 0, .ro, .any⟩
abbrev PACE_MON_HEADROOM_BREACH : Row := ⟨0x11, 1, 1, 0x48, 14, 0x10, 1, 0x0, 17, 1, .const 0, .ro, .any⟩

/-! R43 -/
abbrev AVS_CTL_EN : Row := ⟨0x11, 1, 1, 0x28, 1, 0x0, 1, 0x0, 0, 1, .const 1, .rw, .any⟩
abbrev AVS_CTL_LINK : Row := ⟨0x11, 1, 1, 0x28, 1, 0x0, 1, 0x0, 1, 1, .const 0, .rw, .any⟩
abbrev AVS_CTL_INTERVAL : Row := ⟨0x11, 1, 1, 0x28, 1, 0x0, 1, 0x0, 8, 4, .const 10, .rw, .range 1 15⟩
abbrev AVS_CTL_STEP : Row := ⟨0x11, 1, 1, 0x28, 1, 0x0, 1, 0x0, 16, 5, .const 5, .rw, .range 1 20⟩
abbrev AVS_CTL_ADDR : Row := ⟨0x11, 1, 1, 0x28, 1, 0x0, 1, 0x0, 24, 7, .const 64, .rw, .any⟩
abbrev AVS_TARGET_TARGET : Row := ⟨0x11, 1, 1, 0x2c, 1, 0x0, 1, 0x0, 0, 16, .const 0x1400, .rw, .any⟩
abbrev AVS_TARGET_HYST : Row := ⟨0x11, 1, 1, 0x2c, 1, 0x0, 1, 0x0, 16, 16, .const 0x100, .rw, .any⟩
abbrev AVS_VLIMIT_VMIN_RUN : Row := ⟨0x11, 1, 1, 0x30, 1, 0x0, 1, 0x0, 0, 10, .const 0x2d0, .rw, .any⟩
abbrev AVS_VLIMIT_VMAX : Row := ⟨0x11, 1, 1, 0x30, 1, 0x0, 1, 0x0, 16, 10, .const 0x370, .rw, .any⟩
abbrev AVS_VSET_MV : Row := ⟨0x11, 1, 1, 0x34, 1, 0x0, 1, 0x0, 0, 10, .const 0x320, .ro, .any⟩
abbrev AVS_VREAD_MV : Row := ⟨0x11, 1, 1, 0x38, 1, 0x0, 1, 0x0, 0, 10, .const 0, .ro, .any⟩
abbrev AVS_VREAD_VALID : Row := ⟨0x11, 1, 1, 0x38, 1, 0x0, 1, 0x0, 31, 1, .const 0, .ro, .any⟩

/-! R51 -/
abbrev TB_STATUS_LOCKED : Row := ⟨0x10, 1, 1, 0x20, 1, 0x0, 1, 0x0, 0, 1, .const 0, .ro, .any⟩
abbrev TB_STATUS_RUN_ACTIVE : Row := ⟨0x10, 1, 1, 0x20, 1, 0x0, 1, 0x0, 1, 1, .const 0, .ro, .any⟩
abbrev TIME_LO_VALUE : Row := ⟨0x10, 1, 1, 0x24, 1, 0x0, 1, 0x0, 0, 32, .const 0, .ro, .any⟩
abbrev TIME_HI_VALUE : Row := ⟨0x10, 1, 1, 0x28, 1, 0x0, 1, 0x0, 0, 32, .const 0, .ro, .any⟩
abbrev TB_RATE_PPB : Row := ⟨0x10, 1, 1, 0x2c, 1, 0x0, 1, 0x0, 0, 20, .const 0, .rw, .any⟩
abbrev TB_STEP_LO_VALUE : Row := ⟨0x10, 1, 1, 0x30, 1, 0x0, 1, 0x0, 0, 32, .const 0, .rw, .any⟩
abbrev TB_STEP_HI_VALUE : Row := ⟨0x10, 1, 1, 0x34, 1, 0x0, 1, 0x0, 0, 32, .const 0, .rw, .any⟩

/-! R76 -/
abbrev SG_CTL_EN : Row := ⟨0x40, 12, 1, 0x20, 1, 0x0, 1, 0x0, 0, 1, .const 0, .sh, .any⟩
abbrev SG_CTL_FORCE_FALLBACK : Row := ⟨0x40, 12, 1, 0x20, 1, 0x0, 1, 0x0, 1, 1, .const 0, .sh, .any⟩
abbrev SG_PIX_KHZ : Row := ⟨0x40, 12, 1, 0x24, 1, 0x0, 1, 0x0, 0, 17, .const 0x1adb0, .sh, .range 1000 110000⟩
abbrev SG_GEOM_PIXELS : Row := ⟨0x40, 12, 1, 0x28, 1, 0x0, 1, 0x0, 0, 11, .const 0x340, .sh, .range 64 1024⟩
abbrev SG_STALE_US : Row := ⟨0x40, 12, 1, 0x2c, 1, 0x0, 1, 0x0, 0, 16, .const 0x7d0, .sh, .range 100 65535⟩
abbrev SG_LED_START_PX : Row := ⟨0x40, 12, 1, 0x30, 2, 0x8, 1, 0x0, 0, 12, .const 0, .sh, .any⟩
abbrev SG_LED_START_EDGE : Row := ⟨0x40, 12, 1, 0x30, 2, 0x8, 1, 0x0, 12, 6, .const 0, .sh, .any⟩
abbrev SG_LED_START_POL : Row := ⟨0x40, 12, 1, 0x30, 2, 0x8, 1, 0x0, 31, 1, .const 0, .sh, .any⟩
abbrev SG_LED_WIDTH_PX : Row := ⟨0x40, 12, 1, 0x34, 2, 0x8, 1, 0x0, 0, 16, .const 0, .sh, .any⟩
abbrev SG_LED_WIDTH_EDGE : Row := ⟨0x40, 12, 1, 0x34, 2, 0x8, 1, 0x0, 16, 6, .const 0, .sh, .any⟩
abbrev SG_WAVE_RISE : Row := ⟨0x40, 12, 1, 0x40, 10, 0x4, 1, 0x0, 0, 6, .const 0, .sh, .any⟩
abbrev SG_WAVE_FALL : Row := ⟨0x40, 12, 1, 0x40, 10, 0x4, 1, 0x0, 8, 6, .const 0, .sh, .any⟩
abbrev PAWN_CTL_ENTRY : Row := ⟨0x40, 12, 1, 0x68, 1, 0x0, 1, 0x0, 0, 10, .const 0, .sh, .any⟩
abbrev PAWN_CTL_SWAP : Row := ⟨0x40, 12, 1, 0x68, 1, 0x0, 1, 0x0, 16, 1, .const 0, .sh, .any⟩
abbrev PAWN_ADDR_ADDR : Row := ⟨0x40, 12, 1, 0x6c, 1, 0x0, 1, 0x0, 0, 10, .const 0, .rw, .any⟩
abbrev PAWN_ADDR_ACTIVE : Row := ⟨0x40, 12, 1, 0x6c, 1, 0x0, 1, 0x0, 31, 1, .const 0, .rw, .any⟩
abbrev PAWN_DATA_LO_VALUE : Row := ⟨0x40, 12, 1, 0x70, 1, 0x0, 1, 0x0, 0, 32, .const 0, .rw, .any⟩
abbrev PAWN_DATA_HI_VALUE : Row := ⟨0x40, 12, 1, 0x74, 1, 0x0, 1, 0x0, 0, 32, .const 0, .rw, .any⟩
abbrev PAWN_STATUS_BANK : Row := ⟨0x40, 12, 1, 0x78, 1, 0x0, 1, 0x0, 0, 1, .const 0, .ro, .any⟩
abbrev PAWN_STATUS_FALLBACK : Row := ⟨0x40, 12, 1, 0x78, 1, 0x0, 1, 0x0, 1, 1, .const 1, .ro, .any⟩
abbrev PAWN_STATUS_REASON : Row := ⟨0x40, 12, 1, 0x78, 1, 0x0, 1, 0x0, 2, 4, .const 6, .ro, .any⟩
abbrev PAWN_STATUS_PC : Row := ⟨0x40, 12, 1, 0x78, 1, 0x0, 1, 0x0, 16, 10, .const 0, .ro, .any⟩
abbrev PAWN_STATUS_SWAP_PENDING : Row := ⟨0x40, 12, 1, 0x78, 1, 0x0, 1, 0x0, 31, 1, .const 0, .ro, .any⟩
abbrev PAWN_FB_LINE_LINE : Row := ⟨0x40, 12, 1, 0x7c, 1, 0x0, 1, 0x0, 0, 32, .const 0, .ro, .any⟩
abbrev SG_FLUSHES_COUNT : Row := ⟨0x40, 12, 1, 0x80, 1, 0x0, 1, 0x0, 0, 32, .const 0, .ro, .any⟩

/-! R80 -/
abbrev ENC_CTL_EN : Row := ⟨0x50, 4, 1, 0x20, 1, 0x0, 1, 0x0, 0, 1, .const 0, .rw, .any⟩
abbrev ENC_CTL_MODE : Row := ⟨0x50, 4, 1, 0x20, 1, 0x0, 1, 0x0, 1, 1, .const 0, .rw, .any⟩
abbrev ENC_CTL_INVERT : Row := ⟨0x50, 4, 1, 0x20, 1, 0x0, 1, 0x0, 2, 1, .const 0, .rw, .any⟩
abbrev ENC_CTL_Z_EN : Row := ⟨0x50, 4, 1, 0x20, 1, 0x0, 1, 0x0, 3, 1, .const 0, .rw, .any⟩
abbrev ENC_CTL_FILT : Row := ⟨0x50, 4, 1, 0x20, 1, 0x0, 1, 0x0, 8, 6, .const 10, .rw, .any⟩
abbrev ENC_COUNT_VALUE : Row := ⟨0x50, 4, 1, 0x24, 1, 0x0, 1, 0x0, 0, 32, .const 0, .ro, .any⟩
abbrev ENC_INDEX_VALUE : Row := ⟨0x50, 4, 1, 0x28, 1, 0x0, 1, 0x0, 0, 32, .const 0, .ro, .any⟩
abbrev ENC_VEL_VALUE : Row := ⟨0x50, 4, 1, 0x2c, 1, 0x0, 1, 0x0, 0, 32, .const 0, .ro, .any⟩
abbrev ENC_ERR_VALUE : Row := ⟨0x50, 4, 1, 0x30, 1, 0x0, 1, 0x0, 0, 32, .const 0, .ro, .any⟩

/-! R86 -/
abbrev LT_CTL_SRC : Row := ⟨0x54, 1, 1, 0x20, 1, 0x0, 1, 0x0, 0, 4, .const 15, .sh, .any⟩
abbrev LT_CTL_INTERP : Row := ⟨0x54, 1, 1, 0x20, 1, 0x0, 1, 0x0, 4, 1, .const 1, .sh, .any⟩
abbrev LT_DIV_FRAC_VALUE : Row := ⟨0x54, 1, 1, 0x24, 1, 0x0, 1, 0x0, 0, 32, .const 0, .sh, .any⟩
abbrev LT_DIV_INT_VALUE : Row := ⟨0x54, 1, 1, 0x28, 1, 0x0, 1, 0x0, 0, 32, .const 1, .sh, .any⟩
abbrev LT_START_COUNTS : Row := ⟨0x54, 1, 1, 0x2c, 1, 0x0, 1, 0x0, 0, 32, .const 0, .sh, .range 0 2147483647⟩
abbrev LT_DEFER_LIMIT_NS : Row := ⟨0x54, 1, 1, 0x30, 1, 0x0, 1, 0x0, 0, 16, .const 0x7d0, .sh, .any⟩
abbrev LT_LINE_LO_VALUE : Row := ⟨0x54, 1, 1, 0x34, 1, 0x0, 1, 0x0, 0, 32, .const 0, .ro, .any⟩
abbrev LT_LINE_HI_VALUE : Row := ⟨0x54, 1, 1, 0x38, 1, 0x0, 1, 0x0, 0, 16, .const 0, .ro, .any⟩
abbrev LT_POS_FRAC_VALUE : Row := ⟨0x54, 1, 1, 0x3c, 1, 0x0, 1, 0x0, 0, 32, .const 0, .ro, .any⟩
abbrev LT_POS_INT_VALUE : Row := ⟨0x54, 1, 1, 0x40, 1, 0x0, 1, 0x0, 0, 32, .const 0, .ro, .any⟩
abbrev LT_TIME_LO_VALUE : Row := ⟨0x54, 1, 1, 0x44, 1, 0x0, 1, 0x0, 0, 32, .const 0, .ro, .any⟩
abbrev LT_TIME_HI_VALUE : Row := ⟨0x54, 1, 1, 0x48, 1, 0x0, 1, 0x0, 0, 32, .const 0, .ro, .any⟩
abbrev LT_DEFERRED_COUNT : Row := ⟨0x54, 1, 1, 0x4c, 1, 0x0, 1, 0x0, 0, 32, .const 0, .ro, .any⟩
abbrev LT_SKIPPED_COUNT : Row := ⟨0x54, 1, 1, 0x50, 1, 0x0, 1, 0x0, 0, 32, .const 0, .ro, .any⟩
abbrev LT_MAXDEFER_NS : Row := ⟨0x54, 1, 1, 0x54, 1, 0x0, 1, 0x0, 0, 32, .const 0, .ro, .any⟩

/-! R109 -/
abbrev CHAN_CTL_EN : Row := ⟨0x80, 97, 1, 0x20, 1, 0x0, 1, 0x0, 0, 1, .const 1, .sh, .any⟩
abbrev CHAN_CTL_REFMODE : Row := ⟨0x80, 97, 1, 0x20, 1, 0x0, 1, 0x0, 1, 2, .const 0, .sh, .any⟩
abbrev SCAN_MASK_RED : Row := ⟨0x80, 97, 1, 0x24, 1, 0x0, 1, 0x0, 0, 1, .const 1, .sh, .any⟩
abbrev SCAN_MASK_GREEN : Row := ⟨0x80, 97, 1, 0x24, 1, 0x0, 1, 0x0, 1, 1, .const 1, .sh, .any⟩
abbrev SCAN_MASK_BLUE : Row := ⟨0x80, 97, 1, 0x24, 1, 0x0, 1, 0x0, 2, 1, .const 1, .sh, .any⟩
abbrev SCAN_MASK_SREF : Row := ⟨0x80, 97, 1, 0x24, 1, 0x0, 1, 0x0, 3, 1, .const 1, .sh, .any⟩
abbrev SCAN_MASK_IREF : Row := ⟨0x80, 97, 1, 0x24, 1, 0x0, 1, 0x0, 4, 1, .const 1, .sh, .any⟩
abbrev SCAN_MASK_SUPPLY : Row := ⟨0x80, 97, 1, 0x24, 1, 0x0, 1, 0x0, 5, 1, .const 1, .sh, .any⟩
abbrev SCAN_MASK_TEMP : Row := ⟨0x80, 97, 1, 0x24, 1, 0x0, 1, 0x0, 6, 1, .const 1, .sh, .any⟩
abbrev SCAN_MASK_PLAUS : Row := ⟨0x80, 97, 1, 0x24, 1, 0x0, 1, 0x0, 7, 1, .const 1, .sh, .any⟩
abbrev CHAN_FE_RANGE : Row := ⟨0x80, 97, 1, 0x28, 3, 0x4, 1, 0x0, 0, 2, .const 0, .sh, .any⟩
abbrev CHAN_FE_OFFSET : Row := ⟨0x80, 97, 1, 0x28, 3, 0x4, 1, 0x0, 16, 12, .const 0x100, .sh, .any⟩
abbrev FORCE_INPUT : Row := ⟨0x80, 97, 1, 0x34, 1, 0x0, 1, 0x0, 0, 3, .const 0, .wo, .any⟩
abbrev FORCE_GO : Row := ⟨0x80, 97, 1, 0x34, 1, 0x0, 1, 0x0, 31, 1, .const 0, .wo, .any⟩
abbrev FORCE_RESULT_VALUE : Row := ⟨0x80, 97, 1, 0x38, 1, 0x0, 1, 0x0, 0, 14, .const 0, .ro, .any⟩
abbrev FORCE_RESULT_OVR : Row := ⟨0x80, 97, 1, 0x38, 1, 0x0, 1, 0x0, 14, 1, .const 0, .ro, .any⟩
abbrev FORCE_RESULT_DONE : Row := ⟨0x80, 97, 1, 0x38, 1, 0x0, 1, 0x0, 15, 1, .const 0, .ro, .any⟩
abbrev FORCE_RESULT_INPUT : Row := ⟨0x80, 97, 1, 0x38, 1, 0x0, 1, 0x0, 16, 3, .const 0, .ro, .any⟩
abbrev FORCE_TIME_LO : Row := ⟨0x80, 97, 1, 0x3c, 1, 0x0, 1, 0x0, 0, 32, .const 0, .ro, .any⟩
abbrev DIAG_VALUE : Row := ⟨0x80, 97, 1, 0x40, 5, 0x4, 1, 0x0, 0, 14, .const 0, .ro, .any⟩
abbrev DIAG_OVR : Row := ⟨0x80, 97, 1, 0x40, 5, 0x4, 1, 0x0, 14, 1, .const 0, .ro, .any⟩
abbrev DIAG_VALID : Row := ⟨0x80, 97, 1, 0x40, 5, 0x4, 1, 0x0, 15, 1, .const 0, .ro, .any⟩
abbrev DIAG_LINE : Row := ⟨0x80, 97, 1, 0x40, 5, 0x4, 1, 0x0, 16, 16, .const 0, .ro, .any⟩
abbrev DIAG_MISSED_COUNT : Row := ⟨0x80, 97, 1, 0x54, 1, 0x0, 1, 0x0, 0, 32, .const 0, .ro, .any⟩
abbrev OVR_COUNT_COUNT : Row := ⟨0x80, 97, 1, 0x58, 1, 0x0, 1, 0x0, 0, 32, .const 0, .ro, .any⟩
abbrev PLAUS_STATUS_DEV : Row := ⟨0x80, 97, 1, 0x5c, 1, 0x0, 1, 0x0, 0, 16, .const 0, .ro, .any⟩
abbrev PLAUS_STATUS_FAILS : Row := ⟨0x80, 97, 1, 0x5c, 1, 0x0, 1, 0x0, 16, 8, .const 0, .ro, .any⟩
abbrev PLAUS_STATUS_SUSPECT : Row := ⟨0x80, 97, 1, 0x5c, 1, 0x0, 1, 0x0, 24, 1, .const 0, .ro, .any⟩
abbrev CAL_STATUS_STATE : Row := ⟨0x80, 97, 1, 0x60, 1, 0x0, 1, 0x0, 0, 2, .const 0, .ro, .any⟩
abbrev CAL_STATUS_WORST_STAGE : Row := ⟨0x80, 97, 1, 0x60, 1, 0x0, 1, 0x0, 8, 3, .const 0, .ro, .any⟩
abbrev CAL_STATUS_WORST_ERR : Row := ⟨0x80, 97, 1, 0x60, 1, 0x0, 1, 0x0, 16, 16, .const 0, .ro, .any⟩
abbrev CAL_TIME_LO : Row := ⟨0x80, 97, 1, 0x64, 1, 0x0, 1, 0x0, 0, 32, .const 0, .ro, .any⟩
abbrev CAL_TEMP_VALUE : Row := ⟨0x80, 97, 1, 0x68, 1, 0x0, 1, 0x0, 0, 16, .const 0, .ro, .any⟩
abbrev CAL_STAGE_GAIN : Row := ⟨0x80, 97, 1, 0x70, 6, 0x4, 1, 0x0, 0, 16, .const 0x8000, .ro, .any⟩
abbrev CAL_PATH_OFFSET : Row := ⟨0x80, 97, 1, 0x88, 3, 0x4, 1, 0x0, 0, 12, .const 0, .ro, .any⟩
abbrev CAL_PATH_GAIN : Row := ⟨0x80, 97, 1, 0x88, 3, 0x4, 1, 0x0, 16, 16, .const 0x8000, .ro, .any⟩

/-! R111 -/
abbrev BANK_CAL_START : Row := ⟨0xe0, 1, 1, 0x100, 1, 0x0, 1, 0x0, 0, 1, .const 0, .wo, .any⟩
abbrev BANK_CAL_BUSY : Row := ⟨0xe0, 1, 1, 0x100, 1, 0x0, 1, 0x0, 1, 1, .const 0, .ro, .any⟩
abbrev BANK_DIAG_AVG_LOG : Row := ⟨0xe0, 1, 1, 0x104, 1, 0x0, 1, 0x0, 0, 2, .const 2, .sh, .any⟩
abbrev BANK_PLAUS_CTL_EVERY : Row := ⟨0xe0, 1, 1, 0x108, 1, 0x0, 1, 0x0, 0, 16, .const 0x1000, .sh, .any⟩
abbrev BANK_PLAUS_CTL_TOL : Row := ⟨0xe0, 1, 1, 0x108, 1, 0x0, 1, 0x0, 16, 12, .const 24, .sh, .any⟩
abbrev BANK_PLAUS_CTL_LIMIT : Row := ⟨0xe0, 1, 1, 0x108, 1, 0x0, 1, 0x0, 28, 4, .const 3, .sh, .range 1 15⟩
abbrev BANK_PLAUS_LEVEL_L0 : Row := ⟨0xe0, 1, 1, 0x10c, 1, 0x0, 1, 0x0, 0, 8, .const 32, .sh, .any⟩
abbrev BANK_PLAUS_LEVEL_L1 : Row := ⟨0xe0, 1, 1, 0x10c, 1, 0x0, 1, 0x0, 8, 8, .const 96, .sh, .any⟩
abbrev BANK_PLAUS_LEVEL_L2 : Row := ⟨0xe0, 1, 1, 0x10c, 1, 0x0, 1, 0x0, 16, 8, .const 160, .sh, .any⟩
abbrev BANK_PLAUS_LEVEL_L3 : Row := ⟨0xe0, 1, 1, 0x10c, 1, 0x0, 1, 0x0, 24, 8, .const 224, .sh, .any⟩
abbrev BANK_PLAUS_COUNT_COUNT : Row := ⟨0xe0, 1, 1, 0x110, 1, 0x0, 1, 0x0, 0, 32, .const 0, .ro, .any⟩
abbrev BANK_SUSPECT_0_BITS : Row := ⟨0xe0, 1, 1, 0x114, 1, 0x0, 1, 0x0, 0, 32, .const 0, .ro, .any⟩
abbrev BANK_SUSPECT_1_BITS : Row := ⟨0xe0, 1, 1, 0x118, 1, 0x0, 1, 0x0, 0, 32, .const 0, .ro, .any⟩
abbrev BANK_SUSPECT_2_BITS : Row := ⟨0xe0, 1, 1, 0x11c, 1, 0x0, 1, 0x0, 0, 32, .const 0, .ro, .any⟩
abbrev BANK_SUSPECT_3_SPARE : Row := ⟨0xe0, 1, 1, 0x120, 1, 0x0, 1, 0x0, 0, 1, .const 0, .ro, .any⟩

/-! R128 -/
abbrev CAST_CTL_EN : Row := ⟨0x100, 1, 1, 0x20, 1, 0x0, 1, 0x0, 0, 1, .const 1, .rw, .any⟩
abbrev CAST_CTL_AUTO : Row := ⟨0x100, 1, 1, 0x20, 1, 0x0, 1, 0x0, 1, 1, .const 1, .rw, .any⟩
abbrev CAST_CTL_EVAL_LOG : Row := ⟨0x100, 1, 1, 0x20, 1, 0x0, 1, 0x0, 4, 4, .const 12, .rw, .range 8 15⟩
abbrev CAST_CTL_MERGE : Row := ⟨0x100, 1, 1, 0x20, 1, 0x0, 1, 0x0, 8, 8, .const 64, .rw, .any⟩
abbrev CAST_TRIG_DELTA : Row := ⟨0x100, 1, 1, 0x24, 1, 0x0, 1, 0x0, 0, 8, .const 32, .rw, .range 1 255⟩
abbrev CAST_TRIG_RETRY_S : Row := ⟨0x100, 1, 1, 0x24, 1, 0x0, 1, 0x0, 8, 8, .const 10, .rw, .any⟩
abbrev CAST_TRIG_INTERVAL_S : Row := ⟨0x100, 1, 1, 0x24, 1, 0x0, 1, 0x0, 16, 16, .const 0xe10, .rw, .any⟩
abbrev CAST_MATCH_LINES : Row := ⟨0x100, 1, 1, 0x28, 1, 0x0, 1, 0x0, 0, 12, .const 0x100, .rw, .range 16 4095⟩
abbrev CAST_MATCH_SETTLE : Row := ⟨0x100, 1, 1, 0x28, 1, 0x0, 1, 0x0, 12, 8, .const 16, .rw, .any⟩
abbrev CAST_MATCH_MAX_WIN : Row := ⟨0x100, 1, 1, 0x28, 1, 0x0, 1, 0x0, 20, 8, .const 64, .rw, .range 1 255⟩
abbrev CAST_ACCEPT_TOL : Row := ⟨0x100, 1, 1, 0x2c, 1, 0x0, 1, 0x0, 0, 16, .const 0x180, .rw, .any⟩
abbrev CAST_ACCEPT_MIN_SPAN : Row := ⟨0x100, 1, 1, 0x2c, 1, 0x0, 1, 0x0, 16, 12, .const 0x200, .rw, .any⟩
abbrev CAST_REQ_CHAN : Row := ⟨0x100, 1, 1, 0x30, 1, 0x0, 1, 0x0, 0, 7, .const 0, .wo, .any⟩
abbrev CAST_REQ_GO : Row := ⟨0x100, 1, 1, 0x30, 1, 0x0, 1, 0x0, 30, 1, .const 0, .wo, .any⟩
abbrev CAST_REQ_RELEASE : Row := ⟨0x100, 1, 1, 0x30, 1, 0x0, 1, 0x0, 31, 1, .const 0, .wo, .any⟩
abbrev CAST_STATUS_STATE : Row := ⟨0x100, 1, 1, 0x34, 1, 0x0, 1, 0x0, 0, 4, .const 0, .ro, .any⟩
abbrev CAST_STATUS_CHAN : Row := ⟨0x100, 1, 1, 0x34, 1, 0x0, 1, 0x0, 4, 7, .const 127, .ro, .any⟩
abbrev CAST_STATUS_CARRYING : Row := ⟨0x100, 1, 1, 0x34, 1, 0x0, 1, 0x0, 11, 1, .const 0, .ro, .any⟩
abbrev CAST_STATUS_WIN : Row := ⟨0x100, 1, 1, 0x34, 1, 0x0, 1, 0x0, 12, 8, .const 0, .ro, .any⟩
abbrev CAST_LAST_CHAN : Row := ⟨0x100, 1, 1, 0x38, 1, 0x0, 1, 0x0, 0, 7, .const 127, .ro, .any⟩
abbrev CAST_LAST_OUTCOME : Row := ⟨0x100, 1, 1, 0x38, 1, 0x0, 1, 0x0, 8, 4, .const 0, .ro, .any⟩
abbrev CAST_LAST_CYCLES : Row := ⟨0x100, 1, 1, 0x38, 1, 0x0, 1, 0x0, 16, 16, .const 0, .ro, .any⟩
abbrev CAST_SWAP_LINE_LO_VALUE : Row := ⟨0x100, 1, 1, 0x3c, 1, 0x0, 1, 0x0, 0, 32, .const 0, .ro, .any⟩
abbrev CAST_SWAP_LINE_HI_VALUE : Row := ⟨0x100, 1, 1, 0x40, 1, 0x0, 1, 0x0, 0, 16, .const 0, .ro, .any⟩
abbrev CAST_SWAP_LINE_HI_BACK : Row := ⟨0x100, 1, 1, 0x40, 1, 0x0, 1, 0x0, 31, 1, .const 0, .ro, .any⟩
abbrev CAST_PEND_0_BITS : Row := ⟨0x100, 1, 1, 0x44, 1, 0x0, 1, 0x0, 0, 32, .const 0, .ro, .any⟩
abbrev CAST_PEND_1_BITS : Row := ⟨0x100, 1, 1, 0x48, 1, 0x0, 1, 0x0, 0, 32, .const 0, .ro, .any⟩
abbrev CAST_PEND_2_BITS : Row := ⟨0x100, 1, 1, 0x4c, 1, 0x0, 1, 0x0, 0, 32, .const 0, .ro, .any⟩
abbrev CAST_PEND_3_SPARE : Row := ⟨0x100, 1, 1, 0x50, 1, 0x0, 1, 0x0, 0, 1, .const 0, .ro, .any⟩

/-! R159 -/
abbrev LANE_CTL_LIN_EN : Row := ⟨0x120, 12, 1, 0x20, 1, 0x0, 1, 0x0, 0, 1, .const 1, .sh, .any⟩
abbrev LANE_CTL_ALIGN_EN : Row := ⟨0x120, 12, 1, 0x20, 1, 0x0, 1, 0x0, 1, 1, .const 1, .sh, .any⟩
abbrev LANE_CTL_PW_EN : Row := ⟨0x120, 12, 1, 0x20, 1, 0x0, 1, 0x0, 2, 1, .const 1, .sh, .any⟩
abbrev LANE_CTL_MTX_EN : Row := ⟨0x120, 12, 1, 0x20, 1, 0x0, 1, 0x0, 3, 1, .const 1, .sh, .any⟩
abbrev LANE_OVERRUN_COUNT : Row := ⟨0x120, 12, 1, 0x24, 1, 0x0, 1, 0x0, 0, 32, .const 0, .ro, .any⟩
abbrev LANE_INCOMPLETE_COUNT : Row := ⟨0x120, 12, 1, 0x28, 1, 0x0, 1, 0x0, 0, 32, .const 0, .ro, .any⟩
abbrev LANE_SINGLE_COUNT : Row := ⟨0x120, 12, 1, 0x2c, 1, 0x0, 1, 0x0, 0, 32, .const 0, .ro, .any⟩
abbrev CHAN_GEOM_OVERLAP : Row := ⟨0x120, 12, 1, 0x30, 8, 0x4, 1, 0x0, 0, 7, .const 16, .sh, .any⟩
abbrev CHAN_GEOM_MIRROR : Row := ⟨0x120, 12, 1, 0x30, 8, 0x4, 1, 0x0, 8, 1, .const 0, .sh, .any⟩
abbrev CHAN_ROW_DELAY_RED : Row := ⟨0x120, 12, 1, 0x50, 8, 0x8, 1, 0x0, 0, 14, .const 0, .sh, .any⟩
abbrev CHAN_ROW_DELAY_GREEN : Row := ⟨0x120, 12, 1, 0x50, 8, 0x8, 1, 0x0, 16, 14, .const 0, .sh, .any⟩
abbrev CHAN_ROW_DELAY_BLUE : Row := ⟨0x120, 12, 1, 0x54, 8, 0x8, 1, 0x0, 0, 14, .const 0, .sh, .any⟩
abbrev LANE_MTX_C0 : Row := ⟨0x120, 12, 1, 0x90, 3, 0x8, 1, 0x0, 0, 16, .byIndex [0x1000, 0, 0], .sh, .any⟩
abbrev LANE_MTX_C1 : Row := ⟨0x120, 12, 1, 0x90, 3, 0x8, 1, 0x0, 16, 16, .byIndex [0, 0x1000, 0], .sh, .any⟩
abbrev LANE_MTX_C2 : Row := ⟨0x120, 12, 1, 0x94, 3, 0x8, 1, 0x0, 0, 16, .byIndex [0, 0, 0x1000], .sh, .any⟩
abbrev LANE_MTX_OFF : Row := ⟨0x120, 12, 1, 0x94, 3, 0x8, 1, 0x0, 16, 16, .const 0, .sh, .any⟩
abbrev PW_GAIN_RED : Row := ⟨0x120, 12, 1, 0xb0, 8, 0x8, 1, 0x0, 0, 16, .const 0x4000, .ro, .any⟩
abbrev PW_GAIN_GREEN : Row := ⟨0x120, 12, 1, 0xb0, 8, 0x8, 1, 0x0, 16, 16, .const 0x4000, .ro, .any⟩
abbrev PW_GAIN_BLUE : Row := ⟨0x120, 12, 1, 0xb4, 8, 0x8, 1, 0x0, 0, 16, .const 0x4000, .ro, .any⟩
abbrev PW_GAIN_AT_LIMIT : Row := ⟨0x120, 12, 1, 0xb4, 8, 0x8, 1, 0x0, 16, 1, .const 0, .ro, .any⟩

/-! R161 -/
abbrev OPAL_CTL_LIN_SWAP : Row := ⟨0x140, 1, 1, 0x20, 1, 0x0, 1, 0x0, 0, 1, .const 0, .sh, .any⟩
abbrev OPAL_CTL_WGT_SWAP : Row := ⟨0x140, 1, 1, 0x20, 1, 0x0, 1, 0x0, 1, 1, .const 0, .sh, .any⟩
abbrev OPAL_CTL_INSTALL : Row := ⟨0x140, 1, 1, 0x20, 1, 0x0, 1, 0x0, 2, 1, .const 0, .sh, .any⟩
abbrev OPAL_CTL_INSTALL_SLOT : Row := ⟨0x140, 1, 1, 0x20, 1, 0x0, 1, 0x0, 3, 2, .const 0, .sh, .any⟩
abbrev OPAL_CAP_GO : Row := ⟨0x140, 1, 1, 0x24, 1, 0x0, 1, 0x0, 0, 1, .const 0, .wo, .any⟩
abbrev OPAL_CAP_KIND : Row := ⟨0x140, 1, 1, 0x24, 1, 0x0, 1, 0x0, 1, 1, .const 0, .wo, .any⟩
abbrev OPAL_CAP_LINES_LOG : Row := ⟨0x140, 1, 1, 0x24, 1, 0x0, 1, 0x0, 2, 4, .const 0, .wo, .range 4 12⟩
abbrev OPAL_CAP_TARGET_A_RED : Row := ⟨0x140, 1, 1, 0x28, 1, 0x0, 1, 0x0, 0, 16, .const 0xe000, .rw, .any⟩
abbrev OPAL_CAP_TARGET_A_GREEN : Row := ⟨0x140, 1, 1, 0x28, 1, 0x0, 1, 0x0, 16, 16, .const 0xe000, .rw, .any⟩
abbrev OPAL_CAP_TARGET_B_BLUE : Row := ⟨0x140, 1, 1, 0x2c, 1, 0x0, 1, 0x0, 0, 16, .const 0xe000, .rw, .any⟩
abbrev OPAL_CAP_STATUS_STATE : Row := ⟨0x140, 1, 1, 0x30, 1, 0x0, 1, 0x0, 0, 2, .const 0, .ro, .any⟩
abbrev OPAL_CAP_STATUS_OUTCOME : Row := ⟨0x140, 1, 1, 0x30, 1, 0x0, 1, 0x0, 2, 4, .const 0, .ro, .any⟩
abbrev OPAL_CAP_STATUS_KIND : Row := ⟨0x140, 1, 1, 0x30, 1, 0x0, 1, 0x0, 6, 1, .const 0, .ro, .any⟩
abbrev OPAL_CAP_STATUS_LINES : Row := ⟨0x140, 1, 1, 0x30, 1, 0x0, 1, 0x0, 16, 13, .const 0, .ro, .any⟩
abbrev OPAL_CAP_START_LO : Row := ⟨0x140, 1, 1, 0x34, 1, 0x0, 1, 0x0, 0, 32, .const 0, .ro, .any⟩
abbrev OPAL_CAP_CLIPPED_COUNT : Row := ⟨0x140, 1, 1, 0x38, 1, 0x0, 1, 0x0, 0, 32, .const 0, .ro, .any⟩
abbrev OPAL_CAP_BAD_COUNT : Row := ⟨0x140, 1, 1, 0x3c, 1, 0x0, 1, 0x0, 0, 32, .const 0, .ro, .any⟩

/-! R163 -/
abbrev OPAL_HDR_TEMP : Row := ⟨0x142, 5, 1, 0x100, 96, 0x4, 1, 0x0, 0, 16, .const 0, .ro, .any⟩
abbrev OPAL_HDR_VALID : Row := ⟨0x142, 5, 1, 0x100, 96, 0x4, 1, 0x0, 16, 1, .const 0, .ro, .any⟩

/-! R164 -/
abbrev PW_CTL_MODE : Row := ⟨0x147, 1, 1, 0x20, 1, 0x0, 1, 0x0, 0, 2, .const 1, .rw, .any⟩
abbrev PW_CTL_RESET : Row := ⟨0x147, 1, 1, 0x20, 1, 0x0, 1, 0x0, 2, 1, .const 0, .wo, .any⟩
abbrev PW_CTL_GUARD : Row := ⟨0x147, 1, 1, 0x20, 1, 0x0, 1, 0x0, 4, 3, .const 3, .rw, .any⟩
abbrev PW_CTL_RATE : Row := ⟨0x147, 1, 1, 0x20, 1, 0x0, 1, 0x0, 8, 4, .const 4, .rw, .any⟩
abbrev PW_CTL_LINES : Row := ⟨0x147, 1, 1, 0x20, 1, 0x0, 1, 0x0, 16, 16, .const 0x400, .rw, .range 64 65535⟩
abbrev PW_MIN_PIXELS : Row := ⟨0x147, 1, 1, 0x24, 1, 0x0, 1, 0x0, 0, 24, .const 0x1000, .rw, .any⟩
abbrev PW_LIMIT_LO : Row := ⟨0x147, 1, 1, 0x28, 1, 0x0, 1, 0x0, 0, 16, .const 0x3800, .rw, .any⟩
abbrev PW_LIMIT_HI : Row := ⟨0x147, 1, 1, 0x28, 1, 0x0, 1, 0x0, 16, 16, .const 0x4800, .rw, .any⟩
abbrev PW_TARGET_A_RED : Row := ⟨0x147, 1, 1, 0x2c, 1, 0x0, 1, 0x0, 0, 16, .const 0xe000, .rw, .any⟩
abbrev PW_TARGET_A_GREEN : Row := ⟨0x147, 1, 1, 0x2c, 1, 0x0, 1, 0x0, 16, 16, .const 0xe000, .rw, .any⟩
abbrev PW_TARGET_B_BLUE : Row := ⟨0x147, 1, 1, 0x30, 1, 0x0, 1, 0x0, 0, 16, .const 0xe000, .rw, .any⟩
abbrev PW_WINDOWS_COUNT : Row := ⟨0x147, 1, 1, 0x34, 1, 0x0, 1, 0x0, 0, 32, .const 0, .ro, .any⟩

/-! R184 -/
abbrev REF_CTL_EN : Row := ⟨0x160, 1, 1, 0x20, 1, 0x0, 1, 0x0, 0, 1, .const 0, .sh, .any⟩
abbrev REF_CTL_FORMAT : Row := ⟨0x160, 1, 1, 0x20, 1, 0x0, 1, 0x0, 1, 2, .const 1, .sh, .any⟩
abbrev REF_CTL_RX : Row := ⟨0x160, 1, 1, 0x20, 1, 0x0, 1, 0x0, 3, 2, .const 0, .sh, .any⟩
abbrev REF_CTL_RY : Row := ⟨0x160, 1, 1, 0x20, 1, 0x0, 1, 0x0, 5, 2, .const 0, .sh, .any⟩
abbrev REF_CTL_BLUR_A : Row := ⟨0x160, 1, 1, 0x20, 1, 0x0, 1, 0x0, 7, 1, .const 0, .sh, .any⟩
abbrev REF_CTL_CLASS_A : Row := ⟨0x160, 1, 1, 0x20, 1, 0x0, 1, 0x0, 8, 4, .const 0, .sh, .any⟩
abbrev REF_CTL_CRC_REQ : Row := ⟨0x160, 1, 1, 0x20, 1, 0x0, 1, 0x0, 12, 1, .const 0, .sh, .any⟩
abbrev REF_JOB_TAG : Row := ⟨0x160, 1, 1, 0x24, 1, 0x0, 1, 0x0, 0, 16, .const 0, .sh, .any⟩
abbrev REF_Y0_LO_VALUE : Row := ⟨0x160, 1, 1, 0x28, 1, 0x0, 1, 0x0, 0, 32, .const 0, .sh, .any⟩
abbrev REF_Y0_HI_VALUE : Row := ⟨0x160, 1, 1, 0x2c, 1, 0x0, 1, 0x0, 0, 16, .const 0, .sh, .any⟩
abbrev REF_X0_VALUE : Row := ⟨0x160, 1, 1, 0x30, 1, 0x0, 1, 0x0, 0, 32, .const 0, .sh, .any⟩
abbrev REF_WIDTH_PIXELS : Row := ⟨0x160, 1, 1, 0x34, 1, 0x0, 1, 0x0, 0, 18, .const 0x13210, .sh, .any⟩
abbrev REF_Q_QUEUE : Row := ⟨0x160, 1, 1, 0x38, 1, 0x0, 1, 0x0, 0, 18, .const 0, .sh, .any⟩
abbrev REF_Q_VALID : Row := ⟨0x160, 1, 1, 0x38, 1, 0x0, 1, 0x0, 31, 1, .const 0, .sh, .any⟩
abbrev REF_PAPER_A_MIN : Row := ⟨0x160, 1, 1, 0x3c, 1, 0x0, 1, 0x0, 0, 16, .const 0xd000, .sh, .any⟩
abbrev REF_PAPER_LEAD_WARN : Row := ⟨0x160, 1, 1, 0x3c, 1, 0x0, 1, 0x0, 16, 16, .const 128, .rw, .any⟩
abbrev REF_BLUR_H0 : Row := ⟨0x160, 1, 1, 0x40, 1, 0x0, 1, 0x0, 0, 16, .const 0, .sh, .any⟩
abbrev REF_BLUR_H1 : Row := ⟨0x160, 1, 1, 0x40, 1, 0x0, 1, 0x0, 16, 16, .const 0, .sh, .any⟩
abbrev REF_BLUR_H2 : Row := ⟨0x160, 1, 1, 0x44, 1, 0x0, 1, 0x0, 0, 16, .const 0x4000, .sh, .any⟩
abbrev REF_BLUR_H3 : Row := ⟨0x160, 1, 1, 0x44, 1, 0x0, 1, 0x0, 16, 16, .const 0, .sh, .any⟩
abbrev REF_BLUR_H4 : Row := ⟨0x160, 1, 1, 0x48, 1, 0x0, 1, 0x0, 0, 16, .const 0, .sh, .any⟩
abbrev REF_BLUR_V0 : Row := ⟨0x160, 1, 1, 0x4c, 1, 0x0, 1, 0x0, 0, 16, .const 0, .sh, .any⟩
abbrev REF_BLUR_V1 : Row := ⟨0x160, 1, 1, 0x4c, 1, 0x0, 1, 0x0, 16, 16, .const 0, .sh, .any⟩
abbrev REF_BLUR_V2 : Row := ⟨0x160, 1, 1, 0x50, 1, 0x0, 1, 0x0, 0, 16, .const 0x4000, .sh, .any⟩
abbrev REF_BLUR_V3 : Row := ⟨0x160, 1, 1, 0x50, 1, 0x0, 1, 0x0, 16, 16, .const 0, .sh, .any⟩
abbrev REF_BLUR_V4 : Row := ⟨0x160, 1, 1, 0x54, 1, 0x0, 1, 0x0, 0, 16, .const 0, .sh, .any⟩
abbrev REF_FRONT_LO_VALUE : Row := ⟨0x160, 1, 1, 0x60, 1, 0x0, 1, 0x0, 0, 32, .const 0, .ro, .any⟩
abbrev REF_FRONT_HI_VALUE : Row := ⟨0x160, 1, 1, 0x64, 1, 0x0, 1, 0x0, 0, 16, .const 0, .ro, .any⟩
abbrev REF_LIMIT_LO_VALUE : Row := ⟨0x160, 1, 1, 0x68, 1, 0x0, 1, 0x0, 0, 32, .const 0, .ro, .any⟩
abbrev REF_LIMIT_HI_VALUE : Row := ⟨0x160, 1, 1, 0x6c, 1, 0x0, 1, 0x0, 0, 16, .const 0, .ro, .any⟩
abbrev REF_LIMIT_PEND_LO_VALUE : Row := ⟨0x160, 1, 1, 0x70, 1, 0x0, 1, 0x0, 0, 32, .const 0, .ro, .any⟩
abbrev REF_LIMIT_PEND_HI_VALUE : Row := ⟨0x160, 1, 1, 0x74, 1, 0x0, 1, 0x0, 0, 16, .const 0, .ro, .any⟩
abbrev REF_LEAD_VALUE : Row := ⟨0x160, 1, 1, 0x78, 1, 0x0, 1, 0x0, 0, 16, .const 0, .ro, .any⟩
abbrev REF_CAP_CAP : Row := ⟨0x160, 1, 1, 0x7c, 1, 0x0, 1, 0x0, 0, 16, .const 0x140, .ro, .any⟩
abbrev REF_CAP_CAP_SCAN : Row := ⟨0x160, 1, 1, 0x7c, 1, 0x0, 1, 0x0, 16, 16, .const 0x140, .ro, .any⟩
abbrev REF_JOB_STATUS_TAG : Row := ⟨0x160, 1, 1, 0x80, 1, 0x0, 1, 0x0, 0, 16, .const 0, .ro, .any⟩
abbrev REF_JOB_STATUS_PEND_TAG : Row := ⟨0x160, 1, 1, 0x80, 1, 0x0, 1, 0x0, 16, 16, .const 0, .ro, .any⟩
abbrev REF_STATE_PENDING : Row := ⟨0x160, 1, 1, 0x84, 1, 0x0, 1, 0x0, 0, 1, .const 0, .ro, .any⟩
abbrev REF_STATE_WAITING : Row := ⟨0x160, 1, 1, 0x84, 1, 0x0, 1, 0x0, 1, 1, .const 0, .ro, .any⟩
abbrev REF_LATE_COUNT : Row := ⟨0x160, 1, 1, 0x88, 1, 0x0, 1, 0x0, 0, 32, .const 0, .ro, .any⟩
abbrev REF_STALE_COUNT : Row := ⟨0x160, 1, 1, 0x8c, 1, 0x0, 1, 0x0, 0, 32, .const 0, .ro, .any⟩
abbrev REF_MALFORMED_COUNT : Row := ⟨0x160, 1, 1, 0x90, 1, 0x0, 1, 0x0, 0, 32, .const 0, .ro, .any⟩
abbrev REF_REWRITE_COUNT : Row := ⟨0x160, 1, 1, 0x94, 1, 0x0, 1, 0x0, 0, 32, .const 0, .ro, .any⟩

/-! R186 -/
abbrev PRED_RED : Row := ⟨0x161, 1, 1, 0x800, 256, 0x8, 1, 0x0, 0, 16, .const 0, .sh, .any⟩
abbrev PRED_GREEN : Row := ⟨0x161, 1, 1, 0x800, 256, 0x8, 1, 0x0, 16, 16, .const 0, .sh, .any⟩
abbrev PRED_BLUE : Row := ⟨0x161, 1, 1, 0x804, 256, 0x8, 1, 0x0, 0, 16, .const 0, .sh, .any⟩
abbrev PRED_CLASS : Row := ⟨0x161, 1, 1, 0x804, 256, 0x8, 1, 0x0, 16, 4, .const 0, .sh, .any⟩
abbrev PRED_DC : Row := ⟨0x161, 1, 1, 0x804, 256, 0x8, 1, 0x0, 20, 1, .const 1, .sh, .any⟩
abbrev PRED_PAPER : Row := ⟨0x161, 1, 1, 0x804, 256, 0x8, 1, 0x0, 21, 1, .const 0, .sh, .any⟩

/-! R187 -/
abbrev EXP_RED : Row := ⟨0x162, 1, 1, 0x800, 256, 0x8, 1, 0x0, 0, 16, .exp, .sh, .any⟩
abbrev EXP_GREEN : Row := ⟨0x162, 1, 1, 0x800, 256, 0x8, 1, 0x0, 16, 16, .exp, .sh, .any⟩
abbrev EXP_BLUE : Row := ⟨0x162, 1, 1, 0x804, 256, 0x8, 1, 0x0, 0, 16, .exp, .sh, .any⟩

/-! R207 -/
abbrev REG_CTL_EN : Row := ⟨0x180, 1, 1, 0x20, 1, 0x0, 1, 0x0, 0, 1, .const 0, .sh, .any⟩
abbrev REG_CTL_TILE : Row := ⟨0x180, 1, 1, 0x20, 1, 0x0, 1, 0x0, 1, 2, .const 1, .sh, .any⟩
abbrev REG_CTL_PRED : Row := ⟨0x180, 1, 1, 0x20, 1, 0x0, 1, 0x0, 3, 1, .const 1, .sh, .any⟩
abbrev REG_CTL_FINE_EN : Row := ⟨0x180, 1, 1, 0x20, 1, 0x0, 1, 0x0, 4, 1, .const 1, .sh, .any⟩
abbrev REG_CTL_GAIN : Row := ⟨0x180, 1, 1, 0x20, 1, 0x0, 1, 0x0, 8, 8, .const 192, .sh, .any⟩
abbrev REG_THRESH_MIN_CONF : Row := ⟨0x180, 1, 1, 0x24, 1, 0x0, 1, 0x0, 0, 8, .const 153, .sh, .any⟩
abbrev REG_THRESH_MIN_MARGIN : Row := ⟨0x180, 1, 1, 0x24, 1, 0x0, 1, 0x0, 8, 8, .const 26, .sh, .any⟩
abbrev REG_THRESH_MIN_TEX : Row := ⟨0x180, 1, 1, 0x24, 1, 0x0, 1, 0x0, 16, 16, .const 0x200, .sh, .any⟩
abbrev REG_ACQ_MIN_FRAC : Row := ⟨0x180, 1, 1, 0x28, 1, 0x0, 1, 0x0, 0, 8, .const 128, .sh, .any⟩
abbrev REG_ACQ_ROWS : Row := ⟨0x180, 1, 1, 0x28, 1, 0x0, 1, 0x0, 8, 4, .const 2, .sh, .range 1 15⟩
abbrev REG_ACQ_LOSS_ROWS : Row := ⟨0x180, 1, 1, 0x28, 1, 0x0, 1, 0x0, 12, 4, .const 4, .sh, .range 1 15⟩
abbrev REG_ACQ_LOSS_FRAC : Row := ⟨0x180, 1, 1, 0x28, 1, 0x0, 1, 0x0, 16, 8, .const 64, .sh, .any⟩
abbrev REG_ACQ_JUMP : Row := ⟨0x180, 1, 1, 0x28, 1, 0x0, 1, 0x0, 24, 8, .const 8, .sh, .any⟩
abbrev REG_INIT_DX : Row := ⟨0x180, 1, 1, 0x2c, 1, 0x0, 1, 0x0, 0, 11, .const 0, .sh, .any⟩
abbrev REG_INIT_DY : Row := ⟨0x180, 1, 1, 0x2c, 1, 0x0, 1, 0x0, 16, 11, .const 0, .sh, .any⟩
abbrev REG_Q_QUEUE : Row := ⟨0x180, 1, 1, 0x30, 1, 0x0, 1, 0x0, 0, 18, .const 0, .sh, .any⟩
abbrev REG_Q_VALID : Row := ⟨0x180, 1, 1, 0x30, 1, 0x0, 1, 0x0, 31, 1, .const 0, .sh, .any⟩
abbrev REG_CMD_REACQ : Row := ⟨0x180, 1, 1, 0x34, 1, 0x0, 1, 0x0, 0, 1, .const 0, .wo, .any⟩
abbrev REG_STATUS_STATE : Row := ⟨0x180, 1, 1, 0x38, 1, 0x0, 1, 0x0, 0, 2, .const 0, .ro, .any⟩
abbrev REG_STATUS_TILE : Row := ⟨0x180, 1, 1, 0x38, 1, 0x0, 1, 0x0, 2, 2, .const 1, .ro, .any⟩
abbrev REG_STATUS_QROWS : Row := ⟨0x180, 1, 1, 0x38, 1, 0x0, 1, 0x0, 8, 4, .const 0, .ro, .any⟩
abbrev REG_STATUS_NCOL : Row := ⟨0x180, 1, 1, 0x38, 1, 0x0, 1, 0x0, 16, 10, .const 0, .ro, .any⟩
abbrev REG_ROW_ROW : Row := ⟨0x180, 1, 1, 0x3c, 1, 0x0, 1, 0x0, 0, 32, .const 0xffffffff, .ro, .any⟩
abbrev REG_ROW_INFO_ACCEPTED : Row := ⟨0x180, 1, 1, 0x40, 1, 0x0, 1, 0x0, 0, 10, .const 0, .ro, .any⟩
abbrev REG_ROW_INFO_FILLED : Row := ⟨0x180, 1, 1, 0x40, 1, 0x0, 1, 0x0, 16, 10, .const 0, .ro, .any⟩
abbrev REG_ACQ_LINE_LO_VALUE : Row := ⟨0x180, 1, 1, 0x44, 1, 0x0, 1, 0x0, 0, 32, .const 0, .ro, .any⟩
abbrev REG_ACQ_LINE_HI_VALUE : Row := ⟨0x180, 1, 1, 0x48, 1, 0x0, 1, 0x0, 0, 16, .const 0, .ro, .any⟩
abbrev REG_TRACK_LINE_LO_VALUE : Row := ⟨0x180, 1, 1, 0x4c, 1, 0x0, 1, 0x0, 0, 32, .const 0, .ro, .any⟩
abbrev REG_TRACK_LINE_HI_VALUE : Row := ⟨0x180, 1, 1, 0x50, 1, 0x0, 1, 0x0, 0, 16, .const 0, .ro, .any⟩
abbrev REG_FAIL_A_TEX : Row := ⟨0x180, 1, 1, 0x54, 1, 0x0, 1, 0x0, 0, 16, .const 0, .ro, .any⟩
abbrev REG_FAIL_A_FEW : Row := ⟨0x180, 1, 1, 0x54, 1, 0x0, 1, 0x0, 16, 16, .const 0, .ro, .any⟩
abbrev REG_FAIL_B_CONF : Row := ⟨0x180, 1, 1, 0x58, 1, 0x0, 1, 0x0, 0, 16, .const 0, .ro, .any⟩
abbrev REG_FAIL_B_MARGIN : Row := ⟨0x180, 1, 1, 0x58, 1, 0x0, 1, 0x0, 16, 16, .const 0, .ro, .any⟩
abbrev REG_FAIL_C_RANGE : Row := ⟨0x180, 1, 1, 0x5c, 1, 0x0, 1, 0x0, 0, 16, .const 0, .ro, .any⟩
abbrev REG_FAIL_C_COARSE : Row := ⟨0x180, 1, 1, 0x5c, 1, 0x0, 1, 0x0, 16, 16, .const 0, .ro, .any⟩
abbrev REG_ACQS_COUNT : Row := ⟨0x180, 1, 1, 0x60, 1, 0x0, 1, 0x0, 0, 16, .const 0, .ro, .any⟩
abbrev REG_ACQS_DROPS : Row := ⟨0x180, 1, 1, 0x60, 1, 0x0, 1, 0x0, 16, 16, .const 0, .ro, .any⟩

/-! R209 -/
abbrev FIELD_CTL_FREEZE : Row := ⟨0x181, 1, 1, 0x20, 1, 0x0, 1, 0x0, 0, 1, .const 0, .rw, .any⟩
abbrev FIELD_ROW_ROW : Row := ⟨0x181, 1, 1, 0x24, 1, 0x0, 1, 0x0, 0, 32, .const 0xffffffff, .ro, .any⟩
abbrev FIELD_COLS_COL0 : Row := ⟨0x181, 1, 1, 0x28, 1, 0x0, 1, 0x0, 0, 16, .const 0, .ro, .any⟩
abbrev FIELD_COLS_NCOL : Row := ⟨0x181, 1, 1, 0x28, 1, 0x0, 1, 0x0, 16, 16, .const 0, .ro, .any⟩
abbrev FIELD_VALUE : Row := ⟨0x181, 1, 1, 0x100, 769, 0x4, 1, 0x0, 0, 32, .const 0, .ro, .any⟩

/-! R232 -/
abbrev COMP_CTL_EN : Row := ⟨0x1a0, 1, 1, 0x20, 1, 0x0, 1, 0x0, 0, 1, .const 0, .sh, .any⟩
abbrev COMP_CTL_OPEN_EN : Row := ⟨0x1a0, 1, 1, 0x20, 1, 0x0, 1, 0x0, 1, 1, .const 1, .sh, .any⟩
abbrev COMP_CTL_EDGE : Row := ⟨0x1a0, 1, 1, 0x20, 1, 0x0, 1, 0x0, 2, 1, .const 0, .sh, .any⟩
abbrev COMP_CTL_BLOB_EN : Row := ⟨0x1a0, 1, 1, 0x20, 1, 0x0, 1, 0x0, 3, 1, .const 1, .sh, .any⟩
abbrev COMP_LIMITS_BLOB_MAX_LINES : Row := ⟨0x1a0, 1, 1, 0x24, 1, 0x0, 1, 0x0, 0, 16, .const 0x1000, .sh, .range 16 65535⟩
abbrev COMP_LIMITS_MAX_UNINSP : Row := ⟨0x1a0, 1, 1, 0x24, 1, 0x0, 1, 0x0, 16, 8, .const 64, .sh, .any⟩
abbrev COV_CTL_MAX_LINES : Row := ⟨0x1a0, 1, 1, 0x28, 1, 0x0, 1, 0x0, 0, 16, .const 0x1000, .sh, .range 1 65535⟩
abbrev COV_Q_QUEUE : Row := ⟨0x1a0, 1, 1, 0x2c, 1, 0x0, 1, 0x0, 0, 18, .const 0, .sh, .any⟩
abbrev COV_Q_VALID : Row := ⟨0x1a0, 1, 1, 0x2c, 1, 0x0, 1, 0x0, 31, 1, .const 0, .sh, .any⟩
abbrev GUTTER_Q_QUEUE : Row := ⟨0x1a0, 1, 1, 0x30, 1, 0x0, 1, 0x0, 0, 18, .const 0, .sh, .any⟩
abbrev GUTTER_Q_VALID : Row := ⟨0x1a0, 1, 1, 0x30, 1, 0x0, 1, 0x0, 31, 1, .const 0, .sh, .any⟩
abbrev COMP_BLOBS_COUNT : Row := ⟨0x1a0, 1, 1, 0x34, 1, 0x0, 1, 0x0, 0, 32, .const 0, .ro, .any⟩
abbrev COMP_VERDICTS_COUNT : Row := ⟨0x1a0, 1, 1, 0x38, 1, 0x0, 1, 0x0, 0, 32, .const 0, .ro, .any⟩
abbrev COMP_DROP_BLOB : Row := ⟨0x1a0, 1, 1, 0x3c, 1, 0x0, 1, 0x0, 0, 16, .const 0, .ro, .any⟩
abbrev COMP_DROP_VERDICT : Row := ⟨0x1a0, 1, 1, 0x3c, 1, 0x0, 1, 0x0, 16, 16, .const 0, .ro, .any⟩
abbrev COV_RECORDS_COUNT : Row := ⟨0x1a0, 1, 1, 0x40, 1, 0x0, 1, 0x0, 0, 32, .const 0, .ro, .any⟩
abbrev COMP_STATUS_COV_BACKLOG : Row := ⟨0x1a0, 1, 1, 0x44, 1, 0x0, 1, 0x0, 0, 1, .const 0, .ro, .any⟩
abbrev COMP_STATUS_OPEN_BLOBS : Row := ⟨0x1a0, 1, 1, 0x44, 1, 0x0, 1, 0x0, 16, 16, .const 0, .ro, .any⟩
abbrev COMP_OVERFLOW_COUNT : Row := ⟨0x1a0, 1, 1, 0x48, 1, 0x0, 1, 0x0, 0, 32, .const 0, .ro, .any⟩

/-! R234 -/
abbrev TOL_TH_BASE : Row := ⟨0x1a1, 1, 1, 0x100, 16, 0x10, 1, 0x0, 0, 16, .const 0x800, .sh, .any⟩
abbrev TOL_TH_SLOPE : Row := ⟨0x1a1, 1, 1, 0x100, 16, 0x10, 1, 0x0, 16, 8, .const 16, .sh, .any⟩
abbrev TOL_WL : Row := ⟨0x1a1, 1, 1, 0x104, 16, 0x10, 1, 0x0, 0, 8, .const 16, .sh, .any⟩
abbrev TOL_WA : Row := ⟨0x1a1, 1, 1, 0x104, 16, 0x10, 1, 0x0, 8, 8, .const 8, .sh, .any⟩
abbrev TOL_WB : Row := ⟨0x1a1, 1, 1, 0x104, 16, 0x10, 1, 0x0, 16, 8, .const 8, .sh, .any⟩
abbrev TOL_FAIL_PEAK : Row := ⟨0x1a1, 1, 1, 0x108, 16, 0x10, 1, 0x0, 0, 16, .const 0x2000, .sh, .any⟩
abbrev TOL_FAIL_AREA : Row := ⟨0x1a1, 1, 1, 0x10c, 16, 0x10, 1, 0x0, 0, 32, .const 16, .sh, .any⟩

/-! R235 -/
abbrev IMP_CTL_EN : Row := ⟨0x1a2, 1, 1, 0x20, 1, 0x0, 1, 0x0, 0, 1, .const 0, .sh, .any⟩
abbrev IMP_Y0_LO_VALUE : Row := ⟨0x1a2, 1, 1, 0x24, 1, 0x0, 1, 0x0, 0, 32, .const 0, .sh, .any⟩
abbrev IMP_Y0_HI_VALUE : Row := ⟨0x1a2, 1, 1, 0x28, 1, 0x0, 1, 0x0, 0, 16, .const 0, .sh, .any⟩
abbrev IMP_REPEAT_LINES : Row := ⟨0x1a2, 1, 1, 0x2c, 1, 0x0, 1, 0x0, 0, 32, .const 0, .sh, .any⟩
abbrev IMP_X0_X : Row := ⟨0x1a2, 1, 1, 0x30, 1, 0x0, 1, 0x0, 0, 20, .const 0, .sh, .any⟩
abbrev IMP_GRID_COLS : Row := ⟨0x1a2, 1, 1, 0x34, 1, 0x0, 1, 0x0, 0, 9, .const 1, .sh, .any⟩
abbrev IMP_GRID_ROWS : Row := ⟨0x1a2, 1, 1, 0x34, 1, 0x0, 1, 0x0, 16, 9, .const 1, .sh, .any⟩
abbrev IMP_COL_PITCH_PIXELS : Row := ⟨0x1a2, 1, 1, 0x38, 1, 0x0, 1, 0x0, 0, 20, .const 0, .sh, .any⟩
abbrev IMP_ITEM_W_PIXELS : Row := ⟨0x1a2, 1, 1, 0x3c, 1, 0x0, 1, 0x0, 0, 20, .const 0, .sh, .any⟩
abbrev IMP_ROW_PITCH_LINES : Row := ⟨0x1a2, 1, 1, 0x40, 1, 0x0, 1, 0x0, 0, 32, .const 0, .sh, .any⟩
abbrev IMP_ITEM_H_LINES : Row := ⟨0x1a2, 1, 1, 0x44, 1, 0x0, 1, 0x0, 0, 32, .const 0, .sh, .any⟩
abbrev IMP_ID_BASE_VALUE : Row := ⟨0x1a2, 1, 1, 0x48, 1, 0x0, 1, 0x0, 0, 32, .const 0, .sh, .any⟩

/-! R236 -/
abbrev ITEM_QUEUE : Row := ⟨0x1a3, 8, 1, 0x800, 512, 0x4, 1, 0x0, 0, 18, .const 0, .sh, .any⟩
abbrev ITEM_BLOBS : Row := ⟨0x1a3, 8, 1, 0x800, 512, 0x4, 1, 0x0, 30, 1, .const 1, .sh, .any⟩
abbrev ITEM_VALID : Row := ⟨0x1a3, 8, 1, 0x800, 512, 0x4, 1, 0x0, 31, 1, .const 0, .sh, .any⟩

/-! R258 -/
abbrev MP_CTL_PATCH_EN : Row := ⟨0x1c0, 1, 1, 0x20, 1, 0x0, 1, 0x0, 0, 1, .const 0, .sh, .any⟩
abbrev MP_CTL_MARK_EN : Row := ⟨0x1c0, 1, 1, 0x20, 1, 0x0, 1, 0x0, 1, 1, .const 0, .sh, .any⟩
abbrev MP_CTL_PREV_EN : Row := ⟨0x1c0, 1, 1, 0x20, 1, 0x0, 1, 0x0, 2, 1, .const 0, .sh, .any⟩
abbrev MP_CTL_CROP_EN : Row := ⟨0x1c0, 1, 1, 0x20, 1, 0x0, 1, 0x0, 3, 1, .const 0, .sh, .any⟩
abbrev PROD_Q_QUEUE : Row := ⟨0x1c0, 1, 1, 0x24, 3, 0x4, 1, 0x0, 0, 18, .const 0, .sh, .any⟩
abbrev PROD_Q_VALID : Row := ⟨0x1c0, 1, 1, 0x24, 3, 0x4, 1, 0x0, 31, 1, .const 0, .sh, .any⟩
abbrev PREV_GEOM_FX : Row := ⟨0x1c0, 1, 1, 0x30, 1, 0x0, 1, 0x0, 0, 5, .const 4, .sh, .range 2 16⟩
abbrev PREV_GEOM_FY : Row := ⟨0x1c0, 1, 1, 0x30, 1, 0x0, 1, 0x0, 8, 5, .const 4, .sh, .range 2 16⟩
abbrev PREV_GEOM_FORMAT : Row := ⟨0x1c0, 1, 1, 0x30, 1, 0x0, 1, 0x0, 16, 1, .const 1, .sh, .any⟩
abbrev PREV_GEOM_SKIP : Row := ⟨0x1c0, 1, 1, 0x30, 1, 0x0, 1, 0x0, 24, 8, .const 1, .sh, .range 1 255⟩
abbrev PREV_X0_X : Row := ⟨0x1c0, 1, 1, 0x34, 1, 0x0, 1, 0x0, 0, 20, .const 0, .sh, .any⟩
abbrev PREV_WIDTH_PIXELS : Row := ⟨0x1c0, 1, 1, 0x38, 1, 0x0, 1, 0x0, 0, 20, .const 0, .sh, .any⟩
abbrev CROP_GEOM_W16 : Row := ⟨0x1c0, 1, 1, 0x3c, 1, 0x0, 1, 0x0, 0, 5, .const 8, .sh, .range 1 16⟩
abbrev CROP_GEOM_H16 : Row := ⟨0x1c0, 1, 1, 0x3c, 1, 0x0, 1, 0x0, 8, 5, .const 8, .sh, .range 1 16⟩
abbrev CROP_GEOM_MARGIN : Row := ⟨0x1c0, 1, 1, 0x3c, 1, 0x0, 1, 0x0, 16, 3, .const 4, .sh, .range 0 4⟩
abbrev CROP_GEOM_FORMAT : Row := ⟨0x1c0, 1, 1, 0x3c, 1, 0x0, 1, 0x0, 20, 1, .const 0, .sh, .any⟩
abbrev CROP_GEOM_FAIL_ONLY : Row := ⟨0x1c0, 1, 1, 0x3c, 1, 0x0, 1, 0x0, 21, 1, .const 1, .sh, .any⟩
abbrev CROP_CLASSES_MASK : Row := ⟨0x1c0, 1, 1, 0x40, 1, 0x0, 1, 0x0, 0, 16, .const 0xffff, .sh, .any⟩
abbrev CROP_RATE_PER_S : Row := ⟨0x1c0, 1, 1, 0x44, 1, 0x0, 1, 0x0, 0, 16, .const 100, .sh, .any⟩
abbrev CROP_RATE_BURST : Row := ⟨0x1c0, 1, 1, 0x44, 1, 0x0, 1, 0x0, 16, 8, .const 8, .sh, .range 1 255⟩
abbrev PATCH_MIN_PIXELS : Row := ⟨0x1c0, 1, 1, 0x48, 1, 0x0, 1, 0x0, 0, 24, .const 0x100, .sh, .any⟩
abbrev PREV_DROP_COUNT : Row := ⟨0x1c0, 1, 1, 0x4c, 1, 0x0, 1, 0x0, 0, 32, .const 0, .ro, .any⟩
abbrev CROP_SKIP_RATE : Row := ⟨0x1c0, 1, 1, 0x50, 1, 0x0, 1, 0x0, 0, 16, .const 0, .ro, .any⟩
abbrev CROP_SKIP_BUSY : Row := ⟨0x1c0, 1, 1, 0x50, 1, 0x0, 1, 0x0, 16, 16, .const 0, .ro, .any⟩
abbrev CROP_SHED_COUNT : Row := ⟨0x1c0, 1, 1, 0x54, 1, 0x0, 1, 0x0, 0, 32, .const 0, .ro, .any⟩
abbrev CROP_DONE_COUNT : Row := ⟨0x1c0, 1, 1, 0x58, 1, 0x0, 1, 0x0, 0, 32, .const 0, .ro, .any⟩
abbrev MEAS_DROP_PATCH : Row := ⟨0x1c0, 1, 1, 0x5c, 1, 0x0, 1, 0x0, 0, 16, .const 0, .ro, .any⟩
abbrev MEAS_DROP_MARK : Row := ⟨0x1c0, 1, 1, 0x5c, 1, 0x0, 1, 0x0, 16, 16, .const 0, .ro, .any⟩

/-! R260 -/
abbrev PATCH_ID : Row := ⟨0x1c1, 1, 1, 0x100, 64, 0x20, 1, 0x0, 0, 16, .const 0, .sh, .any⟩
abbrev PATCH_CLASS : Row := ⟨0x1c1, 1, 1, 0x100, 64, 0x20, 1, 0x0, 16, 4, .const 0, .sh, .any⟩
abbrev PATCH_INSET : Row := ⟨0x1c1, 1, 1, 0x100, 64, 0x20, 1, 0x0, 20, 4, .const 0, .sh, .any⟩
abbrev PATCH_EN : Row := ⟨0x1c1, 1, 1, 0x100, 64, 0x20, 1, 0x0, 31, 1, .const 0, .sh, .any⟩
abbrev PATCH_X0 : Row := ⟨0x1c1, 1, 1, 0x104, 64, 0x20, 1, 0x0, 0, 20, .const 0, .sh, .any⟩
abbrev PATCH_W : Row := ⟨0x1c1, 1, 1, 0x108, 64, 0x20, 1, 0x0, 0, 13, .const 0, .sh, .any⟩
abbrev PATCH_H : Row := ⟨0x1c1, 1, 1, 0x108, 64, 0x20, 1, 0x0, 16, 13, .const 0, .sh, .any⟩
abbrev PATCH_OFF : Row := ⟨0x1c1, 1, 1, 0x10c, 64, 0x20, 1, 0x0, 0, 32, .const 0, .sh, .any⟩

/-! R261 -/
abbrev MARK_ID : Row := ⟨0x1c2, 1, 1, 0x100, 32, 0x10, 1, 0x0, 0, 16, .const 0, .sh, .any⟩
abbrev MARK_INKS : Row := ⟨0x1c2, 1, 1, 0x100, 32, 0x10, 1, 0x0, 16, 8, .const 0, .sh, .any⟩
abbrev MARK_EN : Row := ⟨0x1c2, 1, 1, 0x100, 32, 0x10, 1, 0x0, 31, 1, .const 0, .sh, .any⟩
abbrev MARK_X0 : Row := ⟨0x1c2, 1, 1, 0x104, 32, 0x10, 1, 0x0, 0, 20, .const 0, .sh, .any⟩
abbrev MARK_W : Row := ⟨0x1c2, 1, 1, 0x108, 32, 0x10, 1, 0x0, 0, 10, .const 0, .sh, .any⟩
abbrev MARK_H : Row := ⟨0x1c2, 1, 1, 0x108, 32, 0x10, 1, 0x0, 16, 10, .const 0, .sh, .any⟩
abbrev MARK_OFF : Row := ⟨0x1c2, 1, 1, 0x10c, 32, 0x10, 1, 0x0, 0, 32, .const 0, .sh, .any⟩
abbrev INK_RED : Row := ⟨0x1c2, 1, 1, 0x400, 8, 0x10, 1, 0x0, 0, 16, .const 0, .sh, .any⟩
abbrev INK_GREEN : Row := ⟨0x1c2, 1, 1, 0x400, 8, 0x10, 1, 0x0, 16, 16, .const 0, .sh, .any⟩
abbrev INK_BLUE : Row := ⟨0x1c2, 1, 1, 0x404, 8, 0x10, 1, 0x0, 0, 16, .const 0, .sh, .any⟩
abbrev INK_RADIUS : Row := ⟨0x1c2, 1, 1, 0x404, 8, 0x10, 1, 0x0, 16, 16, .const 0x1000, .sh, .any⟩
abbrev INK_CLASS : Row := ⟨0x1c2, 1, 1, 0x408, 8, 0x10, 1, 0x0, 0, 4, .const 0, .sh, .any⟩

/-! R288 -/
abbrev BVC_CTL_MODE : Row := ⟨0x220, 1, 1, 0x20, 8, 0x10, 1, 0x0, 0, 2, .const 0, .rw, .any⟩
abbrev BVC_AT_S : Row := ⟨0x220, 1, 1, 0x24, 8, 0x10, 1, 0x0, 0, 10, .const 0, .rw, .any⟩
abbrev BVC_AT_V : Row := ⟨0x220, 1, 1, 0x24, 8, 0x10, 1, 0x0, 16, 10, .const 0, .rw, .any⟩
abbrev BVC_DATA_CODE : Row := ⟨0x220, 1, 1, 0x28, 8, 0x10, 1, 0x0, 0, 14, .const 0, .ro, .any⟩
abbrev BVC_DATA_VALID : Row := ⟨0x220, 1, 1, 0x28, 8, 0x10, 1, 0x0, 14, 1, .const 0, .ro, .any⟩
abbrev BVC_DATA_OVERRUN : Row := ⟨0x220, 1, 1, 0x28, 8, 0x10, 1, 0x0, 15, 1, .const 0, .ro, .any⟩
abbrev BVC_DATA_CLIP : Row := ⟨0x220, 1, 1, 0x28, 8, 0x10, 1, 0x0, 16, 1, .const 0, .ro, .any⟩

/-! R290 -/
abbrev BR_CTL_EN : Row := ⟨0x200, 4, 1, 0x20, 1, 0x0, 1, 0x0, 0, 1, .const 0, .sh, .any⟩
abbrev BR_CTL_INTERLEAVE : Row := ⟨0x200, 4, 1, 0x20, 1, 0x0, 1, 0x0, 1, 1, .const 1, .sh, .any⟩
abbrev BR_CTL_TSRC : Row := ⟨0x200, 4, 1, 0x20, 1, 0x0, 1, 0x0, 2, 1, .const 0, .sh, .any⟩
abbrev BR_CTL_RECAL_AUTO : Row := ⟨0x200, 4, 1, 0x20, 1, 0x0, 1, 0x0, 3, 1, .const 1, .rw, .any⟩
abbrev BR_CTL_ITEM_EN : Row := ⟨0x200, 4, 1, 0x20, 1, 0x0, 1, 0x0, 4, 1, .const 0, .sh, .any⟩
abbrev BR_CTL_REGION_EN : Row := ⟨0x200, 4, 1, 0x20, 1, 0x0, 1, 0x0, 5, 1, .const 0, .sh, .any⟩
abbrev BR_MCLK_KHZ : Row := ⟨0x200, 4, 1, 0x24, 1, 0x0, 1, 0x0, 0, 17, .const 0x4e20, .sh, .range 1000 40000⟩
abbrev BR_MCLK_PHASE : Row := ⟨0x200, 4, 1, 0x24, 1, 0x0, 1, 0x0, 17, 4, .const 8, .sh, .any⟩
abbrev BR_GEOM_COLS : Row := ⟨0x200, 4, 1, 0x28, 1, 0x0, 1, 0x0, 0, 11, .const 0x280, .sh, .evenRange 32 1024⟩
abbrev BR_GEOM_ROWS : Row := ⟨0x200, 4, 1, 0x28, 1, 0x0, 1, 0x0, 16, 10, .const 0x1e0, .sh, .range 16 768⟩
abbrev BR_TIMING_HSKIP : Row := ⟨0x200, 4, 1, 0x2c, 1, 0x0, 1, 0x0, 0, 10, .const 16, .sh, .any⟩
abbrev BR_TIMING_FPS : Row := ⟨0x200, 4, 1, 0x2c, 1, 0x0, 1, 0x0, 16, 6, .const 30, .sh, .range 1 60⟩
abbrev BR_TIMING_EVERY : Row := ⟨0x200, 4, 1, 0x2c, 1, 0x0, 1, 0x0, 24, 8, .const 1, .sh, .range 1 255⟩
abbrev BR_POOL_BASE : Row := ⟨0x200, 4, 1, 0x30, 1, 0x0, 1, 0x0, 0, 13, .const 0, .sh, .any⟩
abbrev BR_POOL_GSETS : Row := ⟨0x200, 4, 1, 0x30, 1, 0x0, 1, 0x0, 16, 2, .const 0, .sh, .any⟩
abbrev BR_EXP_OFFSET_NS : Row := ⟨0x200, 4, 1, 0x34, 1, 0x0, 1, 0x0, 0, 32, .const 0, .sh, .any⟩
abbrev BR_TEMP_T_OFF : Row := ⟨0x200, 4, 1, 0x38, 1, 0x0, 1, 0x0, 0, 16, .const 0, .sh, .any⟩
abbrev BR_TEMP_T_GAIN : Row := ⟨0x200, 4, 1, 0x38, 1, 0x0, 1, 0x0, 16, 16, .const 0x1000, .sh, .any⟩
abbrev BR_TEMP_CMD_WORD : Row := ⟨0x200, 4, 1, 0x3c, 1, 0x0, 1, 0x0, 0, 32, .const 0, .sh, .any⟩
abbrev BR_H_VALUE : Row := ⟨0x200, 4, 1, 0x40, 9, 0x4, 1, 0x0, 0, 32, .byIndex [0x00100000, 0, 0, 0, 0x00100000, 0, 0, 0, 0x10000000], .sh, .any⟩
abbrev BR_GTEMP_A_SET0 : Row := ⟨0x200, 4, 1, 0x64, 1, 0x0, 1, 0x0, 0, 16, .const 0, .sh, .any⟩
abbrev BR_GTEMP_A_SET1 : Row := ⟨0x200, 4, 1, 0x64, 1, 0x0, 1, 0x0, 16, 16, .const 0, .sh, .any⟩
abbrev BR_GTEMP_B_SET2 : Row := ⟨0x200, 4, 1, 0x68, 1, 0x0, 1, 0x0, 0, 16, .const 0, .sh, .any⟩
abbrev BR_GTEMP_B_SET3 : Row := ⟨0x200, 4, 1, 0x68, 1, 0x0, 1, 0x0, 16, 16, .const 0, .sh, .any⟩
abbrev BR_SHUT_CTL_AXIS : Row := ⟨0x200, 4, 1, 0x6c, 1, 0x0, 1, 0x0, 0, 3, .const 0, .sh, .any⟩
abbrev BR_SHUT_CTL_AXIS_VALID : Row := ⟨0x200, 4, 1, 0x6c, 1, 0x0, 1, 0x0, 3, 1, .const 0, .sh, .any⟩
abbrev BR_SHUT_CTL_SETTLE : Row := ⟨0x200, 4, 1, 0x6c, 1, 0x0, 1, 0x0, 4, 4, .const 2, .sh, .any⟩
abbrev BR_SHUT_CTL_AVG_LOG : Row := ⟨0x200, 4, 1, 0x6c, 1, 0x0, 1, 0x0, 8, 3, .const 3, .sh, .range 0 6⟩
abbrev BR_SHUT_CTL_DELTA : Row := ⟨0x200, 4, 1, 0x6c, 1, 0x0, 1, 0x0, 16, 8, .const 8, .sh, .range 1 255⟩
abbrev BR_SHUT_INT_INTERVAL_S : Row := ⟨0x200, 4, 1, 0x70, 1, 0x0, 1, 0x0, 0, 16, .const 0x12c, .rw, .any⟩
abbrev BR_SHUT_INT_RETRY_S : Row := ⟨0x200, 4, 1, 0x70, 1, 0x0, 1, 0x0, 16, 8, .const 10, .rw, .any⟩
abbrev BR_SHUT_INT_MOVE_TMO : Row := ⟨0x200, 4, 1, 0x70, 1, 0x0, 1, 0x0, 24, 8, .const 50, .rw, .range 1 255⟩
abbrev BR_SHUT_CLOSED_POS : Row := ⟨0x200, 4, 1, 0x74, 1, 0x0, 1, 0x0, 0, 32, .const 0, .sh, .any⟩
abbrev BR_SHUT_OPEN_POS : Row := ⟨0x200, 4, 1, 0x78, 1, 0x0, 1, 0x0, 0, 32, .const 0, .sh, .any⟩
abbrev BR_RADIO_A_TSH_RES : Row := ⟨0x200, 4, 1, 0x7c, 1, 0x0, 1, 0x0, 0, 4, .const 0, .sh, .any⟩
abbrev BR_RADIO_A_TA_RES : Row := ⟨0x200, 4, 1, 0x7c, 1, 0x0, 1, 0x0, 4, 4, .const 0, .sh, .any⟩
abbrev BR_RADIO_A_EPS : Row := ⟨0x200, 4, 1, 0x7c, 1, 0x0, 1, 0x0, 16, 16, .const 0x8000, .sh, .any⟩
abbrev BR_RADIO_B_T_REFL : Row := ⟨0x200, 4, 1, 0x80, 1, 0x0, 1, 0x0, 0, 16, .const 0x640, .sh, .any⟩
abbrev BR_RADIO_B_RT_MIN : Row := ⟨0x200, 4, 1, 0x80, 1, 0x0, 1, 0x0, 16, 16, .const 0, .sh, .any⟩
abbrev BR_RADIO_C_RT_STEP : Row := ⟨0x200, 4, 1, 0x84, 1, 0x0, 1, 0x0, 0, 16, .const 16, .sh, .range 1 65535⟩
abbrev BR_RADIO_C_TSH_MAX_AGE : Row := ⟨0x200, 4, 1, 0x84, 1, 0x0, 1, 0x0, 16, 16, .const 100, .rw, .any⟩
abbrev BR_RESP_VALUE : Row := ⟨0x200, 4, 1, 0x88, 1, 0x0, 1, 0x0, 0, 32, .const 0x10000, .sh, .any⟩
abbrev BR_THRESH_HOT_T : Row := ⟨0x200, 4, 1, 0x8c, 1, 0x0, 1, 0x0, 0, 16, .const 0x7fff, .sh, .any⟩
abbrev BR_THRESH_COLD_T : Row := ⟨0x200, 4, 1, 0x8c, 1, 0x0, 1, 0x0, 16, 16, .const 0x8000, .sh, .any⟩
abbrev BR_Q_QUEUE : Row := ⟨0x200, 4, 1, 0x90, 1, 0x0, 1, 0x0, 0, 18, .const 0, .sh, .any⟩
abbrev BR_Q_VALID : Row := ⟨0x200, 4, 1, 0x90, 1, 0x0, 1, 0x0, 31, 1, .const 0, .sh, .any⟩
abbrev BR_CMD_RECAL : Row := ⟨0x200, 4, 1, 0x94, 1, 0x0, 1, 0x0, 0, 1, .const 0, .wo, .any⟩
abbrev BR_CMD_SNAP : Row := ⟨0x200, 4, 1, 0x94, 1, 0x0, 1, 0x0, 1, 1, .const 0, .wo, .any⟩
abbrev BR_CMD_SNAP_KIND : Row := ⟨0x200, 4, 1, 0x94, 1, 0x0, 1, 0x0, 2, 1, .const 0, .wo, .any⟩
abbrev BR_CMD_REOPEN : Row := ⟨0x200, 4, 1, 0x94, 1, 0x0, 1, 0x0, 3, 1, .const 0, .wo, .any⟩
abbrev BR_SPI_CTL_LEN : Row := ⟨0x200, 4, 1, 0x98, 1, 0x0, 1, 0x0, 0, 5, .const 15, .rw, .range 7 31⟩
abbrev BR_SPI_CTL_CPOL : Row := ⟨0x200, 4, 1, 0x98, 1, 0x0, 1, 0x0, 5, 1, .const 0, .rw, .any⟩
abbrev BR_SPI_CTL_CPHA : Row := ⟨0x200, 4, 1, 0x98, 1, 0x0, 1, 0x0, 6, 1, .const 0, .rw, .any⟩
abbrev BR_SPI_CTL_SCK_KHZ : Row := ⟨0x200, 4, 1, 0x98, 1, 0x0, 1, 0x0, 8, 16, .const 0x3e8, .rw, .range 100 20000⟩
abbrev BR_SPI_CTL_BUSY : Row := ⟨0x200, 4, 1, 0x98, 1, 0x0, 1, 0x0, 30, 1, .const 0, .ro, .any⟩
abbrev BR_SPI_CTL_GO : Row := ⟨0x200, 4, 1, 0x98, 1, 0x0, 1, 0x0, 31, 1, .const 0, .wo, .any⟩
abbrev BR_SPI_TX_VALUE : Row := ⟨0x200, 4, 1, 0x9c, 1, 0x0, 1, 0x0, 0, 32, .const 0, .rw, .any⟩
abbrev BR_SPI_RX_VALUE : Row := ⟨0x200, 4, 1, 0xa0, 1, 0x0, 1, 0x0, 0, 32, .const 0, .ro, .any⟩
abbrev BR_STATUS_STATE : Row := ⟨0x200, 4, 1, 0xa4, 1, 0x0, 1, 0x0, 0, 4, .const 0, .ro, .any⟩
abbrev BR_STATUS_DUE : Row := ⟨0x200, 4, 1, 0xa4, 1, 0x0, 1, 0x0, 4, 1, .const 0, .ro, .any⟩
abbrev BR_STATUS_DRIFT_UNCORR : Row := ⟨0x200, 4, 1, 0xa4, 1, 0x0, 1, 0x0, 5, 1, .const 0, .ro, .any⟩
abbrev BR_STATUS_TSH_STALE : Row := ⟨0x200, 4, 1, 0xa4, 1, 0x0, 1, 0x0, 6, 1, .const 0, .ro, .any⟩
abbrev BR_STATUS_OPEN_CONF : Row := ⟨0x200, 4, 1, 0xa4, 1, 0x0, 1, 0x0, 7, 1, .const 0, .ro, .any⟩
abbrev BR_STATUS_OUTCOME : Row := ⟨0x200, 4, 1, 0xa4, 1, 0x0, 1, 0x0, 8, 3, .const 0, .ro, .any⟩
abbrev BR_TA_VALUE : Row := ⟨0x200, 4, 1, 0xa8, 1, 0x0, 1, 0x0, 0, 16, .const 0, .ro, .any⟩
abbrev BR_TA_VALID : Row := ⟨0x200, 4, 1, 0xa8, 1, 0x0, 1, 0x0, 16, 1, .const 0, .ro, .any⟩
abbrev BR_CAL_TS : Row := ⟨0x200, 4, 1, 0xac, 1, 0x0, 1, 0x0, 0, 16, .const 0, .ro, .any⟩
abbrev BR_CAL_TSH_CAL : Row := ⟨0x200, 4, 1, 0xac, 1, 0x0, 1, 0x0, 16, 16, .const 0, .ro, .any⟩
abbrev BR_CAL_TIME_S : Row := ⟨0x200, 4, 1, 0xb0, 1, 0x0, 1, 0x0, 0, 32, .const 0, .ro, .any⟩
abbrev BR_FRAMES_COUNT : Row := ⟨0x200, 4, 1, 0xb4, 1, 0x0, 1, 0x0, 0, 32, .const 0, .ro, .any⟩
abbrev BR_ERR_SYNC_ERRS : Row := ⟨0x200, 4, 1, 0xb8, 1, 0x0, 1, 0x0, 0, 16, .const 0, .ro, .any⟩
abbrev BR_ERR_FRAME_LOST : Row := ⟨0x200, 4, 1, 0xb8, 1, 0x0, 1, 0x0, 16, 16, .const 0, .ro, .any⟩
abbrev BR_DROP_OVERFLOW : Row := ⟨0x200, 4, 1, 0xbc, 1, 0x0, 1, 0x0, 0, 16, .const 0, .ro, .any⟩
abbrev BR_DROP_REC_DROP : Row := ⟨0x200, 4, 1, 0xbc, 1, 0x0, 1, 0x0, 16, 16, .const 0, .ro, .any⟩
abbrev BR_NOMAP_COUNT : Row := ⟨0x200, 4, 1, 0xc0, 1, 0x0, 1, 0x0, 0, 32, .const 0, .ro, .any⟩
abbrev BR_REG_U0 : Row := ⟨0x200, 4, 1, 0x100, 16, 0x10, 1, 0x0, 0, 10, .const 0, .sh, .any⟩
abbrev BR_REG_V0 : Row := ⟨0x200, 4, 1, 0x100, 16, 0x10, 1, 0x0, 16, 10, .const 0, .sh, .any⟩
abbrev BR_REG_EN : Row := ⟨0x200, 4, 1, 0x100, 16, 0x10, 1, 0x0, 31, 1, .const 0, .sh, .any⟩
abbrev BR_REG_U1 : Row := ⟨0x200, 4, 1, 0x104, 16, 0x10, 1, 0x0, 0, 10, .const 0, .sh, .any⟩
abbrev BR_REG_V1 : Row := ⟨0x200, 4, 1, 0x104, 16, 0x10, 1, 0x0, 16, 10, .const 0, .sh, .any⟩
abbrev BR_REG_ID : Row := ⟨0x200, 4, 1, 0x108, 16, 0x10, 1, 0x0, 0, 16, .const 0, .sh, .any⟩
abbrev BR_XFER_IMAGE_IMAGE : Row := ⟨0x200, 4, 1, 0x200, 1, 0x0, 1, 0x0, 0, 4, .const 0, .rw, .any⟩
abbrev BR_XFER_ADDR_ADDR : Row := ⟨0x200, 4, 1, 0x204, 1, 0x0, 1, 0x0, 11, 13, .const 0, .rw, .any⟩

/-! R292 -/
abbrev BR_POOL_SIZE_BLOCKS : Row := ⟨0x204, 1, 1, 0x20, 1, 0x0, 1, 0x0, 0, 13, .const 0x1380, .ro, .any⟩
abbrev BR_ACC_OWNER : Row := ⟨0x204, 1, 1, 0x24, 1, 0x0, 1, 0x0, 0, 3, .const 7, .ro, .any⟩
abbrev BR_ACC_WAITING : Row := ⟨0x204, 1, 1, 0x24, 1, 0x0, 1, 0x0, 8, 4, .const 0, .ro, .any⟩
abbrev BR_SNAP_PORT : Row := ⟨0x204, 1, 1, 0x28, 1, 0x0, 1, 0x0, 0, 2, .const 0, .ro, .any⟩
abbrev BR_SNAP_KIND : Row := ⟨0x204, 1, 1, 0x28, 1, 0x0, 1, 0x0, 2, 1, .const 0, .ro, .any⟩
abbrev BR_SNAP_VALID : Row := ⟨0x204, 1, 1, 0x28, 1, 0x0, 1, 0x0, 3, 1, .const 0, .ro, .any⟩
abbrev BR_SNAP_BUSY : Row := ⟨0x204, 1, 1, 0x28, 1, 0x0, 1, 0x0, 4, 1, .const 0, .ro, .any⟩
abbrev BR_SNAP_FRAME_COUNT : Row := ⟨0x204, 1, 1, 0x2c, 1, 0x0, 1, 0x0, 0, 32, .const 0, .ro, .any⟩

/-! R314 -/
abbrev PFE_CTL_EN : Row := ⟨0x240, 1, 1, 0x20, 1, 0x0, 1, 0x0, 0, 1, .const 0, .sh, .any⟩
abbrev PFE_CTL_TRIG : Row := ⟨0x240, 1, 1, 0x20, 1, 0x0, 1, 0x0, 1, 1, .const 0, .sh, .any⟩
abbrev PFE_CTL_ODR : Row := ⟨0x240, 1, 1, 0x20, 1, 0x0, 1, 0x0, 2, 3, .const 3, .sh, .any⟩
abbrev PFE_CTL_SCAN_MS : Row := ⟨0x240, 1, 1, 0x20, 1, 0x0, 1, 0x0, 16, 16, .const 100, .sh, .range 1 65535⟩
abbrev PFE_CMD_GO : Row := ⟨0x240, 1, 1, 0x24, 1, 0x0, 1, 0x0, 0, 1, .const 0, .wo, .any⟩
abbrev PFE_CHECK_TOL : Row := ⟨0x240, 1, 1, 0x28, 1, 0x0, 1, 0x0, 0, 16, .const 0x1a4, .sh, .any⟩
abbrev PFE_BOUND_INDEX : Row := ⟨0x240, 1, 1, 0x2c, 1, 0x0, 1, 0x0, 0, 4, .const 0, .sh, .any⟩
abbrev PFE_BOUND_PAIR : Row := ⟨0x240, 1, 1, 0x2c, 1, 0x0, 1, 0x0, 4, 1, .const 0, .sh, .any⟩
abbrev PFE_BOUND_VALID : Row := ⟨0x240, 1, 1, 0x2c, 1, 0x0, 1, 0x0, 31, 1, .const 0, .sh, .any⟩
abbrev PFE_STATUS_BUSY : Row := ⟨0x240, 1, 1, 0x30, 1, 0x0, 1, 0x0, 0, 1, .const 0, .ro, .any⟩
abbrev PFE_STATUS_STEP : Row := ⟨0x240, 1, 1, 0x30, 1, 0x0, 1, 0x0, 1, 4, .const 0, .ro, .any⟩
abbrev PFE_CHK_A_DEV : Row := ⟨0x240, 1, 1, 0x34, 1, 0x0, 1, 0x0, 0, 24, .const 0, .ro, .any⟩
abbrev PFE_CHK_B_DEV : Row := ⟨0x240, 1, 1, 0x38, 1, 0x0, 1, 0x0, 0, 24, .const 0, .ro, .any⟩
abbrev PFE_SCANS_COUNT : Row := ⟨0x240, 1, 1, 0x3c, 1, 0x0, 1, 0x0, 0, 32, .const 0, .ro, .any⟩
abbrev PFE_TABLE_N_N : Row := ⟨0x240, 1, 1, 0xc0, 1, 0x0, 1, 0x0, 0, 6, .const 0, .sh, .any⟩

/-! R315 -/
abbrev PAIR_A : Row := ⟨0x240, 1, 1, 0x40, 8, 0x10, 1, 0x0, 0, 4, .const 0, .sh, .any⟩
abbrev PAIR_B : Row := ⟨0x240, 1, 1, 0x40, 8, 0x10, 1, 0x0, 4, 4, .const 0, .sh, .any⟩
abbrev PAIR_COUNT : Row := ⟨0x240, 1, 1, 0x40, 8, 0x10, 1, 0x0, 8, 4, .const 3, .sh, .range 1 15⟩
abbrev PAIR_EN : Row := ⟨0x240, 1, 1, 0x40, 8, 0x10, 1, 0x0, 31, 1, .const 0, .sh, .any⟩
abbrev PAIR_TOL : Row := ⟨0x240, 1, 1, 0x44, 8, 0x10, 1, 0x0, 0, 32, .const 0x8000, .sh, .any⟩
abbrev PAIR_VALUE : Row := ⟨0x240, 1, 1, 0x48, 8, 0x10, 1, 0x0, 0, 32, .const 0, .ro, .any⟩
abbrev PAIR_VALID : Row := ⟨0x240, 1, 1, 0x4c, 8, 0x10, 1, 0x0, 0, 1, .const 0, .ro, .any⟩
abbrev PAIR_DEGRADED : Row := ⟨0x240, 1, 1, 0x4c, 8, 0x10, 1, 0x0, 1, 1, .const 0, .ro, .any⟩
abbrev PAIR_FAULT : Row := ⟨0x240, 1, 1, 0x4c, 8, 0x10, 1, 0x0, 2, 1, .const 0, .ro, .any⟩
abbrev PAIR_MISS : Row := ⟨0x240, 1, 1, 0x4c, 8, 0x10, 1, 0x0, 8, 8, .const 0, .ro, .any⟩

/-! R316 -/
abbrev SLOT_MODE : Row := ⟨0x240, 1, 1, 0x100, 16, 0x20, 1, 0x0, 0, 2, .const 0, .sh, .any⟩
abbrev SLOT_PGA : Row := ⟨0x240, 1, 1, 0x100, 16, 0x20, 1, 0x0, 2, 3, .const 0, .sh, .any⟩
abbrev SLOT_POS : Row := ⟨0x240, 1, 1, 0x100, 16, 0x20, 1, 0x0, 8, 4, .const 0, .sh, .any⟩
abbrev SLOT_NEG : Row := ⟨0x240, 1, 1, 0x100, 16, 0x20, 1, 0x0, 12, 4, .const 0, .sh, .any⟩
abbrev SLOT_BIAS : Row := ⟨0x240, 1, 1, 0x100, 16, 0x20, 1, 0x0, 16, 4, .const 0, .sh, .any⟩
abbrev SLOT_BIAS_EN : Row := ⟨0x240, 1, 1, 0x100, 16, 0x20, 1, 0x0, 20, 1, .const 0, .sh, .any⟩
abbrev SLOT_BURN : Row := ⟨0x240, 1, 1, 0x100, 16, 0x20, 1, 0x0, 21, 1, .const 0, .sh, .any⟩
abbrev SLOT_SETTLE : Row := ⟨0x240, 1, 1, 0x100, 16, 0x20, 1, 0x0, 24, 4, .const 0, .sh, .any⟩
abbrev SLOT_S0_PIN : Row := ⟨0x240, 1, 1, 0x104, 16, 0x20, 1, 0x0, 0, 4, .const 0, .sh, .any⟩
abbrev SLOT_S0_EN : Row := ⟨0x240, 1, 1, 0x104, 16, 0x20, 1, 0x0, 4, 1, .const 0, .sh, .any⟩
abbrev SLOT_S0_MAG : Row := ⟨0x240, 1, 1, 0x104, 16, 0x20, 1, 0x0, 5, 3, .const 0, .sh, .any⟩
abbrev SLOT_S1_PIN : Row := ⟨0x240, 1, 1, 0x104, 16, 0x20, 1, 0x0, 8, 4, .const 0, .sh, .any⟩
abbrev SLOT_S1_EN : Row := ⟨0x240, 1, 1, 0x104, 16, 0x20, 1, 0x0, 12, 1, .const 0, .sh, .any⟩
abbrev SLOT_S1_MAG : Row := ⟨0x240, 1, 1, 0x104, 16, 0x20, 1, 0x0, 13, 3, .const 0, .sh, .any⟩
abbrev SLOT_CURVE : Row := ⟨0x240, 1, 1, 0x108, 16, 0x20, 1, 0x0, 0, 4, .const 0, .sh, .any⟩
abbrev SLOT_CJ_SLOT : Row := ⟨0x240, 1, 1, 0x108, 16, 0x20, 1, 0x0, 4, 4, .const 0, .sh, .any⟩
abbrev SLOT_CJ_EN : Row := ⟨0x240, 1, 1, 0x108, 16, 0x20, 1, 0x0, 8, 1, .const 1, .sh, .any⟩
abbrev SLOT_P0 : Row := ⟨0x240, 1, 1, 0x10c, 16, 0x20, 1, 0x0, 0, 32, .const 0, .sh, .any⟩
abbrev SLOT_P1 : Row := ⟨0x240, 1, 1, 0x110, 16, 0x20, 1, 0x0, 0, 32, .const 0x3f800000, .sh, .any⟩
abbrev SLOT_P2 : Row := ⟨0x240, 1, 1, 0x114, 16, 0x20, 1, 0x0, 0, 32, .const 0, .sh, .any⟩
abbrev SLOT_P3 : Row := ⟨0x240, 1, 1, 0x118, 16, 0x20, 1, 0x0, 0, 32, .const 0, .sh, .any⟩

/-! R317 -/
abbrev RES_VALUE : Row := ⟨0x240, 1, 1, 0x300, 16, 0x10, 1, 0x0, 0, 32, .const 0, .ro, .any⟩
abbrev RES_RAW : Row := ⟨0x240, 1, 1, 0x304, 16, 0x10, 1, 0x0, 0, 24, .const 0, .ro, .any⟩
abbrev RES_VALID : Row := ⟨0x240, 1, 1, 0x308, 16, 0x10, 1, 0x0, 0, 1, .const 0, .ro, .any⟩
abbrev RES_OVR : Row := ⟨0x240, 1, 1, 0x308, 16, 0x10, 1, 0x0, 1, 1, .const 0, .ro, .any⟩
abbrev RES_OPEN : Row := ⟨0x240, 1, 1, 0x308, 16, 0x10, 1, 0x0, 2, 1, .const 0, .ro, .any⟩
abbrev RES_RANGE : Row := ⟨0x240, 1, 1, 0x308, 16, 0x10, 1, 0x0, 3, 1, .const 0, .ro, .any⟩
abbrev RES_CHECK : Row := ⟨0x240, 1, 1, 0x308, 16, 0x10, 1, 0x0, 4, 1, .const 0, .ro, .any⟩
abbrev RES_PAIR : Row := ⟨0x240, 1, 1, 0x308, 16, 0x10, 1, 0x0, 5, 1, .const 0, .ro, .any⟩
abbrev RES_CJC : Row := ⟨0x240, 1, 1, 0x308, 16, 0x10, 1, 0x0, 6, 1, .const 0, .ro, .any⟩
abbrev RES_CFG : Row := ⟨0x240, 1, 1, 0x308, 16, 0x10, 1, 0x0, 7, 1, .const 0, .ro, .any⟩
abbrev RES_RATIO : Row := ⟨0x240, 1, 1, 0x308, 16, 0x10, 1, 0x0, 8, 1, .const 0, .ro, .any⟩
abbrev RES_SEQ : Row := ⟨0x240, 1, 1, 0x308, 16, 0x10, 1, 0x0, 16, 16, .const 0, .ro, .any⟩
abbrev RES_TIME : Row := ⟨0x240, 1, 1, 0x30c, 16, 0x10, 1, 0x0, 0, 32, .const 0, .ro, .any⟩

/-! R319 -/
abbrev AO_KIND : Row := ⟨0x240, 1, 1, 0x500, 8, 0x10, 1, 0x0, 0, 2, .const 0, .sh, .any⟩
abbrev AO_SRC : Row := ⟨0x240, 1, 1, 0x500, 8, 0x10, 1, 0x0, 2, 4, .const 0, .sh, .any⟩
abbrev AO_FAULT_HIGH : Row := ⟨0x240, 1, 1, 0x500, 8, 0x10, 1, 0x0, 6, 1, .const 0, .sh, .any⟩
abbrev AO_LO : Row := ⟨0x240, 1, 1, 0x504, 8, 0x10, 1, 0x0, 0, 32, .const 0, .sh, .any⟩
abbrev AO_HI : Row := ⟨0x240, 1, 1, 0x508, 8, 0x10, 1, 0x0, 0, 32, .const 0, .sh, .any⟩
abbrev AO_HOST : Row := ⟨0x240, 1, 1, 0x50c, 8, 0x10, 1, 0x0, 0, 12, .const 0, .rw, .any⟩
abbrev AO_CODE : Row := ⟨0x240, 1, 1, 0x50c, 8, 0x10, 1, 0x0, 16, 12, .const 82, .ro, .any⟩
abbrev AO_FAULT : Row := ⟨0x240, 1, 1, 0x50c, 8, 0x10, 1, 0x0, 28, 1, .const 1, .ro, .any⟩
abbrev AO_REF_LOW : Row := ⟨0x240, 1, 1, 0x50c, 8, 0x10, 1, 0x0, 29, 1, .const 0, .ro, .any⟩

/-! R339 -/
abbrev MOT_CTL_EN : Row := ⟨0x260, 8, 1, 0x20, 1, 0x0, 1, 0x0, 0, 1, .const 0, .rw, .any⟩
abbrev MOT_CTL_HOLD : Row := ⟨0x260, 8, 1, 0x20, 1, 0x0, 1, 0x0, 1, 2, .const 1, .rw, .any⟩
abbrev MOT_CTL_DIR_INV : Row := ⟨0x260, 8, 1, 0x20, 1, 0x0, 1, 0x0, 3, 1, .const 0, .rw, .any⟩
abbrev MOT_CTL_ROLE : Row := ⟨0x260, 8, 1, 0x20, 1, 0x0, 1, 0x0, 4, 2, .const 0, .rw, .any⟩
abbrev MOT_CTL_PORT : Row := ⟨0x260, 8, 1, 0x20, 1, 0x0, 1, 0x0, 6, 2, .const 0, .rw, .any⟩
abbrev MOT_PWM_KHZ : Row := ⟨0x260, 8, 1, 0x24, 1, 0x0, 1, 0x0, 0, 7, .const 40, .rw, .range 20 100⟩
abbrev MOT_PWM_STBY_MS : Row := ⟨0x260, 8, 1, 0x24, 1, 0x0, 1, 0x0, 8, 8, .const 200, .rw, .any⟩
abbrev MOT_CUR_RUN_MA : Row := ⟨0x260, 8, 1, 0x28, 1, 0x0, 1, 0x0, 0, 16, .const 0x1f4, .rw, .any⟩
abbrev MOT_CUR_HOLD_MA : Row := ⟨0x260, 8, 1, 0x28, 1, 0x0, 1, 0x0, 16, 16, .const 250, .rw, .any⟩
abbrev MOT_SCALE_I_FS_MA : Row := ⟨0x260, 8, 1, 0x2c, 1, 0x0, 1, 0x0, 0, 16, .const 0x7d0, .rw, .any⟩
abbrev MOT_SCALE_V_FS_MV : Row := ⟨0x260, 8, 1, 0x2c, 1, 0x0, 1, 0x0, 16, 16, .const 0xbb80, .rw, .any⟩
abbrev MOT_LOOP_KP : Row := ⟨0x260, 8, 1, 0x30, 1, 0x0, 1, 0x0, 0, 16, .const 131, .rw, .any⟩
abbrev MOT_LOOP_KI : Row := ⟨0x260, 8, 1, 0x30, 1, 0x0, 1, 0x0, 16, 16, .const 131, .rw, .any⟩
abbrev MOT_VMAX_VALUE : Row := ⟨0x260, 8, 1, 0x34, 1, 0x0, 1, 0x0, 0, 32, .const 0x3e800, .rw, .range 1 4294967295⟩
abbrev MOT_AMAX_VALUE : Row := ⟨0x260, 8, 1, 0x38, 1, 0x0, 1, 0x0, 0, 32, .const 0x2710, .rw, .range 1 4294967295⟩
abbrev MOT_JMAX_VALUE : Row := ⟨0x260, 8, 1, 0x3c, 1, 0x0, 1, 0x0, 0, 32, .const 0x30d40, .rw, .range 1 4294967295⟩
abbrev MOT_STOP_A_VALUE : Row := ⟨0x260, 8, 1, 0x40, 1, 0x0, 1, 0x0, 0, 32, .const 0x4e20, .rw, .range 1 4294967295⟩
abbrev MOT_STOP_J_VALUE : Row := ⟨0x260, 8, 1, 0x44, 1, 0x0, 1, 0x0, 0, 32, .const 0x61a80, .rw, .range 1 4294967295⟩
abbrev MOT_TARGET_LO_VALUE : Row := ⟨0x260, 8, 1, 0x48, 1, 0x0, 1, 0x0, 0, 32, .const 0, .rw, .any⟩
abbrev MOT_TARGET_HI_VALUE : Row := ⟨0x260, 8, 1, 0x4c, 1, 0x0, 1, 0x0, 0, 8, .const 0, .rw, .any⟩
abbrev MOT_TRAVEL_MIN_STEPS : Row := ⟨0x260, 8, 1, 0x50, 1, 0x0, 1, 0x0, 0, 32, .const 0x80000000, .rw, .any⟩
abbrev MOT_TRAVEL_MAX_STEPS : Row := ⟨0x260, 8, 1, 0x54, 1, 0x0, 1, 0x0, 0, 32, .const 0x7fffffff, .rw, .any⟩
abbrev MOT_BACKLASH_UST : Row := ⟨0x260, 8, 1, 0x58, 1, 0x0, 1, 0x0, 0, 24, .const 0, .rw, .any⟩
abbrev MOT_HOME_DIR : Row := ⟨0x260, 8, 1, 0x5c, 1, 0x0, 1, 0x0, 0, 1, .const 0, .rw, .any⟩
abbrev MOT_HOME_V : Row := ⟨0x260, 8, 1, 0x5c, 1, 0x0, 1, 0x0, 8, 16, .const 0x1f4, .rw, .range 1 65535⟩
abbrev MOT_HOME_MAX_STEPS : Row := ⟨0x260, 8, 1, 0x60, 1, 0x0, 1, 0x0, 0, 32, .const 0x186a0, .rw, .any⟩
abbrev MOT_MOTOR_R_MOHM : Row := ⟨0x260, 8, 1, 0x64, 1, 0x0, 1, 0x0, 0, 16, .const 0x3e8, .rw, .any⟩
abbrev MOT_MOTOR_L_UH : Row := ⟨0x260, 8, 1, 0x64, 1, 0x0, 1, 0x0, 16, 16, .const 0x7d0, .rw, .any⟩
abbrev MOT_STALL_EN : Row := ⟨0x260, 8, 1, 0x68, 1, 0x0, 1, 0x0, 0, 1, .const 1, .rw, .any⟩
abbrev MOT_STALL_N : Row := ⟨0x260, 8, 1, 0x68, 1, 0x0, 1, 0x0, 4, 4, .const 4, .rw, .range 1 15⟩
abbrev MOT_STALL_DEG : Row := ⟨0x260, 8, 1, 0x68, 1, 0x0, 1, 0x0, 8, 8, .const 70, .rw, .any⟩
abbrev MOT_STALL_VMIN : Row := ⟨0x260, 8, 1, 0x68, 1, 0x0, 1, 0x0, 16, 16, .const 200, .rw, .any⟩
abbrev MOT_CMD_STOP : Row := ⟨0x260, 8, 1, 0x6c, 1, 0x0, 1, 0x0, 0, 1, .const 0, .wo, .any⟩
abbrev MOT_CMD_RESUME : Row := ⟨0x260, 8, 1, 0x6c, 1, 0x0, 1, 0x0, 1, 1, .const 0, .wo, .any⟩
abbrev MOT_CMD_HOME : Row := ⟨0x260, 8, 1, 0x6c, 1, 0x0, 1, 0x0, 2, 1, .const 0, .wo, .any⟩
abbrev MOT_CMD_CLEAR : Row := ⟨0x260, 8, 1, 0x6c, 1, 0x0, 1, 0x0, 3, 1, .const 0, .wo, .any⟩
abbrev MOT_CMD_ZERO : Row := ⟨0x260, 8, 1, 0x6c, 1, 0x0, 1, 0x0, 4, 1, .const 0, .wo, .any⟩
abbrev MOT_CMD_ABORT : Row := ⟨0x260, 8, 1, 0x6c, 1, 0x0, 1, 0x0, 5, 1, .const 0, .wo, .any⟩
abbrev MOT_STATUS_STATE : Row := ⟨0x260, 8, 1, 0x70, 1, 0x0, 1, 0x0, 0, 4, .const 0, .ro, .any⟩
abbrev MOT_STATUS_AT_TARGET : Row := ⟨0x260, 8, 1, 0x70, 1, 0x0, 1, 0x0, 4, 1, .const 0, .ro, .any⟩
abbrev MOT_STATUS_HOMED : Row := ⟨0x260, 8, 1, 0x70, 1, 0x0, 1, 0x0, 5, 1, .const 0, .ro, .any⟩
abbrev MOT_STATUS_PACED : Row := ⟨0x260, 8, 1, 0x70, 1, 0x0, 1, 0x0, 6, 1, .const 0, .ro, .any⟩
abbrev MOT_STATUS_HOST_STOP : Row := ⟨0x260, 8, 1, 0x70, 1, 0x0, 1, 0x0, 7, 1, .const 0, .ro, .any⟩
abbrev MOT_STATUS_FAULT : Row := ⟨0x260, 8, 1, 0x70, 1, 0x0, 1, 0x0, 12, 4, .const 0, .ro, .any⟩
abbrev MOT_POS_LO_VALUE : Row := ⟨0x260, 8, 1, 0x74, 1, 0x0, 1, 0x0, 0, 32, .const 0, .ro, .any⟩
abbrev MOT_POS_HI_VALUE : Row := ⟨0x260, 8, 1, 0x78, 1, 0x0, 1, 0x0, 0, 8, .const 0, .ro, .any⟩
abbrev MOT_REMAIN_LO_VALUE : Row := ⟨0x260, 8, 1, 0x7c, 1, 0x0, 1, 0x0, 0, 32, .const 0, .ro, .any⟩
abbrev MOT_REMAIN_HI_VALUE : Row := ⟨0x260, 8, 1, 0x80, 1, 0x0, 1, 0x0, 0, 8, .const 0, .ro, .any⟩
abbrev MOT_VEL_VALUE : Row := ⟨0x260, 8, 1, 0x84, 1, 0x0, 1, 0x0, 0, 32, .const 0, .ro, .any⟩
abbrev MOT_DELTA_DEG : Row := ⟨0x260, 8, 1, 0x88, 1, 0x0, 1, 0x0, 0, 16, .const 0, .ro, .any⟩
abbrev MOT_MEAS_VM_MV : Row := ⟨0x260, 8, 1, 0x8c, 1, 0x0, 1, 0x0, 0, 16, .const 0, .ro, .any⟩

/-! R341 -/
abbrev MOT_SERVO_US : Row := ⟨0x268, 1, 1, 0x20, 1, 0x0, 1, 0x0, 0, 10, .const 100, .rw, .range 50 1000⟩
abbrev SHEET_CTL_EN : Row := ⟨0x268, 1, 1, 0x24, 1, 0x0, 1, 0x0, 0, 1, .const 0, .rw, .any⟩
abbrev SHEET_CTL_AXIS : Row := ⟨0x268, 1, 1, 0x24, 1, 0x0, 1, 0x0, 1, 3, .const 0, .rw, .any⟩
abbrev SHEET_CTL_LEAD_EN : Row := ⟨0x268, 1, 1, 0x24, 1, 0x0, 1, 0x0, 4, 1, .const 1, .rw, .any⟩
abbrev SHEET_LEAD_STOP : Row := ⟨0x268, 1, 1, 0x28, 1, 0x0, 1, 0x0, 0, 16, .const 0x280, .rw, .any⟩
abbrev SHEET_LEAD_GO : Row := ⟨0x268, 1, 1, 0x28, 1, 0x0, 1, 0x0, 16, 16, .const 0x400, .rw, .any⟩
abbrev SHEET_Q_QUEUE : Row := ⟨0x268, 1, 1, 0x2c, 4, 0x8, 1, 0x0, 0, 18, .const 0, .rw, .any⟩
abbrev SHEET_Q_VALID : Row := ⟨0x268, 1, 1, 0x2c, 4, 0x8, 1, 0x0, 31, 1, .const 0, .rw, .any⟩
abbrev SHEET_Q_FILL_STOP : Row := ⟨0x268, 1, 1, 0x30, 4, 0x8, 1, 0x0, 0, 8, .const 224, .rw, .any⟩
abbrev SHEET_Q_FILL_GO : Row := ⟨0x268, 1, 1, 0x30, 4, 0x8, 1, 0x0, 8, 8, .const 128, .rw, .any⟩
abbrev SHEET_STATUS_PAUSED : Row := ⟨0x268, 1, 1, 0x4c, 1, 0x0, 1, 0x0, 0, 1, .const 0, .ro, .any⟩
abbrev SHEET_STATUS_LEAD : Row := ⟨0x268, 1, 1, 0x4c, 1, 0x0, 1, 0x0, 1, 1, .const 0, .ro, .any⟩
abbrev SHEET_STATUS_QUEUES : Row := ⟨0x268, 1, 1, 0x4c, 1, 0x0, 1, 0x0, 2, 4, .const 0, .ro, .any⟩
abbrev SHEET_PAUSES_COUNT : Row := ⟨0x268, 1, 1, 0x50, 1, 0x0, 1, 0x0, 0, 32, .const 0, .ro, .any⟩

/-! R342 -/
abbrev AUXC_CTL_EN : Row := ⟨0x221, 1, 1, 0x20, 8, 0x20, 1, 0x0, 0, 1, .const 1, .rw, .any⟩
abbrev AUXC_RES_CODE : Row := ⟨0x221, 1, 1, 0x24, 8, 0x20, 6, 0x4, 0, 14, .const 0, .ro, .any⟩
abbrev AUXC_RES_CLIP : Row := ⟨0x221, 1, 1, 0x24, 8, 0x20, 6, 0x4, 14, 1, .const 0, .ro, .any⟩
abbrev AUXC_RES_VALID : Row := ⟨0x221, 1, 1, 0x24, 8, 0x20, 6, 0x4, 15, 1, .const 0, .ro, .any⟩
abbrev AUXC_RES_SEQ : Row := ⟨0x221, 1, 1, 0x24, 8, 0x20, 6, 0x4, 16, 16, .const 0, .ro, .any⟩

/-! R375 -/
abbrev HOST_LINK_SPEED : Row := ⟨0x300, 1, 1, 0x20, 1, 0x0, 1, 0x0, 0, 3, .const 0, .ro, .any⟩
abbrev HOST_LINK_WIDTH : Row := ⟨0x300, 1, 1, 0x20, 1, 0x0, 1, 0x0, 3, 5, .const 0, .ro, .any⟩
abbrev HOST_LINK_UP : Row := ⟨0x300, 1, 1, 0x20, 1, 0x0, 1, 0x0, 8, 1, .const 0, .ro, .any⟩
abbrev FREURI_CAP_VERSIONS : Row := ⟨0x300, 1, 1, 0x24, 1, 0x0, 1, 0x0, 0, 4, .const 15, .ro, .any⟩
abbrev TEN_STATE_STATE : Row := ⟨0x300, 1, 1, 0x28, 1, 0x0, 1, 0x0, 0, 32, .const 1, .ro, .any⟩
abbrev TEN_VER_VER : Row := ⟨0x300, 1, 1, 0x2c, 1, 0x0, 1, 0x0, 0, 32, .const 0, .ro, .any⟩
abbrev TEN_RESET_MASK : Row := ⟨0x300, 1, 1, 0x30, 1, 0x0, 1, 0x0, 0, 16, .const 0, .wo, .any⟩
abbrev SRIOV_NUM_VFS : Row := ⟨0x300, 1, 1, 0x34, 1, 0x0, 1, 0x0, 0, 4, .const 0, .ro, .any⟩
abbrev SRIOV_VF_ENABLE : Row := ⟨0x300, 1, 1, 0x34, 1, 0x0, 1, 0x0, 4, 1, .const 0, .ro, .any⟩

/-! R376 -/
abbrev LEASE_CMD_RES : Row := ⟨0x301, 1, 1, 0x20, 1, 0x0, 1, 0x0, 0, 7, .const 0, .wo, .any⟩
abbrev LEASE_CMD_TENANT : Row := ⟨0x301, 1, 1, 0x20, 1, 0x0, 1, 0x0, 8, 4, .const 0, .wo, .any⟩
abbrev LEASE_CMD_OP : Row := ⟨0x301, 1, 1, 0x20, 1, 0x0, 1, 0x0, 12, 2, .const 0, .wo, .any⟩
abbrev LEASE_CMD_TIMEOUT_MS : Row := ⟨0x301, 1, 1, 0x20, 1, 0x0, 1, 0x0, 16, 16, .const 0, .wo, .any⟩
abbrev LEASE_HOLDER : Row := ⟨0x301, 1, 1, 0x100, 88, 0x4, 1, 0x0, 0, 4, .const 0, .ro, .any⟩
abbrev LEASE_ACTIVE : Row := ⟨0x301, 1, 1, 0x100, 88, 0x4, 1, 0x0, 4, 1, .const 0, .ro, .any⟩
abbrev LEASE_REMAIN_MS : Row := ⟨0x301, 1, 1, 0x100, 88, 0x4, 1, 0x0, 16, 16, .const 0, .ro, .any⟩

/-! R377 -/
abbrev CTXC_HITS_COUNT : Row := ⟨0x302, 1, 1, 0x20, 1, 0x0, 1, 0x0, 0, 32, .const 0, .ro, .any⟩
abbrev CTXC_MISSES_COUNT : Row := ⟨0x302, 1, 1, 0x24, 1, 0x0, 1, 0x0, 0, 32, .const 0, .ro, .any⟩
abbrev CTXC_EVICTS_COUNT : Row := ⟨0x302, 1, 1, 0x28, 1, 0x0, 1, 0x0, 0, 32, .const 0, .ro, .any⟩
abbrev CTXC_PINNED_COUNT : Row := ⟨0x302, 1, 1, 0x2c, 1, 0x0, 1, 0x0, 0, 13, .const 0, .ro, .any⟩
abbrev CTXC_STALLS_COUNT : Row := ⟨0x302, 1, 1, 0x30, 1, 0x0, 1, 0x0, 0, 32, .const 0, .ro, .any⟩

/-! R378 -/
abbrev TEN_STATUS_STATE : Row := ⟨0x400, 16, 64, 0x20, 1, 0x0, 1, 0x0, 0, 2, .const 1, .ro, .any⟩
abbrev TEN_STATUS_VERSION : Row := ⟨0x400, 16, 64, 0x20, 1, 0x0, 1, 0x0, 2, 2, .const 0, .ro, .any⟩
abbrev TEN_STATUS_TENANT : Row := ⟨0x400, 16, 64, 0x20, 1, 0x0, 1, 0x0, 4, 4, .page, .ro, .any⟩
abbrev TEN_CTX_BASE_LO_ADDR : Row := ⟨0x400, 16, 64, 0x24, 1, 0x0, 1, 0x0, 12, 20, .const 0, .rw, .any⟩
abbrev TEN_CTX_BASE_HI_ADDR : Row := ⟨0x400, 16, 64, 0x28, 1, 0x0, 1, 0x0, 0, 32, .const 0, .rw, .any⟩
abbrev QADM_CMD_QUEUE : Row := ⟨0x400, 16, 64, 0x2c, 1, 0x0, 1, 0x0, 0, 14, .const 0, .wo, .any⟩
abbrev QADM_CMD_OP : Row := ⟨0x400, 16, 64, 0x2c, 1, 0x0, 1, 0x0, 16, 3, .const 0, .wo, .any⟩
abbrev QADM_STATUS_BUSY : Row := ⟨0x400, 16, 64, 0x30, 1, 0x0, 1, 0x0, 0, 1, .const 0, .ro, .any⟩
abbrev QADM_STATUS_RESULT : Row := ⟨0x400, 16, 64, 0x30, 1, 0x0, 1, 0x0, 1, 2, .const 0, .ro, .any⟩
abbrev QADM_STATUS_QUEUE : Row := ⟨0x400, 16, 64, 0x30, 1, 0x0, 1, 0x0, 16, 14, .const 0, .ro, .any⟩
abbrev TEN_RENEW_RENEW : Row := ⟨0x400, 16, 64, 0x34, 1, 0x0, 1, 0x0, 0, 1, .const 0, .wo, .any⟩
abbrev NOTICE_Q_QUEUE : Row := ⟨0x400, 16, 64, 0x38, 1, 0x0, 1, 0x0, 0, 14, .const 0, .rw, .any⟩
abbrev NOTICE_Q_VALID : Row := ⟨0x400, 16, 64, 0x38, 1, 0x0, 1, 0x0, 31, 1, .const 0, .rw, .any⟩
abbrev TEN_STALE_COUNT : Row := ⟨0x400, 16, 64, 0x3c, 1, 0x0, 1, 0x0, 0, 32, .const 0, .ro, .any⟩
abbrev TEN_DUP_COUNT : Row := ⟨0x400, 16, 64, 0x40, 1, 0x0, 1, 0x0, 0, 32, .const 0, .ro, .any⟩
abbrev TEN_DB_IGNORED_COUNT : Row := ⟨0x400, 16, 64, 0x44, 1, 0x0, 1, 0x0, 0, 32, .const 0, .ro, .any⟩
abbrev TEN_NOTICE_DROP_COUNT : Row := ⟨0x400, 16, 64, 0x48, 1, 0x0, 1, 0x0, 0, 32, .const 0, .ro, .any⟩
abbrev TEN_LEASES_BITS : Row := ⟨0x400, 16, 64, 0x4c, 3, 0x4, 1, 0x0, 0, 32, .const 0, .ro, .any⟩

/-! R379 -/
abbrev QSEL_QUEUE : Row := ⟨0x401, 16, 64, 0x20, 1, 0x0, 1, 0x0, 0, 14, .const 0, .rw, .any⟩
abbrev QSTAT_A_STATE : Row := ⟨0x401, 16, 64, 0x24, 1, 0x0, 1, 0x0, 0, 4, .const 0, .ro, .any⟩
abbrev QSTAT_A_TYPE : Row := ⟨0x401, 16, 64, 0x24, 1, 0x0, 1, 0x0, 4, 3, .const 0, .ro, .any⟩
abbrev QSTAT_A_FAULT : Row := ⟨0x401, 16, 64, 0x24, 1, 0x0, 1, 0x0, 8, 8, .const 0, .ro, .any⟩
abbrev QSTAT_A_CACHED : Row := ⟨0x401, 16, 64, 0x24, 1, 0x0, 1, 0x0, 16, 1, .const 0, .ro, .any⟩
abbrev QSTAT_A_PINNED : Row := ⟨0x401, 16, 64, 0x24, 1, 0x0, 1, 0x0, 17, 1, .const 0, .ro, .any⟩
abbrev QSTAT_PROD_VALUE : Row := ⟨0x401, 16, 64, 0x28, 1, 0x0, 1, 0x0, 0, 32, .const 0, .ro, .any⟩
abbrev QSTAT_CONS_VALUE : Row := ⟨0x401, 16, 64, 0x2c, 1, 0x0, 1, 0x0, 0, 32, .const 0, .ro, .any⟩
abbrev QSTAT_EXP_SEQ_VALUE : Row := ⟨0x401, 16, 64, 0x30, 1, 0x0, 1, 0x0, 0, 32, .const 0, .ro, .any⟩
abbrev QSTAT_EPOCH_VALUE : Row := ⟨0x401, 16, 64, 0x34, 1, 0x0, 1, 0x0, 0, 8, .const 0, .ro, .any⟩

/-! R397 -/
abbrev DMA_CTL_PRIO : Row := ⟨0x800, 64, 1, 0x20, 1, 0x0, 1, 0x0, 0, 3, .const 3, .rw, .any⟩
abbrev DMA_CTL_RETRY : Row := ⟨0x800, 64, 1, 0x20, 1, 0x0, 1, 0x0, 4, 4, .const 3, .rw, .any⟩
abbrev DMA_CTL_BURST : Row := ⟨0x800, 64, 1, 0x20, 1, 0x0, 1, 0x0, 8, 3, .const 6, .rw, .range 0 6⟩
abbrev DMA_CTL_REQ_EN : Row := ⟨0x800, 64, 1, 0x20, 1, 0x0, 1, 0x0, 11, 1, .const 0, .rw, .any⟩
abbrev DMA_CTL_REQ_SEL : Row := ⟨0x800, 64, 1, 0x20, 1, 0x0, 1, 0x0, 12, 6, .const 0, .rw, .any⟩
abbrev DMA_CMD_CLEAR : Row := ⟨0x800, 64, 1, 0x24, 1, 0x0, 1, 0x0, 0, 1, .const 0, .wo, .any⟩
abbrev DMA_CMD_ABORT : Row := ⟨0x800, 64, 1, 0x24, 1, 0x0, 1, 0x0, 1, 1, .const 0, .wo, .any⟩
abbrev DMA_CMD_REQ_CLEAR : Row := ⟨0x800, 64, 1, 0x24, 1, 0x0, 1, 0x0, 2, 1, .const 0, .wo, .any⟩
abbrev DMA_STATUS_STATE : Row := ⟨0x800, 64, 1, 0x28, 1, 0x0, 1, 0x0, 0, 2, .const 0, .ro, .any⟩
abbrev DMA_STATUS_CAUSE : Row := ⟨0x800, 64, 1, 0x28, 1, 0x0, 1, 0x0, 2, 4, .const 0, .ro, .any⟩
abbrev DMA_STATUS_WAITING : Row := ⟨0x800, 64, 1, 0x28, 1, 0x0, 1, 0x0, 8, 6, .const 0, .ro, .any⟩
abbrev DMA_STATUS_REQ_PEND : Row := ⟨0x800, 64, 1, 0x28, 1, 0x0, 1, 0x0, 16, 8, .const 0, .ro, .any⟩
abbrev DMA_STATUS_RETRIES : Row := ⟨0x800, 64, 1, 0x28, 1, 0x0, 1, 0x0, 24, 4, .const 0, .ro, .any⟩
abbrev DMA_ERR_ADDR_LO_VALUE : Row := ⟨0x800, 64, 1, 0x2c, 1, 0x0, 1, 0x0, 0, 32, .const 0, .ro, .any⟩
abbrev DMA_ERR_ADDR_HI_VALUE : Row := ⟨0x800, 64, 1, 0x30, 1, 0x0, 1, 0x0, 0, 32, .const 0, .ro, .any⟩
abbrev DMA_BYTES_COUNT : Row := ⟨0x800, 64, 1, 0x34, 1, 0x0, 1, 0x0, 0, 32, .const 0, .ro, .any⟩
abbrev DMA_TIMER_US : Row := ⟨0x800, 64, 1, 0x38, 1, 0x0, 1, 0x0, 0, 16, .const 0x3e8, .rw, .range 1 65535⟩
abbrev DMA_SRC_STEP_VALUE : Row := ⟨0x800, 64, 1, 0x40, 3, 0x4, 1, 0x0, 0, 32, .const 0, .rw, .any⟩
abbrev DMA_DST_STEP_VALUE : Row := ⟨0x800, 64, 1, 0x50, 3, 0x4, 1, 0x0, 0, 32, .const 0, .rw, .any⟩

/-! R407 -/
abbrev IC_CTL_EN : Row := ⟨0x840, 17, 1, 0x20, 1, 0x0, 1, 0x0, 0, 1, .const 1, .rw, .any⟩
abbrev IC_CTL_THRESHOLD : Row := ⟨0x840, 17, 1, 0x20, 1, 0x0, 1, 0x0, 1, 3, .const 0, .rw, .any⟩
abbrev IC_CLAIM_SOURCE : Row := ⟨0x840, 17, 1, 0x24, 1, 0x0, 1, 0x0, 0, 10, .const 0x3ff, .ro, .any⟩
abbrev IC_COMPLETE_SOURCE : Row := ⟨0x840, 17, 1, 0x28, 1, 0x0, 1, 0x0, 0, 10, .const 0, .wo, .any⟩
abbrev IC_SET_SOURCE : Row := ⟨0x840, 17, 1, 0x2c, 1, 0x0, 1, 0x0, 0, 10, .const 0, .wo, .any⟩
abbrev IC_CLEAR_SOURCE : Row := ⟨0x840, 17, 1, 0x30, 1, 0x0, 1, 0x0, 0, 10, .const 0, .wo, .any⟩
abbrev IC_STATUS_REQUEST : Row := ⟨0x840, 17, 1, 0x34, 1, 0x0, 1, 0x0, 0, 1, .const 0, .ro, .any⟩
abbrev IC_STATUS_MASKED : Row := ⟨0x840, 17, 1, 0x34, 1, 0x0, 1, 0x0, 1, 1, .const 0, .ro, .any⟩
abbrev IC_STATUS_IN_SERVICE : Row := ⟨0x840, 17, 1, 0x34, 1, 0x0, 1, 0x0, 16, 11, .const 0, .ro, .any⟩
abbrev IC_SPURIOUS_COUNT : Row := ⟨0x840, 17, 1, 0x38, 1, 0x0, 1, 0x0, 0, 32, .const 0, .ro, .any⟩
abbrev IC_SENT_COUNT : Row := ⟨0x840, 17, 1, 0x3c, 1, 0x0, 1, 0x0, 0, 32, .const 0, .ro, .any⟩
abbrev IC_PROF_COUNT : Row := ⟨0x840, 17, 1, 0x100, 8, 0x4, 1, 0x0, 0, 8, .const 1, .rw, .range 1 255⟩
abbrev IC_PROF_TIME_US : Row := ⟨0x840, 17, 1, 0x100, 8, 0x4, 1, 0x0, 8, 16, .const 1, .rw, .range 1 65535⟩

/-! R408 -/
abbrev IC_SRC_PRIO0 : Row := ⟨0x840, 17, 1, 0x400, 256, 0x4, 1, 0x0, 0, 3, .const 0, .rw, .any⟩
abbrev IC_SRC_PRIO1 : Row := ⟨0x840, 17, 1, 0x400, 256, 0x4, 1, 0x0, 8, 3, .const 0, .rw, .any⟩
abbrev IC_SRC_PRIO2 : Row := ⟨0x840, 17, 1, 0x400, 256, 0x4, 1, 0x0, 16, 3, .const 0, .rw, .any⟩
abbrev IC_SRC_PRIO3 : Row := ⟨0x840, 17, 1, 0x400, 256, 0x4, 1, 0x0, 24, 3, .const 0, .rw, .any⟩
abbrev IC_SRC_PROFILE0 : Row := ⟨0x840, 17, 1, 0x400, 256, 0x4, 1, 0x0, 3, 3, .const 0, .rw, .any⟩
abbrev IC_SRC_PROFILE1 : Row := ⟨0x840, 17, 1, 0x400, 256, 0x4, 1, 0x0, 11, 3, .const 0, .rw, .any⟩
abbrev IC_SRC_PROFILE2 : Row := ⟨0x840, 17, 1, 0x400, 256, 0x4, 1, 0x0, 19, 3, .const 0, .rw, .any⟩
abbrev IC_SRC_PROFILE3 : Row := ⟨0x840, 17, 1, 0x400, 256, 0x4, 1, 0x0, 27, 3, .const 0, .rw, .any⟩
abbrev IC_PENDING_BITS : Row := ⟨0x840, 17, 1, 0x800, 32, 0x4, 1, 0x0, 0, 32, .const 0, .ro, .any⟩
abbrev IC_INSERVICE_BITS : Row := ⟨0x840, 17, 1, 0x880, 32, 0x4, 1, 0x0, 0, 32, .const 0, .ro, .any⟩
abbrev IC_COUNTING_BITS : Row := ⟨0x840, 17, 1, 0x900, 32, 0x4, 1, 0x0, 0, 32, .const 0, .ro, .any⟩
abbrev IC_PAGES_BITS : Row := ⟨0x840, 17, 1, 0xc00, 256, 0x4, 1, 0x0, 0, 32, .const 0, .ro, .any⟩

/-! R429 -/
abbrev DOM_CTL_ON : Row := ⟨0x28, 1, 1, 0x20, 1, 0x0, 1, 0x0, 2, 6, .const 63, .rw, .any⟩
abbrev DOM_DRAIN_US : Row := ⟨0x28, 1, 1, 0x24, 1, 0x0, 1, 0x0, 0, 16, .const 100, .rw, .range 1 65535⟩
abbrev DOM_STATE_STATE : Row := ⟨0x28, 1, 1, 0x28, 1, 0x0, 1, 0x0, 0, 24, .const 0x492492, .ro, .any⟩
abbrev DOM_FAULT_BITS : Row := ⟨0x28, 1, 1, 0x2c, 1, 0x0, 1, 0x0, 0, 8, .const 0, .ro, .any⟩
abbrev DOM_LAST_DOMAIN : Row := ⟨0x28, 1, 1, 0x30, 1, 0x0, 1, 0x0, 0, 3, .const 0, .ro, .any⟩
abbrev DOM_LAST_TIMEOUT : Row := ⟨0x28, 1, 1, 0x30, 1, 0x0, 1, 0x0, 3, 1, .const 0, .ro, .any⟩
abbrev DOM_LAST_DISCARDED : Row := ⟨0x28, 1, 1, 0x30, 1, 0x0, 1, 0x0, 16, 16, .const 0, .ro, .any⟩
abbrev DOM_DRAIN_MAX_NS : Row := ⟨0x28, 1, 1, 0x34, 1, 0x0, 1, 0x0, 0, 32, .const 0, .ro, .any⟩

/-! R430 -/
abbrev FLT_CMD_LANE : Row := ⟨0x29, 1, 1, 0x20, 1, 0x0, 1, 0x0, 0, 4, .const 0, .wo, .any⟩
abbrev FLT_CMD_LANE_RESET : Row := ⟨0x29, 1, 1, 0x20, 1, 0x0, 1, 0x0, 4, 1, .const 0, .wo, .any⟩
abbrev DEV_RESET_KEY : Row := ⟨0x29, 1, 1, 0x24, 1, 0x0, 1, 0x0, 0, 16, .const 0, .wo, .any⟩
abbrev LANE_FLT_LIMIT_LIMIT : Row := ⟨0x29, 1, 1, 0x28, 1, 0x0, 1, 0x0, 0, 4, .const 3, .rw, .any⟩
abbrev LANE_FLT_LIMIT_WINDOW_MS : Row := ⟨0x29, 1, 1, 0x28, 1, 0x0, 1, 0x0, 16, 16, .const 0x3e8, .rw, .range 1 65535⟩
abbrev LANE_HELD_BITS : Row := ⟨0x29, 1, 1, 0x2c, 1, 0x0, 1, 0x0, 0, 12, .const 0, .ro, .any⟩
abbrev DEV_LAST_CAUSE : Row := ⟨0x29, 1, 1, 0x30, 1, 0x0, 1, 0x0, 0, 4, .const 0, .ro, .any⟩
abbrev DEV_LAST_COUNT : Row := ⟨0x29, 1, 1, 0x30, 1, 0x0, 1, 0x0, 16, 16, .const 0, .ro, .any⟩
abbrev ECC_CORR_COUNT : Row := ⟨0x29, 1, 1, 0x34, 1, 0x0, 1, 0x0, 0, 32, .const 0, .ro, .any⟩
abbrev ECC_UNCORR_COUNT : Row := ⟨0x29, 1, 1, 0x38, 1, 0x0, 1, 0x0, 0, 32, .const 0, .ro, .any⟩
abbrev LANE_FLT_COUNT : Row := ⟨0x29, 1, 1, 0x40, 12, 0x4, 1, 0x0, 0, 16, .const 0, .ro, .any⟩
abbrev LANE_FLT_CAUSE : Row := ⟨0x29, 1, 1, 0x40, 12, 0x4, 1, 0x0, 16, 2, .const 0, .ro, .any⟩
abbrev LANE_FLT_HELD : Row := ⟨0x29, 1, 1, 0x40, 12, 0x4, 1, 0x0, 18, 1, .const 0, .ro, .any⟩
abbrev TEN_FLT_CAUSE : Row := ⟨0x29, 1, 1, 0x80, 16, 0x4, 1, 0x0, 0, 4, .const 0, .ro, .any⟩
abbrev TEN_FLT_COUNT : Row := ⟨0x29, 1, 1, 0x80, 16, 0x4, 1, 0x0, 16, 16, .const 0, .ro, .any⟩

/-! R449 -/
abbrev THERM_CFG_T_SET : Row := ⟨0x20, 1, 1, 0x20, 1, 0x0, 1, 0x0, 0, 16, .const 0x2d00, .rw, .any⟩
abbrev THERM_CFG_CORR : Row := ⟨0x20, 1, 1, 0x20, 1, 0x0, 1, 0x0, 16, 8, .const 4, .rw, .any⟩
abbrev THERM_BOARD_RTH_LB : Row := ⟨0x20, 1, 1, 0x24, 1, 0x0, 1, 0x0, 0, 16, .const 0x800, .rw, .range 1 65535⟩
abbrev THROT_CTL_TH_START : Row := ⟨0x20, 1, 1, 0x28, 1, 0x0, 1, 0x0, 0, 16, .const 0x6400, .rw, .signedRange 0x4600 0x6900⟩
abbrev THROT_CTL_KP : Row := ⟨0x20, 1, 1, 0x28, 1, 0x0, 1, 0x0, 16, 8, .const 80, .rw, .any⟩
abbrev THROT_LIM_F_MIN : Row := ⟨0x20, 1, 1, 0x2c, 1, 0x0, 1, 0x0, 0, 10, .const 250, .rw, .range 100 1000⟩
abbrev THERM_STATUS_STATE : Row := ⟨0x20, 1, 1, 0x30, 1, 0x0, 1, 0x0, 0, 2, .const 0, .ro, .any⟩
abbrev THERM_STATUS_BOUND : Row := ⟨0x20, 1, 1, 0x30, 1, 0x0, 1, 0x0, 2, 1, .const 0, .ro, .any⟩
abbrev THERM_STATUS_THROT : Row := ⟨0x20, 1, 1, 0x30, 1, 0x0, 1, 0x0, 3, 1, .const 0, .ro, .any⟩
abbrev THERM_STATUS_HOT_NODE : Row := ⟨0x20, 1, 1, 0x30, 1, 0x0, 1, 0x0, 4, 4, .const 0, .ro, .any⟩
abbrev THERM_STATUS_TJ_MAX : Row := ⟨0x20, 1, 1, 0x30, 1, 0x0, 1, 0x0, 16, 16, .const 0, .ro, .any⟩
abbrev THERM_BOUNDARY_VALUE : Row := ⟨0x20, 1, 1, 0x34, 1, 0x0, 1, 0x0, 0, 16, .const 0, .ro, .any⟩
abbrev THROT_FRAC_F : Row := ⟨0x20, 1, 1, 0x38, 1, 0x0, 1, 0x0, 0, 10, .const 0x3e8, .ro, .any⟩
abbrev THERM_PEAK_VALUE : Row := ⟨0x20, 1, 1, 0x3c, 1, 0x0, 1, 0x0, 0, 16, .const 0x8000, .ro, .any⟩
abbrev THERM_NODE_TEMP : Row := ⟨0x20, 1, 1, 0x40, 16, 0x4, 1, 0x0, 0, 16, .const 0, .ro, .any⟩
abbrev THERM_NODE_VALID : Row := ⟨0x20, 1, 1, 0x40, 16, 0x4, 1, 0x0, 16, 1, .const 0, .ro, .any⟩

/-! R450 -/
abbrev CAP_CTL_HOLD_MS : Row := ⟨0x21, 1, 1, 0x20, 1, 0x0, 1, 0x0, 0, 16, .const 100, .rw, .range 1 65535⟩
abbrev CAP_DELIV_A_HOST_IN : Row := ⟨0x21, 1, 1, 0x24, 1, 0x0, 1, 0x0, 0, 16, .const 0, .ro, .any⟩
abbrev CAP_DELIV_A_HOST_OUT : Row := ⟨0x21, 1, 1, 0x24, 1, 0x0, 1, 0x0, 16, 16, .const 0, .ro, .any⟩
abbrev CAP_DELIV_B_PIXEL : Row := ⟨0x21, 1, 1, 0x28, 1, 0x0, 1, 0x0, 0, 16, .const 0x7d00, .ro, .any⟩
abbrev CAP_NOW_A_HOST_IN : Row := ⟨0x21, 1, 1, 0x2c, 1, 0x0, 1, 0x0, 0, 16, .const 0, .ro, .any⟩
abbrev CAP_NOW_A_HOST_OUT : Row := ⟨0x21, 1, 1, 0x2c, 1, 0x0, 1, 0x0, 16, 16, .const 0, .ro, .any⟩
abbrev CAP_NOW_B_PIXEL : Row := ⟨0x21, 1, 1, 0x30, 1, 0x0, 1, 0x0, 0, 16, .const 0x7d00, .ro, .any⟩
abbrev CAP_ADMIT_A_HOST_IN : Row := ⟨0x21, 1, 1, 0x34, 1, 0x0, 1, 0x0, 0, 16, .const 0, .ro, .any⟩
abbrev CAP_ADMIT_A_HOST_OUT : Row := ⟨0x21, 1, 1, 0x34, 1, 0x0, 1, 0x0, 16, 16, .const 0, .ro, .any⟩
abbrev CAP_ADMIT_B_PIXEL : Row := ⟨0x21, 1, 1, 0x38, 1, 0x0, 1, 0x0, 0, 16, .const 0, .ro, .any⟩
abbrev CAP_STATUS_LEVEL : Row := ⟨0x21, 1, 1, 0x3c, 1, 0x0, 1, 0x0, 0, 3, .const 0, .ro, .any⟩
abbrev CAP_STATUS_SHORT : Row := ⟨0x21, 1, 1, 0x3c, 1, 0x0, 1, 0x0, 3, 1, .const 0, .ro, .any⟩
abbrev CAP_STATUS_CUT : Row := ⟨0x21, 1, 1, 0x3c, 1, 0x0, 1, 0x0, 16, 16, .const 0, .ro, .any⟩
abbrev CAP_RES_HOST_IN : Row := ⟨0x21, 1, 1, 0x100, 16, 0x8, 1, 0x0, 0, 16, .const 0, .sh, .any⟩
abbrev CAP_RES_HOST_OUT : Row := ⟨0x21, 1, 1, 0x100, 16, 0x8, 1, 0x0, 16, 16, .const 0, .sh, .any⟩
abbrev CAP_RES_PIXEL : Row := ⟨0x21, 1, 1, 0x104, 16, 0x8, 1, 0x0, 0, 16, .const 0, .sh, .any⟩
abbrev CAP_RES_PRIO : Row := ⟨0x21, 1, 1, 0x104, 16, 0x8, 1, 0x0, 16, 4, .const 0, .sh, .any⟩
abbrev CAP_RES_GUAR : Row := ⟨0x21, 1, 1, 0x104, 16, 0x8, 1, 0x0, 31, 1, .const 0, .sh, .any⟩

/-! R451 -/
abbrev THIN_CTL_MARGIN : Row := ⟨0x22, 1, 1, 0x20, 1, 0x0, 1, 0x0, 0, 12, .const 64, .rw, .any⟩
abbrev THIN_CTL_MIN_KEEP : Row := ⟨0x22, 1, 1, 0x20, 1, 0x0, 1, 0x0, 16, 12, .const 0x100, .rw, .range 64 4095⟩
abbrev THIN_STATUS_KEEP : Row := ⟨0x22, 1, 1, 0x24, 1, 0x0, 1, 0x0, 0, 13, .const 0x1000, .ro, .any⟩
abbrev THIN_STATUS_ACTIVE : Row := ⟨0x22, 1, 1, 0x24, 1, 0x0, 1, 0x0, 16, 1, .const 0, .ro, .any⟩
abbrev THIN_FROM_LO_VALUE : Row := ⟨0x22, 1, 1, 0x28, 1, 0x0, 1, 0x0, 0, 32, .const 0, .ro, .any⟩
abbrev THIN_FROM_HI_VALUE : Row := ⟨0x22, 1, 1, 0x2c, 1, 0x0, 1, 0x0, 0, 16, .const 0, .ro, .any⟩
abbrev THIN_LINES_COUNT : Row := ⟨0x22, 1, 1, 0x30, 1, 0x0, 1, 0x0, 0, 32, .const 0, .ro, .any⟩
abbrev SPD_ADV_CTL_MODE : Row := ⟨0x22, 1, 1, 0x34, 1, 0x0, 1, 0x0, 0, 1, .const 0, .rw, .any⟩
abbrev SPD_ADV_KHZ_KHZ : Row := ⟨0x22, 1, 1, 0x38, 1, 0x0, 1, 0x0, 0, 17, .const 0x1adb0, .ro, .any⟩
abbrev SPD_ADV_KHZ_ASSERTED : Row := ⟨0x22, 1, 1, 0x38, 1, 0x0, 1, 0x0, 31, 1, .const 0, .ro, .any⟩
abbrev SPD_ADV_RATE_LINES_S : Row := ⟨0x22, 1, 1, 0x3c, 1, 0x0, 1, 0x0, 0, 24, .const 0, .ro, .any⟩

/-! R477 -/
abbrev MBX_H2M_CTL_LEN : Row := ⟨0x900, 16, 1, 0x20, 1, 0x0, 1, 0x0, 0, 7, .const 0, .wo, .any⟩
abbrev MBX_H2M_CTL_GO : Row := ⟨0x900, 16, 1, 0x20, 1, 0x0, 1, 0x0, 31, 1, .const 0, .wo, .any⟩
abbrev MBX_STATUS_STATE : Row := ⟨0x900, 16, 1, 0x24, 1, 0x0, 1, 0x0, 0, 2, .const 0, .ro, .any⟩
abbrev MBX_STATUS_M2H_LEN : Row := ⟨0x900, 16, 1, 0x24, 1, 0x0, 1, 0x0, 8, 7, .const 0, .ro, .any⟩
abbrev MBX_M2H_ACK_ACK : Row := ⟨0x900, 16, 1, 0x28, 1, 0x0, 1, 0x0, 0, 1, .const 0, .wo, .any⟩
abbrev MBX_FENCE_VALUE : Row := ⟨0x900, 16, 1, 0x2c, 1, 0x0, 1, 0x0, 0, 32, .const 0, .ro, .any⟩
abbrev MBX_FLAG_VALUE : Row := ⟨0x900, 16, 1, 0x40, 8, 0x4, 1, 0x0, 0, 32, .const 0, .rw, .any⟩
abbrev MBX_FLAG_M : Row := ⟨0x900, 16, 1, 0x60, 8, 0x4, 1, 0x0, 0, 32, .const 0, .ro, .any⟩
abbrev MBX_H2M_VALUE : Row := ⟨0x900, 16, 1, 0x100, 64, 0x4, 1, 0x0, 0, 32, .const 0, .rw, .any⟩
abbrev MBX_M2H_VALUE : Row := ⟨0x900, 16, 1, 0x200, 64, 0x4, 1, 0x0, 0, 32, .const 0, .ro, .any⟩

/-! R478 -/
abbrev MGMT_FW_VERSION : Row := ⟨0x900, 1, 1, 0x400, 1, 0x0, 1, 0x0, 0, 24, .const 0, .ro, .any⟩
abbrev MGMT_BUILD_VALUE : Row := ⟨0x900, 1, 1, 0x404, 1, 0x0, 1, 0x0, 0, 32, .const 0, .ro, .any⟩
abbrev MGMT_STATUS_MODE : Row := ⟨0x900, 1, 1, 0x408, 1, 0x0, 1, 0x0, 0, 2, .const 0, .ro, .any⟩
abbrev MGMT_STATUS_BANK : Row := ⟨0x900, 1, 1, 0x408, 1, 0x0, 1, 0x0, 2, 1, .const 0, .ro, .any⟩
abbrev MGMT_STATUS_TRIAL : Row := ⟨0x900, 1, 1, 0x408, 1, 0x0, 1, 0x0, 3, 1, .const 0, .ro, .any⟩
abbrev MGMT_STATUS_FALLBACK : Row := ⟨0x900, 1, 1, 0x408, 1, 0x0, 1, 0x0, 4, 1, .const 0, .ro, .any⟩
abbrev MGMT_SVN_IMAGE : Row := ⟨0x900, 1, 1, 0x40c, 1, 0x0, 1, 0x0, 0, 8, .const 0, .ro, .any⟩
abbrev MGMT_SVN_FUSES : Row := ⟨0x900, 1, 1, 0x40c, 1, 0x0, 1, 0x0, 8, 8, .const 0, .ro, .any⟩
abbrev MGMT_PERF_RETIRED : Row := ⟨0x900, 1, 1, 0x410, 2, 0x8, 1, 0x0, 0, 32, .const 0, .ro, .any⟩
abbrev MGMT_PERF_FETCHED : Row := ⟨0x900, 1, 1, 0x414, 2, 0x8, 1, 0x0, 0, 32, .const 0, .ro, .any⟩
abbrev LOG_SEL_SEQ : Row := ⟨0x900, 1, 1, 0x420, 1, 0x0, 1, 0x0, 0, 32, .const 0, .rw, .any⟩
abbrev LOG_SRC_SRC : Row := ⟨0x900, 1, 1, 0x424, 1, 0x0, 1, 0x0, 0, 1, .const 0, .rw, .any⟩
abbrev LOG_SRC_READY : Row := ⟨0x900, 1, 1, 0x424, 1, 0x0, 1, 0x0, 1, 1, .const 0, .ro, .any⟩
abbrev LOG_SRC_GONE : Row := ⟨0x900, 1, 1, 0x424, 1, 0x0, 1, 0x0, 2, 1, .const 0, .ro, .any⟩
abbrev LOG_HEAD_SEQ : Row := ⟨0x900, 1, 1, 0x428, 1, 0x0, 1, 0x0, 0, 32, .const 0, .ro, .any⟩
abbrev LOG_TAIL_SEQ : Row := ⟨0x900, 1, 1, 0x42c, 1, 0x0, 1, 0x0, 0, 32, .const 0, .ro, .any⟩
abbrev LOG_MIRROR_SEQ : Row := ⟨0x900, 1, 1, 0x430, 1, 0x0, 1, 0x0, 0, 32, .const 0, .ro, .any⟩
abbrev LOG_LOST_INTAKE : Row := ⟨0x900, 1, 1, 0x434, 1, 0x0, 1, 0x0, 0, 16, .const 0, .ro, .any⟩
abbrev LOG_LOST_MIRROR : Row := ⟨0x900, 1, 1, 0x434, 1, 0x0, 1, 0x0, 16, 16, .const 0, .ro, .any⟩
abbrev LOG_MIRROR_MASK_BITS : Row := ⟨0x900, 1, 1, 0x438, 1, 0x0, 1, 0x0, 0, 32, .const 0x7ffd8, .rw, .any⟩
abbrev LOG_DATA_VALUE : Row := ⟨0x900, 1, 1, 0x440, 8, 0x4, 1, 0x0, 0, 32, .const 0, .ro, .any⟩
abbrev MON_V_MV : Row := ⟨0x900, 1, 1, 0x480, 12, 0x10, 1, 0x0, 0, 16, .const 0, .ro, .any⟩
abbrev MON_I_MA : Row := ⟨0x900, 1, 1, 0x480, 12, 0x10, 1, 0x0, 16, 16, .const 0, .ro, .any⟩
abbrev MON_P_MW : Row := ⟨0x900, 1, 1, 0x484, 12, 0x10, 1, 0x0, 0, 24, .const 0, .ro, .any⟩
abbrev MON_VALID : Row := ⟨0x900, 1, 1, 0x484, 12, 0x10, 1, 0x0, 24, 1, .const 0, .ro, .any⟩
abbrev MON_ALARM : Row := ⟨0x900, 1, 1, 0x484, 12, 0x10, 1, 0x0, 25, 1, .const 0, .ro, .any⟩
abbrev MON_V_LO : Row := ⟨0x900, 1, 1, 0x488, 12, 0x10, 1, 0x0, 0, 16, .byIndex [600, 600, 600, 600, 600, 600, 600, 600, 1710, 1600, 808, 808], .rw, .any⟩
abbrev MON_V_HI : Row := ⟨0x900, 1, 1, 0x488, 12, 0x10, 1, 0x0, 16, 16, .byIndex [900, 900, 900, 900, 900, 900, 900, 900, 1890, 3700, 893, 893], .rw, .any⟩
abbrev MON_PEAK_MW : Row := ⟨0x900, 1, 1, 0x48c, 12, 0x10, 1, 0x0, 0, 24, .const 0, .ro, .any⟩
abbrev UPD_CMD_OP : Row := ⟨0x900, 1, 1, 0x600, 1, 0x0, 1, 0x0, 0, 3, .const 0, .wo, .any⟩
abbrev UPD_STATUS_STATE : Row := ⟨0x900, 1, 1, 0x604, 1, 0x0, 1, 0x0, 0, 3, .const 0, .ro, .any⟩
abbrev UPD_STATUS_REASON : Row := ⟨0x900, 1, 1, 0x604, 1, 0x0, 1, 0x0, 4, 4, .const 0, .ro, .any⟩
abbrev UPD_STATUS_OWNER : Row := ⟨0x900, 1, 1, 0x604, 1, 0x0, 1, 0x0, 8, 2, .const 0, .ro, .any⟩
abbrev UPD_DATA_VALUE : Row := ⟨0x900, 1, 1, 0x608, 1, 0x0, 1, 0x0, 0, 32, .const 0, .wo, .any⟩
abbrev UPD_COUNT_BYTES : Row := ⟨0x900, 1, 1, 0x60c, 1, 0x0, 1, 0x0, 0, 32, .const 0, .ro, .any⟩
abbrev UPD_FREE_BYTES : Row := ⟨0x900, 1, 1, 0x610, 1, 0x0, 1, 0x0, 0, 17, .const 0x10000, .ro, .any⟩

/-! R504 -/
abbrev USB_CTL_EN : Row := ⟨0x920, 1, 1, 0x20, 1, 0x0, 1, 0x0, 0, 1, .const 1, .rw, .any⟩
abbrev USB_CTL_RD_EN : Row := ⟨0x920, 1, 1, 0x20, 1, 0x0, 1, 0x0, 1, 1, .const 1, .rw, .any⟩
abbrev USB_CTL_WR_EN : Row := ⟨0x920, 1, 1, 0x20, 1, 0x0, 1, 0x0, 2, 1, .const 0, .rw, .any⟩
abbrev USB_CTL_UPD_EN : Row := ⟨0x920, 1, 1, 0x20, 1, 0x0, 1, 0x0, 3, 1, .const 1, .rw, .any⟩
abbrev USB_CTL_WAKE_EN : Row := ⟨0x920, 1, 1, 0x20, 1, 0x0, 1, 0x0, 4, 1, .const 1, .rw, .any⟩
abbrev USB_STATUS_STATE : Row := ⟨0x920, 1, 1, 0x24, 1, 0x0, 1, 0x0, 0, 3, .const 0, .ro, .any⟩
abbrev USB_STATUS_HS : Row := ⟨0x920, 1, 1, 0x24, 1, 0x0, 1, 0x0, 3, 1, .const 0, .ro, .any⟩
abbrev USB_STATUS_ADDRESS : Row := ⟨0x920, 1, 1, 0x24, 1, 0x0, 1, 0x0, 4, 7, .const 0, .ro, .any⟩
abbrev USB_STATUS_RWAKE : Row := ⟨0x920, 1, 1, 0x24, 1, 0x0, 1, 0x0, 11, 1, .const 0, .ro, .any⟩
abbrev USB_STATUS_WAKE_PENDING : Row := ⟨0x920, 1, 1, 0x24, 1, 0x0, 1, 0x0, 12, 1, .const 0, .ro, .any⟩
abbrev USB_STATUS_LOG_STREAM : Row := ⟨0x920, 1, 1, 0x24, 1, 0x0, 1, 0x0, 13, 1, .const 0, .ro, .any⟩
abbrev USB_EVT_MASK_MASK : Row := ⟨0x920, 1, 1, 0x28, 1, 0x0, 1, 0x0, 0, 16, .const 254, .rw, .any⟩
abbrev USB_LOG_MASK_BITS : Row := ⟨0x920, 1, 1, 0x2c, 1, 0x0, 1, 0x0, 0, 32, .const 0, .rw, .any⟩
abbrev USB_BUS_RESETS_COUNT : Row := ⟨0x920, 1, 1, 0x30, 1, 0x0, 1, 0x0, 0, 32, .const 0, .ro, .any⟩
abbrev USB_ABORTS_COUNT : Row := ⟨0x920, 1, 1, 0x34, 1, 0x0, 1, 0x0, 0, 32, .const 0, .ro, .any⟩
abbrev USB_STALLS_COUNT : Row := ⟨0x920, 1, 1, 0x38, 1, 0x0, 1, 0x0, 0, 32, .const 0, .ro, .any⟩
abbrev USB_EVT_LOST_COUNT : Row := ⟨0x920, 1, 1, 0x3c, 1, 0x0, 1, 0x0, 0, 32, .const 0, .ro, .any⟩
abbrev USB_ID_VID : Row := ⟨0x920, 1, 1, 0x40, 1, 0x0, 1, 0x0, 0, 16, .const 0, .ro, .any⟩
abbrev USB_ID_PID : Row := ⟨0x920, 1, 1, 0x40, 1, 0x0, 1, 0x0, 16, 16, .const 0, .ro, .any⟩

/-! R505 -/
abbrev TWT_CTL_EN : Row := ⟨0x921, 1, 1, 0x20, 1, 0x0, 1, 0x0, 0, 1, .const 1, .rw, .any⟩
abbrev TWT_CTL_FILT : Row := ⟨0x921, 1, 1, 0x20, 1, 0x0, 1, 0x0, 8, 8, .const 50, .rw, .any⟩
abbrev TWT_ADDR_BASE : Row := ⟨0x921, 1, 1, 0x24, 1, 0x0, 1, 0x0, 0, 7, .const 88, .rw, .any⟩
abbrev TWT_ADDR_MASK : Row := ⟨0x921, 1, 1, 0x24, 1, 0x0, 1, 0x0, 8, 7, .const 127, .rw, .any⟩
abbrev TWT_ADDR_ALERT_ADDR : Row := ⟨0x921, 1, 1, 0x24, 1, 0x0, 1, 0x0, 16, 7, .const 88, .rw, .any⟩
abbrev TWT_ALERT_MASK_MASK : Row := ⟨0x921, 1, 1, 0x28, 1, 0x0, 1, 0x0, 0, 16, .const 0x3ff, .rw, .any⟩
abbrev TWT_ALERT_STATUS_BITS : Row := ⟨0x921, 1, 1, 0x2c, 1, 0x0, 1, 0x0, 0, 16, .const 0, .w1c, .any⟩
abbrev TWT_COUNT_NACK_BUSY : Row := ⟨0x921, 1, 1, 0x30, 1, 0x0, 1, 0x0, 0, 16, .const 0, .ro, .any⟩
abbrev TWT_COUNT_TIMEOUTS : Row := ⟨0x921, 1, 1, 0x30, 1, 0x0, 1, 0x0, 16, 16, .const 0, .ro, .any⟩
abbrev TWT_IGNORED_COUNT : Row := ⟨0x921, 1, 1, 0x34, 1, 0x0, 1, 0x0, 0, 32, .const 0, .ro, .any⟩
abbrev TWT_LAST_ALERT_SOURCE : Row := ⟨0x921, 1, 1, 0x38, 1, 0x0, 1, 0x0, 0, 4, .const 15, .ro, .any⟩
abbrev TWT_HOST_ALERT_SET : Row := ⟨0x921, 1, 1, 0x3c, 1, 0x0, 1, 0x0, 0, 1, .const 0, .wo, .any⟩
abbrev TWT_SCRATCH_VALUE : Row := ⟨0x921, 1, 1, 0x800, 512, 0x4, 1, 0x0, 0, 32, .const 0, .rw, .any⟩

/-! R506 -/
abbrev TWC_CTL_EN : Row := ⟨0x922, 1, 1, 0x20, 1, 0x0, 1, 0x0, 0, 1, .const 1, .rw, .any⟩
abbrev TWC_CTL_SPEED : Row := ⟨0x922, 1, 1, 0x20, 1, 0x0, 1, 0x0, 1, 2, .const 1, .rw, .range 0 2⟩
abbrev TWC_CTL_RETRIES : Row := ⟨0x922, 1, 1, 0x20, 1, 0x0, 1, 0x0, 4, 4, .const 3, .rw, .any⟩
abbrev TWC_CTL_FILT : Row := ⟨0x922, 1, 1, 0x20, 1, 0x0, 1, 0x0, 8, 8, .const 50, .rw, .any⟩
abbrev TWC_CTL_TIMEOUT_MS : Row := ⟨0x922, 1, 1, 0x20, 1, 0x0, 1, 0x0, 16, 8, .const 30, .rw, .range 1 255⟩
abbrev TWC_XFER_ADDR : Row := ⟨0x922, 1, 1, 0x24, 1, 0x0, 1, 0x0, 0, 7, .const 0, .wo, .any⟩
abbrev TWC_XFER_WLEN : Row := ⟨0x922, 1, 1, 0x24, 1, 0x0, 1, 0x0, 8, 6, .const 0, .wo, .any⟩
abbrev TWC_XFER_RLEN : Row := ⟨0x922, 1, 1, 0x24, 1, 0x0, 1, 0x0, 16, 6, .const 0, .wo, .any⟩
abbrev TWC_XFER_GO : Row := ⟨0x922, 1, 1, 0x24, 1, 0x0, 1, 0x0, 31, 1, .const 0, .wo, .any⟩
abbrev TWC_STATUS_BUSY : Row := ⟨0x922, 1, 1, 0x28, 1, 0x0, 1, 0x0, 0, 1, .const 0, .ro, .any⟩
abbrev TWC_STATUS_RESULT : Row := ⟨0x922, 1, 1, 0x28, 1, 0x0, 1, 0x0, 1, 3, .const 0, .ro, .any⟩
abbrev TWC_STATUS_NACK_BYTE : Row := ⟨0x922, 1, 1, 0x28, 1, 0x0, 1, 0x0, 4, 6, .const 0, .ro, .any⟩
abbrev TWC_STATUS_RCOUNT : Row := ⟨0x922, 1, 1, 0x28, 1, 0x0, 1, 0x0, 16, 6, .const 0, .ro, .any⟩
abbrev TWC_STATUS_ARB_RETRIES : Row := ⟨0x922, 1, 1, 0x28, 1, 0x0, 1, 0x0, 24, 4, .const 0, .ro, .any⟩
abbrev TWC_RECOVER_GO : Row := ⟨0x922, 1, 1, 0x2c, 1, 0x0, 1, 0x0, 0, 1, .const 0, .wo, .any⟩
abbrev TWC_COUNT_ARB_LOST : Row := ⟨0x922, 1, 1, 0x30, 1, 0x0, 1, 0x0, 0, 16, .const 0, .ro, .any⟩
abbrev TWC_COUNT_RECOVERIES : Row := ⟨0x922, 1, 1, 0x30, 1, 0x0, 1, 0x0, 16, 16, .const 0, .ro, .any⟩
abbrev TWC_WDATA_VALUE : Row := ⟨0x922, 1, 1, 0x40, 8, 0x4, 1, 0x0, 0, 32, .const 0, .rw, .any⟩
abbrev TWC_RDATA_VALUE : Row := ⟨0x922, 1, 1, 0x60, 8, 0x4, 1, 0x0, 0, 32, .const 0, .ro, .any⟩

/-! R529 -/
abbrev ONX_ID_VERSION : Row := ⟨0x980, 1, 1, 0x20, 1, 0x0, 1, 0x0, 0, 16, .const 0, .ro, .any⟩
abbrev ONX_ID_CHECKSUM : Row := ⟨0x980, 1, 1, 0x20, 1, 0x0, 1, 0x0, 16, 16, .const 0, .ro, .any⟩
abbrev ONX_STATUS_STATE : Row := ⟨0x980, 1, 1, 0x24, 1, 0x0, 1, 0x0, 0, 3, .const 0, .ro, .any⟩
abbrev ONX_STATUS_VIEW_VALID : Row := ⟨0x980, 1, 1, 0x24, 1, 0x0, 1, 0x0, 3, 1, .const 0, .ro, .any⟩
abbrev ONX_STATUS_STAGED : Row := ⟨0x980, 1, 1, 0x24, 1, 0x0, 1, 0x0, 4, 1, .const 0, .ro, .any⟩
abbrev ONX_STATUS_SWITCH : Row := ⟨0x980, 1, 1, 0x24, 1, 0x0, 1, 0x0, 5, 1, .const 0, .ro, .any⟩
abbrev ONX_STATUS_AUDIT_FULL : Row := ⟨0x980, 1, 1, 0x24, 1, 0x0, 1, 0x0, 6, 1, .const 0, .ro, .any⟩
abbrev ONX_STATUS_COLD_STARTS : Row := ⟨0x980, 1, 1, 0x24, 1, 0x0, 1, 0x0, 8, 6, .const 0, .ro, .any⟩
abbrev ONX_EVENT_COUNT : Row := ⟨0x980, 1, 1, 0x28, 1, 0x0, 1, 0x0, 0, 32, .const 0, .ro, .any⟩
abbrev ONX_SEC_SECONDS : Row := ⟨0x980, 1, 1, 0x2c, 1, 0x0, 1, 0x0, 0, 32, .const 0, .ro, .any⟩
abbrev ONX_PUSH_TIME_LO_VALUE : Row := ⟨0x980, 1, 1, 0x30, 1, 0x0, 1, 0x0, 0, 32, .const 0, .ro, .any⟩
abbrev ONX_PUSH_TIME_HI_VALUE : Row := ⟨0x980, 1, 1, 0x34, 1, 0x0, 1, 0x0, 0, 32, .const 0, .ro, .any⟩
abbrev ONX_PUSH_SEQ_COUNT : Row := ⟨0x980, 1, 1, 0x38, 1, 0x0, 1, 0x0, 0, 32, .const 0, .ro, .any⟩
abbrev ONX_TOTAL_LO_VALUE : Row := ⟨0x980, 1, 1, 0x40, 1, 0x0, 1, 0x0, 0, 32, .const 0, .ro, .any⟩
abbrev ONX_TOTAL_HI_VALUE : Row := ⟨0x980, 1, 1, 0x44, 1, 0x0, 1, 0x0, 0, 32, .const 0, .ro, .any⟩
abbrev ONX_JOB_LO_VALUE : Row := ⟨0x980, 1, 1, 0x48, 1, 0x0, 1, 0x0, 0, 32, .const 0, .ro, .any⟩
abbrev ONX_JOB_HI_VALUE : Row := ⟨0x980, 1, 1, 0x4c, 1, 0x0, 1, 0x0, 0, 32, .const 0, .ro, .any⟩
abbrev ONX_JOB_NO_VALUE : Row := ⟨0x980, 1, 1, 0x50, 1, 0x0, 1, 0x0, 0, 32, .const 0, .ro, .any⟩
abbrev ONX_UNMET_LO_VALUE : Row := ⟨0x980, 1, 1, 0x54, 1, 0x0, 1, 0x0, 0, 32, .const 0, .ro, .any⟩
abbrev ONX_UNMET_HI_VALUE : Row := ⟨0x980, 1, 1, 0x58, 1, 0x0, 1, 0x0, 0, 32, .const 0, .ro, .any⟩
abbrev WHEEL_LEN_LO : Row := ⟨0x980, 1, 1, 0x60, 2, 0x10, 1, 0x0, 0, 32, .const 0, .ro, .any⟩
abbrev WHEEL_LEN_HI : Row := ⟨0x980, 1, 1, 0x64, 2, 0x10, 1, 0x0, 0, 32, .const 0, .ro, .any⟩
abbrev WHEEL_QERR : Row := ⟨0x980, 1, 1, 0x68, 2, 0x10, 1, 0x0, 0, 32, .const 0, .ro, .any⟩
abbrev WHEEL_VEL : Row := ⟨0x980, 1, 1, 0x6c, 2, 0x10, 1, 0x0, 0, 32, .const 0, .ro, .any⟩
abbrev WIN_LAST_A0 : Row := ⟨0x980, 1, 1, 0x80, 1, 0x0, 1, 0x0, 0, 32, .const 0, .ro, .any⟩
abbrev WIN_LAST_A1 : Row := ⟨0x980, 1, 1, 0x84, 1, 0x0, 1, 0x0, 0, 32, .const 0, .ro, .any⟩
abbrev WIN_COUNT_COUNT : Row := ⟨0x980, 1, 1, 0x88, 1, 0x0, 1, 0x0, 0, 32, .const 0, .ro, .any⟩
abbrev WIN_DISAGREE_COUNT : Row := ⟨0x980, 1, 1, 0x8c, 1, 0x0, 1, 0x0, 0, 32, .const 0, .ro, .any⟩
abbrev AUD_HEAD_SEQ : Row := ⟨0x980, 1, 1, 0x90, 1, 0x0, 1, 0x0, 0, 32, .const 0, .ro, .any⟩
abbrev AUD_RELEASED_SEQ : Row := ⟨0x980, 1, 1, 0x94, 1, 0x0, 1, 0x0, 0, 32, .const 0, .ro, .any⟩
abbrev AUD_OVERFLOW_COUNT : Row := ⟨0x980, 1, 1, 0x98, 1, 0x0, 1, 0x0, 0, 32, .const 0, .ro, .any⟩
abbrev ONX_ENV_TEMP : Row := ⟨0x980, 1, 1, 0xa0, 1, 0x0, 1, 0x0, 0, 16, .const 0, .ro, .any⟩
abbrev ONX_ENV_VDD_MV : Row := ⟨0x980, 1, 1, 0xa0, 1, 0x0, 1, 0x0, 16, 16, .const 0, .ro, .any⟩
abbrev ONX_PARAM_VALUE : Row := ⟨0x980, 1, 1, 0xc0, 9, 0x4, 1, 0x0, 0, 32, .const 0, .ro, .any⟩

/-! R531 -/
abbrev STAGE_MASK_IDS : Row := ⟨0x981, 1, 1, 0x20, 1, 0x0, 1, 0x0, 1, 9, .const 0, .ro, .any⟩
abbrev STAGE_MASK_RELEASE : Row := ⟨0x981, 1, 1, 0x20, 1, 0x0, 1, 0x0, 10, 1, .const 0, .ro, .any⟩
abbrev STAGE_VALUE_VALUE : Row := ⟨0x981, 1, 1, 0x40, 9, 0x4, 1, 0x0, 0, 32, .const 0, .ro, .any⟩
abbrev STAGE_RELEASE_SEQ : Row := ⟨0x981, 1, 1, 0x80, 1, 0x0, 1, 0x0, 0, 32, .const 0, .ro, .any⟩
abbrev LAST_JOB_JOB_NO : Row := ⟨0x981, 1, 1, 0x100, 1, 0x0, 1, 0x0, 0, 32, .const 0, .ro, .any⟩
abbrev LAST_JOB_START_LO : Row := ⟨0x981, 1, 1, 0x104, 1, 0x0, 1, 0x0, 0, 32, .const 0, .ro, .any⟩
abbrev LAST_JOB_START_HI : Row := ⟨0x981, 1, 1, 0x108, 1, 0x0, 1, 0x0, 0, 32, .const 0, .ro, .any⟩
abbrev LAST_JOB_END_LO : Row := ⟨0x981, 1, 1, 0x10c, 1, 0x0, 1, 0x0, 0, 32, .const 0, .ro, .any⟩
abbrev LAST_JOB_END_HI : Row := ⟨0x981, 1, 1, 0x110, 1, 0x0, 1, 0x0, 0, 32, .const 0, .ro, .any⟩
abbrev LAST_JOB_SEC : Row := ⟨0x981, 1, 1, 0x114, 1, 0x0, 1, 0x0, 0, 32, .const 0, .ro, .any⟩

/-! R546 -/
abbrev IK_CTL_EN : Row := ⟨0x940, 1, 1, 0x20, 1, 0x0, 1, 0x0, 0, 1, .const 0, .rw, .any⟩
abbrev IK_CTL_LEAD : Row := ⟨0x940, 1, 1, 0x20, 1, 0x0, 1, 0x0, 1, 1, .const 0, .ro, .any⟩
abbrev IK_CTL_TB_TOL : Row := ⟨0x940, 1, 1, 0x20, 1, 0x0, 1, 0x0, 8, 8, .const 20, .rw, .range 1 255⟩
abbrev IK_CTL_SYNC_MS : Row := ⟨0x940, 1, 1, 0x20, 1, 0x0, 1, 0x0, 16, 16, .const 100, .rw, .range 1 65535⟩
abbrev IK_STATUS_STATE : Row := ⟨0x940, 1, 1, 0x24, 1, 0x0, 1, 0x0, 0, 3, .const 0, .ro, .any⟩
abbrev IK_STATUS_POS : Row := ⟨0x940, 1, 1, 0x24, 1, 0x0, 1, 0x0, 3, 2, .const 0, .ro, .any⟩
abbrev IK_STATUS_NDEV : Row := ⟨0x940, 1, 1, 0x24, 1, 0x0, 1, 0x0, 5, 3, .const 1, .ro, .any⟩
abbrev IK_STATUS_LEADER_POS : Row := ⟨0x940, 1, 1, 0x24, 1, 0x0, 1, 0x0, 8, 2, .const 0, .ro, .any⟩
abbrev IK_STATUS_REASON : Row := ⟨0x940, 1, 1, 0x24, 1, 0x0, 1, 0x0, 10, 4, .const 0, .ro, .any⟩
abbrev IK_STATUS_VERSION : Row := ⟨0x940, 1, 1, 0x24, 1, 0x0, 1, 0x0, 16, 4, .const 0, .ro, .any⟩
abbrev IK_XBASE_X : Row := ⟨0x940, 1, 1, 0x28, 1, 0x0, 1, 0x0, 0, 20, .const 0, .ro, .any⟩
abbrev IK_XSTART_X : Row := ⟨0x940, 1, 1, 0x2c, 1, 0x0, 1, 0x0, 0, 20, .const 0, .ro, .any⟩
abbrev IK_TRIG_DELAY_NS : Row := ⟨0x940, 1, 1, 0x30, 1, 0x0, 1, 0x0, 0, 10, .const 0, .ro, .any⟩
abbrev IK_TB_OFFSET_NS : Row := ⟨0x940, 1, 1, 0x34, 1, 0x0, 1, 0x0, 0, 32, .const 0, .ro, .any⟩
abbrev IK_TB_RESYNCS_COUNT : Row := ⟨0x940, 1, 1, 0x38, 1, 0x0, 1, 0x0, 0, 32, .const 0, .ro, .any⟩
abbrev IK_CMD_CLEAR : Row := ⟨0x940, 1, 1, 0x3c, 1, 0x0, 1, 0x0, 0, 1, .const 0, .wo, .any⟩
abbrev IK_COMMIT_LINE_LO_VALUE : Row := ⟨0x940, 1, 1, 0x40, 1, 0x0, 1, 0x0, 0, 32, .const 0, .ro, .any⟩
abbrev IK_COMMIT_LINE_HI_VALUE : Row := ⟨0x940, 1, 1, 0x44, 1, 0x0, 1, 0x0, 0, 16, .const 0, .ro, .any⟩
abbrev IK_HALT_CAUSE_CAUSE : Row := ⟨0x940, 1, 1, 0x48, 1, 0x0, 1, 0x0, 0, 4, .const 0, .ro, .any⟩
abbrev IK_VERSIONS_OFFER : Row := ⟨0x940, 1, 1, 0x4c, 1, 0x0, 1, 0x0, 0, 8, .const 1, .ro, .any⟩

/-! R547 -/
abbrev IKP_STATUS_UP : Row := ⟨0x941, 2, 1, 0x20, 1, 0x0, 1, 0x0, 0, 1, .const 0, .ro, .any⟩
abbrev IKP_STATUS_WIDTH : Row := ⟨0x941, 2, 1, 0x20, 1, 0x0, 1, 0x0, 1, 3, .const 0, .ro, .any⟩
abbrev IKP_STATUS_PEER_POS : Row := ⟨0x941, 2, 1, 0x20, 1, 0x0, 1, 0x0, 4, 2, .const 0, .ro, .any⟩
abbrev IKP_STATUS_LAT_NS : Row := ⟨0x941, 2, 1, 0x20, 1, 0x0, 1, 0x0, 16, 16, .const 0, .ro, .any⟩
abbrev IKP_CRC_ERR_COUNT : Row := ⟨0x941, 2, 1, 0x24, 1, 0x0, 1, 0x0, 0, 32, .const 0, .ro, .any⟩
abbrev IKP_RETRY_COUNT : Row := ⟨0x941, 2, 1, 0x28, 1, 0x0, 1, 0x0, 0, 32, .const 0, .ro, .any⟩
abbrev IKP_DOWNS_COUNT : Row := ⟨0x941, 2, 1, 0x2c, 1, 0x0, 1, 0x0, 0, 32, .const 0, .ro, .any⟩

/-! R563 -/
abbrev DEV_MODE_MODE : Row := ⟨0x0, 1, 1, 0x24, 1, 0x0, 1, 0x0, 0, 1, .const 0, .rw, .any⟩
abbrev DEV_RUN_START : Row := ⟨0x0, 1, 1, 0x28, 1, 0x0, 1, 0x0, 0, 1, .const 0, .wo, .any⟩
abbrev DEV_RUN_STOP : Row := ⟨0x0, 1, 1, 0x28, 1, 0x0, 1, 0x0, 1, 1, .const 0, .wo, .any⟩
abbrev DEV_RUN_STATUS_ACTIVE : Row := ⟨0x0, 1, 1, 0x2c, 1, 0x0, 1, 0x0, 0, 1, .const 0, .ro, .any⟩
abbrev DEV_RUN_STATUS_STARTING : Row := ⟨0x0, 1, 1, 0x2c, 1, 0x0, 1, 0x0, 1, 1, .const 0, .ro, .any⟩
abbrev DEV_RUN_STATUS_REASON : Row := ⟨0x0, 1, 1, 0x2c, 1, 0x0, 1, 0x0, 2, 3, .const 0, .ro, .any⟩
abbrev DEV_GEN_GEN : Row := ⟨0x0, 1, 1, 0x30, 1, 0x0, 1, 0x0, 0, 32, .const 0, .ro, .any⟩
abbrev DEV_RUNS_COUNT : Row := ⟨0x0, 1, 1, 0x34, 1, 0x0, 1, 0x0, 0, 32, .const 0, .ro, .any⟩

/-! R565 -/
abbrev COMMIT_MULTI_GROUPS : Row := ⟨0x5, 1, 1, 0x20, 1, 0x0, 1, 0x0, 0, 16, .const 0, .wo, .any⟩
abbrev COMMIT_LAST_REASON : Row := ⟨0x5, 1, 1, 0x24, 1, 0x0, 1, 0x0, 0, 2, .const 0, .ro, .any⟩
abbrev COMMIT_LAST_GROUP : Row := ⟨0x5, 1, 1, 0x24, 1, 0x0, 1, 0x0, 8, 4, .const 0, .ro, .any⟩
abbrev COMMIT_LAST_TENANT : Row := ⟨0x5, 1, 1, 0x24, 1, 0x0, 1, 0x0, 12, 4, .const 0, .ro, .any⟩
abbrev GROUP_OWNER : Row := ⟨0x5, 1, 1, 0x100, 16, 0x10, 1, 0x0, 0, 4, .const 0, .rw, .any⟩
abbrev GROUP_BUSY : Row := ⟨0x5, 1, 1, 0x100, 16, 0x10, 1, 0x0, 8, 1, .const 0, .ro, .any⟩
abbrev GROUP_LINE_LO : Row := ⟨0x5, 1, 1, 0x104, 16, 0x10, 1, 0x0, 0, 32, .const 0, .ro, .any⟩
abbrev GROUP_LINE_HI : Row := ⟨0x5, 1, 1, 0x108, 16, 0x10, 1, 0x0, 0, 16, .const 0, .ro, .any⟩
abbrev GROUP_GEN : Row := ⟨0x5, 1, 1, 0x10c, 16, 0x10, 1, 0x0, 0, 32, .const 0, .ro, .any⟩

/-! R130 -/
abbrev TRIM_TEMP : Row := ⟨0x102, 7, 1, 0x100, 16, 0x80, 4, 0x20, 0, 16, .const 0, .rw, .any⟩
abbrev TRIM_VALID : Row := ⟨0x102, 7, 1, 0x100, 16, 0x80, 4, 0x20, 16, 1, .const 0, .rw, .any⟩
abbrev TRIM_HOST : Row := ⟨0x102, 7, 1, 0x100, 16, 0x80, 4, 0x20, 17, 1, .const 0, .rw, .any⟩
abbrev TRIM_AGE : Row := ⟨0x102, 7, 1, 0x100, 16, 0x80, 4, 0x20, 24, 2, .const 3, .rw, .any⟩
abbrev TRIM_GAIN0 : Row := ⟨0x102, 7, 1, 0x104, 16, 0x80, 4, 0x20, 0, 16, .const 0x8000, .rw, .any⟩
abbrev TRIM_OFFSET0 : Row := ⟨0x102, 7, 1, 0x104, 16, 0x80, 4, 0x20, 16, 16, .const 0, .rw, .any⟩
abbrev TRIM_GAIN1 : Row := ⟨0x102, 7, 1, 0x108, 16, 0x80, 4, 0x20, 0, 16, .const 0x8000, .rw, .any⟩
abbrev TRIM_OFFSET1 : Row := ⟨0x102, 7, 1, 0x108, 16, 0x80, 4, 0x20, 16, 16, .const 0, .rw, .any⟩
abbrev TRIM_GAIN2 : Row := ⟨0x102, 7, 1, 0x10c, 16, 0x80, 4, 0x20, 0, 16, .const 0x8000, .rw, .any⟩
abbrev TRIM_OFFSET2 : Row := ⟨0x102, 7, 1, 0x10c, 16, 0x80, 4, 0x20, 16, 16, .const 0, .rw, .any⟩

/-! R131 -/
abbrev CAST_QUAL_MISMATCH : Row := ⟨0x109, 1, 1, 0x100, 97, 0x10, 1, 0x0, 0, 16, .const 0xffff, .ro, .any⟩
abbrev CAST_QUAL_OUTCOME : Row := ⟨0x109, 1, 1, 0x100, 97, 0x10, 1, 0x0, 16, 4, .const 0, .ro, .any⟩
abbrev CAST_QUAL_ELEM : Row := ⟨0x109, 1, 1, 0x104, 97, 0x10, 1, 0x0, 0, 24, .const 0, .ro, .any⟩
abbrev CAST_QUAL_CAL_S : Row := ⟨0x109, 1, 1, 0x108, 97, 0x10, 1, 0x0, 0, 32, .const 0, .ro, .any⟩

/-! R318 -/
abbrev PFE_TABLE_IN : Row := ⟨0x240, 1, 1, 0x400, 32, 0x8, 1, 0x0, 0, 32, .const 0, .sh, .any⟩
abbrev PFE_TABLE_OUT : Row := ⟨0x240, 1, 1, 0x404, 32, 0x8, 1, 0x0, 0, 32, .const 0, .sh, .any⟩

/-! R380 -/
abbrev QFAULT : Row := ⟨0x402, 16, 64, 0x800, 512, 0x4, 1, 0x0, 0, 32, .const 0, .ro, .any⟩

/-! R548 -/
abbrev IK_DIGEST : Row := ⟨0x943, 1, 1, 0x20, 8, 0x4, 1, 0x0, 0, 32, .const 0, .ro, .any⟩
abbrev IK_LEADER_DIGEST : Row := ⟨0x943, 1, 1, 0x40, 8, 0x4, 1, 0x0, 0, 32, .const 0, .ro, .any⟩

/-! R564 -/
abbrev GRANT_LAST_TENANT : Row := ⟨0x4, 1, 1, 0x20, 1, 0x0, 1, 0x0, 0, 4, .const 0, .ro, .any⟩
abbrev GRANT_LAST_SLOT : Row := ⟨0x4, 1, 1, 0x20, 1, 0x0, 1, 0x0, 8, 8, .const 0, .ro, .any⟩
abbrev GRANT_LAST_PAGE : Row := ⟨0x4, 1, 1, 0x20, 1, 0x0, 1, 0x0, 16, 13, .const 0, .ro, .any⟩
abbrev GRANT_PAGE : Row := ⟨0x1, 3, 1, 0x100, 6, 0x280, 160, 0x4, 0, 13, .const 0, .rw, .any⟩
abbrev GRANT_RD_ONLY : Row := ⟨0x1, 3, 1, 0x100, 6, 0x280, 160, 0x4, 30, 1, .const 0, .rw, .any⟩
abbrev GRANT_VALID : Row := ⟨0x1, 3, 1, 0x100, 6, 0x280, 160, 0x4, 31, 1, .const 0, .rw, .any⟩

/-! R532 -/
abbrev AUDIT_VIEW : Row := ⟨0x982, 2, 1, 0x200, 112, 0x20, 8, 0x4, 0, 32, .const 0, .ro, .any⟩

/-! R2 -/
abbrev DEV_ID_STEP_NUMBER : Row := ⟨0x0, 1, 1, 0x20, 1, 0x0, 1, 0x0, 8, 4, .const 1, .ro, .any⟩
abbrev DEV_ID_STEP_LETTER : Row := ⟨0x0, 1, 1, 0x20, 1, 0x0, 1, 0x0, 12, 4, .const 1, .ro, .any⟩
abbrev DEV_ID_PART : Row := ⟨0x0, 1, 1, 0x20, 1, 0x0, 1, 0x0, 16, 16, .const 0x9640, .ro, .any⟩

/-! R162 -/
abbrev XFER_IMAGE_IMAGE : Row := ⟨0x141, 1, 1, 0x20, 1, 0x0, 1, 0x0, 0, 4, .const 0, .rw, .any⟩
abbrev XFER_ADDR_ADDR : Row := ⟨0x141, 1, 1, 0x24, 1, 0x0, 1, 0x0, 11, 13, .const 0, .rw, .any⟩

/-! Every page: the stored fields of the common header, R550 (PAGE_EVENT is `State.events`) -/
abbrev PAGE_MASK : Row := ⟨0x0, 8192, 1, 0x14, 1, 0x0, 1, 0x0, 0, 32, .const 0, .rw, .any⟩
abbrev PAGE_COMMIT_GROUP : Row := ⟨0x0, 8192, 1, 0x18, 1, 0x0, 1, 0x0, 0, 4, .const 0, .rw, .any⟩
abbrev PAGE_GEN : Row := ⟨0x0, 8192, 1, 0x1c, 1, 0x0, 1, 0x0, 0, 32, .const 0, .ro, .any⟩

end Reg

namespace Ev

abbrev SG_INVALID : Event := ⟨0x40, 1, 0⟩
abbrev SG_SWAP_DONE : Event := ⟨0x40, 1, 1⟩
abbrev SG_WRITE_REFUSED : Event := ⟨0x40, 1, 2⟩
abbrev SG_STROBE_CLIPPED : Event := ⟨0x40, 1, 3⟩
abbrev SG_FLUSH : Event := ⟨0x40, 1, 4⟩
abbrev ENC_QUAD_ERR : Event := ⟨0x50, 1, 0⟩
abbrev ENC_INDEX : Event := ⟨0x50, 1, 1⟩
abbrev ENC_OVERRATE : Event := ⟨0x50, 1, 2⟩
abbrev LT_DEFERRED : Event := ⟨0x54, 1, 0⟩
abbrev LT_SKIPPED : Event := ⟨0x54, 1, 1⟩
abbrev LT_REVERSE : Event := ⟨0x54, 1, 2⟩
abbrev LT_DIV_CLAMPED : Event := ⟨0x54, 1, 3⟩
abbrev LT_SRC_LOST : Event := ⟨0x54, 1, 4⟩
abbrev CH_OVR : Event := ⟨0x80, 1, 0⟩
abbrev CH_DIAG_MISSED : Event := ⟨0x80, 1, 1⟩
abbrev CH_FORCE_DONE : Event := ⟨0x80, 1, 2⟩
abbrev CH_FORCE_IGNORED : Event := ⟨0x80, 1, 3⟩
abbrev CH_PLAUS_FAIL : Event := ⟨0x80, 1, 4⟩
abbrev CH_SUSPECT : Event := ⟨0x80, 1, 5⟩
abbrev CH_CAL_DONE : Event := ⟨0x80, 1, 6⟩
abbrev CH_CAL_FAIL : Event := ⟨0x80, 1, 7⟩
abbrev CH_CLAMP_MISS : Event := ⟨0x80, 1, 8⟩
abbrev CH_CDS_MISS : Event := ⟨0x80, 1, 9⟩
abbrev CH_CAL_REFUSED : Event := ⟨0x80, 1, 10⟩
abbrev CH_CAL_ABORTED : Event := ⟨0x80, 1, 11⟩
abbrev CH_BANK_CAL_DONE : Event := ⟨0x80, 1, 12⟩
abbrev CAST_CYCLE_DONE : Event := ⟨0x100, 1, 0⟩
abbrev CAST_SWAP_OUT : Event := ⟨0x100, 1, 1⟩
abbrev CAST_SWAP_BACK : Event := ⟨0x100, 1, 2⟩
abbrev CAST_MATCH_FAIL : Event := ⟨0x100, 1, 3⟩
abbrev CAST_OFFLINE_FAIL : Event := ⟨0x100, 1, 4⟩
abbrev CAST_RETAINED : Event := ⟨0x100, 1, 5⟩
abbrev CAST_ABORTED : Event := ⟨0x100, 1, 6⟩
abbrev CAST_SPARE_FAIL : Event := ⟨0x100, 1, 7⟩
abbrev CAST_TRIM_WRITE_REFUSED : Event := ⟨0x100, 1, 8⟩
abbrev CAST_REQ_IGNORED : Event := ⟨0x100, 1, 9⟩
abbrev LANE_OVERRUN : Event := ⟨0x120, 1, 0⟩
abbrev LANE_ALIGN_INCOMPLETE : Event := ⟨0x120, 1, 1⟩
abbrev LANE_DELAY_CLAMPED : Event := ⟨0x120, 1, 2⟩
abbrev LANE_JOINT_SINGLE : Event := ⟨0x120, 1, 3⟩
abbrev LANE_NOSET : Event := ⟨0x120, 1, 4⟩
abbrev OPAL_CAP_DONE : Event := ⟨0x140, 1, 0⟩
abbrev OPAL_CAP_SHORT : Event := ⟨0x140, 1, 1⟩
abbrev OPAL_CAP_ABORTED : Event := ⟨0x140, 1, 2⟩
abbrev OPAL_CAP_IGNORED : Event := ⟨0x140, 1, 3⟩
abbrev OPAL_INSTALLED : Event := ⟨0x140, 1, 4⟩
abbrev OPAL_INSTALL_REFUSED : Event := ⟨0x140, 1, 5⟩
abbrev OPAL_SWAPPED : Event := ⟨0x140, 1, 6⟩
abbrev PW_WINDOW_DONE : Event := ⟨0x147, 1, 0⟩
abbrev PW_AT_LIMIT : Event := ⟨0x147, 1, 1⟩
abbrev PW_STARVED : Event := ⟨0x147, 1, 2⟩
abbrev PW_PW_LATE : Event := ⟨0x147, 1, 3⟩
abbrev REF_LATE : Event := ⟨0x160, 1, 0⟩
abbrev REF_STALE : Event := ⟨0x160, 1, 1⟩
abbrev REF_MALFORMED : Event := ⟨0x160, 1, 2⟩
abbrev REF_REWRITE_REFUSED : Event := ⟨0x160, 1, 3⟩
abbrev REF_JOB_REFUSED : Event := ⟨0x160, 1, 4⟩
abbrev REF_JOB_CHANGED : Event := ⟨0x160, 1, 5⟩
abbrev REF_LEAD_LOW : Event := ⟨0x160, 1, 6⟩
abbrev REF_WAITED : Event := ⟨0x160, 1, 7⟩
abbrev REG_ROW_DONE : Event := ⟨0x180, 1, 0⟩
abbrev REG_ACQUIRED : Event := ⟨0x180, 1, 1⟩
abbrev REG_LOST : Event := ⟨0x180, 1, 2⟩
abbrev REG_JUMP : Event := ⟨0x180, 1, 3⟩
abbrev REG_ROW_LATE : Event := ⟨0x180, 1, 4⟩
abbrev REG_FIELD_CLAMPED : Event := ⟨0x180, 1, 5⟩
abbrev REG_REC_DROP : Event := ⟨0x180, 1, 6⟩
abbrev REG_CFG_ADJUSTED : Event := ⟨0x180, 1, 7⟩
abbrev COMP_BLOB_DROP : Event := ⟨0x1a0, 1, 0⟩
abbrev COMP_VERDICT_DROP : Event := ⟨0x1a0, 1, 1⟩
abbrev COMP_COV_BACKLOG : Event := ⟨0x1a0, 1, 2⟩
abbrev COMP_LABEL_OVERFLOW : Event := ⟨0x1a0, 1, 3⟩
abbrev COMP_GRID_REFUSED : Event := ⟨0x1a0, 1, 4⟩
abbrev COMP_TRUNCATED : Event := ⟨0x1a0, 1, 5⟩
abbrev COMP_SPLIT : Event := ⟨0x1a0, 1, 6⟩
abbrev PROD_PREV_DROP : Event := ⟨0x1c0, 1, 0⟩
abbrev PROD_CROP_SKIP : Event := ⟨0x1c0, 1, 1⟩
abbrev PROD_CROP_DROP : Event := ⟨0x1c0, 1, 2⟩
abbrev PROD_MEAS_DROP : Event := ⟨0x1c0, 1, 3⟩
abbrev PROD_TABLE_REFUSED : Event := ⟨0x1c0, 1, 4⟩
abbrev PROD_TRUNC : Event := ⟨0x1c0, 1, 5⟩
abbrev BR_SYNC_ERR : Event := ⟨0x200, 1, 0⟩
abbrev BR_SYNC_LOST : Event := ⟨0x200, 1, 1⟩
abbrev BR_RECAL_DONE : Event := ⟨0x200, 1, 2⟩
abbrev BR_RECAL_FAIL : Event := ⟨0x200, 1, 3⟩
abbrev BR_SHUT_FAULT : Event := ⟨0x200, 1, 4⟩
abbrev BR_CFG_REFUSED : Event := ⟨0x200, 1, 5⟩
abbrev BR_TSH_STALE : Event := ⟨0x200, 1, 6⟩
abbrev BR_FRAME_LOST : Event := ⟨0x200, 1, 7⟩
abbrev BR_ITEM_OVERFLOW : Event := ⟨0x200, 1, 8⟩
abbrev BR_REC_DROP : Event := ⟨0x200, 1, 9⟩
abbrev BR_XFER_REFUSED : Event := ⟨0x200, 1, 10⟩
abbrev BR_XFER_RANGE : Event := ⟨0x200, 1, 11⟩
abbrev BR_SPI_DONE : Event := ⟨0x200, 1, 12⟩
abbrev BR_TEMP_STALE : Event := ⟨0x200, 1, 13⟩
abbrev BR_SNAP_IGNORED : Event := ⟨0x200, 1, 14⟩
abbrev BR_SNAP_DONE : Event := ⟨0x200, 1, 15⟩
abbrev BR_RECAL_CLIP : Event := ⟨0x200, 1, 16⟩
abbrev PFE_SCAN_DONE : Event := ⟨0x240, 1, 0⟩
abbrev PFE_OVERRUN : Event := ⟨0x240, 1, 1⟩
abbrev PFE_CHECK_FAIL : Event := ⟨0x240, 1, 2⟩
abbrev PFE_PAIR_FAULT : Event := ⟨0x240, 1, 3⟩
abbrev PFE_RESULT_FAULT : Event := ⟨0x240, 1, 4⟩
abbrev PFE_CFG_REFUSED : Event := ⟨0x240, 1, 5⟩
abbrev PFE_AO_FAULT : Event := ⟨0x240, 1, 6⟩
abbrev PFE_AO_REF_LOW : Event := ⟨0x240, 1, 7⟩
abbrev MOT_AT_TARGET : Event := ⟨0x260, 1, 0⟩
abbrev MOT_STOPPED : Event := ⟨0x260, 1, 1⟩
abbrev MOT_FAULT : Event := ⟨0x260, 1, 2⟩
abbrev MOT_HOMED : Event := ⟨0x260, 1, 3⟩
abbrev MOT_LIMIT : Event := ⟨0x260, 1, 4⟩
abbrev MOT_CMD_REFUSED : Event := ⟨0x260, 1, 5⟩
abbrev TEN_QADM_DONE : Event := ⟨0x400, 64, 0⟩
abbrev TEN_QADM_REFUSED : Event := ⟨0x400, 64, 1⟩
abbrev TEN_QUEUE_FAULT : Event := ⟨0x400, 64, 2⟩
abbrev TEN_DB_STALE : Event := ⟨0x400, 64, 3⟩
abbrev TEN_DB_IGNORED : Event := ⟨0x400, 64, 4⟩
abbrev TEN_CTX_REFUSED : Event := ⟨0x400, 64, 5⟩
abbrev TEN_NOTICE_DROP : Event := ⟨0x400, 64, 6⟩
abbrev TEN_LEASE_END : Event := ⟨0x400, 64, 7⟩
abbrev TEN_DUPLICATE : Event := ⟨0x400, 64, 8⟩
abbrev TEN_STALE_EPOCH : Event := ⟨0x400, 64, 9⟩
abbrev DMA_HALTED : Event := ⟨0x800, 1, 0⟩
abbrev DMA_RETRY : Event := ⟨0x800, 1, 1⟩
abbrev DMA_REQ_OVERRUN : Event := ⟨0x800, 1, 2⟩
abbrev DMA_OVERLAP_SERIAL : Event := ⟨0x800, 1, 3⟩
abbrev DOM_DOM_OFF : Event := ⟨0x28, 1, 0⟩
abbrev DOM_DOM_ON : Event := ⟨0x28, 1, 1⟩
abbrev DOM_DRAIN_TIMEOUT : Event := ⟨0x28, 1, 2⟩
abbrev DOM_DOM_FAULT : Event := ⟨0x28, 1, 3⟩
abbrev DOM_DOM_REFUSED : Event := ⟨0x28, 1, 4⟩
abbrev FLT_LANE_FAULT : Event := ⟨0x29, 1, 0⟩
abbrev FLT_LANE_HELD : Event := ⟨0x29, 1, 1⟩
abbrev FLT_TENANT_FAULT : Event := ⟨0x29, 1, 2⟩
abbrev FLT_ECC_CORR : Event := ⟨0x29, 1, 3⟩
abbrev FLT_ECC_UNCORR : Event := ⟨0x29, 1, 4⟩
abbrev FLT_KEY_REFUSED : Event := ⟨0x29, 1, 5⟩
abbrev THERM_THROTTLE_ON : Event := ⟨0x20, 1, 0⟩
abbrev THERM_THROTTLE_OFF : Event := ⟨0x20, 1, 1⟩
abbrev THERM_MODEL_INVALID : Event := ⟨0x20, 1, 2⟩
abbrev THERM_BOUND_FALLBACK : Event := ⟨0x20, 1, 3⟩
abbrev THERM_TJ_WARN : Event := ⟨0x20, 1, 4⟩
abbrev IK_LINK_CHANGE : Event := ⟨0x940, 1, 0⟩
abbrev IK_STATE_CHANGE : Event := ⟨0x940, 1, 1⟩
abbrev IK_TB_RESYNC : Event := ⟨0x940, 1, 2⟩
abbrev IK_HALTED : Event := ⟨0x940, 1, 3⟩
abbrev IK_DIGEST_MISMATCH : Event := ⟨0x940, 1, 4⟩
abbrev IK_COMMIT_REFUSED : Event := ⟨0x940, 1, 5⟩
abbrev TB_STEP_DONE : Event := ⟨0x10, 1, 0⟩
abbrev TB_STEP_REFUSED : Event := ⟨0x10, 1, 1⟩
abbrev TB_REFCLK_LOSS : Event := ⟨0x10, 1, 2⟩
abbrev PACE_HEADROOM_LOW : Event := ⟨0x11, 1, 0⟩
abbrev PACE_HEADROOM_BREACH : Event := ⟨0x11, 1, 1⟩
abbrev PACE_AVS_FAULT : Event := ⟨0x11, 1, 2⟩
abbrev PACE_AVS_AT_LIMIT : Event := ⟨0x11, 1, 3⟩
abbrev XFER_REFUSED : Event := ⟨0x141, 1, 0⟩
abbrev XFER_RANGE : Event := ⟨0x141, 1, 1⟩
abbrev MOTC_SERVO_REFUSED : Event := ⟨0x268, 1, 0⟩
abbrev MOTC_PAUSE : Event := ⟨0x268, 1, 1⟩
abbrev MOTC_RESUME : Event := ⟨0x268, 1, 2⟩
abbrev AUXC_CLIP : Event := ⟨0x221, 1, 0⟩
abbrev HOST_LINK_CHANGE : Event := ⟨0x300, 1, 0⟩
abbrev HOST_TENANT_UP : Event := ⟨0x300, 1, 1⟩
abbrev HOST_TENANT_DOWN : Event := ⟨0x300, 1, 2⟩
abbrev HOST_TENANT_FAULT : Event := ⟨0x300, 1, 3⟩
abbrev LEASE_LEASE_END : Event := ⟨0x301, 1, 0⟩
abbrev LEASE_LEASE_REFUSED : Event := ⟨0x301, 1, 1⟩
abbrev LEASE_RENEW_LATE : Event := ⟨0x301, 1, 2⟩
abbrev CTX_PIN_REFUSED : Event := ⟨0x302, 1, 0⟩
abbrev CTX_CTX_STALL : Event := ⟨0x302, 1, 1⟩
abbrev IC_SPURIOUS : Event := ⟨0x840, 1, 0⟩
abbrev IC_COMPLETE_IGNORED : Event := ⟨0x840, 1, 1⟩
abbrev CAP_ADMIT_REFUSED : Event := ⟨0x21, 1, 0⟩
abbrev CAP_LEVEL_UP : Event := ⟨0x21, 1, 1⟩
abbrev CAP_LEVEL_DOWN : Event := ⟨0x21, 1, 2⟩
abbrev CAP_SHORTFALL : Event := ⟨0x21, 1, 3⟩
abbrev THIN_THIN_ON : Event := ⟨0x22, 1, 0⟩
abbrev THIN_THIN_OFF : Event := ⟨0x22, 1, 1⟩
abbrev THIN_SPD_ADV : Event := ⟨0x22, 1, 2⟩
abbrev MBX_M2H_READY : Event := ⟨0x900, 1, 0⟩
abbrev MBX_H2M_TAKEN : Event := ⟨0x900, 1, 1⟩
abbrev MBX_MBX_REFUSED : Event := ⟨0x900, 1, 2⟩
abbrev MGMT_MON_ALARM : Event := ⟨0x900, 1, 3⟩
abbrev MGMT_LOG_LOST : Event := ⟨0x900, 1, 4⟩
abbrev MGMT_MIRROR_FAULT : Event := ⟨0x900, 1, 5⟩
abbrev MGMT_UPD_CHANGE : Event := ⟨0x900, 1, 6⟩
abbrev MGMT_UPD_REFUSED : Event := ⟨0x900, 1, 7⟩
abbrev USB_CONNECT : Event := ⟨0x920, 1, 0⟩
abbrev USB_BUS_RESET : Event := ⟨0x920, 1, 1⟩
abbrev USB_SUSPEND : Event := ⟨0x920, 1, 2⟩
abbrev USB_RESUME : Event := ⟨0x920, 1, 3⟩
abbrev USB_WAKE_SENT : Event := ⟨0x920, 1, 4⟩
abbrev USB_WAKE_COLLIDED : Event := ⟨0x920, 1, 5⟩
abbrev USB_CTRL_ABORT : Event := ⟨0x920, 1, 6⟩
abbrev USB_EVT_LOST : Event := ⟨0x920, 1, 7⟩
abbrev TWT_WRITE : Event := ⟨0x921, 1, 0⟩
abbrev TWT_ALERT_ASSERT : Event := ⟨0x921, 1, 1⟩
abbrev TWT_ARA_DONE : Event := ⟨0x921, 1, 2⟩
abbrev TWT_BUS_TIMEOUT : Event := ⟨0x921, 1, 3⟩
abbrev TWC_XFER_DONE : Event := ⟨0x922, 1, 0⟩
abbrev TWC_XFER_FAIL : Event := ⟨0x922, 1, 1⟩
abbrev TWC_RECOVERED : Event := ⟨0x922, 1, 2⟩
abbrev TWC_BUS_STUCK : Event := ⟨0x922, 1, 3⟩
abbrev TWC_GO_IGNORED : Event := ⟨0x922, 1, 4⟩
abbrev ONX_EVENT_CHANGED : Event := ⟨0x980, 1, 0⟩
abbrev ONX_STATE_CHANGED : Event := ⟨0x980, 1, 1⟩
abbrev ONX_JOB_MARKED : Event := ⟨0x980, 1, 2⟩
abbrev ONX_AUDIT_NEW : Event := ⟨0x980, 1, 3⟩
abbrev ONX_VIEW_STALE : Event := ⟨0x980, 1, 4⟩
abbrev DEV_RUN_STARTED : Event := ⟨0x0, 1, 0⟩
abbrev DEV_RUN_STOPPED : Event := ⟨0x0, 1, 1⟩
abbrev DEV_RUN_REFUSED : Event := ⟨0x0, 1, 2⟩
abbrev DEV_MODE_REFUSED : Event := ⟨0x0, 1, 3⟩
abbrev GRANT_GRANT_REFUSED : Event := ⟨0x4, 1, 0⟩
abbrev CMT_COMMIT_ACCEPTED : Event := ⟨0x5, 1, 0⟩
abbrev CMT_COMMIT_DONE : Event := ⟨0x5, 1, 1⟩
abbrev CMT_COMMIT_REFUSED : Event := ⟨0x5, 1, 2⟩

end Ev

/-- The rows of the block registers of each range of pages: first page, pages, page step, rows. -/
def pageRows0 : List Row :=
  [Reg.PACE_CTL_WINDOW, Reg.PACE_CTL_WARN, Reg.HEADROOM_MIN_VALUE, Reg.HEADROOM_MIN_MON, Reg.PACE_MON_PACE_MEAS,
   Reg.PACE_MON_PACE_CEIL, Reg.PACE_MON_DEMAND_VALUE, Reg.PACE_MON_HEADROOM_VALUE, Reg.PACE_MON_HEADROOM_LOW, Reg.PACE_MON_HEADROOM_BREACH,
   Reg.AVS_CTL_EN, Reg.AVS_CTL_LINK, Reg.AVS_CTL_INTERVAL, Reg.AVS_CTL_STEP, Reg.AVS_CTL_ADDR,
   Reg.AVS_TARGET_TARGET, Reg.AVS_TARGET_HYST, Reg.AVS_VLIMIT_VMIN_RUN, Reg.AVS_VLIMIT_VMAX, Reg.AVS_VSET_MV,
   Reg.AVS_VREAD_MV, Reg.AVS_VREAD_VALID]
def pageRows1 : List Row :=
  [Reg.TB_STATUS_LOCKED, Reg.TB_STATUS_RUN_ACTIVE, Reg.TIME_LO_VALUE, Reg.TIME_HI_VALUE, Reg.TB_RATE_PPB,
   Reg.TB_STEP_LO_VALUE, Reg.TB_STEP_HI_VALUE]
def pageRows2 : List Row :=
  [Reg.SG_CTL_EN, Reg.SG_CTL_FORCE_FALLBACK, Reg.SG_PIX_KHZ, Reg.SG_GEOM_PIXELS, Reg.SG_STALE_US,
   Reg.SG_LED_START_PX, Reg.SG_LED_START_EDGE, Reg.SG_LED_START_POL, Reg.SG_LED_WIDTH_PX, Reg.SG_LED_WIDTH_EDGE,
   Reg.SG_WAVE_RISE, Reg.SG_WAVE_FALL, Reg.PAWN_CTL_ENTRY, Reg.PAWN_CTL_SWAP, Reg.PAWN_ADDR_ADDR,
   Reg.PAWN_ADDR_ACTIVE, Reg.PAWN_DATA_LO_VALUE, Reg.PAWN_DATA_HI_VALUE, Reg.PAWN_STATUS_BANK, Reg.PAWN_STATUS_FALLBACK,
   Reg.PAWN_STATUS_REASON, Reg.PAWN_STATUS_PC, Reg.PAWN_STATUS_SWAP_PENDING, Reg.PAWN_FB_LINE_LINE, Reg.SG_FLUSHES_COUNT]
def pageRows3 : List Row :=
  [Reg.ENC_CTL_EN, Reg.ENC_CTL_MODE, Reg.ENC_CTL_INVERT, Reg.ENC_CTL_Z_EN, Reg.ENC_CTL_FILT,
   Reg.ENC_COUNT_VALUE, Reg.ENC_INDEX_VALUE, Reg.ENC_VEL_VALUE, Reg.ENC_ERR_VALUE]
def pageRows4 : List Row :=
  [Reg.LT_CTL_SRC, Reg.LT_CTL_INTERP, Reg.LT_DIV_FRAC_VALUE, Reg.LT_DIV_INT_VALUE, Reg.LT_START_COUNTS,
   Reg.LT_DEFER_LIMIT_NS, Reg.LT_LINE_LO_VALUE, Reg.LT_LINE_HI_VALUE, Reg.LT_POS_FRAC_VALUE, Reg.LT_POS_INT_VALUE,
   Reg.LT_TIME_LO_VALUE, Reg.LT_TIME_HI_VALUE, Reg.LT_DEFERRED_COUNT, Reg.LT_SKIPPED_COUNT, Reg.LT_MAXDEFER_NS]
def pageRows5 : List Row :=
  [Reg.CHAN_CTL_EN, Reg.CHAN_CTL_REFMODE, Reg.SCAN_MASK_RED, Reg.SCAN_MASK_GREEN, Reg.SCAN_MASK_BLUE,
   Reg.SCAN_MASK_SREF, Reg.SCAN_MASK_IREF, Reg.SCAN_MASK_SUPPLY, Reg.SCAN_MASK_TEMP, Reg.SCAN_MASK_PLAUS,
   Reg.CHAN_FE_RANGE, Reg.CHAN_FE_OFFSET, Reg.FORCE_INPUT, Reg.FORCE_GO, Reg.FORCE_RESULT_VALUE,
   Reg.FORCE_RESULT_OVR, Reg.FORCE_RESULT_DONE, Reg.FORCE_RESULT_INPUT, Reg.FORCE_TIME_LO, Reg.DIAG_VALUE,
   Reg.DIAG_OVR, Reg.DIAG_VALID, Reg.DIAG_LINE, Reg.DIAG_MISSED_COUNT, Reg.OVR_COUNT_COUNT,
   Reg.PLAUS_STATUS_DEV, Reg.PLAUS_STATUS_FAILS, Reg.PLAUS_STATUS_SUSPECT, Reg.CAL_STATUS_STATE, Reg.CAL_STATUS_WORST_STAGE,
   Reg.CAL_STATUS_WORST_ERR, Reg.CAL_TIME_LO, Reg.CAL_TEMP_VALUE, Reg.CAL_STAGE_GAIN, Reg.CAL_PATH_OFFSET,
   Reg.CAL_PATH_GAIN]
def pageRows6 : List Row :=
  [Reg.BANK_CAL_START, Reg.BANK_CAL_BUSY, Reg.BANK_DIAG_AVG_LOG, Reg.BANK_PLAUS_CTL_EVERY, Reg.BANK_PLAUS_CTL_TOL,
   Reg.BANK_PLAUS_CTL_LIMIT, Reg.BANK_PLAUS_LEVEL_L0, Reg.BANK_PLAUS_LEVEL_L1, Reg.BANK_PLAUS_LEVEL_L2, Reg.BANK_PLAUS_LEVEL_L3,
   Reg.BANK_PLAUS_COUNT_COUNT, Reg.BANK_SUSPECT_0_BITS, Reg.BANK_SUSPECT_1_BITS, Reg.BANK_SUSPECT_2_BITS, Reg.BANK_SUSPECT_3_SPARE]
def pageRows7 : List Row :=
  [Reg.CAST_CTL_EN, Reg.CAST_CTL_AUTO, Reg.CAST_CTL_EVAL_LOG, Reg.CAST_CTL_MERGE, Reg.CAST_TRIG_DELTA,
   Reg.CAST_TRIG_RETRY_S, Reg.CAST_TRIG_INTERVAL_S, Reg.CAST_MATCH_LINES, Reg.CAST_MATCH_SETTLE, Reg.CAST_MATCH_MAX_WIN,
   Reg.CAST_ACCEPT_TOL, Reg.CAST_ACCEPT_MIN_SPAN, Reg.CAST_REQ_CHAN, Reg.CAST_REQ_GO, Reg.CAST_REQ_RELEASE,
   Reg.CAST_STATUS_STATE, Reg.CAST_STATUS_CHAN, Reg.CAST_STATUS_CARRYING, Reg.CAST_STATUS_WIN, Reg.CAST_LAST_CHAN,
   Reg.CAST_LAST_OUTCOME, Reg.CAST_LAST_CYCLES, Reg.CAST_SWAP_LINE_LO_VALUE, Reg.CAST_SWAP_LINE_HI_VALUE, Reg.CAST_SWAP_LINE_HI_BACK,
   Reg.CAST_PEND_0_BITS, Reg.CAST_PEND_1_BITS, Reg.CAST_PEND_2_BITS, Reg.CAST_PEND_3_SPARE]
def pageRows8 : List Row :=
  [Reg.LANE_CTL_LIN_EN, Reg.LANE_CTL_ALIGN_EN, Reg.LANE_CTL_PW_EN, Reg.LANE_CTL_MTX_EN, Reg.LANE_OVERRUN_COUNT,
   Reg.LANE_INCOMPLETE_COUNT, Reg.LANE_SINGLE_COUNT, Reg.CHAN_GEOM_OVERLAP, Reg.CHAN_GEOM_MIRROR, Reg.CHAN_ROW_DELAY_RED,
   Reg.CHAN_ROW_DELAY_GREEN, Reg.CHAN_ROW_DELAY_BLUE, Reg.LANE_MTX_C0, Reg.LANE_MTX_C1, Reg.LANE_MTX_C2,
   Reg.LANE_MTX_OFF, Reg.PW_GAIN_RED, Reg.PW_GAIN_GREEN, Reg.PW_GAIN_BLUE, Reg.PW_GAIN_AT_LIMIT]
def pageRows9 : List Row :=
  [Reg.OPAL_CTL_LIN_SWAP, Reg.OPAL_CTL_WGT_SWAP, Reg.OPAL_CTL_INSTALL, Reg.OPAL_CTL_INSTALL_SLOT, Reg.OPAL_CAP_GO,
   Reg.OPAL_CAP_KIND, Reg.OPAL_CAP_LINES_LOG, Reg.OPAL_CAP_TARGET_A_RED, Reg.OPAL_CAP_TARGET_A_GREEN, Reg.OPAL_CAP_TARGET_B_BLUE,
   Reg.OPAL_CAP_STATUS_STATE, Reg.OPAL_CAP_STATUS_OUTCOME, Reg.OPAL_CAP_STATUS_KIND, Reg.OPAL_CAP_STATUS_LINES, Reg.OPAL_CAP_START_LO,
   Reg.OPAL_CAP_CLIPPED_COUNT, Reg.OPAL_CAP_BAD_COUNT]
def pageRows10 : List Row :=
  [Reg.OPAL_HDR_TEMP, Reg.OPAL_HDR_VALID]
def pageRows11 : List Row :=
  [Reg.PW_CTL_MODE, Reg.PW_CTL_RESET, Reg.PW_CTL_GUARD, Reg.PW_CTL_RATE, Reg.PW_CTL_LINES,
   Reg.PW_MIN_PIXELS, Reg.PW_LIMIT_LO, Reg.PW_LIMIT_HI, Reg.PW_TARGET_A_RED, Reg.PW_TARGET_A_GREEN,
   Reg.PW_TARGET_B_BLUE, Reg.PW_WINDOWS_COUNT]
def pageRows12 : List Row :=
  [Reg.REF_CTL_EN, Reg.REF_CTL_FORMAT, Reg.REF_CTL_RX, Reg.REF_CTL_RY, Reg.REF_CTL_BLUR_A,
   Reg.REF_CTL_CLASS_A, Reg.REF_CTL_CRC_REQ, Reg.REF_JOB_TAG, Reg.REF_Y0_LO_VALUE, Reg.REF_Y0_HI_VALUE,
   Reg.REF_X0_VALUE, Reg.REF_WIDTH_PIXELS, Reg.REF_Q_QUEUE, Reg.REF_Q_VALID, Reg.REF_PAPER_A_MIN,
   Reg.REF_PAPER_LEAD_WARN, Reg.REF_BLUR_H0, Reg.REF_BLUR_H1, Reg.REF_BLUR_H2, Reg.REF_BLUR_H3,
   Reg.REF_BLUR_H4, Reg.REF_BLUR_V0, Reg.REF_BLUR_V1, Reg.REF_BLUR_V2, Reg.REF_BLUR_V3,
   Reg.REF_BLUR_V4, Reg.REF_FRONT_LO_VALUE, Reg.REF_FRONT_HI_VALUE, Reg.REF_LIMIT_LO_VALUE, Reg.REF_LIMIT_HI_VALUE,
   Reg.REF_LIMIT_PEND_LO_VALUE, Reg.REF_LIMIT_PEND_HI_VALUE, Reg.REF_LEAD_VALUE, Reg.REF_CAP_CAP, Reg.REF_CAP_CAP_SCAN,
   Reg.REF_JOB_STATUS_TAG, Reg.REF_JOB_STATUS_PEND_TAG, Reg.REF_STATE_PENDING, Reg.REF_STATE_WAITING, Reg.REF_LATE_COUNT,
   Reg.REF_STALE_COUNT, Reg.REF_MALFORMED_COUNT, Reg.REF_REWRITE_COUNT]
def pageRows13 : List Row :=
  [Reg.PRED_RED, Reg.PRED_GREEN, Reg.PRED_BLUE, Reg.PRED_CLASS, Reg.PRED_DC,
   Reg.PRED_PAPER]
def pageRows14 : List Row :=
  [Reg.EXP_RED, Reg.EXP_GREEN, Reg.EXP_BLUE]
def pageRows15 : List Row :=
  [Reg.REG_CTL_EN, Reg.REG_CTL_TILE, Reg.REG_CTL_PRED, Reg.REG_CTL_FINE_EN, Reg.REG_CTL_GAIN,
   Reg.REG_THRESH_MIN_CONF, Reg.REG_THRESH_MIN_MARGIN, Reg.REG_THRESH_MIN_TEX, Reg.REG_ACQ_MIN_FRAC, Reg.REG_ACQ_ROWS,
   Reg.REG_ACQ_LOSS_ROWS, Reg.REG_ACQ_LOSS_FRAC, Reg.REG_ACQ_JUMP, Reg.REG_INIT_DX, Reg.REG_INIT_DY,
   Reg.REG_Q_QUEUE, Reg.REG_Q_VALID, Reg.REG_CMD_REACQ, Reg.REG_STATUS_STATE, Reg.REG_STATUS_TILE,
   Reg.REG_STATUS_QROWS, Reg.REG_STATUS_NCOL, Reg.REG_ROW_ROW, Reg.REG_ROW_INFO_ACCEPTED, Reg.REG_ROW_INFO_FILLED,
   Reg.REG_ACQ_LINE_LO_VALUE, Reg.REG_ACQ_LINE_HI_VALUE, Reg.REG_TRACK_LINE_LO_VALUE, Reg.REG_TRACK_LINE_HI_VALUE, Reg.REG_FAIL_A_TEX,
   Reg.REG_FAIL_A_FEW, Reg.REG_FAIL_B_CONF, Reg.REG_FAIL_B_MARGIN, Reg.REG_FAIL_C_RANGE, Reg.REG_FAIL_C_COARSE,
   Reg.REG_ACQS_COUNT, Reg.REG_ACQS_DROPS]
def pageRows16 : List Row :=
  [Reg.FIELD_CTL_FREEZE, Reg.FIELD_ROW_ROW, Reg.FIELD_COLS_COL0, Reg.FIELD_COLS_NCOL, Reg.FIELD_VALUE]
def pageRows17 : List Row :=
  [Reg.COMP_CTL_EN, Reg.COMP_CTL_OPEN_EN, Reg.COMP_CTL_EDGE, Reg.COMP_CTL_BLOB_EN, Reg.COMP_LIMITS_BLOB_MAX_LINES,
   Reg.COMP_LIMITS_MAX_UNINSP, Reg.COV_CTL_MAX_LINES, Reg.COV_Q_QUEUE, Reg.COV_Q_VALID, Reg.GUTTER_Q_QUEUE,
   Reg.GUTTER_Q_VALID, Reg.COMP_BLOBS_COUNT, Reg.COMP_VERDICTS_COUNT, Reg.COMP_DROP_BLOB, Reg.COMP_DROP_VERDICT,
   Reg.COV_RECORDS_COUNT, Reg.COMP_STATUS_COV_BACKLOG, Reg.COMP_STATUS_OPEN_BLOBS, Reg.COMP_OVERFLOW_COUNT]
def pageRows18 : List Row :=
  [Reg.TOL_TH_BASE, Reg.TOL_TH_SLOPE, Reg.TOL_WL, Reg.TOL_WA, Reg.TOL_WB,
   Reg.TOL_FAIL_PEAK, Reg.TOL_FAIL_AREA]
def pageRows19 : List Row :=
  [Reg.IMP_CTL_EN, Reg.IMP_Y0_LO_VALUE, Reg.IMP_Y0_HI_VALUE, Reg.IMP_REPEAT_LINES, Reg.IMP_X0_X,
   Reg.IMP_GRID_COLS, Reg.IMP_GRID_ROWS, Reg.IMP_COL_PITCH_PIXELS, Reg.IMP_ITEM_W_PIXELS, Reg.IMP_ROW_PITCH_LINES,
   Reg.IMP_ITEM_H_LINES, Reg.IMP_ID_BASE_VALUE]
def pageRows20 : List Row :=
  [Reg.ITEM_QUEUE, Reg.ITEM_BLOBS, Reg.ITEM_VALID]
def pageRows21 : List Row :=
  [Reg.MP_CTL_PATCH_EN, Reg.MP_CTL_MARK_EN, Reg.MP_CTL_PREV_EN, Reg.MP_CTL_CROP_EN, Reg.PROD_Q_QUEUE,
   Reg.PROD_Q_VALID, Reg.PREV_GEOM_FX, Reg.PREV_GEOM_FY, Reg.PREV_GEOM_FORMAT, Reg.PREV_GEOM_SKIP,
   Reg.PREV_X0_X, Reg.PREV_WIDTH_PIXELS, Reg.CROP_GEOM_W16, Reg.CROP_GEOM_H16, Reg.CROP_GEOM_MARGIN,
   Reg.CROP_GEOM_FORMAT, Reg.CROP_GEOM_FAIL_ONLY, Reg.CROP_CLASSES_MASK, Reg.CROP_RATE_PER_S, Reg.CROP_RATE_BURST,
   Reg.PATCH_MIN_PIXELS, Reg.PREV_DROP_COUNT, Reg.CROP_SKIP_RATE, Reg.CROP_SKIP_BUSY, Reg.CROP_SHED_COUNT,
   Reg.CROP_DONE_COUNT, Reg.MEAS_DROP_PATCH, Reg.MEAS_DROP_MARK]
def pageRows22 : List Row :=
  [Reg.PATCH_ID, Reg.PATCH_CLASS, Reg.PATCH_INSET, Reg.PATCH_EN, Reg.PATCH_X0,
   Reg.PATCH_W, Reg.PATCH_H, Reg.PATCH_OFF]
def pageRows23 : List Row :=
  [Reg.MARK_ID, Reg.MARK_INKS, Reg.MARK_EN, Reg.MARK_X0, Reg.MARK_W,
   Reg.MARK_H, Reg.MARK_OFF, Reg.INK_RED, Reg.INK_GREEN, Reg.INK_BLUE,
   Reg.INK_RADIUS, Reg.INK_CLASS]
def pageRows24 : List Row :=
  [Reg.BVC_CTL_MODE, Reg.BVC_AT_S, Reg.BVC_AT_V, Reg.BVC_DATA_CODE, Reg.BVC_DATA_VALID,
   Reg.BVC_DATA_OVERRUN, Reg.BVC_DATA_CLIP]
def pageRows25 : List Row :=
  [Reg.BR_CTL_EN, Reg.BR_CTL_INTERLEAVE, Reg.BR_CTL_TSRC, Reg.BR_CTL_RECAL_AUTO, Reg.BR_CTL_ITEM_EN,
   Reg.BR_CTL_REGION_EN, Reg.BR_MCLK_KHZ, Reg.BR_MCLK_PHASE, Reg.BR_GEOM_COLS, Reg.BR_GEOM_ROWS,
   Reg.BR_TIMING_HSKIP, Reg.BR_TIMING_FPS, Reg.BR_TIMING_EVERY, Reg.BR_POOL_BASE, Reg.BR_POOL_GSETS,
   Reg.BR_EXP_OFFSET_NS, Reg.BR_TEMP_T_OFF, Reg.BR_TEMP_T_GAIN, Reg.BR_TEMP_CMD_WORD, Reg.BR_H_VALUE,
   Reg.BR_GTEMP_A_SET0, Reg.BR_GTEMP_A_SET1, Reg.BR_GTEMP_B_SET2, Reg.BR_GTEMP_B_SET3, Reg.BR_SHUT_CTL_AXIS,
   Reg.BR_SHUT_CTL_AXIS_VALID, Reg.BR_SHUT_CTL_SETTLE, Reg.BR_SHUT_CTL_AVG_LOG, Reg.BR_SHUT_CTL_DELTA, Reg.BR_SHUT_INT_INTERVAL_S,
   Reg.BR_SHUT_INT_RETRY_S, Reg.BR_SHUT_INT_MOVE_TMO, Reg.BR_SHUT_CLOSED_POS, Reg.BR_SHUT_OPEN_POS, Reg.BR_RADIO_A_TSH_RES,
   Reg.BR_RADIO_A_TA_RES, Reg.BR_RADIO_A_EPS, Reg.BR_RADIO_B_T_REFL, Reg.BR_RADIO_B_RT_MIN, Reg.BR_RADIO_C_RT_STEP,
   Reg.BR_RADIO_C_TSH_MAX_AGE, Reg.BR_RESP_VALUE, Reg.BR_THRESH_HOT_T, Reg.BR_THRESH_COLD_T, Reg.BR_Q_QUEUE,
   Reg.BR_Q_VALID, Reg.BR_CMD_RECAL, Reg.BR_CMD_SNAP, Reg.BR_CMD_SNAP_KIND, Reg.BR_CMD_REOPEN,
   Reg.BR_SPI_CTL_LEN, Reg.BR_SPI_CTL_CPOL, Reg.BR_SPI_CTL_CPHA, Reg.BR_SPI_CTL_SCK_KHZ, Reg.BR_SPI_CTL_BUSY,
   Reg.BR_SPI_CTL_GO, Reg.BR_SPI_TX_VALUE, Reg.BR_SPI_RX_VALUE, Reg.BR_STATUS_STATE, Reg.BR_STATUS_DUE,
   Reg.BR_STATUS_DRIFT_UNCORR, Reg.BR_STATUS_TSH_STALE, Reg.BR_STATUS_OPEN_CONF, Reg.BR_STATUS_OUTCOME, Reg.BR_TA_VALUE,
   Reg.BR_TA_VALID, Reg.BR_CAL_TS, Reg.BR_CAL_TSH_CAL, Reg.BR_CAL_TIME_S, Reg.BR_FRAMES_COUNT,
   Reg.BR_ERR_SYNC_ERRS, Reg.BR_ERR_FRAME_LOST, Reg.BR_DROP_OVERFLOW, Reg.BR_DROP_REC_DROP, Reg.BR_NOMAP_COUNT,
   Reg.BR_REG_U0, Reg.BR_REG_V0, Reg.BR_REG_EN, Reg.BR_REG_U1, Reg.BR_REG_V1,
   Reg.BR_REG_ID, Reg.BR_XFER_IMAGE_IMAGE, Reg.BR_XFER_ADDR_ADDR]
def pageRows26 : List Row :=
  [Reg.BR_POOL_SIZE_BLOCKS, Reg.BR_ACC_OWNER, Reg.BR_ACC_WAITING, Reg.BR_SNAP_PORT, Reg.BR_SNAP_KIND,
   Reg.BR_SNAP_VALID, Reg.BR_SNAP_BUSY, Reg.BR_SNAP_FRAME_COUNT]
def pageRows27 : List Row :=
  [Reg.PFE_CTL_EN, Reg.PFE_CTL_TRIG, Reg.PFE_CTL_ODR, Reg.PFE_CTL_SCAN_MS, Reg.PFE_CMD_GO,
   Reg.PFE_CHECK_TOL, Reg.PFE_BOUND_INDEX, Reg.PFE_BOUND_PAIR, Reg.PFE_BOUND_VALID, Reg.PFE_STATUS_BUSY,
   Reg.PFE_STATUS_STEP, Reg.PFE_CHK_A_DEV, Reg.PFE_CHK_B_DEV, Reg.PFE_SCANS_COUNT, Reg.PFE_TABLE_N_N,
   Reg.PAIR_A, Reg.PAIR_B, Reg.PAIR_COUNT, Reg.PAIR_EN, Reg.PAIR_TOL,
   Reg.PAIR_VALUE, Reg.PAIR_VALID, Reg.PAIR_DEGRADED, Reg.PAIR_FAULT, Reg.PAIR_MISS,
   Reg.SLOT_MODE, Reg.SLOT_PGA, Reg.SLOT_POS, Reg.SLOT_NEG, Reg.SLOT_BIAS,
   Reg.SLOT_BIAS_EN, Reg.SLOT_BURN, Reg.SLOT_SETTLE, Reg.SLOT_S0_PIN, Reg.SLOT_S0_EN,
   Reg.SLOT_S0_MAG, Reg.SLOT_S1_PIN, Reg.SLOT_S1_EN, Reg.SLOT_S1_MAG, Reg.SLOT_CURVE,
   Reg.SLOT_CJ_SLOT, Reg.SLOT_CJ_EN, Reg.SLOT_P0, Reg.SLOT_P1, Reg.SLOT_P2,
   Reg.SLOT_P3, Reg.RES_VALUE, Reg.RES_RAW, Reg.RES_VALID, Reg.RES_OVR,
   Reg.RES_OPEN, Reg.RES_RANGE, Reg.RES_CHECK, Reg.RES_PAIR, Reg.RES_CJC,
   Reg.RES_CFG, Reg.RES_RATIO, Reg.RES_SEQ, Reg.RES_TIME, Reg.AO_KIND,
   Reg.AO_SRC, Reg.AO_FAULT_HIGH, Reg.AO_LO, Reg.AO_HI, Reg.AO_HOST,
   Reg.AO_CODE, Reg.AO_FAULT, Reg.AO_REF_LOW, Reg.PFE_TABLE_IN, Reg.PFE_TABLE_OUT]
def pageRows28 : List Row :=
  [Reg.MOT_CTL_EN, Reg.MOT_CTL_HOLD, Reg.MOT_CTL_DIR_INV, Reg.MOT_CTL_ROLE, Reg.MOT_CTL_PORT,
   Reg.MOT_PWM_KHZ, Reg.MOT_PWM_STBY_MS, Reg.MOT_CUR_RUN_MA, Reg.MOT_CUR_HOLD_MA, Reg.MOT_SCALE_I_FS_MA,
   Reg.MOT_SCALE_V_FS_MV, Reg.MOT_LOOP_KP, Reg.MOT_LOOP_KI, Reg.MOT_VMAX_VALUE, Reg.MOT_AMAX_VALUE,
   Reg.MOT_JMAX_VALUE, Reg.MOT_STOP_A_VALUE, Reg.MOT_STOP_J_VALUE, Reg.MOT_TARGET_LO_VALUE, Reg.MOT_TARGET_HI_VALUE,
   Reg.MOT_TRAVEL_MIN_STEPS, Reg.MOT_TRAVEL_MAX_STEPS, Reg.MOT_BACKLASH_UST, Reg.MOT_HOME_DIR, Reg.MOT_HOME_V,
   Reg.MOT_HOME_MAX_STEPS, Reg.MOT_MOTOR_R_MOHM, Reg.MOT_MOTOR_L_UH, Reg.MOT_STALL_EN, Reg.MOT_STALL_N,
   Reg.MOT_STALL_DEG, Reg.MOT_STALL_VMIN, Reg.MOT_CMD_STOP, Reg.MOT_CMD_RESUME, Reg.MOT_CMD_HOME,
   Reg.MOT_CMD_CLEAR, Reg.MOT_CMD_ZERO, Reg.MOT_CMD_ABORT, Reg.MOT_STATUS_STATE, Reg.MOT_STATUS_AT_TARGET,
   Reg.MOT_STATUS_HOMED, Reg.MOT_STATUS_PACED, Reg.MOT_STATUS_HOST_STOP, Reg.MOT_STATUS_FAULT, Reg.MOT_POS_LO_VALUE,
   Reg.MOT_POS_HI_VALUE, Reg.MOT_REMAIN_LO_VALUE, Reg.MOT_REMAIN_HI_VALUE, Reg.MOT_VEL_VALUE, Reg.MOT_DELTA_DEG,
   Reg.MOT_MEAS_VM_MV]
def pageRows29 : List Row :=
  [Reg.MOT_SERVO_US, Reg.SHEET_CTL_EN, Reg.SHEET_CTL_AXIS, Reg.SHEET_CTL_LEAD_EN, Reg.SHEET_LEAD_STOP,
   Reg.SHEET_LEAD_GO, Reg.SHEET_Q_QUEUE, Reg.SHEET_Q_VALID, Reg.SHEET_Q_FILL_STOP, Reg.SHEET_Q_FILL_GO,
   Reg.SHEET_STATUS_PAUSED, Reg.SHEET_STATUS_LEAD, Reg.SHEET_STATUS_QUEUES, Reg.SHEET_PAUSES_COUNT]
def pageRows30 : List Row :=
  [Reg.AUXC_CTL_EN, Reg.AUXC_RES_CODE, Reg.AUXC_RES_CLIP, Reg.AUXC_RES_VALID, Reg.AUXC_RES_SEQ]
def pageRows31 : List Row :=
  [Reg.HOST_LINK_SPEED, Reg.HOST_LINK_WIDTH, Reg.HOST_LINK_UP, Reg.FREURI_CAP_VERSIONS, Reg.TEN_STATE_STATE,
   Reg.TEN_VER_VER, Reg.TEN_RESET_MASK, Reg.SRIOV_NUM_VFS, Reg.SRIOV_VF_ENABLE]
def pageRows32 : List Row :=
  [Reg.LEASE_CMD_RES, Reg.LEASE_CMD_TENANT, Reg.LEASE_CMD_OP, Reg.LEASE_CMD_TIMEOUT_MS, Reg.LEASE_HOLDER,
   Reg.LEASE_ACTIVE, Reg.LEASE_REMAIN_MS]
def pageRows33 : List Row :=
  [Reg.CTXC_HITS_COUNT, Reg.CTXC_MISSES_COUNT, Reg.CTXC_EVICTS_COUNT, Reg.CTXC_PINNED_COUNT, Reg.CTXC_STALLS_COUNT]
def pageRows34 : List Row :=
  [Reg.TEN_STATUS_STATE, Reg.TEN_STATUS_VERSION, Reg.TEN_STATUS_TENANT, Reg.TEN_CTX_BASE_LO_ADDR, Reg.TEN_CTX_BASE_HI_ADDR,
   Reg.QADM_CMD_QUEUE, Reg.QADM_CMD_OP, Reg.QADM_STATUS_BUSY, Reg.QADM_STATUS_RESULT, Reg.QADM_STATUS_QUEUE,
   Reg.TEN_RENEW_RENEW, Reg.NOTICE_Q_QUEUE, Reg.NOTICE_Q_VALID, Reg.TEN_STALE_COUNT, Reg.TEN_DUP_COUNT,
   Reg.TEN_DB_IGNORED_COUNT, Reg.TEN_NOTICE_DROP_COUNT, Reg.TEN_LEASES_BITS]
def pageRows35 : List Row :=
  [Reg.QSEL_QUEUE, Reg.QSTAT_A_STATE, Reg.QSTAT_A_TYPE, Reg.QSTAT_A_FAULT, Reg.QSTAT_A_CACHED,
   Reg.QSTAT_A_PINNED, Reg.QSTAT_PROD_VALUE, Reg.QSTAT_CONS_VALUE, Reg.QSTAT_EXP_SEQ_VALUE, Reg.QSTAT_EPOCH_VALUE]
def pageRows36 : List Row :=
  [Reg.DMA_CTL_PRIO, Reg.DMA_CTL_RETRY, Reg.DMA_CTL_BURST, Reg.DMA_CTL_REQ_EN, Reg.DMA_CTL_REQ_SEL,
   Reg.DMA_CMD_CLEAR, Reg.DMA_CMD_ABORT, Reg.DMA_CMD_REQ_CLEAR, Reg.DMA_STATUS_STATE, Reg.DMA_STATUS_CAUSE,
   Reg.DMA_STATUS_WAITING, Reg.DMA_STATUS_REQ_PEND, Reg.DMA_STATUS_RETRIES, Reg.DMA_ERR_ADDR_LO_VALUE, Reg.DMA_ERR_ADDR_HI_VALUE,
   Reg.DMA_BYTES_COUNT, Reg.DMA_TIMER_US, Reg.DMA_SRC_STEP_VALUE, Reg.DMA_DST_STEP_VALUE]
def pageRows37 : List Row :=
  [Reg.IC_CTL_EN, Reg.IC_CTL_THRESHOLD, Reg.IC_CLAIM_SOURCE, Reg.IC_COMPLETE_SOURCE, Reg.IC_SET_SOURCE,
   Reg.IC_CLEAR_SOURCE, Reg.IC_STATUS_REQUEST, Reg.IC_STATUS_MASKED, Reg.IC_STATUS_IN_SERVICE, Reg.IC_SPURIOUS_COUNT,
   Reg.IC_SENT_COUNT, Reg.IC_PROF_COUNT, Reg.IC_PROF_TIME_US, Reg.IC_SRC_PRIO0, Reg.IC_SRC_PRIO1,
   Reg.IC_SRC_PRIO2, Reg.IC_SRC_PRIO3, Reg.IC_SRC_PROFILE0, Reg.IC_SRC_PROFILE1, Reg.IC_SRC_PROFILE2,
   Reg.IC_SRC_PROFILE3, Reg.IC_PENDING_BITS, Reg.IC_INSERVICE_BITS, Reg.IC_COUNTING_BITS, Reg.IC_PAGES_BITS]
def pageRows38 : List Row :=
  [Reg.DOM_CTL_ON, Reg.DOM_DRAIN_US, Reg.DOM_STATE_STATE, Reg.DOM_FAULT_BITS, Reg.DOM_LAST_DOMAIN,
   Reg.DOM_LAST_TIMEOUT, Reg.DOM_LAST_DISCARDED, Reg.DOM_DRAIN_MAX_NS]
def pageRows39 : List Row :=
  [Reg.FLT_CMD_LANE, Reg.FLT_CMD_LANE_RESET, Reg.DEV_RESET_KEY, Reg.LANE_FLT_LIMIT_LIMIT, Reg.LANE_FLT_LIMIT_WINDOW_MS,
   Reg.LANE_HELD_BITS, Reg.DEV_LAST_CAUSE, Reg.DEV_LAST_COUNT, Reg.ECC_CORR_COUNT, Reg.ECC_UNCORR_COUNT,
   Reg.LANE_FLT_COUNT, Reg.LANE_FLT_CAUSE, Reg.LANE_FLT_HELD, Reg.TEN_FLT_CAUSE, Reg.TEN_FLT_COUNT]
def pageRows40 : List Row :=
  [Reg.THERM_CFG_T_SET, Reg.THERM_CFG_CORR, Reg.THERM_BOARD_RTH_LB, Reg.THROT_CTL_TH_START, Reg.THROT_CTL_KP,
   Reg.THROT_LIM_F_MIN, Reg.THERM_STATUS_STATE, Reg.THERM_STATUS_BOUND, Reg.THERM_STATUS_THROT, Reg.THERM_STATUS_HOT_NODE,
   Reg.THERM_STATUS_TJ_MAX, Reg.THERM_BOUNDARY_VALUE, Reg.THROT_FRAC_F, Reg.THERM_PEAK_VALUE, Reg.THERM_NODE_TEMP,
   Reg.THERM_NODE_VALID]
def pageRows41 : List Row :=
  [Reg.CAP_CTL_HOLD_MS, Reg.CAP_DELIV_A_HOST_IN, Reg.CAP_DELIV_A_HOST_OUT, Reg.CAP_DELIV_B_PIXEL, Reg.CAP_NOW_A_HOST_IN,
   Reg.CAP_NOW_A_HOST_OUT, Reg.CAP_NOW_B_PIXEL, Reg.CAP_ADMIT_A_HOST_IN, Reg.CAP_ADMIT_A_HOST_OUT, Reg.CAP_ADMIT_B_PIXEL,
   Reg.CAP_STATUS_LEVEL, Reg.CAP_STATUS_SHORT, Reg.CAP_STATUS_CUT, Reg.CAP_RES_HOST_IN, Reg.CAP_RES_HOST_OUT,
   Reg.CAP_RES_PIXEL, Reg.CAP_RES_PRIO, Reg.CAP_RES_GUAR]
def pageRows42 : List Row :=
  [Reg.THIN_CTL_MARGIN, Reg.THIN_CTL_MIN_KEEP, Reg.THIN_STATUS_KEEP, Reg.THIN_STATUS_ACTIVE, Reg.THIN_FROM_LO_VALUE,
   Reg.THIN_FROM_HI_VALUE, Reg.THIN_LINES_COUNT, Reg.SPD_ADV_CTL_MODE, Reg.SPD_ADV_KHZ_KHZ, Reg.SPD_ADV_KHZ_ASSERTED,
   Reg.SPD_ADV_RATE_LINES_S]
def pageRows43 : List Row :=
  [Reg.MBX_H2M_CTL_LEN, Reg.MBX_H2M_CTL_GO, Reg.MBX_STATUS_STATE, Reg.MBX_STATUS_M2H_LEN, Reg.MBX_M2H_ACK_ACK,
   Reg.MBX_FENCE_VALUE, Reg.MBX_FLAG_VALUE, Reg.MBX_FLAG_M, Reg.MBX_H2M_VALUE, Reg.MBX_M2H_VALUE]
def pageRows44 : List Row :=
  [Reg.MGMT_FW_VERSION, Reg.MGMT_BUILD_VALUE, Reg.MGMT_STATUS_MODE, Reg.MGMT_STATUS_BANK, Reg.MGMT_STATUS_TRIAL,
   Reg.MGMT_STATUS_FALLBACK, Reg.MGMT_SVN_IMAGE, Reg.MGMT_SVN_FUSES, Reg.MGMT_PERF_RETIRED, Reg.MGMT_PERF_FETCHED,
   Reg.LOG_SEL_SEQ, Reg.LOG_SRC_SRC, Reg.LOG_SRC_READY, Reg.LOG_SRC_GONE, Reg.LOG_HEAD_SEQ,
   Reg.LOG_TAIL_SEQ, Reg.LOG_MIRROR_SEQ, Reg.LOG_LOST_INTAKE, Reg.LOG_LOST_MIRROR, Reg.LOG_MIRROR_MASK_BITS,
   Reg.LOG_DATA_VALUE, Reg.MON_V_MV, Reg.MON_I_MA, Reg.MON_P_MW, Reg.MON_VALID,
   Reg.MON_ALARM, Reg.MON_V_LO, Reg.MON_V_HI, Reg.MON_PEAK_MW, Reg.UPD_CMD_OP,
   Reg.UPD_STATUS_STATE, Reg.UPD_STATUS_REASON, Reg.UPD_STATUS_OWNER, Reg.UPD_DATA_VALUE, Reg.UPD_COUNT_BYTES,
   Reg.UPD_FREE_BYTES]
def pageRows45 : List Row :=
  [Reg.USB_CTL_EN, Reg.USB_CTL_RD_EN, Reg.USB_CTL_WR_EN, Reg.USB_CTL_UPD_EN, Reg.USB_CTL_WAKE_EN,
   Reg.USB_STATUS_STATE, Reg.USB_STATUS_HS, Reg.USB_STATUS_ADDRESS, Reg.USB_STATUS_RWAKE, Reg.USB_STATUS_WAKE_PENDING,
   Reg.USB_STATUS_LOG_STREAM, Reg.USB_EVT_MASK_MASK, Reg.USB_LOG_MASK_BITS, Reg.USB_BUS_RESETS_COUNT, Reg.USB_ABORTS_COUNT,
   Reg.USB_STALLS_COUNT, Reg.USB_EVT_LOST_COUNT, Reg.USB_ID_VID, Reg.USB_ID_PID]
def pageRows46 : List Row :=
  [Reg.TWT_CTL_EN, Reg.TWT_CTL_FILT, Reg.TWT_ADDR_BASE, Reg.TWT_ADDR_MASK, Reg.TWT_ADDR_ALERT_ADDR,
   Reg.TWT_ALERT_MASK_MASK, Reg.TWT_ALERT_STATUS_BITS, Reg.TWT_COUNT_NACK_BUSY, Reg.TWT_COUNT_TIMEOUTS, Reg.TWT_IGNORED_COUNT,
   Reg.TWT_LAST_ALERT_SOURCE, Reg.TWT_HOST_ALERT_SET, Reg.TWT_SCRATCH_VALUE]
def pageRows47 : List Row :=
  [Reg.TWC_CTL_EN, Reg.TWC_CTL_SPEED, Reg.TWC_CTL_RETRIES, Reg.TWC_CTL_FILT, Reg.TWC_CTL_TIMEOUT_MS,
   Reg.TWC_XFER_ADDR, Reg.TWC_XFER_WLEN, Reg.TWC_XFER_RLEN, Reg.TWC_XFER_GO, Reg.TWC_STATUS_BUSY,
   Reg.TWC_STATUS_RESULT, Reg.TWC_STATUS_NACK_BYTE, Reg.TWC_STATUS_RCOUNT, Reg.TWC_STATUS_ARB_RETRIES, Reg.TWC_RECOVER_GO,
   Reg.TWC_COUNT_ARB_LOST, Reg.TWC_COUNT_RECOVERIES, Reg.TWC_WDATA_VALUE, Reg.TWC_RDATA_VALUE]
def pageRows48 : List Row :=
  [Reg.ONX_ID_VERSION, Reg.ONX_ID_CHECKSUM, Reg.ONX_STATUS_STATE, Reg.ONX_STATUS_VIEW_VALID, Reg.ONX_STATUS_STAGED,
   Reg.ONX_STATUS_SWITCH, Reg.ONX_STATUS_AUDIT_FULL, Reg.ONX_STATUS_COLD_STARTS, Reg.ONX_EVENT_COUNT, Reg.ONX_SEC_SECONDS,
   Reg.ONX_PUSH_TIME_LO_VALUE, Reg.ONX_PUSH_TIME_HI_VALUE, Reg.ONX_PUSH_SEQ_COUNT, Reg.ONX_TOTAL_LO_VALUE, Reg.ONX_TOTAL_HI_VALUE,
   Reg.ONX_JOB_LO_VALUE, Reg.ONX_JOB_HI_VALUE, Reg.ONX_JOB_NO_VALUE, Reg.ONX_UNMET_LO_VALUE, Reg.ONX_UNMET_HI_VALUE,
   Reg.WHEEL_LEN_LO, Reg.WHEEL_LEN_HI, Reg.WHEEL_QERR, Reg.WHEEL_VEL, Reg.WIN_LAST_A0,
   Reg.WIN_LAST_A1, Reg.WIN_COUNT_COUNT, Reg.WIN_DISAGREE_COUNT, Reg.AUD_HEAD_SEQ, Reg.AUD_RELEASED_SEQ,
   Reg.AUD_OVERFLOW_COUNT, Reg.ONX_ENV_TEMP, Reg.ONX_ENV_VDD_MV, Reg.ONX_PARAM_VALUE]
def pageRows49 : List Row :=
  [Reg.STAGE_MASK_IDS, Reg.STAGE_MASK_RELEASE, Reg.STAGE_VALUE_VALUE, Reg.STAGE_RELEASE_SEQ, Reg.LAST_JOB_JOB_NO,
   Reg.LAST_JOB_START_LO, Reg.LAST_JOB_START_HI, Reg.LAST_JOB_END_LO, Reg.LAST_JOB_END_HI, Reg.LAST_JOB_SEC]
def pageRows50 : List Row :=
  [Reg.IK_CTL_EN, Reg.IK_CTL_LEAD, Reg.IK_CTL_TB_TOL, Reg.IK_CTL_SYNC_MS, Reg.IK_STATUS_STATE,
   Reg.IK_STATUS_POS, Reg.IK_STATUS_NDEV, Reg.IK_STATUS_LEADER_POS, Reg.IK_STATUS_REASON, Reg.IK_STATUS_VERSION,
   Reg.IK_XBASE_X, Reg.IK_XSTART_X, Reg.IK_TRIG_DELAY_NS, Reg.IK_TB_OFFSET_NS, Reg.IK_TB_RESYNCS_COUNT,
   Reg.IK_CMD_CLEAR, Reg.IK_COMMIT_LINE_LO_VALUE, Reg.IK_COMMIT_LINE_HI_VALUE, Reg.IK_HALT_CAUSE_CAUSE, Reg.IK_VERSIONS_OFFER]
def pageRows51 : List Row :=
  [Reg.IKP_STATUS_UP, Reg.IKP_STATUS_WIDTH, Reg.IKP_STATUS_PEER_POS, Reg.IKP_STATUS_LAT_NS, Reg.IKP_CRC_ERR_COUNT,
   Reg.IKP_RETRY_COUNT, Reg.IKP_DOWNS_COUNT]
def pageRows52 : List Row :=
  [Reg.DEV_MODE_MODE, Reg.DEV_RUN_START, Reg.DEV_RUN_STOP, Reg.DEV_RUN_STATUS_ACTIVE, Reg.DEV_RUN_STATUS_STARTING,
   Reg.DEV_RUN_STATUS_REASON, Reg.DEV_GEN_GEN, Reg.DEV_RUNS_COUNT, Reg.DEV_ID_STEP_NUMBER, Reg.DEV_ID_STEP_LETTER,
   Reg.DEV_ID_PART]
def pageRows53 : List Row :=
  [Reg.COMMIT_MULTI_GROUPS, Reg.COMMIT_LAST_REASON, Reg.COMMIT_LAST_GROUP, Reg.COMMIT_LAST_TENANT, Reg.GROUP_OWNER,
   Reg.GROUP_BUSY, Reg.GROUP_LINE_LO, Reg.GROUP_LINE_HI, Reg.GROUP_GEN]
def pageRows54 : List Row :=
  [Reg.TRIM_TEMP, Reg.TRIM_VALID, Reg.TRIM_HOST, Reg.TRIM_AGE, Reg.TRIM_GAIN0,
   Reg.TRIM_OFFSET0, Reg.TRIM_GAIN1, Reg.TRIM_OFFSET1, Reg.TRIM_GAIN2, Reg.TRIM_OFFSET2]
def pageRows55 : List Row :=
  [Reg.CAST_QUAL_MISMATCH, Reg.CAST_QUAL_OUTCOME, Reg.CAST_QUAL_ELEM, Reg.CAST_QUAL_CAL_S]
def pageRows56 : List Row :=
  [Reg.QFAULT]
def pageRows57 : List Row :=
  [Reg.IK_DIGEST, Reg.IK_LEADER_DIGEST]
def pageRows58 : List Row :=
  [Reg.GRANT_LAST_TENANT, Reg.GRANT_LAST_SLOT, Reg.GRANT_LAST_PAGE]
def pageRows59 : List Row :=
  [Reg.GRANT_PAGE, Reg.GRANT_RD_ONLY, Reg.GRANT_VALID]
def pageRows60 : List Row :=
  [Reg.AUDIT_VIEW]
def pageRows61 : List Row :=
  [Reg.XFER_IMAGE_IMAGE, Reg.XFER_ADDR_ADDR]
/-- Every range of pages that holds block registers, with its rows (R566 and the tables of spec/). -/
def pageTable : List ((Nat × Nat × Nat) × List Row) :=
  [((0x11, 1, 1), pageRows0),
   ((0x10, 1, 1), pageRows1),
   ((0x40, 12, 1), pageRows2),
   ((0x50, 4, 1), pageRows3),
   ((0x54, 1, 1), pageRows4),
   ((0x80, 97, 1), pageRows5),
   ((0xe0, 1, 1), pageRows6),
   ((0x100, 1, 1), pageRows7),
   ((0x120, 12, 1), pageRows8),
   ((0x140, 1, 1), pageRows9),
   ((0x142, 5, 1), pageRows10),
   ((0x147, 1, 1), pageRows11),
   ((0x160, 1, 1), pageRows12),
   ((0x161, 1, 1), pageRows13),
   ((0x162, 1, 1), pageRows14),
   ((0x180, 1, 1), pageRows15),
   ((0x181, 1, 1), pageRows16),
   ((0x1a0, 1, 1), pageRows17),
   ((0x1a1, 1, 1), pageRows18),
   ((0x1a2, 1, 1), pageRows19)] ++
  [((0x1a3, 8, 1), pageRows20),
   ((0x1c0, 1, 1), pageRows21),
   ((0x1c1, 1, 1), pageRows22),
   ((0x1c2, 1, 1), pageRows23),
   ((0x220, 1, 1), pageRows24),
   ((0x200, 4, 1), pageRows25),
   ((0x204, 1, 1), pageRows26),
   ((0x240, 1, 1), pageRows27),
   ((0x260, 8, 1), pageRows28),
   ((0x268, 1, 1), pageRows29),
   ((0x221, 1, 1), pageRows30),
   ((0x300, 1, 1), pageRows31),
   ((0x301, 1, 1), pageRows32),
   ((0x302, 1, 1), pageRows33),
   ((0x400, 16, 64), pageRows34),
   ((0x401, 16, 64), pageRows35),
   ((0x800, 64, 1), pageRows36),
   ((0x840, 17, 1), pageRows37),
   ((0x28, 1, 1), pageRows38),
   ((0x29, 1, 1), pageRows39)] ++
  [((0x20, 1, 1), pageRows40),
   ((0x21, 1, 1), pageRows41),
   ((0x22, 1, 1), pageRows42),
   ((0x900, 16, 1), pageRows43),
   ((0x900, 1, 1), pageRows44),
   ((0x920, 1, 1), pageRows45),
   ((0x921, 1, 1), pageRows46),
   ((0x922, 1, 1), pageRows47),
   ((0x980, 1, 1), pageRows48),
   ((0x981, 1, 1), pageRows49),
   ((0x940, 1, 1), pageRows50),
   ((0x941, 2, 1), pageRows51),
   ((0x0, 1, 1), pageRows52),
   ((0x5, 1, 1), pageRows53),
   ((0x102, 7, 1), pageRows54),
   ((0x109, 1, 1), pageRows55),
   ((0x402, 16, 64), pageRows56),
   ((0x943, 1, 1), pageRows57),
   ((0x4, 1, 1), pageRows58),
   ((0x1, 3, 1), pageRows59),
   ((0x982, 2, 1), pageRows60),
   ((0x141, 1, 1), pageRows61)]

end Sys2Proof.Machine
end

