-- ==== Sys2Proof/Machine/Ops.lean ====
section
/-!
DEFINITION. The named operations over the register map and the tables of the state: finding and writing one entry of
a sparse table, reading and writing one field in force, its shadow, the captures of R48, the outputs, and the
composition of the 32-bit word that a host access sees (R6, R8, R9).
-/

namespace Sys2Proof.Machine

/-! ## Sparse tables -/

/-- The entry at index `k`, if there is one. -/
def tfind {α : Type} (k : Nat) : Table α → Option α
  | [] => none
  | (i, v) :: t => if i = k then some v else tfind k t

/-- The table with the entry `v` at index `k`; the indexes stay strictly rising. -/
def tput {α : Type} (k : Nat) (v : α) : Table α → Table α
  | [] => [(k, v)]
  | (i, w) :: t => if i < k then (i, w) :: tput k v t else if i = k then (k, v) :: t else (k, v) :: (i, w) :: t

/-- The table without an entry at index `k`. -/
def tdel {α : Type} (k : Nat) : Table α → Table α
  | [] => []
  | (i, w) :: t => if i = k then tdel k t else (i, w) :: tdel k t

/-- The entry at index `k`, or `d` where there is none. -/
def tget {α : Type} (d : α) (t : Table α) (k : Nat) : α := (tfind k t).getD d

/-- The number at index `k`, or `d` where there is none. -/
def sget (t : Store) (k : Nat) (d : Nat := 0) : Nat := (tfind k t).getD d

/-- The store with `v` at `k`; writing what an unlisted index reads as removes the entry. -/
def sput (t : Store) (k v : Nat) (d : Nat := 0) : Store := if v = d then tdel k t else tput k v t

/-! ## Fields of the register map -/

/-- The key of the field `r` of page instance `k`, first index `i`, second index `j`. -/
def Row.key (r : Row) (k i j : Nat) : Nat :=
  ((r.page + r.pageStep * k) * 4096 + r.offset + r.stride1 * i + r.stride2 * j) * 32 + r.lo

/-- The reset value of that field (the Reset column, R10). -/
def Row.resetAt (r : Row) (k i : Nat) : Nat :=
  match r.reset with
  | .const v => v
  | .byIndex l => l.getD i 0
  | .exp => (57344 * i + 127) / 255
  | .page => k

/-- The value a write of `v` stores: the stored range, then the field's width. -/
def Row.stored (r : Row) (v : Nat) : Nat :=
  let u := v % 2 ^ r.width
  match r.clamp with
  | .any => u
  | .range lo hi => max lo (min hi u)
  | .signedRange lo hi => if 2 ^ (r.width - 1) ≤ u then lo else max lo (min hi u)
  | .evenRange lo hi => max lo (min hi (u / 2 * 2))

/-- The store that holds the value in force of a field: SH fields apart from the others (R555). -/
def State.store (s : State) (r : Row) : Store := if r.access = .sh then s.force else s.regs

/-- The value in force of a field. -/
def State.rd (s : State) (r : Row) (k : Nat := 0) (i : Nat := 0) (j : Nat := 0) : Nat :=
  sget (s.store r) (r.key k i j) (r.resetAt k i)

/-- The value in force of a field, as the signed number its bits stand for. -/
def State.rdS (s : State) (r : Row) (k : Nat := 0) (i : Nat := 0) (j : Nat := 0) : Int := signed r.width (s.rd r k i j)

/-- A field of width 1 or more read as a condition. -/
def State.on (s : State) (r : Row) (k : Nat := 0) (i : Nat := 0) (j : Nat := 0) : Bool := s.rd r k i j != 0

/-- The registers with the low bits of `v` in a field. -/
def regsPut (t : Store) (r : Row) (v k i j : Nat) : Store := sput t (r.key k i j) (v % 2 ^ r.width) (r.resetAt k i)

/-- The state with the low bits of `v` in force in a field (the device's own update; no stored range applies). -/
def State.wr (s : State) (r : Row) (v : Nat) (k : Nat := 0) (i : Nat := 0) (j : Nat := 0) : State :=
  if r.access = .sh then { s with force := regsPut s.force r v k i j } else { s with regs := regsPut s.regs r v k i j }

/-- `wr` of a signed number. -/
def State.wrS (s : State) (r : Row) (v : Int) (k : Nat := 0) (i : Nat := 0) (j : Nat := 0) : State :=
  s.wr r (low r.width v) k i j

/-- `wr` of a condition. -/
def State.wrB (s : State) (r : Row) (b : Bool) (k : Nat := 0) (i : Nat := 0) (j : Nat := 0) : State :=
  s.wr r b.toNat k i j

/-- A wrapping count field plus `n`. -/
def State.inc (s : State) (r : Row) (k : Nat := 0) (i : Nat := 0) (n : Nat := 1) : State := s.wr r (s.rd r k i + n) k i

/-- A saturating count field plus `n`. -/
def State.incSat (s : State) (r : Row) (k : Nat := 0) (i : Nat := 0) (n : Nat := 1) : State :=
  s.wr r (satAdd r.width (s.rd r k i) n) k i

/-- The shadow of an SH field (R555). -/
def State.shadowRd (s : State) (r : Row) (k : Nat := 0) (i : Nat := 0) (j : Nat := 0) : Nat :=
  sget s.shadow (r.key k i j) (r.resetAt k i)

/-- The state with the low bits of `v` in a field's shadow. -/
def State.shadowWr (s : State) (r : Row) (v : Nat) (k : Nat := 0) (i : Nat := 0) (j : Nat := 0) : State :=
  { s with shadow := regsPut s.shadow r v k i j }

/-- A pair of registers (low and high half) read as one number. -/
def State.rdPair (s : State) (lo hi : Row) (k : Nat := 0) (i : Nat := 0) : Nat := s.rd lo k i + 2 ^ 32 * s.rd hi k i

/-- A number stored into a pair of registers. -/
def State.wrPair (s : State) (lo hi : Row) (v : Nat) (k : Nat := 0) (i : Nat := 0) : State :=
  (s.wr lo (v % 2 ^ 32) k i).wr hi (v / 2 ^ 32) k i

/-- The state with one more output. -/
def State.emit (s : State) (o : Output) : State := { s with out := o :: s.out }

/-- Apply `f` when `b` holds. -/
def State.when (s : State) (b : Bool) (f : State → State) : State := if b then f s else s

/-- Apply `f` to each element in turn. -/
def State.each {α : Type} (s : State) (l : List α) (f : State → α → State) : State := l.foldl f s

/-- A free value of `w` bits (assumption log 4): the next one, and the state that has used it. -/
def State.take (s : State) (w : Nat) : State × Nat :=
  ({ s with fresh := s.fresh + 1 }, Config.freeValue s.fresh % 2 ^ w)

/-- The device has its supplies and its domains: neither held in power-on reset (R580) nor shut down (R422). -/
def State.alive (s : State) : Bool := !s.flt.shutdown && !s.flt.held

/-- What a command does on a device that has its supplies; without them it does nothing (R422, R580). -/
def State.powered (s : State) (f : State → State) : State := if s.alive then f s else s

/-! ## Captures of the reading agent (R48) -/

/-- The capture of agent `a` for the register at page `p`, offset `o`. -/
def State.captured (s : State) (a p o : Nat) : Nat := sget s.captures ((a * 8192 + p) * 4096 + o)

/-- The state with a capture of agent `a` for the register at page `p`, offset `o`. -/
def State.capture (s : State) (a p o v : Nat) : State :=
  { s with captures := sput s.captures ((a * 8192 + p) * 4096 + o) (v % 2 ^ 32) }

/-! ## Whole words, as host accesses see them -/

/-- The page instance, rows and page of R566 that hold page `p`. -/
def rowsOfPage (p : Nat) : List (Nat × List Row) :=
  pageTable.filterMap fun g =>
    let b := g.1.1
    let n := g.1.2.1
    let st := g.1.2.2
    if b ≤ p ∧ (p - b) % st = 0 ∧ (p - b) / st < n then some ((p - b) / st, g.2) else none

/-- The indexes at which the row lies at offset `o` of its page. -/
def Row.indexAt (r : Row) (o : Nat) : Option (Nat × Nat) :=
  if o < r.offset then none
  else
    let d := o - r.offset
    let i := if r.count1 ≤ 1 then 0 else d / r.stride1
    let e := d - r.stride1 * i
    let j := if r.count2 ≤ 1 then 0 else e / r.stride2
    if r.stride2 * j = e ∧ i < r.count1 ∧ j < r.count2 then some (i, j) else none

/-- The fields at one word of the register map: row, page instance and indexes. -/
def fieldsAt (p o : Nat) : List (Row × Nat × Nat × Nat) :=
  (rowsOfPage p).flatMap fun g =>
    g.2.filterMap fun r => (r.indexAt o).map fun ij => (r, g.1, ij.1, ij.2)

/-- The fields of a whole page: every row at every index. -/
def fieldsOfPage (p : Nat) : List (Row × Nat × Nat × Nat) :=
  (rowsOfPage p).flatMap fun g =>
    g.2.flatMap fun r =>
      (List.range r.count1).flatMap fun i => (List.range r.count2).map fun j => (r, g.1, i, j)

/-- What a read returns of one field: the value in force, the shadow of an SH field, 0 of a WO field (R6). -/
def State.seen (s : State) (r : Row) (k i j : Nat) : Nat :=
  match r.access with
  | .wo => 0
  | .sh => s.shadowRd r k i j
  | _ => s.rd r k i j

/-- The word of the block registers at page `p`, offset `o`, as its stored fields give it. -/
def State.storedWord (s : State) (p o : Nat) : Nat :=
  (fieldsAt p o).foldl (fun w f => w + s.seen f.1 f.2.1 f.2.2.1 f.2.2.2 <<< f.1.lo) 0

/-- The bytes that a write enables, as a mask of the word. -/
def byteMask (be : Nat) : Nat :=
  (if be.testBit 0 then 0xFF else 0) + (if be.testBit 1 then 0xFF00 else 0) +
  (if be.testBit 2 then 0xFF0000 else 0) + (if be.testBit 3 then 0xFF000000 else 0)

/-- A host write of `v` to one field under its access type (R6). -/
def State.hostField (s : State) (v : Nat) (f : Row × Nat × Nat × Nat) : State :=
  let r := f.1
  let x := bitsOf v r.lo r.width
  match r.access with
  | .rw => s.wr r (r.stored x) f.2.1 f.2.2.1 f.2.2.2
  | .sh => s.shadowWr r (r.stored x) f.2.1 f.2.2.1 f.2.2.2
  | .w1c => s.wr r (clearMask (s.rd r f.2.1 f.2.2.1 f.2.2.2) x) f.2.1 f.2.2.1 f.2.2.2
  | .ro => s
  | .wo => s

/-- A host write of the word `v` at page `p`, offset `o`: every field there under its access type (R6, R8). -/
def State.hostWord (s : State) (p o v : Nat) : State := s.each (fieldsAt p o) fun s f => s.hostField v f

end Sys2Proof.Machine
end

