-- ==== Sys2Proof/Machine/Notify.lean ====
section
/-!
DEFINITION. How a block tells of an event: interrupt sources with their coalescing, request, message, claim and
completion (R399 to R410), PAGE_EVENT bits and the page source (R551), log entries (R463), USB event messages (R489,
R490) and two-wire alerts (R498).  Every operation here changes `State.nt` and `State.out` and nothing else.
-/

namespace Sys2Proof.Machine

/-! ## Interrupt controllers -/

/-- A register of controller `c`. -/
def Interrupts.rd (ic : Interrupts) (r : Row) (c : Nat) (i : Nat := 0) : Nat :=
  sget ic.regs (r.key c i 0) (r.resetAt c i)

/-- A register of controller `c`, written. -/
def Interrupts.wr (ic : Interrupts) (r : Row) (v c : Nat) (i : Nat := 0) : Interrupts :=
  { ic with regs := regsPut ic.regs r v c i 0 }

/-- Bit `src` of a bit array of controller `c` (R408). -/
def Interrupts.bit (ic : Interrupts) (r : Row) (c src : Nat) : Bool := (ic.rd r c (src / 32)).testBit (src % 32)

/-- A bit array with bit `src` put. -/
def Interrupts.putBit (ic : Interrupts) (r : Row) (c src : Nat) (b : Bool) : Interrupts :=
  ic.wr r (Sys2Proof.Machine.putBit (ic.rd r c (src / 32)) (src % 32) b) c (src / 32)

/-- The PRIO row of a source, four sources to a word (R408). -/
def prioRow (src : Nat) : Row :=
  match src % 4 with
  | 0 => Reg.IC_SRC_PRIO0
  | 1 => Reg.IC_SRC_PRIO1
  | 2 => Reg.IC_SRC_PRIO2
  | _ => Reg.IC_SRC_PRIO3

/-- The PROFILE row of a source. -/
def profileRow (src : Nat) : Row :=
  match src % 4 with
  | 0 => Reg.IC_SRC_PROFILE0
  | 1 => Reg.IC_SRC_PROFILE1
  | 2 => Reg.IC_SRC_PROFILE2
  | _ => Reg.IC_SRC_PROFILE3

/-- PRIO of a source. -/
def Interrupts.prio (ic : Interrupts) (c src : Nat) : Nat := ic.rd (prioRow src) c (src / 4)

/-- Pending, not in service, and PRIO above the threshold (R402). -/
def Interrupts.claimable (ic : Interrupts) (c src : Nat) : Bool :=
  ic.bit Reg.IC_PENDING_BITS c src && !ic.bit Reg.IC_INSERVICE_BITS c src &&
    decide (ic.rd Reg.IC_CTL_THRESHOLD c < ic.prio c src)

/-- The claimable source of highest PRIO, the lowest number on a tie (R403). -/
def Interrupts.best (ic : Interrupts) (c : Nat) : Option Nat :=
  (List.range 32).foldl (fun b w =>
    if ic.rd Reg.IC_PENDING_BITS c w = 0 then b
    else (List.range 32).foldl (fun b n =>
      let src := 32 * w + n
      if ic.claimable c src then
        match b with
        | none => some src
        | some x => if ic.prio c x < ic.prio c src then some src else b
      else b) b) none

/-- The vector of function `c`. -/
def Interrupts.vector (ic : Interrupts) (c : Nat) : Msix := tget ⟨false, false, true, false, 0, 0⟩ ic.msix c

/-- The vector can send (R402). -/
def Msix.usable (m : Msix) : Bool := m.enable && !m.functionMask && !m.vectorMask

/-- The controllers together with the outputs they add to. -/
abbrev IcOut := Interrupts × List Output

/-- A rise of controller `c`'s request: its message is to be issued (R402, R405). -/
def icRise (c : Nat) (x : IcOut) : IcOut := ({ x.1 with owed := x.1.owed ++ [c] }, x.2)

/-- The oldest owed message of controller `c` is issued, or its PBA bit is set while the request is 1 (R402). -/
def icSend (c : Nat) (x : IcOut) : IcOut :=
  if !x.1.owed.contains c then x
  else
    let ic := ({ x.1 with owed := x.1.owed.erase c }).wr Reg.IC_SENT_COUNT (x.1.rd Reg.IC_SENT_COUNT c + 1) c
    let m := ic.vector c
    if c = 16 then (ic, Output.mgmtIrq :: x.2)
    else if m.usable then (ic, Output.msix c m.address m.data :: x.2)
    else ({ ic with msix := tput c { m with pba := ic.rd Reg.IC_STATUS_REQUEST c == 1 } ic.msix }, x.2)

/-- The vector of function `c` takes new settings; a usable one with its PBA bit set sends the held message while the
request is 1 (R402). -/
def icVector (c : Nat) (m : Msix) (x : IcOut) : IcOut :=
  let m := { m with pba := (x.1.vector c).pba }
  if m.usable && m.pba then
    ({ x.1 with msix := tput c { m with pba := false } x.1.msix },
      if x.1.rd Reg.IC_STATUS_REQUEST c = 1 then Output.msix c m.address m.data :: x.2 else x.2)
  else ({ x.1 with msix := tput c m x.1.msix }, x.2)

/-- A fall of the request clears the PBA bit (R402). -/
def icFall (c : Nat) (x : IcOut) : IcOut :=
  if c = 16 then x else ({ x.1 with msix := tput c { x.1.vector c with pba := false } x.1.msix }, x.2)

/-- The request of controller `c` follows R402: 1 while EN is 1 and some source is claimable. -/
def icUpdate (c : Nat) (x : IcOut) : IcOut :=
  let now := x.1.rd Reg.IC_CTL_EN c == 1 && (x.1.best c).isSome
  let was := x.1.rd Reg.IC_STATUS_REQUEST c == 1
  let y := (x.1.wr Reg.IC_STATUS_REQUEST now.toNat c, x.2)
  if now && !was then icRise c y else if was && !now then icFall c y else y

/-- c[s] of R401 with its visible bit. -/
def Interrupts.setCount (ic : Interrupts) (c src n : Nat) : Interrupts :=
  { ic with count := sput ic.count (1024 * c + src) n }.putBit Reg.IC_COUNTING_BITS c src (n != 0)

/-- An event on a source at time `now` (R401); R399 never lets 1,022 or 1,023 take one. -/
def icEvent (c src now : Nat) (x : IcOut) : IcOut :=
  let ic := x.1
  if 1022 ≤ src ∨ ic.bit Reg.IC_PENDING_BITS c src then x
  else
    let n := sget ic.count (1024 * c + src)
    let ic := if n = 0 then { ic with since := sput ic.since (1024 * c + src) now } else ic
    let p := ic.rd (profileRow src) c (src / 4)
    if ic.rd Reg.IC_PROF_COUNT c p ≤ n + 1 then
      icUpdate c ((ic.setCount c src 0).putBit Reg.IC_PENDING_BITS c src true, x.2)
    else (ic.setCount c src (min 255 (n + 1)), x.2)

/-- The tick of R401 for a source: its coalescing time has passed. -/
def icTimeout (c src now : Nat) (x : IcOut) : IcOut :=
  let ic := x.1
  let p := ic.rd (profileRow src) c (src / 4)
  if sget ic.count (1024 * c + src) = 0 then x
  else if now - sget ic.since (1024 * c + src) < ic.rd Reg.IC_PROF_TIME_US c p * 1000 then x
  else icUpdate c ((ic.setCount c src 0).putBit Reg.IC_PENDING_BITS c src true, x.2)

/-- The page source 1,022 of controller `c` is pending exactly while some page holds it (R399, R551). -/
def icPages (c slot : Nat) (signals : Bool) (x : IcOut) : IcOut :=
  let ic := x.1.putBit Reg.IC_PAGES_BITS c slot signals
  let lo := Reg.IC_PAGES_BITS.key c 0 0
  let hi := Reg.IC_PAGES_BITS.key c 255 0
  let held := ic.regs.any fun e => lo ≤ e.1 && e.1 ≤ hi && e.2 != 0
  icUpdate c (ic.putBit Reg.IC_PENDING_BITS c 1022 held, x.2)

/-- The in-service bit of a source with the count of IC_STATUS. -/
def Interrupts.setService (ic : Interrupts) (c src : Nat) (b : Bool) : Interrupts :=
  let was := ic.bit Reg.IC_INSERVICE_BITS c src
  let n := ic.rd Reg.IC_STATUS_IN_SERVICE c
  let n' := if b && !was then n + 1 else if was && !b then n - 1 else n
  (ic.putBit Reg.IC_INSERVICE_BITS c src b).wr Reg.IC_STATUS_IN_SERVICE n' c

/-- The claim of R403 that finds source `src`: pending cleared (the page source stays pending while it is held, R401), in
service, the request taken to 0 and decided anew. -/
def icClaim (c src : Nat) (x : IcOut) : IcOut :=
  let ic := if src = 1022 then x.1 else x.1.putBit Reg.IC_PENDING_BITS c src false
  let ic := ic.setService c src true
  icUpdate c (icFall c (ic.wr Reg.IC_STATUS_REQUEST 0 c, x.2))

/-- A source's in-service bit is cleared and the request decided anew (R403). -/
def icComplete (c src : Nat) (x : IcOut) : IcOut := icUpdate c (x.1.setService c src false, x.2)

/-- IC_CLEAR (R404): the pending bit and the count of a source are cleared. -/
def icClear (c src : Nat) (x : IcOut) : IcOut :=
  icUpdate c ((x.1.setCount c src 0).putBit Reg.IC_PENDING_BITS c src false, x.2)

/-- The state with the controllers and outputs that `f` gives. -/
def State.withIc (s : State) (f : IcOut → IcOut) : State :=
  let r := f (s.nt.ic, s.out)
  { s with nt := { s.nt with ic := r.1 }, out := r.2 }

/-- One event on a source of controller `c` (R401). -/
def State.icRaise (s : State) (c src : Nat) : State := s.withIc (icEvent c src s.tb.ns)

/-- One event on a source of the management controller (R456). -/
def State.mgmtRaise (s : State) (src : Nat) : State := s.icRaise 16 src

/-! ## Pages and their events -/

/-- The page that lease index `r` maps (R351). -/
def leasePage (r : Nat) : Nat :=
  if r < 64 then 0x0800 + r else if r < 72 then 0x0260 + (r - 64) else if r < 76 then 0x0200 + (r - 72)
  else 0x0040 + (r - 76)

/-- The lease index of a page, if it belongs to a leasable resource (R351). -/
def leaseOfPage (p : Nat) : Option Nat :=
  if 0x0800 ≤ p ∧ p < 0x0840 then some (p - 0x0800)
  else if 0x0260 ≤ p ∧ p < 0x0268 then some (64 + (p - 0x0260))
  else if 0x0200 ≤ p ∧ p < 0x0204 then some (72 + (p - 0x0200))
  else if 0x0040 ≤ p ∧ p < 0x004C then some (76 + (p - 0x0040))
  else none

/-- The holder of a leased resource (R376). -/
def State.holder (s : State) (r : Nat) : Option Nat :=
  if s.on Reg.LEASE_ACTIVE 0 r then some (s.rd Reg.LEASE_HOLDER 0 r) else none

/-- The first key of tenant `t`'s grant entries' VALID bits (R564). -/
def grantKey (t : Nat) : Nat := Reg.GRANT_VALID.key ((t - 1) / 6) ((t - 1) % 6) 0

/-- The slot of the VALID grant entry of tenant `t` that names page `p` (R553), with RD_ONLY. -/
def State.grantSlot (s : State) (t p : Nat) : Option (Nat × Bool) :=
  s.regs.findSome? fun e =>
    if grantKey t ≤ e.1 ∧ (e.1 - grantKey t) % 128 = 0 ∧ (e.1 - grantKey t) / 128 < 160 ∧ e.2 = 1 then
      let j := (e.1 - grantKey t) / 128
      if s.rd Reg.GRANT_PAGE ((t - 1) / 6) ((t - 1) % 6) j = p then
        some (96 + j, s.on Reg.GRANT_RD_ONLY ((t - 1) / 6) ((t - 1) % 6) j)
      else none
    else none

/-- The BAR0 slot of virtual function `t` in which page `p` is mapped (R552), with RD_ONLY. -/
def State.slotOf (s : State) (t p : Nat) : Option (Nat × Bool) :=
  if p = 0x0400 + 64 * t then some (0, false)
  else if p = 0x0401 + 64 * t then some (1, false)
  else if p = 0x0402 + 64 * t then some (2, false)
  else if p = 0x0900 + t then some (3, false)
  else if p = 0x0840 + t then some (4, false)
  else
    match leaseOfPage p with
    | some r => if s.holder r = some t then some (8 + r, false) else none
    | none => s.grantSlot t p

/-- The page's events that its mask lets through (R551). -/
def State.signals (s : State) (p : Nat) : Bool := sget s.nt.events p &&& s.rd Reg.PAGE_MASK p != 0

/-- Page `p`'s part of every controller's page source (R551): tenant 0 and management see every page by its number,
a virtual function by the slot it is mapped in. -/
def State.pageSource (s : State) (p : Nat) : State :=
  let b := s.signals p
  (List.range 17).foldl (fun s c =>
    if c = 0 ∨ c = 16 then s.withIc (icPages c p b)
    else
      match s.slotOf c p with
      | some sl => s.withIc (icPages c sl.1 b)
      | none => s) s

/-- The state with PAGE_EVENT of page `p` equal to `v`; the page source follows where the signal changes. -/
def State.putEvents (s : State) (p v : Nat) : State :=
  let t := { s with nt := { s.nt with events := sput s.nt.events p v } }
  if t.signals p = s.signals p then t else t.pageSource p

/-- Raise an event bit of page instance `k` (R550, R551). -/
def State.raise (s : State) (e : Event) (k : Nat := 0) : State :=
  s.putEvents (e.page + e.step * k) (setBit (sget s.nt.events (e.page + e.step * k)) e.bit)

/-! ## USB event messages -/

/-- The words of an event message (R489). -/
def usbMessageWords (kind arg2 seq time arg : Nat) : List Nat :=
  [kind + 0x100 + (arg2 % 0x10000) <<< 16, seq, time % 2 ^ 32, arg % 2 ^ 32]

/-- A message appended to the queue of endpoint 4. -/
def UsbEvents.push (u : UsbEvents) (kind arg2 time arg : Nat) : UsbEvents :=
  { u with queue := u.queue ++ [usbMessageWords kind arg2 u.seq time arg], seq := (u.seq + 1) % 2 ^ 32 }

/-- The wake request of R490. -/
def UsbEvents.wake (u : UsbEvents) (kind : Nat) (enabled : Bool) : UsbEvents :=
  if u.suspended && u.rwake && enabled && !u.wakePending && !u.queue.isEmpty then
    { u with wakePending := true, wakeKind := kind, wakeCollided := false }
  else u

/-- Queue one event message, or drop it (R489); a LOST message goes first when one is owed. -/
def State.usbMessage (s : State) (kind arg2 arg : Nat) : State :=
  let mask := s.rd Reg.USB_EVT_MASK_MASK
  if !s.nt.usb.active || !mask.testBit kind then s
  else
    let u := s.nt.usb
    let u := if u.queue.length < 64 ∧ 0 < u.lostPending ∧ mask.testBit 6 then
        { u.push 6 0 s.tb.ns u.lostPending with lostPending := 0 }
      else u
    if u.queue.length < 64 then
      { s with nt := { s.nt with usb := (u.push kind arg2 s.tb.ns arg).wake kind (s.on Reg.USB_CTL_WAKE_EN) } }
    else
      { s with nt := { s.nt with usb := { u with lost := (u.lost + 1) % 2 ^ 32, lostPending := u.lostPending + 1 } } }.raise
        Ev.USB_EVT_LOST

/-! ## The log -/

/-- The entry that an event makes: everything but SEQ. -/
structure LogBody where
  kind : Nat
  tenant : Nat := 16
  page : Nat := 0
  offset : Nat := 0
  be : Nat := 0
  value : Nat := 0
  arg1 : Nat := 0
  arg2 : Nat := 0
  deriving DecidableEq, Repr

/-- An entry enters the intake queue with the next SEQ (R463); a LOG message follows USB_LOG_MASK (R489). -/
def State.logTake (s : State) (b : LogBody) : State :=
  let l := s.nt.log
  let e : LogEntry := ⟨s.tb.ns, l.next, b.kind, b.tenant, b.page, b.offset, b.be, b.value % 2 ^ 32, b.arg1 % 2 ^ 32,
    b.arg2 % 2 ^ 16⟩
  let t := { s with nt := { s.nt with log := { l with next := (l.next + 1) % 2 ^ 32, intake := l.intake ++ [e] } } }
  if (s.rd Reg.USB_LOG_MASK_BITS).testBit b.kind then t.usbMessage 1 b.kind l.next else t

/-- An entry that finds no room is dropped and counted (R463). -/
def State.logDrop (s : State) : State :=
  let l := s.nt.log
  { s with nt := { s.nt with log := { l with lostPending := l.lostPending + 1, lostIntake := satAdd 16 l.lostIntake 1 } } }.raise
    Ev.MGMT_LOG_LOST

/-- An event to be logged (R463): taken, taken behind the LOST entry that is owed, or dropped. -/
def State.log (s : State) (b : LogBody) : State :=
  let room := 256 - s.nt.log.intake.length
  if s.nt.log.lostPending = 0 then if 1 ≤ room then s.logTake b else s.logDrop
  else if 2 ≤ room then
    let t := s.logTake { kind := 0x11, value := s.nt.log.lostPending }
    { t with nt := { t.nt with log := { t.nt.log with lostPending := 0 } } }.logTake b
  else s.logDrop

/-! ## Two-wire alerts -/

/-- TWT_ALERT_N is asserted while a source alerts and the port is enabled (R498, R505). -/
def State.alertPin (s : State) : Bool := s.on Reg.TWT_CTL_EN && s.nt.alerts.alerting != 0

/-- The state with other alerts; the pin follows, and ALERT_ASSERT is raised as it asserts. -/
def State.putAlerts (s : State) (a : Alerts) : State :=
  let t := { s with nt := { s.nt with alerts := a } }
  if t.alertPin && !s.alertPin then (t.emit (.pin "TWT_ALERT_N" 0 false)).raise Ev.TWT_ALERT_ASSERT
  else if s.alertPin && !t.alertPin then t.emit (.pin "TWT_ALERT_N" 0 true) else t

/-- The event of alert source `n` (R498). -/
def State.alert (s : State) (n : Nat) : State :=
  let a := s.nt.alerts
  if a.status.testBit n then s
  else
    s.putAlerts { status := setBit a.status n,
                  alerting := if (s.rd Reg.TWT_ALERT_MASK_MASK).testBit n then setBit a.alerting n else a.alerting }

/-- Clear status bits: a cleared source stops alerting (R498). -/
def State.alertClear (s : State) (m : Nat) : State :=
  s.putAlerts { status := clearMask s.nt.alerts.status m, alerting := clearMask s.nt.alerts.alerting m }

end Sys2Proof.Machine
end

