-- ==== Sys2Proof/Machine/TimePace.lean ====
section
/-!
DEFINITION. The meanings of the chapters "The YV9640 in a press" (R22), "Handshake timing, pace and the time base"
(R33 to R53) and the window-end part of "Capacity, admission and thermal control" (R436 to R440): measurement windows,
headroom, KEEP and the speed advisory, the core-voltage loop, and the time base with its captures and steps.
-/

namespace Sys2Proof.Machine

/-! ## Conditions that many chapters ask for -/

/-- A run is active. -/
def State.running (s : State) : Bool := s.on Reg.TB_STATUS_RUN_ACTIVE

/-- The cascade is not OFF (R541). -/
def State.cascaded (s : State) : Bool := s.on Reg.IK_STATUS_STATE

/-- The device is a cascade leader. -/
def State.leads (s : State) : Bool := s.on Reg.IK_CTL_LEAD

/-- The device is a follower that is not OFF (R539, R541). -/
def State.follows (s : State) : Bool := s.cascaded && !s.leads

/-- Sensor group `g` is enabled in force. -/
def State.groupOn (s : State) (g : Nat) : Bool := s.on Reg.SG_CTL_EN g

/-- The enabled sensor groups. -/
def State.groupsOn (s : State) : List Nat := (List.range 12).filter s.groupOn

/-! ## Register reads of any width (R9) -/

/-- The 32-bit words, by offset of the word, that a read of `width` bytes at byte `sub` of the word at `o` performs:
none where R9 discards it. -/
def readWords (o sub width : Nat) : Option (List Nat) :=
  if (width = 1 ∨ width = 2 ∨ width = 4) ∧ sub % width = 0 ∧ sub < 4 then some [o]
  else if width = 8 ∧ sub = 0 then some [o, o + 4]
  else none

/-- The addressed bytes of a word. -/
def subBytes (v sub width : Nat) : Nat := if width < 4 then bitsOf v (8 * sub) (8 * width) else v

/-- A discarded access: logged, a read answers 0 (R9). -/
def State.discardAccess (s : State) (agent page offset width value : Nat) (isRead : Bool) : State :=
  let t := s.log { kind := 0x02, tenant := agent, page := page, offset := offset, value := value, arg1 := width,
                   arg2 := isRead.toNat }
  if isRead then t.emit (.readData agent page offset 0) else t

/-- A read of `width` bytes at byte `sub` of a register whose word read has the effect and value `f`, at `page`,
`offset`; a 64-bit read goes on with the next word, whose value is `g`. -/
def State.readAccess (s : State) (agent page offset sub width : Nat) (f g : State → State × Nat) : State :=
  match readWords offset sub width with
  | none => s.discardAccess agent page (offset + sub) width 0 true
  | some [_] =>
    let r := f s
    r.1.emit (.readData agent page (offset + sub) (subBytes r.2 sub width))
  | some _ =>
    let r := f s
    let q := g (r.1.emit (.readData agent page offset r.2))
    q.1.emit (.readData agent page (offset + 4) q.2)

/-- A write access of `width` bytes at byte `sub` of word `o`: a 32-bit write acts by `f`, a 64-bit one by `f` and then,
with its upper word, by `g`; any other is discarded (R9). -/
def State.storeAccess (s : State) (agent page o sub width v : Nat) (f g : Nat → State → State) : State :=
  if sub = 0 ∧ width = 4 then f (v % 2 ^ 32) s
  else if sub = 0 ∧ width = 8 then g (v / 2 ^ 32 % 2 ^ 32) (f (v % 2 ^ 32) s)
  else s.discardAccess agent page (o + sub) width v false

/-- A low-half read of a register pair: the pair is captured for the agent and the low half returned (R48). -/
def State.pairLow (s : State) (agent page offset value : Nat) : State × Nat :=
  (s.capture agent page (offset + 4) (value / 2 ^ 32), value % 2 ^ 32)

/-- The high-half read: the agent's capture. -/
def State.pairHigh (agent page offset : Nat) (s : State) : State × Nat := (s, s.captured agent page (offset + 4))

/-- A read of a register pair at `page`, `offset`, in any width. -/
def State.readPair (s : State) (agent page offset sub width value : Nat) : State :=
  s.readAccess agent page offset sub width (fun t => t.pairLow agent page offset value)
    (State.pairHigh agent page offset)

/-! ## R22 -/

/-- DEV_MODE_WRITE: the mode changes unless a run is active; a refused change is logged (R22). -/
def devModeWrite (agent v : Nat) (s : State) : State :=
  let m := v % 2
  if m = s.rd Reg.DEV_MODE_MODE then s
  else if s.running then (s.raise Ev.DEV_MODE_REFUSED).log { kind := 0x03, tenant := agent, offset := 0x024, be := 15, value := v }
  else s.wr Reg.DEV_MODE_MODE m

def execDevModeWrite (agent : Agent) (v : Word) (s : State) : Host.Outcome State Fault Refusal :=
  .next (s.powered fun s => devModeWrite agent v.toNat s)

/-! ## Pace and headroom -/

/-- The demand of monitor `m` in M tokens/s, from the configuration in force (R33); a group under the fallback
pattern counts 40 (R74). -/
def State.demand (s : State) (m : Nat) : Nat :=
  if m < 12 then
    if s.running && s.groupOn m then if s.on Reg.PAWN_STATUS_FALLBACK m then 40 else 8 * s.rd Reg.SG_PIX_KHZ m / 1000
    else 0
  else if m = 12 then
    if s.running then (s.groupsOn.map fun g => 8 * s.rd Reg.SG_PIX_KHZ g).sum / 1000 else 0
  else
    (((List.range 4).filter fun p => s.rd Reg.BR_STATUS_STATE p != 0).map fun p =>
      let x : BrPort := tget {} s.beryl.ports p
      x.geom.getD 0 0 * x.geom.getD 1 0 * ({ s with force := x.settings }).rd Reg.BR_TIMING_FPS p).sum / 1000000

/-- Headroom from effective pace and demand, unsigned 4.12, truncated (R34). -/
def headroom (eff demand : Nat) : Nat := if demand = 0 then 0xFFFF else min 0xFFFF ((eff * 4096) / demand)

/-- The lowest headroom over the monitors below `n` that have demand, with its monitor, the lowest on a tie (R34). -/
def State.lowestHeadroom (s : State) (n : Nat) : Option (Nat × Nat) :=
  (List.range n).foldl (fun b m =>
    if s.rd Reg.PACE_MON_DEMAND_VALUE 0 m = 0 then b
    else
      let h := s.rd Reg.PACE_MON_HEADROOM_VALUE 0 m
      match b with
      | none => some (h, m)
      | some x => if h < x.1 then some (h, m) else b) none

/-- The ceiling of monitor `m` under the throttle fraction `f` (R435). -/
def ceiling (f m : Nat) : Nat :=
  if f = 1000 then 0xFFFF else (if m < 12 then 1500 else if m = 12 then 18000 else 375) * f / 1000

/-- One monitor's fields at a window end (R34, R37, R435).  LOW is judged at window ends only, so that a write of
PACE_CTL.WARN shows in it from the next window end: DESIGN CHOICE, assumption log 71. -/
def paceMonitor (window : Nat) (s : State) (x : Nat × Nat) : State :=
  let m := x.1
  let s := s.wr Reg.PACE_MON_PACE_CEIL (ceiling (s.rd Reg.THROT_FRAC_F) m) 0 m
  let meas := min 0xFFFF (x.2 / window)
  let d := s.demand m
  let h := headroom (min meas (s.rd Reg.PACE_MON_PACE_CEIL 0 m)) d
  let s := s.wr Reg.PACE_MON_PACE_MEAS meas 0 m
  let s := s.wr Reg.PACE_MON_DEMAND_VALUE d 0 m
  let s := s.wr Reg.PACE_MON_HEADROOM_VALUE h 0 m
  let s := s.wrB Reg.PACE_MON_HEADROOM_LOW (decide (h < s.rd Reg.PACE_CTL_WARN)) 0 m
  s.wrB Reg.PACE_MON_HEADROOM_BREACH (decide (h < 0x1000)) 0 m

/-- The keep fraction of R437. -/
def keepOf (hm margin minKeep : Nat) : Nat :=
  if 0x1000 ≤ hm then 0x1000
  else (sat (quot (((hm : Int) - 1536) * 4096) 2560 - margin) minKeep 0x0FFF).toNat

/-- The advisory pixel frequency of R440. -/
def advKhz (khzMax hm margin : Nat) : Nat := min 110000 ((khzMax * hm * (4096 - margin)) >>> 24)

/-- The level of pin SPD_ADV (R440); each assertion raises SPD_ADV. -/
def State.spdAdv (s : State) (b : Bool) : State :=
  let was := s.on Reg.SPD_ADV_KHZ_ASSERTED
  let t := s.wrB Reg.SPD_ADV_KHZ_ASSERTED b
  if b && !was then (t.emit (.pin "SPD_ADV" 0 true)).raise Ev.THIN_SPD_ADV
  else if was && !b then t.emit (.pin "SPD_ADV" 0 false) else t

/-- A computed KEEP waits for the second trigger after this window end (R438); one computed before any trigger has
passed replaces the one that waited for the same line. -/
def Thin.push (t : Thin) (keep : Nat) : Thin := { t with queue := t.queue.filter (fun e => e.2 ≠ 2) ++ [(keep, 2)] }

/-- The end of a measurement window (R34, R38, R437, R440); `tokens` are the counts of monitors 0 to
13. The windows of the core-voltage loop are counted (R41, R42). -/
def paceWindowEnd (tokens : List Nat) (s : State) : State :=
  let s := s.each ((List.range 14).map fun m => (m, tokens.getD m 0)) (paceMonitor s.avs.window)
  let hmin := s.lowestHeadroom 14
  let s := s.wr Reg.HEADROOM_MIN_VALUE ((hmin.map (·.1)).getD 0xFFFF)
  let s := s.wr Reg.HEADROOM_MIN_MON ((hmin.map (·.2)).getD 0xF)
  let low := decide ((hmin.map (·.1)).getD 0x10000 < s.rd Reg.PACE_CTL_WARN)
  let breach := decide ((hmin.map (·.1)).getD 0x10000 < 0x1000)
  let s := s.when low (·.raise Ev.PACE_HEADROOM_LOW)
  let s := s.when breach (·.raise Ev.PACE_HEADROOM_BREACH)
  let hm := ((s.lowestHeadroom 13).map (·.1)).getD 0xFFFF
  let margin := s.rd Reg.THIN_CTL_MARGIN
  let keep := keepOf hm margin (s.rd Reg.THIN_CTL_MIN_KEEP)
  let s := { s with thin := { (if s.cascaded then s.thin else s.thin.push keep) with own := keep } }
  let khz := (s.groupsOn.map fun g => s.rd Reg.SG_PIX_KHZ g).foldl max 0
  let px := (s.groupsOn.map fun g => s.rd Reg.SG_GEOM_PIXELS g).foldl max 0
  let adv := advKhz khz hm margin
  let s := s.wr Reg.SPD_ADV_KHZ_KHZ adv
  let s := s.wr Reg.SPD_ADV_RATE_LINES_S (adv * 1000 / (px + 32))
  let s := s.spdAdv (decide (keep < 0x1000) || (low && s.on Reg.SPD_ADV_CTL_MODE) || s.flt.shutdown || !s.mgmt.running)
  let n := s.avs.windows + 1
  { s with avs := { s.avs with windows := n, due := s.avs.due || decide (s.rd Reg.AVS_CTL_INTERVAL ≤ n),
                               readDue := s.avs.awaiting, window := s.rd Reg.PACE_CTL_WINDOW,
                               tokens := tokens } }

/-! ## The core-voltage loop -/

/-- Some ceiling is in force and exceeded by a measured pace (R41). -/
def State.overCeiling (s : State) : Bool :=
  (List.range 14).any fun m =>
    s.rd Reg.PACE_MON_PACE_CEIL 0 m != 0xFFFF && decide (s.rd Reg.PACE_MON_PACE_CEIL 0 m < s.rd Reg.PACE_MON_PACE_MEAS 0 m)

/-- The voltage that an evaluation of R41 sets, and whether AVS_AT_LIMIT is set. -/
def avsDecide (excess : Bool) (v0 step vmin vmax hmin target hyst : Nat) : Nat × Bool :=
  if excess then (max (v0 - step) 620, false)
  else if hmin + hyst < target ∧ v0 < vmax then (min (v0 + step) vmax, false)
  else if hmin + hyst < target then (v0, true)
  else if target + hyst < hmin then (max (v0 - step) vmin, false)
  else (v0, false)

/-- The loop stops with AVS_FAULT (R42). -/
def State.avsFault (s : State) : State :=
  ({ s with avs := { s.avs with stopped := true, awaiting := false, readDue := false } }).raise Ev.PACE_AVS_FAULT

/-- AVS_EVALUATION: every INTERVAL windows, while the loop runs (R40, R41); skipped while the previous command or its
readback waits for the two-wire controller; a stuck bus is a link error (R502). -/
def avsEvaluation (s : State) : State :=
  let fault := (sget s.nt.events 0x11).testBit 2
  if !s.avs.due || !s.on Reg.AVS_CTL_EN || fault || s.avs.stopped || !s.mgmt.running then s
  else
    let s := { s with avs := { s.avs with windows := 0, due := false } }
    if s.avs.awaiting && s.on Reg.AVS_CTL_LINK && s.twc.loopWaits then s
    else
      let vmin := if s.running then s.rd Reg.AVS_VLIMIT_VMIN_RUN else 620
      let d := avsDecide s.overCeiling (s.rd Reg.AVS_VSET_MV) (s.rd Reg.AVS_CTL_STEP) vmin (s.rd Reg.AVS_VLIMIT_VMAX)
        (s.rd Reg.HEADROOM_MIN_VALUE) (s.rd Reg.AVS_TARGET_TARGET) (s.rd Reg.AVS_TARGET_HYST)
      let s := s.wr Reg.AVS_VSET_MV d.1
      let s := s.when d.2 (·.raise Ev.PACE_AVS_AT_LIMIT)
      let s := { s with avs := { s.avs with awaiting := true, readDue := false } }
      let pm := s.on Reg.AVS_CTL_LINK
      if pm && s.on Reg.TWC_STATUS_BUSY then { s with twc := { s.twc with loopWaits := true } }
      else if pm && s.twc.stuck then s.avsFault
      else s.emit (.regulator pm (s.rd Reg.AVS_CTL_ADDR) 0 d.1)

def execAvsEvaluation (s : State) : Host.Outcome State Fault Refusal := .next (s.powered fun s => avsEvaluation s)

/-- AVS_READBACK: the output read back at the end of the window after a command; a link error, or more than 20 mV from
AVS_VSET, stops the loop (R42). -/
def avsReadback (error : Bool) (mv : Nat) (s : State) : State :=
  if !s.avs.awaiting || !s.avs.readDue then s
  else if error then s.avsFault
  else
    let s := (s.wr Reg.AVS_VREAD_MV mv).wr Reg.AVS_VREAD_VALID 1
    let s := s.emit (.regulator (s.on Reg.AVS_CTL_LINK) (s.rd Reg.AVS_CTL_ADDR) 1 mv)
    let v := s.rd Reg.AVS_VSET_MV
    if v + 20 < mv ∨ mv + 20 < v then s.avsFault
    else { s with avs := { s.avs with awaiting := false, readDue := false } }

def execAvsReadback (error : Bool) (mv : Fin 1024) (s : State) : Host.Outcome State Fault Refusal :=
  .next (s.powered fun s => avsReadback error mv s)

/-- The link to the regulator starts: VOUT_MODE is read once on PMBus (R39); no command goes out before the firmware has
started (R40). -/
def State.linkStart (s : State) : State :=
  s.when (s.on Reg.AVS_CTL_EN && s.on Reg.AVS_CTL_LINK && s.mgmt.running)
    fun t => t.emit (.regulator true (t.rd Reg.AVS_CTL_ADDR) 2 0)

/-- AVS_CTL_WRITE: a write to LINK is ignored where EN read 1 before it; EN from 0 to 1 with AVS_FAULT clear restarts the
loop (R42, R43), reading VOUT_MODE once on PMBus (R39). -/
def avsCtlWrite (v : Nat) (s : State) : State :=
  let en0 := s.on Reg.AVS_CTL_EN
  let en1 := v.testBit 0
  let s := s.wrB Reg.AVS_CTL_EN en1
  let s := if en0 then s else s.wrB Reg.AVS_CTL_LINK (v.testBit 1)
  let s := s.wr Reg.AVS_CTL_INTERVAL (Reg.AVS_CTL_INTERVAL.stored (bitsOf v 8 4))
  let s := s.wr Reg.AVS_CTL_STEP (Reg.AVS_CTL_STEP.stored (bitsOf v 16 5))
  let s := s.wr Reg.AVS_CTL_ADDR (bitsOf v 24 7)
  if !en0 && en1 then
    let fault := (sget s.nt.events 0x11).testBit 2
    let s := { s with avs := { s.avs with stopped := s.avs.stopped && fault, windows := 0, due := false } }
    let s := s.when (!s.avs.stopped) (·.wr Reg.AVS_VREAD_VALID 0)
    s.when (!s.avs.stopped) (·.linkStart)
  else s

def execAvsCtlWrite (v : Word) (s : State) : Host.Outcome State Fault Refusal :=
  .next (s.powered fun s => avsCtlWrite v.toNat s)

/-- AVS_VLIMIT: VMIN_RUN is stored within 620 to VMAX, VMAX within VMIN_RUN to 880 (R43). -/
def avsVlimitWrite (v : Nat) (s : State) : State :=
  let lo := max 620 (min (s.rd Reg.AVS_VLIMIT_VMAX) (bitsOf v 0 10))
  let s := s.wr Reg.AVS_VLIMIT_VMIN_RUN lo
  s.wr Reg.AVS_VLIMIT_VMAX (max lo (min 880 (bitsOf v 16 10)))

/-! ## The time base -/

/-- TIME_LO read: the time base is captured for the agent (R48). -/
def timeLoRead (agent sub width : Nat) (s : State) : State := s.readPair agent 0x10 0x24 sub width s.tb.ns

def execTimeLoRead (agent : Agent) (sub : Fin 4) (width : Nat) (s : State) : Host.Outcome State Fault Refusal :=
  .next (s.powered fun s => timeLoRead agent sub width s)

/-- TB_RATE is saturated to ±200,000 ppb (R51); a follower's writes are ignored (R539). -/
def tbRateWrite (v : Nat) (s : State) : State :=
  if s.follows then s else s.wrS Reg.TB_RATE_PPB (sat (signed 20 v) (-200000) 200000)

/-- The time base takes the value `v`, modulo 2^64 (R47).  The line periods go on: they are timed by edge steps. -/
def State.setTime (s : State) (v : Int) : State :=
  { s with tb := { s.tb with ns := low 64 v },
           groups := s.groups.map fun e => (e.1, { e.2 with startNs := (e.2.startNs + (v - s.tb.ns)).toNat }) }

/-- TB_STEP_HI written: the signed step held in the pair is added to the counter, or refused (R50, R539). -/
def tbStep (agent hi : Nat) (s : State) : State :=
  let s := s.wr Reg.TB_STEP_HI_VALUE hi
  let raw := s.rd Reg.TB_STEP_LO_VALUE + 2 ^ 32 * s.rd Reg.TB_STEP_HI_VALUE
  let step := signed 64 raw
  if s.follows || (decide (step < 0) && s.running) then s.raise Ev.TB_STEP_REFUSED
  else
    let s := (s.setTime ((s.tb.ns : Int) + step)).raise Ev.TB_STEP_DONE
    s.log { kind := 0x04, tenant := agent, value := raw % 2 ^ 32, arg1 := raw / 2 ^ 32 }

def execTbStep (agent : Agent) (hi : Word) (s : State) : Host.Outcome State Fault Refusal :=
  .next (s.powered fun s => tbStep agent hi.toNat s)

end Sys2Proof.Machine
end

