-- ==== Sys2Proof/Machine/Lines.lean ====
section
/-!
DEFINITION. The meanings of the chapter "Driving the line sensors": the settings in force for a line (R557), the Pawn
sequencer with its banks, its validity and its fallback (R54 to R73), the LED strobes (R75), the encoder inputs (R78 to
R80), and the parts of the line trigger (R81 to R86) that stand on their own.
-/

namespace Sys2Proof.Machine

/-! ## Settings by line -/

/-- The SH fields in force for line `y`: those before the oldest commit that takes effect after `y` (R557). -/
def State.forceAt (s : State) (y : Nat) : Store :=
  s.epochs.foldl (fun st e => if y < e.line then e.force else st) s.force

/-- The state with the settings of line `y` in force, for reading them. -/
def State.atLine (s : State) (y : Nat) : State := { s with force := s.forceAt y }

/-- The generation in force for line `y` (R559). -/
def State.genAt (s : State) (y : Nat) : Nat :=
  s.epochs.foldl (fun g e => if y < e.line then e.gen else g) (s.rd Reg.DEV_GEN_GEN)

/-- What is recorded of line `y`. -/
def State.line (s : State) (y : Nat) : LineInfo := tget {} s.lines y

/-- Coverage code `code` for line `y` on lane `lane`, or on the whole width when `lane` is 12 (R227). -/
def State.mark (s : State) (y lane code : Nat) : State :=
  let l := s.line y
  if l.codes.contains (lane, code) then s
  else { s with lines := tput y { l with codes := (lane, code) :: l.codes } s.lines }

/-! ## Sensor groups -/

/-- Sensor group `g`. -/
def State.group (s : State) (g : Nat) : Group := tget {} s.groups g

/-- The state with another sensor group `g`. -/
def State.putGroup (s : State) (g : Nat) (x : Group) : State := { s with groups := tput g x s.groups }

/-- The settings that group `g` runs its line period under. -/
def State.groupCfg (s : State) (g : Nat) : State := s.atLine (s.group g).cfg

/-- Group `g` runs the fallback pattern. -/
def State.fallback (s : State) (g : Nat) : Bool := s.on Reg.PAWN_STATUS_FALLBACK g

/-- RISE and FALL of the fallback pattern's outputs (R73). -/
def fallbackWave (o : Nat) : Nat × Nat :=
  if o = 1 then (0, 32) else if o = 8 then (48, 56) else if o = 9 then (40, 56) else (0, 0)

/-- RISE and FALL of output `o`, as group `g` runs. -/
def State.wave (s : State) (g o : Nat) : Nat × Nat :=
  if s.fallback g then fallbackWave o
  else ((s.groupCfg g).rd Reg.SG_WAVE_RISE g o, (s.groupCfg g).rd Reg.SG_WAVE_FALL g o)

/-- The pixel frequency of group `g`, kHz: SG_PIX or the fallback's 5,000 (R73). -/
def State.pixKhz (s : State) (g : Nat) : Nat := if s.fallback g then 5000 else (s.groupCfg g).rd Reg.SG_PIX_KHZ g

/-- The pixel waveform at edge step `e` (R60). -/
def waveHigh (rise fall e : Nat) : Bool :=
  if rise < fall then decide (rise ≤ e ∧ e < fall) else if fall < rise then decide (rise ≤ e ∨ e < fall) else false

/-- The level of an output in mode `m` at step `n` of the line period (R59). -/
def levelOf (m : Nat) (w : Nat × Nat) (n : Nat) : Bool :=
  match m with
  | 0 => false
  | 1 => true
  | 2 => waveHigh w.1 w.2 (n % 64)
  | _ => !waveHigh w.1 w.2 (n % 64)

/-- The edge step at which a waveform in mode `m` rises, if it does. -/
def riseStep (m : Nat) (w : Nat × Nat) : Option Nat :=
  if w.1 = w.2 then none else if m = 2 then some w.1 else if m = 3 then some w.2 else none

/-- The first step at or after `a` at which a waveform that rises at step `r` of each period rises. -/
def nextRise (r a : Nat) : Nat := a + (r + 64 - a % 64) % 64

/-- The reason, if any, for which a strobe at step `n` makes the program invalid (R70). -/
def strobeReason (pixels : Nat) (x : Group) (n : Nat) : Option Nat :=
  if pixels < x.strobes + 1 then some 2
  else
    match x.lastStrobe with
    | some l => if n < l + 64 then some 7 else none
    | none => none

/-- The level of output `o` in the modes of the group at step `n`. -/
def Group.levelAt (x : Group) (w : Nat → Nat × Nat) (o n : Nat) : Bool := levelOf (x.modes.getD o 0) (w o) n

/-- The levels of all outputs become those of step `n`. -/
def Group.showStep (x : Group) (w : Nat → Nat × Nat) (n : Nat) : Group :=
  { x with step := n + 1, ph := (List.range 8).map fun o => x.levelAt w o n, smp := x.levelAt w 8 n,
           clamp := x.levelAt w 9 n }

/-- Step `n` with modes that may just have changed: a rise of SMP is a group strobe, and CLAMP is watched (R60). -/
def Group.changeStep (x : Group) (w : Nat → Nat × Nat) (n : Nat) : Group :=
  let strobe := x.levelAt w 8 n && !x.smp
  let clampUp := x.levelAt w 9 n && !x.clamp
  let risen := match x.clampRise with
    | some c => decide (n / 64 * 64 ≤ c)
    | none => false
  let y := if strobe then
      { x with strobes := x.strobes + 1, lastStrobe := some n, trains := x.trains ++ [⟨n, 1, risen, risen, x.clampFresh, x.clampFresh⟩] }
    else x
  ({ y with clamped := y.clamped || x.levelAt w 9 n, clampRise := if clampUp then some n else y.clampRise,
            clampFresh := clampUp || (y.clampFresh && !strobe) }).showStep w n

/-- The strobes from step `f` on, `k` of them, while the modes hold from step `a` on. -/
def Group.train (x : Group) (w : Nat → Nat × Nat) (a f k : Nat) : Train :=
  let up := riseStep (x.modes.getD 9 0) (w 9)
  let before := match x.clampRise with
    | some c => decide (f / 64 * 64 ≤ c)
    | none => false
  match up with
  | none => ⟨f, k, before, false, x.clampFresh, false⟩
  | some r =>
    ⟨f, k, before || decide (a ≤ f / 64 * 64 + r ∧ r < f % 64), decide (r < f % 64),
      x.clampFresh || decide (nextRise r a < f), true⟩

/-- CLAMP over the steps `[a, b)` with the modes held, after the last strobe there (`l`), if there is one. -/
def Group.watchClamp (x : Group) (w : Nat → Nat × Nat) (a b : Nat) (l : Option Nat) : Group :=
  let last := match riseStep (x.modes.getD 9 0) (w 9) with
    | none => none
    | some r => if nextRise r a < b then some (nextRise r a + (b - 1 - nextRise r a) / 64 * 64) else none
  let fresh := match last, l with
    | some c, some n => decide (n ≤ c)
    | some _, none => true
    | none, some _ => false
    | none, none => x.clampFresh
  { x with clamped := x.clamped || (decide (a < b) && (x.levelAt w 9 a || last.isSome)),
           clampRise := match last with
             | some c => some c
             | none => x.clampRise,
           clampFresh := fresh }

/-- The outputs over the steps `[x.step, b)` with their modes held: the group, and the reason and the step of the first
strobe that makes the program invalid, at which the evaluation ends (R60, R70). -/
def Group.holdTo (x : Group) (pixels : Nat) (w : Nat → Nat × Nat) (b : Nat) : Group × Option (Nat × Nat) :=
  let a := x.step
  if b ≤ a then (x, none)
  else
    let plain := ((x.watchClamp w a b none).showStep w (b - 1), none)
    match riseStep (x.modes.getD 8 0) (w 8) with
    | none => plain
    | some r =>
      let f := nextRise r a
      if b ≤ f then plain
      else
        let run := fun (k b : Nat) (bad : Option (Nat × Nat)) =>
          let l := f + 64 * (k - 1)
          let y := x.watchClamp w a b (some l)
          (({ y with strobes := x.strobes + k, lastStrobe := some l, trains := x.trains ++ [x.train w a f k] }).showStep w
            (b - 1), bad)
        match strobeReason pixels x f with
        | some c => run 1 (f + 1) (some (c, f))
        | none =>
          let k := (b - 1 - f) / 64 + 1
          if pixels < x.strobes + k then
            let m := pixels + 1 - x.strobes
            run m (f + 64 * (m - 1) + 1) (some (2, f + 64 * (m - 1)))
          else run k b none

/-- Outputs 0 to 9 go LOW. -/
def Group.outputsLow (x : Group) : Group :=
  { x with modes := [0, 0, 0, 0, 0, 0, 0, 0, 0, 0], ph := [false, false, false, false, false, false, false, false],
           smp := false, clamp := false }

/-- The steps and what CLAMP did before it (risen, fresh) of the `n`-th strobe of the trains. -/
def trainStrobe : List Train → Nat → Option (Nat × Bool × Bool)
  | [], _ => none
  | t :: l, n =>
    if n < t.count then some (t.first + 64 * n, if n = 0 then t.risen else t.risenRest, if n = 0 then t.fresh else t.freshRest)
    else trainStrobe l (n - t.count)

/-- The outputs whose mode or grid changed at step `n` tell what drives their pins: those of `os`. -/
def State.tellPhases (s : State) (g n : Nat) (os : List Nat) : State :=
  s.each os fun s o => s.emit (.phase g o n ((s.group g).modes.getD o 0) (s.wave g o).1 (s.wave g o).2)

/-- The outputs of group `g` go LOW at its step: pins that were not in LOW mode tell so. -/
def State.phasesLow (s : State) (g : Nat) : State :=
  let os := (List.range 8).filter fun o => (s.group g).modes.getD o 0 != 0
  (s.putGroup g (s.group g).outputsLow).tellPhases g ((s.group g).step - 1) os

/-- The lane buffer of channel `c`. -/
def State.buffer (s : State) (c : Nat) : Buffer := tget {} s.buffers c

/-- The state with another lane buffer. -/
def State.putBuffer (s : State) (c : Nat) (x : Buffer) : State := { s with buffers := tput c x s.buffers }

/-- The key of a read-out. -/
def readoutKey (y c : Nat) : Nat := 128 * y + c

/-- The read-out of channel `c` that carries line `y`. -/
def State.readout (s : State) (y c : Nat) : Readout := tget {} s.readouts (readoutKey y c)

/-- The state with another read-out. -/
def State.putReadout (s : State) (y c : Nat) (r : Readout) : State :=
  { s with readouts := tput (readoutKey y c) r s.readouts }

/-- The read-outs of lane `k` that carry line `y` are discarded. -/
def State.discardReadouts (s : State) (y k : Nat) : State :=
  s.each (List.range 8) fun s i => s.putReadout y (8 * k + i) { s.readout y (8 * k + i) with discarded := true }

/-- The words of group `g`'s read-out in progress are all in its lane: a read-out whose PIXELS-th word had reached
the lane is complete (R71).  A disabled channel has no words. -/
def State.readComplete (s : State) (g : Nat) : Bool :=
  (List.range 8).all fun i => (s.buffer (8 * g + i)).complete || !(s.groupCfg g).on Reg.CHAN_CTL_EN (8 * g + i)

/-- The program of group `g` becomes invalid for reason `c` at step `n` (R70, R71): Pawn stops, the outputs go LOW, the
reason is reported, the read-out is discarded with the words that its lane has unless it is complete, and the line it
carries takes code 6. -/
def State.invalidate (s : State) (g c n : Nat) : State :=
  let s := s.wr Reg.PAWN_STATUS_REASON c g
  let keep := s.readComplete g
  let s := s.phasesLow g
  let x := s.group g
  let s := s.putGroup g { x with runs := false, invalid := true, badStep := some n, discarded := x.discarded || !keep }
  match x.reads with
  | some r => if keep then s else (s.discardReadouts r.1 g).mark r.1 g 6
  | none => s

/-- Evaluate the outputs of group `g` up to step `b`, not included (R60): strobes are counted and checked, and CLAMP is
watched. -/
def State.advance (s : State) (g b : Nat) : State :=
  let x := s.group g
  if b ≤ x.step then s
  else
    let r := x.holdTo ((s.groupCfg g).rd Reg.SG_GEOM_PIXELS g) (s.wave g) b
    let s := s.putGroup g r.1
    match r.2 with
    | some c => if x.invalid then s else s.invalidate g c.1 c.2
    | none => s

/-- The `n`-th strobe of the line period comes now, if SMP waves up to it in the modes of group `g` before Pawn issues
again. -/
def State.reachStrobe (s : State) (g n : Nat) : State :=
  let x := s.group g
  if n < x.strobes then s
  else
    match riseStep (x.modes.getD 8 0) (s.wave g 8) with
    | none => s
    | some r =>
      let at' := nextRise r x.step + 64 * (n - x.strobes)
      if x.runs && decide (64 * x.period ≤ at') then s else s.advance g (at' + 1)

/-! ## Program memory -/

/-- The key of a word of program memory. -/
def pawnKey (g bank addr : Nat) : Nat := (g * 2 + bank) * 1024 + addr

/-- A word of program memory. -/
def State.pawnWord (s : State) (g bank addr : Nat) : Nat := sget s.pawn (pawnKey g bank addr)

/-- A word of program memory, written. -/
def State.putPawnWord (s : State) (g bank addr v : Nat) : State :=
  { s with pawn := sput s.pawn (pawnKey g bank addr) v }

/-- The encoding of an OUT (R62): modes and mask of the outputs named, EDGE 0. -/
def outWord (modes mask wait : Nat) : Nat := 1 <<< 60 + modes <<< 40 + mask <<< 30 + wait

/-- The fallback program (R73). -/
def fallbackWord (pixels a : Nat) : Nat :=
  match a with
  | 0 => outWord (2 <<< 2 + 1 <<< 4) (1 <<< 1 + 1 <<< 2) 7
  | 1 => outWord 0 (1 <<< 2) 3
  | 2 => outWord 1 1 0
  | 3 => outWord (2 <<< 18) (1 + 1 <<< 9) 1
  | 4 => outWord (2 <<< 16) (1 <<< 9 + 1 <<< 8) (pixels - 1)
  | 5 => outWord 0 (1 <<< 8) 0
  | _ => 7 <<< 60

/-- The instruction that group `g` fetches at `a`. -/
def State.pawnFetch (s : State) (g a : Nat) : Nat :=
  if s.fallback g then fallbackWord ((s.groupCfg g).rd Reg.SG_GEOM_PIXELS g) a
  else s.pawnWord g (s.rd Reg.PAWN_STATUS_BANK g) a

/-- The bits that an instruction of each opcode names (R62). -/
def pawnNamed (op : Nat) : Nat :=
  match op with
  | 0 => 0
  | 1 => 0x0FFFFFFFFF00FFFF
  | 2 => 0x3FFFF
  | 3 => 0x303FF
  | 4 => 0x3FF
  | 5 => 0x0F7F03FF
  | 6 => 0x0000FFFFFFFF07FF
  | _ => 0

/-- An instruction has an undefined opcode or a reserved bit set (R70, reason 1). -/
def pawnUndefined (w : Nat) : Bool :=
  decide (8 ≤ bitsOf w 60 4) || (w % 2 ^ 60) - ((w % 2 ^ 60) &&& pawnNamed (bitsOf w 60 4)) != 0

/-- Go on at `a` of group `g`: the instruction there is fetched (a taken branch, R65). -/
def State.pawnJump (s : State) (g a : Nat) : State :=
  s.putGroup g { s.group g with pc := a, ir := s.pawnFetch g a }

/-- The instruction of group `g` issues, if its opcode is `op`: the levels up to its period are evaluated, the next
address is fetched, the counts of R64 and the validity of R70 are checked, and then `f` has the instruction's effect on
the group at its next address.  PAWN_STATUS.PC shows a ninth control instruction too: DESIGN CHOICE, assumption log 74. -/
def State.pawnIssue (s : State) (g op : Nat) (f : State → Nat → State) : State :=
  let x := s.group g
  let bad := pawnUndefined x.ir
  if !x.live || !x.runs || !(bad || bitsOf x.ir 60 4 == op) then s
  else
    let s := s.advance g (64 * x.period)
    if !(s.group g).runs then s
    else
      let s := s.wr Reg.PAWN_STATUS_PC x.pc g
      if bad then s.invalidate g 1 (64 * x.period)
      else
        let timed := op == 1
        if !timed && x.controls == 8 then s.invalidate g 4 (64 * x.period)
        else
          let a := (x.pc + 1) % 1024
          let next := s.pawnFetch g a
          let s := s.putGroup g { s.group g with pc := a, ir := next, controls := if timed then 0 else x.controls + 1 }
          f s x.ir

/-- Write the modes that an OUT selects. -/
def outModes (modes : List Nat) (w : Nat) : List Nat :=
  (List.range 10).map fun o => if w.testBit (30 + o) then bitsOf w (40 + 2 * o) 2 else modes.getD o 0

/-- OUT's effect: at its edge step the selected outputs take their modes, and a rise of SMP there is a strobe. -/
def pawnOut (g : Nat) (s : State) (w : Nat) : State :=
  let p := (s.group g).period
  let at' := 64 * p + bitsOf w 24 6
  let s := s.advance g at'
  let x := s.group g
  if !x.runs then s
  else
    let modes := outModes x.modes w
    let os := (List.range 8).filter fun o => modes.getD o 0 != x.modes.getD o 0
    let y := ({ x with modes := modes, period := p + 1 + w % 65536 }).changeStep (s.wave g) at'
    let s := (s.putGroup g y).tellPhases g at' os
    if y.strobes = x.strobes then s
    else
      match strobeReason ((s.groupCfg g).rd Reg.SG_GEOM_PIXELS g) x at' with
      | some c => s.invalidate g c at'
      | none => s

/-- OUT (R63). -/
def execPawnOut (g : Fin 12) (s : State) : Host.Outcome State Fault Refusal :=
  .next (s.powered fun s => s.pawnIssue g 1 (pawnOut g))

/-- NOP (R63). -/
def execPawnNop (g : Fin 12) (s : State) : Host.Outcome State Fault Refusal :=
  .next (s.powered fun s => s.pawnIssue g 0 fun t _ => t)

/-- The counter an instruction names, and a value put there. -/
def Group.counter (x : Group) (n : Nat) : Nat := x.counters.getD n 0

/-- LDC's effect. -/
def pawnLdc (g : Nat) (s : State) (w : Nat) : State :=
  let x := s.group g
  s.putGroup g { x with counters := x.counters.set (bitsOf w 16 2) (w % 65536) }

/-- LDC (R63). -/
def execPawnLdc (g : Fin 12) (s : State) : Host.Outcome State Fault Refusal :=
  .next (s.powered fun s => s.pawnIssue g 2 (pawnLdc g))

/-- DJNZ's effect: a counter already 0 stays 0, and the branch is not taken. -/
def pawnDjnz (g : Nat) (s : State) (w : Nat) : State :=
  let x := s.group g
  let c := bitsOf w 16 2
  let v := x.counter c - 1
  let s := s.putGroup g { x with counters := x.counters.set c v }
  if v = 0 then s else s.pawnJump g (w % 1024)

/-- DJNZ (R63). -/
def execPawnDjnz (g : Fin 12) (s : State) : Host.Outcome State Fault Refusal :=
  .next (s.powered fun s => s.pawnIssue g 3 (pawnDjnz g))

/-- JMP (R63). -/
def execPawnJmp (g : Fin 12) (s : State) : Host.Outcome State Fault Refusal :=
  .next (s.powered fun s => s.pawnIssue g 4 fun t w => t.pawnJump g (w % 1024))

/-- The condition of a JC (R63). -/
def pawnCondition (x : Group) (w : Nat) : Bool :=
  let arg := bitsOf w 16 7
  match bitsOf w 24 4 with
  | 0 => x.priming
  | 1 => x.flush
  | 2 => decide (arg < 48) && x.number.testBit arg
  | 3 => x.counter (arg % 4) == 0
  | _ => false

/-- JC's effect. -/
def pawnJc (g : Nat) (s : State) (w : Nat) : State :=
  if pawnCondition (s.group g) w then s.pawnJump g (w % 1024) else s

/-- JC (R63). -/
def execPawnJc (g : Fin 12) (s : State) : Host.Outcome State Fault Refusal :=
  .next (s.powered fun s => s.pawnIssue g 5 (pawnJc g))

/-- STW's effect: half a word of the active bank (R63); the copy already fetched stays (R65). -/
def pawnStw (g : Nat) (s : State) (w : Nat) : State :=
  let bank := s.rd Reg.PAWN_STATUS_BANK g
  let a := w % 1024
  let old := s.pawnWord g bank a
  let v := bitsOf w 16 32
  s.putPawnWord g bank a (if w.testBit 10 then old % 2 ^ 32 + v <<< 32 else old / 2 ^ 32 * 2 ^ 32 + v)

/-- STW (R63, R65). -/
def execPawnStw (g : Fin 12) (s : State) : Host.Outcome State Fault Refusal :=
  .next (s.powered fun s => s.pawnIssue g 6 (pawnStw g))

/-- END's effect: strobes up to its edge step count towards "fewer" (R70); the outputs are held. -/
def pawnEnd (g : Nat) (s : State) (_w : Nat) : State :=
  let s := s.advance g (64 * (s.group g).period + 1)
  let x := s.group g
  if !x.runs then s
  else if x.strobes < (s.groupCfg g).rd Reg.SG_GEOM_PIXELS g then s.invalidate g 2 (64 * x.period)
  else s.putGroup g { x with runs := false }

/-- END (R63, R70). -/
def execPawnEnd (g : Fin 12) (s : State) : Host.Outcome State Fault Refusal :=
  .next (s.powered fun s => s.pawnIssue g 7 (pawnEnd g))

/-- PAWN_LINE_TIMEOUT: the minimum line period of R19 has ended without END (R70, reason 3). -/
def pawnLineTimeout (g : Nat) (s : State) : State :=
  let x := s.group g
  if !x.live || !x.runs then s
  else
    let s := s.advance g (64 * ((s.groupCfg g).rd Reg.SG_GEOM_PIXELS g + 32) + 1)
    if (s.group g).runs then s.invalidate g 3 (64 * ((s.groupCfg g).rd Reg.SG_GEOM_PIXELS g + 32)) else s

def execPawnLineTimeout (g : Fin 12) (s : State) : Host.Outcome State Fault Refusal :=
  .next (s.powered fun s => pawnLineTimeout g s)

/-! ## Host access to program memory (R66 to R68) -/

/-- PAWN_DATA_HI written: the word goes to the shadow bank, or is discarded while a committed swap waits. -/
def pawnDataHiWrite (g v : Nat) (s : State) : State :=
  if s.on Reg.PAWN_STATUS_SWAP_PENDING g then s.raise Ev.SG_WRITE_REFUSED g
  else
    let a := s.rd Reg.PAWN_ADDR_ADDR g
    let s := s.wr Reg.PAWN_DATA_HI_VALUE v g
    let s := s.putPawnWord g (1 - s.rd Reg.PAWN_STATUS_BANK g) a (s.rd Reg.PAWN_DATA_LO_VALUE g + v <<< 32)
    s.wr Reg.PAWN_ADDR_ADDR (a + 1) g

def execPawnDataHiWrite (g : Fin 12) (v : Word) (s : State) : Host.Outcome State Fault Refusal :=
  .next (s.powered fun s => pawnDataHiWrite g v.toNat s)

/-- PAWN_DATA_LO read: the word at ADDR is captured and its low half returned. -/
def pawnDataLo (g : Nat) (s : State) : State × Nat :=
  let bank := s.rd Reg.PAWN_STATUS_BANK g
  let w := s.pawnWord g (if s.on Reg.PAWN_ADDR_ACTIVE g then bank else 1 - bank) (s.rd Reg.PAWN_ADDR_ADDR g)
  (s.putGroup g { s.group g with capture := w / 2 ^ 32 }, w % 2 ^ 32)

/-- PAWN_DATA_HI read: the captured high half, and ADDR advances. -/
def pawnDataHi (g : Nat) (s : State) : State × Nat :=
  (s.wr Reg.PAWN_ADDR_ADDR (s.rd Reg.PAWN_ADDR_ADDR g + 1) g, (s.group g).capture)

/-- PAWN_DATA_LO_READ, in any width; a 64-bit read goes on with PAWN_DATA_HI. -/
def pawnDataLoRead (agent g sub width : Nat) (s : State) : State :=
  s.readAccess agent (0x40 + g) 0x70 sub width (pawnDataLo g) (pawnDataHi g)

def execPawnDataLoRead (agent : Agent) (g : Fin 12) (sub : Fin 4) (width : Nat) (s : State) :
    Host.Outcome State Fault Refusal := .next (s.powered fun s => pawnDataLoRead agent g sub width s)

/-- PAWN_DATA_HI_READ, in a width of up to 32 bits. -/
def pawnDataHiRead (agent g sub width : Nat) (s : State) : State :=
  if width = 8 then s.discardAccess agent (0x40 + g) (0x74 + sub) width 0 true
  else s.readAccess agent (0x40 + g) 0x74 sub width (pawnDataHi g) (fun t => (t, 0))

def execPawnDataHiRead (agent : Agent) (g : Fin 12) (sub : Fin 4) (width : Nat) (s : State) :
    Host.Outcome State Fault Refusal := .next (s.powered fun s => pawnDataHiRead agent g sub width s)

/-! ## LED strobes (R75) -/

/-- The steps at which strobe `n` of group `g` starts and would end, and the end of the minimum line period. -/
def State.ledSteps (s : State) (g n : Nat) : Nat × Nat × Nat :=
  let c := s.groupCfg g
  let a := 64 * c.rd Reg.SG_LED_START_PX g n + c.rd Reg.SG_LED_START_EDGE g n
  (a, a + 64 * c.rd Reg.SG_LED_WIDTH_PX g n + c.rd Reg.SG_LED_WIDTH_EDGE g n,
    64 * (c.rd Reg.SG_GEOM_PIXELS g + 32))

/-- The strobes of a triggered line start: those with a WIDTH wait for their start. -/
def State.armLeds (s : State) (g : Nat) : List Nat :=
  [0, 1].map fun n => if (s.ledSteps g n).1 = (s.ledSteps g n).2.1 then 0 else 1

/-- The pin of strobe `n` shows whether it is asserted, active low under POL; a disabled group's is low (R75, R76). -/
def State.showLed (s : State) (g n : Nat) : State :=
  let c := if s.running && (s.group g).live then s.groupCfg g else s
  let level := c.on Reg.SG_CTL_EN g && ((s.group g).leds.getD n 0 == 2) != c.on Reg.SG_LED_START_POL g n
  if (s.group g).ledLevels.getD n false = level then s
  else (s.putGroup g { s.group g with ledLevels := (s.group g).ledLevels.set n level }).emit (.pin "LED" (2 * g + n) level)

/-- Both pins of group `g`, as settings that take effect bring them to rest. -/
def State.showLeds (s : State) (g : Nat) : State := (s.showLed g 0).showLed g 1

/-- Strobe `n` of group `g` takes phase `v`. -/
def State.putLed (s : State) (g n v : Nat) : State :=
  (s.putGroup g { s.group g with leds := (s.group g).leds.set n v }).showLed g n

/-- LED_STROBE: the strobe starts at its programmed time, or ends; one that passes the end of the minimum line period
ends there, clipped. -/
def ledStrobe (g n : Nat) (s : State) : State :=
  let t := s.ledSteps g n
  match (s.group g).leds.getD n 0 with
  | 1 => if t.2.2 ≤ t.1 then (s.putLed g n 0).raise Ev.SG_STROBE_CLIPPED g else s.putLed g n 2
  | 2 =>
    let s := s.putLed g n 0
    if t.2.2 < t.2.1 then s.raise Ev.SG_STROBE_CLIPPED g else s
  | _ => s

def execLedStrobe (g : Fin 12) (n : Fin 2) (s : State) : Host.Outcome State Fault Refusal :=
  .next (s.powered fun s => ledStrobe g n s)

/-- At the end of the minimum line period a strobe that passes it ends (R75). -/
def State.clipLeds (s : State) (g : Nat) : State :=
  s.each [0, 1] fun s n =>
    let t := s.ledSteps g n
    if (s.group g).leds.getD n 0 != 0 && decide (t.2.2 < t.2.1) then ledStrobe g n s else s

/-- Strobes of a line period that is cut off end at once. -/
def State.cutLeds (s : State) (g : Nat) : State :=
  s.each [0, 1] fun s n => s.putLed g n 0

/-! ## Line periods of a group (R56 to R58, R68 to R71) -/

/-- FALLBACK of group `g` becomes `b` at line number `y`; PAWN_FB_LINE records a change (R76). -/
def State.setFallback (s : State) (g : Nat) (b : Bool) (y : Nat) : State :=
  if s.fallback g = b then s
  else (s.wrB Reg.PAWN_STATUS_FALLBACK b g).wr Reg.PAWN_FB_LINE_LINE (if s.running then y else 0) g

/-- The bank swap of group `g` at line number `y` (R63, R68, R69): REASON goes to 0 unless the line period just before
made the program invalid. -/
def State.swapBanks (s : State) (g y : Nat) : State :=
  let x := s.group g
  let s := s.wr Reg.PAWN_STATUS_BANK (1 - s.rd Reg.PAWN_STATUS_BANK g) g
  let s := s.putGroup g { x with counters := [0, 0, 0, 0], swapAt := none, invalid := false }
  let s := s.wr Reg.PAWN_STATUS_SWAP_PENDING 0 g
  let s := (s.wr Reg.PAWN_CTL_SWAP 0 g).shadowWr Reg.PAWN_CTL_SWAP 0 g
  let s := s.raise Ev.SG_SWAP_DONE g
  if s.on Reg.SG_CTL_FORCE_FALLBACK g then s.setFallback g true y
  else (s.when (!x.invalid) (·.wr Reg.PAWN_STATUS_REASON 0 g)).setFallback g false y

/-- The edge steps of group `g`'s line period that have begun by now. -/
def State.stepsBegun (s : State) (g : Nat) : Nat :=
  let n := (s.tb.ns - (s.group g).startNs) * 64 * s.pixKhz g
  (n + 999999) / 1000000

/-- The levels of live group `g` up to now, or up to the next issue of Pawn: an invalidity inside a WAIT or after END is
found at its strobe (R70). -/
def State.keepUp (s : State) (g : Nat) : State :=
  let x := s.group g
  if !x.live then s
  else if x.runs then s.advance g (min (s.stepsBegun g) (64 * x.period)) else s.advance g (s.stepsBegun g)

/-- The line period in progress ends: held modes are evaluated up to now (R61, R70), and an invalidity of the line
period is told (R71). -/
def State.endPeriod (s : State) (g : Nat) : State :=
  let s := if (s.group g).live then s.advance g (s.stepsBegun g) else s
  let s := s.cutLeds g
  s.when (s.group g).invalid (·.raise Ev.SG_INVALID g)

/-- The group is disabled (R76): outputs LOW, the exposure that is not read out is lost with code 1. -/
def State.disableGroup (s : State) (g : Nat) : State :=
  let s := s.endPeriod g
  let x := s.group g
  let s := match x.unread with
    | some u => s.mark u.1 g 1
    | none => s
  let s := s.phasesLow g
  (s.putGroup g { s.group g with live := false, runs := false, inMin := false, unread := none, reads := none,
                                 flushDue := false, invalid := false, plaus := false }).showLeds g

/-- Pawn restarts at a line start: step 0 is compared with the level just before (R60, R61), and the waves of the
outputs begin anew. -/
def State.pawnRestart (s : State) (g : Nat) : State :=
  let x := s.group g
  let entry := if s.fallback g then 0 else (s.groupCfg g).rd Reg.PAWN_CTL_ENTRY g
  let y := { x with runs := true, pc := entry, ir := s.pawnFetch g entry, controls := 0, period := 0, strobes := 0,
                    lastStrobe := none, trains := [], clamped := false, clampRise := none, badStep := none,
                    invalid := false }
  (s.putGroup g (y.changeStep (s.wave g) 0)).tellPhases g 0 ((List.range 8).filter fun o => decide (2 ≤ x.modes.getD o 0))

/-- A line period of group `g` starts: line `line` with its trigger time, or a flush line when there is none. Swap,
fallback and forced fallback take effect first (R68 to R71); `number` is what JC and PAWN_FB_LINE use. -/
def State.startPeriod (s : State) (g : Nat) (line : Option (Nat × Nat)) : State :=
  let s := s.endPeriod g
  let x := s.group g
  let num := match line with
    | some l => l.1
    | none => (x.unread.map (·.1)).getD x.number
  let s := s.putGroup g { x with cfg := match line with
                                  | some l => l.1
                                  | none => if s.running then x.cfg else s.lt.line }
  let due := match x.swapAt with
    | some n => decide (n ≤ num)
    | none => false
  let fb := s.fallback g
  let s := if due then s.swapBanks g num else if x.invalid then s.setFallback g true num else s
  let force := (s.groupCfg g).on Reg.SG_CTL_FORCE_FALLBACK g
  let s := if force && !x.forced then
      ((s.wr Reg.PAWN_STATUS_REASON 5 g).raise Ev.SG_INVALID g).setFallback g true num
    else s
  let s := s.putGroup g { s.group g with
    live := true, startNs := s.tb.ns, number := num, priming := line.isSome && x.unread.isNone, flush := line.isNone,
    inMin := true, reads := x.unread, unread := line, discarded := false, forced := force, triggered := false,
    flushDue := line.isSome && (!s.running || due || s.fallback g != fb), plaus := false, ran := s.running }
  let s := (s.pawnRestart g).showLeds g
  match line with
  | some _ => s.putGroup g { s.group g with leds := s.armLeds g }
  | none => (s.inc Reg.SG_FLUSHES_COUNT g).raise Ev.SG_FLUSH g

/-! ## Encoders (R78 to R80) -/

/-- Encoder `n`. -/
def State.encoder (s : State) (n : Nat) : Encoder := tget {} s.encoders n

/-- The state with another encoder `n`. -/
def State.putEncoder (s : State) (n : Nat) (x : Encoder) : State := { s with encoders := tput n x s.encoders }

/-- The place of a pair of levels in the order in which A leads B. -/
def quadrant (a b : Bool) : Nat := if a then if b then 2 else 1 else if b then 3 else 0

/-- The error of a source is told to the line trigger that uses it (R87). -/
def State.sourceLost (s : State) (src : Nat) : State :=
  s.when ((if s.running then s.lt.src else s.rd Reg.LT_CTL_SRC) == src) (·.raise Ev.LT_SRC_LOST)

/-- What an accepted sample of encoder `n` with levels `a`, `b` decodes to: no count, a count, or none on a quadrature
error (R78). -/
def decodeSample (mode invert : Bool) (x : Encoder) (a b : Bool) : Option Int :=
  let d : Option Int :=
    if mode then if a && !x.a then some (if x.b then -1 else 1) else some 0
    else
      match (quadrant a b + 4 - quadrant x.a x.b) % 4 with
      | 0 => some 0
      | 1 => some 1
      | 3 => some (-1)
      | _ => none
  if invert then d.map (fun v => -v) else d

/-- The level of an input of encoder `n` that the filter has accepted: a new level that has stood for FILT ns, else the
level before (R78). -/
def State.filtered (s : State) (n : Nat) (was now : Bool) (stood : Nat) : Bool :=
  if s.rd Reg.ENC_CTL_FILT n ≤ stood then now else was

/-- The accepted sample of encoder `n` (R78, R79): levels, errors, COUNT and the last 100 µs; the count it decodes to
and the record of the count before. -/
def State.encoderSample (s : State) (n : Nat) (a b : Bool) : State × Int :=
  let x := s.encoder n
  let now := s.tb.ns
  if !s.on Reg.ENC_CTL_EN n || (a == x.a && b == x.b) then (s.putEncoder n { x with a := a, b := b }, 0)
  else
    let close := match x.lastEdge with
      | some l => decide (now < l + 40)
      | none => false
    let s := s.when close (·.raise Ev.ENC_OVERRATE n)
    let y := { x with a := a, b := b, lastEdge := some now }
    match decodeSample (s.on Reg.ENC_CTL_MODE n) (s.on Reg.ENC_CTL_INVERT n) x a b with
    | none => ((((s.putEncoder n y).inc Reg.ENC_ERR_VALUE n).raise Ev.ENC_QUAD_ERR n).sourceLost n, 0)
    | some d =>
      if d = 0 then (s.putEncoder n y, 0)
      else
        let recent := (now, d) :: y.recent.filter fun e => decide (now < e.1 + 100000)
        let s := s.wrS Reg.ENC_COUNT_VALUE (s.rdS Reg.ENC_COUNT_VALUE n + d) n
        (s.putEncoder n { y with recent := recent }, d)

/-- ENC_VEL: the signed counts of the last 100 µs of the time base. -/
def State.encoderVelocity (s : State) (n : Nat) : Nat :=
  low 32 (((s.encoder n).recent.filter fun e => decide (s.tb.ns < e.1 + 100000)).map (·.2)).sum

/-- ENCODER_INDEX: a rising edge of Z, high for `stood` ns, latches COUNT while Z_EN is 1 (R78, R80).  EN must be 1 too,
as for every decoded input: DESIGN CHOICE, assumption log 73. -/
def encoderIndex (n stood : Nat) (s : State) : State :=
  if s.on Reg.ENC_CTL_EN n && s.on Reg.ENC_CTL_Z_EN n && s.filtered n false true stood then
    (s.wr Reg.ENC_INDEX_VALUE (s.rd Reg.ENC_COUNT_VALUE n) n).raise Ev.ENC_INDEX n
  else s

def execEncoderIndex (z : IndexPulse) (s : State) : Host.Outcome State Fault Refusal :=
  .next (s.powered fun s => encoderIndex z.encoder z.stood s)

/-! ## The line trigger's arithmetic and registers (R82, R85, R86) -/

/-- The state with another line trigger. -/
def State.putLt (s : State) (x : Trigger) : State := { s with lt := x }

/-- The divider committed for the line about to be assigned; one below 1.0 takes effect as 1.0 and tells so. -/
def State.takeDiv (s : State) : State :=
  let raw := s.rdPair Reg.LT_DIV_FRAC_VALUE Reg.LT_DIV_INT_VALUE
  let s := s.when (s.lt.raw != some raw && decide (raw < 2 ^ 32)) (·.raise Ev.LT_DIV_CLAMPED)
  s.putLt { s.lt with div := max raw (2 ^ 32), raw := some raw }

/-- A count `d` moves the position; one that falls behind the last boundary crossed sets REVERSE. -/
def State.movePos (s : State) (d : Int) : State :=
  let p := s.lt.pos + d * 2 ^ 32
  let s := s.putLt { s.lt with pos := p, predict := none }
  s.when (decide (d < 0 ∧ p < s.lt.next - s.lt.div)) (·.raise Ev.LT_REVERSE)

/-- The time of the predicted crossing after a count at `t` whose record was `dir`, `last` (R82). -/
def prediction (interp : Bool) (d dir : Int) (t last : Nat) (next pos : Int) : Option Nat :=
  if interp && decide (0 < d ∧ 0 < dir ∧ t ≤ last + 100000 ∧ next - pos < 2 ^ 32) then
    some (t + (rnd ((next - pos) * ((t : Int) - last)) 32).toNat)
  else none

/-- LT_LINE_LO read: the pair is captured. -/
def ltLineLoRead (agent sub width : Nat) (s : State) : State :=
  s.readPair agent 0x54 0x34 sub width (s.rdPair Reg.LT_LINE_LO_VALUE Reg.LT_LINE_HI_VALUE)

def execLtLineLoRead (agent : Agent) (sub : Fin 4) (width : Nat) (s : State) : Host.Outcome State Fault Refusal :=
  .next (s.powered fun s => ltLineLoRead agent sub width s)

/-- The position now: an axis source is interpolated linearly over its servo period at 1 ns (R81). -/
def State.ltPos (s : State) : Int :=
  match s.lt.seg with
  | none => s.lt.pos
  | some (t0, span, from', delta) => from' + quot (delta * min (s.tb.ns - t0) span) span

/-- The position as LT_POS_FRAC and LT_POS_INT show it. -/
def State.ltPosition (s : State) : Nat := low 64 s.ltPos

/-- LT_POS_FRAC read: the pair is captured. -/
def ltPosFracRead (agent sub width : Nat) (s : State) : State := s.readPair agent 0x54 0x3C sub width s.ltPosition

def execLtPosFracRead (agent : Agent) (sub : Fin 4) (width : Nat) (s : State) : Host.Outcome State Fault Refusal :=
  .next (s.powered fun s => ltPosFracRead agent sub width s)

/-- Some enabled group is within its minimum line period or a flush line (R85), or a start is on its way. -/
def State.groupsBusy (s : State) : Bool :=
  s.lt.start.isSome || (List.range 12).any fun g => s.groupOn g && (s.group g).inMin

end Sys2Proof.Machine
end

