-- ==== Sys2Proof/Machine/Converters.lean ====
section
/-!
DEFINITION. The meanings of the chapter "Line converter bank" (R88 to R111): the colour code, the words that reach the
lanes and their buffers (R45, R46, R94), the diagnostic sequence (R95 to R99), plausibility (R100 to R102), forced
conversions (R103, R104) and the self-calibration of the bank (R105 to R108); and lane faults (R419).
-/

namespace Sys2Proof.Machine

/-! ## Converters and what they serve -/

/-- Converter `c`. -/
def State.conv (s : State) (c : Nat) : Converter := tget {} s.converters c

/-- The state with another converter `c`. -/
def State.putConv (s : State) (c : Nat) (x : Converter) : State := { s with converters := tput c x s.converters }

/-- Lane `k`. -/
def State.lane (s : State) (k : Nat) : Lane := tget {} s.lanes k

/-- The state with another lane `k`. -/
def State.putLane (s : State) (k : Nat) (x : Lane) : State := { s with lanes := tput k x s.lanes }

/-- The channel that Castling serves or works on. -/
def State.castChan (s : State) : Nat := s.rd Reg.CAST_STATUS_CHAN

/-- The spare's words carry the channel's pixels. -/
def State.carrying (s : State) : Bool := s.on Reg.CAST_STATUS_CARRYING

/-- The channel whose front-end settings converter `c` uses: the spare borrows those of the channel it serves (R112). -/
def State.serves (s : State) (c : Nat) : Nat := if c = 96 ∧ s.cast.connected then s.castChan else c

/-- The sensor group on whose SMP converter `c` samples; none for a spare that serves no channel. -/
def State.convGroup (s : State) (c : Nat) : Option Nat :=
  if c < 96 then some (c / 8) else if s.cast.connected then some (s.castChan / 8) else none

/-- The settings in force for what converter `c` does now: in a run those of its group's line period (R557). -/
def State.convCfg (s : State) (c : Nat) : State :=
  match s.convGroup c with
  | some g => if s.running && (s.group g).live then s.groupCfg g else s
  | none => s

/-- Converter `c` and its group are enabled; in a run a group without a line period is not (R76). -/
def State.convEnabled (s : State) (c : Nat) : Bool :=
  (match s.convGroup c with
   | some g => ((s.group g).live || !s.running) && (s.convCfg c).on Reg.SG_CTL_EN g
   | none => true) && (s.convCfg c).on Reg.CHAN_CTL_EN c

/-- Where the words of converter `c` go: the channel whose pixels they carry, or 96 for the match alone (R113, R114). -/
def State.wordsTo (s : State) (c : Nat) : Nat :=
  if s.carrying then if c = 96 then s.castChan else if c = s.castChan then 96 else c
  else c

/-- The converter that carries channel `c`'s pixels. -/
def State.carrierOf (s : State) (c : Nat) : Nat := if s.carrying && s.castChan == c then 96 else c

/-- Converter `c` is disconnected from its pins: in offline or bank calibration, or standing by (R106, R118). -/
def State.disconnected (s : State) (c : Nat) : Bool := s.cast.offline == some c || s.on Reg.BANK_CAL_BUSY

/-! ## Codes (R90, R96) -/

/-- The full scale of a RANGE code, nV. -/
def fullScale (range : Nat) : Int := 2000000000 / 2 ^ range

/-- The rounded quotient of R90: to the nearest integer, half away from zero. -/
def roundQuot (n : Int) (d : Nat) : Int :=
  if n < 0 then -((-n + d / 2) / d) else (n + d / 2) / d

/-- The code and OVR of an ideal code. -/
def clipCode (ideal : Int) : Nat × Bool := ((sat ideal 0 16383).toNat, decide (ideal < 0 ∨ 16383 < ideal))

/-- The converter's code for a colour input `v` nV above its reference level (R90). -/
def colourCode (v : Int) (range : Nat) (offset : Int) : Nat × Bool :=
  clipCode (roundQuot (v * 16384) (fullScale range).toNat + offset)

/-- The ideal code of a diagnostic input: nV for the reference, the bandgap and VDDA, m°C for the diode, and the
difference from the ideal code for the plausibility bus at level `level` (R96). -/
def diagCode (entry : Nat) (x : Int) (level : Nat) : Nat × Bool :=
  clipCode <| match entry with
    | 0 => roundQuot (x * 8192) 1000000000
    | 1 => roundQuot (x * 8192) 1000000000
    | 2 => roundQuot (x * 4096) 1000000000
    | 3 => 8192 + roundQuot (16 * (x - 25000)) 1000
    | _ => 64 * level + x

/-! ## Reference levels (R89) -/

/-- REFMODE as it takes effect: 3 takes effect as 0. -/
def refMode (m : Nat) : Nat := if m = 3 then 0 else m

/-- The levels of three colours, in the order of conversion. -/
def colourList (x : Colours) : List Int := [x.red, x.green, x.blue]

/-- A group strobe holds converter `c`'s colour inputs at once, with their reference levels (R89, R91): `level` has their
mean while CLAMP is high (mode 0, taken once in a line period), VIN_REF as `red` (mode 1), or their level at the last
rise of CLAMP (mode 2); `risen` and `fresh` say that CLAMP rose in this pixel period and since the strobe before. -/
def State.hold (s : State) (g c mode : Nat) (held level : Colours) (risen fresh : Bool) : State :=
  let s := s.when (mode == 3) (·.raise Ev.CH_CDS_MISS c)
  let x := { s.conv c with held := colourList held }
  match refMode mode with
  | 0 =>
    let clamp := if (s.group g).clamped && !x.clampTaken then colourList level else x.clamp
    s.putConv c { x with clamp := clamp, clampTaken := x.clampTaken || (s.group g).clamped, levels := clamp }
  | 1 => s.putConv c { x with levels := [level.red, level.red, level.red] }
  | _ =>
    let reset := if fresh then colourList level else x.reset
    (s.putConv c { x with reset := reset, levels := reset }).when (!risen) (·.raise Ev.CH_CDS_MISS c)

/-- The reference level of a forced conversion of colour `col`: the clamp level or the last reset level held, or VIN_REF at
`ref` (R89, R103). -/
def State.forcedRef (s : State) (c col mode : Nat) (ref : Int) : Int :=
  match refMode mode with
  | 0 => (s.conv c).clamp.getD col 0
  | 1 => ref
  | _ => (s.conv c).reset.getD col 0

/-! ## Lane faults (R419) -/

/-- A lane fault of lane `k` with cause `cause` (1 OVERRUN, 2 ECC). -/
def State.laneFault (s : State) (k cause : Nat) : State :=
  let x := s.lane k
  let now := s.tb.ns
  let s := ((s.incSat Reg.LANE_FLT_COUNT 0 k).wr Reg.LANE_FLT_CAUSE cause 0 k).raise Ev.FLT_LANE_FAULT
  if s.on Reg.LANE_FLT_HELD 0 k then s
  else
    -- the lines that the lane has not emitted yet
    let s := s.each ((List.range (s.lt.line - x.next)).map (x.next + ·)) fun s y => s.mark y k 5
    let w := s.rd Reg.LANE_FLT_LIMIT_WINDOW_MS * 1000000
    let recent := now :: x.faults.filter fun t => decide (now ≤ t + w)
    if s.rd Reg.LANE_FLT_LIMIT_LIMIT < recent.length then
      let s := s.putLane k { x with faults := recent, resetIn := none }
      let s := (s.wr Reg.LANE_FLT_HELD 1 0 k).wr Reg.LANE_HELD_BITS (setBit (s.rd Reg.LANE_HELD_BITS) k)
      ((s.raise Ev.FLT_LANE_HELD).alert 6).usbMessage 5 2 k
    else s.putLane k { x with faults := recent, resetIn := some 2 }

/-! ## Words (R45, R46, R94) -/

/-- A buffer of lane `k` overflows (R46): the rest of line `y` is discarded for its eight channels; at a headroom of at
least 1.0 it is also a lane fault. -/
def State.laneOverrun (s : State) (k y : Nat) : State :=
  let s := (s.discardReadouts y k).mark y 12 2
  let s := ((s.putLane k { s.lane k with overrun := true }).inc Reg.LANE_OVERRUN_COUNT k).raise Ev.LANE_OVERRUN k
  s.when (decide (0x1000 ≤ s.rd Reg.PACE_MON_HEADROOM_VALUE 0 k)) (·.laneFault k 1)

/-- A word is added to a read-out. -/
def Readout.add (r : Readout) (word total : Nat) (suspect uncal : Bool) : Readout :=
  { r with words := word :: r.words, complete := decide (total ≤ r.words.length + 1), suspect := r.suspect || suspect,
           uncal := r.uncal || uncal }

/-- The effective pace of lane `k`, M tokens/s (R34), as its last window measured it. -/
def State.effPace (s : State) (k : Nat) : Nat := min (s.rd Reg.PACE_MON_PACE_MEAS 0 k) (s.rd Reg.PACE_MON_PACE_CEIL 0 k)

/-- The 1/8,000 samples that lane `k` takes from the buffer of each of its eight channels in a ns while it works on line
`y`: three samples for each token at its effective pace (R45), or at least 8/3 as many on a thinned line (R437). -/
def State.drainRate (s : State) (k y : Nat) : Nat :=
  let e := s.effPace k
  if (s.line y).thinned then 8 * e + Config.thinnedPace e else 3 * e

/-- The buffer of channel `c` as it stands now: the lane has taken samples from it at its pace since it was last written. -/
def State.drained (s : State) (c y : Nat) : Buffer :=
  let b := s.buffer c
  let n := b.taken + (s.tb.ns - b.since) * s.drainRate (c / 8) y
  if b.level ≤ n / 8000 then { b with level := 0, since := s.tb.ns, taken := 0 }
  else { b with level := b.level - n / 8000, since := s.tb.ns, taken := n % 8000 }

/-- The word of converter `c` reaches where its words go, for the read-out that carries line `y`. -/
def State.deliver (s : State) (c dest y word total : Nat) : State :=
  let r := s.readout y dest
  let suspect := s.on Reg.PLAUS_STATUS_SUSPECT c
  let uncal := s.rd Reg.CAL_STATUS_STATE c == 2
  if dest = 96 then s.putReadout y 96 (r.add word total suspect uncal)
  else
    let b := s.drained dest y
    let s := s.putBuffer dest b
    if (s.lane (dest / 8)).overrun then s
    else if 256 ≤ b.level then s.laneOverrun (dest / 8) y
    else
      let s := s.putBuffer dest { b with level := b.level + 1, complete := decide (total ≤ r.words.length + 1) }
      if r.discarded then s else s.putReadout y dest (r.add word total suspect uncal)

/-- SCAN_MASK enables colour `col` of channel `k`. -/
def State.colourOn (s : State) (k col : Nat) : Bool :=
  match col with
  | 0 => s.on Reg.SCAN_MASK_RED k
  | 1 => s.on Reg.SCAN_MASK_GREEN k
  | _ => s.on Reg.SCAN_MASK_BLUE k

/-- Converter `c`'s next colour word is out and crosses into the lane (R45, R90, R94).  Red, green and blue
of a pixel come in this order from the values held at its group strobe (R91, R92): `held` and `level` count at the red
one.  No word comes for a strobe that has not come, and none of a priming read-out is delivered (R57). -/
def converterWord (c : Nat) (held level : Colours) (s : State) : State :=
  match s.convGroup c with
  | none => s
  | some g =>
    let k := s.serves c
    let dest := s.wordsTo c
    let n := (s.buffer dest).count
    let cfg := s.groupCfg g
    let total := 3 * cfg.rd Reg.SG_GEOM_PIXELS g
    if !(s.group g).live || !cfg.on Reg.SG_CTL_EN g || !cfg.on Reg.CHAN_CTL_EN c || !cfg.on Reg.CHAN_CTL_EN k ||
        s.disconnected c || total ≤ n then s
    else
      let s := s.reachStrobe g (n / 3)
      match trainStrobe (s.group g).trains (n / 3) with
      | none => s
      | some (_, risen, fresh) =>
        let col := n % 3
        let s := s.putBuffer dest { s.buffer dest with count := n + 1 }
        let s := if col = 0 then s.hold g c (cfg.rd Reg.CHAN_CTL_REFMODE k) held level risen fresh else s
        let x := s.conv c
        let code := if cfg.colourOn k col then
            colourCode (x.held.getD col 0 - x.levels.getD col 0) (cfg.rd Reg.CHAN_FE_RANGE k col)
              (cfg.rdS Reg.CHAN_FE_OFFSET k col)
          else (0, false)
        let s := s.when code.2 fun t => (t.inc Reg.OVR_COUNT_COUNT c).raise Ev.CH_OVR c
        match (s.group g).reads with
        | none => s
        | some y =>
          if (s.group g).discarded then s else s.deliver c dest y.1 (code.1 + 16384 * code.2.toNat) total

/-! ## The diagnostic sequence (R95 to R99) -/

/-- SCAN_MASK enables the input of a diagnostic entry of channel `c`. -/
def State.diagEnabled (s : State) (c entry : Nat) : Bool :=
  match entry with
  | 0 => s.on Reg.SCAN_MASK_SREF c
  | 1 => s.on Reg.SCAN_MASK_IREF c
  | 2 => s.on Reg.SCAN_MASK_SUPPLY c
  | 3 => s.on Reg.SCAN_MASK_TEMP c
  | _ => s.on Reg.SCAN_MASK_PLAUS c

/-- The mean of codes, rounded half away from zero. -/
def meanCode (codes : List Nat) : Nat := (2 * codes.sum + codes.length) / (2 * codes.length)

/-- Converter `c` runs its sequence once in each quiet interval: a run is active, and it has a group (R95).  A spare that
serves no channel has no line period and goes on as without a run (R99): DESIGN CHOICE, assumption log 76. -/
def State.byLine (s : State) (c : Nat) : Bool := s.running && (s.convGroup c).isSome

/-- The line or sequence number that a result of channel `c` takes (R98, R99). -/
def State.diagLine (s : State) (c : Nat) : Nat :=
  if s.byLine c then
    match s.convGroup c with
    | some g => (s.group g).number
    | none => 0
  else (s.conv c).sequences

/-- The start of the quiet interval of group `g`'s line period in 1/3 edge steps, on the slot grid that its first strobe
sets: after the blue slot of the PIXELS-th strobe, or after an invalidity (R92, R93, R95). -/
def State.quietFrom (s : State) (g : Nat) : Option Nat :=
  let x := s.group g
  let o := match x.trains with
    | [] => 0
    | t :: _ => 3 * t.first
  match x.badStep, x.lastStrobe with
  | some p, _ => some (o + ((3 * p - o) / 64 + 1) * 64)
  | none, some l =>
    if (s.groupCfg g).rd Reg.SG_GEOM_PIXELS g ≤ x.strobes then some (o + (3 * (l + 64) - o + 63) / 64 * 64) else none
  | none, none => none

/-- The PIXELS-th strobe of group `g`'s line period comes now, if it can, and the quiet interval with it (R93). -/
def State.reachQuiet (s : State) (g : Nat) : State :=
  if (s.quietFrom g).isSome then s else s.reachStrobe g ((s.groupCfg g).rd Reg.SG_GEOM_PIXELS g - 1)

/-- Converter `c` may convert a diagnostic or forced input: outside a run, or in the quiet interval (R93, R95). -/
def State.isQuiet (s : State) (c : Nat) : Bool :=
  !s.byLine c ||
    match s.convGroup c with
    | some g => (s.group g).live && (s.quietFrom g).isSome
    | none => true

/-- The quiet interval of converter `c`'s group begins, if it can. -/
def State.toQuiet (s : State) (c : Nat) : State :=
  match s.convGroup c with
  | some g => if s.byLine c then s.reachQuiet g else s
  | none => s

/-- N of R95. -/
def State.diagN (s : State) (c : Nat) : Nat := 2 ^ (s.convCfg c).rd Reg.BANK_DIAG_AVG_LOG

/-- The plausibility level is on the bus for converter `c`: its line period is that of a plausibility line (R100). -/
def State.plausBus (s : State) (c : Nat) : Bool :=
  match s.convGroup c with
  | some g => (s.group g).plaus
  | none => s.plaus.isOpen

/-- Entry `entry` of channel `c` converts in this line period: its input is enabled, and entry 4 belongs to a participant of
the check in progress (R95, R100). -/
def State.diagConverts (s : State) (c entry : Nat) : Bool :=
  (s.convCfg c).diagEnabled c entry && (entry != 4 || (s.plausBus c && s.plaus.parts.contains c))

/-- The next entry of channel `c`'s sequence; a sequence that has ended begins anew outside a run. -/
def State.nextEntry (s : State) (c : Nat) : Nat :=
  let x := s.conv c
  if 5 ≤ x.diagDone then 0 else (x.diagFrom + x.diagDone) % 5

/-- The result of entry `entry` with the held inputs `xs` and line number `line` is written (R96, R98). -/
def State.diagResult (s : State) (c entry line : Nat) (xs : List Int) : State :=
  let codes := xs.map fun v => diagCode entry v s.plaus.level
  let mean := meanCode (codes.map (·.1))
  let s := (s.wr Reg.DIAG_VALUE mean c entry).wrB Reg.DIAG_OVR (codes.any (·.2)) c entry
  let s := (s.wr Reg.DIAG_VALID 1 c entry).wr Reg.DIAG_LINE line c entry
  let s := if entry = 3 then s.putConv c { s.conv c with tempFresh := true, tempTime := s.tb.ns } else s
  if entry = 4 ∧ s.plaus.parts.contains c ∧ !s.plaus.results.any (fun e => e.1 == c) then
    { s with plaus := { s.plaus with results := s.plaus.results ++ [(c, mean)] } }
  else s

/-- One entry more of a sequence has ended; without a line period the next sequence follows at once (R99). -/
def Converter.entryEnded (x : Converter) (byLine : Bool) : Converter :=
  if byLine then { x with diagDone := x.diagDone + 1 }
  else if 5 ≤ x.diagDone then { x with diagDone := 1, diagFrom := 0 }
  else if x.diagDone = 4 then { x with diagDone := 0, diagFrom := 0, sequences := x.sequences + 1 }
  else { x with diagDone := x.diagDone + 1 }

/-- A forced conversion that takes the first slots of the quiet interval comes before entry `entry`; entry 4 of a
plausibility line goes first (R104). -/
def State.forcedAhead (s : State) (c entry : Nat) : Bool :=
  (s.conv c).forced.isSome && (s.conv c).forcedFirst && !(entry == 4 && s.diagConverts c 4)

/-- DIAG_ENTRY_DONE: the next entry of channel `c`'s sequence completes with the held inputs `xs` of its N conversions
(R95, R98), or one that had finished at the last line start; an entry that converts nothing keeps its slots and its
result. -/
def diagEntryDone (c : Nat) (xs : List Int) (s : State) : State :=
  match (s.conv c).late with
  | (entry, line, converts) :: rest =>
    let s := s.putConv c { s.conv c with late := rest }
    if converts && !xs.isEmpty then s.diagResult c entry line xs else s
  | [] =>
    let s := s.toQuiet c
    let entry := s.nextEntry c
    if !s.convEnabled c || s.disconnected c || xs.length != s.diagN c || !s.isQuiet c ||
        (s.byLine c && decide (5 ≤ (s.conv c).diagDone)) || s.forcedAhead c entry then s
    else
      let line := s.diagLine c
      let converts := s.diagConverts c entry
      let s := s.putConv c ((s.conv c).entryEnded (s.byLine c))
      if converts then s.diagResult c entry line xs else s

def execDiagEntryDone (c : Fin 97) (xs : List Int) (s : State) : Host.Outcome State Fault Refusal :=
  .next (s.powered fun s => diagEntryDone c xs s)

/-- Slots of the conversion period that have passed in the quiet interval of group `g`, times 1,000,000. -/
def State.quietSlots (s : State) (g : Nat) : Nat :=
  match s.quietFrom g with
  | some q => (3 * ((s.tb.ns - (s.group g).startNs) * 64 * s.pixKhz g) - q * 1000000) / 64
  | none => 0

/-- Entries of a quiet interval that have finished after `slots` (times 1,000,000), of `n` conversions each, and whether
the next one has begun (R97). -/
def entriesBy (slots n : Nat) : Nat × Bool :=
  let k := min 5 (slots / ((1 + n) * 1000000))
  (k, decide (k < 5 ∧ k * (1 + n) * 1000000 < slots))

/-- A line start meets the diagnostic sequence of channel `c` (R97): an entry begun and not finished is abandoned, entries
that have finished keep their results to come, and the next quiet interval begins at the first entry that has not
finished.  A sequence that runs without a line period always has an entry begun (R99). -/
def State.diagCut (s : State) (c : Nat) (byLine : Bool) (g : Nat) : State :=
  let x := s.conv c
  let forced := x.forcedSlots + if x.forcedFirst && x.forced.isSome then 2 else 0
  let e := if byLine then entriesBy (s.quietSlots g - forced * 1000000) (s.diagN c) else (0, true)
  let done := max e.1 x.diagDone
  let late := (List.range (e.1 - x.diagDone)).map fun i =>
    let entry := (x.diagFrom + x.diagDone + i) % 5
    (entry, (s.group g).number, s.diagConverts c entry)
  let on := s.convEnabled c
  let s := s.putConv c { x with diagFrom := if 5 ≤ done then 0 else (x.diagFrom + done) % 5, diagDone := 0,
                                forcedSlots := 0, forcedFirst := x.forced.isSome, clampTaken := false,
                                late := if on then x.late ++ late else x.late }
  s.when (e.2 && (!byLine || decide (x.diagDone ≤ e.1)) && on)
    fun t => (t.inc Reg.DIAG_MISSED_COUNT c).raise Ev.CH_DIAG_MISSED c

/-! ## Plausibility (R100 to R102) -/

/-- Channel `c` takes part in a plausibility check: it is enabled, and it does not stand aside while the spare has its data
in SWAPPED and RETAINED (R100, R126). -/
def State.plausPart (s : State) (c : Nat) : Bool :=
  s.convEnabled c && (s.convCfg c).on Reg.SCAN_MASK_PLAUS c && s.cast.offline != some c &&
    !(s.castChan == c && (s.rd Reg.CAST_STATUS_STATE == 3 || s.rd Reg.CAST_STATUS_STATE == 5))

/-- A plausibility line starts: the bus takes the next level and every participant holds it (R100). -/
def State.plausStart (s : State) : State :=
  let lv := match s.plaus.next with
    | 0 => s.rd Reg.BANK_PLAUS_LEVEL_L0
    | 1 => s.rd Reg.BANK_PLAUS_LEVEL_L1
    | 2 => s.rd Reg.BANK_PLAUS_LEVEL_L2
    | _ => s.rd Reg.BANK_PLAUS_LEVEL_L3
  let s : State := { s with plaus := { next := (s.plaus.next + 1) % 4, level := lv, parts := (List.range 97).filter s.plausPart,
                                       results := [], active := true, isOpen := true } }
  s.each (List.range 12) fun s g => s.putGroup g { s.group g with plaus := (s.group g).live }

/-- The lower median of a list of codes. -/
def lowerMedian (l : List Nat) : Nat := (l.mergeSort (fun a b => decide (a ≤ b))).getD ((l.length - 1) / 2) 0

/-- The set that a line channel is judged in: itself and the nearest participants, one on each side where they exist,
else two on the one side (R101). -/
def plausSet (rs : List (Nat × Nat)) (c : Nat) : List Nat :=
  let rs := rs.filter fun e => decide (e.1 < 96)
  let below := ((rs.filter fun e => decide (e.1 < c)).mergeSort fun a b => decide (b.1 ≤ a.1)).map (·.2)
  let above := ((rs.filter fun e => decide (c < e.1)).mergeSort fun a b => decide (a.1 ≤ b.1)).map (·.2)
  let own := (rs.filter fun e => e.1 == c).map (·.2)
  match below, above with
  | [], a => own ++ a.take 2
  | b, [] => own ++ b.take 2
  | b :: _, a :: _ => [b] ++ own ++ [a]

/-- SUSPECT of channel `c` (R102). -/
def State.setSuspect (s : State) (c : Nat) (b : Bool) : State :=
  let s := s.wrB Reg.PLAUS_STATUS_SUSPECT b c
  if c = 96 then s.wrB Reg.BANK_SUSPECT_3_SPARE b
  else
    let r := if c < 32 then Reg.BANK_SUSPECT_0_BITS else if c < 64 then Reg.BANK_SUSPECT_1_BITS
      else Reg.BANK_SUSPECT_2_BITS
    s.wr r (putBit (s.rd r) (c % 32) b)

/-- The judgement of channel `c` (R102).  The reference of channel 96 when no line channel has a result is 0: DESIGN CHOICE,
assumption log 77. -/
def State.plausJudge (s : State) (rs : List (Nat × Nat)) (e : Nat × Nat) : State :=
  let c := e.1
  let ref := if c = 96 then lowerMedian ((rs.filter fun e => decide (e.1 < 96)).map (·.2)) else lowerMedian (plausSet rs c)
  let dev : Int := (e.2 : Int) - ref
  let s := s.wrS Reg.PLAUS_STATUS_DEV dev c
  if dev.natAbs ≤ s.rd Reg.BANK_PLAUS_CTL_TOL then (s.wr Reg.PLAUS_STATUS_FAILS 0 c).setSuspect c false
  else
    let n := min 255 (s.rd Reg.PLAUS_STATUS_FAILS c + 1)
    let s := (s.wr Reg.PLAUS_STATUS_FAILS n c).raise Ev.CH_PLAUS_FAIL c
    if s.rd Reg.BANK_PLAUS_CTL_LIMIT ≤ n && !s.on Reg.PLAUS_STATUS_SUSPECT c then
      (s.setSuspect c true).raise Ev.CH_SUSPECT c
    else s

/-- Entry 4 of channel `c` may still complete for the check in progress: its line period goes on, or the result of a
finished entry is still to come. -/
def State.plausWaits (s : State) (c : Nat) : Bool :=
  !(s.plaus.results.any fun e => e.1 == c) && (s.plausBus c || (s.conv c).late.any fun e => e.1 == 4 && e.2.2)

/-- The results of the check in progress are compared (R101): an entry 4 that gave no result leaves its channel out. -/
def State.plausCompare (s : State) : State :=
  if !s.plaus.active then s
  else
    let rs := s.plaus.results
    let s := { s with plaus := { s.plaus with active := false, parts := [], results := [] } }
    (s.each rs fun s e => s.plausJudge rs e).inc Reg.BANK_PLAUS_COUNT_COUNT

/-- PLAUS_CHECK: the comparison, once entry 4 has completed on every participant that still can (R101). -/
def plausCheck (s : State) : State := if s.plaus.parts.any s.plausWaits then s else s.plausCompare

/-! ## Forced conversions (R103, R104) -/

/-- FORCE_REQUEST: a write of FORCE. -/
def forceRequest (c v : Nat) (s : State) : State :=
  if !v.testBit 31 then s
  else
    let off := match s.convGroup c with
      | some g => !(s.convCfg c).on Reg.SG_CTL_EN g
      | none => false
    if (s.conv c).forced.isSome || off || s.on Reg.BANK_CAL_BUSY then s.raise Ev.CH_FORCE_IGNORED c
    else (s.putConv c { s.conv c with forced := some (v % 8), forcedFirst := !s.isQuiet c }).wr Reg.FORCE_RESULT_DONE 0 c

def execForceRequest (c : Fin 97) (v : Word) (s : State) : Host.Outcome State Fault Refusal :=
  .next (s.powered fun s => forceRequest c v.toNat s)

/-- The code of a forced conversion of input `i` at `v`, with VIN_REF at `ref` for a colour (R103). -/
def State.forcedCode (s : State) (c i : Nat) (v ref : Int) : Nat × Bool :=
  let k := s.serves c
  let cfg := s.convCfg c
  if i < 3 then
    colourCode (v - s.forcedRef c i (cfg.rd Reg.CHAN_CTL_REFMODE k) ref) (cfg.rd Reg.CHAN_FE_RANGE k i)
      (cfg.rdS Reg.CHAN_FE_OFFSET k i)
  else diagCode (i - 3) v s.plaus.level

/-- The time base at the start of the conversion slot, 12 conversion periods before the code (R92).  For a spare that
serves no channel the spec gives no conversion period, and the time of the result is taken: DESIGN CHOICE, assumption
log 76. -/
def State.slotTime (s : State) (c : Nat) : Nat :=
  match s.convGroup c with
  | some g => s.tb.ns - 4000000 / s.pixKhz g
  | none => s.tb.ns

/-- The pending forced conversion of channel `c` may be served: outside a run, in the quiet interval, or while the spare
carries the channel's data (R103); in offline calibration only once a step boundary has made it eligible (R118); and not
in the place of entry 4 of a plausibility line (R104). -/
def State.forceServed (s : State) (c : Nat) : Bool :=
  !s.on Reg.BANK_CAL_BUSY && (s.cast.offline != some c || s.cast.eligible) &&
    (s.isQuiet c || (s.carrying && s.castChan == c)) &&
    !(s.byLine c && s.nextEntry c == 4 && decide ((s.conv c).diagDone < 5) && s.diagConverts c 4)

/-- FORCE_DONE: the pending conversion of converter `c` completes on the held value `v`. -/
def forceDone (c : Nat) (v ref : Int) (s : State) : State :=
  match (s.conv c).forced with
  | none => s
  | some i =>
    let s := s.toQuiet c
    if !s.forceServed c then s
    else
      let code := s.forcedCode c i v ref
      let x := s.conv c
      let s := s.putConv c { x with forced := none, forcedSlots := x.forcedSlots + 2 }
      let s := if s.cast.offline = some c then { s with cast := { s.cast with eligible := false } } else s
      let s := (s.wr Reg.FORCE_RESULT_VALUE code.1 c).wrB Reg.FORCE_RESULT_OVR code.2 c
      let s := (s.wr Reg.FORCE_RESULT_DONE 1 c).wr Reg.FORCE_RESULT_INPUT i c
      (s.wr Reg.FORCE_TIME_LO (s.slotTime c) c).raise Ev.CH_FORCE_DONE c

def execForceDone (c : Fin 97) (v ref : Int) (s : State) : Host.Outcome State Fault Refusal :=
  .next (s.powered fun s => forceDone c v ref s)

/-! ## Self-calibration of the bank (R105 to R108) -/

/-- BANK_CAL_START: accepted only while no run is active, no calibration runs and the synthesiser is locked. -/
def bankCalStart (v : Nat) (s : State) : State :=
  if !v.testBit 0 then s
  else if s.running || s.on Reg.BANK_CAL_BUSY || !s.on Reg.TB_STATUS_LOCKED then s.raise Ev.CH_CAL_REFUSED 96
  else
    let s := s.wr Reg.BANK_CAL_BUSY 1
    s.each (List.range 97) fun s c =>
      (s.putConv c { s.conv c with stateBefore := s.rd Reg.CAL_STATUS_STATE c, forced := none }).wr
        Reg.CAL_STATUS_STATE 3 c

def execBankCalStart (v : Word) (s : State) : Host.Outcome State Fault Refusal :=
  .next (s.powered fun s => bankCalStart v.toNat s)

/-- WORST_ERR of a measured gain: |gain - 1.0| * 16,384 in codes, unsigned 8.8, saturating (R109). -/
def gainErr (g : Nat) : Nat := min 0xFFFF (((g : Int) - 0x8000).natAbs * 128)

/-- WORST_STAGE and WORST_ERR: the stage whose gain lies furthest from 1.0; of equally far ones the lowest: DESIGN CHOICE,
assumption log 78. -/
def State.worst (s : State) (c : Nat) (gains : List Nat) : State :=
  let dist := gains.map fun (g : Nat) => ((g : Int) - 0x8000).natAbs
  let w := (List.range 6).foldl (fun b i => if dist.getD b 0 < dist.getD i 0 then i else b) 0
  (s.wr Reg.CAL_STATUS_WORST_STAGE w c).wr Reg.CAL_STATUS_WORST_ERR (gainErr (gains.getD w 0x8000)) c

/-- A gain in unsigned 1.15 lies within `lo` to `hi` hundredths. -/
def gainWithin (g lo hi : Nat) : Bool := decide (lo * 0x8000 ≤ 100 * g ∧ 100 * g ≤ hi * 0x8000)

/-- What a self-calibration measured of one converter: stage gains (unsigned 1.15), path offsets (signed 8.3, codes),
path gains (unsigned 1.15) and the channel's temperature (signed 7.8). -/
abbrev Measured := List Nat × List Int × List Nat × Int

/-- A channel passes (R107). -/
def calPasses (m : Measured) : Bool :=
  m.1.all (gainWithin · 90 110) && m.2.2.1.all (gainWithin · 95 105) &&
    m.2.1.all fun o => decide (-512 ≤ o ∧ o ≤ 512)

/-- VALID of the four trim slots of channel `c` cleared (R120, R121). -/
def State.clearSlots (s : State) (c : Nat) : State :=
  s.each (List.range 4) fun s j => s.wr Reg.TRIM_VALID 0 (c / 16) (c % 16) j

/-- The end of the self-calibration for one channel (R107, R121). -/
def State.calEnd (s : State) (x : Nat × Measured) : State :=
  let c := x.1
  let m := x.2
  let s := s.worst c m.1
  if calPasses m then
    let s := s.each (List.range 6) fun s i => s.wr Reg.CAL_STAGE_GAIN (m.1.getD i 0) c i
    let s := s.each (List.range 3) fun s i =>
      (s.wrS Reg.CAL_PATH_OFFSET (m.2.1.getD i 0) c i).wr Reg.CAL_PATH_GAIN (m.2.2.1.getD i 0) c i
    let s := (s.wr Reg.CAL_STATUS_STATE 1 c).setSuspect c false
    let s := (s.wr Reg.CAL_TIME_LO s.tb.ns c).wrS Reg.CAL_TEMP_VALUE m.2.2.2 c
    let s := (s.wr Reg.CAST_QUAL_CAL_S (s.tb.ns / 1000000000) 0 c).clearSlots c
    let s := { s with cast := { s.cast with interval := s.cast.interval.filter (· != c) } }
    let s := s.putConv c { s.conv c with trims := [{}, {}, {}], trimsNext := [] }
    s.raise Ev.CH_CAL_DONE c
  else (s.wr Reg.CAL_STATUS_STATE 2 c).raise Ev.CH_CAL_FAIL c

/-- An aborted self-calibration (R108). -/
def State.calAbort (s : State) : State :=
  if !s.on Reg.BANK_CAL_BUSY then s
  else
    let s := s.each (List.range 97) fun s c => s.wr Reg.CAL_STATUS_STATE (s.conv c).stateBefore c
    (s.wr Reg.BANK_CAL_BUSY 0).raise Ev.CH_CAL_ABORTED 96

end Sys2Proof.Machine
end

