-- ==== Sys2Proof/Machine/Castling.lean ====
section
/-!
DEFINITION. The meanings of the chapter "Castling" (R112 to R131): what the spare borrows, the cycle and its states,
matching from signal statistics (R116), offline calibration (R118), trims and their slots (R119 to R121), the choice of
the next channel (R122), aborts (R125); and the commands of the converter bank that Castling reacts to.
-/

namespace Sys2Proof.Machine

/-! ## Temperatures and trims (R119) -/

/-- CAST_STATUS.STATE (R114): 0 IDLE, 1 SPARE_CAL, 2 SHADOW, 3 SWAPPED, 4 SHADOW_BACK, 5 RETAINED, 6 NO_SPARE. -/
def State.castState (s : State) : Nat := s.rd Reg.CAST_STATUS_STATE

/-- The region of a converter: the spare counts in the region of the channel it serves, otherwise in 11 (R431). -/
def State.region (s : State) (c : Nat) : Nat := if s.serves c = 96 then 11 else s.serves c / 8

/-- The regional estimate of channel `c`, valid in RUN only (R434). -/
def State.regionT (s : State) (c : Nat) : Option Int :=
  if s.rd Reg.THERM_STATUS_STATE = 1 then some (s.rdS Reg.THERM_NODE_TEMP 0 (s.region c)) else none

/-- The temperature of a converter from its temperature entry. -/
def State.ownT (s : State) (c : Nat) : Int := 25 * 256 + 16 * ((s.rd Reg.DIAG_VALUE c 3 : Int) - 8192)

/-- T of R119 for a line channel. -/
def State.chanT (s : State) (c : Nat) : Int := (s.regionT c).getD (s.ownT c)

/-- The trimmed sample of a code (R119). -/
def trimSample (code : Nat) (t : Trim) : Nat :=
  (sat (rnd ((code : Int) * 4 * t.gain) 15 + rnd t.off 5) 0 65535).toNat

/-- The GAIN and OFFSET rows of a colour of a trim slot. -/
def trimRows (col : Nat) : Row × Row :=
  match col with
  | 0 => (Reg.TRIM_GAIN0, Reg.TRIM_OFFSET0)
  | 1 => (Reg.TRIM_GAIN1, Reg.TRIM_OFFSET1)
  | _ => (Reg.TRIM_GAIN2, Reg.TRIM_OFFSET2)

/-- The trims of slot `j` of channel `c`. -/
def State.slotTrims (s : State) (c j : Nat) : List Trim :=
  (List.range 3).map fun col =>
    { gain := s.rd (trimRows col).1 (c / 16) (c % 16) j, off := s.rdS (trimRows col).2 (c / 16) (c % 16) j }

/-- Trims stored into slot `j` of channel `c`. -/
def State.putSlotTrims (s : State) (c j : Nat) (ts : List Trim) : State :=
  s.each (List.range 3) fun s col =>
    let t := ts.getD col {}
    (s.wr (trimRows col).1 t.gain (c / 16) (c % 16) j).wrS (trimRows col).2 t.off (c / 16) (c % 16) j

/-- The valid slots of channel `c` with their temperatures, by temperature, equal ones in slot order. -/
def State.validSlots (s : State) (c : Nat) : List (Int × List Trim) :=
  (((List.range 4).filter fun j => s.on Reg.TRIM_VALID (c / 16) (c % 16) j).map fun j =>
    (s.rdS Reg.TRIM_TEMP (c / 16) (c % 16) j, s.slotTrims c j)).mergeSort fun a b => decide (a.1 ≤ b.1)

/-- The neighbours and the weight of the second, from the `i`-th temperature on, which `t` has reached (R119). -/
def mixFrom (t : Int) : Nat → Int → List Int → Nat × Nat × Int
  | i, _, [] => (i, i, 0)
  | i, a, b :: l => if t < b then (i, i + 1, quot ((t - a) * 65536) (b - a)) else mixFrom t (i + 1) b l

/-- Which two of the sorted temperatures a value at `t` is interpolated between, and the weight of the second (R119):
below the lowest and above the highest, the nearest alone. -/
def mixAt (temps : List Int) (t : Int) : Nat × Nat × Int :=
  match temps with
  | [] => (0, 0, 0)
  | a :: l => if t ≤ a then (0, 0, 0) else mixFrom t 0 a l

/-- A value interpolated with weight `w` (R119, R137). -/
def mixValue (p q w : Int) : Int := p + rnd ((q - p) * w) 16

/-- The interpolation of R119 over slots sorted by temperature; the identity where there is none. -/
def trimAt (slots : List (Int × List Trim)) (t : Int) : List Trim :=
  let m := mixAt (slots.map (·.1)) t
  let p := (slots.getD m.1 (0, [])).2
  let q := (slots.getD m.2.1 (0, [])).2
  (List.range 3).map fun col =>
    let a := p.getD col {}
    let b := q.getD col {}
    { gain := (mixValue a.gain b.gain m.2.2).toNat, off := mixValue a.off b.off m.2.2 }

/-- Channel `c` is in a cycle or RETAINED, or its swap back has not come. -/
def State.inCycle (s : State) (c : Nat) : Bool := s.castChan == c && (decide (2 ≤ s.castState ∧ s.castState ≤ 5) || s.carrying)

/-- The evaluation of interpolated trims at a line start (R119): they apply from the second line start after it. -/
def State.evalTrims (s : State) : State :=
  s.each (List.range 96) fun s c =>
    if s.inCycle c then s
    else s.putConv c { s.conv c with trimsNext := (s.conv c).trimsNext ++ [(2, trimAt (s.validSlots c) (s.chanT c))] }

/-- Evaluated trims come one line start nearer, and those that are due apply; a channel in a cycle keeps its own. -/
def State.stepTrims (s : State) : State :=
  s.each (List.range 96) fun s c =>
    let x := s.conv c
    match x.trimsNext with
    | [] => s
    | _ =>
      let l := x.trimsNext.map fun e => (e.1 - 1, e.2)
      let due := l.filter fun e => e.1 == 0
      let keep := l.filter fun e => e.1 != 0
      s.putConv c { x with trimsNext := keep, trims := if s.inCycle c then x.trims else
                                                  match due.getLast? with
                                                  | some e => e.2
                                                  | none => x.trims }

/-! ## Swaps (R115) -/

/-- A swap takes effect now: the spare takes over channel k's data, or hands it back. -/
def State.swapNow (s : State) (back : Bool) : State :=
  let k := s.castChan
  let s := { s with cast := { s.cast with swap := none, lineOwed := some k } }
  let s := s.wrB Reg.CAST_SWAP_LINE_HI_BACK back
  if back then
    let s := match s.cast.fitted with
      | some ts => s.putConv k { s.conv k with trims := ts }
      | none => s
    let s := { s with cast := { s.cast with connected := false, fitted := none } }
    let s := (s.wr Reg.CAST_STATUS_CARRYING 0).raise Ev.CAST_SWAP_BACK
    s.when (s.castState == 0) (·.wr Reg.CAST_STATUS_CHAN 0x7F)
  else
    let s := { s with cast := { s.cast with offline := some k } }
    (s.wr Reg.CAST_STATUS_CARRYING 1).raise Ev.CAST_SWAP_OUT

/-- A read-out of group `g` is in progress. -/
def State.readingOut (s : State) (g : Nat) : Bool := (s.group g).live && (s.group g).inMin && (s.group g).reads.isSome

/-- A swap is decided: it takes effect at the second line start; while no run is active at once, but never inside a
read-out and never while the group runs the fallback pattern (R115, R124). -/
def State.decideSwap (s : State) (back : Bool) : State :=
  if s.running then { s with cast := { s.cast with swap := some (back, 2) } }
  else if s.readingOut (s.castChan / 8) || s.fallback (s.castChan / 8) then
    { s with cast := { s.cast with swap := some (back, 1) } }
  else s.swapNow back

/-- Without a run, a swap that waited for the end of a read-out of group `g` is made (R115). -/
def State.swapWaits (s : State) (g : Nat) : State :=
  match s.cast.swap with
  | some (back, _) =>
    if s.castChan / 8 == g && !s.running && !s.readingOut g && !s.fallback g then s.swapNow back else s
  | none => s

/-- A swap that is pending as the run stops is made without a further line start (R115). -/
def State.swapAtStop (s : State) : State :=
  match s.cast.swap with
  | some (back, _) => s.decideSwap back
  | none => s

/-! ## Ends of a cycle -/

/-- The outcome of a cycle or a spare calibration of channel `c` (R128, R131). -/
def State.castOutcome (s : State) (c outcome : Nat) : State :=
  let s := (s.wr Reg.CAST_LAST_CHAN c).wr Reg.CAST_LAST_OUTCOME outcome
  let s := s.when (c != 96 && outcome != 9) (·.inc Reg.CAST_LAST_CYCLES)
  (s.wr Reg.CAST_QUAL_OUTCOME outcome 0 c).raise Ev.CAST_CYCLE_DONE

/-- Channel `c` is no longer pending by the host's or the interval's doing. -/
def State.castServed (s : State) (c : Nat) : State :=
  { s with cast := { s.cast with host := s.cast.host.filter (· != c), interval := s.cast.interval.filter (· != c) } }

/-- Channel `c` is passed over for RETRY_S (R122). -/
def State.castRetry (s : State) (c : Nat) : State :=
  { s with cast := { s.cast with
      excess := (c, s.tb.ns + s.rd Reg.CAST_TRIG_RETRY_S * 1000000000) :: s.cast.excess.filter fun e => e.1 != c } }

/-- STATE changes, and the windows of the new step count from 0. -/
def State.castGo (s : State) (state : Nat) : State := (s.wr Reg.CAST_STATUS_STATE state).wr Reg.CAST_STATUS_WIN 0

/-- The match starts over with its settling read-outs (R116). -/
def State.castSettle (s : State) : State :=
  { s with cast := { s.cast with settle := s.rd Reg.CAST_MATCH_SETTLE, lines := 0,
                                 acc := [[0, 0, 0, 0, 0, 0], [0, 0, 0, 0, 0, 0], [0, 0, 0, 0, 0, 0]] } }

/-- The next window begins. -/
def State.castNextWindow (s : State) : State :=
  { s with cast := { s.cast with lines := 0, acc := [[0, 0, 0, 0, 0, 0], [0, 0, 0, 0, 0, 0], [0, 0, 0, 0, 0, 0]] } }

/-- Castling is idle and serves no channel. -/
def State.castIdle (s : State) : State :=
  let s := s.castGo 0
  if s.carrying then s
  else ({ s with cast := { s.cast with connected := false, swap := none } }).wr Reg.CAST_STATUS_CHAN 0x7F

/-- What is kept of channel `k` at the start of its cycle. -/
def State.castBefore (s : State) (k : Nat) : List Nat :=
  [s.rd Reg.CAL_STATUS_STATE k, s.rd Reg.CAST_QUAL_ELEM 0 k] ++ (List.range 6).map fun i => s.rd Reg.CAL_STAGE_GAIN k i

/-- Channel `k` restores its pre-cycle element choice, factors and CAL_STATUS.STATE (R125). -/
def State.castRestore (s : State) (k : Nat) : State :=
  let b := s.cast.before
  let s := (s.wr Reg.CAL_STATUS_STATE (b.getD 0 0) k).wr Reg.CAST_QUAL_ELEM (b.getD 1 0) 0 k
  s.each (List.range 6) fun s i => s.wr Reg.CAL_STAGE_GAIN (b.getD (2 + i) 0) k i

/-- An abort with outcome 6 ABORTED or 7 SPARE_SUSPECT (R114, R125): an offline calibration is cut at its next step
boundary, and the swap back follows. -/
def State.castAbort (s : State) (outcome : Nat) : State :=
  let k := s.castChan
  let cal := s.cast.offline == some k
  let s := { s with cast := { s.cast with aborting := cal, fitted := none, swap := none } }
  let s := s.when (!cal) (·.castRestore k)
  let s := (s.castOutcome k outcome).castRetry k
  let s := s.raise Ev.CAST_ABORTED
  if s.carrying then
    let s := s.castGo 0
    if cal then s else s.decideSwap true
  else s.castIdle

/-- The aborts of R114: the run has stopped, the channel or its group is disabled, or the spare became SUSPECT. -/
def State.castReact (s : State) : State :=
  let k := s.castChan
  let st := s.castState
  if decide (2 ≤ st ∧ st ≤ 4) && (!s.running || !s.on Reg.CHAN_CTL_EN k || !s.groupOn (k / 8)) then s.castAbort 6
  else if st == 3 && s.on Reg.PLAUS_STATUS_SUSPECT 96 then s.castAbort 7
  else s

/-! ## The match (R116) -/

/-- The sums of one colour with one more pair: x the fitted converter's code times 4, y the trimmed sample. -/
def matchAdd (a : List Int) (x y : Int) : List Int :=
  match a with
  | [n, sx, sy, sxx, sxy, syy] => [n + 1, sx + x, sy + y, sxx + x * x, sxy + x * y, syy + y * y]
  | _ => a

/-- Every pixel of a read-out, by colour: a pixel whose word carries OVR in either converter is left out. -/
def matchWords (acc : List (List Int)) (trims : List Trim) (xs ys : List Nat) : List (List Int) :=
  (List.range 3).map fun col =>
    ((xs.reverse.zip ys.reverse).zipIdx).foldl (fun a e =>
      if e.2 % 3 = col ∧ e.1.1 < 16384 ∧ e.1.2 < 16384 then
        matchAdd a (4 * e.1.1) (trimSample e.1.2 (trims.getD col {}))
      else a) (acc.getD col [0, 0, 0, 0, 0, 0])

/-- A fitted colour. -/
structure Fit where
  span : Bool
  trim : Trim
  mism : Nat
  deriving DecidableEq, Repr

/-- The fit of one colour (R116). -/
def fitColour (a : List Int) (minSpan : Nat) : Fit :=
  match a with
  | [n, sx, sy, sxx, sxy, syy] =>
    let vx := n * sxx - sx * sx
    let cxy := n * sxy - sx * sy
    let vy := n * syy - sy * sy
    if 0 < vx ∧ (4 * n * minSpan) * (4 * n * minSpan) ≤ vx then
      let gain := quot (cxy * 2 ^ 15) vx
      let off := quot (sy * 2 ^ 15 - gain * sx) (n * 2 ^ 10)
      let m := isqrt (quot ((vy - quot (cxy * cxy) vx) * 2 ^ 16) (16 * n * n)).toNat
      ⟨true, ⟨gain.toNat, off⟩, if gain < 0 then 0xFFFF else m⟩
    else ⟨false, {}, 0⟩
  | _ => ⟨false, {}, 0⟩

/-- A colour with span is accepted: residual and limits of gain and offset. -/
def Fit.accepted (f : Fit) (tol : Nat) : Bool :=
  decide (f.mism ≤ tol ∧ 31130 ≤ f.trim.gain ∧ f.trim.gain ≤ 34406 ∧ -8192 ≤ f.trim.off ∧ f.trim.off ≤ 8192)

/-- The colours enabled for channel `k`. -/
def State.coloursOn (s : State) (k : Nat) : List Bool :=
  [s.on Reg.SCAN_MASK_RED k, s.on Reg.SCAN_MASK_GREEN k, s.on Reg.SCAN_MASK_BLUE k]

/-- The slot in which a PASS at temperature `t` stores channel `k`'s trims (R120).  Slot 0 where all four are valid and
none has AGE 3, as ages that the host wrote can have it: DESIGN CHOICE, assumption log 79. -/
def State.slotFor (s : State) (k : Nat) (t : Int) : Nat :=
  let valid := (List.range 4).filter fun j => s.on Reg.TRIM_VALID (k / 16) (k % 16) j
  let dist := fun j => (s.rdS Reg.TRIM_TEMP (k / 16) (k % 16) j - t).natAbs
  let near := valid.filter fun j => decide (dist j ≤ s.rd Reg.CAST_CTL_MERGE * 16)
  match near with
  | a :: l => l.foldl (fun b j => if dist j < dist b then j else b) a
  | [] =>
    match (List.range 4).find? fun j => !s.on Reg.TRIM_VALID (k / 16) (k % 16) j with
    | some j => j
    | none => ((List.range 4).find? fun j => s.rd Reg.TRIM_AGE (k / 16) (k % 16) j == 3).getD 0

/-- The fitted trims of channel `k` are stored (R120). -/
def State.storeTrims (s : State) (k : Nat) (ts : List Trim) (t : Int) : State :=
  let s := s.when s.cast.elemChanged (·.clearSlots k)
  let j := s.slotFor k t
  let age := if s.on Reg.TRIM_VALID (k / 16) (k % 16) j then s.rd Reg.TRIM_AGE (k / 16) (k % 16) j else 3
  let s := s.each (List.range 4) fun s i =>
    let a := s.rd Reg.TRIM_AGE (k / 16) (k % 16) i
    s.when (i != j && s.on Reg.TRIM_VALID (k / 16) (k % 16) i && decide (a < age))
      (·.wr Reg.TRIM_AGE (a + 1) (k / 16) (k % 16) i)
  let s := (s.wrS Reg.TRIM_TEMP t (k / 16) (k % 16) j).putSlotTrims k j ts
  let s := (s.wr Reg.TRIM_VALID 1 (k / 16) (k % 16) j).wr Reg.TRIM_HOST 0 (k / 16) (k % 16) j
  s.wr Reg.TRIM_AGE 0 (k / 16) (k % 16) j

/-- An accepted window of SHADOW: the spare's fitted trims, and the swap (R114, R119). -/
def State.shadowAccept (s : State) (k mism : Nat) (ts : List Trim) : State :=
  let s := (s.putSlotTrims 96 0 ts).putConv 96 { s.conv 96 with trims := ts }
  let s := (s.wr Reg.TRIM_VALID 1 6 0 0).wr Reg.CAST_QUAL_MISMATCH mism 0 96
  ((s.wr Reg.CAL_STATUS_STATE 3 k).castGo 3).decideSwap false

/-- An accepted window of SHADOW_BACK: PASS (R114, R120). -/
def State.castPass (s : State) (k mism : Nat) (ts : List Trim) : State :=
  let t := s.chanT k
  let s := (s.wr Reg.CAST_QUAL_MISMATCH mism 0 k).storeTrims k ts t
  let s := (s.wr Reg.CAL_STATUS_STATE 1 k).wrS Reg.CAL_TEMP_VALUE t k
  let s := (s.wr Reg.CAL_TIME_LO s.tb.ns k).wr Reg.CAST_QUAL_CAL_S (s.tb.ns / 1000000000) 0 k
  let s := ((s.setSuspect k false).castServed k).castOutcome k 1
  let s := { s with cast := { s.cast with fitted := some ts } }
  (s.castGo 0).decideSwap true

/-- A window that counts has not been accepted (R117); `outcome` is NO_SPAN or MISMATCH. -/
def State.castCount (s : State) (k outcome : Nat) : State :=
  let n := s.rd Reg.CAST_STATUS_WIN + 1
  let s := (s.wr Reg.CAST_STATUS_WIN n).raise Ev.CAST_MATCH_FAIL
  if n < s.rd Reg.CAST_MATCH_MAX_WIN then s.castNextWindow
  else if s.castState = 2 then ((s.castOutcome k outcome).castRetry k).castIdle
  else
    let s := ((s.wr Reg.CAL_STATUS_STATE 1 k).castServed k).castOutcome k 5
    (s.castGo 5).raise Ev.CAST_RETAINED

/-- CAST_MATCH_WINDOW_END: a full match window is fitted and accepted, rejected, or found to lack span (R116, R117). -/
def castMatchWindowEnd (s : State) : State :=
  let st := s.castState
  let k := s.castChan
  if !(st == 2 || st == 4) || s.cast.lines < s.rd Reg.CAST_MATCH_LINES then s
  else
    let on := s.coloursOn k
    let fits := (List.range 3).map fun col =>
      if on.getD col false then fitColour (s.cast.acc.getD col []) (s.rd Reg.CAST_ACCEPT_MIN_SPAN)
      else ⟨true, {}, 0⟩
    let mism := (fits.map (·.mism)).foldl max 0
    let ts := fits.map (·.trim)
    if !fits.all (·.span) then if st = 2 then s.castCount k 2 else s.castNextWindow
    else if fits.all (·.accepted (s.rd Reg.CAST_ACCEPT_TOL)) then
      if st = 2 then s.shadowAccept k mism ts else s.castPass k mism ts
    else s.castCount k 3

def execCastMatchWindowEnd (s : State) : Host.Outcome State Fault Refusal :=
  .next (s.powered fun s => castMatchWindowEnd s)

/-! ## Offline calibration (R118) -/

/-- The choice of smallest error, the lowest number on a tie. -/
def bestChoice (errs : List Nat) : Nat :=
  (List.range 9).foldl (fun b i => if errs.getD i 0 < errs.getD b 0 then i else b) 0

/-- The element choices of stages 0 to 5 as CAST_QUAL.ELEM shows them. -/
def elemWord (errors : List (List Nat)) : Nat :=
  (List.range 6).foldl (fun w i => w + bestChoice (errors.getD i []) <<< (4 * i)) 0

/-- A passing offline calibration of converter `c` stores its gains and choices (R118). -/
def State.offlinePass (s : State) (c : Nat) (errors : List (List Nat)) (gains : List Nat) : State :=
  let s := s.each (List.range 6) fun s i => s.wr Reg.CAL_STAGE_GAIN (gains.getD i 0) c i
  s.wr Reg.CAST_QUAL_ELEM (elemWord errors) 0 c

/-- CAST_OFFLINE_CAL_END: the 125 ms calibration ends with the stage errors of each of the nine choices and the stage
gains measured (R114, R118). -/
def castOfflineCalEnd (errors : List (List Nat)) (gains : List Nat) (s : State) : State :=
  match s.cast.offline with
  | none => s
  | some c =>
    if s.cast.aborting then s
    else
      let s := { s with cast := { s.cast with offline := none, eligible := false } }
      let s := s.worst c gains
      let pass := gains.all (gainWithin · 90 110)
      if c = 96 then
        if pass then
          let s := (s.offlinePass 96 errors gains).wr Reg.CAL_STATUS_STATE 1 96
          let s := (s.wrS Reg.CAL_TEMP_VALUE (s.ownT 96) 96).wr Reg.CAL_TIME_LO s.tb.ns 96
          let s := (s.wr Reg.CAST_QUAL_CAL_S (s.tb.ns / 1000000000) 0 96).setSuspect 96 false
          ((s.castServed 96).castOutcome 96 1).castIdle
        else
          let s := (s.wr Reg.CAL_STATUS_STATE 2 96).castOutcome 96 8
          ((s.castGo 6).raise Ev.CAST_OFFLINE_FAIL).raise Ev.CAST_SPARE_FAIL
      else if pass then
        let changed := s.rd Reg.CAST_QUAL_ELEM 0 c != elemWord errors
        let s := s.offlinePass c errors gains
        let s := { s with cast := { s.cast with elemChanged := changed } }
        (s.castGo 4).castSettle
      else
        let s := ((s.castRestore c).wr Reg.CAL_STATUS_STATE 2 c).castServed c
        let s := (s.castOutcome c 4).castGo 5
        (s.raise Ev.CAST_OFFLINE_FAIL).raise Ev.CAST_RETAINED

def execCastOfflineCalEnd (errors : List (List Nat)) (gains : List Nat) (s : State) :
    Host.Outcome State Fault Refusal := .next (s.powered fun s => castOfflineCalEnd errors gains s)

/-- OFFLINE_STEP_BOUNDARY: a 10 ms step boundary cuts an aborted calibration short (R125) or makes a forced conversion
of the converter eligible (R118). -/
def offlineStepBoundary (s : State) : State :=
  match s.cast.offline with
  | none => s
  | some c =>
    if s.cast.aborting then
      let s := ({ s with cast := { s.cast with offline := none, aborting := false, eligible := false } }).castRestore c
      if s.carrying then s.decideSwap true else s
    else { s with cast := { s.cast with eligible := (s.conv c).forced.isSome } }

def execOfflineStepBoundary (s : State) : Host.Outcome State Fault Refusal :=
  .next (s.powered fun s => offlineStepBoundary s)

/-! ## The next channel (R122, R123) -/

/-- The distance of channel `c` from its CAL_TEMP, signed 7.8, where the regional estimate is valid. -/
def State.thermalDiff (s : State) (c : Nat) : Option Nat :=
  (s.regionT c).map fun t => (t - s.rdS Reg.CAL_TEMP_VALUE c).natAbs

/-- The rank of a pending line channel: host 5, suspect 4, thermal 3 with its difference, state 2, interval 1.  A suspect,
thermal or state channel is pending while its condition holds, a host or interval one until it is served: DESIGN CHOICE,
assumption log 80. -/
def State.castRank (s : State) (c : Nat) : Option (Nat × Nat) :=
  if s.cast.host.contains c then some (5, 0)
  else if s.on Reg.PLAUS_STATUS_SUSPECT c then some (4, 0)
  else
    let thermal := match s.thermalDiff c with
      | some d => if s.on Reg.CAST_CTL_AUTO && decide (s.rd Reg.CAST_TRIG_DELTA * 16 < d) then some d else none
      | none => none
    match thermal with
    | some d => some (3, d)
    | none =>
      if s.rd Reg.CAL_STATUS_STATE c = 0 then some (2, 0)
      else if s.cast.interval.contains c then some (1, 0) else none

/-- The spare is due. -/
def State.spareDue (s : State) : Bool :=
  s.rd Reg.CAL_STATUS_STATE 96 != 1 || s.cast.host.contains 96 ||
    decide (s.rd Reg.CAST_TRIG_DELTA * 16 < (s.ownT 96 - s.rdS Reg.CAL_TEMP_VALUE 96).natAbs)

/-- The pending channel of highest rank among `l`, the lowest number on a tie. -/
def State.castPick (s : State) (l : List Nat) : Option Nat :=
  (l.foldl (fun (b : Option (Nat × Nat × Nat)) c =>
    match s.castRank c with
    | none => b
    | some r =>
      match b with
      | none => some (c, r)
      | some x => if x.2.1 < r.1 ∨ (x.2.1 = r.1 ∧ x.2.2 < r.2) then some (c, r) else b) none).map (·.1)

/-- The settings of channel `k` that the spare borrows, as group `g` has them in force (R112, R126). -/
def State.castSettings (s : State) (k : Nat) : List Nat :=
  let c := s.groupCfg (k / 8)
  [c.rd Reg.CHAN_CTL_REFMODE k, c.rd Reg.SCAN_MASK_RED k, c.rd Reg.SCAN_MASK_GREEN k, c.rd Reg.SCAN_MASK_BLUE k] ++
    (List.range 3).flatMap fun col => [c.rd Reg.CHAN_FE_RANGE k col, c.rd Reg.CHAN_FE_OFFSET k col]

/-- CAST_SELECT: Castling leaves IDLE for a due spare or for the pending channel of highest rank (R114, R122); a channel
that is disabled, or whose group is, aborts its cycle at once (R114, first row). -/
def castSelect (s : State) : State :=
  if s.castState != 0 || !s.on Reg.CAST_CTL_EN || !s.running || s.carrying || s.cast.swap.isSome ||
      s.cast.offline.isSome then s
  else if s.spareDue then
    ({ s with cast := { s.cast with offline := some 96 } }).castGo 1
  else
    let all := List.range 96
    let fresh := all.filter fun c => !s.cast.excess.any fun e => e.1 == c && decide (s.tb.ns < e.2)
    let pick := match s.castPick fresh with
      | some c => some c
      | none => s.castPick all
    match pick with
    | none => s
    | some k =>
      let s := { s with cast := { s.cast with connected := true, frozen := (s.conv k).trims, before := s.castBefore k,
                                              settings := s.castSettings k, elemChanged := false, fitted := none } }
      (((s.wr Reg.CAST_STATUS_CHAN k).castGo 2).castSettle).castReact

def execCastSelect (s : State) : Host.Outcome State Fault Refusal := .next (s.powered fun s => castSelect s)

/-- CAST_CTL.EN as it is in effect: a 0 written during a cycle waits for the cycle's end (R128). -/
def State.castEnabled (s : State) : Bool := s.on Reg.CAST_CTL_EN || decide (2 ≤ s.castState ∧ s.castState ≤ 4)

/-- CAST_REQ_GO: a channel becomes pending with rank host (R122, R123). -/
def castReqGo (v : Nat) (s : State) : State :=
  let c := v % 128
  if !v.testBit 30 then s
  else if 96 < c || !s.castEnabled then s.raise Ev.CAST_REQ_IGNORED
  else if s.cast.host.contains c then s
  else { s with cast := { s.cast with host := s.cast.host ++ [c] } }

def execCastReqGo (v : Word) (s : State) : Host.Outcome State Fault Refusal :=
  .next (s.powered fun s => castReqGo v.toNat s)

/-- CAST_REQ_RELEASE: a RETAINED spare is released from its channel (R114, R123). -/
def castReqRelease (v : Nat) (s : State) : State :=
  let c := v % 128
  if !v.testBit 31 then s
  else if s.castState != 5 || s.castChan != c then s.raise Ev.CAST_REQ_IGNORED
  else ((s.castOutcome c 9).castGo 0).decideSwap true

def execCastReqRelease (v : Word) (s : State) : Host.Outcome State Fault Refusal :=
  .next (s.powered fun s => castReqRelease v.toNat s)

/-- CAST_INTERVAL_DUE: INTERVAL_S has passed since channel `c`'s last calibration (R122). -/
def castIntervalDue (c : Nat) (s : State) : State :=
  if !s.on Reg.CAST_CTL_AUTO || (s.regionT c).isSome || s.rd Reg.CAST_TRIG_INTERVAL_S == 0 ||
      s.cast.interval.contains c then s
  else { s with cast := { s.cast with interval := s.cast.interval ++ [c] } }

def execCastIntervalDue (c : Fin 96) (s : State) : Host.Outcome State Fault Refusal :=
  .next (s.powered fun s => castIntervalDue c s)

/-- CAST_PEND_0 to 3 (R128). -/
def State.castPend (s : State) (i : Nat) : Nat :=
  if i = 3 then s.spareDue.toNat
  else ((List.range 32).map fun n => if (s.castRank (32 * i + n)).isSome then 2 ^ n else 0).sum

/-- TRIM_SLOT_WRITE: a host write to word `w` of slot `j` of channel `c` (R121, R130). -/
def trimSlotWrite (c j w v : Nat) (s : State) : State :=
  if s.inCycle c || (c == 96 && s.cast.connected) then s.raise Ev.CAST_TRIM_WRITE_REFUSED
  else if 4 ≤ w || (c == 96 && j != 0) then s
  else
    (s.hostWord (0x102 + c / 16) (0x100 + 0x80 * (c % 16) + 0x20 * j + 4 * w) v).wr Reg.TRIM_HOST 1 (c / 16) (c % 16) j

def execTrimSlotWrite (c : Fin 97) (j : Fin 4) (w : Fin 8) (v : Word) (s : State) :
    Host.Outcome State Fault Refusal := .next (s.powered fun s => trimSlotWrite c j w v.toNat s)

/-- CAST_SWAP_LINE_LO read: the pair is captured (R128). -/
def castSwapLineLoRead (agent sub width : Nat) (s : State) : State :=
  s.readPair agent 0x100 0x3C sub width
    (s.rdPair Reg.CAST_SWAP_LINE_LO_VALUE Reg.CAST_SWAP_LINE_HI_VALUE + s.rd Reg.CAST_SWAP_LINE_HI_BACK <<< 63)

def execCastSwapLineLoRead (agent : Agent) (sub : Fin 4) (width : Nat) (s : State) :
    Host.Outcome State Fault Refusal := .next (s.powered fun s => castSwapLineLoRead agent sub width s)

/-! ## Commands of the bank that Castling reacts to -/

/-- PLAUS_CHECK (R101, R102), with the abort for a SUSPECT spare (R114). -/
def execPlausCheck (s : State) : Host.Outcome State Fault Refusal := .next (s.powered fun s => (plausCheck s).castReact)

/-- BANK_CAL_DONE: the self-calibration ends with what it measured of each converter (R107); a RETAINED channel that
passes is handed back at once, and a passing spare ends NO_SPARE (R114). -/
def bankCalDone (results : List Measured) (s : State) : State :=
  if !s.on Reg.BANK_CAL_BUSY then s
  else
    let s := s.each ((List.range 97).zip results) State.calEnd
    let s := (s.wr Reg.BANK_CAL_BUSY 0).raise Ev.CH_BANK_CAL_DONE 96
    let k := s.castChan
    if s.castState = 5 ∧ s.rd Reg.CAL_STATUS_STATE k = 1 then ((s.castOutcome k 9).castGo 0).swapNow true
    else if s.castState = 6 ∧ s.rd Reg.CAL_STATUS_STATE 96 = 1 then s.castGo 0
    else s

def execBankCalDone (results : List Measured) (s : State) : Host.Outcome State Fault Refusal :=
  .next (s.powered fun s => bankCalDone results s)

/-! ## Line periods of a group, as its converters and Castling see them -/

/-- The read-out of group `g` that ends counts for the match; its pixels are accumulated unless it was made under the
fallback pattern or lacks words (R116, R124). -/
def State.castPeriodEnd (s : State) (g : Nat) : State :=
  let k := s.castChan
  let st := s.castState
  if !(st == 2 || st == 4) || k / 8 != g then s
  else
    match (s.group g).reads with
    | none => s
    | some y =>
      let r := s.readout y.1 k
      let q := s.readout y.1 96
      let used := r.complete && q.complete && !r.fb && !r.discarded
      if 0 < s.cast.settle then { s with cast := { s.cast with settle := s.cast.settle - 1 } }
      else if s.cast.lines < s.rd Reg.CAST_MATCH_LINES then
        { s with cast := { s.cast with
            lines := s.cast.lines + 1,
            acc := if used then matchWords s.cast.acc r.trims q.words r.words else s.cast.acc } }
      else s

/-- A line start meets a swap of channel k's group: it comes one line start nearer, held while the group runs the
fallback pattern (R115, R124), and a change of k's settings restarts the match (R126). -/
def State.castPeriodStart (s : State) (g : Nat) : State :=
  let k := s.castChan
  let s :=
    if k / 8 != g then s
    else
      match s.cast.swap with
      | none => s
      | some (back, n) =>
        if n ≤ 1 then if s.fallback g then s else s.swapNow back
        else { s with cast := { s.cast with swap := some (back, n - 1) } }
  let s := match s.cast.lineOwed, (s.group g).reads with
    | some c, some y =>
      if c / 8 == g then
        ({ s with cast := { s.cast with lineOwed := none } }).wrPair Reg.CAST_SWAP_LINE_LO_VALUE
          Reg.CAST_SWAP_LINE_HI_VALUE y.1
      else s
    | _, _ => s
  if k / 8 != g then s
  else
    let now := s.castSettings k
    if (s.castState == 2 || s.castState == 4) && s.cast.settings != now then
      ({ s with cast := { s.cast with settings := now } }).castSettle
    else s

/-- The channels' Opal weights for line `y`: those before the oldest exchange that takes effect after it (R144). -/
def State.mixesAt (s : State) (y : Nat) : Table OpalMix :=
  s.epochs.foldl (fun m e =>
    match e.mixes with
    | some q => if y < e.line then q.1 else m
    | none => m) s.opal.mixes

/-- The read-outs of a line period that starts: which converter makes each channel's words and with what trims, and the
channels that are disabled (R94, R109, R115). -/
def State.beginReadouts (s : State) (g : Nat) : State :=
  let x := s.group g
  let cfg := s.groupCfg g
  let extra := if s.cast.connected && s.castChan / 8 == g then [96] else []
  let s := s.each ((List.range 8).map (8 * g + ·) ++ extra) fun s c =>
    let s := s.putBuffer c { s.buffer c with count := 0, complete := false }
    match x.reads with
    | none => s
    | some y =>
      let conv := if c = 96 then (if s.carrying then s.castChan else 96) else s.carrierOf c
      s.putReadout y.1 c { time := y.2, fb := s.fallback g, conv := conv, trims := (s.conv conv).trims,
                           mix := tfind c (s.mixesAt y.1),
                           disabled := c != 96 && !cfg.on Reg.CHAN_CTL_EN c }
  let s := s.putLane g { s.lane g with overrun := false }
  match x.reads with
  | some y => if s.fallback g then s.mark y.1 g 6 else s
  | none => s

/-- The line period of group `g`, if there is one, ends as its converters see it: a CLAMP that was never high is missed
(R89), and the diagnostic sequences are cut (R97). -/
def State.convPeriodEnd (s : State) (g : Nat) : State :=
  let x := s.group g
  let s := s.when x.live (·.castPeriodEnd g)
  let extra := if s.cast.connected && s.castChan / 8 == g then [96] else []
  s.each ((List.range 8).map (8 * g + ·) ++ extra) fun s c =>
    let s := s.when (x.live && !x.clamped && s.convEnabled c &&
        refMode ((s.groupCfg g).rd Reg.CHAN_CTL_REFMODE (s.serves c)) == 0) (·.raise Ev.CH_CLAMP_MISS c)
    s.diagCut c (x.live && x.ran) g

/-- A whole line period of group `g` gives way to the next one (R56, R58). -/
def State.nextPeriod (s : State) (g : Nat) (line : Option (Nat × Nat)) : State :=
  let s := s.convPeriodEnd g
  let s := s.startPeriod g line
  (s.castPeriodStart g).beginReadouts g

end Sys2Proof.Machine
end

