-- ==== Sys2Proof/Machine/Pixel.lean ====
section
/-!
DEFINITION. The meanings of the chapter "Pixel correction, colour-row alignment and stitching" (R132 to R164): the Opal
images and their aperture, captures, the eight stages of a lane up to its output pixels, and the arithmetic of
paper-white tracking.
-/

namespace Sys2Proof.Machine

/-! ## The Opal region (R136, R140, R145, R151) -/

/-- The kind of a physical image: 0 an Opal set, 1 linearisation, 2 stitch weights. -/
def imageKind (p : Nat) : Nat := if p < 5 then 0 else if p < 7 then 1 else 2

/-- The ramp of R151 for overlap `o`; positions beyond the overlap hold 0. -/
def rampWeight (o i : Nat) : Nat := if i < o then (2 * (o - i) - 1) * 0x8000 / (2 * o) else 0

/-- A halfword of a weight image that nothing has written: the ramp of the overlaps. -/
def weightReset (overlaps : Store) (i : Nat) : Nat :=
  if i % 2 = 1 then 0 else rampWeight (sget overlaps (i / 128) 16) (i / 2 % 64)

/-- The reset content of a halfword of a physical image. -/
def State.imageReset (s : State) (p i : Nat) : Nat :=
  match imageKind p with
  | 0 => if i % 6 < 3 then 0 else 0x4000
  | 1 => if i % 4 = 3 then 0 else 64 * (i / 4 % 1024)
  | _ => weightReset s.opal.overlaps i

/-- A halfword of a physical image. -/
def State.half (s : State) (p i : Nat) : Nat := (tfind (p * 1048576 + i) s.opal.memory).getD (s.imageReset p i)

/-- A halfword of a physical image, written; reserved halfwords stay 0. -/
def State.putHalf (s : State) (p i v : Nat) : State :=
  let reserved := match imageKind p with
    | 0 => false
    | 1 => i % 4 == 3
    | _ => i % 2 == 1
  if reserved then s
  else { s with opal := { s.opal with memory := tput (p * 1048576 + i) (v % 65536) s.opal.memory } }

/-- The roles of the images for line `y` (R144, R146). -/
def State.rolesAt (s : State) (y : Nat) : List Nat :=
  s.epochs.foldl (fun r e => if y < e.line then e.roles else r) s.opal.roles

/-- The bytes of an image (R140). -/
def imageSize (image : Nat) : Nat :=
  if image < 5 then 1179648 else if image < 7 then 786432 else if image < 9 then 24576 else 0

/-- What has been written of the weight image in force. -/
def State.weightsNow (s : State) : Store :=
  let p := s.opal.roles.getD 8 8
  s.opal.memory.filter fun e => e.1 / 1048576 == p

/-- The weights and the ramp in force for line `y`: those before the oldest commit that takes effect after it. -/
def State.weightsAt (s : State) (y : Nat) : Store × Store :=
  s.epochs.foldl (fun w e => if y < e.line then (e.weights, e.overlaps) else w) (s.weightsNow, s.opal.overlaps)

/-- The weight W[j][i] of an image: above 0x8000 it takes effect as 0x8000 (R151). -/
def weightOf (w : Store × Store) (j i : Nat) : Nat :=
  let h := 2 * (64 * j + i)
  min 0x8000 (((w.1.find? fun e => e.1 % 1048576 == h).map (·.2)).getD (weightReset w.2 h))

/-! ## Opal weights by temperature (R137) -/

/-- The page instance of the headers of a role: slots 0 to 3, then the staging set (R163). -/
def headerOf (role : Nat) : Nat := if role = 0 then 4 else role - 1

/-- The valid slots of channel `c` as (temperature, physical image), by temperature. -/
def State.validSets (s : State) (c : Nat) : List (Int × Nat) :=
  (((List.range 4).filter fun j => s.on Reg.OPAL_HDR_VALID j c).map fun j =>
    (s.rdS Reg.OPAL_HDR_TEMP j c, s.opal.roles.getD (j + 1) 0)).mergeSort fun a b => decide (a.1 ≤ b.1)

/-- The sets and weight of channel `c` at its T; none without a valid slot. -/
def State.mixOf (s : State) (c : Nat) : Option OpalMix :=
  match s.validSets c with
  | [] => none
  | l =>
    let m := mixAt (l.map (·.1)) (s.chanT c)
    some { low := (l.getD m.1 (0, 0)).2, high := (l.getD m.2.1 (0, 0)).2, weight := m.2.2 }

/-- The weights of all channels, evaluated now. -/
def State.evalMixes (s : State) : Table OpalMix :=
  (List.range 96).filterMap fun c => (s.mixOf c).map fun m => (c, m)

/-- The evaluation at a line start (R137): it applies from the second line start after. -/
def State.queueMixes (s : State) : State :=
  { s with opal := { s.opal with next := s.opal.next ++ [(2, s.evalMixes)] } }

/-- Evaluated weights come one line start nearer, and those that are due apply. -/
def stepMix (m : Table OpalMix × List (Nat × Table OpalMix)) : Table OpalMix × List (Nat × Table OpalMix) :=
  let l := m.2.map fun e => (e.1 - 1, e.2)
  (((l.filter fun e => e.1 == 0).getLast?.map (·.2)).getD m.1, l.filter fun e => e.1 != 0)

/-- A line start for the weights in force, and for those of the sets before an installation, which lines below it still
use. -/
def State.stepMixes (s : State) : State :=
  let m := stepMix (s.opal.mixes, s.opal.next)
  { s with opal := { s.opal with mixes := m.1, next := m.2 },
           epochs := s.epochs.map fun e => { e with mixes := e.mixes.map stepMix } }

/-! ## Stages 1 to 4 (R119, R137 to R139, R145) -/

/-- Dark offset and shading gain of a raw pixel and colour under a mix; 0 and 0x4000 without one. -/
def State.darkGain (s : State) (mix : Option OpalMix) (c n col : Nat) : Int × Int :=
  match mix with
  | none => (0, 0x4000)
  | some m =>
    let i := 6 * (1024 * c + n) + col
    (mixValue (signed 16 (s.half m.low i)) (signed 16 (s.half m.high i)) m.weight,
      mixValue (s.half m.low (i + 3)) (s.half m.high (i + 3)) m.weight)

/-- The shaded value (R139). -/
def shade (t : Nat) (dark gain : Int) : Nat := (sat (rnd (((t : Int) + dark) * gain) 14) 0 65535).toNat

/-- The linear value (R145); `l` gives the table. -/
def linearise (l : Nat → Nat) (v : Nat) : Nat :=
  let i := v / 64
  let f : Int := (v % 64 : Nat)
  let a : Int := l i
  let d : Int := if i < 1023 then (l (i + 1) : Int) - l i else (l 1023 : Int) - l 1022
  (sat (a + rnd (d * f) 6) 0 65535).toNat

/-- A word through stages 1 to 4: the linear value, and OVR. -/
def State.linear (s : State) (r : Readout) (c n col word : Nat) (lin : Option Nat) : Nat × Bool :=
  let t := trimSample (word % 16384) (r.trims.getD col {})
  let dg := s.darkGain r.mix c n col
  let v := shade t dg.1 dg.2
  (match lin with
   | none => v
   | some p => linearise (fun i => s.half p (4 * (1024 * c + i) + col)) v, decide (16384 ≤ word))

/-- What stands for one colour in a list of a read-out's words, newest first, in pixel order. -/
def colourPart {α : Type} (l : List α) (col : Nat) : List α :=
  ((l.reverse.zipIdx).filter fun e => e.2 % 3 == col).map (·.1)

/-- The words of one colour of a read-out, in pixel order. -/
def Readout.colour (r : Readout) (col : Nat) : List Nat := colourPart r.words col

/-- A word that has just reached channel `c`'s read-out of line `y` goes through stages 1 to 4 under the configuration in
force for line `y` (R133). -/
def State.correct (s : State) (y c : Nat) : State :=
  let r := s.readout y c
  let i := r.lin.length
  match r.words with
  | [] => s
  | w :: rest =>
    if rest.length ≠ i then s
    else
      let lin := if (s.atLine y).on Reg.LANE_CTL_LIN_EN (c / 8) then some ((s.rolesAt y).getD 6 6) else none
      s.putReadout y c { r with lin := s.linear r c (i / 3) (i % 3) w lin :: r.lin }

/-- What reached a lane from converter `c` is corrected. -/
def State.correctNew (s : State) (c : Nat) : State :=
  match (s.convGroup c).bind fun g => (s.group g).reads with
  | some y => if s.wordsTo c < 96 then s.correct y.1 (s.wordsTo c) else s
  | none => s

/-- CONVERTER_WORD: a word crosses into the lane, which corrects it (R45, R94, R132). -/
def execConverterWord (c : Fin 97) (red green blue : Sample) (s : State) : Host.Outcome State Fault Refusal :=
  .next (s.powered fun s => (converterWord c ⟨red.held, green.held, blue.held⟩ ⟨red.level, green.level, blue.level⟩ s).correctNew c)

/-! ## Colour-row alignment (R147 to R149) -/

/-- The delay that stands at `i` of a list of three. -/
def delayAt (d : List Nat) (i : Nat) : Nat := d.getD i 0

/-- The row of the smaller of the two delays above 0; the later colour when they are equal. -/
def smallerRow (d : List Nat) : Option Nat :=
  match (List.range 3).filter fun i => decide (0 < delayAt d i) with
  | [a, b] => some (if delayAt d a < delayAt d b then a else b)
  | _ => none

/-- The delays as they take effect, and whether they were adjusted (R147). -/
def rowDelays (d0 : List Nat) : List Nat × Bool :=
  let m := min (delayAt d0 0) (min (delayAt d0 1) (delayAt d0 2))
  let d1 := d0.map (· - m)
  let d2 := d1.map (min 8192)
  let d3 := match smallerRow d2 with
    | some i => d2.set i (min 4096 (delayAt d2 i))
    | none => d2
  let d4 := d3.map fun v => if 0 < v then max 256 v else v
  (d4, d4 != d0)

/-- The delays of channel `c` under settings `cfg`. -/
def State.delaysOf (cfg : State) (c : Nat) : List Nat × Bool :=
  if cfg.on Reg.LANE_CTL_ALIGN_EN (c / 8) then
    rowDelays [cfg.rd Reg.CHAN_ROW_DELAY_RED (c / 8) (c % 8), cfg.rd Reg.CHAN_ROW_DELAY_GREEN (c / 8) (c % 8),
      cfg.rd Reg.CHAN_ROW_DELAY_BLUE (c / 8) (c % 8)]
  else ([0, 0, 0], false)

/-- The lines and coefficients of a delay for output line `y` (R148), those of coefficient 0 left out. -/
def rowTaps (d y : Nat) : List (Int × Int) :=
  let di := d / 256
  let df := d % 256
  if df = 0 then [((y : Int) - di, 16384)]
  else
    let u : Int := 256 - df
    let a : Int := (y : Int) - di - 1
    let c2 := rnd (u * u * u - 256 * u * u) 11
    let cm1 := rnd (-(u * u * u) + 512 * u * u - 65536 * u) 11
    let c1 := rnd (-3 * (u * u * u) + 1024 * u * u + 65536 * u) 11
    [(a - 1, cm1), (a, 16384 - cm1 - c1 - c2), (a + 1, c1), (a + 2, c2)].filter fun t => t.2 != 0

/-- The lane has taken line `j` of channel `c` whole: not discarded, and not made under the fallback pattern. -/
def State.taken (s : State) (c : Nat) (j : Nat) : Bool :=
  match tfind (readoutKey j c) s.readouts with
  | none => false
  | some r => r.complete && !r.discarded && !r.fb && !r.disabled

/-- The lane's alignment history has line `j` of channel `c` (R149, R419). -/
def State.present (s : State) (c : Nat) (j : Nat) : Bool := s.taken c j && decide ((s.lane (c / 8)).histFrom ≤ j)

/-- The line that stands for line `j` of an output line `y`: itself, else the nearest later one below `stop`, else line
`y`, else the nearest earlier one of the `held` lines; and whether it is a replacement (R149). -/
def sourceLine (present : Nat → Bool) (j : Int) (y stop held : Nat) : Option Nat × Bool :=
  if 0 ≤ j ∧ present j.toNat then (some j.toNat, false)
  else
    let from' := (j + 1).toNat
    match ((List.range (stop - from')).map (from' + ·)).find? present with
    | some k => (some k, true)
    | none =>
      if present y then (some y, true)
      else (((List.range (min y (held - 1))).map fun i => y - 1 - i).find? present, true)

/-- The lines that the alignment buffer holds of colour `col` under delays `d` (R148). -/
def heldLines (d : List Nat) (col : Nat) : Nat :=
  if delayAt d col = 0 then 0 else if smallerRow d = some col then 19 else 35

/-- One colour of output line `y` of channel `c`: values with OVR, whether a needed read-out carried FB, and whether a
replacement was used. -/
def State.alignColour (s : State) (c col y pixels : Nat) (d : List Nat) : List (Nat × Bool) × Bool × Bool :=
  let taps := rowTaps (delayAt d col) y
  let srcs := taps.map fun t => (t.2, sourceLine (s.present c) t.1 y (y + 1 - delayAt d col / 256) (heldLines d col))
  let fb := taps.any fun t => decide (0 ≤ t.1) && (s.readout t.1.toNat c).fb
  let replaced := srcs.any (·.2.2)
  let zero : List (Int × Bool) := List.replicate pixels (0, false)
  let sums := srcs.foldl (fun acc e =>
    match e.2.1 with
    | none => acc
    | some j =>
      List.zipWith (fun (a : Int × Bool) (x : Nat × Bool) => (a.1 + e.1 * x.1, a.2 || x.2)) acc
        (colourPart (s.readout j c).lin col ++ List.replicate pixels (0, false))) zero
  (sums.map fun a => ((sat (rnd a.1 14) 0 65535).toNat, a.2), fb, replaced)

/-! ## Stitching (R150 to R152) -/

/-- PIXELS of segment `j` and its overlap with the next one, under settings `cfg`. -/
def State.segPixels (cfg : State) (j : Nat) : Nat := cfg.rd Reg.SG_GEOM_PIXELS (j / 8)

def State.segOverlap (cfg : State) (j : Nat) : Nat := min 64 (cfg.rd Reg.CHAN_GEOM_OVERLAP (j / 8) (j % 8))

/-- X_j, the output position at which segment `j` starts. -/
def State.segStart (cfg : State) (j : Nat) : Nat :=
  (List.range j).foldl (fun x i => x + cfg.segPixels i - cfg.segOverlap i) 0

/-- The device's output width W = X_95 + PIXELS_95. -/
def State.outWidth (cfg : State) : Nat := cfg.segStart 95 + cfg.segPixels 95

/-- The device has a neighbour to the east, or to the west, on its cascade. -/
def State.eastNeighbour (s : State) : Bool :=
  s.cascaded && decide (s.rd Reg.IK_STATUS_POS + 1 < s.rd Reg.IK_STATUS_NDEV)

def State.westNeighbour (s : State) : Bool := s.cascaded && s.on Reg.IK_STATUS_POS

/-- The x base of the device: 0 for one that runs alone (R13, R536, R541). -/
def State.xBase (s : State) : Nat := if s.cascaded then s.rd Reg.IK_XBASE_X else 0

/-- The output positions that the joint with the western device takes (R536). -/
def State.westOverlap (s : State) : Nat :=
  if s.westNeighbour then s.rd Reg.IK_XSTART_X - s.rd Reg.IK_XBASE_X else 0

/-- A channel's pixels of an output line after stage 5. -/
structure ChanLine where
  /-- Colours and CLIP, by position m after the mirror. -/
  pixels : List (List Nat × Bool)
  fb : Bool
  noset : Bool
  replaced : Bool
  disabled : Bool
  /-- Absent from a joint, or its line discarded (R152). -/
  absent : Bool
  lost : Bool
  /-- The smallest coverage code of the channel, 0 for none (R227). -/
  code : Nat

/-- The least of the codes that apply; 0 where none does. -/
def leastCode (l : List Nat) : Nat :=
  l.foldl (fun b c => if c = 0 then b else if b = 0 ∨ c < b then c else b) 0

/-- Coverage codes of line `y` for lane `k` (R227). -/
def State.lineCode (s : State) (y k : Nat) : Nat :=
  leastCode (((s.line y).codes.filter fun e => e.1 == 12 || e.1 == k).map (·.2))

/-- Line `y` lies within a capture (R142). -/
def State.inCapture (s : State) (y : Nat) : Bool :=
  s.opal.captures.any fun e => decide (e.1 ≤ y) && (match e.2 with
    | some l => decide (y ≤ l)
    | none => true)

/-- Stage 5 for channel `c` and output line `y`. -/
def State.chanLine (s : State) (c y : Nat) : ChanLine :=
  let cfg := s.atLine y
  let px := cfg.segPixels c
  let r := s.readout y c
  let disabled := !cfg.on Reg.SG_CTL_EN (c / 8) || !cfg.on Reg.CHAN_CTL_EN c
  let noset := if (tfind (readoutKey y c) s.readouts).isSome then r.mix.isNone else (tfind c (s.mixesAt y)).isNone
  if disabled then
    { pixels := List.replicate px ([0, 0, 0], false), fb := false, noset := false, replaced := false, disabled := true,
      absent := true, lost := false, code := leastCode [1, s.lineCode y (c / 8)] }
  else
    let d := (cfg.delaysOf c).1
    let a := s.alignColour c 0 y px d
    let b := s.alignColour c 1 y px d
    let e := s.alignColour c 2 y px d
    let pix := List.zipWith (fun p q => ([p.1, q.1.1, q.2.1], p.2 || q.1.2 || q.2.2)) a.1 (b.1.zip e.1)
    let fb := a.2.1 || b.2.1 || e.2.1
    let replaced := a.2.2 || b.2.2 || e.2.2
    { pixels := if cfg.on Reg.CHAN_GEOM_MIRROR (c / 8) (c % 8) then pix.reverse else pix
      fb := fb, noset := noset, replaced := replaced, disabled := false, absent := r.fb, lost := r.discarded || (s.line y).codes.contains (c / 8, 5)
      code := leastCode [s.lineCode y (c / 8), if fb || r.fb then 6 else 0, if s.inCapture y then 7 else 0,
        if noset then 8 else 0, if r.uncal then 9 else 0, if r.suspect then 10 else 0, if replaced then 11 else 0] }

/-- The flags that a channel's pixel carries. -/
def ChanLine.flags (l : ChanLine) (clip : Bool) : Nat := clip.toNat + 2 * l.fb.toNat + 4 * l.noset.toNat

/-- A pixel of one segment at position `m`. -/
def ChanLine.pixel (l : ChanLine) (m : Nat) : Pixel :=
  let p := l.pixels.getD m ([0, 0, 0], false)
  { pre := p.1, flags := l.flags p.2, code := l.code }

/-- A joint pixel from the left one at `m` and the right one at `i`, weight `wl` of the left (R151, R152); `right` tells
whether the right side can be used. -/
def jointPixel (left right : ChanLine) (m i wl : Nat) : Pixel :=
  let useL := !left.absent && !left.lost
  let useR := !right.absent && !right.lost
  let a := left.pixel m
  let b := right.pixel i
  if useL && useR then
    let wr := 0x8000 - wl
    let p := left.pixels.getD m ([0, 0, 0], false)
    let q := right.pixels.getD i ([0, 0, 0], false)
    { pre := List.zipWith (fun (x y : Nat) => (rnd ((wl : Int) * x + (wr : Int) * y) 15).toNat) a.pre b.pre
      flags := left.flags (p.2 && wl != 0) ||| right.flags (q.2 && wr != 0)
      joint := true
      code := leastCode [if wl = 0 then 0 else a.code, if wr = 0 then 0 else b.code] }
  else if useL || !useR then { a with joint := true, flags := if useL then a.flags + 8 else a.flags }
  else { b with joint := true, flags := b.flags + 8 }

/-- The eastern device's part of a cascade joint as a channel line (R545).  The high four bits of a pixel's flag byte carry
its channel's coverage code, 1 where it is disabled and 15 where its line was discarded: DESIGN CHOICE, assumption log 81. -/
def JointPart.line (p : Option JointPart) : ChanLine :=
  match p with
  | none => { pixels := [], fb := false, noset := false, replaced := false, disabled := false, absent := true,
              lost := true, code := 0 }
  | some q =>
    let fb := q.pixels.any fun e => e.2.testBit 1
    let code := (((q.pixels.head?).map (·.2)).getD 0) / 16 % 16
    { pixels := q.pixels.map fun e => (e.1, e.2.testBit 0), fb := fb, noset := q.pixels.any fun e => e.2.testBit 2,
      replaced := code == 11, disabled := code == 1, absent := fb || code == 1, lost := code == 15,
      code := leastCode [if code = 15 then 0 else code, if fb then 6 else 0] }

/-! ## Stages 7 and 8 (R155, R156) -/

/-- A colour's gain of a segment. -/
def PwGain.get (g : PwGain) (col : Nat) : Nat :=
  match col with
  | 0 => g.red
  | 1 => g.green
  | _ => g.blue

/-- The gains in force for line `y`: those of the greatest line not after it, the newest of equals (R154). -/
def PaperWhite.at (p : PaperWhite) (y : Nat) : List PwGain :=
  (p.gains.foldl (fun (b : Option (Nat × List PwGain)) e =>
    if e.1 ≤ y then
      match b with
      | none => some e
      | some x => if x.1 < e.1 then some e else b
    else b) none).elim [] (·.2)

/-- MODE in force for line `y`: that of the window which holds it (R155, R164). -/
def PaperWhite.modeAt (p : PaperWhite) (y : Nat) : Nat :=
  p.windows.foldl (fun m w => if w.start ≤ y then w.settings.getD 0 1 else m) 1

/-- Stage 7 on one colour. -/
def trackValue (v g : Nat) : Nat := (sat (rnd ((v : Int) * g) 14) 0 65535).toNat

/-- Stage 8 (R156). -/
def matrixRow (m : List Int) (off : Int) (v : List Nat) : Nat :=
  (sat (rnd ((List.zipWith (fun (a : Int) (b : Nat) => a * b) m v).sum) 12 + off) 0 65535).toNat

/-- The matrix of lane `k` under settings `cfg`, applied. -/
def State.matrix (cfg : State) (k : Nat) (v : List Nat) : List Nat :=
  if cfg.on Reg.LANE_CTL_MTX_EN k then
    (List.range 3).map fun r =>
      matrixRow [cfg.rdS Reg.LANE_MTX_C0 k r, cfg.rdS Reg.LANE_MTX_C1 k r, cfg.rdS Reg.LANE_MTX_C2 k r]
        (cfg.rdS Reg.LANE_MTX_OFF k r) v
  else v

/-- Stages 7 and 8 on an output pixel with the three gains that apply to it; disabled pixels stay 0. -/
def State.finish (cfg : State) (k : Nat) (gains : List Nat) (p : Pixel) : Pixel :=
  if p.code = 1 then { p with rgb := [0, 0, 0] }
  else { p with rgb := cfg.matrix k (List.zipWith trackValue p.pre gains) }

/-- The gains in a joint: blended with the joint's weight (R155). -/
def blendGain (w a b : Nat) : Nat := (rnd ((w : Int) * a + ((0x8000 - w : Nat) : Int) * b) 15).toNat

/-- The output line `y` of lane `k` (R132 to R158). -/
def State.outputLine (s : State) (k y : Nat) : OutLine :=
  let cfg := s.atLine y
  let weights := s.weightsAt y
  let gainsAt := s.pw.at y
  let track := s.pw.modeAt y != 0 && cfg.on Reg.LANE_CTL_PW_EN k
  let gain := fun (j : Nat) => if track then (List.range 3).map (gainsAt.getD j {}).get else [0x4000, 0x4000, 0x4000]
  let lines := (List.range 9).map fun i =>
    if 8 * k + i < 96 then s.chanLine (8 * k + i) y else JointPart.line (tfind y s.joints)
  let east := decide (k < 11) || s.eastNeighbour
  let none' : ChanLine := JointPart.line none
  let pixels := (List.range 8).flatMap fun i =>
    let j := 8 * k + i
    let own := lines.getD i none'
    let nxt := lines.getD (i + 1) none'
    let px := cfg.segPixels j
    let o := if j < 95 || east then cfg.segOverlap j else 0
    let from' := if j = 0 then s.westOverlap else cfg.segOverlap (j - 1)
    ((List.range (px - o - from')).map fun n => cfg.finish k (gain j) (own.pixel (from' + n))) ++
      (List.range o).map fun n =>
        let w := weightOf weights j n
        cfg.finish k (List.zipWith (blendGain w) (gain j) (gain (j + 1))) (jointPixel own nxt (px - o + n) n w)
  { first := cfg.segStart (8 * k) + (if k = 0 then s.westOverlap else cfg.segOverlap (8 * k - 1))
    time := (s.line y).time, gen := s.genAt y, pixels := pixels, capture := s.inCapture y
    incomplete := (lines.take 8).any (·.replaced) ||
      (let e := lines.getD 8 none'
       e.replaced && !e.absent && !e.lost && (decide (k < 11) || s.eastNeighbour) && cfg.segOverlap (8 * k + 7) != 0) }

/-! ## Captures (R141 to R143) -/

/-- A capture is in progress. -/
def State.capturing (s : State) : Bool := s.on Reg.OPAL_CAP_STATUS_STATE

/-- OPAL_CAP_GO: a capture of N lines begins, or is ignored. -/
def opalCapGo (v : Nat) (s : State) : State :=
  if !v.testBit 0 then s
  else if s.capturing || !s.running || s.opal.writes.any fun w => w.1 == s.opal.roles.getD 0 0 then
    s.raise Ev.OPAL_CAP_IGNORED
  else
    let kind := bitsOf v 1 1
    let start := s.lt.line + 64
    let s := { s with opal := { s.opal with kind := kind, linesLog := max 4 (min 12 (bitsOf v 2 4)), start := start,
                                            captures := (start, none) :: s.opal.captures } }
    let s := (s.wr Reg.OPAL_CAP_STATUS_STATE 1).wr Reg.OPAL_CAP_STATUS_KIND kind
    (s.wr Reg.OPAL_CAP_START_LO start).wr Reg.OPAL_CAP_STATUS_LINES 0

def execOpalCapGo (v : Word) (s : State) : Host.Outcome State Fault Refusal :=
  .next (s.powered fun s => opalCapGo v.toNat s)

/-- The read-outs of channel `c` that a capture accumulates, oldest first, at most N (R141). -/
def State.captureLines (s : State) (c : Nat) : List Readout :=
  (((List.range (s.lt.line - s.opal.start)).map (s.opal.start + ·)).filter (s.taken c)).take (2 ^ s.opal.linesLog)
    |>.map fun y => s.readout y c

/-- The channels that must accumulate: the enabled channels of enabled groups. -/
def State.capChannels (s : State) : List Nat :=
  (List.range 96).filter fun c => s.groupOn (c / 8) && s.on Reg.CHAN_CTL_EN c

/-- Fewest read-outs accumulated by any enabled channel. -/
def State.capFewest (s : State) : Nat :=
  match s.capChannels.map fun c => (s.captureLines c).length with
  | [] => 0
  | a :: l => l.foldl min a

/-- The result of one raw pixel and colour (R143): the halfword written, and whether it saturated; `dark` is the staged
dark offset. -/
def captureValue (kind linesLog target : Nat) (sum : Nat) (dark : Int) : Nat × Bool :=
  let mean := rnd sum linesLog
  if kind = 0 then (low 16 (sat (-mean) (-32768) 32767), false)
  else
    let w := mean + dark
    if w ≤ 0 then (0xFFFF, true)
    else
      let g := quot ((target : Int) * 2 ^ 14 + quot w 2) w
      if 0xFFFF < g then (0xFFFF, true) else (g.toNat, false)

/-- The staged channel `c` from its read-outs: the state, and the clipped and saturated pixels added. -/
def State.captureChannel (s : State) (c : Nat) : State :=
  let rs := s.captureLines c
  let img := s.opal.roles.getD 0 0
  let px := s.segPixels c
  let s := s.each (List.range 3) fun s col =>
    let target := match col with
      | 0 => s.rd Reg.OPAL_CAP_TARGET_A_RED
      | 1 => s.rd Reg.OPAL_CAP_TARGET_A_GREEN
      | _ => s.rd Reg.OPAL_CAP_TARGET_B_BLUE
    let cols : List (List Nat) := rs.map fun r => (r.colour col).map fun w => trimSample (w % 16384) (r.trims.getD col {})
    let sums : List Nat := cols.foldl (fun acc l => List.zipWith (fun (x y : Nat) => x + y) acc l) (List.replicate px 0)
    s.each sums.zipIdx fun (s : State) (e : Nat × Nat) =>
      let i := 6 * (1024 * c + e.2) + col
      let r := captureValue s.opal.kind s.opal.linesLog target e.1 (signed 16 (s.half img i))
      (s.putHalf img (if s.opal.kind = 0 then i else i + 3) r.1).when r.2 (·.inc Reg.OPAL_CAP_BAD_COUNT)
  let clipped := (List.range px).filter fun n =>
    (List.range 3).any fun col => rs.any fun r => decide (16384 ≤ (r.colour col).getD n 0)
  let s := s.wr Reg.OPAL_CAP_CLIPPED_COUNT (s.rd Reg.OPAL_CAP_CLIPPED_COUNT + clipped.length)
  (s.wr Reg.OPAL_HDR_VALID s.opal.kind 4 c).wrS Reg.OPAL_HDR_TEMP (s.chanT c) 4 c

/-- A capture ends with outcome 1 DONE, 2 SHORT or 3 ABORTED. -/
def State.captureEnd (s : State) (outcome : Nat) : State :=
  let last := s.lt.line - 1
  let s := s.wr Reg.OPAL_CAP_STATUS_LINES s.capFewest
  let s := (s.wr Reg.OPAL_CAP_STATUS_STATE 0).wr Reg.OPAL_CAP_STATUS_OUTCOME outcome
  let s := { s with opal := { s.opal with captures := s.opal.captures.map fun (e : Nat × Option Nat) =>
                                            match e.2 with
                                            | none => (e.1, some last)
                                            | some _ => e } }
  s.raise (if outcome = 1 then Ev.OPAL_CAP_DONE else if outcome = 2 then Ev.OPAL_CAP_SHORT else Ev.OPAL_CAP_ABORTED)

/-- OPAL_CAP_END: the capture is DONE when every channel has its N read-outs, SHORT when its line y_start + 2N - 1 ends
first (R141, R143). -/
def opalCapEnd (s : State) : State :=
  if !s.capturing then s
  else
    let n := 2 ^ s.opal.linesLog
    if n ≤ s.capFewest then
      let s := (s.wr Reg.OPAL_CAP_CLIPPED_COUNT 0).when (s.opal.kind == 1) (·.wr Reg.OPAL_CAP_BAD_COUNT 0)
      let full := (List.range 96).filter fun c => decide (n ≤ (s.captureLines c).length)
      (s.each full State.captureChannel).captureEnd 1
    else if s.opal.start + 2 * n < s.lt.line then s.captureEnd 2
    else s

def execOpalCapEnd (s : State) : Host.Outcome State Fault Refusal := .next (s.powered fun s => opalCapEnd s)

/-- The stop of a run ends a capture ABORTED (R142). -/
def State.captureStop (s : State) : State := if s.capturing then s.captureEnd 3 else s

/-! ## The transfer aperture (R162) -/

/-- The byte of the image that the window's word `w` stands for. -/
def State.xferByte (s : State) (w : Nat) : Nat := 2048 * s.rd Reg.XFER_ADDR_ADDR + 4 * w

/-- A word of an image: the newest pending write to it, else what is stored. -/
def State.imageWord (s : State) (p byte : Nat) : Nat :=
  match s.opal.writes.reverse.find? fun e => e.1 == p && e.2.1 == byte with
  | some e => e.2.2
  | none => s.half p (byte / 2) + s.half p (byte / 2 + 1) <<< 16

/-- An access to the last word of the window advances ADDR. -/
def State.xferAdvance (s : State) (w : Nat) : State :=
  s.when (w == 511) fun t => t.wr Reg.XFER_ADDR_ADDR (t.rd Reg.XFER_ADDR_ADDR + 1)

/-- A read of the window's word `w`. -/
def xferRead (w : Nat) (s : State) : State × Nat :=
  let image := s.rd Reg.XFER_IMAGE_IMAGE
  let b := s.xferByte w
  if imageSize image ≤ b then ((s.raise Ev.XFER_RANGE).xferAdvance w, 0)
  else (s.xferAdvance w, s.imageWord (s.opal.roles.getD image 0) b)

/-- A write to an image is refused: it is read-only, locked by a commit, or the staging set during a capture. -/
def State.xferRefused (s : State) (image : Nat) : Bool :=
  match image with
  | 0 => s.opal.lockSet || s.capturing
  | 5 => s.opal.lockLin
  | 7 => s.opal.lockWgt
  | _ => true

/-- A write of the window's word `w`: it is pending until XFER_WRITE_STORED. -/
def xferWrite (w v : Nat) (s : State) : State :=
  let image := s.rd Reg.XFER_IMAGE_IMAGE
  let b := s.xferByte w
  if imageSize image ≤ b then (s.raise Ev.XFER_RANGE).xferAdvance w
  else if s.xferRefused image then (s.raise Ev.XFER_REFUSED).xferAdvance w
  else
    ({ s with opal := { s.opal with writes := s.opal.writes ++ [(s.opal.roles.getD image 0, b, v)],
                                    weightsOwned := s.opal.weightsOwned || image == 7 } }).xferAdvance w

/-- An access to the Opal aperture: a read or a write of `width` bytes at byte `sub`
of the window's word `w`. -/
def xferWindowAccess (agent w sub width : Nat) (value : Option Nat) (s : State) : State :=
  let o := 0x800 + 4 * w
  match value with
  | none =>
    s.readAccess agent 0x141 o sub width (xferRead w) (if w = 511 then fun t => (t, 0) else xferRead (w + 1))
  | some v =>
    s.storeAccess agent 0x141 o sub width v (xferWrite w) fun v t => if w = 511 then t else xferWrite (w + 1) v t

/-- XFER_WRITE_STORED: the oldest pending write is stored. -/
def xferWriteStored (s : State) : State :=
  match s.opal.writes with
  | [] => s
  | (p, b, v) :: l =>
    let s := { s with opal := { s.opal with writes := l } }
    (s.putHalf p (b / 2) (v % 65536)).putHalf p (b / 2 + 1) (v / 65536)

def execXferWriteStored (s : State) : Host.Outcome State Fault Refusal := .next (s.powered fun s => xferWriteStored s)

/-! ## The exchanges of a commit (R144, R146, R151) -/

/-- Two entries of a list of roles change places. -/
def swapRoles (l : List Nat) (a b : Nat) : List Nat := (l.set a (l.getD b 0)).set b (l.getD a 0)

/-- The staged table headers of channel `c` and those of slot `slot` exchange places. -/
def State.swapHeaders (slot : Nat) (s : State) (c : Nat) : State :=
  let a := (s.rd Reg.OPAL_HDR_TEMP 4 c, s.rd Reg.OPAL_HDR_VALID 4 c)
  let b := (s.rd Reg.OPAL_HDR_TEMP slot c, s.rd Reg.OPAL_HDR_VALID slot c)
  let s := (s.wr Reg.OPAL_HDR_TEMP b.1 4 c).wr Reg.OPAL_HDR_VALID b.2 4 c
  (s.wr Reg.OPAL_HDR_TEMP a.1 slot c).wr Reg.OPAL_HDR_VALID a.2 slot c

/-- The mixes of the gain tables in force are evaluated. -/
def State.remix (s : State) : State := { s with opal := { s.opal with mixes := s.evalMixes, next := [] } }

/-- The exchange of the gain tables that INSTALL asks for. -/
def State.opalInstall (s : State) : State :=
  let slot := s.rd Reg.OPAL_CTL_INSTALL_SLOT
  let s := { s with opal := { s.opal with roles := swapRoles s.opal.roles 0 (slot + 1), lockSet := false } }
  let s := (s.each (List.range 96) (State.swapHeaders slot)).remix
  ((s.wr Reg.OPAL_CTL_INSTALL 0).shadowWr Reg.OPAL_CTL_INSTALL 0).raise Ev.OPAL_INSTALLED

/-- The exchange of the linearity tables. -/
def State.opalLinSwap (s : State) : State :=
  let s := { s with opal := { s.opal with roles := swapRoles s.opal.roles 5 6, lockLin := false } }
  ((s.wr Reg.OPAL_CTL_LIN_SWAP 0).shadowWr Reg.OPAL_CTL_LIN_SWAP 0).raise Ev.OPAL_SWAPPED

/-- The exchange of the weight tables. -/
def State.opalWgtSwap (s : State) : State :=
  let s := { s with opal := { s.opal with roles := swapRoles s.opal.roles 7 8, lockWgt := false } }
  ((s.wr Reg.OPAL_CTL_WGT_SWAP 0).shadowWr Reg.OPAL_CTL_WGT_SWAP 0).raise Ev.OPAL_SWAPPED

/-- A commit's OPAL_CTL bits take effect: images exchange roles, headers go with their sets, the weights are evaluated
after an installation, and each bit reads 0 again. -/
def State.opalExchange (s : State) : State :=
  let s := s.when (s.on Reg.OPAL_CTL_INSTALL) (·.opalInstall)
  let s := s.when (s.on Reg.OPAL_CTL_LIN_SWAP) (·.opalLinSwap)
  s.when (s.on Reg.OPAL_CTL_WGT_SWAP) (·.opalWgtSwap)

/-- The ramp follows the overlaps in force until the host has written the weight images (R151). -/
def State.followOverlaps (s : State) : State :=
  if s.opal.weightsOwned then s
  else
    { s with opal := { s.opal with
        overlaps := (List.range 96).foldl (fun t j => sput t j (s.segOverlap j) 16) s.opal.overlaps } }

/-- The lanes whose row delays a commit adjusted tell so (R147). -/
def State.tellDelays (s : State) (lanes : List Nat) : State :=
  s.each lanes fun s k =>
    s.when ((List.range 8).any fun i => (s.delaysOf (8 * k + i)).2) (·.raise Ev.LANE_DELAY_CLAMPED k)

/-! ## Paper-white gains (R154, R155) -/

/-- The PW settings as the registers hold them; MODE 3 takes effect as 2 (R164). -/
def State.pwSettings (s : State) : List Nat :=
  [min 2 (s.rd Reg.PW_CTL_MODE), s.rd Reg.PW_CTL_GUARD, s.rd Reg.PW_CTL_RATE, s.rd Reg.PW_CTL_LINES,
    s.rd Reg.PW_MIN_PIXELS, s.rd Reg.PW_LIMIT_LO, s.rd Reg.PW_LIMIT_HI, s.rd Reg.PW_TARGET_A_RED,
    s.rd Reg.PW_TARGET_A_GREEN, s.rd Reg.PW_TARGET_B_BLUE]

/-- The gain `g` of one segment and colour after a window with `n` qualifying pixels of sum `sum`: the gain, whether it
stands at a limit, as `limit` said before a starved window, and whether the window was starved (R154). -/
def pwUpdate (g : Nat) (limit : Bool) (n sum pwMin target rate lo hi : Nat) : Nat × Bool × Bool :=
  if 0 < n ∧ pwMin ≤ n then
    let m := sum / n
    let r : Nat := if m = 0 then 0xFFFF else target * 2 ^ 14 / m
    let v := (sat ((g : Int) + rnd ((r : Int) - g) rate) lo hi).toNat
    (v, v == lo || v == hi, false)
  else (g, limit, true)

/-- The gains of a segment as its PW_GAIN registers show them. -/
def State.showGain (s : State) (j : Nat) (g : PwGain) : State :=
  let s := (s.wr Reg.PW_GAIN_RED g.red (j / 8) (j % 8)).wr Reg.PW_GAIN_GREEN g.green (j / 8) (j % 8)
  (s.wr Reg.PW_GAIN_BLUE g.blue (j / 8) (j % 8)).wrB Reg.PW_GAIN_AT_LIMIT
    (g.redLimit || g.greenLimit || g.blueLimit) (j / 8) (j % 8)

/-- The registers of the segments `js` show the gains in force for line `y`. -/
def State.showGains (s : State) (y : Nat) (js : List Nat) : State :=
  let gs := s.pw.at y
  s.each js fun s j => s.showGain j (gs.getD j {})

/-- Every gain becomes 0x4000 from line `y`. -/
def State.pwClear (s : State) (y : Nat) : State :=
  { s with pw := { s.pw with gains := (y, []) :: s.pw.gains } }

/-- PW_RESET: a write of PW_CTL with its RESET bit (R155). -/
def pwReset (v : Nat) (s : State) : State :=
  let s := s.hostWord 0x147 0x20 v
  if !v.testBit 2 then s
  else if s.running then
    let y := s.lt.line + 64
    ({ s with pw := { s.pw with resetAt := some y } }).pwClear y
  else ({ s with pw := { s.pw with gains := [], resetAt := none } }).showGains 0 (List.range 96)

def execPwReset (v : Word) (s : State) : Host.Outcome State Fault Refusal :=
  .next (s.powered fun s => pwReset v.toNat s)

/-- At a stop every gain that waits applies, and the window in progress is discarded (R154, R155). -/
def State.pwStop (s : State) : State :=
  let last := s.pw.gains.foldl (fun (b : Option (Nat × List PwGain)) e =>
    match b with
    | none => some e
    | some x => if x.1 < e.1 then some e else b) none
  let gs := last.elim [] (·.2)
  ({ s with pw := { s.pw with gains := [(0, gs)], resetAt := none } }).showGains 0 (List.range 96)

/-- Each run begins a new window at its line 0, under the settings as they stand. -/
def State.pwStart (s : State) : State :=
  { s with pw := { s.pw with windows := [{ start := 0, settings := s.pwSettings }], ended := 0 } }

/-- Line `y` is triggered: the line after a window's last one begins a new window under the settings as they stand (R164),
and so does the line of a reset, which cuts the window in progress (R155). -/
def State.pwLine (s : State) (y : Nat) : State :=
  let reset := s.pw.resetAt == some y
  match s.pw.windows.getLast? with
  | none => s
  | some w =>
    if reset || w.start + max 1 (w.settings.getD 3 1024) == y then
      { s with pw := { s.pw with
          windows := s.pw.windows.dropLast ++ [{ w with cut := reset }, { start := y, settings := s.pwSettings }],
          resetAt := if reset then none else s.pw.resetAt } }
    else s

end Sys2Proof.Machine
end

