-- ==== Sys2Proof/Machine/Queues.lean ====
section
/-!
DEFINITION. Freuri queues (R355 to R374): contexts and their cache, doorbells, entries and index write-backs,
completions, queue faults and resets with the work that they discard (R412 to R416), staged records, notices, the
stop of a DMA transfer, and the QADM operations.
-/

namespace Sys2Proof.Machine

/-! ## Tenants -/

/-- The tenant of a global queue number (R11). -/
def tenantOf (q : Nat) : Nat := q / 16384

/-- The number of a queue within its tenant. -/
def localQueue (q : Nat) : Nat := q % 16384

/-- The state of a tenant: 0 ABSENT, 1 DOWN, 2 UP, 3 FAULTED (R375). -/
def State.tenantState (s : State) (t : Nat) : Nat := bitsOf (s.rd Reg.TEN_STATE_STATE) (2 * t) 2

/-- The Freuri version of a tenant: 0 1.0, 1 2.0, 2 2.1, 3 2.2 (R375). -/
def State.version (s : State) (t : Nat) : Nat := bitsOf (s.rd Reg.TEN_VER_VER) (2 * t) 2

/-- `v` with the two bits of tenant `t` equal to `x`. -/
def put2 (v t x : Nat) : Nat := v - (bitsOf v (2 * t) 2) <<< (2 * t) + (x % 4) <<< (2 * t)

/-- The state of a tenant, in TEN_STATE and on its own page. -/
def State.putTenantState (s : State) (t x : Nat) : State :=
  (s.wr Reg.TEN_STATE_STATE (put2 (s.rd Reg.TEN_STATE_STATE) t x)).wr Reg.TEN_STATUS_STATE x t

/-- The version of a tenant, in TEN_VER and on its own page. -/
def State.putVersion (s : State) (t v : Nat) : State :=
  (s.wr Reg.TEN_VER_VER (put2 (s.rd Reg.TEN_VER_VER) t v)).wr Reg.TEN_STATUS_VERSION v t

/-- Page `p` is mapped into the BAR0 of tenant `t` (R344, R552); with RD_ONLY. -/
def State.mapped (s : State) (t p : Nat) : Option Bool :=
  if t = 0 then some false else (s.slotOf t p).map (·.2)

/-- Tenant `t` holds lease index `r`: its lease, or the owner what is not leased (R351). -/
def State.holds (s : State) (t r : Nat) : Bool := (s.holder r).getD 0 == t

/-- Tenant `t` is UP and no tenant reset of it is in progress. -/
def State.tenantUp (s : State) (t : Nat) : Bool := s.tenantState t == 2 && (tfind t s.fr.resets).isNone

/-- The state of power domain `d`: 0 OFF, 1 STARTING, 2 ON, 3 DRAINING, 4 FAULT (R429). -/
def State.domain (s : State) (d : Nat) : Nat := bitsOf (s.rd Reg.DOM_STATE_STATE) (3 * d) 3

/-! ## Contexts (R356, R357) -/

/-- Word `i` of the host's part of a context. -/
def Queue.word (x : Queue) (i : Nat) : Nat := x.host.getD i 0
def Queue.type (x : Queue) : Nat := bitsOf (x.word 0) 0 3
def Queue.irqEn (x : Queue) : Bool := (x.word 0).testBit 3
def Queue.pin (x : Queue) : Bool := (x.word 0).testBit 4
def Queue.ringLog (x : Queue) : Nat := bitsOf (x.word 0) 8 5
def Queue.size (x : Queue) : Nat := 2 ^ x.ringLog
def Queue.epoch (x : Queue) : Nat := bitsOf (x.word 0) 16 8
def Queue.ring (x : Queue) : Nat := x.word 1 + 2 ^ 32 * x.word 2
def Queue.cq (x : Queue) : Nat := bitsOf (x.word 3) 0 14
def Queue.channel (x : Queue) : Nat := bitsOf (x.word 3) 16 6
def Queue.irqSrc (x : Queue) : Nat := bitsOf (x.word 4) 0 10
def Queue.writebackAt (x : Queue) : Nat := x.word 6 + 2 ^ 32 * x.word 7

/-- A type whose entries the host produces: COMMAND and STREAM_IN (R355). -/
def Queue.hostProduced (x : Queue) : Bool := x.type == 0 || x.type == 4

/-- A version has a queue type (R350, R355). -/
def typeAllowed (version type : Nat) : Bool :=
  match version with
  | 0 => decide (type < 2)
  | 1 => decide (type < 5)
  | _ => decide (type < 6)

/-- Bytes of an entry (R355). -/
def entryBytes (version type : Nat) : Nat :=
  match type with
  | 0 => if version = 0 then 32 else 64
  | 1 => if version = 0 then 16 else 32
  | _ => 64

/-- The reserved bits of the host's part of a context. -/
def contextReserved (h : List Nat) : Bool :=
  bitsOf (h.getD 0 0) 5 3 != 0 || bitsOf (h.getD 0 0) 13 3 != 0 || bitsOf (h.getD 0 0) 24 8 != 0 ||
    bitsOf (h.getD 3 0) 14 2 != 0 || bitsOf (h.getD 3 0) 22 10 != 0 || bitsOf (h.getD 4 0) 10 22 != 0

/-- A context is valid (R357); `cqType` is the TYPE read from the context of the queue that CQ names. -/
def State.contextValid (s : State) (t : Nat) (x : Queue) (cqType : Nat) : Bool :=
  !contextReserved x.host && typeAllowed (s.version t) x.type &&
    decide (4 ≤ x.ringLog) && decide (x.ringLog ≤ if x.type = 5 then 20 else 16) &&
    x.ring % 4096 == 0 && x.writebackAt % 8 == 0 &&
    (!x.hostProduced || cqType == 1) && (x.type != 4 || s.holds t x.channel) && decide (x.irqSrc ≤ 1021)

/-! ## The cached queues -/

/-- The cached context of a queue. -/
def State.queue (s : State) (q : Nat) : Option Queue := tfind q s.fr.queues

/-- The state with a queue's cached context, used now. -/
def State.putQueue (s : State) (q : Nat) (x : Queue) : State :=
  { s with fr := { s.fr with queues := tput q { x with used := s.fr.clock + 1 } s.fr.queues, clock := s.fr.clock + 1 } }

/-- Change a cached context. -/
def State.onQueue (s : State) (q : Nat) (f : Queue → Queue) : State :=
  match s.queue q with
  | some x => s.putQueue q (f x)
  | none => s

/-- STATE of a queue, cached or not (R358). -/
def State.queueState (s : State) (q : Nat) : Nat :=
  match s.queue q with
  | some x => x.state
  | none => sget s.fr.parked q

/-- The queue number that a pair of VALID and QUEUE fields names. -/
def State.named (s : State) (valid queue : Row) (k : Nat := 0) (i : Nat := 0) : List Nat :=
  if s.on valid k i then [s.rd queue k i] else []

/-- The queues that committed fields name (R373). -/
def State.namedQueues (s : State) : List Nat :=
  s.named Reg.REF_Q_VALID Reg.REF_Q_QUEUE ++ s.named Reg.REG_Q_VALID Reg.REG_Q_QUEUE ++
  s.named Reg.COV_Q_VALID Reg.COV_Q_QUEUE ++ s.named Reg.GUTTER_Q_VALID Reg.GUTTER_Q_QUEUE ++
  ((List.range 3).flatMap fun i => s.named Reg.PROD_Q_VALID Reg.PROD_Q_QUEUE 0 i) ++
  ((List.range 4).flatMap fun p => s.named Reg.BR_Q_VALID Reg.BR_Q_QUEUE p) ++
  ((List.range 4).flatMap fun i => s.named Reg.SHEET_Q_VALID Reg.SHEET_Q_QUEUE 0 i) ++
  ((List.range 16).flatMap fun t => (s.named Reg.NOTICE_Q_VALID Reg.NOTICE_Q_QUEUE t).map fun q => 16384 * t + q)

/-- The context is to be pinned: its PIN bit, or a committed field that names the queue (R373). -/
def State.pinWanted (s : State) (q : Nat) (x : Queue) : Bool := x.pin || s.namedQueues.contains q

/-- The context is pinned. -/
def State.pinned (s : State) (q : Nat) (x : Queue) : Bool := !x.pinRefused && s.pinWanted q x

/-- Contexts pinned now. -/
def State.pinnedCount (s : State) : Nat := (s.fr.queues.filter fun e => s.pinned e.1 e.2).length

/-! ## Write-backs -/

/-- The device-owned words 0x20 to 0x34 of a context (R356). -/
def Queue.deviceWords (x : Queue) : List Nat :=
  [x.prod, x.cons, x.expSeq, x.state + x.fault <<< 8, x.stale, x.dup]

/-- The device-owned fields are written to the context in host memory (R369). -/
def State.writeFields (s : State) (q : Nat) : State :=
  match s.queue q with
  | some x => s.emit (.contextWrite q x.deviceWords)
  | none => s

/-- The 8 bytes of an index write-back (R369). -/
def Queue.indexValue (x : Queue) : Nat :=
  (if x.hostProduced then x.cons else x.prod) + x.state <<< 32 + x.fault <<< 40

/-- An index write-back with the interrupt events of the entries it publishes (R369, R399). -/
def State.publish (s : State) (q : Nat) : State :=
  match s.queue q with
  | none => s
  | some x =>
    let t := tenantOf q
    let s := s.when (s.version t != 0 && x.writebackAt != 0) (·.emit (.writeback t x.writebackAt x.indexValue))
    let s := s.each (List.range x.events) fun s _ => s.icRaise t x.irqSrc
    s.onQueue q fun x => { x with unpublished := 0, events := 0 }

/-- Change STATE, which is written back at once (R369). -/
def State.setQueueState (s : State) (q st : Nat) : State := (s.onQueue q fun x => { x with state := st }).publish q

/-- One more begun or written entry; the thirty-second unpublished one is published at once (R369). -/
def State.unpublished (s : State) (q n events : Nat) : State :=
  let s := s.onQueue q fun x => { x with unpublished := x.unpublished + n, events := x.events + events }
  match s.queue q with
  | some x => if 32 ≤ x.unpublished ∨ s.version (tenantOf q) = 0 then s.publish q else s
  | none => s

/-! ## The context cache (R372, R373) -/

/-- The context that eviction takes: the least recently used one that is neither pinned nor holds a begun
descriptor. -/
def State.victim (s : State) : Option (Nat × Queue) :=
  s.fr.queues.foldl (fun b e =>
    if s.pinned e.1 e.2 || !e.2.begun.isEmpty || !e.2.due.isEmpty || e.2.ending.isSome then b
    else
      match b with
      | none => some e
      | some v => if e.2.used < v.2.used then some e else b) none

/-- The device keeps the STATE and the FAULT code of a queue whose context is not cached. -/
def State.park (s : State) (q state fault : Nat) : State :=
  { s with fr := { s.fr with parked := sput s.fr.parked q state, parkedFault := sput s.fr.parkedFault q fault } }

/-- A context leaves the cache; its state is kept. -/
def State.dropContext (s : State) (q : Nat) : State :=
  match s.queue q with
  | none => s
  | some x =>
    ({ s with fr := { s.fr with queues := tdel q s.fr.queues } }).park q x.state 0

/-- An entry of the cache is free, or is freed by an eviction; none where neither is possible. -/
def State.freeEntry (s : State) : Option State :=
  if s.fr.queues.length + s.fr.loads.length < 8192 then some s
  else
    match s.victim with
    | none => none
    | some v => some (((s.writeFields v.1).dropContext v.1).inc Reg.CTXC_EVICTS_COUNT)

/-- A need of a context that is not cached: a load begins, or waits for an entry (R372). -/
def State.needContext (s : State) (q : Nat) : State :=
  if (s.queue q).isSome || s.fr.loads.contains q || s.fr.stalled.contains q then s
  else
    let s := s.inc Reg.CTXC_MISSES_COUNT
    match s.freeEntry with
    | some s => ({ s with fr := { s.fr with loads := s.fr.loads ++ [q] } }).emit (.contextRead q)
    | none =>
      (({ s with fr := { s.fr with stalled := s.fr.stalled ++ [q] } }).inc Reg.CTXC_STALLS_COUNT).raise Ev.CTX_CTX_STALL

/-- A need that the cache meets. -/
def State.hit (s : State) : State := s.inc Reg.CTXC_HITS_COUNT

/-- Loads that waited begin as entries become free. -/
def State.retryStalled (s : State) : State :=
  match s.fr.stalled with
  | [] => s
  | q :: r =>
    match s.freeEntry with
    | none => s
    | some s => ({ s with fr := { s.fr with stalled := r, loads := s.fr.loads ++ [q] } }).emit (.contextRead q)

/-! ## Entries of device-produced queues -/

/-- Entries (blocks) free in a queue (R357, R361). -/
def Queue.free (x : Queue) : Nat := x.size - (x.prod + 2 ^ 32 - x.cons) % 2 ^ 32

/-- Fill level in units of 1/256 (R361). -/
def Queue.fill (x : Queue) : Nat := min 255 (((x.prod + 2 ^ 32 - x.cons) % 2 ^ 32) * 256 / x.size)

/-- Write an entry of `blocks` slots at PROD (R357); `irq`: an event whatever IRQ_EN is (R399). -/
def State.writeEntry (s : State) (q : Nat) (words : List Nat) (blocks : Nat) (irq : Bool) : State :=
  match s.queue q with
  | none => s
  | some x =>
    let s := s.emit (.entry q x.prod words)
    let s := s.onQueue q fun x => { x with prod := (x.prod + blocks) % 2 ^ 32 }
    s.unpublished q blocks (x.irqEn || irq).toNat

/-! ## Notices (R371) -/

/-- The words of a notice. -/
def noticeWords (kind object code holder time : Nat) : List Nat :=
  [0x2B + 0x100 + kind <<< 16, object % 16384, code % 2 ^ 32, holder, time % 2 ^ 32, time / 2 ^ 32 % 2 ^ 32] ++
    List.replicate 10 0

/-- A notice that is dropped. -/
def State.noticeDrop (s : State) (t : Nat) : State := (s.inc Reg.TEN_NOTICE_DROP_COUNT t).raise Ev.TEN_NOTICE_DROP t

/-- A notice to tenant `t` whose queue is cached, or dropped. -/
def State.noticeWrite (s : State) (q : Nat) (words : List Nat) : State :=
  match s.queue q with
  | some x => if x.state = 1 ∧ x.type = 2 ∧ 0 < x.free then s.writeEntry q words 1 false else s.noticeDrop (tenantOf q)
  | none => s.noticeDrop (tenantOf q)

/-- Send a notice to tenant `t`; it waits for a load of its queue's context. -/
def State.notice (s : State) (t kind object code holder : Nat) : State :=
  let q := 16384 * t + s.rd Reg.NOTICE_Q_QUEUE t
  let w := noticeWords kind object code holder s.tb.ns
  if !s.on Reg.NOTICE_Q_VALID t then s.noticeDrop t
  else if (s.queue q).isSome then s.hit.noticeWrite q w
  else if s.queueState q = 1 then { s.needContext q with fr := { (s.needContext q).fr with notices := s.fr.notices ++ [(q, w)] } }
  else s.noticeDrop t

/-! ## Staged records (R225, R238, R285, R412) -/

/-- Change an open item, where one is named. -/
def State.onItem (s : State) (n : Option Nat) (f : Item → Item) : State :=
  match n with
  | none => s
  | some n =>
    match tfind n s.comp.items with
    | some i => { s with comp := { s.comp with items := tput n (f i) s.comp.items } }
    | none => s

/-- A record is dropped: its product's counter and event (R205, R225, R238, R285). -/
def State.recordDropped (s : State) (r : Staged) : State :=
  match r.kind with
  | 0 =>
    let s := (s.inc Reg.COMP_DROP_BLOB).raise Ev.COMP_BLOB_DROP
    s.onItem r.item fun i => { i with dropped := satAdd 16 i.dropped 1 }
  | 1 =>
    let s := (s.inc Reg.COMP_DROP_VERDICT).raise Ev.COMP_VERDICT_DROP
    { s with comp := { s.comp with lost := sput s.comp.lost r.queue (satAdd 16 (sget s.comp.lost r.queue) 1) } }
  | 2 => s
  | 3 => (s.incSat Reg.BR_DROP_REC_DROP r.port).raise Ev.BR_REC_DROP r.port
  | 4 => (s.incSat Reg.BR_DROP_REC_DROP r.port).raise Ev.BR_REC_DROP r.port
  | 5 => (s.incSat Reg.MEAS_DROP_PATCH).raise Ev.PROD_MEAS_DROP
  | 6 => (s.incSat Reg.MEAS_DROP_MARK).raise Ev.PROD_MEAS_DROP
  | 7 => (s.inc Reg.REG_ACQS_DROPS).raise Ev.REG_REC_DROP
  | 8 =>
    let s := { s with mp := { s.mp with prevLost := satAdd 16 s.mp.prevLost 1 } }
    (s.inc Reg.PREV_DROP_COUNT).raise Ev.PROD_PREV_DROP
  | _ => s.raise Ev.PROD_CROP_DROP

/-- A fault discards a staged record: it is dropped, and the verdict of a blob record's item carries FAULT_LOSS (R224,
R412). -/
def State.recordLost (s : State) (r : Staged) : State :=
  (if r.kind = 0 then s.onItem r.item fun i => { i with faultLoss := true } else s).recordDropped r

/-- Take every staged record that `p` picks out of staging; `f` says what becomes of each. -/
def State.takeStaged (s : State) (f : State → Staged → State) (p : Staged → Bool) : State :=
  let gone := s.fr.staged.filter p
  let s := { s with fr := { s.fr with staged := s.fr.staged.filter fun r => !p r } }
  s.each gone f

/-- Every staged record that `p` picks is dropped (R225, R416), or discarded by a fault (R412). -/
def State.dropStaged (s : State) (p : Staged → Bool) : State := s.takeStaged State.recordDropped p
def State.loseStaged (s : State) (p : Staged → Bool) : State := s.takeStaged State.recordLost p

/-- The queue type that a kind of record needs (R225, R238, R285). -/
def kindType (kind : Nat) : Nat := if kind = 2 then 2 else if kind = 0 ∨ kind = 1 ∨ kind = 3 then 3 else 5

/-- Blocks of 64 bytes of a record. -/
def Staged.blocks (r : Staged) : Nat := (r.words.length + 15) / 16

/-- Blocks that a record of `n` blocks takes at PROD, its pad included (R370). -/
def padBlocks (x : Queue) (prod n : Nat) : Nat :=
  let k := x.size - prod % x.size
  if k < n then k else 0

/-- Blocks that the records already staged for a stream queue will take, in order (R370). -/
def State.stagedBlocks (s : State) (q : Nat) (x : Queue) : Nat :=
  (s.fr.staged.filter fun r => r.queue == q).foldl (fun a r => a + padBlocks x (x.prod + a) r.blocks + r.blocks) 0

/-- A stream queue has space for a record now (R238, R370). -/
def State.streamSpace (s : State) (q n : Nat) : Bool :=
  match s.queue q with
  | some x =>
    let a := s.stagedBlocks q x
    decide (a + padBlocks x (x.prod + a) n + n ≤ x.free)
  | none => true

/-- Slots of a class of kinds in use, at `n` slots a record. -/
def State.slotsUsed (s : State) (p : Nat → Bool) (n : Staged → Nat) : Nat :=
  ((s.fr.staged.filter fun r => p r.kind).map n).sum

/-- A free staging slot for a record (R225, R239, R285). -/
def State.slotFree (s : State) (r : Staged) : Bool :=
  match r.kind with
  | 1 => decide (s.slotsUsed (· == 1) (fun _ => 1) < 16384)
  | 5 => decide (s.slotsUsed (fun k => k == 5 || k == 6) Staged.blocks + r.blocks ≤ 2048)
  | 6 => decide (s.slotsUsed (fun k => k == 5 || k == 6) Staged.blocks + r.blocks ≤ 2048)
  | 7 => true
  | 8 => decide (s.slotsUsed (· == 8) (fun _ => 1) < 2)
  | 9 => true
  | _ => decide (s.slotsUsed (fun k => k == 0 || k == 2 || k == 3 || k == 4) (fun _ => 1) < 114688)

/-- The queue can take records of a kind: it is of the kind's type and RUNNING; an uncached context waits for its load
(R225, R238, R358, R372). -/
def State.queueTakes (s : State) (q kind : Nat) : Bool :=
  s.queueState q == 1 &&
    match s.queue q with
    | some x => x.type == kindType kind
    | none => true

/-- The queue can take this record: a region record goes to a queue of its port's owning tenant, the holder of the port's
lease (R285, R351). -/
def State.takesRecord (s : State) (r : Staged) : Bool :=
  s.queueTakes r.queue r.kind && (r.kind != 4 || s.holds (tenantOf r.queue) (72 + r.port))

/-- A record of this kind waits for space as R225 has it; the others in stream queues are dropped without it (R205, R238). -/
def kindWaits (kind : Nat) : Bool := decide (kind < 5)

/-- Stage a record, or drop it (R225, R238, R285).  A coverage record without a slot is its caller's matter (R229). -/
def State.stage (s : State) (valid : Bool) (r : Staged) : State :=
  if !valid || !s.takesRecord r || !s.slotFree r ||
      (!kindWaits r.kind && !s.streamSpace r.queue r.blocks) then s.recordDropped r
  else
    let s := if (s.queue r.queue).isSome then s.hit else s.needContext r.queue
    { s with fr := { s.fr with staged := s.fr.staged ++ [r] } }

/-- Take the first staged record of a queue out of staging. -/
def State.unstage (s : State) (q : Nat) : State :=
  { s with fr := { s.fr with staged := s.fr.staged.eraseP fun r => r.queue == q } }

/-! ## Completions (R366 to R368) -/

/-- The version 2.x completion record (R367). -/
def completionWords (q : Nat) (c : Completion) : List Nat :=
  let w := fun i => c.words.getD i 0
  [0x20 + 0x100 + c.status <<< 16 + bitsOf (w 0) 16 8 <<< 24, w 1, w 2, w 3, localQueue q + bitsOf (w 0) 0 8 <<< 16,
    c.detail0, c.detail1, c.time % 2 ^ 32]

/-- The version 1.0 completion record (R367). -/
def completionWords1 (q : Nat) (cq : Queue) (c : Completion) : List Nat :=
  let phase := (cq.prod / cq.size + 1) % 2
  [bitsOf (c.words.getD 0 0) 16 16 + c.status <<< 16 + phase <<< 31, localQueue q, c.detail0, c.time % 2 ^ 32]

/-- The descriptor asks for a completion record with status OK (R362, R365). -/
def wantsRecord (version : Nat) (words : List Nat) : Bool :=
  (words.getD 0 0).testBit (if version = 0 then 10 else 8)

/-- What becomes of a completion that falls due: written, waiting, or without a queue that takes it (R358). -/
inductive Due where
  | written (s : State)
  | waits (s : State)
  | unusable

/-- Write a completion record to the completion queue of queue `q`. -/
def State.tryCompletion (s : State) (q : Nat) (x : Queue) (c : Completion) : Due :=
  let t := tenantOf q
  let cq := 16384 * t + x.cq
  let st := s.queueState cq
  if st ≠ 1 ∧ st ≠ 2 then .unusable
  else
    match s.queue cq with
    | none => .waits (s.needContext cq)
    | some y =>
      if y.type ≠ 1 then .unusable
      else if y.state = 2 ∨ y.free = 0 then .waits s
      else
        let w := if s.version t = 0 then completionWords1 q y c else completionWords q c
        .written (s.hit.writeEntry cq w 1 ((c.words.getD 0 0).testBit 9))

/-- A completion that R414 governs: written or waiting where its queue is RUNNING or PAUSED, else dropped. -/
def State.completeOrDrop (s : State) (q : Nat) (c : Completion) : State :=
  match s.queue q with
  | none => s
  | some x =>
    if !x.due.isEmpty then s.onQueue q fun x => { x with due := x.due ++ [c] }
    else
      match s.tryCompletion q x c with
      | .written s => s
      | .waits s => s.onQueue q fun x => { x with due := x.due ++ [c] }
      | .unusable => s

/-! ## Queue faults and the work that they discard (R358, R412, R416) -/

/-- QFAULT bit of a queue (R380). -/
def State.putQfault (s : State) (q : Nat) (b : Bool) : State :=
  let l := localQueue q
  s.wr Reg.QFAULT (putBit (s.rd Reg.QFAULT (tenantOf q) (l / 32)) (l % 32) b) (tenantOf q) (l / 32)

/-- A channel beyond its registers. -/
def State.channel (s : State) (c : Nat) : Channel := tget {} s.dma.channels c

def State.putChannel (s : State) (c : Nat) (x : Channel) : State :=
  { s with dma := { s.dma with channels := tput c x s.dma.channels } }

/-- DETAIL1 of a transfer's completion: CAUSE and RETRIES of its channel (R392). -/
def State.xferDetail (s : State) (c : Nat) (x : Xfer) : Nat :=
  s.rd Reg.DMA_STATUS_CAUSE c <<< 4 + (x.retries % 16) <<< 8

/-- REF_STATE.WAITING follows the early descriptors that wait (R180). -/
def State.refWaiting (s : State) : State := s.wrB Reg.REF_STATE_WAITING (s.fr.queues.any fun e => e.2.early)

/-- An operation that ended (R359). -/
def State.qadmEnd (s : State) (t result : Nat) : State :=
  ((s.wr Reg.QADM_STATUS_BUSY 0 t).wr Reg.QADM_STATUS_RESULT result t).raise Ev.TEN_QADM_DONE t

/-- DISABLE and RESET end when no begun descriptor and no completion is left (R358, R416); an entry found to hold an
uncorrectable error then leaves the cache without write-back (R415). -/
def State.settle (s : State) (q : Nat) : State :=
  match s.queue q with
  | none => s
  | some x =>
    if !x.begun.isEmpty || ((x.ending == some 1 || x.ending == some 17) && !x.due.isEmpty) then s
    else
      match x.ending with
      | none => s.retryStalled
      | some 17 => ((s.dropContext q).park q x.state 17).retryStalled
      | some op =>
        let s := s.onQueue q fun x => { x with ending := none }
        let s := s.when (op == 4) fun s => s.putQfault q false
        ((s.writeFields q).qadmEnd (tenantOf q) 1).retryStalled

/-- A begun descriptor has completed: it leaves the queue. -/
def State.finishBegun (s : State) (q index : Nat) : State :=
  (s.onQueue q fun x => { x with begun := x.begun.filter fun b => b.index != index }).settle q

/-- The completion of a transfer with a status; `none`: without a completion (R414). -/
def State.xferCompletion (s : State) (c : Nat) (x : Xfer) (status : Nat) : State :=
  let done : Completion := { words := x.words, status := status, detail0 := if x.payload then 0 else min (2 ^ 32 - 1) x.issued,
                             detail1 := s.xferDetail c x, time := s.tb.ns }
  (s.completeOrDrop x.queue done).finishBegun x.queue x.index

/-- WAITING of a channel (R397). -/
def State.waitingCount (s : State) (c : Nat) : State := s.wr Reg.DMA_STATUS_WAITING (s.channel c).waiting.length c

/-- The steps of a channel (R385). -/
def State.steps (s : State) (r : Row) (c : Nat) : List Int := (List.range 3).map fun k => s.rdS r c k

/-- The lowest and the highest byte address (exclusive) of one side of a transfer (R395). -/
def Xfer.span (x : Xfer) (base : Nat) (steps : List Int) : Int × Int :=
  let d := (List.zip [x.n0, x.n1, x.n2] steps).map fun e => ((e.1 : Int) - 1) * e.2
  ((base : Int) + (d.map fun v => min v 0).sum, (base : Int) + (d.map fun v => max v 0).sum + x.esize)

/-- The byte ranges of source and destination intersect; those in the device window never meet host ranges (R395). -/
def Xfer.overlaps (x : Xfer) : Bool :=
  let a := x.span x.src x.srcStep
  let b := x.span x.dst x.dstStep
  !x.src.testBit 63 && !x.dst.testBit 63 && decide (a.1 < b.2) && decide (b.1 < a.2)

/-- The steps with which a transfer begins, and whether its ranges overlap (R385, R395). -/
def State.xferSteps (s : State) (c : Nat) (x : Xfer) : Xfer :=
  let e : Int := x.esize
  if x.payload then x
  else
    let y := if x.linear then
        { x with srcStep := [e, e * x.n0, e * x.n0 * x.n1], dstStep := [e, e * x.n0, e * x.n0 * x.n1] }
      else { x with srcStep := s.steps Reg.DMA_SRC_STEP_VALUE c, dstStep := s.steps Reg.DMA_DST_STEP_VALUE c }
    { y with serial := y.overlaps }

/-- The next waiting transfer begins on an idle channel (R392); a payload transfer whose tenant does not hold the
channel then completes DENIED and the one behind it is looked at (R384). -/
def State.beginWaiting : Nat → State → Nat → State
  | 0, s, _ => s
  | n + 1, s, c =>
    let ch := s.channel c
    match ch.waiting with
    | [] => s.wr Reg.DMA_STATUS_STATE 0 c
    | x :: r =>
      if x.payload && !s.holds (tenantOf x.queue) c then
        (((s.putChannel c { ch with waiting := r }).waitingCount c).xferCompletion c x 0x06).beginWaiting n c
      else
        let y := s.xferSteps c x
        let s := (s.putChannel c { ch with current := some y, waiting := r }).when y.serial (·.raise Ev.DMA_OVERLAP_SERIAL c)
        ((s.wr Reg.DMA_STATUS_STATE 1 c).wr Reg.DMA_STATUS_RETRIES 0 c).waitingCount c

/-- The channel goes on with what waits, unless a transfer is in progress or it is HALTED. -/
def State.beginNext (s : State) (c : Nat) : State :=
  if (s.channel c).current.isSome || s.rd Reg.DMA_STATUS_STATE c == 2 then s else s.beginWaiting 33 c

/-- The transfer in progress ends: its completion is written and the next one begins (R392, R393). -/
def State.endXfer (s : State) (c : Nat) (x : Xfer) (status : Nat) : State :=
  ((s.putChannel c { s.channel c with current := none }).xferCompletion c x status).beginNext c

/-- No burst of the transfer is in flight. -/
def Xfer.settled (x : Xfer) : Bool := x.bursts.all fun b => b.failed || b.data.isSome

/-- Stop the transfer in progress at the next burst boundary (R392, R412). -/
def State.stopXfer (s : State) (c status : Nat) : State :=
  match (s.channel c).current with
  | none => s
  | some x =>
    if x.settled then s.endXfer c x status
    else s.putChannel c { s.channel c with current := some { x with stop := some (x.stop.getD status) } }

/-- The waiting transfers that `p` picks complete without being begun (R392). -/
def State.dropWaiting (s : State) (c status : Nat) (p : Xfer → Bool) : State :=
  let ch := s.channel c
  let s := (s.putChannel c { ch with waiting := ch.waiting.filter fun x => !p x }).waitingCount c
  s.each (ch.waiting.filter p) fun s x => s.xferCompletion c x status

/-- The transfers that `p` picks, of every channel, stop with a status. -/
def State.stopXfers (s : State) (status : Nat) (p : Xfer → Bool) : State :=
  s.each (List.range 64) fun s c =>
    let s := s.dropWaiting c status p
    match (s.channel c).current with
    | some x => if p x then s.stopXfer c status else s
    | none => s

/-- A queue's descriptors are discarded: those begun complete ABORTED under R414 (R412, R416). -/
def State.discardWork (s : State) (q : Nat) : State :=
  let s := (s.onQueue q fun x => { x with head := none, early := false }).refWaiting
  let s := s.stopXfers 0x0A fun x => x.queue == q
  match s.queue q with
  | none => s
  | some x =>
    -- begun descriptors without a transfer complete at once
    let rest := x.begun.filter fun b => !((List.range 64).any fun c => match (s.channel c).current with
      | some y => y.queue == q && y.index == b.index
      | none => false)
    s.each rest fun s b =>
      (s.completeOrDrop q { words := b.words, status := 0x0A, time := s.tb.ns }).finishBegun q b.index

/-- A queue enters FAULTED with a code (R358, R416); code 16 writes no completions (R414). -/
def State.queueFault (s : State) (q code : Nat) : State :=
  let t := tenantOf q
  let s := (s.onQueue q fun x => { x with fault := code }).setQueueState q 3
  let s := if (s.queue q).isSome then s else s.park q 3 code
  let s := ((s.raise Ev.TEN_QUEUE_FAULT t).putQfault q true).loseStaged fun r => r.queue == q
  let s := s.discardWork q
  s.notice t 1 (localQueue q) code t

/-- A completion falls due for a descriptor that ran (R358, R362): the record is written when asked for or when its
status is not OK; a queue without a usable completion queue faults. -/
def State.complete (s : State) (q : Nat) (words : List Nat) (status d0 d1 : Nat) : State :=
  let c : Completion := { words := words, status := status, detail0 := d0, detail1 := d1, time := s.tb.ns }
  if status = 0 ∧ !wantsRecord (s.version (tenantOf q)) words then s
  else
    match s.queue q with
    | none => s
    | some x =>
      if !x.due.isEmpty then s.onQueue q fun x => { x with due := x.due ++ [c] }
      else
        match s.tryCompletion q x c with
        | .written s => s
        | .waits s => s.onQueue q fun x => { x with due := x.due ++ [c] }
        | .unusable => if x.state = 1 then s.queueFault q 5 else s

/-- A begun descriptor completes. -/
def State.completeBegun (s : State) (q index : Nat) (words : List Nat) (status d0 d1 : Nat) : State :=
  (s.complete q words status d0 d1).finishBegun q index

/-- Waiting completions of the queues of completion queue `cq` are written as far as there is room (R358). -/
def State.drainDue : Nat → State → Nat → State
  | 0, s, _ => s
  | n + 1, s, q =>
    match s.queue q with
    | none => s
    | some x =>
      match x.due with
      | [] => s
      | c :: r =>
        match s.tryCompletion q x c with
        | .written s => ((s.onQueue q fun x => { x with due := r }).drainDue n q)
        | .waits s => s
        | .unusable =>
          let s := s.onQueue q fun x => { x with due := r }
          if x.state = 1 then s.queueFault q 5 else s.drainDue n q

/-- Every queue with waiting completions is looked at again. -/
def State.drainAllDue (s : State) : State :=
  s.each ((s.fr.queues.filter fun e => !e.2.due.isEmpty).map (·.1)) fun s q =>
    (s.drainDue 4096 q).settle q

/-- A queue fault with what it means for the queues that complete into it. -/
def State.faultQueue (s : State) (q code : Nat) : State := (s.queueFault q code).drainAllDue

/-- A transfer that ends by itself completes with a status, and the next one begins (R392, R393). -/
def State.finishXfer (s : State) (c : Nat) (x : Xfer) (status d0 d1 : Nat) : State :=
  ((s.putChannel c { s.channel c with current := none }).completeBegun x.queue x.index x.words status d0 d1).beginNext c

/-- A channel halts (R392): HALTED with a cause, the transfer in progress and the waiting ones complete. -/
def State.haltChannel (s : State) (c cause status waitingStatus : Nat) : State :=
  let enters := s.rd Reg.DMA_STATUS_STATE c != 2
  let s := (s.wr Reg.DMA_STATUS_STATE 2 c).wr Reg.DMA_STATUS_CAUSE cause c
  let s := (s.when enters (·.raise Ev.DMA_HALTED c)).dropWaiting c waitingStatus fun _ => true
  s.stopXfer c status

/-! ## Doorbells (R360) -/

/-- A doorbell's evaluation for a queue that is RUNNING or PAUSED. -/
def State.applyDoorbell (s : State) (q index : Nat) : State :=
  match s.queue q with
  | none => s
  | some x =>
    let t := tenantOf q
    let d := fun (a b : Nat) => (a + 2 ^ 32 - b) % 2 ^ 32
    let stale := fun (s : State) => (s.inc Reg.TEN_DB_IGNORED_COUNT t).raise Ev.TEN_DB_STALE t
    if x.hostProduced then
      if index = x.prod then s
      else if d index x.prod ≤ x.size - d x.prod x.cons then s.onQueue q fun x => { x with prod := index }
      else if d x.prod index ≤ x.size then stale s
      else s.faultQueue q 3
    else if index = x.cons then s
    else if d index x.cons ≤ d x.prod x.cons then
      (s.onQueue q fun x => { x with cons := index }).drainAllDue
    else if d x.cons index ≤ x.size then stale s
    else s.faultQueue q 3

/-- The 8-byte value written to the doorbell of queue `l` of tenant `t` (R360). -/
def State.ringDoorbell (t l lo hi : Nat) (s : State) : State :=
  let q := 16384 * t + l
  let st := s.queueState q
  if hi ≠ 0 ∨ (st ≠ 1 ∧ st ≠ 2) ∨ !s.tenantUp t then (s.inc Reg.TEN_DB_IGNORED_COUNT t).raise Ev.TEN_DB_IGNORED t
  else if (s.queue q).isSome then s.hit.applyDoorbell q lo
  else { s.needContext q with fr := { (s.needContext q).fr with doorbells := s.fr.doorbells ++ [(q, lo)] } }

/-- A discarded access to a doorbell: logged with the tenant, the address in its BAR2 and the width (R9, R345). -/
def State.discardDoorbell (s : State) (t o width v : Nat) (isRead : Bool) : State :=
  s.log { kind := 0x02, tenant := t, page := o / 4096, offset := o % 4096, value := v, arg1 := width, arg2 := isRead.toNat }

/-- DOORBELL: an access of `width` bytes at byte `o` of the doorbells of tenant `t`: one aligned 8-byte write rings the
doorbell of queue `o / 8`; a read returns 0; what R9 and R345 discard is logged. -/
def doorbell (t o width : Nat) (v : Option Nat) (s : State) : State :=
  match v with
  | some v =>
    if width = 8 ∧ o % 8 = 0 then s.ringDoorbell t (o / 8) (v % 2 ^ 32) (v / 2 ^ 32 % 2 ^ 32)
    else s.discardDoorbell t o width v false
  | none =>
    (s.when (readWords o (o % 4) width).isNone (·.discardDoorbell t o width 0 true)).emit (.doorbellData t o 0)

def execDoorbell (t : Tenant) (o : Fin 131072) (width : Nat) (v : Option (BitVec 64)) (s : State) :
    Host.Outcome State Fault Refusal :=
  .next (s.powered fun s => doorbell t.val o.val width (v.map (·.toNat)) s)

/-! ## Loads -/

/-- The queue that sixteen context words describe (R356). -/
def contextQueue (w : List Nat) : Queue :=
  { host := (List.range 8).map fun i => w.getD i 0 % 2 ^ 32, prod := w.getD 8 0, cons := w.getD 9 0,
    expSeq := w.getD 10 0, state := bitsOf (w.getD 11 0) 0 4, fault := bitsOf (w.getD 11 0) 8 8,
    stale := w.getD 12 0, dup := w.getD 13 0 }

/-- The pin limit of R373 for a context that comes into the cache. -/
def State.pinLimit (s : State) (q : Nat) (x : Queue) : State × Queue :=
  if s.pinWanted q x && decide (4096 ≤ s.pinnedCount) then (s.raise Ev.CTX_PIN_REFUSED, { x with pinRefused := true })
  else (s, x)

/-- A loaded context enters the cache and what waited for it goes on (R372).  STATE, and the code of
a fault that no write-back has told host memory of, are those that the device keeps: a queue that a tenant fault took to
FAULTED while its context lay in host memory is FAULTED with code 16 (R417), one with an uncorrectable error with code 17
(R415), and one that a tenant reset disabled is DISABLED (R346). -/
def State.loaded (s : State) (q : Nat) (w : List Nat) : State :=
  let y := contextQueue w
  let st := sget s.fr.parked q
  let r := s.pinLimit q { y with state := st, fault := if sget s.fr.parkedFault q = 0 then y.fault else sget s.fr.parkedFault q }
  let s := r.1.putQueue q r.2
  let s := s.park q 0 0
  let bells := s.fr.doorbells.filter fun e => e.1 == q
  let s := { s with fr := { s.fr with doorbells := s.fr.doorbells.filter fun e => e.1 != q } }
  let s := s.each bells fun s e => if s.queueState q = 1 ∨ s.queueState q = 2 then s.applyDoorbell q e.2
                                    else (s.inc Reg.TEN_DB_IGNORED_COUNT (tenantOf q)).raise Ev.TEN_DB_IGNORED (tenantOf q)
  let notes := s.fr.notices.filter fun e => e.1 == q
  let s := { s with fr := { s.fr with notices := s.fr.notices.filter fun e => e.1 != q } }
  (s.each notes fun s e => s.noticeWrite q e.2).drainAllDue

/-! ## Index write-backs -/

/-- INDEX_WRITEBACK: the entries written, or the descriptors begun, since the last write-back are published; a
write-back whose transfer halts faults the queue (R358, R369). -/
def indexWriteback (q : Nat) (error : Bool) (s : State) : State :=
  match s.queue q with
  | none => s
  | some x =>
    if x.unpublished = 0 then s
    else if error then if x.state = 1 then s.faultQueue q 6 else s
    else s.publish q

def execIndexWriteback (q : Fin 262144) (error : Bool) (s : State) : Host.Outcome State Fault Refusal :=
  .next (s.powered fun s => indexWriteback q.val error s)

/-! ## QADM operations (R358, R359) -/

/-- An operation is requested: discarded while another is in progress, else begun. -/
def State.qadmBegin (s : State) (t l : Nat) (f : State → State) : State :=
  if s.on Reg.QADM_STATUS_BUSY t then s.raise Ev.TEN_QADM_REFUSED t
  else
    let s := s.wr Reg.QADM_STATUS_QUEUE l t
    if !s.tenantUp t then s.qadmEnd t 2 else f (s.wr Reg.QADM_STATUS_BUSY 1 t)

/-- An operation needs a queue's context: it is taken from the cache, or from the words that the load returns; without
words the load halted (R359, R372). -/
def State.withContext (s : State) (q : Nat) (w : Option (List Nat)) : State :=
  if (s.queue q).isSome then s.hit
  else
    match w with
    | none => s
    | some w =>
      let u := s.needContext q
      { u with fr := { u.fr with loads := u.fr.loads.filter (· != q), stalled := u.fr.stalled.filter (· != q) } }.loaded q w

/-! ## Delivery of staged records -/

/-- Level 3 grants tenant `t`, which is not guaranteed, no burst of the resources `rs` (0 HOST_IN, 1 HOST_OUT, 2 PIXEL)
while one of them is in shortfall (R446). -/
def State.levelStops (s : State) (t : Nat) (rs : List Nat) : Bool :=
  decide (3 ≤ s.rd Reg.CAP_STATUS_LEVEL) && !s.on Reg.CAP_RES_GUAR 0 t && rs.any s.cap.short.contains

/-- The words that a pad record of `k` blocks holds: its header, the rest left open (R370). -/
def padWords (k fresh : Nat) : List Nat :=
  (0x2F + 0x100 + k <<< 16) :: (List.range (16 * k - 1)).map fun i => Config.freeValue (fresh + i) % 2 ^ 32

/-- RECORD_DELIVERY: the oldest staged record of a queue is written once the queue has room; it is dropped when the
queue does not take it any more, or when the context, loaded since it was staged, shows no space for one that does not
wait (R205, R225, R238, R370).  The record of a tenant that level 3 stops waits in staging (R446). -/
def recordDelivery (q : Nat) (s : State) : State :=
  match s.fr.staged.find? fun r => r.queue == q with
  | none => s
  | some r =>
    if !s.takesRecord r then (s.unstage q).recordDropped r
    else if s.levelStops (tenantOf q) [1, 2] then s
    else
      match s.queue q with
      | none => s.needContext q
      | some x =>
        let n := if kindType r.kind = 5 then r.blocks else 1
        let pad := if kindType r.kind = 5 then padBlocks x x.prod n else 0
        if x.free < n + pad then if kindWaits r.kind then s else (s.unstage q).recordDropped r
        else
          let s := (s.unstage q).hit
          let s := s.when (pad != 0) fun s =>
            { s.writeEntry q (padWords pad s.fresh) pad false with fresh := s.fresh + 16 * pad }
          s.writeEntry q r.words n false

def execRecordDelivery (q : Fin 262144) (s : State) : Host.Outcome State Fault Refusal :=
  .next (s.powered fun s => recordDelivery q.val s)

end Sys2Proof.Machine
end

