-- ==== Sys2Proof/Machine/Reference.lean ====
section
/-!
DEFINITION. The meanings of the chapter "Reference feed and window" (R165 to R187): jobs and job changes, the
unblurred prediction and the predicted image, REF_LINES descriptors with their checks and arrival, the window with its
limits, due, late, stale and early lines, and the lead.
-/

namespace Sys2Proof.Machine

/-! ## Jobs -/

/-- The factors fx and fy (R165). -/
def Job.fx (j : Job) : Nat := 2 ^ j.rx
def Job.fy (j : Job) : Nat := 2 ^ j.ry

/-- Bytes per pixel (R168), bytes per line, and bytes that a line takes in the window (R176). -/
def Job.pixelBytes (j : Job) : Nat := if j.format = 0 then 3 else 1
def Job.length (j : Job) : Nat := j.width * j.pixelBytes
def Job.slot (j : Job) : Nat := 64 * ((j.length + 63) / 64)

/-- The size of the reference window. -/
def windowBytes : Nat := 25165824

/-- CAP and CAP_SCAN (R176). -/
def Job.cap (j : Job) : Nat := windowBytes / j.slot
def Job.capScan (j : Job) : Nat := j.cap * j.fy

/-- The reference line that covers scan line `y` (0 before the job's first line). -/
def Job.lineOf (j : Job) (y : Nat) : Nat := (y - j.y0) / j.fy

/-- How many reference lines of the job cover a scan line below `y` (R165). -/
def Job.linesBelow (j : Job) (y : Nat) : Nat := (y - j.y0 + j.fy - 1) / j.fy

/-- The job that reference-feed fields `f` describe. -/
def jobOf (f : Row → Nat) : Job :=
  let y0 := f Reg.REF_Y0_LO_VALUE + 2 ^ 32 * f Reg.REF_Y0_HI_VALUE
  { tag := f Reg.REF_JOB_TAG, format := f Reg.REF_CTL_FORMAT, rx := f Reg.REF_CTL_RX, ry := f Reg.REF_CTL_RY,
    x0 := signed 32 (f Reg.REF_X0_VALUE), y0 := y0, width := f Reg.REF_WIDTH_PIXELS, start := y0 }

/-- The fields whose change is a job change (R166). -/
def jobFields : List Row :=
  [Reg.REF_CTL_FORMAT, Reg.REF_CTL_RX, Reg.REF_CTL_RY, Reg.REF_X0_VALUE, Reg.REF_Y0_LO_VALUE, Reg.REF_Y0_HI_VALUE,
   Reg.REF_WIDTH_PIXELS]

/-- Settings `f` make a job change against the settings in force (R166). -/
def State.jobChange (s : State) (f : Row → Nat) : Bool := jobFields.any fun r => f r != s.rd r

/-- A job change is refused (R166). -/
def State.jobRefused (s : State) (f : Row → Nat) : Bool :=
  s.jobChange f &&
    (f Reg.REF_JOB_TAG == s.rd Reg.REF_JOB_TAG || f Reg.REF_CTL_FORMAT == 3 || f Reg.REF_CTL_RX == 3 ||
      f Reg.REF_CTL_RY == 3 || f Reg.REF_WIDTH_PIXELS == 0 || decide ((jobOf f).capScan < 96))

/-- The job in force. -/
def State.job (s : State) : Option Job := s.ref.jobs.getLast?

/-- The job that covers scan line `y` (R167). -/
def State.jobAt (s : State) (y : Nat) : Option Job :=
  s.ref.jobs.reverse.find? fun j => decide (j.start ≤ y) && (match j.stop with
    | some e => decide (y < e)
    | none => true)

/-- Change the jobs by number. -/
def State.onJob (s : State) (id : Nat) (f : Job → Job) : State :=
  { s with ref := { s.ref with jobs := s.ref.jobs.map (fun j => if j.id = id then f j else j),
                               pend := s.ref.pend.map (fun j => if j.id = id then f j else j) } }

/-! ## Prediction (R169, R170) -/

/-- The unblurred prediction of a reference pixel. -/
structure Pred where
  rgb : List Nat
  cls : Nat
  dc : Bool
  paper : Bool

/-- Byte `i` of a line. -/
def byteAt (l : List Nat) (i : Nat) : Nat := l.getD i 0

/-- Entry `b` of the prediction table under settings `cfg` (R186). -/
def State.predEntry (cfg : State) (b : Nat) : Pred :=
  ⟨[cfg.rd Reg.PRED_RED 0 b, cfg.rd Reg.PRED_GREEN 0 b, cfg.rd Reg.PRED_BLUE 0 b], cfg.rd Reg.PRED_CLASS 0 b,
    cfg.on Reg.PRED_DC 0 b, cfg.on Reg.PRED_PAPER 0 b⟩

/-- The prediction of reference pixel `u` of a line's bytes, under settings `cfg` (R169). -/
def State.predict (cfg : State) (j : Job) (bytes : List Nat) (u : Nat) : Pred :=
  if j.format = 0 then
    let rgb := [cfg.rd Reg.EXP_RED 0 (byteAt bytes (3 * u)), cfg.rd Reg.EXP_GREEN 0 (byteAt bytes (3 * u + 1)),
                cfg.rd Reg.EXP_BLUE 0 (byteAt bytes (3 * u + 2))]
    ⟨rgb, cfg.rd Reg.REF_CTL_CLASS_A, false, rgb.all fun v => decide (cfg.rd Reg.REF_PAPER_A_MIN ≤ v)⟩
  else cfg.predEntry (byteAt bytes u)

/-- v_old of R177 for compare front `front`. -/
def Job.oldest (j : Job) (front : Nat) : Nat := (front - 36 - j.y0) / j.fy

/-- The reference line that covers q (R170: before q = 0, line 0). -/
def Job.vOf (j : Job) (q : Int) : Nat := q.toNat / j.fy

/-- Line `v` is present (R180). -/
def State.refPresent (s : State) (j : Job) (v : Nat) : Bool :=
  decide (j.oldest s.ref.front ≤ v) && (tfind v j.lines).isSome

/-- The unblurred prediction at (p, q), p brought into the reference and q to 0 or above (R170). -/
def State.predAt (cfg : State) (j : Job) (p q : Int) : Option Pred :=
  (tfind (j.vOf q) j.lines).map fun b => cfg.predict j b ((sat p 0 (j.fx * j.width - 1)).toNat / j.fx)

/-- The job's predictions are blurred under settings `cfg` (R170). -/
def State.blurred (cfg : State) (j : Job) : Bool := j.format != 0 || cfg.on Reg.REF_CTL_BLUR_A

/-- The taps H and V, signed 1.14. -/
def State.tapsH (cfg : State) : List Int :=
  [Reg.REF_BLUR_H0, Reg.REF_BLUR_H1, Reg.REF_BLUR_H2, Reg.REF_BLUR_H3, Reg.REF_BLUR_H4].map fun r => cfg.rdS r
def State.tapsV (cfg : State) : List Int :=
  [Reg.REF_BLUR_V0, Reg.REF_BLUR_V1, Reg.REF_BLUR_V2, Reg.REF_BLUR_V3, Reg.REF_BLUR_V4].map fun r => cfg.rdS r

/-- One colour of a prediction; 0 where the line is absent. -/
def predColour (x : Option Pred) (col : Nat) : Int :=
  match x with
  | some x => (x.rgb.getD col 0 : Nat)
  | none => 0

/-- The predicted image P(p, q) of R170, under settings `cfg`. -/
def State.predictedImage (cfg : State) (j : Job) (p q : Int) : List Int :=
  (List.range 3).map fun col =>
    if cfg.blurred j then
      let h := (List.range 5).map fun (jj : Nat) =>
        sat (rnd (((List.range 5).map fun (i : Nat) =>
          cfg.tapsH.getD i 0 * predColour (cfg.predAt j (p + i - 2) (q + jj - 2)) col).sum) 14) 0 65535
      sat (rnd (((List.range 5).map fun (jj : Nat) => cfg.tapsV.getD jj 0 * h.getD jj 0).sum) 14) 0 65535
    else predColour (cfg.predAt j p q) col

/-- The reference lines that P(p, q) fetches: where it is blurred, two lines each way whatever the taps hold (R178). -/
def State.fetches (cfg : State) (j : Job) (q : Int) : List Nat :=
  if cfg.blurred j then (List.range 5).map fun (i : Nat) => j.vOf (q + i - 2) else [j.vOf q]

/-! ## The window (R176 to R181) -/

/-- Lowest line that is not stale and highest acceptable line of the job in force (R177). -/
def State.limits (s : State) (j : Job) : Nat × Nat :=
  let o := j.oldest s.ref.front
  (o, o + j.cap - 1)

/-- The first line above those that the pending job may be given (R179): 0 where none fits. -/
def State.pendEnd (s : State) (p : Job) : Nat :=
  let kept := match s.job with
    | some j =>
      let l := s.limits j
      j.slot * (min (l.2 + 1) (j.linesBelow s.ref.change) - l.1)
    | none => 0
  p.lineOf p.start + (windowBytes - kept) / p.slot

/-- REF_LIMIT_PEND follows the pending job: its highest acceptable line (R179). Where not even line 0 fits there is no such
line and the spec states no value: a free one (assumption log 82). -/
def State.showPendLimit (s : State) (p : Job) : State :=
  if 0 < s.pendEnd p then s.wrPair Reg.REF_LIMIT_PEND_LO_VALUE Reg.REF_LIMIT_PEND_HI_VALUE (s.pendEnd p - 1)
  else
    let v := s.take 48
    v.1.wrPair Reg.REF_LIMIT_PEND_LO_VALUE Reg.REF_LIMIT_PEND_HI_VALUE v.2

/-- The job in force `j` covers scan line `y` (R167). -/
def State.jobCovers (s : State) (j : Job) (y : Nat) : Bool :=
  decide (j.start ≤ y) && (s.ref.pend.isNone || decide (y < s.ref.change))

/-- REF_LEAD (R181), counted from `y36`, a scan line plus 36: consecutive scan lines whose covering lines of the job in
force are all present. DEDUCED: a line that the job does not cover has none that could be absent (assumption log 83). -/
def State.leadCount (s : State) (j : Job) : Nat → Nat → Nat
  | 0, _ => 0
  | n + 1, y36 =>
    if decide (y36 < 36) || !s.jobCovers j (y36 - 36) || s.refPresent j (j.lineOf (y36 - 36)) then
      1 + State.leadCount s j n (y36 + 1)
    else 0

/-- Publish front, limits, capacity, tags, pending state and lead; LEAD_LOW at a fall below LEAD_WARN. -/
def State.refPublish (s : State) : State :=
  let s := s.wrPair Reg.REF_FRONT_LO_VALUE Reg.REF_FRONT_HI_VALUE s.ref.front
  let s := (s.wr Reg.REF_JOB_STATUS_TAG (s.rd Reg.REF_JOB_TAG)).wr Reg.REF_JOB_STATUS_PEND_TAG
    ((s.ref.pend.map (·.tag)).getD 0)
  let s := s.wrB Reg.REF_STATE_PENDING s.ref.pend.isSome
  let s := match s.ref.pend with
    | some p => s.showPendLimit p
    | none => s
  let was := s.rd Reg.REF_LEAD_VALUE
  let warn := s.rd Reg.REF_PAPER_LEAD_WARN
  let lead := match s.job with
    | some j => s.leadCount j 65535 s.ref.front
    | none => 0
  let s := match s.job with
    | some j =>
      (s.wrPair Reg.REF_LIMIT_LO_VALUE Reg.REF_LIMIT_HI_VALUE (s.limits j).2).wr Reg.REF_CAP_CAP (j.cap % 65536)
        |>.wr Reg.REF_CAP_CAP_SCAN (j.capScan % 65536)
    | none => s
  (s.wr Reg.REF_LEAD_VALUE lead).when (decide (lead < warn) && decide (warn ≤ was)) (·.raise Ev.REF_LEAD_LOW)

/-- The lines of a job that become due up to compare front `front` are judged: an absent one counts as late (R178). -/
def State.judgeJob (s : State) (front : Nat) (j : Job) : State :=
  if front + 36 < j.y0 then s
  else
    let upTo := (front + 36 - j.y0) / j.fy + 1
    let upTo := match j.stop with
      | some e => min upTo (j.linesBelow e)
      | none => upTo
    let new := (List.range (upTo - j.judged)).map (· + j.judged)
    let missing := (new.filter fun v => !(tfind v j.lines).isSome).length
    let s := s.onJob j.id fun j => { j with judged := max j.judged upTo }
    (s.inc Reg.REF_LATE_COUNT 0 0 missing).when (missing != 0) (·.raise Ev.REF_LATE)

/-- The compare front reaches line `y`; with no run active it stays 0 (R177, R178). -/
def State.refAdvance (s : State) (y : Nat) : State :=
  if !s.running || decide (y < s.ref.front) then s
  else
    let s := { s with ref := { s.ref with front := y } }
    (s.each s.ref.jobs fun s j => s.judgeJob y j).refPublish

/-- The compare front: the lowest line that a lane holds at its reference fetch (R177). -/
def State.lanesFront (s : State) : Nat :=
  match ((List.range 12).map fun k => (tget {} s.lanes k : Lane).next - 1) with
  | [] => 0
  | a :: l => l.foldl min a

/-! ## Job changes at commits and runs (R166, R167, R182) -/

/-- A commit with new settings `f` and changeover line `y` was accepted: its job is pending (R167, R179). -/
def State.refRequest (s : State) (f : Row → Nat) (y : Nat) : State :=
  if f Reg.REF_CTL_EN == 1 && s.jobChange f && !s.jobRefused f then
    let j := { jobOf f with id := s.ref.nextId, start := max y (jobOf f).y0 }
    let j := { j with judged := j.lineOf j.start }
    let cut := fun (o : Job) => { o with lines := o.lines.filter fun (e : Nat × List Nat) => decide (o.y0 + o.fy * e.1 < y) }
    let jobs := match s.ref.jobs.reverse with
      | [] => []
      | o :: r => (cut o :: r).reverse
    { s with ref := { s.ref with pend := some j, change := y, nextId := s.ref.nextId + 1, jobs := jobs } }.refPublish
  else s

/-- The pending job is given up: what its commit captured was discarded, or its line has passed (R167). -/
def State.refForget (s : State) : State :=
  if s.ref.pend.isNone then s else { s with ref := { s.ref with pend := none } }.refPublish

/-- A job from the settings in force, with an empty window. -/
def State.newJob (s : State) (start : Nat) : State :=
  let j := { jobOf s.rd with id := s.ref.nextId, start := max start (jobOf s.rd).y0 }
  { s with ref := { s.ref with jobs := [{ j with judged := j.lineOf j.start }], pend := none, nextId := s.ref.nextId + 1 } }

/-- A commit took effect at line `y` (0 with no run active); `old` is the state before it (R166, R167, R182). -/
def State.refEffect (s old : State) (y : Nat) : State :=
  let changed := jobFields.any fun r => s.rd r != old.rd r
  let s :=
    if !s.on Reg.REF_CTL_EN then { s with ref := { s.ref with jobs := [], pend := none } }
    else if changed then
      if s.running then
        let j := match s.ref.pend with
          | some p => p
          | none => { jobOf s.rd with id := s.ref.nextId }
        let j := { j with start := max y j.y0 }
        let jobs := match s.ref.jobs.reverse with
          | [] => [j]
          | o :: r => (j :: { o with stop := some y } :: r).reverse
        { s with ref := { s.ref with jobs := jobs, pend := none, nextId := s.ref.nextId + 1 } }.raise Ev.REF_JOB_CHANGED
      else (s.newJob 0).raise Ev.REF_JOB_CHANGED
    else if !old.on Reg.REF_CTL_EN then s.newJob (if s.running then y else 0)
    else
      -- a new TAG alone names the job in force
      match s.ref.jobs.reverse with
      | [] => s
      | o :: r => { s with ref := { s.ref with jobs := ({ o with tag := s.rd Reg.REF_JOB_TAG } :: r).reverse } }
  let s := if s.ref.change ≤ y then { s with ref := { s.ref with pend := none } } else s
  s.refPublish

/-- A run starts: the counters of the run are cleared and the lines due at y_c = 0 are judged (R178, R184). -/
def State.refRunStart (s : State) : State :=
  let s := ((s.wr Reg.REF_LATE_COUNT 0).wr Reg.REF_STALE_COUNT 0).wr Reg.REF_REWRITE_COUNT 0
  let s := { s with ref := { s.ref with front := 0 } }
  (s.each s.ref.jobs fun s j => s.judgeJob 0 j).refPublish

/-- The window is emptied; the job in force stays and the limit restarts (R182, R426). -/
def State.refEmpty (s : State) : State :=
  let jobs := match s.ref.jobs.getLast? with
    | some j => [{ j with lines := [], start := j.y0, stop := none, judged := 0 }]
    | none => []
  { s with ref := { s.ref with jobs := jobs, pend := s.ref.pend.map (fun (p : Job) => { p with lines := [] }), front := 0 } }.refPublish

/-! ## REF_LINES descriptors (R172 to R175, R180) -/

/-- Word at byte offset `o` of a descriptor. -/
def wordAt (w : List Nat) (o : Nat) : Nat := w.getD (o / 4) 0

/-- The job that a tag names: in force, or pending (R173). -/
def State.jobTagged (s : State) (tag : Nat) : Option Job :=
  match s.job with
  | some j => if j.tag = tag then some j else s.ref.pend.filter fun p => p.tag == tag
  | none => s.ref.pend.filter fun p => p.tag == tag

/-- First line and count of a descriptor. -/
def refLine (w : List Nat) : Nat := wordAt w 0x20 + 2 ^ 32 * bitsOf (wordAt w 0x24) 0 16
def refCount (w : List Nat) : Nat := bitsOf (wordAt w 0x24) 16 16

/-- The lowest of reasons 1 to 7 that applies to a descriptor of queue `q`, 0 for none (R173). -/
def State.refReason (s : State) (q : Nat) (w : List Nat) : Nat :=
  let ctl := wordAt w 0x30
  if bitsOf ctl 23 9 ≠ 0 ∨ wordAt w 0x34 ≠ 0 ∨ wordAt w 0x3C ≠ 0 then 1
  else if q ≠ s.rd Reg.REF_Q_QUEUE ∨ !s.on Reg.REF_Q_VALID ∨ !s.on Reg.REF_CTL_EN then 2
  else
    match s.jobTagged (bitsOf ctl 0 16) with
    | none => 3
    | some j =>
      if bitsOf ctl 16 2 ≠ j.format ∨ bitsOf ctl 18 2 ≠ j.rx ∨ bitsOf ctl 20 2 ≠ j.ry then 4
      else if wordAt w 0x2C ≠ j.length then 5
      else if 1 < refCount w ∧ wordAt w 0x28 < wordAt w 0x2C then 6
      else if refCount w = 0 ∨ j.cap < refCount w then 7
      else 0

/-- The descriptor's last line lies above its job's limit (R180). -/
def State.refEarly (s : State) (w : List Nat) : Bool :=
  match s.jobTagged (bitsOf (wordAt w 0x30) 0 16) with
  | none => false
  | some j =>
    let last := refLine w + refCount w - 1
    if (s.job.map (·.id)) = some j.id then decide ((s.limits j).2 < last) else decide (s.pendEnd j ≤ last)

/-- The descriptor at the head of a queue begins: CONS and EXP_SEQ pass it (R357, R366). -/
def State.beginHead (s : State) (q : Nat) (w : List Nat) : State :=
  let s := s.onQueue q fun x =>
    { x with head := none, early := false, begun := x.begun ++ [{ index := x.cons, words := w }],
             cons := (x.cons + 1) % 2 ^ 32, expSeq := if s.version (tenantOf q) = 0 then x.expSeq else (x.expSeq + 1) % 2 ^ 32 }
  s.unpublished q 1 0

/-- The descriptor at the head of a queue begins and completes at once. -/
def State.finishHead (s : State) (q : Nat) (w : List Nat) (status d0 d1 : Nat) : State :=
  match s.queue q with
  | none => s
  | some x => (s.beginHead q w).completeBegun q x.cons w status d0 d1

/-- A transfer is given to its channel: it completes ABORTED on a HALTED one, begins on an idle one, else waits (R381,
R392); a payload transfer begins only on a channel that its tenant holds (R384). -/
def State.submitXfer (s : State) (c : Nat) (x : Xfer) : State :=
  let t := tenantOf x.queue
  let ch := s.channel c
  if s.rd Reg.DMA_STATUS_STATE c = 2 then s.completeBegun x.queue x.index x.words 0x0A 0 (s.xferDetail c x)
  else if x.payload && ch.current.isNone && ch.waiting.isEmpty && !s.holds t c then
    s.completeBegun x.queue x.index x.words 0x06 0 0
  else ((s.putChannel c { ch with waiting := ch.waiting ++ [x] }).waitingCount c).beginNext c

/-- The payload transfer of a REF_LINES descriptor. -/
def payloadXfer (q index : Nat) (w : List Nat) : Xfer :=
  { queue := q, index := index, words := w, payload := true, n0 := wordAt w 0x2C, n1 := refCount w,
    src := wordAt w 0x18 + 2 ^ 32 * wordAt w 0x1C, srcStep := [1, wordAt w 0x28, 0], dstStep := [0, 0, 0] }

/-- A malformed descriptor (R173). -/
def State.refMalformed (s : State) : State := (s.inc Reg.REF_MALFORMED_COUNT).raise Ev.REF_MALFORMED

/-- The descriptor at the head of queue `q` is taken up: DOMAIN_OFF, early (neither refused nor fetched, R180), malformed,
or its payload is read. -/
def State.refTake (s : State) (q : Nat) (x : Queue) (w : List Nat) : State :=
  if s.domain 3 ≠ 2 then (s.finishHead q w 0x08 0 0).refWaiting
  else if s.refEarly w then
    if x.early then s
    else ((s.onQueue q fun x => { x with early := true }).refWaiting).raise Ev.REF_WAITED
  else
    let reason := s.refReason q w
    if reason ≠ 0 then ((s.finishHead q w 0x02 0 reason).refMalformed).refWaiting
    else if 32 ≤ (s.channel x.channel).waiting.length then s
    else ((s.beginHead q w).refWaiting).submitXfer x.channel (payloadXfer q x.cons w)

/-- The REF_LINES descriptor at the head of a running queue. -/
def State.refHead (s : State) (q : Nat) : Option (Queue × List Nat) :=
  match s.queue q with
  | none => none
  | some x =>
    match x.head with
    | none => none
    | some w => if x.state = 1 ∧ x.type = 4 ∧ bitsOf (wordAt w 0) 0 8 = 2 then some (x, w) else none

/-- REF_LINES: the descriptor at the head of the queue is checked and its payload read begins, or it waits (R173, R174,
R180). -/
def refLines (q : Nat) (s : State) : State :=
  match s.refHead q with
  | some (x, w) => if x.early then s else s.refTake q x w
  | none => s

def execRefLines (q : Fin 262144) (s : State) : Host.Outcome State Fault Refusal :=
  .next (s.powered fun s => refLines q.val s)

/-- REF_EARLY_FETCH: the limit has reached the waiting descriptor's last line, or its job is gone (R180, R182). -/
def refEarlyFetch (q : Nat) (s : State) : State :=
  match s.refHead q with
  | some (x, w) => if x.early then s.refTake q x w else s
  | none => s

def execRefEarlyFetch (q : Fin 262144) (s : State) : Host.Outcome State Fault Refusal :=
  .next (s.powered fun s => refEarlyFetch q.val s)

/-- What becomes of line `v` at the arrival instant: 0 written, 1 stale, 2 refused (R175, R179). -/
def State.arrivalOf (s : State) (j : Option Job) (v : Nat) : Nat :=
  match j with
  | none => 1
  | some j =>
    let inForce := s.job.map (·.id) == some j.id
    if inForce && decide (v < j.oldest s.ref.front) then 1
    else if (tfind v j.lines).isSome && decide (j.y0 + j.fy * v ≤ s.ref.front + 36) then 2
    else 0

/-- The arrival instant of a descriptor (R175). -/
def State.arrive (s : State) (c : Nat) (x : Xfer) : State :=
  let w := x.words
  let j := s.jobTagged (bitsOf (wordAt w 0x30) 0 16)
  let vs := (List.range (refCount w)).map fun i => (i, refLine w + i)
  let count := fun k => (vs.filter fun e => s.arrivalOf j e.2 == k).length
  let written := count 0
  let stale := count 1
  let refused := count 2
  let new := (vs.filter fun e => s.arrivalOf j e.2 == 0).map fun e =>
    (e.2, (x.data.drop (e.1 * wordAt w 0x2C)).take (wordAt w 0x2C))
  let s := match j with
    | some j => s.onJob j.id fun j => { j with lines := new.foldl (fun t (e : Nat × List Nat) => tput e.1 e.2 t) j.lines }
    | none => s
  let s := (s.inc Reg.REF_STALE_COUNT 0 0 stale).when (stale != 0) (·.raise Ev.REF_STALE)
  let s := (s.inc Reg.REF_REWRITE_COUNT 0 0 refused).when (refused != 0) (·.raise Ev.REF_REWRITE_REFUSED)
  let s := s.inc Reg.DMA_BYTES_COUNT c 0 (written * wordAt w 0x2C)
  s.refPublish.finishXfer c x (if stale = 0 ∧ refused = 0 then 0 else 1) (min written 65535 + min stale 65535 <<< 16)
    (min refused 65535 <<< 4)

/-- REF_ARRIVAL: every payload byte of the transfer in progress on channel `c` has arrived (R173, R175). -/
def refArrival (c : Nat) (s : State) : State :=
  match (s.channel c).current with
  | none => s
  | some x =>
    if !x.payload || x.stop.isSome || decide (x.data.length < x.n0 * x.n1) then s
    else
      let crcOn := (wordAt x.words 0x30).testBit 22
      if (crcOn && crc32 x.data != wordAt x.words 0x38) || (!crcOn && s.on Reg.REF_CTL_CRC_REQ) then
        s.refMalformed.finishXfer c x 0x02 0 8
      else s.arrive c x

def execRefArrival (c : Fin 64) (s : State) : Host.Outcome State Fault Refusal :=
  .next (s.powered fun s => refArrival c.val s)

/-- The offset of the low half of the reference-feed pairs: REF_Y0, REF_FRONT, REF_LIMIT, REF_LIMIT_PEND (R184). -/
def refPairOffset (i : Nat) : Nat := [0x28, 0x60, 0x68, 0x70].getD i 0x28

/-- REF_PAIR_READ: a read at one of the pairs captures it for the agent (R48, R184). -/
def refPairRead (agent i sub width : Nat) (s : State) : State :=
  let o := refPairOffset i
  s.readPair agent 0x160 o sub width (s.storedWord 0x160 o + 2 ^ 32 * s.storedWord 0x160 (o + 4))

def execRefPairRead (agent : Agent) (i : Fin 4) (sub : Fin 4) (width : Nat) (s : State) : Host.Outcome State Fault Refusal :=
  .next (s.powered fun s => refPairRead agent.val i.val sub.val width s)

/-- A reference line found to hold an uncorrectable error is no longer present (R415). -/
def State.refLineLost (s : State) (v : Nat) : State :=
  match s.job with
  | some j => (s.onJob j.id fun j => { j with lines := tdel v j.lines }).refPublish
  | none => s

end Sys2Proof.Machine
end

