-- ==== Sys2Proof/Machine/Registration.lean ====
section
/-!
DEFINITION. The meanings of the chapter "Predictive elastic registration" (R188 to R209): tiles and their correlation
sums, peaks and acceptance, measured fields, the predicted field and the warp, the states of registration and the
field record.
-/

namespace Sys2Proof.Machine

/-! ## Tiles and columns (R188) -/

/-- T of a tile size code. -/
def tileSize (code : Nat) : Nat := 128 * 2 ^ code

/-- x of the device's first and last output pixel (R536). -/
def State.xFirst (s : State) : Nat := s.xBase + s.westOverlap
def State.xLast (s : State) (cfg : State) : Nat := s.xBase + cfg.outWidth - 1

/-- The first and the last position p of the job that the device holds; none where it holds none. -/
def State.ownPositions (s cfg : State) (j : Job) : Option (Nat × Nat) :=
  let lo := max 0 ((s.xFirst : Int) - j.x0)
  let hi := min ((j.fx * j.width : Nat) - 1 : Int) ((s.xLast cfg : Int) - j.x0)
  if lo ≤ hi then some (lo.toNat, hi.toNat) else none

/-- COL0 and NCOL (R188). -/
def State.columns (s cfg : State) (j : Job) (t : Nat) : Nat × Nat :=
  match s.ownPositions cfg j with
  | none => (0, 0)
  | some r => (r.1 / t, r.2 / t - r.1 / t + 1)

/-- First line of row `r`, and its last line that belongs to the job. -/
def Job.rowFirst (j : Job) (t r : Nat) : Nat := j.y0 + r * t
def Job.rowLast (j : Job) (t r : Nat) : Nat :=
  match j.stop with
  | some e => min (j.y0 + r * t + t - 1) (e - 1)
  | none => j.y0 + r * t + t - 1

/-! ## What holds for an output line -/

/-- The entry of registration's history that holds for line `y` (R199). -/
def State.regEntry (s : State) (y : Nat) : RegEntry :=
  (s.reg.history.find? fun e => decide (e.line ≤ y)).getD {}

/-- Line `y` is registration acquiring (R200). -/
def State.acquiringAt (s : State) (y : Nat) : Bool :=
  let e := s.regEntry y
  e.active && (match e.track with
    | some t => decide (y < t)
    | none => true)

/-- Line `y` is tracked (R199). -/
def State.trackingAt (s : State) (y : Nat) : Bool := (s.regEntry y).active && !s.acquiringAt y

/-- Rows of the job that are available at line `y` and were measured since the acquisition start, newest first. -/
def State.rowsAt (s : State) (job y : Nat) : List TileRow :=
  s.reg.rows.filter fun r => r.job == job && decide (r.avail ≤ y) && decide ((s.regEntry y).line ≤ r.avail)

/-- A row's tile of column `c`. -/
def TileRow.at (r : TileRow) (c : Nat) : Tile := r.tiles.getD (c - r.col0) {}

/-- A displacement held within 32.0 pixels or lines (R188). -/
def heldDisplacement (d : Int) : Int := sat d (-512) 512

/-- REG_INIT under settings `cfg`, held (R188). -/
def State.regInit (cfg : State) : Int × Int :=
  (heldDisplacement (cfg.rdS Reg.REG_INIT_DX), heldDisplacement (cfg.rdS Reg.REG_INIT_DY))

/-- The final limit of R197 on both axes, with whether it held a value. -/
def limitField (dx dy : Int) : Int × Int × Bool :=
  let out := fun (d : Int) => decide (d < -512) || decide (511 < d)
  (sat dx (-512) 511, sat dy (-512) 511, out dx || out dy)

/-- The extrapolation of one axis (R197). -/
def extrapolate (ma mb gain e2 : Int) (t : Nat) : Int := ma + rnd (quot (gain * (ma - mb) * e2) (2 * t)) 8

/-- The predicted field of column `c` at output line `y` of a job, with whether a limit held it (R197, R199). -/
def State.predictedField (s : State) (j : Job) (y c : Nat) : Int × Int × Bool :=
  let cfg := s.atLine y
  let init := cfg.regInit
  if !s.trackingAt y then (init.1, init.2, false)
  else
    match s.rowsAt j.id y with
    | [] => (init.1, init.2, false)
    | [a] => limitField (a.at c).dx (a.at c).dy
    | a :: b :: _ =>
      if !cfg.on Reg.REG_CTL_PRED then limitField (a.at c).dx (a.at c).dy
      else
        let t := tileSize a.tile
        let e2 := sat (2 * (y : Int) - (2 * ((j.y0 : Int) + a.row * t) + t - 1)) 0 (4 * t)
        let gain : Int := cfg.rd Reg.REG_CTL_GAIN
        limitField (extrapolate (a.at c).dx (b.at c).dx gain e2 t) (extrapolate (a.at c).dy (b.at c).dy gain e2 t)

/-- The displacement at output pixel `x` of line `y`, with whether a limit held it; the columns are those of the tile size
in force at that line (R198, R202). -/
def State.displacement (s : State) (j : Job) (y : Nat) (x : Nat) : Int × Int × Bool :=
  let cfg := s.atLine y
  let t := tileSize (s.regEntry y).tile
  let cols := s.columns cfg j t
  let u : Int := 2 * ((x : Int) - j.x0) - ((t : Int) - 1)
  let last := cols.1 + cols.2 - 1
  if u < 2 * (cols.1 : Int) * t then s.predictedField j y cols.1
  else if 2 * (last : Int) * t ≤ u then s.predictedField j y last
  else
    let c := (u / (2 * t)).toNat
    let w := quot ((u - 2 * c * t) * 65536) (2 * t)
    let a := s.predictedField j y c
    let b := s.predictedField j y (c + 1)
    (a.1 + rnd ((b.1 - a.1) * w) 16, a.2.1 + rnd ((b.2.1 - a.2.1) * w) 16, a.2.2 || b.2.2)

/-! ## The warp (R171, R198) -/

/-- The bilinear terms at (p16, q16) that are fetched: coefficient and position. -/
def warpTerms (p16 q16 : Int) : List (Int × Int × Int) :=
  let i := asr p16 4
  let a := p16 - 16 * i
  let j := asr q16 4
  let b := q16 - 16 * j
  [((16 - a) * (16 - b), i, j), (a * (16 - b), i + 1, j), ((16 - a) * b, i, j + 1), (a * b, i + 1, j + 1)].filter
    fun (e : Int × Int × Int) => e.1 != 0

/-- The reference token of output pixel `x` of line `y`, with whether a limit held its displacement. -/
def State.tokenAt (s : State) (y x : Nat) : Token × Bool :=
  match s.jobAt y with
  | none => ({ absent := true }, false)
  | some j =>
    let cfg := s.atLine y
    let d := s.displacement j y x
    let p16 := 16 * ((x : Int) - j.x0) + d.1
    let q16 := 16 * ((y : Int) - j.y0) + d.2.1
    let terms := warpTerms p16 q16
    let np := asr (p16 + 8) 4
    let nq := asr (q16 + 8) 4
    let lines := terms.flatMap fun e => cfg.fetches j e.2.2
    let missing := lines.any fun v => !s.refPresent j v
    let rgb := (List.range 3).map fun col =>
      (rnd ((terms.map fun e => e.1 * (cfg.predictedImage j e.2.1 e.2.2).getD col 0).sum) 8).toNat
    let out := decide (np < 0) || decide ((j.fx * j.width : Nat) ≤ np)
    let near := cfg.predAt j np nq
    let dc := out || ((near.map (·.dc)).getD false)
    let absent := missing || near.isNone
    ({ rgb := rgb, cls := (near.map (·.cls)).getD 0, dc := dc, absent := absent,
       paper := ((near.map (·.paper)).getD false) && !dc && !absent }, d.2.2)

/-- Every reference line covering q - 34 to q + 35 of line `y` is present (R190). -/
def State.searchable (s : State) (y : Nat) : Bool :=
  match s.jobAt y with
  | none => false
  | some j =>
    let a := j.vOf ((y : Int) - j.y0 - 34)
    let b := j.vOf ((y : Int) - j.y0 + 35)
    (List.range (b + 1 - a)).all fun i => s.refPresent j (a + i)

/-! ## Correlation (R189 to R193) -/

/-- Luma of R189. -/
def luma (rgb : List Nat) : Nat := (5 * rgb.getD 0 0 + 9 * rgb.getD 1 0 + 2 * rgb.getD 2 0 + 8) / 16

/-- The output pixel at (x, y), as the lanes emitted it. -/
def State.outPixel (s : State) (y x : Nat) : Option (OutLine × Pixel) :=
  (List.range 12).findSome? fun k =>
    (tfind (16 * y + k) s.outLines).bind fun l =>
      let b := s.xBase + l.first
      if b ≤ x then (l.pixels[x - b]?).map fun p => (l, p) else none

/-- Luma of P at (p, q) under settings `cfg`: p is brought into the reference, q to 0 or above (R189). -/
def State.refLuma (cfg : State) (j : Job) (p q : Int) : Nat :=
  luma ((cfg.predictedImage j (sat p 0 ((j.fx * j.width : Nat) - 1)) (max 0 q)).map (·.toNat))

/-- Sums of R191 over pairs of samples: n, ss, sr, sss, srr, ssr. -/
def sumPairs (l : List (Nat × Nat)) : Int × Int × Int × Int × Int × Int :=
  l.foldl (fun a e => (a.1 + 1, a.2.1 + e.1, a.2.2.1 + e.2, a.2.2.2.1 + e.1 * e.1, a.2.2.2.2.1 + e.2 * e.2,
    a.2.2.2.2.2 + e.1 * e.2)) (0, 0, 0, 0, 0, 0)

/-- ncc of R191, signed 1.14. -/
def ncc (l : List (Nat × Nat)) : Int :=
  let a := sumPairs l
  let vs := a.1 * a.2.2.2.1 - a.2.1 * a.2.1
  let vr := a.1 * a.2.2.2.2.1 - a.2.2.1 * a.2.2.1
  let cov := a.1 * a.2.2.2.2.2 - a.2.1 * a.2.2.1
  if vs = 0 ∨ vr = 0 then 0 else sat (quot (cov * 16384) (isqrt (vs * vr).toNat)) (-16384) 16384

/-- Texture of full-resolution luma samples (R191). -/
def texture (l : List Nat) : Nat :=
  let n := l.length
  if n = 0 then 0 else isqrt (n * (l.map fun v => v * v).sum - l.sum * l.sum) / n

/-- The offsets of a grid from -k to k on both axes. -/
def gridOffsets (k : Nat) : List (Int × Int) :=
  (List.range (2 * k + 1)).flatMap fun (j : Nat) => (List.range (2 * k + 1)).map fun (i : Nat) => ((i : Int) - k, (j : Int) - k)

/-- A value with its offset beats another (R193): greater, else nearer, else the lower y, else the lower x. -/
def beats (a b : Int × Int × Int) : Bool :=
  if a.1 ≠ b.1 then decide (b.1 < a.1)
  else
    let da := a.2.1.natAbs + a.2.2.natAbs
    let db := b.2.1.natAbs + b.2.2.natAbs
    if da ≠ db then decide (da < db)
    else if a.2.2 ≠ b.2.2 then decide (a.2.2 < b.2.2) else decide (a.2.1 < b.2.1)

/-- The peak of a grid of values. -/
def gridPeak (g : List (Int × Int × Int)) : Int × Int × Int :=
  match g with
  | [] => (0, 0, 0)
  | a :: l => l.foldl (fun b e => if beats e b then e else b) a

/-- The value of a grid at an offset. -/
def gridAt (g : List (Int × Int × Int)) (x y : Int) : Int := ((g.find? fun e => e.2.1 == x && e.2.2 == y).map (·.1)).getD 0

/-- The fit of one axis (R193). -/
def fitAxis (cm c0 cp : Int) : Int :=
  let q := 2 * c0 - cm - cp
  if q ≤ 0 then 0
  else
    let n := cp - cm
    let d : Int := (16 * (n.natAbs : Int) + q) / (2 * q)
    sat (if n < 0 then -d else d) (-8) 8

/-- CONF of a peak value (R194). -/
def confOf (v : Int) : Nat := (sat (asr (max 0 v) 6) 0 255).toNat

/-- The second of a grid: the largest value outside the 3 x 3 offsets around the peak (R194). -/
def gridSecond (g : List (Int × Int × Int)) (p : Int × Int × Int) : Nat :=
  let rest := g.filter fun e => decide (1 < (e.2.1 - p.2.1).natAbs) || decide (1 < (e.2.2 - p.2.2).natAbs)
  confOf (gridPeak rest).1

/-- The lines of row `r` that the tile at column `c` accumulates (R190), and its positions p. -/
def State.tileLines (s : State) (j : Job) (t r : Nat) (ps : List Nat) : List Nat :=
  let first := max (j.rowFirst t r) (max s.reg.from_ j.start)
  let last := j.rowLast t r
  ((List.range (last + 1 - first)).map (· + first)).filter fun y =>
    !(s.line y).thinned && ps.all fun p =>
      match s.outPixel y ((p : Int) + j.x0).toNat with
      | none => false
      | some e => !e.1.capture && !e.1.incomplete && e.1.searchable && e.2.flags / 2 % 4 == 0 &&
                  !(e.2.code == 2 || e.2.code == 3 || e.2.code == 5)

/-- The positions of column `c` inside the reference and on the device. -/
def State.tilePositions (s cfg : State) (j : Job) (t c : Nat) : List Nat :=
  match s.ownPositions cfg j with
  | none => []
  | some r => ((List.range t).map (· + c * t)).filter fun p => decide (r.1 ≤ p) && decide (p ≤ r.2)

/-- Scan luma at position p of line y. -/
def State.scanLuma (s : State) (j : Job) (y p : Nat) : Nat :=
  match s.outPixel y ((p : Int) + j.x0).toNat with
  | some e => luma e.2.rgb
  | none => 0

/-- Sample pairs of the fine grid at an offset: whole pixels and lines. -/
def State.finePairs (s : State) (j : Job) (ys ps : List Nat) (ox oy : Int) : List (Nat × Nat) :=
  ys.flatMap fun (y : Nat) => ps.map fun (p : Nat) =>
    (s.scanLuma j y p, (s.atLine y).refLuma j (p + ox) ((y : Int) - j.y0 + oy))

/-- Sample pairs of the coarse grid at an offset of coarse steps: 4 x 4 blocks aligned to the tile origin, of which all
four lines were accumulated (R190). -/
def State.coarsePairs (s : State) (j : Job) (t r c : Nat) (ys ps : List Nat) (kx ky : Int) : List (Nat × Nat) :=
  let first := j.rowFirst t r
  (List.range (t / 4)).flatMap fun by' =>
    let rows := (List.range 4).map fun i => first + 4 * by' + i
    if !rows.all ys.contains then []
    else (List.range (t / 4)).filterMap fun bx =>
      let cols := (List.range 4).map fun i => c * t + 4 * bx + i
      if !cols.all ps.contains then none
      else
        let a := (rows.flatMap fun y => cols.map fun p => s.scanLuma j y p).sum
        let b := (rows.flatMap fun (y : Nat) => cols.map fun (p : Nat) =>
          (s.atLine y).refLuma j (p + 4 * kx) ((y : Int) - j.y0 + 4 * ky)).sum
        some ((rnd a 4).toNat, (rnd b 4).toNat)

/-- The fine centre of row `r` at column `c`, unrounded (R192). -/
def State.fineCentre (s : State) (j : Job) (t r c : Nat) : Int × Int :=
  let y := j.rowFirst t r
  if s.acquiringAt y then
    match (s.rowsAt j.id y).find? (·.qualified) with
    | some a => ((a.at c).dx, (a.at c).dy)
    | none => (s.atLine y).regInit
  else
    let p := s.predictedField j y c
    (p.1, p.2.1)

/-- The fine centre rounded and held (R192). -/
def roundCentre (d : Int) : Int := sat (rnd d 4) (-28) 28

/-- What a tile's decision is made of: the tile, its reason (0 accepted, 1 FEW, 2 TEX, 3 RANGE, 4 CONF, 5 MARGIN) and
whether it was resolved on the coarse grid. -/
structure Decision where
  tile : Tile
  reason : Nat
  coarse : Bool

/-- The decision of R193 and R194. -/
def State.decideTile (s : State) (j : Job) (t r c : Nat) : Decision :=
  let cfg := s.atLine (j.rowFirst t r)
  let ps := s.tilePositions cfg j t c
  let ys := s.tileLines j t r ps
  let fc := s.fineCentre j t r c
  let fx := roundCentre fc.1
  let fy := roundCentre fc.2
  let coarse := (gridOffsets 8).map fun o => (ncc (s.coarsePairs j t r c ys ps o.1 o.2), o.1, o.2)
  let k := gridPeak coarse
  let range := decide (k.2.1.natAbs = 8) || decide (k.2.2.natAbs = 8)
  let fineOn := cfg.on Reg.REG_CTL_FINE_EN && decide ((4 * k.2.1 - fx).natAbs ≤ 3) && decide ((4 * k.2.2 - fy).natAbs ≤ 3)
  let fine := if fineOn then (gridOffsets 4).map fun o => (ncc (s.finePairs j ys ps (fx + o.1) (fy + o.2)), o.1, o.2) else []
  let f := gridPeak fine
  let useFine := fineOn && decide (f.2.1.natAbs < 4) && decide (f.2.2.natAbs < 4)
  let g := if useFine then fine else coarse
  let p := if useFine then f else k
  let d := fun (ax : Bool) =>
    if ax then fitAxis (gridAt g (p.2.1 - 1) p.2.2) p.1 (gridAt g (p.2.1 + 1) p.2.2)
    else fitAxis (gridAt g p.2.1 (p.2.2 - 1)) p.1 (gridAt g p.2.1 (p.2.2 + 1))
  let dx := if useFine then 16 * (fx + p.2.1) + d true else 64 * p.2.1 + 4 * d true
  let dy := if useFine then 16 * (fy + p.2.2) + d false else 64 * p.2.2 + 4 * d false
  let conf := confOf p.1
  let tex := texture (ys.flatMap fun y => ps.map fun p => s.scanLuma j y p)
  let reason :=
    if ys.length < t / 2 ∨ ps.length < 32 then 1
    else if tex < cfg.rd Reg.REG_THRESH_MIN_TEX then 2
    else if range then 3
    else if conf < cfg.rd Reg.REG_THRESH_MIN_CONF then 4
    else if (conf : Int) - gridSecond g p < cfg.rd Reg.REG_THRESH_MIN_MARGIN then 5
    else 0
  { tile := { dx := heldDisplacement dx, dy := heldDisplacement dy, conf := if reason = 0 then conf else 0,
              state := if useFine then 0 else 1, accepted := reason == 0 }
    reason := reason, coarse := !useFine && !range }

/-! ## Rows (R195, R196) -/

/-- The value filled in between accepted columns `a` and `b` (R195). -/
def fillBetween (da db : Int) (a b c : Nat) : Int := da + rnd ((db - da) * ((((c - a) <<< 16) / (b - a) : Nat) : Int)) 16

/-- The measured field: tiles that were not accepted are filled (R195); `centre` gives the fine centres. -/
def fillRow (tiles : List Tile) (centre : Nat → Int × Int) : List Tile :=
  let ok := (List.range tiles.length).filter fun c => (tiles.getD c {}).accepted
  (List.range tiles.length).map fun c =>
    let x := tiles.getD c {}
    if x.accepted then x
    else
      let left := (ok.filter fun i => decide (i < c)).getLast?
      let right := ok.find? fun i => decide (c < i)
      let v := fun (i : Nat) => tiles.getD i {}
      match left, right with
      | some a, some b =>
        { dx := fillBetween (v a).dx (v b).dx a b c, dy := fillBetween (v a).dy (v b).dy a b c, conf := 0, state := 2 }
      | some a, none => { dx := (v a).dx, dy := (v a).dy, conf := 0, state := 2 }
      | none, some b => { dx := (v b).dx, dy := (v b).dy, conf := 0, state := 2 }
      | none, none => { dx := (centre c).1, dy := (centre c).2, conf := 0, state := 3 }

/-- A job of the run by number. -/
def State.jobById (s : State) (id : Nat) : Option Job := s.ref.jobs.find? fun j => j.id == id

/-- The row that is decided after row `r` of a job: its next row, else the first row of the next job, which has the tile
size now in force (R202). -/
def State.rowAfter (s : State) (j : Job) (tile r : Nat) : Option (Nat × Nat × Nat) :=
  let more := match j.stop with
    | some e => decide (j.rowFirst (tileSize tile) (r + 1) < e)
    | none => true
  if more then some (j.id, r + 1, tile)
  else
    let now := s.rd Reg.REG_STATUS_TILE
    (s.ref.jobs.find? fun o => decide (j.id < o.id)).map fun o => (o.id, (o.start - o.y0) / tileSize now, now)

/-- The next line number of each lane. -/
def State.lanesNext (s : State) : List Nat := (List.range 12).map fun k => (tget {} s.lanes k : Lane).next

/-- Every lane has emitted line `y`. -/
def State.allPast (s : State) (y : Nat) : Bool := s.lanesNext.all fun n => decide (y < n)

/-- The counters of a decision (R194, R207). -/
def State.countDecision (s : State) (d : Decision) : State :=
  let s := s.when d.coarse (·.inc Reg.REG_FAIL_C_COARSE)
  match d.reason with
  | 1 => s.inc Reg.REG_FAIL_A_FEW
  | 2 => s.inc Reg.REG_FAIL_A_TEX
  | 3 => s.inc Reg.REG_FAIL_C_RANGE
  | 4 => s.inc Reg.REG_FAIL_B_CONF
  | 5 => s.inc Reg.REG_FAIL_B_MARGIN
  | _ => s

/-- REG_TILE_DECIDE: the tile at column `c` of the row in progress is decided; the last one fills the row (R193 to
R195). -/
def regTileDecide (c : Nat) (s : State) : State :=
  match s.reg.current with
  | none => s
  | some (id, r, tile) =>
    match s.jobById id with
    | none => s
    | some j =>
      let t := tileSize tile
      let cfg := s.atLine (j.rowFirst t r)
      let cols := s.columns cfg j t
      if c < cols.1 ∨ cols.1 + cols.2 ≤ c ∨ (tfind c s.reg.tiles).isSome ∨ !s.allPast (j.rowLast t r) then s
      else
        let d := s.decideTile j t r c
        let tiles := tput c d.tile s.reg.tiles
        let s := { s.countDecision d with reg := { s.reg with tiles := tiles } }
        if tiles.length < cols.2 then s
        else
          let row := fillRow (tiles.map (·.2)) fun i => s.fineCentre j t r (cols.1 + i)
          let acc := (tiles.filter fun e => e.2.accepted).length
          let done : TileRow := { job := id, row := r, tile := tile, col0 := cols.1, tiles := row,
                                  qualified := decide (cfg.rd Reg.REG_ACQ_MIN_FRAC * cols.2 ≤ acc * 256) }
          { s with reg := { s.reg with tiles := [], ready := s.reg.ready ++ [done], current := s.rowAfter j tile r } }

def execRegTileDecide (c : Fin 1024) (s : State) : Host.Outcome State Fault Refusal :=
  .next (s.powered fun s => regTileDecide c.val s)

/-! ## States (R199) -/

/-- The tile size that REG_CTL.TILE gives at an entry into ACQUIRING; 3 takes effect as 1 (R202). -/
def State.takeTile (s : State) : State :=
  let c := s.rd Reg.REG_CTL_TILE
  if c = 3 then (s.wr Reg.REG_STATUS_TILE 1).raise Ev.REG_CFG_ADJUSTED else s.wr Reg.REG_STATUS_TILE c

/-- The row in progress goes on at an entry into ACQUIRING: its job stands, and it has the tile size in force or is of a
job that has been replaced, whose last row is reported all the same (R201). -/
def State.rowGoesOn (s : State) : Bool :=
  match s.reg.current with
  | none => false
  | some c =>
    match s.jobById c.1 with
    | none => false
    | some j => c.2.2 == s.rd Reg.REG_STATUS_TILE || j.stop.isSome

/-- An entry into ACQUIRING with its acquisition start (R199). -/
def State.acquire (s : State) (line : Nat) : State :=
  let s := ((s.wr Reg.REG_STATUS_STATE 1).wr Reg.REG_STATUS_QROWS 0).takeTile
  let s := (s.wrPair Reg.REG_ACQ_LINE_LO_VALUE Reg.REG_ACQ_LINE_HI_VALUE line).inc Reg.REG_ACQS_COUNT
  let tile := s.rd Reg.REG_STATUS_TILE
  let s := { s with reg := { s.reg with history := { line := line, active := true, tile := tile } :: s.reg.history } }
  if s.rowGoesOn then s
  else
    let at' := (s.lanesNext).foldl max (if s.reg.current.isSome then 0 else line)
    let row := fun (j : Job) => (j.id, (max at' j.start - j.y0) / tileSize tile, tile)
    let cur := match s.jobAt at' with
      | some j => some (row j)
      | none => s.job.map row
    { s with reg := { s.reg with current := cur, tiles := [], from_ := at' } }

/-- The line at which a row becomes available when it is ready in time (R196). -/
def Job.rowDue (j : Job) (x : TileRow) : Nat := j.rowFirst (tileSize x.tile) (x.row + 1) + 8

/-- A decided row falls due below line `y`. -/
def State.dueBelow (s : State) (y : Nat) (x : TileRow) : Bool := (s.jobById x.job).any fun j => decide (j.rowDue x < y)

/-- Registration goes idle from line `y`: rows serve the lines below it (R199). -/
def State.regIdle (s : State) (y : Nat) : State :=
  let s := (s.wr Reg.REG_STATUS_STATE 0).wr Reg.REG_STATUS_QROWS 0
  { s with reg := { s.reg with current := none, tiles := [], ready := s.reg.ready.filter (s.dueBelow y),
                               history := { line := y } :: s.reg.history } }

/-- A run starts (R199, R207). -/
def State.regRunStart (s : State) : State :=
  let s := [Reg.REG_FAIL_A_TEX, Reg.REG_FAIL_A_FEW, Reg.REG_FAIL_B_CONF, Reg.REG_FAIL_B_MARGIN, Reg.REG_FAIL_C_RANGE,
    Reg.REG_FAIL_C_COARSE, Reg.REG_ACQS_COUNT, Reg.REG_ACQS_DROPS].foldl (fun s r => s.wr r 0) s
  let s := { (s.wr Reg.REG_ROW_ROW 0xFFFFFFFF) with reg := {} }
  match s.job with
  | some j => if s.on Reg.REG_CTL_EN then s.acquire j.start else s
  | none => s

/-- A run stops: registration goes idle and what it measured is discarded. -/
def State.regRunStop (s : State) : State :=
  { (s.wr Reg.REG_STATUS_STATE 0).wr Reg.REG_STATUS_QROWS 0 with reg := {} }

/-- A commit took effect at line `y` during a run; `old` is the state before it (R199). -/
def State.regEffect (s old : State) (y : Nat) : State :=
  if !s.running then s
  else if !s.on Reg.REG_CTL_EN then if old.on Reg.REG_CTL_EN then s.regIdle y else s
  else if !old.on Reg.REG_CTL_EN then
    match s.job.or s.ref.pend with
    | some j => s.acquire (max y j.start)
    | none => s
  else if s.rd Reg.REG_STATUS_STATE ≠ 0 ∧ (s.job.map (·.id)) ≠ (old.job.map (·.id)) ∧ s.job.isSome then
    s.acquire ((s.job.map (·.start)).getD y)
  else s

/-- REG_REACQ: acquisition from the first line that starts at least 64 lines after the write (R199). -/
def regReacq (v : Nat) (s : State) : State :=
  if v % 2 = 0 ∨ s.rd Reg.REG_STATUS_STATE = 0 then s else s.acquire (s.lt.line + 64)

def execRegReacq (v : Word) (s : State) : Host.Outcome State Fault Refusal :=
  .next (s.powered fun s => regReacq v.toNat s)

/-! ## Rows that become available (R196, R199, R203) -/

/-- The jump of a row: the lower median over its accepted tiles (R199). -/
def State.rowJump (s : State) (j : Job) (x : TileRow) : Nat :=
  let t := tileSize x.tile
  let d := ((List.range x.tiles.length).filter fun i => (x.tiles.getD i {}).accepted).map fun i =>
    let f := s.fineCentre j t x.row (x.col0 + i)
    let m := x.tiles.getD i {}
    max (m.dx - f.1).natAbs (m.dy - f.2).natAbs
  let l := d.mergeSort
  l.getD ((l.length - 1) / 2) 0

/-- The entry of a tile (R204). -/
def Tile.word (x : Tile) : Nat := low 11 x.dx + low 11 x.dy <<< 11 + x.conf <<< 22 + x.state <<< 30

/-- The field record of a row (R203, R204). -/
def State.fieldRecord (s : State) (j : Job) (x : TileRow) (track unused : Bool) : List Nat :=
  let t := tileSize x.tile
  let n := x.tiles.length
  let len := 64 * ((48 + 4 * n + 63) / 64)
  let first := j.rowFirst t x.row
  let last := first + t - 1
  let acc := (x.tiles.filter (·.accepted)).length
  let fil := (x.tiles.filter fun e => decide (2 ≤ e.state)).length
  let time := (s.line last).time
  let head := [0x21 + 0x100 + len <<< 16,
    j.tag + x.tile <<< 16 + track.toNat <<< 18 + x.qualified.toNat <<< 19 + unused.toNat <<< 20,
    x.row % 2 ^ 32, x.col0 + n <<< 16, first % 2 ^ 32, first / 2 ^ 32 % 65536 + acc <<< 16, last % 2 ^ 32,
    last / 2 ^ 32 % 65536 + fil <<< 16, s.genAt last, time % 2 ^ 32, time / 2 ^ 32 % 2 ^ 32, 0]
  let body := head ++ x.tiles.map Tile.word
  body ++ List.replicate (len / 4 - body.length) 0

/-- The field page shows a row while FREEZE is 0 (R209). -/
def State.showField (s : State) (x : TileRow) : State :=
  if s.on Reg.FIELD_CTL_FREEZE then s
  else
    let s := ((s.wr Reg.FIELD_ROW_ROW x.row).wr Reg.FIELD_COLS_COL0 x.col0).wr Reg.FIELD_COLS_NCOL x.tiles.length
    s.each (List.range 769) fun s i =>
      s.wr Reg.FIELD_VALUE (match x.tiles[i]? with
        | some e => e.word
        | none => 0) 0 i

/-- The transitions of R199 that an available row causes. -/
def State.rowState (s : State) (j : Job) (x : TileRow) : State :=
  let cfg := s.atLine (j.rowFirst (tileSize x.tile) x.row)
  let n := x.tiles.length
  let acc := (x.tiles.filter (·.accepted)).length
  let weak := decide (acc * 256 < cfg.rd Reg.REG_ACQ_LOSS_FRAC * n)
  let q := s.rd Reg.REG_STATUS_QROWS
  let start := ((s.reg.history.head?).map (·.line)).getD 0
  match s.rd Reg.REG_STATUS_STATE with
  | 1 =>
    if x.avail < start then s
    else
      let q' := if x.qualified then min 15 (q + 1) else 0
      let s := s.wr Reg.REG_STATUS_QROWS q'
      if q' < max 1 (cfg.rd Reg.REG_ACQ_ROWS) then s
      else
        let s := (s.wr Reg.REG_STATUS_STATE 2).wr Reg.REG_STATUS_QROWS 0
        let s := (s.wrPair Reg.REG_TRACK_LINE_LO_VALUE Reg.REG_TRACK_LINE_HI_VALUE x.avail).raise Ev.REG_ACQUIRED
        match s.reg.history with
        | e :: r => { s with reg := { s.reg with history := { e with track := some x.avail } :: r } }
        | [] => s
  | 2 =>
    let lim := cfg.rd Reg.REG_ACQ_JUMP
    if lim ≠ 0 ∧ lim * 16 < s.rowJump j x then (s.acquire x.avail).raise Ev.REG_JUMP
    else
      let q' := if weak then min 15 (q + 1) else 0
      let s := s.wr Reg.REG_STATUS_QROWS q'
      if weak ∧ max 1 (cfg.rd Reg.REG_ACQ_LOSS_ROWS) ≤ q' then (s.acquire x.avail).raise Ev.REG_LOST else s
  | _ => s

/-- The line at which a decided row falls due; a row whose job has gone falls due at once. -/
def State.rowDueLine (s : State) (x : TileRow) : Nat := ((s.jobById x.job).map fun j => j.rowDue x).getD 0

/-- The decided row that falls due first, the oldest of those at one line. -/
def State.rowNext (s : State) : Option TileRow :=
  s.reg.ready.foldl (fun (b : Option TileRow) x =>
    match b with
    | some y => if s.rowDueLine x < s.rowDueLine y then some x else b
    | none => some x) none

/-- ROW_DONE: the decided row that falls due first becomes available at its line, or late (R196): state, field page, field
record. -/
def rowDone (s : State) : State :=
  match s.rowNext with
  | none => s
  | some x =>
    let rest := s.reg.ready.erase x
    match s.jobById x.job with
    | none => { s with reg := { s.reg with ready := rest } }
    | some j =>
      let due := j.rowDue x
      let most := s.lanesNext.foldl max 0
      if most < due then s
      else
        let x := { x with avail := max due most }
        let unused := match j.stop with
          | some e => decide (e ≤ x.avail)
          | none => false
        let track := s.trackingAt x.avail
        let s := { s with reg := { s.reg with ready := rest, rows := if unused then s.reg.rows else x :: s.reg.rows } }
        let s := (s.raise Ev.REG_ROW_DONE).when (decide (due < x.avail)) (·.raise Ev.REG_ROW_LATE)
        let s := (s.wr Reg.REG_ROW_ROW x.row).wr Reg.REG_ROW_INFO_ACCEPTED (x.tiles.filter (·.accepted)).length
        let s := (s.wr Reg.REG_ROW_INFO_FILLED (x.tiles.filter fun e => decide (2 ≤ e.state)).length).wr
          Reg.REG_STATUS_NCOL x.tiles.length
        let cfg := s.atLine x.avail
        let s := (s.showField x).when (cfg.on Reg.REG_Q_VALID) fun s =>
          s.stage true { queue := cfg.rd Reg.REG_Q_QUEUE, kind := 7, words := s.fieldRecord j x track unused }
        if unused then s else s.rowState j x

def execRowDone (s : State) : Host.Outcome State Fault Refusal := .next (s.powered fun s => rowDone s)

/-- REG_PAIR_READ: a read at REG_ACQ_LINE or REG_TRACK_LINE captures the pair for the agent (R48, R207). -/
def regPairRead (agent : Nat) (track : Bool) (sub width : Nat) (s : State) : State :=
  let o := if track then 0x4C else 0x44
  s.readPair agent 0x180 o sub width (s.storedWord 0x180 o + 2 ^ 32 * s.storedWord 0x180 (o + 4))

def execRegPairRead (agent : Agent) (track : Bool) (sub : Fin 4) (width : Nat) (s : State) :
    Host.Outcome State Fault Refusal := .next (s.powered fun s => regPairRead agent.val track sub.val width s)

end Sys2Proof.Machine
end

