-- ==== Sys2Proof/Machine/LaneOut.lean ====
section
/-!
DEFINITION. A lane emits an output line (R158) with its reference tokens (R171, R190, R197); what comparison makes of an
output pixel (R210, R211, R227); and the windows of paper-white tracking over the emitted lines (R153, R154).
-/

namespace Sys2Proof.Machine

/-! ## Emission (R158) -/

/-- Nothing of line `y` is still to come from sensor group `g`. -/
def State.groupPast (s : State) (g y : Nat) : Bool :=
  let x := s.group g
  (match x.unread with
   | some u => u.1 != y
   | none => true) &&
  (match x.reads with
   | some r => r.1 != y || !x.inMin
   | none => true)

/-- Line `y` has been assigned and its start is neither owed, nor deferred, nor on its way. -/
def State.lineStarted (s : State) (y : Nat) : Bool :=
  decide (y < s.lt.line) && s.lt.owed.all (fun e => e.1 != y) && (s.lt.deferred.all fun e => e.1 != y) &&
    s.lt.start.all fun e => e.1 != y

/-- Lane `k` can emit its next line: every read-out that it is made of has ended (R134); the last lane of a device with
an eastern neighbour also has that neighbour's part of the joint (R545). -/
def State.laneReady (s : State) (k : Nat) : Bool :=
  let y := (s.lane k).next
  s.lineStarted y && s.groupPast k y && (k == 11 || s.groupPast (k + 1) y)

/-- The last lane waits for the eastern neighbour's pixels of line `y` (R545). -/
def State.jointWait (s : State) (k y : Nat) : Bool := k == 11 && s.eastNeighbour && (tfind y s.joints).isNone

/-- The bytes of a JOINT message (R537): line, O, and the first O pixels of channel 0 after stage 5 with their flags. -/
def State.jointFrame (s : State) (y : Nat) : List Nat :=
  let l := s.chanLine 0 y
  let o := s.westOverlap
  leBytes 6 y ++ [o] ++ (List.range o).flatMap fun i =>
    let p := l.pixels.getD i ([0, 0, 0], false)
    (p.1.flatMap fun v => leBytes 2 v) ++ [l.flags p.2 + 16 * (if l.disabled then 1 else if l.lost then 15 else l.code)]

/-- The counters and events of an emitted line (R138, R149, R152, R197). -/
def State.laneEvents (s : State) (k : Nat) (l : OutLine) (clamped : Bool) : State :=
  let single := l.pixels.any fun p => p.flags.testBit 3
  let noset := l.pixels.any fun p => p.flags.testBit 2
  let s := s.when l.incomplete fun t => (t.inc Reg.LANE_INCOMPLETE_COUNT k).raise Ev.LANE_ALIGN_INCOMPLETE k
  let s := s.when single fun t => (t.inc Reg.LANE_SINGLE_COUNT k).raise Ev.LANE_JOINT_SINGLE k
  (s.when noset (·.raise Ev.LANE_NOSET k)).when clamped (·.raise Ev.REG_FIELD_CLAMPED)

/-- What comparison makes of an output pixel (R210, R211): its coverage code (0: none), don't-care, compared, distance,
class and defect. -/
structure Judged where
  code : Nat
  dc : Bool
  compared : Bool
  dist : Nat
  cls : Nat
  defect : Bool

/-- First and second chroma of R211. -/
def chromaA (c : List Nat) : Int := (c.getD 0 0 : Int) - c.getD 1 0
def chromaB (c : List Nat) : Int := (((c.getD 0 0 + c.getD 1 0) / 2 : Nat) : Int) - c.getD 2 0

/-- The distance of R211 from its three differences, with the weights of class `n` of settings `cfg`. -/
def State.weighted (cfg : State) (n : Nat) (dl da db : Int) : Nat :=
  let sum : Int := (cfg.rd Reg.TOL_WL 0 n : Int) * dl * dl + (cfg.rd Reg.TOL_WA 0 n : Int) * da * da +
    (cfg.rd Reg.TOL_WB 0 n : Int) * db * db
  min 65535 (isqrt (sum.toNat / 16))

/-- The distance of two colours under class `n` (R211). -/
def State.distance (cfg : State) (n : Nat) (a b : List Nat) : Nat :=
  cfg.weighted n ((luma a : Int) - luma b) (chromaA a - chromaA b) (chromaB a - chromaB b)

/-- The threshold of R211. -/
def State.threshold (cfg : State) (n : Nat) (ref : List Nat) : Nat :=
  (sat ((cfg.rd Reg.TOL_TH_BASE 0 n : Int) + rnd ((cfg.rd Reg.TOL_TH_SLOPE 0 n : Int) * luma ref) 8) 0 65535).toNat

/-- Code 13, 14, 15 or 16 of R227 for a pixel. -/
def refCode (compEn covered : Bool) (t : Token) (acquiring : Bool) : Nat :=
  leastCode [if compEn then 0 else 13, if covered then 0 else 14, if covered && t.absent then 15 else 0,
    if acquiring then 16 else 0]

/-- An output pixel judged under settings `cfg` (R210, R211, R227). -/
def State.judge (cfg : State) (covered acquiring : Bool) (p : Pixel) (t : Token) : Judged :=
  let flagged := p.flags.testBit 1 || p.flags.testBit 2
  let all := leastCode [p.code, refCode (cfg.on Reg.COMP_CTL_EN) covered t acquiring,
    if p.flags.testBit 1 then 6 else 0, if p.flags.testBit 2 then 8 else 0]
  let code := if t.dc && decide (6 ≤ all) then 0 else all
  let compared := !t.dc && !flagged && !t.absent && all == 0
  let dist := if compared then cfg.distance t.cls p.rgb t.rgb else 0
  { code := code, dc := t.dc, compared := compared, dist := dist, cls := t.cls
    defect := compared && decide (cfg.threshold t.cls t.rgb < dist) }

/-- The output pixel at (x, y) with its line and token, as the lanes emitted it. -/
def State.outAt (s : State) (y x : Nat) : Option (OutLine × Pixel × Token) :=
  (List.range 12).findSome? fun k =>
    (tfind (16 * y + k) s.outLines).bind fun l =>
      let b := s.xBase + l.first
      if b ≤ x then (l.pixels[x - b]?).map fun p => (l, p, l.tokens.getD (x - b) { absent := true }) else none

/-- The pixel at (x, y) judged under the settings of its line. -/
def State.judgedAt (s : State) (y x : Nat) : Option Judged :=
  (s.outAt y x).map fun e => (s.atLine y).judge e.1.covered (s.acquiringAt y) e.2.1 e.2.2

/-- The boundary columns of line `y` that a DEFECT message carries (R213, R545): two columns of d with their compared
state, in the low four bits. -/
def State.defectFrame (s : State) (y x : Nat) : List Nat :=
  let a := s.judgedAt y x
  let b := s.judgedAt y (x + 1)
  let d := fun (j : Option Judged) => (j.map (·.defect)).getD false
  let c := fun (j : Option Judged) => (j.map (·.compared)).getD false
  leBytes 6 y ++ [(d a).toNat + 2 * (d b).toNat + 4 * (c a).toNat + 8 * (c b).toNat]

/-- What a lane at the device's edge sends to its neighbour for line `y` (R545). -/
def State.boundarySend (s : State) (k y : Nat) : State :=
  let s := s.when (k == 0 && s.westNeighbour) fun t =>
    (t.emit (.ikito 0 0x10 (t.jointFrame y))).emit (.ikito 0 0x11 (t.defectFrame y t.xFirst))
  s.when (k == 11 && s.eastNeighbour) fun t => t.emit (.ikito 1 0x11 (t.defectFrame y (t.xLast (t.atLine y) - 1)))

/-- Gains that waited for a line apply from the first line that reaches stage 7 (R154): the registers of the lane's
segments show those in force for `y`. -/
def State.emitLine (s : State) (k : Nat) : State :=
  let y := (s.lane k).next
  let l := s.outputLine k y
  let base := s.xBase + l.first
  let thinned := (s.line y).thinned
  let toks := if thinned then [] else (List.range l.pixels.length).map fun i => s.tokenAt y (base + i)
  let l := { l with tokens := toks.map (·.1), covered := (s.jobAt y).isSome, searchable := s.searchable y }
  let s := { (s.putLane k { s.lane k with next := y + 1 }) with outLines := tput (16 * y + k) l s.outLines }
  let s := s.laneEvents k l (toks.any (·.2))
  let s := s.showGains y ((List.range 8).map (8 * k + ·))
  (s.refAdvance s.lanesFront).boundarySend k y

/-- LANE_OUTPUT_LINE: lane `k` emits its next output line (R158). -/
def laneOutputLine (k : Nat) (s : State) : State :=
  if s.laneReady k && !s.jointWait k (s.lane k).next then s.emitLine k else s

def execLaneOutputLine (k : Fin 12) (s : State) : Host.Outcome State Fault Refusal :=
  .next (s.powered fun s => laneOutputLine k.val s)

/-- JOINT_WAIT_EXPIRY: 3.0 µs have passed, and the joint is formed from one side (R152, R545). -/
def jointWaitExpiry (s : State) : State :=
  if s.laneReady 11 && s.jointWait 11 (s.lane 11).next then s.emitLine 11 else s

def execJointWaitExpiry (s : State) : Host.Outcome State Fault Refusal := .next (s.powered fun s => jointWaitExpiry s)

/-! ## Paper-white windows (R153, R154) -/

/-- The window whose statistics are next, and its last line once that has been triggered. -/
def PaperWhite.oldest (p : PaperWhite) : Option (PwWindow × Nat) :=
  match p.windows.drop p.ended with
  | w :: n :: _ => some (w, n.start - 1)
  | [w] => some (w, w.start + max 1 (w.settings.getD 3 1024) - 1)
  | [] => none

/-- Every warped reference pixel within GUARD of (x, y) is paper. -/
def State.paperAround (s : State) (guard y x : Nat) : Bool :=
  (List.range (2 * guard + 1)).all fun j => (List.range (2 * guard + 1)).all fun i =>
    decide (guard ≤ y + j ∧ guard ≤ x + i) &&
      match s.outAt (y + j - guard) (x + i - guard) with
      | some e => e.2.2.paper
      | none => false

/-- Line `y` is compared in full: no pixel of it takes a coverage code. -/
def State.lineFull (s : State) (y : Nat) : Bool :=
  !(s.line y).thinned && !s.acquiringAt y &&
    (List.range 12).all fun k =>
      match tfind (16 * y + k) s.outLines with
      | none => false
      | some l => (l.pixels.zip l.tokens).all fun e =>
          ((s.atLine y).judge l.covered (s.acquiringAt y) e.1 e.2).code == 0

/-- The pixels of segment `j` in line `y` that qualify (R153), as the stitched values before stage 7. -/
def State.qualifying (s : State) (guard y j : Nat) : List (List Nat) :=
  let cfg := s.atLine y
  let k := j / 8
  match tfind (16 * y + k) s.outLines with
  | none => []
  | some l =>
    let start := cfg.segStart j
    (List.range (cfg.segPixels j)).filterMap fun m =>
      if start + m < l.first then none
      else
        (l.pixels[start + m - l.first]?).bind fun p =>
          let x := s.xBase + start + m
          let t := l.tokens.getD (start + m - l.first) { absent := true }
          let jd := cfg.judge l.covered (s.acquiringAt y) p t
          if !p.joint && p.flags == 0 && jd.compared && !jd.defect && s.paperAround guard y x then some p.pre else none

/-- The lines of a window, and the qualifying values of segment `j` over them. -/
def State.windowValues (s : State) (full : List Nat) (guard j : Nat) : List (List Nat) :=
  full.flatMap fun y => s.qualifying guard y j

/-- The three colours of a segment after a window, with the events AT_LIMIT and STARVED (R154). -/
def pwSegment (w : PwWindow) (g : PwGain) (vals : List (List Nat)) : PwGain × Bool × Bool :=
  let x := fun i => w.settings.getD i 0
  let one := fun (col gain : Nat) (limit : Bool) =>
    pwUpdate gain limit vals.length ((vals.map fun (v : List Nat) => v.getD col 0).sum) (x 4) (x (7 + col)) (x 2) (x 5) (x 6)
  let r := one 0 g.red g.redLimit
  let gr := one 1 g.green g.greenLimit
  let b := one 2 g.blue g.blueLimit
  ({ red := r.1, green := gr.1, blue := b.1, redLimit := r.2.1, greenLimit := gr.2.1, blueLimit := b.2.1 },
    (r.2.1 && !r.2.2) || (gr.2.1 && !gr.2.2) || (b.2.1 && !b.2.2), r.2.2 || gr.2.2 || b.2.2)

/-- PW_WINDOW_END: the oldest window has ended and its statistics are complete (R154): the gains are updated and apply from
y_e + 64, or later with PW_LATE; outside MODE 1 no pixel qualifies (R153).  A window that a reset cut is discarded
(R155). -/
def pwWindowEnd (s : State) : State :=
  match s.pw.oldest with
  | none => s
  | some (w, ye) =>
    let guard := w.settings.getD 1 0
    if w.cut then { s with pw := { s.pw with ended := s.pw.ended + 1 } }
    else if !s.running || !s.allPast (ye + guard) then s
    else
      let full := if w.settings.getD 0 1 = 1 then
          ((List.range (ye + 1 - w.start)).map (w.start + ·)).filter s.lineFull
        else []
      let cur := s.pw.at (ye + 64)
      let rs : List (PwGain × Bool × Bool) :=
        (List.range 96).map fun (j : Nat) => pwSegment w (cur.getD j {}) (s.windowValues full guard j)
      let gs : List PwGain := rs.map fun (r : PwGain × Bool × Bool) => r.1
      let front := s.lanesNext.foldl max 0
      let from' := max (ye + 64) front
      let s := { s with pw := { s.pw with gains := (from', gs) :: s.pw.gains, ended := s.pw.ended + 1 } }
      let s := (s.inc Reg.PW_WINDOWS_COUNT).raise Ev.PW_WINDOW_DONE
      let s := s.when (decide (ye + 64 < front)) (·.raise Ev.PW_PW_LATE)
      let s := s.when (rs.any fun r => r.2.1) (·.raise Ev.PW_AT_LIMIT)
      s.when (rs.any fun r => r.2.2) (·.raise Ev.PW_STARVED)

def execPwWindowEnd (s : State) : Host.Outcome State Fault Refusal := .next (s.powered fun s => pwWindowEnd s)

end Sys2Proof.Machine
end

