-- ==== Sys2Proof/Machine/Compare.lean ====
section
/-!
DEFINITION. The meanings of the chapter "Comparison, defects and items" (R210 to R236): opening, labelling, blobs, the
imposition grid with its items and verdicts, coverage records and backlog, and the opening of crops (R252).
-/

namespace Sys2Proof.Machine

/-! ## Opening (R213) -/

/-- d(x, y) of R213: the defect image, with EDGE where no pixel is compared. -/
def State.defectAt (s : State) (edge : Bool) (x y : Int) : Bool :=
  if y < 0 then edge
  else
    let cfg := s.atLine y.toNat
    let lo : Int := s.xFirst
    let hi : Int := s.xLast cfg
    if lo ≤ x ∧ x ≤ hi then
      match s.judgedAt y.toNat x.toNat with
      | some j => if j.compared then j.defect else edge
      | none => edge
    else
      let side : Nat := if x < lo then 0 else 1
      let col : Int := if x < lo then x - (lo - 2) else x - (hi + 1)
      if col < 0 ∨ 1 < col then edge
      else
        match tfind (2 * y.toNat + side) s.comp.edges with
        | some cols =>
          let c := cols.getD col.toNat (false, false)
          if c.2 then c.1 else edge
        | none => edge

/-- The offsets -1, 0, 1. -/
def around : List Int := [-1, 0, 1]

/-- e(x, y) of R213. -/
def State.eroded (s : State) (edge : Bool) (x y : Int) : Bool :=
  around.all fun j => around.all fun i => s.defectAt edge (x + i) (y + j)

/-- o(x, y) of R213 for a pixel of the device; clear where the pixel is not compared (R216). -/
def State.opened (s : State) (y x : Nat) : Bool :=
  let cfg := s.atLine y
  let edge := cfg.on Reg.COMP_CTL_EDGE
  (match s.judgedAt y x with
   | some j => j.compared && j.defect
   | none => false) &&
  (!cfg.on Reg.COMP_CTL_OPEN_EN ||
    around.any fun j => around.any fun i => s.eroded edge ((x : Int) + i) ((y : Int) + j))

/-- The first x of lane `k` in line `y`, and its pixels. -/
def State.laneSpan (s : State) (k y : Nat) : Nat × Nat :=
  match tfind (16 * y + k) s.outLines with
  | some l => (s.xBase + l.first, l.pixels.length)
  | none => (0, 0)

/-- Maximal runs of positions of a rising list. -/
def runsOf : List Nat → List (Nat × Nat)
  | [] => []
  | x :: l =>
    match runsOf l with
    | [] => [(x, x)]
    | (a, b) :: r => if a = x + 1 then (x, b) :: r else (x, x) :: (a, b) :: r

/-- The runs of lane `k` in line `y` (R214). -/
def State.laneRuns (s : State) (k y : Nat) : List (Nat × Nat) :=
  let p := s.laneSpan k y
  runsOf (((List.range p.2).map (p.1 + ·)).filter (s.opened y))

/-! ## Labelling (R214 to R216) -/

/-- A run touches another of an adjacent line, diagonally or by overlap (R214). -/
def touches (a b : Nat × Nat) : Bool := decide (a.1 ≤ b.2 + 1 ∧ b.1 ≤ a.2 + 1)

/-- A fragment connects to run `r`: through a run of the line before, or side by side in the same line on another
lane. -/
def Frag.meets (f : Frag) (k : Nat) (r : Nat × Nat) : Bool :=
  f.prev.any (touches r) || (f.lane != k && f.cur.any fun c => c.2 + 1 == r.1 || r.2 + 1 == c.1)

/-- A blob connects to run `r` of lane `k`. -/
def Blob.meets (b : Blob) (k : Nat) (r : Nat × Nat) : Bool := b.frags.any fun f => f.meets k r

/-- A blob's first pixel comes before another's in raster order; a trace without pixels comes last. -/
def Blob.before (a b : Blob) : Bool :=
  if a.ghost then false else if b.ghost then true
  else decide (a.first < b.first) || (a.first == b.first && decide (a.firstX < b.firstX))

/-- A peak (distance, y, x) beats another: greater, else higher, else further left (R217). -/
def peakBeats (d y x d' y' x' : Nat) : Bool :=
  decide (d' < d) || (d == d' && (decide (y < y') || (y == y' && decide (x < x'))))

/-- Two lists as one, without the entries of the second that stand in the first. -/
def union {α : Type} [BEq α] (a b : List α) : List α := a ++ b.filter fun x => !a.contains x

/-- Two blobs as one: the properties of R217 over the pixels of both; number and CONT are those of the one whose first
pixel comes first. -/
def Blob.merge (a b : Blob) : Blob :=
  let k := if b.before a then b else a
  let g := if b.before a then a else b
  if g.ghost then
    { k with frags := k.frags ++ g.frags, touch := union k.touch g.touch, remotes := union k.remotes g.remotes,
             ids := union k.ids g.ids }
  else
    let p := peakBeats g.peak g.peakY g.peakX k.peak k.peakY k.peakX
    { k with
      last := max k.last g.last, xMin := min k.xMin g.xMin, xMax := max k.xMax g.xMax, area := k.area + g.area
      sumDist := k.sumDist + g.sumDist, sumX := k.sumX + g.sumX, sumY := k.sumY + g.sumY
      peak := if p then g.peak else k.peak, peakX := if p then g.peakX else k.peakX
      peakY := if p then g.peakY else k.peakY, peakClass := if p then g.peakClass else k.peakClass
      clip := k.clip || g.clip, single := k.single || g.single, devices := k.devices || g.devices
      border := k.border || g.border
      lanes := k.lanes || g.lanes ||
        (k.frags.any fun f => g.frags.any fun h => f.lane != h.lane && !f.trace && !h.trace)
      frags := k.frags ++ g.frags, items := union k.items g.items, crops := k.crops ++ g.crops
      touch := union k.touch g.touch, remotes := union k.remotes g.remotes, ids := union k.ids g.ids }

/-- The fragments of a blob after run `r` of lane `k`: those of the lane that it connects become one, or a new one is
made. -/
def addRun (fs : List Frag) (k : Nat) (r : Nat × Nat) : List Frag :=
  let same := fs.filter fun f => f.lane == k && f.meets k r
  let rest := fs.filter fun f => !(f.lane == k && f.meets k r)
  rest ++ [{ lane := k, prev := same.flatMap (·.prev), cur := same.flatMap (·.cur) ++ [r] }]

/-- The pixels that the labeller adds: position, distance, class, CLIP, SINGLE and item. -/
structure LabelPixel where
  x : Nat
  dist : Nat
  cls : Nat
  clip : Bool
  single : Bool
  item : Option Nat

/-- A pixel of line `y` joins a blob (R217). -/
def Blob.add (y : Nat) (b : Blob) (p : LabelPixel) : Blob :=
  let fresh := b.ghost || b.area == 0
  let best := fresh || peakBeats p.dist y p.x b.peak b.peakY b.peakX
  { b with
    ghost := false, first := if fresh then y else b.first, firstX := if fresh then p.x else b.firstX, last := y
    xMin := if fresh then p.x else min b.xMin p.x, xMax := if fresh then p.x else max b.xMax p.x
    area := b.area + 1, sumDist := b.sumDist + p.dist, sumX := b.sumX + p.x, sumY := b.sumY + y
    peak := if best then p.dist else b.peak, peakX := if best then p.x else b.peakX
    peakY := if best then y else b.peakY, peakClass := if best then p.cls else b.peakClass
    clip := b.clip || p.clip, single := b.single || p.single
    items := match p.item with
      | some i => union b.items [i]
      | none => b.items }

/-- What labelling a line builds: open blobs, the next chain number, runs not labelled. -/
structure Labelling where
  blobs : List Blob
  chain : Nat
  excess : List (Nat × Nat)

/-- Open fragments of a lane. -/
def fragCount (bs : List Blob) (k : Nat) : Nat := (bs.map fun b => (b.frags.filter fun f => f.lane == k).length).sum

/-- The run `r` of lane `k` in line `y` is labelled, or finds the lane's table full (R214, R216). -/
def Labelling.run (y k : Nat) (r : Nat × Nat) (pixels : List LabelPixel) (border : Bool) (l : Labelling) : Labelling :=
  let con := l.blobs.filter fun b => b.meets k r
  let rest := l.blobs.filter fun b => !b.meets k r
  let needs := !(con.any fun b => b.frags.any fun f => f.lane == k && f.meets k r)
  if needs && decide (2048 ≤ fragCount l.blobs k) then { l with excess := l.excess ++ [r] }
  else
    let base : Blob := match con with
      | [] => { chain := l.chain }
      | b :: bs => bs.foldl Blob.merge b
    let made := { base with
      frags := addRun base.frags k r, border := base.border || border
      lanes := base.lanes || base.frags.any fun f => f.lane != k && !f.trace }
    { l with blobs := rest ++ [pixels.foldl (Blob.add y) made], chain := if con.isEmpty then l.chain + 1 else l.chain }

/-! ## The imposition grid (R219, R221) -/

/-- The grid's fields. -/
structure Grid where
  en : Bool
  y0 : Nat
  repeat_ : Nat
  x0 : Nat
  cols : Nat
  rows : Nat
  colPitch : Nat
  itemW : Nat
  rowPitch : Nat
  itemH : Nat
  base : Nat
  deriving DecidableEq

/-- The grid that fields `f` describe. -/
def gridOf (f : Row → Nat) : Grid :=
  { en := f Reg.IMP_CTL_EN != 0, y0 := f Reg.IMP_Y0_LO_VALUE + 2 ^ 32 * f Reg.IMP_Y0_HI_VALUE
    repeat_ := f Reg.IMP_REPEAT_LINES, x0 := f Reg.IMP_X0_X, cols := f Reg.IMP_GRID_COLS, rows := f Reg.IMP_GRID_ROWS
    colPitch := f Reg.IMP_COL_PITCH_PIXELS, itemW := f Reg.IMP_ITEM_W_PIXELS, rowPitch := f Reg.IMP_ROW_PITCH_LINES
    itemH := f Reg.IMP_ITEM_H_LINES, base := f Reg.IMP_ID_BASE_VALUE }

/-- A commit of this grid is refused (R220). -/
def Grid.refused (g : Grid) : Bool :=
  g.en && (g.repeat_ == 0 || g.itemW == 0 || g.itemH == 0 || decide (4096 < g.cols * g.rows) ||
    (decide (1 < g.cols) && decide (g.colPitch < g.itemW)) || (decide (1 < g.rows) && decide (g.rowPitch < g.itemH)) ||
    decide (g.repeat_ < g.rowPitch * (g.rows - 1) + g.itemH))

/-- The grid's fields, which take effect as one group (R235). -/
def gridFields : List Row :=
  [Reg.IMP_CTL_EN, Reg.IMP_Y0_LO_VALUE, Reg.IMP_Y0_HI_VALUE, Reg.IMP_REPEAT_LINES, Reg.IMP_X0_X, Reg.IMP_GRID_COLS,
   Reg.IMP_GRID_ROWS, Reg.IMP_COL_PITCH_PIXELS, Reg.IMP_ITEM_W_PIXELS, Reg.IMP_ROW_PITCH_LINES, Reg.IMP_ITEM_H_LINES,
   Reg.IMP_ID_BASE_VALUE]

/-- Repeat, row and offset in the row of line `y`; none in the gutter (R219). -/
def Grid.rowAt (g : Grid) (y : Nat) : Option (Nat × Nat × Nat) :=
  if !g.en || decide (y < g.y0) || g.repeat_ == 0 then none
  else
    let n := (y - g.y0) / g.repeat_
    let ry := (y - g.y0) % g.repeat_
    let r := if g.rows = 1 then 0 else ry / g.rowPitch
    let oy := ry - r * g.rowPitch
    if g.rows ≤ r ∨ g.itemH ≤ oy then none else some (n, r, oy)

/-- Column of position `x`; none in the gutter. -/
def Grid.colAt (g : Grid) (x : Nat) : Option Nat :=
  if x < g.x0 then none
  else
    let c := if g.cols = 1 then 0 else (x - g.x0) / g.colPitch
    let ox := x - g.x0 - c * g.colPitch
    if g.cols ≤ c ∨ g.itemW ≤ ox then none else some c

/-- The item at (x, y): repeat, row, column; none in the gutter (R219). -/
def Grid.itemAt (g : Grid) (y x : Nat) : Option (Nat × Nat × Nat) :=
  (g.rowAt y).bind fun r => (g.colAt x).map fun c => (r.1, r.2.1, c)

/-- ID of an item. -/
def Grid.id (g : Grid) (n r c : Nat) : Nat := (g.base + n * g.cols * g.rows + r * g.cols + c) % 2 ^ 32

/-- First x of a column. -/
def Grid.colX (g : Grid) (c : Nat) : Nat := g.x0 + c * g.colPitch

/-- Fields `r` of item table entry `i`. -/
def State.itemField (cfg : State) (r : Row) (i : Nat) : Nat := cfg.rd r (i / 512) (i % 512)

/-! ## Devices of the chain (R536) -/

/-- x base of the device at position `p`, from that of this device on. -/
def State.xBaseOf (s : State) (cfg : State) (p : Nat) : Nat :=
  let pos := s.rd Reg.IK_STATUS_POS
  (List.range (p - pos)).foldl (fun b i =>
    let own := i == 0
    let d : IkDevice := tget {} s.ik.chain (pos + i)
    b + (if own then cfg.outWidth else d.width) - (if own then cfg.segOverlap 95 else d.overlap)) (s.xBase)

/-- The last x of the cascade's output width. -/
def State.cascadeLast (s : State) (cfg : State) : Nat :=
  if s.eastNeighbour then
    let p := s.rd Reg.IK_STATUS_NDEV - 1
    s.xBaseOf cfg p + (tget {} s.ik.chain p : IkDevice).width - 1
  else s.xLast cfg

/-- The devices to the east that hold part of an item ending at `x1`. -/
def State.partsExpected (s : State) (cfg : State) (x1 : Nat) : Nat :=
  if !s.eastNeighbour then 0
  else
    let pos := s.rd Reg.IK_STATUS_POS
    ((List.range (s.rd Reg.IK_STATUS_NDEV - pos - 1)).filter fun i =>
      let p := pos + 1 + i
      let o := if i = 0 then cfg.segOverlap 95 else (tget {} s.ik.chain (p - 1) : IkDevice).overlap
      decide (s.xBaseOf cfg p + o ≤ x1)).length

/-! ## Items -/

/-- The state with another open item. -/
def State.putItem (s : State) (n : Nat) (i : Item) : State :=
  { s with comp := { s.comp with items := tput n i s.comp.items } }

/-- The open item that holds (x, y), by its serial number. -/
def State.itemHolding (s : State) (y x : Nat) : Option (Nat × Item) :=
  s.comp.items.find? fun e =>
    decide (e.2.first ≤ y) && decide (y ≤ e.2.last) && decide (e.2.x0 ≤ x) && decide (x ≤ e.2.x1)

/-- A new grid is in force from line `y`: open items end at the line before, truncated (R231). -/
def State.gridChange (s : State) (y : Nat) : State :=
  let cut := s.comp.items.any fun e => decide (y ≤ e.2.last)
  let items := s.comp.items.map fun (e : Nat × Item) =>
    if y ≤ e.2.last then (e.1, { e.2 with last := y - 1, truncated := true, ended := true }) else e
  ({ s with comp := { s.comp with items := items, grid := s.comp.grid + 1, gridFrom := y } }).when cut
    (·.raise Ev.COMP_TRUNCATED)

/-- Another device's counts are added: compared, uninspected, don't-care, blobs, failing, worst area, worst peak, then
the reasons from code 1 (R230). -/
def Item.addPart (i : Item) (p : List Nat) : Item :=
  let v := fun n => p.getD n 0
  { i with compared := i.compared + v 1, uninsp := i.uninsp + v 2, dontcare := i.dontcare + v 3,
           blobs := satAdd 16 i.blobs (v 4), failing := satAdd 16 i.failing (v 5), worstArea := max i.worstArea (v 6),
           worstPeak := max i.worstPeak (v 7), parts := i.parts + 1,
           reasons := ((p.drop 8).zipIdx).foldl (fun t e => sput t (e.2 + 1) (sget t (e.2 + 1) + e.1)) i.reasons }

/-- The item of repeat `n`, row `r`, column `c` opens at line `y`, if it reaches the device's output range; on a cascade one
that lies wholly on other devices opens too, for blobs that end in it (R217). -/
def State.openItem (s : State) (cfg : State) (g : Grid) (y n r c : Nat) : State :=
  let x0 := g.colX c
  let x1 := min (x0 + g.itemW - 1) (s.cascadeLast cfg)
  let start := g.y0 + n * g.repeat_ + r * g.rowPitch
  let away := decide (x1 < s.xFirst) || decide (s.xLast cfg < x0)
  if s.cascadeLast cfg < x0 ∨ (away && !s.cascaded) ∨
      s.comp.items.any (fun e => e.2.grid == s.comp.grid && e.2.rep == n && e.2.row == r && e.2.col == c) then s
  else
    let i := r * g.cols + c
    let cut := decide (start < y)
    let item : Item := { grid := s.comp.grid, rep := n, row := r, col := c, id := g.id n r c, first := y,
                         last := start + g.itemH - 1, x0 := x0, x1 := x1, queue := cfg.itemField Reg.ITEM_QUEUE i,
                         valid := cfg.itemField Reg.ITEM_VALID i != 0, blobsOn := cfg.itemField Reg.ITEM_BLOBS i != 0,
                         truncated := cut, foreign := away, devices := decide (x0 < s.xFirst) || decide (s.xLast cfg < x1) }
    let item := (s.comp.itemParts.filter fun p => p.getD 0 0 == item.id).foldl Item.addPart item
    ({ s with comp := { s.comp with items := tput s.comp.nextItem item s.comp.items,
                                    nextItem := s.comp.nextItem + 1,
                                    itemParts := s.comp.itemParts.filter fun p => p.getD 0 0 != item.id } }).when
      (cut && !away) (·.raise Ev.COMP_TRUNCATED)

/-- The items whose area line `y` begins are opened; a change of grid ends the others first (R219, R221, R231). -/
def State.openItems (s : State) (y : Nat) : State :=
  let cfg := s.atLine y
  let g := gridOf cfg.rd
  let changed := decide (0 < y) && gridOf (s.atLine (y - 1)).rd != g
  let s := if changed then s.gridChange y else s
  match g.rowAt y with
  | none => s
  | some r =>
    if r.2.2 = 0 ∨ y = s.comp.gridFrom then
      s.each (List.range g.cols) fun s c => s.openItem cfg g y r.1 r.2.1 c
    else s

/-- The pixels of line `y` in an item are counted; `codes` gives the final code of each position (R223, R227). -/
def State.countItem (s : State) (y : Nat) (code : Nat → Nat) (i : Item) : Item :=
  if y < i.first ∨ i.last < y ∨ i.ended then i
  else
    let cfg := s.atLine y
    let lo := max i.x0 s.xFirst
    let hi := min i.x1 (s.xLast cfg)
    let xs := ((List.range (hi + 1 - lo)).map (lo + ·)).filterMap fun x => (s.judgedAt y x).map fun j => (x, j)
    let dc := (xs.filter fun e => e.2.dc).length
    let cmp := (xs.filter fun e => e.2.compared && code e.1 != 17).length
    let un := xs.filter fun e => !e.2.dc && !(e.2.compared && code e.1 != 17)
    let gen := s.genAt y
    { i with
      compared := i.compared + cmp, uninsp := i.uninsp + un.length, dontcare := i.dontcare + dc
      reasons := un.foldl (fun t e => sput t (code e.1) (sget t (code e.1) + 1)) i.reasons
      gens := if i.gens.contains gen then i.gens else i.gens ++ [gen]
      faultLoss := i.faultLoss || xs.any fun e => code e.1 == 5 }

/-- Line `y` never left the lanes: every pixel of the item in it is uninspected with code 5 (R231, R545). -/
def State.countItemLost (s : State) (y : Nat) (i : Item) : Item :=
  if y < i.first ∨ i.last < y ∨ i.ended then i
  else
    let n := min i.x1 (s.xLast (s.atLine y)) + 1 - max i.x0 s.xFirst
    let gen := s.genAt y
    if n = 0 then i
    else { i with uninsp := i.uninsp + n, reasons := sput i.reasons 5 (sget i.reasons 5 + n), faultLoss := true,
                  gens := if i.gens.contains gen then i.gens else i.gens ++ [gen] }

/-! ## Closing blobs (R215, R217, R218) -/

/-- A blob is failing under the rules of its class, as they stand at its peak's line (R212). -/
def State.failing (s : State) (b : Blob) : Bool :=
  let cfg := s.atLine b.peakY
  let a := cfg.rd Reg.TOL_FAIL_AREA 0 b.peakClass
  let p := cfg.rd Reg.TOL_FAIL_PEAK 0 b.peakClass
  (a != 0 && decide (a ≤ b.area)) || (p != 0 && decide (p ≤ b.peak))

/-- The blob record (R218). -/
def State.blobRecord (s : State) (b : Blob) (item : Option Item) (seq : Nat) (split cut : Bool) : List Nat :=
  let spans := match item with
    | some i => decide (b.xMin < i.x0) || decide (i.x1 < b.xMax) || decide (b.first < i.first) || decide (i.last < b.last)
    | none => false
  let time := (s.line b.last).time
  recordWords 16
    [(0, 0, 8, 0x22), (0, 8, 8, 1), (0, 16, 4, b.peakClass), (0, 20, 1, split.toNat), (0, 21, 1, b.cont.toNat),
     (0, 22, 1, spans.toNat), (0, 23, 1, b.clip.toNat), (0, 24, 1, b.single.toNat), (0, 25, 1, b.lanes.toNat),
     (0, 26, 1, b.devices.toNat), (0, 27, 1, b.border.toNat), (0, 28, 1, cut.toNat), (0, 29, 1, (s.failing b).toNat),
     (4, 0, 32, (item.map (·.id)).getD 0xFFFFFFFF), (8, 0, 32, b.first), (0xC, 0, 16, b.first / 2 ^ 32), (0xC, 16, 16, seq),
     (0x10, 0, 32, b.last), (0x14, 0, 16, b.last / 2 ^ 32), (0x14, 16, 16, b.chain), (0x18, 0, 20, b.xMin),
     (0x1C, 0, 20, b.xMax), (0x20, 0, 32, b.area), (0x24, 0, 16, min 65535 (b.sumDist / b.area)), (0x24, 16, 16, b.peak),
     (0x28, 0, 24, (16 * b.sumX + b.area / 2) / b.area),
     (0x2C, 0, 24, (16 * (b.sumY - b.area * b.first) + b.area / 2) / b.area), (0x30, 0, 20, b.peakX),
     (0x34, 0, 32, b.peakY - b.first), (0x38, 0, 32, s.genAt b.last), (0x3C, 0, 32, time)]

/-- Another device reports the blob: it holds the first pixel in raster order (R214, R545). -/
def Blob.elsewhere (b : Blob) : Option Remote :=
  let r := b.remotes.filter fun r => decide (r.firstY < b.first) || (r.firstY == b.first && decide (r.firstX < b.firstX))
  match r with
  | [] => none
  | a :: l => some (l.foldl (fun (m r : Remote) =>
      if r.firstY < m.firstY ∨ (r.firstY = m.firstY ∧ r.firstX < m.firstX) then r else m) a)

/-- The BLOB_PART message of fragment `id` (R537): the sums of the blob, or none of it where they go with another
fragment. -/
def Blob.partFrame (b : Blob) (id : Nat) (full : Bool) : List Nat :=
  let v := fun (n x : Nat) => leBytes n (if full then x else 0)
  leBytes 4 id ++ v 8 b.area ++ v 8 b.sumDist ++ v 8 b.sumX ++ v 8 b.sumY ++ v 4 b.peak ++ v 4 b.peakX ++ v 8 b.peakY ++
    v 4 b.xMin ++ v 4 b.xMax ++ v 8 b.first ++ v 8 b.last ++
    v 1 (b.clip.toNat + 2 * b.single.toNat + 4 * b.lanes.toNat + 8 * b.border.toNat + 16 * b.peakClass)

/-- The crops that wait for a blob learn what they need of it (R254): CHAIN, ITEM_ID, first line, CLASS, failing. -/
def State.tellCrops (s : State) (b : Blob) (v : List Nat) : State :=
  let crops := s.mp.crops.map fun (e : Nat × Crop) =>
    if b.crops.contains e.1 then (e.1, { e.2 with result := some v }) else e
  { s with mp := { s.mp with crops := crops } }

/-- The crops of a blob that another device reports: its number there and its first line are the merged blob's; item,
class and failing are what that device finds, and no message brings them: free values (assumption log 84). -/
def State.tellCropsOf (s : State) (b : Blob) (r : Remote) : State :=
  if b.crops.isEmpty then s
  else
    let id := s.take 32
    let cls := id.1.take 4
    let failing := cls.1.take 1
    failing.1.tellCrops b [r.id % 65536, id.2, r.firstY, cls.2, failing.2]

/-- A blob closes: SPLIT, CUT or normally (R215, R217). On the device that does not report it, its part is sent to the
device that does (R545). -/
def State.closeBlob (s : State) (split cut : Bool) (b : Blob) : State :=
  match b.elsewhere with
  | some r =>
    let s := s.each b.ids.zipIdx fun s e => s.emit (.ikito r.side 0x13 (b.partFrame e.1 (e.2 == 0)))
    s.tellCropsOf b r
  | none =>
    let fail := s.failing b
    let held := s.itemHolding b.peakY b.peakX
    let cfg := s.atLine b.last
    let on := cfg.on Reg.COMP_CTL_BLOB_EN
    let s := s.tellCrops b [b.chain % 65536, (held.map (·.2.id)).getD 0xFFFFFFFF, b.first, b.peakClass, fail.toNat]
    let s := s.inc Reg.COMP_BLOBS_COUNT
    match held with
    | some (n, i) =>
      let i' := { i with blobs := satAdd 16 i.blobs 1, failing := satAdd 16 i.failing fail.toNat,
                         worstArea := max i.worstArea b.area, worstPeak := max i.worstPeak b.peak,
                         seq := satAdd 16 i.seq 1 }
      let rec' : ClosedBlob := { item := some n, queue := i.queue, words := s.blobRecord b (some i) i.seq split cut }
      let s := s.putItem n i'
      if on && i.valid && i.blobsOn then { s with comp := { s.comp with closed := s.comp.closed ++ [rec'] } } else s
    | none =>
      let rec' : ClosedBlob := { queue := cfg.rd Reg.GUTTER_Q_QUEUE,
                                 words := s.blobRecord b none s.comp.gutterSeq split cut }
      let s := { s with comp := { s.comp with gutterSeq := satAdd 16 s.comp.gutterSeq 1 } }
      if on && cfg.on Reg.GUTTER_Q_VALID then { s with comp := { s.comp with closed := s.comp.closed ++ [rec'] } } else s

/-- OPEN_BLOBS (R232). -/
def State.showBlobs (s : State) : State :=
  s.wr Reg.COMP_STATUS_OPEN_BLOBS (min 65535 (s.comp.blobs.filter fun b => !b.ghost).length)

/-- The blobs that `p` picks close. -/
def State.closeBlobs (s : State) (split cut : Bool) (p : Blob → Bool) : State :=
  let gone := (s.comp.blobs.filter p).mergeSort fun a b => !b.before a
  let s := { s with comp := { s.comp with blobs := s.comp.blobs.filter fun b => !p b } }
  (s.each (gone.filter fun b => !b.ghost) fun s b => s.closeBlob split cut b).showBlobs

/-- After line `y` is labelled, no run connects to the blob, and every part of it that another device sums has come
(R215, R545). -/
def Blob.finished (y : Nat) (b : Blob) : Bool :=
  b.frags.all (fun f => f.cur.isEmpty) && b.remotes.all (fun r => r.last != y) &&
    match b.elsewhere with
    | some r => b.remotes.all fun q => q.done || q.side == r.side
    | none => b.remotes.all (·.done)

/-- The blobs open for BLOB_MAX_LINES lines close with SPLIT, each leaving a trace that continues it (R215). -/
def State.splitBlobs (s : State) (y : Nat) : State :=
  let m := (s.atLine y).rd Reg.COMP_LIMITS_BLOB_MAX_LINES
  let p := fun (b : Blob) => !b.ghost && b.last == y && decide (m ≤ y + 1 - b.first)
  let traces := (s.comp.blobs.filter p).map fun (b : Blob) =>
    { frags := (b.frags.filter fun f => !f.cur.isEmpty).map fun f => { f with trace := true },
      chain := b.chain, cont := true, ghost := true : Blob }
  let s := s.when (!traces.isEmpty) (·.raise Ev.COMP_SPLIT)
  let s := s.closeBlobs true false p
  { s with comp := { s.comp with blobs := s.comp.blobs ++ traces } }

/-! ## Boundary fragments (R214, R545) -/

/-- Crops that turn out not to be this device's to open are given up, with their tokens (R252, R256). -/
def State.dropCrops (s : State) (ns : List Nat) : State :=
  let crops := s.mp.crops.filter fun (e : Nat × Crop) => !ns.contains e.1
  let n := s.mp.crops.length - crops.length
  { s with mp := { s.mp with crops := crops, tokens := s.mp.tokens + n } }

/-- The blob opened where the neighbour's run `r` of line `y'` touches it, and `r` is of a blob that began before it: the
first pixel is the neighbour's. -/
def Blob.notFirst (y' : Nat) (r : FragRun) (b : Blob) : Bool :=
  decide (b.first ≤ y' + 1) && decide (y' ≤ b.first) &&
    (decide (r.firstY < b.first) || (r.firstY == b.first && decide (r.firstX < b.firstX)))

/-- A boundary run of a neighbour at line `y'` joins the blobs that touch it there, or that hold its fragment. -/
def State.joinRemote (s : State) (side y' : Nat) (r : FragRun) : State :=
  let p := fun (b : Blob) =>
    (b.touch.any fun t => t.1 == side && decide (t.2 ≤ y' + 1) && decide (y' ≤ t.2 + 1)) ||
      b.remotes.any fun q => q.side == side && q.id == r.id
  let joined := s.comp.blobs.filter p
  let s := s.dropCrops ((joined.filter (Blob.notFirst y' r)).flatMap (·.crops))
  match joined.map fun b => if b.notFirst y' r then { b with crops := [] } else b with
  | [] => s
  | b :: bs =>
    let m := bs.foldl Blob.merge b
    let old := m.remotes.filter fun q => !(q.side == side && q.id == r.id)
    let was := m.remotes.find? fun q => q.side == side && q.id == r.id
    let now : Remote := { side := side, id := r.id, last := max y' ((was.map (·.last)).getD 0), firstY := r.firstY,
                          firstX := r.firstX, done := (was.map (·.done)).getD false }
    { s with comp := { s.comp with
        blobs := (s.comp.blobs.filter fun b => !p b) ++ [{ m with devices := true, remotes := old ++ [now] }] } }

/-- Boundary runs of lines `y - 1` and `y` join the blobs of line `y`. -/
def State.joinRemotes (s : State) (y : Nat) : State :=
  s.each [0, 1] fun s side =>
    s.each [y - 1, y] fun s y' =>
      s.each (tget [] s.comp.fragRuns (2 * y' + side)) fun s r => s.joinRemote side y' r

/-- The FRAGMENT message of line `y` to a neighbour: the run that touches the boundary (R537). -/
def State.sendFragments (s : State) (y : Nat) : State :=
  s.each [0, 1] fun s side =>
    if !(if side = 0 then s.westNeighbour else s.eastNeighbour) then s
    else
      match s.comp.blobs.find? fun b => b.touch.contains (side, y) with
      | none => s
      | some b =>
        let x := if side = 0 then s.xFirst else s.xLast (s.atLine y)
        let r := ((b.frags.flatMap (·.cur)).find? fun r => decide (r.1 ≤ x) && decide (x ≤ r.2)).getD (x, x)
        let blobs := s.comp.blobs.map fun (c : Blob) =>
          if c.touch.contains (side, y) then { c with ids := union c.ids [c.chain] } else c
        ({ s with comp := { s.comp with blobs := blobs } }).emit
          (.ikito side 0x12 (leBytes 6 y ++ leBytes 4 r.1 ++ leBytes 4 r.2 ++ leBytes 4 b.chain))

/-! ## Coverage (R227 to R229) -/

/-- The spans of a line: maximal runs of the same code above 0, from (x, code) in rising x (R228). -/
def spansOf : List (Nat × Nat) → List (Nat × Nat × Nat)
  | [] => []
  | (x, c) :: l =>
    match spansOf l with
    | (a, b, d) :: r => if a = x + 1 ∧ c = d then (x, b, d) :: r else if c = 0 then (a, b, d) :: r else (x, x, c) :: (a, b, d) :: r
    | [] => if c = 0 then [] else [(x, x, c)]

/-- At most 64 spans; the last one replaces those beyond the 63rd (R228). -/
def limitSpans (l : List (Nat × Nat × Nat)) : List (Nat × Nat × Nat × Bool) :=
  if l.length ≤ 64 then l.map fun e => (e.1, e.2.1, e.2.2, false)
  else
    let rest := l.drop 63
    ((l.take 63).map fun e => (e.1, e.2.1, e.2.2, false)) ++
      [((rest.getD 0 (0, 0, 0)).1, (rest.getLast?.getD (0, 0, 0)).2.1, leastCode (rest.map (·.2.2)), true)]

/-- A coverage record with the queue that COV_Q names for its last line. -/
def State.coverQueue (s : State) (c : CovRecord) : CovRecord :=
  { c with queue := (s.atLine c.last).rd Reg.COV_Q_QUEUE }

/-- A closed coverage record waits to be staged while COV_Q is valid. -/
def State.closeCover (s : State) (cs : List CovRecord) : State :=
  { s with comp := { s.comp with
      coverClosed := s.comp.coverClosed ++
        (cs.filter fun c => (s.atLine c.last).on Reg.COV_Q_VALID).map s.coverQueue } }

/-- The spans of line `y` extend, close and open coverage records (R228), or extend the backlog (R229). -/
def State.coverLine (s : State) (y : Nat) (spans : List (Nat × Nat × Nat × Bool)) : State :=
  match s.comp.backlog with
  | some b => if spans.isEmpty then s else { s with comp := { s.comp with backlog := some (b.1, y) } }
  | none =>
    let gen := s.genAt y
    let most := (s.atLine y).rd Reg.COV_CTL_MAX_LINES
    let same := fun (c : CovRecord) (e : Nat × Nat × Nat × Bool) =>
      c.x0 == e.1 && c.x1 == e.2.1 && c.code == e.2.2.1 && c.gen == gen && c.last + 1 == y &&
        decide (c.last + 1 - c.first < most)
    let closed := s.comp.cover.filter fun c => !spans.any (same c)
    let now := spans.map fun e =>
      match s.comp.cover.find? fun c => same c e with
      | some c => { c with last := y, merged := c.merged || e.2.2.2 }
      | none => { code := e.2.2.1, merged := e.2.2.2, x0 := e.1, x1 := e.2.1, first := y, last := y, gen := gen : CovRecord }
    { s with comp := { s.comp with cover := now } }.closeCover closed

/-! ## Crops that a new blob opens (R252, R253) -/

/-- Previews and crops are shed (R239, R437): the capacity level, or thinning in force. -/
def State.shedLevel (s : State) : Nat :=
  if s.rd Reg.THIN_STATUS_KEEP < 0x1000 then 2 else s.rd Reg.CAP_STATUS_LEVEL

/-- Where a crop's window lies: x0, y0 and clipped (R253). -/
def cropWindow (xs xe yb w margin xlo xhi : Nat) : Nat × Nat × Bool :=
  let want : Int := ((xs + xe) / 2 : Nat) - (w / 2 : Nat)
  let x0 := sat want xlo ((xhi : Int) - w + 1)
  let y0 : Int := max 0 ((yb : Int) - margin)
  (x0.toNat, y0.toNat, decide (x0 ≠ want) || decide (y0 ≠ (yb : Int) - margin))

/-- The new blob `b` of line `y` is considered for a crop (R252): the state, and the buffer it takes. -/
def State.openCrop (s : State) (y : Nat) (b : Blob) : State × Option Nat :=
  let cfg := s.atLine y
  let cls := ((s.judgedAt y b.firstX).map (·.cls)).getD 0
  if !cfg.on Reg.MP_CTL_CROP_EN || !(cfg.rd Reg.CROP_CLASSES_MASK).testBit cls then (s, none)
  else if 2 ≤ s.shedLevel then ((s.inc Reg.CROP_SHED_COUNT).raise Ev.PROD_CROP_SKIP, none)
  else if s.mp.tokens = 0 ∨ cfg.rd Reg.CROP_RATE_PER_S = 0 then
    ((s.incSat Reg.CROP_SKIP_RATE).raise Ev.PROD_CROP_SKIP, none)
  else
    match (List.range 6).find? fun n => (tfind n s.mp.crops).isNone with
    | none => ((s.incSat Reg.CROP_SKIP_BUSY).raise Ev.PROD_CROP_SKIP, none)
    | some n =>
      let w := 16 * cfg.rd Reg.CROP_GEOM_W16
      let win := cropWindow b.xMin b.xMax y w (cfg.rd Reg.CROP_GEOM_MARGIN) s.xFirst (s.xLast cfg)
      let c : Crop := { x0 := win.1, y0 := win.2.1, clipped := win.2.2, width := w,
                        height := 16 * cfg.rd Reg.CROP_GEOM_H16, format := cfg.rd Reg.CROP_GEOM_FORMAT,
                        failOnly := cfg.on Reg.CROP_GEOM_FAIL_ONLY }
      ({ s with mp := { s.mp with tokens := s.mp.tokens - 1, crops := tput n c s.mp.crops } }, some n)

/-- The blobs that opened in line `y` and whose first pixel this device holds are considered for crops, in raster order
(R252, R256). -/
def State.openCrops (s : State) (y : Nat) : State :=
  let new := fun (b : Blob) => b.first == y && !b.cont && !b.ghost && b.elsewhere.isNone
  let fresh := (s.comp.blobs.filter new).mergeSort fun a b => !b.before a
  let r := fresh.foldl (fun (a : State × List Blob) b =>
    let o := a.1.openCrop y b
    (o.1, a.2 ++ [{ b with crops := b.crops ++ o.2.toList }])) (s, [])
  { r.1 with comp := { r.1.comp with blobs := (s.comp.blobs.filter fun b => !new b) ++ r.2 } }

/-! ## A line of the labeller -/

/-- A pixel of 3 x 3 around any pixel of the run is not compared, or lies beyond the output width (R217 BORDER). -/
def State.borders (s : State) (y : Nat) (r : Nat × Nat) : Bool :=
  around.any fun j => (List.range (r.2 + 3 - r.1)).any fun i =>
    let y' : Int := (y : Int) + j
    let x' : Int := (r.1 : Int) + i - 1
    if y' < 0 then false
    else
      let cfg := s.atLine y'.toNat
      let lo : Int := s.xFirst
      let hi : Int := s.xLast cfg
      if x' < lo then
        !s.westNeighbour || !((tget [] s.comp.edges (2 * y'.toNat)).getD 1 (false, false)).2
      else if hi < x' then
        !s.eastNeighbour || !((tget [] s.comp.edges (2 * y'.toNat + 1)).getD 0 (false, false)).2
      else
        match s.judgedAt y'.toNat x'.toNat with
        | some q => !q.compared
        | none => true

/-- The pixels of a run. -/
def State.runPixels (s : State) (y : Nat) (r : Nat × Nat) : List LabelPixel :=
  ((List.range (r.2 + 1 - r.1)).map (r.1 + ·)).filterMap fun x =>
    (s.outAt y x).bind fun e => (s.judgedAt y x).map fun j =>
      { x := x, dist := j.dist, cls := j.cls, clip := e.2.1.flags.testBit 0, single := e.2.1.flags.testBit 3
        item := (s.itemHolding y x).map (·.1) }

/-- The fragments move on to the next line. -/
def Frag.step (f : Frag) : Frag := { f with prev := f.cur, cur := [] }

/-- Lines that a blob touches at the device's boundaries, with those of line `y`. -/
def Blob.touchAt (y xf xl : Nat) (b : Blob) : Blob :=
  let cur := b.frags.flatMap (·.cur)
  let west := if cur.any fun r => r.1 == xf then [(0, y)] else []
  let east := if cur.any fun r => r.2 == xl then [(1, y)] else []
  { b with touch := b.touch ++ west ++ east }

/-- The blob has a pixel 8-adjacent to a run that was not labelled, of the line just labelled (`now`) or of the line
before (`was`): such runs are uninspected (R216, R217). -/
def Blob.besideExcess (now was : List (Nat × Nat)) (b : Blob) : Blob :=
  { b with border := b.border || b.frags.any fun f =>
      (f.cur.any fun r => (now ++ was).any (touches r)) || (!f.trace && f.prev.any fun r => now.any (touches r)) }

/-- Line `y` is labelled: runs, fragments and blobs (R214 to R216). -/
def State.labelRuns (s : State) (y : Nat) : State × List (Nat × Nat) :=
  let bs := s.comp.blobs.map fun (b : Blob) => { b with frags := b.frags.map Frag.step }
  let l := (List.range 12).foldl (fun (l : Labelling) k =>
    (s.laneRuns k y).foldl (fun (l : Labelling) r => l.run y k r (s.runPixels y r) (s.borders y r)) l)
    { blobs := bs, chain := s.comp.chain, excess := [] }
  let blobs := l.blobs.map fun b =>
    (b.touchAt y s.xFirst (s.xLast (s.atLine y))).besideExcess l.excess s.comp.excess
  ({ s with comp := { s.comp with blobs := blobs, chain := l.chain, excess := l.excess } }, l.excess)

/-- The final coverage codes of line `y`: (x, code) in rising x, 17 where a run was not labelled (R216, R227). -/
def State.finalCodes (s : State) (y : Nat) (excess : List (Nat × Nat)) : List (Nat × Nat) :=
  (List.range 12).flatMap fun k =>
    let p := s.laneSpan k y
    ((List.range p.2).map (p.1 + ·)).filterMap fun x => (s.judgedAt y x).map fun j =>
      (x, if excess.any fun r => decide (r.1 ≤ x) && decide (x ≤ r.2) then 17 else j.code)

/-- The code of a position among (x, code). -/
def codeAt (l : List (Nat × Nat)) (x : Nat) : Nat := ((l.find? fun e => e.1 == x).map (·.2)).getD 0

/-- The pixels of line `y` are counted for items and coverage. -/
def State.countLine (s : State) (y : Nat) (excess : List (Nat × Nat)) : State :=
  let codes := s.finalCodes y excess
  let items := s.comp.items.map fun (e : Nat × Item) => (e.1, s.countItem y (codeAt codes) e.2)
  ({ s with comp := { s.comp with items := items } }).coverLine y (limitSpans (spansOf codes))

/-- Line `y` never left the lanes: code 5 across the device's output width (R231, R545). -/
def State.countLost (s : State) (y : Nat) : State :=
  let items := s.comp.items.map fun (e : Nat × Item) => (e.1, s.countItemLost y e.2)
  ({ s with comp := { s.comp with items := items } }).coverLine y [(s.xFirst, s.xLast (s.atLine y), 5, false)]

/-- The labeller has finished the line after the item's last, and no open blob reaches the item (R222). -/
def State.itemReady (s : State) (e : Nat × Item) : Bool :=
  (e.2.ended || decide (e.2.last + 1 < s.comp.next)) && decide (e.2.last < s.comp.next) &&
    (s.comp.blobs.all fun b => !b.items.contains e.1) && s.comp.closed.all fun c => c.item != some e.1

/-- This device writes the item's verdict: it holds X0 (R230). -/
def State.holdsItem (s : State) (i : Item) : Bool := decide (s.xFirst ≤ i.x0) || !s.westNeighbour

/-- Items without a verdict here leave when they are complete (R221). -/
def State.dropSilentItems (s : State) : State :=
  { s with comp := { s.comp with items := s.comp.items.filter fun e => (e.2.valid && !e.2.foreign) || !s.itemReady e } }

/-- LABEL_LINE_DONE: the labeller finishes its next line, once line y + 2 has been compared on the device and, at its
boundaries, on its neighbours (R213 to R217, R545). -/
def labelLineDone (s : State) : State :=
  let y := s.comp.next
  let edgeDone := (!s.westNeighbour || (tfind (2 * (y + 2)) s.comp.edges).isSome) &&
    (!s.eastNeighbour || (tfind (2 * (y + 2) + 1) s.comp.edges).isSome)
  if !s.running || !s.allPast (y + 2) || !edgeDone then s
  else
    let s := s.openItems y
    let r := s.labelRuns y
    let s := r.1.joinRemotes y
    let s := s.when (!r.2.isEmpty) fun t => (t.inc Reg.COMP_OVERFLOW_COUNT).raise Ev.COMP_LABEL_OVERFLOW
    let s := (s.openCrops y).sendFragments y
    let s := s.countLine y r.2
    let s := (s.closeBlobs false false (Blob.finished y)).splitBlobs y
    ({ s with comp := { s.comp with next := y + 1 } }).showBlobs.dropSilentItems

def execLabelLineDone (s : State) : Host.Outcome State Fault Refusal := .next (s.powered fun s => labelLineDone s)

/-! ## Staging of records (R218, R223 to R225, R228, R229) -/

/-- Whether staging a record added one. -/
def State.stagedOk (s : State) (r : Staged) : State × Bool :=
  let t := s.stage true r
  (t, decide (s.fr.staged.length < t.fr.staged.length))

/-- BLOB_RECORD_STAGE: the record of the blob that closed first is staged, or dropped (R218, R225). -/
def blobRecordStage (s : State) : State :=
  match s.comp.closed with
  | [] => s
  | c :: rest =>
    let s := { s with comp := { s.comp with closed := rest } }
    s.stage true { queue := c.queue, kind := 0, words := c.words, item := c.item }

def execBlobRecordStage (s : State) : Host.Outcome State Fault Refusal := .next (s.powered fun s => blobRecordStage s)

/-- The verdict code of R223. -/
def verdictCode (failing uninsp compared maxUninsp : Nat) : Nat :=
  if 0 < failing then 2 else if maxUninsp * (compared + uninsp) < uninsp * 256 then 3 else if 0 < uninsp then 1 else 0

/-- MAIN_REASON: the code with the most uninspected pixels, the lowest on a tie. -/
def mainReason (t : Store) : Nat :=
  (t.foldl (fun (b : Nat × Nat) e => if b.2 < e.2 then e else b) (0, 0)).1

/-- The verdict record (R224). -/
def State.verdictRecord (s : State) (i : Item) : List Nat :=
  let cfg := s.atLine i.last
  recordWords 16
    [(0, 0, 8, 0x23), (0, 8, 8, 1), (0, 16, 2, verdictCode i.failing i.uninsp i.compared (cfg.rd Reg.COMP_LIMITS_MAX_UNINSP)),
     (0, 18, 1, i.truncated.toNat), (0, 19, 1, (decide (1 < i.gens.length)).toNat), (0, 20, 1, i.faultLoss.toNat),
     (0, 21, 1, i.devices.toNat), (4, 0, 32, i.id), (8, 0, 32, i.first), (0xC, 0, 16, i.first / 2 ^ 32), (0xC, 16, 8, i.col),
     (0xC, 24, 8, i.row), (0x10, 0, 32, i.last), (0x14, 0, 16, i.last / 2 ^ 32), (0x14, 16, 16, i.dropped),
     (0x18, 0, 20, i.x0), (0x1C, 0, 20, i.x1), (0x20, 0, 32, min 0xFFFFFFFF i.compared),
     (0x24, 0, 32, min 0xFFFFFFFF i.uninsp), (0x28, 0, 32, min 0xFFFFFFFF i.dontcare),
     (0x2C, 0, 16, i.blobs), (0x2C, 16, 16, i.failing), (0x30, 0, 32, i.worstArea), (0x34, 0, 16, i.worstPeak),
     (0x34, 16, 8, if i.uninsp = 0 then 0 else mainReason i.reasons), (0x38, 0, 32, s.genAt i.last),
     (0x3C, 0, 16, sget s.comp.lost i.queue)]

/-- The ITEM_PART message (R537): ID, counts, blobs, failing, worst area and peak, and the uninspected pixels of codes 1
to 17. -/
def Item.partFrame (i : Item) : List Nat :=
  leBytes 4 i.id ++ leBytes 8 i.compared ++ leBytes 8 i.uninsp ++ leBytes 8 i.dontcare ++ leBytes 2 i.blobs ++
    leBytes 2 i.failing ++ leBytes 4 i.worstArea ++ leBytes 2 i.worstPeak ++
    (List.range 17).flatMap fun r => leBytes 8 (sget i.reasons (r + 1))

/-- Every part of the item that another device counts has come, or cannot come any more (R230, R545). -/
def State.partsDone (s : State) (i : Item) : Bool :=
  !s.on Reg.IKP_STATUS_UP 1 || decide (s.partsExpected (s.atLine i.last) i.x1 ≤ i.parts)

/-- The item that is decided next: among those whose conditions hold, the one that ended first. -/
def State.nextItem (s : State) : Option (Nat × Item) :=
  (s.comp.items.filter fun e => e.2.valid && !e.2.foreign && s.itemReady e && (!s.holdsItem e.2 || s.partsDone e.2)).foldl
    (fun (b : Option (Nat × Item)) e =>
      match b with
      | none => some e
      | some x => if e.2.last < x.2.last then some e else b) none

/-- VERDICT: the verdict of the item whose conditions were met first is decided and staged (R222 to R225); a device that
does not hold X0 sends its part instead (R230). -/
def verdict (s : State) : State :=
  match s.nextItem with
  | none => s
  | some (n, i) =>
    let s := { s with comp := { s.comp with items := tdel n s.comp.items } }
    if !s.holdsItem i then s.emit (.ikito 0 0x14 i.partFrame)
    else
      let r := s.stagedOk { queue := i.queue, kind := 1, words := s.verdictRecord i, item := some n }
      if r.2 then
        let t := r.1.inc Reg.COMP_VERDICTS_COUNT
        { t with comp := { t.comp with lost := sput t.comp.lost i.queue 0 } }
      else r.1

def execVerdict (s : State) : Host.Outcome State Fault Refusal := .next (s.powered fun s => verdict s)

/-- The coverage record (R228). -/
def CovRecord.words (c : CovRecord) : List Nat :=
  recordWords 16 [(0, 0, 8, 0x24), (0, 8, 8, 1), (0, 16, 8, c.code), (0, 24, 1, c.merged.toNat), (4, 0, 20, c.x0),
    (8, 0, 20, c.x1), (0xC, 0, 32, c.first), (0x10, 0, 16, c.first / 2 ^ 32), (0x14, 0, 32, c.last),
    (0x18, 0, 16, c.last / 2 ^ 32), (0x1C, 0, 32, c.gen)]

/-- A free slot for a coverage record. -/
def State.coverSlot (s : State) : Bool := s.slotFree { kind := 2 }

/-- Stage a coverage record for its queue. -/
def State.stageCover (s : State) (c : CovRecord) : State :=
  let r := s.stagedOk { queue := c.queue, kind := 2, words := c.words }
  r.1.when r.2 (·.inc Reg.COV_RECORDS_COUNT)

/-- Coverage enters backlog with every record that is not staged (R229). -/
def State.enterBacklog (s : State) : State :=
  let all := s.comp.coverClosed ++ s.comp.cover
  let first := all.foldl (fun m c => min m c.first) ((all.head?.map (·.first)).getD 0)
  let last := all.foldl (fun m c => max m c.last) 0
  ({ s.wr Reg.COMP_STATUS_COV_BACKLOG 1 with
     comp := { s.comp with coverClosed := [], cover := [], backlog := some (first, last) } }).raise Ev.COMP_COV_BACKLOG

/-- COVERAGE_RECORD_STAGE: the oldest closed coverage record is staged; without a free slot coverage enters backlog
(R225, R228, R229). -/
def coverageRecordStage (s : State) : State :=
  match s.comp.coverClosed with
  | [] => s
  | c :: rest =>
    if s.queueTakes c.queue 2 && !s.coverSlot then s.enterBacklog
    else ({ s with comp := { s.comp with coverClosed := rest } }).stageCover c

def execCoverageRecordStage (s : State) : Host.Outcome State Fault Refusal :=
  .next (s.powered fun s => coverageRecordStage s)

/-- The record that stands for the lines of a backlog (R229). -/
def State.backlogRecord (s : State) (b : Nat × Nat) : CovRecord :=
  s.coverQueue { code := 0xFF, x0 := s.xFirst, x1 := s.xLast (s.atLine b.2), first := b.1, last := b.2, gen := s.genAt b.2 }

/-- The backlog records that wait for a slot: those of runs that have ended, then the present one. -/
def State.backlogRecords (s : State) : List CovRecord :=
  s.comp.coverLeft ++ (s.comp.backlog.map s.backlogRecord).toList

/-- COV_BACKLOG_RESUME: a slot is free, and one record stands for the backlog's lines (R229). -/
def covBacklogResume (s : State) : State :=
  match s.backlogRecords with
  | [] => s
  | c :: rest =>
    if s.queueTakes c.queue 2 && !s.coverSlot then s
    else
      let s := { s with comp := { s.comp with coverLeft := s.comp.coverLeft.drop 1,
                                              backlog := if s.comp.coverLeft.isEmpty then none else s.comp.backlog } }
      (s.wrB Reg.COMP_STATUS_COV_BACKLOG (!rest.isEmpty)).stageCover c

def execCovBacklogResume (s : State) : Host.Outcome State Fault Refusal := .next (s.powered fun s => covBacklogResume s)

/-! ## Runs and faults (R215, R231, R232) -/

/-- What the run before left undecided is decided before a new run begins: blob records and verdicts, then coverage; a
backlog keeps waiting for a slot (R222, R226, R229, R231). -/
def State.compSettle (s : State) : State :=
  let s := s.each s.comp.closed fun s _ => blobRecordStage s
  let s := s.each s.comp.items fun s _ => verdict s
  let s := s.each s.comp.coverClosed fun s _ => coverageRecordStage s
  { s with comp := { s.comp with coverLeft := s.backlogRecords, backlog := none } }

/-- A run starts: the counters are cleared and comparison begins at line 0 (R232). -/
def State.compStart (s : State) : State :=
  let s := [Reg.COMP_BLOBS_COUNT, Reg.COMP_VERDICTS_COUNT, Reg.COMP_DROP_BLOB, Reg.COMP_DROP_VERDICT,
    Reg.COV_RECORDS_COUNT, Reg.COMP_OVERFLOW_COUNT].foldl (fun s r => s.wr r 0) s
  { s with comp := { lost := s.comp.lost, coverLeft := s.comp.coverLeft, nextItem := s.comp.nextItem } }

/-- The lines that have been compared and not labelled are counted, and those that code 5 discards in the pipeline. -/
def State.countRest (s : State) : Nat → State
  | 0 => s
  | n + 1 =>
    let y := s.comp.next
    let past := s.allPast y
    if !past && !(s.line y).codes.contains (12, 5) then s
    else
      let t := s.openItems y
      let t := if past then t.countLine y [] else t.countLost y
      State.countRest { t with comp := { t.comp with next := y + 1 } } n

/-- The run stops: open blobs close with CUT, open items end, open coverage records close (R215, R231). -/
def State.compStop (s : State) : State :=
  let s := s.countRest (s.lt.line + 1 - s.comp.next)
  let s := s.closeBlobs false true fun _ => true
  let last := s.comp.next - 1
  let cut := s.comp.items.any fun e => decide (last < e.2.last)
  let items := s.comp.items.map fun (e : Nat × Item) =>
    (e.1, if last < e.2.last then { e.2 with last := last, truncated := true, ended := true } else { e.2 with ended := true })
  let s := ({ s with comp := { s.comp with items := items } }).when cut (·.raise Ev.COMP_TRUNCATED)
  let open' := s.comp.cover
  ({ s with comp := { s.comp with cover := [] } }.closeCover open').dropSilentItems

/-- A fault discards lines of the lanes `ks`: the open blobs with fragments there close with CUT (R215), and the open
items that reach those lanes take FAULT_LOSS (R231). -/
def State.compFault (s : State) (ks : List Nat) : State :=
  let cfg := s.atLine s.comp.next
  let range := fun (k : Nat) =>
    (s.xBase + cfg.segStart (8 * k), s.xBase + cfg.segStart (8 * k + 7) + cfg.segPixels (8 * k + 7))
  let items := s.comp.items.map fun (e : Nat × Item) =>
    (e.1, if ks.any fun k => decide (e.2.x0 < (range k).2) && decide ((range k).1 ≤ e.2.x1) then
        { e.2 with faultLoss := true } else e.2)
  ({ s with comp := { s.comp with items := items } }).closeBlobs false true fun b =>
    b.frags.any fun f => ks.contains f.lane

/-- An emitted line that is lost before the labeller: its pixels take code 5 (R412). -/
def OutLine.lose (l : OutLine) : OutLine :=
  { l with pixels := l.pixels.map fun p => { p with code := leastCode [p.code, 5] } }

/-- All lines inside the pipeline are discarded: those not emitted, and those emitted but not labelled, take code 5, and
what comparison has open on them is cut (R215, R231, R412). -/
def State.linesLost (s : State) : State :=
  let from' := s.lanesNext.foldl min s.lt.line
  let s := s.each (List.range (s.lt.line - from')) fun s i => s.mark (from' + i) 12 5
  let s := s.compFault (List.range 12)
  { s with outLines := s.outLines.map fun (e : Nat × OutLine) =>
      if e.1 / 16 < s.comp.next then e else (e.1, e.2.lose) }

/-! ## Messages from neighbours (R545) -/

/-- DEFECT: a neighbour's two boundary columns of line `y` (R213). -/
def ikDefect (side y : Nat) (cols : List (Bool × Bool)) (s : State) : State :=
  { s with comp := { s.comp with edges := tput (2 * y + side) cols s.comp.edges } }

/-- FRAGMENT: a neighbour's boundary runs of line `y` join the blobs that they touch (R214). -/
def ikFragment (side y : Nat) (runs : List FragRun) (s : State) : State :=
  let s := { s with comp := { s.comp with fragRuns := tput (2 * y + side) runs s.comp.fragRuns } }
  if y < s.comp.next then (s.each runs fun s r => s.joinRemote side y r).showBlobs else s

/-- What a BLOB_PART message carries: fragment, area, sums of distance, x and y, peak with its place and class, ranges,
flags (CLIP, SINGLE, LANES, BORDER). -/
def partBlob (v : List Nat) : Blob :=
  let w := fun n => v.getD n 0
  { area := w 1, sumDist := w 2, sumX := w 3, sumY := w 4, peak := w 5, peakX := w 6, peakY := w 7, xMin := w 8,
    xMax := w 9, first := w 10, last := w 11, clip := (w 12).testBit 0, single := (w 12).testBit 1,
    lanes := (w 12).testBit 2, border := (w 12).testBit 3, peakClass := bitsOf (w 12) 4 4, devices := true }

/-- BLOB_PART: a neighbour's sums for one of its fragments are added to the blob that holds it (R545). -/
def ikBlobPart (side : Nat) (v : List Nat) (s : State) : State :=
  let id := v.getD 0 0
  let blobs := s.comp.blobs.map fun (b : Blob) =>
    if b.remotes.any fun q => q.side == side && q.id == id then
      let first := (b.first, b.firstX)
      let m := if (v.getD 1 0) = 0 then b else b.merge (partBlob v)
      { m with chain := b.chain, cont := b.cont, frags := b.frags, first := min first.1 m.first,
               firstX := first.2, crops := b.crops,
               remotes := m.remotes.map fun (q : Remote) => if q.side = side ∧ q.id = id then { q with done := true } else q }
    else b
  let s := { s with comp := { s.comp with blobs := blobs } }
  s.closeBlobs false false (Blob.finished (s.comp.next - 1))

/-- ITEM_PART: another device's counts for an item (R230); kept for an item that is still to open here. -/
def ikItemPart (p : List Nat) (s : State) : State :=
  let id := p.getD 0 0
  if !s.comp.items.any fun e => e.2.id == id then
    { s with comp := { s.comp with itemParts := s.comp.itemParts ++ [p] } }
  else
  let items := s.comp.items.map fun (e : Nat × Item) => (e.1, if e.2.id = id then e.2.addPart p else e.2)
  { s with comp := { s.comp with items := items } }

end Sys2Proof.Machine
end

