-- ==== Sys2Proof/Machine/Binary64.lean ====
section
/-!
DEFINITION. IEEE 754 binary64 arithmetic, as the manual's computations "in binary64" use it: a value is its 64-bit
pattern, every operation is exact and then rounded to nearest, ties to even.  binary32 patterns of registers are
converted exactly.  Signs of zero and the payload of a NaN are not kept apart (assumption log 5).
-/

namespace Sys2Proof.Machine

/-- A binary64 value as its bit pattern. -/
abbrev F64 := Nat

/-- The quiet NaN. -/
def f64NaN : F64 := 0x7FF8000000000000

/-- Infinity with a sign. -/
def f64Inf (neg : Bool) : F64 := if neg then 0xFFF0000000000000 else 0x7FF0000000000000

/-- Neither infinite nor a NaN. -/
def f64Finite (x : F64) : Bool := (x >>> 52) % 2048 != 2047

/-- A NaN. -/
def f64IsNaN (x : F64) : Bool := (x >>> 52) % 2048 == 2047 && x % 2 ^ 52 != 0

/-- The sign bit. -/
def f64Neg? (x : F64) : Bool := x.testBit 63

/-- A finite value as mantissa and exponent: mantissa * 2^exponent. -/
def f64Parts (x : F64) : Int × Int :=
  let e := (x >>> 52) % 2048
  let m : Nat := x % 2 ^ 52
  let a : Int := Int.ofNat (if e = 0 then m else m + 2 ^ 52)
  let k : Int := if e = 0 then -1074 else (e : Int) - 1075
  (if x.testBit 63 then -a else a, k)

/-- A rational n / d rounded to binary64 (to nearest, ties to even; beyond the range, infinity). -/
def f64OfRat (n : Int) (d : Nat) : F64 :=
  let a := n.natAbs
  if a = 0 ∨ d = 0 then 0
  else
    let k0 : Int := (Nat.log2 a : Int) - (Nat.log2 d : Int)
    let below := if 0 ≤ k0 then a < d * 2 ^ k0.toNat else a * 2 ^ (-k0).toNat < d
    let k := if below then k0 - 1 else k0
    let e : Int := max k (-1022)
    let sh := 52 - e
    let num := if 0 ≤ sh then a * 2 ^ sh.toNat else a
    let den := if 0 ≤ sh then d else d * 2 ^ (-sh).toNat
    let q := num / den
    let r := num % den
    let q := if den < 2 * r ∨ (2 * r = den ∧ q % 2 = 1) then q + 1 else q
    let bits :=
      if q < 2 ^ 52 then q
      else
        let e' := if q = 2 ^ 53 then e + 1 else e
        let m := if q = 2 ^ 53 then 0 else q - 2 ^ 52
        if 1023 < e' then 0x7FF0000000000000 else (e' + 1023).toNat * 2 ^ 52 + m
    if n < 0 then bits + 2 ^ 63 else bits

/-- A mantissa and an exponent rounded to binary64. -/
def f64OfScaled (m : Int) (e : Int) : F64 :=
  if 0 ≤ e then f64OfRat (m * 2 ^ e.toNat) 1 else f64OfRat m (2 ^ (-e).toNat)

/-- An integer. -/
def f64OfInt (n : Int) : F64 := f64OfRat n 1

/-- The negative of a value. -/
def f64Neg (x : F64) : F64 := if x = 0 then 0 else if x.testBit 63 then x - 2 ^ 63 else x + 2 ^ 63

/-- The magnitude of a value. -/
def f64Abs (x : F64) : F64 := x % 2 ^ 63

/-- x + y. -/
def f64Add (x y : F64) : F64 :=
  if f64Finite x && f64Finite y then
    let a := f64Parts x
    let b := f64Parts y
    let e := min a.2 b.2
    f64OfScaled (a.1 * 2 ^ (a.2 - e).toNat + b.1 * 2 ^ (b.2 - e).toNat) e
  else if f64IsNaN x || f64IsNaN y then f64NaN
  else if f64Finite x then y
  else if f64Finite y then x
  else if x = y then x else f64NaN

/-- x - y. -/
def f64Sub (x y : F64) : F64 := f64Add x (f64Neg y)

/-- x * y. -/
def f64Mul (x y : F64) : F64 :=
  if f64Finite x && f64Finite y then
    let a := f64Parts x
    let b := f64Parts y
    f64OfScaled (a.1 * b.1) (a.2 + b.2)
  else if f64IsNaN x || f64IsNaN y || f64Abs x == 0 || f64Abs y == 0 then f64NaN
  else f64Inf (x.testBit 63 != y.testBit 63)

/-- x / y. -/
def f64Div (x y : F64) : F64 :=
  if f64IsNaN x || f64IsNaN y then f64NaN
  else if !f64Finite x then if f64Finite y then f64Inf (x.testBit 63 != y.testBit 63) else f64NaN
  else if !f64Finite y then 0
  else if f64Abs y = 0 then if f64Abs x = 0 then f64NaN else f64Inf (x.testBit 63 != y.testBit 63)
  else
    let a := f64Parts x
    let b := f64Parts y
    let n := if b.1 < 0 then -a.1 else a.1
    let e := a.2 - b.2
    if 0 ≤ e then f64OfRat (n * 2 ^ e.toNat) b.1.natAbs else f64OfRat n (b.1.natAbs * 2 ^ (-e).toNat)

/-- x < y (false where a NaN takes part). -/
def f64Lt (x y : F64) : Bool :=
  if f64IsNaN x || f64IsNaN y then false
  else if !f64Finite x || !f64Finite y then
    x != y && (if f64Finite x then !y.testBit 63 else if f64Finite y then x.testBit 63 else x.testBit 63)
  else
    let a := f64Parts x
    let b := f64Parts y
    let e := min a.2 b.2
    a.1 * 2 ^ (a.2 - e).toNat < b.1 * 2 ^ (b.2 - e).toNat

/-- x ≤ y. -/
def f64Le (x y : F64) : Bool := !f64IsNaN x && !f64IsNaN y && !f64Lt y x

/-- The greater of two values. -/
def f64Max (x y : F64) : F64 := if f64Lt x y then y else x

/-- The smaller of two values. -/
def f64Min (x y : F64) : F64 := if f64Lt y x then y else x

/-- The square root, rounded. -/
def f64Sqrt (x : F64) : F64 :=
  if f64Abs x = 0 then 0
  else if x.testBit 63 then f64NaN
  else if !f64Finite x then x
  else
    let a := f64Parts x
    let t : Nat := if a.2 % 2 = 0 then 70 else 71
    let m := a.1.toNat * 2 ^ t
    let r := isqrt m
    let sticky := if r * r = m then 2 * r else 2 * r + 1
    f64OfScaled sticky ((a.2 - t) / 2 - 1)

/-- A value times 2^n, rounded half away from zero to an integer (R305, R432); none where it is no number. -/
def f64Round (x : F64) (n : Nat) : Option Int :=
  if !f64Finite x then none
  else
    let a := f64Parts x
    let e := a.2 + n
    some (if 0 ≤ e then a.1 * 2 ^ e.toNat else rnd a.1 (-e).toNat)

/-- A value truncated toward zero; none where it is no number. -/
def f64Trunc (x : F64) : Option Int :=
  if !f64Finite x then none
  else
    let a := f64Parts x
    some (if 0 ≤ a.2 then a.1 * 2 ^ a.2.toNat else a.1.tdiv (2 ^ (-a.2).toNat))

/-- A binary32 pattern as a binary64 value (exact). -/
def f64OfF32 (w : Nat) : F64 :=
  let e := (w >>> 23) % 256
  let m : Nat := w % 2 ^ 23
  let neg := w.testBit 31
  if e = 255 then if m = 0 then f64Inf neg else f64NaN
  else
    let a : Int := Int.ofNat (if e = 0 then m else m + 2 ^ 23)
    let k : Int := if e = 0 then -149 else (e : Int) - 150
    f64OfScaled (if neg then -a else a) k

/-- The sum of a list, in order, from the first element. -/
def f64Sum (l : List F64) : F64 := l.foldl f64Add 0

end Sys2Proof.Machine
end

