-- ==== Sys2Proof/Machine/Curves.lean ====
section
/-!
DEFINITION. The sensor curves of R302 to R306: fixed-point evaluation of polynomials, logarithm and exponential, the
reference functions of the thermocouple types (IEC 60584-1, whose coefficients the manual names and does not print:
PRESUMED, assumption log 7), and inverses to within 1e-6 K (R305, assumption log 8).
-/

namespace Sys2Proof.Machine

/-! ## Fixed point with 200 fraction bits -/

/-- A number times 2^200, truncated. -/
abbrev Fix := Int

/-- An integer. -/
def fixOf (n : Int) : Fix := n * 2 ^ 200

/-- A quotient of integers. -/
def fixRat (n : Int) (d : Nat) : Fix := n * 2 ^ 200 / d

/-- A product and a quotient. -/
def fixMul (a b : Fix) : Fix := a * b / 2 ^ 200
def fixDiv (a b : Fix) : Fix := a * 2 ^ 200 / b

/-- A finite binary64 value. -/
def fixOfF64 (x : F64) : Fix :=
  let p := f64Parts x
  if 0 ≤ p.2 + 200 then p.1 * 2 ^ (p.2 + 200).toNat else p.1 / 2 ^ (-(p.2 + 200)).toNat

/-- A decimal: digits and the number of decimal places. -/
abbrev Dec := Int × Nat

/-- A decimal in fixed point. -/
def fixDec (d : Dec) : Fix := fixRat d.1 (10 ^ d.2)

/-- A polynomial by its coefficients, constant term first. -/
def fixPoly (cs : List Dec) (t : Fix) : Fix := cs.foldr (fun c acc => fixDec c + fixMul t acc) 0

/-- z + z^3/3 + z^5/5 + …: the first `n` terms from the term with power `p` = z^k. -/
def atanhSeries (z2 : Fix) : Nat → Nat → Fix → Fix
  | 0, _, _ => 0
  | n + 1, k, p => p / k + atanhSeries z2 n (k + 2) (fixMul p z2)

/-- The natural logarithm of a mantissa and an exponent, m * 2^e with 0 < m. -/
def fixLn (m : Nat) (e : Int) : Fix :=
  let b := Nat.log2 m
  let u := fixRat m (2 ^ b)
  let z := fixDiv (u - fixOf 1) (u + fixOf 1)
  let third := fixRat 1 3
  2 * atanhSeries (fixMul z z) 70 1 z + 2 * (e + b) * atanhSeries (fixMul third third) 70 1 third

/-- The natural logarithm of a positive finite binary64 value, correctly rounded (PRESUMED, assumption log 8). -/
def f64Ln (x : F64) : F64 :=
  let p := f64Parts x
  if f64IsNaN x || (x.testBit 63 && f64Abs x != 0) then f64NaN
  else if f64Abs x = 0 then f64Inf true
  else if !f64Finite x then x
  else f64OfScaled (fixLn p.1.toNat p.2) (-200)

/-- 1 + x + x^2/2 + …: `n` terms from the term `p`. -/
def expSeries (x : Fix) : Nat → Nat → Fix → Fix
  | 0, _, _ => 0
  | n + 1, k, p => p + expSeries x n (k + 1) (fixMul p x / k)

/-- The exponential of a number between -256 and 0. -/
def fixExp (x : Fix) : Fix := Nat.repeat (fun y => fixMul y y) 9 (expSeries (x / 512) 40 1 (fixOf 1))

/-! ## Thermocouples (IEC 60584-1) -/

/-- Type K: the upper end of each segment, and its coefficients (mV per power of °C). -/
def typeE_K : List (Dec × List Dec) :=
  [
    ((0, 0),
      [(0, 0), (39450128025, 12), (23622373598, 15), (-32858906784, 17), (-49904828777, 19), (-67509059173, 21),
       (-57410327428, 23), (-31088872894, 25), (-10451609365, 27), (-19889266878, 30), (-16322697486, 33)]),
    ((1372, 0),
      [(-17600413686, 12), (38921204975, 12), (18558770032, 15), (-99457592874, 18), (31840945719, 20),
       (-56072844889, 23), (56075059059, 26), (-32020720003, 29), (97151147152, 33), (-12104721275, 36)])]

/-- Type J: the upper end of each segment, and its coefficients (mV per power of °C). -/
def typeE_J : List (Dec × List Dec) :=
  [
    ((760, 0),
      [(0, 0), (50381187815, 12), (3047583693, 14), (-8568106572, 17), (13228195295, 20), (-17052958337, 23),
       (20948090697, 26), (-12538395336, 29), (15631725697, 33)]),
    ((1200, 0),
      [(29645625681, 8), (-14976127786, 10), (31787103924, 13), (-31847686701, 16), (15720819004, 19),
       (-30691369056, 23)])]

/-- Type N: the upper end of each segment, and its coefficients (mV per power of °C). -/
def typeE_N : List (Dec × List Dec) :=
  [
    ((0, 0),
      [(0, 0), (26159105962, 12), (10957484228, 15), (-93841111554, 18), (-46412039759, 21), (-26303357716, 22),
       (-22653438003, 24), (-76089300791, 27), (-93419667835, 30)]),
    ((1300, 0),
      [(0, 0), (25929394601, 12), (1571014188, 14), (43825627237, 18), (-25261169794, 20), (64311819339, 23),
       (-10063471519, 25), (99745338992, 29), (-60863245607, 32), (20849229339, 35), (-30682196151, 39)])]

/-- Type T: the upper end of each segment, and its coefficients (mV per power of °C). -/
def typeE_T : List (Dec × List Dec) :=
  [
    ((0, 0),
      [(0, 0), (38748106364, 12), (44194434347, 15), (11844323105, 17), (20032973554, 18), (90138019559, 20),
       (22651156593, 21), (36071154205, 23), (38493939883, 25), (28213521925, 27), (14251594779, 29),
       (48768662286, 32), (1079553927, 33), (13945027062, 37), (79795153927, 41)]),
    ((400, 0),
      [(0, 0), (38748106364, 12), (3329222788, 14), (20618243404, 17), (-21882256846, 19), (10996880928, 21),
       (-30815758772, 24), (4547913529, 26), (-27512901673, 30)])]

/-- Type E: the upper end of each segment, and its coefficients (mV per power of °C). -/
def typeE_E : List (Dec × List Dec) :=
  [
    ((0, 0),
      [(0, 0), (58665508708, 12), (45410977124, 15), (-77998048686, 17), (-25800160843, 18), (-59452583057, 20),
       (-93214058667, 22), (-10287605534, 23), (-80370123621, 26), (-43979497391, 28), (-16414776355, 30),
       (-39673619516, 33), (-55827328721, 36), (-34657842013, 39)]),
    ((1000, 0),
      [(0, 0), (5866550871, 11), (45032275582, 15), (28908407212, 18), (-33056896652, 20), (6502440327, 22),
       (-19197495504, 26), (-12536600497, 28), (21489217569, 31), (-14388041782, 34), (35960899481, 38)])]

/-- Type S: the upper end of each segment, and its coefficients (mV per power of °C). -/
def typeE_S : List (Dec × List Dec) :=
  [
    ((106418, 2),
      [(0, 0), (540313308631, 14), (12593428974, 15), (-232477968689, 19), (322028823036, 22), (-331465196389,
       25), (255744251786, 28), (-125068871393, 31), (271443176145, 35)]),
    ((16645, 1),
      [(132900444085, 11), (334509311344, 14), (654805192818, 17), (-164856259209, 20), (129989605174, 25)]),
    ((17681, 1),
      [(146628232636, 9), (-258430516752, 12), (163693574641, 15), (-330439046987, 19), (-943223690612, 26)])]

/-- Type B: the upper end of each segment, and its coefficients (mV per power of °C). -/
def typeE_B : List (Dec × List Dec) :=
  [
    ((630615, 3),
      [(0, 0), (-24650818346, 14), (59040421171, 16), (-13257931636, 19), (15668291901, 22), (-1694452924, 24),
       (62990347094, 29)]),
    ((1820, 0),
      [(-38938168621, 10), (2857174747, 11), (-84885104785, 15), (15785280164, 17), (-16835344864, 20),
       (11109794013, 23), (-44515431033, 27), (98975640821, 31), (-93791330289, 35)])]

/-- Type R: the upper end of each segment, and its coefficients (mV per power of °C). -/
def typeE_R : List (Dec × List Dec) :=
  [
    ((106418, 2),
      [(0, 0), (528961729765, 14), (139166589782, 16), (-238855693017, 19), (356916001063, 22), (-462347666298,
       25), (500777441034, 28), (-373105886191, 31), (157716482367, 34), (-281038625251, 38)]),
    ((16645, 1),
      [(295157925316, 11), (-252061251332, 14), (159564501865, 16), (-764085947576, 20), (205305291024, 23),
       (-293359668173, 27)]),
    ((17681, 1),
      [(152232118209, 9), (-268819888545, 12), (171280280471, 15), (-345895706453, 19), (-934633971046, 26)])]

/-- The reference function of a type at `t` °C, mV: the segment that holds `t`. -/
def segmentE (t : Fix) : List (Dec × List Dec) → Fix
  | [] => 0
  | [s] => fixPoly s.2 t
  | s :: r => if t ≤ fixDec s.1 then fixPoly s.2 t else segmentE t r

/-- The exponential term of type K above 0 °C. -/
def typeKTerm (t : Fix) : Fix :=
  let d := t - fixDec (1269686, 4)
  fixMul (fixDec (1185976, 7)) (fixExp (-fixMul (fixDec (1183432, 10)) (fixMul d d)))

/-- E_type of curves 4 to 11 (R304): K, J, N, T, E, S, B, R. -/
def typeE (curve : Nat) (t : Fix) : Fix :=
  match curve with
  | 4 => segmentE t typeE_K + (if 0 < t then typeKTerm t else 0)
  | 5 => segmentE t typeE_J
  | 6 => segmentE t typeE_N
  | 7 => segmentE t typeE_T
  | 8 => segmentE t typeE_E
  | 9 => segmentE t typeE_S
  | 10 => segmentE t typeE_B
  | _ => segmentE t typeE_R

/-- The range of the reference function, °C: below it or above it the standard gives no E_type. -/
def typeSpan (curve : Nat) : Int × Int :=
  match curve with
  | 4 => (-270, 1372)
  | 5 => (-210, 1200)
  | 6 => (-270, 1300)
  | 7 => (-270, 400)
  | 8 => (-270, 1000)
  | 10 => (0, 1820)
  | _ => (-50, 1768)

/-- The range of a curve's result, °C (R304). -/
def curveRange (curve : Nat) : Int × Int :=
  match curve with
  | 1 => (-200, 850)
  | 2 => (-200, 850)
  | 3 => (-60, 250)
  | 4 => (-200, 1372)
  | 5 => (-210, 1200)
  | 6 => (-200, 1300)
  | 7 => (-200, 400)
  | 8 => (-200, 1000)
  | 9 => (-50, 1768)
  | 10 => (250, 1820)
  | 11 => (-50, 1768)
  | _ => (-100, 300)

/-! ## Resistance thermometers -/

/-- IEC 60751 with resistance `r0` at 0 °C (curves 1 and 2, R304). -/
def platinum (r0 : Int) (t : Fix) : Fix :=
  let a := fixPoly [(1, 0), (39083, 7), (-5775, 10)] t
  let c := if t < 0 then fixMul (fixPoly [(0, 0), (0, 0), (0, 0), (-4183, 15)] t) (t - fixOf 100) else 0
  r0 * (a + c)

/-- DIN 43760 (curve 3). -/
def nickel (t : Fix) : Fix :=
  1000 * fixPoly [(1, 0), (5485, 6), (665, 8), (0, 0), (2805, 14), (0, 0), (-20, 18)] t

/-- The function whose inverse curves 1 to 11 take. -/
def curveForward (curve : Nat) (t : Fix) : Fix :=
  match curve with
  | 1 => platinum 100 t
  | 2 => platinum 1000 t
  | 3 => nickel t
  | _ => typeE curve t

/-! ## Inverses -/

/-- What a conversion gives: the result in 15.16 (none: not stated, a free value), another result that R305 leaves as
possible, and RANGE (none: left open). -/
structure Quantity where
  value : Option Int := some 0
  other : Option Int := none
  range : Option Bool := some false
  deriving DecidableEq, Repr

/-- Bisection: the greatest of `lo`, …, `lo + 2^n - 1` that satisfies the monotone `p`, or `lo`. -/
def bisect (p : Int → Bool) : Nat → Int → Int
  | 0, lo => lo
  | n + 1, lo => if p (lo + 2 ^ n) then bisect p n (lo + 2 ^ n) else bisect p n lo

/-- 1e-6 K (R305). -/
def tolerance : Fix := fixDec (1, 6)

/-- Half steps of the 15.16 grid. -/
def halfStep (k : Int) : Fix := fixRat k 131072

/-- The inverse of curve 1 to 11 at `y`, computed to within 1e-6 K, in 15.16, kept in the range of R304. -/
def curveInverse (curve : Nat) (y : Fix) : Quantity :=
  let f := curveForward curve
  let r := curveRange curve
  let lo := fixOf r.1
  let hi := fixOf r.2
  if y < f (lo - tolerance) then { value := some (r.1 * 65536), range := some true }
  else if f (hi + tolerance) < y then { value := some (r.2 * 65536), range := some true }
  else
    let k := bisect (fun k => decide (k ≤ r.2 * 65536) && decide (f (halfStep (2 * k - 1)) ≤ y)) 27 (r.1 * 65536)
    let up := decide (f (halfStep (2 * k + 1) - tolerance) ≤ y) && decide (k < r.2 * 65536)
    let down := decide (y < f (halfStep (2 * k - 1) + tolerance)) && decide (r.1 * 65536 < k)
    { value := some k,
      other := if up then some (k + 1) else if down then some (k - 1) else none,
      range := if y < f (lo + tolerance) ∨ f (hi - tolerance) < y then none else some false }

/-- A binary64 result rounded half away from zero to 15.16; outside the format it saturates with RANGE (R305). -/
def quantityOf (x : F64) : Quantity :=
  if f64IsNaN x then { value := none, range := none }
  else if f64Lt x (f64OfInt (-32768)) then { value := some (-2147483648), range := some true }
  else if f64Lt (f64OfRat 2147483647 65536) x then { value := some 2147483647, range := some true }
  else { value := some (sat ((f64Round x 16).getD 0) (-2147483648) 2147483647) }

/-- A temperature kept in the range -100 °C to 300 °C of curves 12 and 13 (R304). -/
def thermistorOf (x : F64) : Quantity :=
  if f64IsNaN x then { value := none, range := none }
  else if f64Lt x (f64OfInt (-100)) then { value := some (-6553600), range := some true }
  else if f64Lt (f64OfInt 300) x then { value := some 19660800, range := some true }
  else { value := f64Round x 16 }

/-- The result of R ≤ 0: RANGE, and the nearest end, which the manual does not single out (assumption log 8). -/
def notPositive : Quantity := { value := some (-6553600), other := some 19660800, range := some true }

/-- 273.15 and 1 in binary64. -/
def kelvin0 : F64 := f64OfRat 27315 100
def f64One : F64 := f64OfInt 1

/-- Curve 12: NTC by β. -/
def thermistorBeta (p1 p2 p3 r : F64) : Quantity :=
  if f64Le r 0 then notPositive
  else
    let inv := f64Add (f64Div f64One (f64Add p3 kelvin0)) (f64Div (f64Ln (f64Div r p1)) p2)
    thermistorOf (f64Sub (f64Div f64One inv) kelvin0)

/-- Curve 13: Steinhart–Hart. -/
def steinhartHart (p1 p2 p3 r : F64) : Quantity :=
  if f64Le r 0 then notPositive
  else
    let l := f64Ln r
    let inv := f64Add (f64Add p1 (f64Mul p2 l)) (f64Mul p3 (f64Mul (f64Mul l l) l))
    thermistorOf (f64Sub (f64Div f64One inv) kelvin0)

/-- Curves 0 and 14: P1 × q + P2. -/
def linearCurve (p1 p2 q : F64) : Quantity := quantityOf (f64Add (f64Mul p1 q) p2)

/-- The first points of the host table ascend strictly (R304). -/
def ascending : List (F64 × F64) → Bool
  | a :: b :: r => f64Lt a.1 b.1 && ascending (b :: r)
  | _ => true

/-- Interpolation between the two points that enclose q; the last segment takes everything above. -/
def tableSegment (q : F64) : List (F64 × F64) → F64
  | [] => 0
  | [a] => a.2
  | a :: b :: r =>
    if f64Le q b.1 || r.isEmpty then
      f64Add a.2 (f64Div (f64Mul (f64Sub q a.1) (f64Sub b.2 a.2)) (f64Sub b.1 a.1))
    else tableSegment q (b :: r)

/-- Curve 15: the host table (R304). -/
def hostTable (pts : List (F64 × F64)) (q : F64) : Quantity :=
  let a := pts.head?.getD (0, 0)
  let z := pts.getLast?.getD (0, 0)
  if f64IsNaN q then { value := none, range := none }
  else if f64Lt q a.1 then { quantityOf a.2 with range := some true }
  else if f64Lt z.1 q then { quantityOf z.2 with range := some true }
  else quantityOf (tableSegment q pts)

end Sys2Proof.Machine
end

