-- ==== Sys2Proof/Machine/Profile.lean ====
section
/-!
DEFINITION. The profile generator of R325 and the angles of R323 and R330.  Trajectories are time-optimal under limits
of velocity, acceleration and jerk; they are held in fixed point with 96 fraction bits, finer than binary64, and where
the last bits of binary64 could decide a microstep a free value decides (assumption log 9).
-/

namespace Sys2Proof.Machine

/-! ## Fixed point with 96 fraction bits -/

/-- A number times 2^96, truncated: µst, µst/s, µst/s², µst/s³, s. -/
abbrev Fx := Int

def fxOf (n : Int) : Fx := n * 2 ^ 96
def fxRat (n : Int) (d : Nat) : Fx := n * 2 ^ 96 / d
def fxMul (a b : Fx) : Fx := a * b / 2 ^ 96
def fxDiv (a b : Fx) : Fx := a * 2 ^ 96 / b
def fxSqrt (a : Fx) : Fx := (isqrtLoop 192 0 (a.toNat * 2 ^ 96) : Nat)

/-- Position, velocity and acceleration. -/
structure Kin where
  p : Int := 0
  v : Int := 0
  a : Int := 0
  deriving DecidableEq, Repr

/-- A piece of a trajectory: duration and jerk. -/
abbrev Seg := Int × Int

/-- The motion after `t` under jerk `j`. -/
def Kin.after (k : Kin) (t j : Fx) : Kin :=
  { p := k.p + fxMul t (k.v + fxMul t (k.a / 2 + fxMul t j / 6)),
    v := k.v + fxMul t (k.a + fxMul t j / 2),
    a := k.a + fxMul t j }

/-- The motion after all pieces. -/
def Kin.run (k : Kin) (l : List Seg) : Kin := l.foldl (fun k s => k.after s.1 s.2) k

/-- The motion seen in the other direction. -/
def Kin.mirror (k : Kin) (s : Int) : Kin := { p := s * k.p, v := s * k.v, a := s * k.a }

/-- The velocity that is left when the acceleration is brought to 0 at jerk `j`. -/
def Kin.settled (k : Kin) (j : Fx) : Fx := k.v + fxDiv (fxMul k.a (if k.a < 0 then -k.a else k.a)) (2 * j)

/-- The time-optimal change to velocity `vt` with acceleration 0, under `a`, `j`. -/
def velocityChange (a j : Fx) (k : Kin) (vt : Fx) : List Seg :=
  let s : Int := if k.settled j ≤ vt then 1 else -1
  let dv := s * (vt - k.v)
  let a0 := s * k.a
  let peak := fxSqrt (max 0 (fxMul j dv + fxMul a0 a0 / 2))
  if peak ≤ a then [(max 0 (fxDiv (peak - a0) j), s * j), (max 0 (fxDiv peak j), -s * j)]
  else
    [(max 0 (fxDiv (a - a0) j), s * j),
     (max 0 (fxDiv (dv - fxDiv (2 * fxMul a a - fxMul a0 a0) (2 * j)) a), 0),
     (fxDiv a j, -s * j)]

/-- The pieces that first bring an acceleration above `a`, and a velocity above `v`, within their limits (R325). -/
def withinLimits (v a j : Fx) (k : Kin) : List Seg :=
  let sa : Int := if k.a < 0 then -1 else 1
  let first : List Seg := if a < sa * k.a then [(fxDiv (sa * k.a - a) j, -sa * j)] else []
  let k := k.run first
  let sv : Int := if k.v < 0 then -1 else 1
  if v < sv * k.v ∨ v < sv * k.settled j then first ++ velocityChange a j k (sv * v) else first

/-- Bisection on a monotone condition: the border of `p` in `lo` (where it holds) to `hi`. -/
def halve (p : Int → Bool) : Nat → Int → Int → Int
  | 0, lo, _ => lo
  | n + 1, lo, hi =>
    let m := (lo + hi) / 2
    if p m then halve p n m hi else halve p n lo m

/-- The pieces of a peak at velocity `vc`: up to it, and from it to rest. -/
def peakPieces (a j : Fx) (k : Kin) (vc : Fx) : List Seg :=
  velocityChange a j k vc ++ velocityChange a j { p := 0, v := vc, a := 0 } 0

/-- The time-optimal trajectory forward over `d`, which lies beyond the direct stop (R325). -/
def forward (v a j : Fx) (k : Kin) (d : Fx) : List Seg :=
  let span (l : List Seg) : Int := ({ k with p := 0 }.run l).p
  let v1 := k.settled j
  let full := peakPieces a j k v
  if k.a < 0 ∧ 0 < v1 ∧ d < span (peakPieces a j k v1) then
    let pieces (t : Int) : List Seg := (t, j) :: velocityChange a j (k.after t j) 0
    pieces (halve (fun t => decide (span (pieces t) ≤ d)) 130 0 (fxDiv (-k.a) j))
  else if span full ≤ d then velocityChange a j k v ++ [(fxDiv (d - span full) v, 0)] ++
    velocityChange a j { p := 0, v := v, a := 0 } 0
  else peakPieces a j k (halve (fun vc => decide (span (peakPieces a j k vc) ≤ d)) 140 (max 0 v1) v)

/-- The profile towards a target from the motion `k` under the limits V, A, J (R325). -/
def planMove (v a j : Fx) (k : Kin) (target : Fx) : List Seg :=
  let first := withinLimits v a j k
  let k := k.run first
  let d := target - k.p
  let stop := ({ k with p := 0 }.run (velocityChange a j k 0)).p
  let s : Int := if stop ≤ d then 1 else -1
  first ++ (forward v a j (k.mirror s) (s * d)).map fun x => (x.1, s * x.2)

/-- A controlled stop under A_s and J_s (R325). -/
def planStop (a j : Fx) (k : Kin) : List Seg :=
  let sa : Int := if k.a < 0 then -1 else 1
  let first : List Seg := if a < sa * k.a then [(fxDiv (sa * k.a - a) j, -sa * j)] else []
  first ++ velocityChange a j (k.run first) 0

/-- The total duration. -/
def duration (l : List Seg) : Fx := (l.map (·.1)).sum

/-- The motion at `t` from the start of the pieces; after the last one the velocity is kept. -/
def Kin.at (k : Kin) : List Seg → Fx → Kin
  | [], t => k.after t 0
  | s :: l, t => if t < s.1 then k.after t s.2 else Kin.at (k.after s.1 s.2) l (t - s.1)

/-- A position rounded half away from zero to a microstep, and whether it lies so near a half that binary64 could
round it to the other side; then the greater neighbour is given. -/
def nearest (p : Fx) : Int × Bool :=
  let f := p + 2 ^ 95
  let n := f / 2 ^ 96
  let r := f % 2 ^ 96
  if r < 2 ^ 84 then (n, true)
  else if 2 ^ 96 - 2 ^ 84 < r then (n + 1, true)
  else (n, false)

/-! ## Angles in binary64 -/

/-- π and 180/π as binary64. -/
def f64Pi : F64 := 0x400921FB54442D18

/-- Sine and cosine series: the alternating terms from `p` = x^k / k!, each next one two powers on. -/
def circleSeries (x2 : Fix) : Nat → Nat → Fix → Fix
  | 0, _, _ => 0
  | n + 1, k, p => p - circleSeries x2 n (k + 2) (fixMul p x2 / ((k + 1) * (k + 2)))

/-- Sine and cosine of an angle of a few turns, correctly rounded (PRESUMED, assumption log 8). -/
def f64Sin (x : F64) : F64 :=
  let t := fixOfF64 x
  f64OfScaled (circleSeries (fixMul t t) 60 1 t) (-200)
def f64Cos (x : F64) : F64 :=
  let t := fixOfF64 x
  f64OfScaled (circleSeries (fixMul t t) 60 0 (fixOf 1)) (-200)

/-- The square root in fixed point. -/
def fixSqrt (a : Fix) : Fix := (isqrtLoop 330 0 (a.toNat * 2 ^ 200) : Nat)

/-- One halving of an angle's tangent. -/
def halfTangent (x : Fix) : Fix := fixDiv x (fixOf 1 + fixSqrt (fixOf 1 + fixMul x x))

/-- z - z^3/3 + z^5/5 - …. -/
def atanSeries (z2 : Fix) : Nat → Nat → Fix → Fix
  | 0, _, _ => 0
  | n + 1, k, p => p / k - atanSeries z2 n (k + 2) (fixMul p z2)

/-- The arc tangent of a number from -1 to 1. -/
def fixAtan (x : Fix) : Fix :=
  let z := halfTangent (halfTangent (halfTangent x))
  8 * atanSeries (fixMul z z) 40 1 z

/-- atan2(y, x) of finite values in radians, correctly rounded (PRESUMED, assumption log 8); 0 for two zeros. -/
def f64Atan2 (y x : F64) : F64 :=
  let a := fixOfF64 y
  let b := fixOfF64 x
  let quarter := 2 * fixAtan (fixOf 1)
  if a = 0 ∧ b = 0 then 0
  else
    let r :=
      if a.natAbs ≤ b.natAbs then
        let t := fixAtan (fixDiv a b)
        if 0 < b then t else if 0 ≤ a then t + 2 * quarter else t - 2 * quarter
      else if 0 < a then quarter - fixAtan (fixDiv b a) else -quarter - fixAtan (fixDiv b a)
    f64OfScaled r (-200)

end Sys2Proof.Machine
end

