-- ==== Sys2Proof/Machine/Motion.lean ====
section
/-!
DEFINITION. The meanings of the chapter "Motion" (R321 to R342): the commands of an axis, its states at each servo
boundary, the profile and the set-point, homing, faults, stall detection, the current loop, the scanned auxiliary
converters, and sheet pauses.
-/

namespace Sys2Proof.Machine

/-! ## Axes -/

/-- Axis `a` beyond its registers. -/
def State.axis (s : State) (a : Nat) : Axis := tget {} s.axes a

def State.putAxis (s : State) (a : Nat) (x : Axis) : State := { s with axes := tput a x s.axes }

def State.onAxis (s : State) (a : Nat) (f : Axis → Axis) : State := s.putAxis a (f (s.axis a))

/-- MOT_STATUS.STATE: 0 DISABLED, 1 STANDSTILL, 2 MOVING, 3 STOPPING, 4 HELD, 5 BACKOFF, 6 HOMING, 7 FAULT. -/
def State.axisState (s : State) (a : Nat) : Nat := s.rd Reg.MOT_STATUS_STATE a

def State.putAxisState (s : State) (a st : Nat) : State := s.wr Reg.MOT_STATUS_STATE st a

/-- The set-point register pair and the remaining distance, as 40-bit numbers (R339). -/
def State.putPos (s : State) (a : Nat) : State :=
  s.wrPair Reg.MOT_POS_LO_VALUE Reg.MOT_POS_HI_VALUE (low 40 (s.axis a).set) a

def State.putRemain (s : State) (a : Nat) (r : Int) : State :=
  s.wrPair Reg.MOT_REMAIN_LO_VALUE Reg.MOT_REMAIN_HI_VALUE (low 40 r) a

def State.remain (s : State) (a : Nat) : Int :=
  signed 40 (s.rdPair Reg.MOT_REMAIN_LO_VALUE Reg.MOT_REMAIN_HI_VALUE a)

/-- Remaining = target - set-point. -/
def State.remainNow (s : State) (a : Nat) : State := s.putRemain a ((s.axis a).target - (s.axis a).set)

/-- The motion at the last boundary. -/
def Axis.kin (x : Axis) : Kin := ⟨x.p, x.v, x.a⟩

/-- V, A, J in force, in µst (R339 gives A and J in full steps). -/
def Axis.vmax (x : Axis) : Fx := fxOf (x.limits.getD 0 1)
def Axis.amax (x : Axis) : Fx := fxOf (256 * x.limits.getD 1 1)
def Axis.jmax (x : Axis) : Fx := fxOf (256 * x.limits.getD 2 1)
def Axis.stopA (x : Axis) : Fx := fxOf (256 * x.limits.getD 3 1)
def Axis.stopJ (x : Axis) : Fx := fxOf (256 * x.limits.getD 4 1)

/-- The profile heads for `p` (R325). -/
def Axis.headFor (x : Axis) (p : Int) : Axis :=
  { x with pieces := planMove x.vmax x.amax x.jmax x.kin (fxOf p), goal := some p, standby := false }

/-- A controlled stop begins (R325). -/
def Axis.stopNow (x : Axis) : Axis := { x with pieces := planStop x.stopA x.stopJ x.kin, goal := none, standby := false }

/-- The motion a servo period on, and the pieces that are left. -/
def Kin.advance (k : Kin) : List Seg → Fx → Kin × List Seg
  | [], t => (k.after t 0, [])
  | s :: l, t => if t < s.1 then (k.after t s.2, (s.1 - t, s.2) :: l) else Kin.advance (k.after s.1 s.2) l (t - s.1)

/-- 1 ns: a profile that ends within it is at rest (assumption log 9). -/
def nanosecond : Fx := 2 ^ 96 / 1000000000

/-- The profile has come to rest. -/
def Axis.atRest (x : Axis) : Bool := x.pieces.isEmpty

/-- The end of a servo period of `us` µs: the profile goes on; `stops`: its end is at rest. -/
def Axis.advance (x : Axis) (us : Nat) (stops : Bool) : Axis :=
  let r := x.kin.advance x.pieces (fxRat us 1000000)
  let left := if duration r.2 ≤ nanosecond then [] else r.2
  if left.isEmpty && stops then
    { x with p := (x.goal.map fxOf).getD r.1.p, v := 0, a := 0, pieces := [] }
  else if left.isEmpty then { x with p := r.1.p, v := r.1.v, a := 0, pieces := [] }
  else { x with p := r.1.p, v := r.1.v, a := r.1.a, pieces := left }

/-! ## Outputs and the standstill mode -/

/-- The standstill mode in effect (R329, R334). -/
def State.standstill (s : State) (a : Nat) : Nat :=
  let f := s.rd Reg.MOT_STATUS_FAULT a
  let h := (s.axis a).fields.hold
  if f = 2 ∨ f = 5 then 0 else if h = 3 then 1 else if f = 3 ∧ h = 2 then 1 else h

/-- The level of MOT[a]_EN. -/
def State.bridge (s : State) (a : Nat) (b : Bool) : State := s.emit (.pin "MOT_EN" a b)

/-- The standstill mode takes hold (R329). -/
def State.standbyNow (s : State) (a : Nat) : State :=
  let s := s.onAxis a fun x => { x with standby := true }
  match s.standstill a with
  | 0 => s.bridge a false
  | 1 => (s.bridge a true).emit (.drive "MOT_PWM_LOW" a 1)
  | _ => s.bridge a true

/-- The axis enters FAULT (R334): `freeze` sets the motion to rest at the set-point at once. -/
def State.axisFault (s : State) (a code : Nat) : State :=
  let frozen := code = 1 ∨ code = 2 ∨ code = 3 ∨ code = 5
  let s := s.onAxis a fun x =>
    let x := if frozen then { x with p := fxOf x.set, before := x.set } else x
    { x with v := 0, a := 0, pieces := [], goal := none, stall := 0, stallEmf := 0,
             target := if code = 6 then x.set else x.target }
  let s := ((s.remainNow a).putAxisState a 7).wr Reg.MOT_STATUS_FAULT code a
  let s := s.wr Reg.MOT_VEL_VALUE 0 a
  let s := s.when (decide (code ≠ 4)) (·.wr Reg.MOT_STATUS_HOMED 0 a)
  let s := (s.wr Reg.MOT_STATUS_PACED 0 a).wr Reg.MOT_STATUS_HOST_STOP 0 a
  let s := s.when (decide (code = 1 ∨ code = 2 ∨ code = 4 ∨ code = 5) || (s.axis a).standby) (·.standbyNow a)
  s.raise Ev.MOT_FAULT a

/-- A fault detected outside DISABLED and FAULT. -/
def State.axisFaultIf (s : State) (a code : Nat) : State :=
  if s.axisState a = 0 ∨ s.axisState a = 7 then s else s.axisFault a code

/-- The cause of fault `code` is gone (R334); `mine`: the writer of CLEAR holds the axis's grant. -/
def State.causeGone (s : State) (a code : Nat) (mine : Bool) : Bool :=
  match code with
  | 2 => (s.axis a).fltN
  | 3 => s.on Reg.AUXC_CTL_EN 0 a && (s.axis a).clean
  | 4 => mine
  | 5 => s.domain 6 == 2
  | _ => true

/-! ## Commands at a boundary -/

/-- A command or target write without effect (R327). -/
def State.axisRefused (s : State) (a : Nat) : State := s.raise Ev.MOT_CMD_REFUSED a

/-- The axis begins to move into state `st`. -/
def State.moveOn (s : State) (a st : Nat) (f : Axis → Axis) : State :=
  let s := s.when ((s.axis a).standby) (·.bridge a true)
  (s.onAxis a f).putAxisState a st

/-- A controlled stop into `after` (R327). -/
def State.axisStop (s : State) (a : Nat) (after : AfterStop) : State :=
  s.moveOn a 3 fun x => { x.stopNow with after := after }

/-- A held move is resumed (R328). -/
def State.axisResume (s : State) (a : Nat) : State :=
  let x := s.axis a
  let b : Int := s.rd Reg.MOT_BACKLASH_UST a
  let d := x.target - x.set
  let s := (s.wr Reg.MOT_STATUS_HOST_STOP 0 a).wr Reg.MOT_STATUS_PACED 0 a
  if b = 0 then s.moveOn a 2 fun x => x.headFor x.target
  else s.moveOn a 5 fun x => x.headFor (x.set - b * (if 0 < d then 1 else -1))

/-- The homing cruise in its direction (R333). -/
def State.homeCruise (s : State) (a : Nat) : State :=
  let v : Int := 256 * s.rd Reg.MOT_HOME_V a
  s.onAxis a fun x =>
    { x with pieces := velocityChange x.amax x.jmax x.kin (fxOf (if s.on Reg.MOT_HOME_DIR a then v else -v)),
             goal := none }

/-- The home switch is found: the set-point becomes 0, the target with it, and a controlled stop is due (R333). -/
def State.homeFound (s : State) (a : Nat) : State :=
  let s := s.onAxis a fun x =>
    { x with p := x.p - fxOf x.set, before := x.before - x.set, homeFrom := x.homeFrom - x.set, set := 0, target := 0,
             homeStop := true, after := .homed, waiting := x.waiting ++ [(0, .homeStop)] }
  (s.putPos a).raise Ev.MOT_HOMED a

/-- The sheet pause holds axis `a` (R336). -/
def State.pauseHolds (s : State) (a : Nat) : Bool :=
  s.on Reg.SHEET_STATUS_PAUSED && s.rd Reg.SHEET_CTL_AXIS == a

/-- A sheet pause stops the transport (R327, R336). -/
def State.pauseStop (s : State) (a : Nat) : State := (s.axisStop a .held).wr Reg.MOT_STATUS_PACED 1 a

/-- A command takes effect, targets and limits apart (R327, R333, R334). -/
def State.axisCommand (s : State) (a : Nat) (c : AxisCommand) : State :=
  let st := s.axisState a
  match c with
  | .target _ => s
  | .limits _ => s
  | .stop =>
    if st = 2 ∨ st = 5 then (s.axisStop a .held).wr Reg.MOT_STATUS_HOST_STOP 1 a
    else if st = 3 then s.wr Reg.MOT_STATUS_HOST_STOP 1 a
    else if st = 6 then
      if (s.axis a).homeStop then s.onAxis a fun x => { x with after := .unhomed }
      else s.onAxis a fun x => { x.stopNow with homeStop := true, after := .unhomed }
    else s.axisRefused a
  | .resume =>
    if st = 4 then
      if s.pauseHolds a then (s.wr Reg.MOT_STATUS_HOST_STOP 0 a).wr Reg.MOT_STATUS_PACED 1 a
      else if s.remain a = 0 then s.axisRefused a
      else s.axisResume a
    else s.axisRefused a
  | .home =>
    if st = 1 then
      let s := (s.wr Reg.MOT_STATUS_HOMED 0 a).wr Reg.MOT_STATUS_AT_TARGET 0 a
      let s := s.moveOn a 6 fun x => { x with standby := false, homeFrom := x.set, homeStop := false }
      if (s.axis a).home then
        (s.homeFound a).onAxis a fun x => x.stopNow
      else s.homeCruise a
    else s.axisRefused a
  | .clear mine =>
    if st = 7 ∧ s.causeGone a (s.rd Reg.MOT_STATUS_FAULT a) mine then
      let s := (s.wr Reg.MOT_STATUS_FAULT 0 a).putAxisState a (if s.remain a = 0 then 1 else 4)
      s.when ((s.axis a).standby) (·.standbyNow a)
    else s.axisRefused a
  | .zero =>
    if st = 1 then
      let s := s.onAxis a fun x => { x with set := 0, before := 0, target := 0, p := 0 }
      (s.putPos a).wr Reg.MOT_STATUS_HOMED 1 a
    else s.axisRefused a
  | .abort =>
    if st = 4 then
      let s := s.onAxis a fun x => { x with target := x.set }
      let s := (s.wr Reg.MOT_STATUS_HOST_STOP 0 a).wr Reg.MOT_STATUS_PACED 0 a
      (s.putRemain a 0).putAxisState a 1
    else s.axisRefused a
  | .homeStop => if st = 6 then s.onAxis a fun x => x.stopNow else s
  | .revoke =>
    if st = 2 ∨ st = 5 ∨ st = 6 then s.axisStop a (.fault 4)
    else if st = 3 then s.onAxis a fun x => { x with after := .fault 4 }
    else if st = 1 ∨ st = 4 then s.axisFault a 4
    else s

/-- Targets and limits take effect; the profile is re-evaluated where one changed (R325, R326). -/
def State.axisSettings (s : State) (a : Nat) (l : List AxisCommand) : State :=
  let st := s.axisState a
  let x := s.axis a
  let y := l.foldl (fun (x : Axis) c =>
    match c with
    | .target v => { x with target := v }
    | .limits l => { x with limits := l }
    | _ => x) x
  let target := y.target != x.target
  let limits := y.limits != x.limits
  let s := s.putAxis a y
  let s := s.when (st == 4 || st == 7) (·.remainNow a)
  match st with
  | 2 => if target || limits then s.onAxis a fun x => x.headFor x.target else s
  | 3 => if limits then s.onAxis a fun x => x.stopNow else s
  | 5 => if limits then s.onAxis a fun x => x.headFor (x.goal.getD x.set) else s
  | 6 => if limits then (if (s.axis a).homeStop then s.onAxis a fun x => x.stopNow else s.homeCruise a) else s
  | _ => s

/-- What follows the rest of a controlled stop (R327, R333, R334). -/
def State.stopEnds (s : State) (a : Nat) : State :=
  match (s.axis a).after with
  | .held => ((s.remainNow a).putAxisState a 4).raise Ev.MOT_STOPPED a
  | .homed => ((s.onAxis a fun x => { x with target := x.set }).putAxisState a 1).wr Reg.MOT_STATUS_HOMED 1 a
  | .unhomed => (s.onAxis a fun x => { x with target := x.set }).putAxisState a 1
  | .fault c => s.axisFault a c

/-- The transitions of R327 that no command makes. -/
def State.axisProceed (s : State) (a : Nat) : State :=
  let x := s.axis a
  match s.axisState a with
  | 1 =>
    if x.target = x.set then s
    else (s.moveOn a 2 fun x => x.headFor x.target).wr Reg.MOT_STATUS_AT_TARGET 0 a
  | 2 =>
    if s.pauseHolds a then s.pauseStop a
    else if x.atRest then
      (((s.putRemain a 0).putAxisState a 1).wr Reg.MOT_STATUS_AT_TARGET 1 a).raise Ev.MOT_AT_TARGET a
    else s
  | 3 => if x.atRest then s.stopEnds a else s
  | 4 =>
    if !s.on Reg.MOT_STATUS_PACED a || s.pauseHolds a then s
    else if s.on Reg.MOT_STATUS_HOST_STOP a || s.remain a == 0 then s.wr Reg.MOT_STATUS_PACED 0 a
    else s.axisResume a
  | 5 =>
    if s.pauseHolds a then s.pauseStop a
    else if x.atRest then s.moveOn a 2 fun x => x.headFor x.target
    else s
  | 6 =>
    if x.homeStop then if x.atRest then s.stopEnds a else s
    else if (256 * s.rd Reg.MOT_HOME_MAX_STEPS a : Int) ≤ (x.set - x.homeFrom).natAbs then s.axisStop a (.fault 6)
    else s
  | _ => s

/-! ## Stall detection -/

/-- An angle brought within -180° to 180°. -/
def wrap180 (x : F64) : F64 :=
  let full := f64OfInt 360
  let half := f64OfInt 180
  let x := if f64Lt half x then f64Sub x full else x
  let x := if f64Lt half x then f64Sub x full else x
  let x := if f64Lt x (f64Neg half) then f64Add x full else x
  if f64Lt x (f64Neg half) then f64Add x full else x

/-- e_A and e_B in mV, and δ in degrees (R330). -/
def State.backEmf (s : State) (a : Nat) : F64 × F64 × F64 :=
  let x := s.axis a
  let m := x.samples
  let n := f64OfInt m.n
  let mean (i : Nat) : F64 := f64Div (f64OfInt (m.sums.getD i 0)) n
  let r := f64OfRat (s.rd Reg.MOT_MOTOR_R_MOHM a) 1000
  let l := f64OfRat (s.rd Reg.MOT_MOTOR_L_UH a) 1000000
  let t := f64OfRat (s.rd Reg.MOT_SERVO_US) 1000000
  let e (w : Nat) : F64 :=
    let di := f64OfInt (m.last.getD w 0 - m.first.getD w 0)
    f64Sub (f64Sub (mean (w + 2)) (f64Mul r (mean w))) (f64Div (f64Mul l di) t)
  let deg (y : F64) : F64 := f64Div (f64Mul y (f64OfInt 180)) f64Pi
  let thI := deg (f64Atan2 (f64Div (m.refs.getD 1 0) n) (f64Div (m.refs.getD 0 0) n))
  let thE := deg (f64Atan2 (e 1) (e 0))
  let q : Int := if 0 < x.v then 90 else if x.v < 0 then -90 else 0
  (e 0, e 1, wrap180 (f64Sub (f64Add thI (f64OfInt q)) thE))

/-- The stall test at the end of a servo period (R330, R331); MOT_DELTA and MOT_MEAS are published. -/
def State.stallTest (s : State) (a : Nat) : State :=
  let x := s.axis a
  let m := x.samples
  let s := s.onAxis a fun x => { x with samples := {} }
  let speed := x.v.natAbs
  let vmin := s.rd Reg.MOT_STALL_VMIN a * 256 * 2 ^ 96
  let vm : Int := if m.n = 0 then s.rd Reg.MOT_MEAS_VM_MV a else quot (m.sums.getD 4 0) m.n
  let s := s.wrS Reg.MOT_MEAS_VM_MV vm a
  if speed < vmin then
    (s.wr Reg.MOT_DELTA_DEG 0 a).onAxis a fun x => { x with stall := 0, stallEmf := 0 }
  else if m.n = 0 then s
  else
    let e := (s.putAxis a x).backEmf a
    let s := s.wrS Reg.MOT_DELTA_DEG ((f64Round e.2.2 8).getD 0) a
    let excess := f64Lt (f64OfInt (s.rd Reg.MOT_STALL_DEG a)) e.2.2
    let weak := f64Lt (f64Add (f64Abs e.1) (f64Abs e.2.1)) (f64Mul (f64OfRat 2 100) (f64OfInt vm))
    let n := s.rd Reg.MOT_STALL_N a
    let s := s.onAxis a fun x =>
      { x with stall := if excess then x.stall + 1 else 0, stallEmf := if weak then x.stallEmf + 1 else 0 }
    let y := s.axis a
    if s.on Reg.MOT_STALL_EN a ∧ (n ≤ y.stall ∨ n ≤ y.stallEmf) then s.axisFaultIf a 1 else s

/-! ## The servo boundary -/

/-- The set-point of this boundary (R324). -/
def State.emitSetPoint (s : State) (a : Nat) : State :=
  let st := s.axisState a
  let moves := st = 2 ∨ st = 3 ∨ st = 5 ∨ st = 6
  let x := s.axis a
  if moves then
    let y := x.advance (s.rd Reg.MOT_SERVO_US) (st != 6 || x.homeStop)
    let n := nearest y.p
    let r := s.take 1
    let s := if n.2 then r.1 else s
    let set := if n.2 && r.2 == 1 then n.1 - 1 else n.1
    let s := s.putAxis a { y with before := x.set, set := set, emitted := s.tb.ns }
    (s.putPos a).wrS Reg.MOT_VEL_VALUE (nearest y.v).1 a
  else
    (s.putAxis a { x with before := x.set, emitted := s.tb.ns }).wr Reg.MOT_VEL_VALUE 0 a

/-- The fields of the page take effect; a new HOLD shows at once on an axis in its standstill mode (R329). -/
def State.axisTake (s : State) (a : Nat) : State :=
  let f : AxisFields := {
    hold := s.rd Reg.MOT_CTL_HOLD a, reversed := s.on Reg.MOT_CTL_DIR_INV a, khz := s.rd Reg.MOT_PWM_KHZ a,
    runMa := s.rd Reg.MOT_CUR_RUN_MA a, holdMa := s.rd Reg.MOT_CUR_HOLD_MA a, iFsMa := s.rd Reg.MOT_SCALE_I_FS_MA a,
    vFsMv := s.rd Reg.MOT_SCALE_V_FS_MV a, kp := s.rd Reg.MOT_LOOP_KP a, ki := s.rd Reg.MOT_LOOP_KI a }
  let x := s.axis a
  (s.putAxis a { x with fields := f }).when (x.standby && x.fields.hold != f.hold && s.axisState a != 0) (·.standbyNow a)

/-- One axis at a boundary: set-point, stall test, the page's fields, what has waited long enough, the states (R324 to
R335). -/
def State.axisBoundary (s : State) (a : Nat) : State :=
  let s := ((s.emitSetPoint a).stallTest a).axisTake a
  let x := s.axis a
  let due := (x.waiting.filter fun e => decide (e.1 + 2000 ≤ s.tb.ns)).map (·.2)
  let s := s.putAxis a { x with waiting := x.waiting.filter fun e => !decide (e.1 + 2000 ≤ s.tb.ns) }
  if s.axisState a = 0 then
    let s := s.axisSettings a (due.filter fun c => match c with
      | .limits _ => true
      | _ => false)
    s.each due fun s c =>
      match c with
      | .target _ => s.axisRefused a
      | c => s.axisCommand a c
  else
    let st := s.axisState a
    let s := s.axisSettings a due
    let s := s.each due fun s c => s.axisCommand a c
    if s.axisState a = st then s.axisProceed a else s

/-- The fill level of a queue (R336, R361); 0 while its context is not cached. -/
def State.fillOf (s : State) (q : Nat) : Nat := ((s.queue q).map Queue.fill).getD 0

/-- A cascade leader pauses while another device wants it (R545). -/
def State.chainPause (s : State) : Bool := s.cascaded && s.leads && s.ik.chain.any fun e => e.2.pause

/-- Sheet pacing at a boundary (R336). -/
def State.sheetPace (s : State) : State :=
  let active := s.on Reg.SHEET_CTL_EN && s.on Reg.DEV_MODE_MODE
  let lead := s.rd Reg.REF_LEAD_VALUE
  let qs := (List.range 4).filter fun q => s.on Reg.SHEET_Q_VALID 0 q
  let leadOn := s.on Reg.SHEET_CTL_LEAD_EN
  if s.on Reg.SHEET_STATUS_PAUSED then
    let leadHolds := active && leadOn && decide (lead < s.rd Reg.SHEET_LEAD_GO)
    let held :=
      if active then qs.filter fun q => decide (s.rd Reg.SHEET_Q_FILL_GO 0 q < s.fillOf (s.rd Reg.SHEET_Q_QUEUE 0 q)) else []
    let s := (s.wrB Reg.SHEET_STATUS_LEAD leadHolds).wr Reg.SHEET_STATUS_QUEUES (held.foldl setBit 0)
    if leadHolds || !held.isEmpty || (active && s.chainPause) then s
    else
      (s.wr Reg.SHEET_STATUS_PAUSED 0).raise Ev.MOTC_RESUME
  else
    let short := leadOn && decide (lead < s.rd Reg.SHEET_LEAD_STOP)
    let full := qs.filter fun q => decide (s.rd Reg.SHEET_Q_FILL_STOP 0 q ≤ s.fillOf (s.rd Reg.SHEET_Q_QUEUE 0 q))
    if active && (short || !full.isEmpty || s.chainPause) then
      let s := ((s.wr Reg.SHEET_STATUS_PAUSED 1).wrB Reg.SHEET_STATUS_LEAD short).wr Reg.SHEET_STATUS_QUEUES
        (full.foldl setBit 0)
      (s.inc Reg.SHEET_PAUSES_COUNT).raise Ev.MOTC_PAUSE
    else s

/-- The servo boundary of all axes. -/
def State.servoBoundary (s : State) : State := s.sheetPace.each (List.range 8) fun s a => s.axisBoundary a

/-! ## The current loop and the auxiliary converters -/

/-- The results of one scan of converter `n`: six codes with their clip flags (R342). -/
def State.auxWrite (s : State) (n : Nat) (codes : List (Nat × Bool)) : State :=
  let seq := s.rd Reg.AUXC_RES_SEQ 0 n 0 + 1
  let s := s.each (List.range 6) fun s i =>
    let c := codes.getD i (0, false)
    let s := (s.wr Reg.AUXC_RES_CODE c.1 0 n i).wrB Reg.AUXC_RES_CLIP c.2 0 n i
    (s.wr Reg.AUXC_RES_VALID 1 0 n i).wr Reg.AUXC_RES_SEQ seq 0 n i
  let bad := (codes.getD 0 (0, false)).2 || (codes.getD 1 (0, false)).2
  let s := s.onAxis n fun x => { x with clean := !bad, clipped := if bad then x.clipped + 1 else 0 }
  s.when (codes.any fun (c : Nat × Bool) => c.2) (·.raise Ev.AUXC_CLIP)

/-- The set-point interpolated to now, within the electrical cycle (R323). -/
def State.electricalPhase (s : State) (a : Nat) : Nat :=
  let x := s.axis a
  let t := s.rd Reg.MOT_SERVO_US * 1000
  let e := min t (s.tb.ns - x.emitted)
  let sp := x.before + (x.set - x.before) * e / t
  low 10 (if x.fields.reversed then -sp else sp)

/-- `sat` in binary64. -/
def f64Sat (x lo hi : F64) : F64 := if f64Lt x lo then lo else if f64Lt hi x then hi else x

/-- The current loop of one winding (R323): reference, new integ, duty. -/
def currentLoop (amp phase : Nat) (isB : Bool) (i : Int) (kp ki khz : Nat) (integ : F64) : F64 × F64 × F64 :=
  let theta := f64Div (f64Mul (f64Mul (f64OfInt 2) f64Pi) (f64OfInt phase)) (f64OfInt 1024)
  let iref := f64Mul (f64OfInt amp) (if isB then f64Sin theta else f64Cos theta)
  let e := f64Sub iref (f64OfInt i)
  let lim := f64OfRat 95 100
  let integ := f64Sat (f64Add integ (f64Mul (f64Mul (f64OfRat ki 65536) e) (f64Div (f64OfInt 1) (f64OfInt khz)))) (f64Neg lim) lim
  (iref, integ, f64Sat (f64Add (f64Mul (f64OfRat kp 65536) e) integ) (f64Neg lim) lim)

/-- PWM_PERIOD: a PWM period of axis `a` begins: its converter scans, and the current loop sets the duties (R322, R323). -/
def pwmPeriod (a : Nat) (codes : List (Nat × Bool)) (s : State) : State :=
  if s.axisState a = 0 ∨ s.domain 6 ≠ 2 ∨ ¬ s.on Reg.TB_STATUS_LOCKED ∨ ¬ s.on Reg.AUXC_CTL_EN 0 a then s
  else
    let f := (s.axis a).fields
    let ifs : Int := f.iFsMa
    let vfs : Int := f.vFsMv
    let code (i : Nat) : Int := (codes.getD i (0, false)).1
    let amps (i : Nat) : Int := quot ((code i - 8192) * ifs) 8192
    let volts (i : Nat) : Int := quot ((code i - 8192) * vfs) 8192
    let vm := quot (code 4 * vfs) 16384
    let s := s.auxWrite a codes
    let x := s.axis a
    let mode := s.standstill a
    let loop := !x.standby || mode == 2
    let amp := if x.standby then f.holdMa else f.runMa
    let phase := s.electricalPhase a
    let ra := currentLoop amp phase false (amps 0) f.kp f.ki f.khz (x.integ.getD 0 0)
    let rb := currentLoop amp phase true (amps 1) f.kp f.ki f.khz (x.integ.getD 1 0)
    let m := x.samples
    let sums := (List.range 5).map fun i =>
      m.sums.getD i 0 + (if i < 2 then amps i else if i < 4 then volts i else vm)
    let now := [amps 0, amps 1]
    let s := s.putAxis a { x with
      integ := if loop then [ra.2.1, rb.2.1] else x.integ,
      samples := { n := m.n + 1, sums := sums,
                   refs := if loop then [f64Add (m.refs.getD 0 0) ra.1, f64Add (m.refs.getD 1 0) rb.1] else m.refs,
                   first := if m.n = 0 then now else m.first, last := now } }
    let s := if loop then
        (s.emit (.drive "MOT_DUTY_A" a ((f64Round ra.2.2 32).getD 0))).emit (.drive "MOT_DUTY_B" a ((f64Round rb.2.2 32).getD 0))
      else s
    if 16 ≤ (s.axis a).clipped then s.axisFaultIf a 3 else s

def execPwmPeriod (a : Fin 8) (codes : List (Fin 16384 × Bool)) (s : State) : Host.Outcome State Fault Refusal :=
  .next (s.powered fun s => pwmPeriod a (codes.map fun c => (c.1.val, c.2)) s)

/-- AUX_IDLE_SCAN: the converter of a DISABLED axis scans on its internal strobe (R322). -/
def auxIdleScan (n : Nat) (codes : List (Nat × Bool)) (s : State) : State :=
  if s.axisState n = 0 ∧ s.domain 6 = 2 ∧ s.on Reg.AUXC_CTL_EN 0 n then
    (s.auxWrite n codes).onAxis n fun x => { x with clipped := 0 }
  else s

def execAuxIdleScan (n : Fin 8) (codes : List (Fin 16384 × Bool)) (s : State) : Host.Outcome State Fault Refusal :=
  .next (s.powered fun s => auxIdleScan n (codes.map fun c => (c.1.val, c.2)) s)

/-- AUXC[n].CTL written: a converter switched off is SENSE on its axis (R334). -/
def State.auxCtl (s : State) (n v : Nat) : State :=
  let s := s.wr Reg.AUXC_CTL_EN v 0 n
  if v % 2 = 0 then (s.onAxis n fun x => { x with clean := false }).axisFaultIf n 3 else s

/-! ## Host commands -/

/-- The agent holds the axis: its lease, or the owner's page where no lease is active (R334, R352). -/
def State.holdsAxis (s : State) (agent a : Nat) : Bool :=
  match s.holder (64 + a) with
  | some t => t == agent
  | none => agent == 0 || decide (16 ≤ agent)

/-- A command waits for its boundary (R326). -/
def State.axisWait (s : State) (a : Nat) (c : AxisCommand) : State :=
  s.onAxis a fun x => { x with waiting := x.waiting ++ [(s.tb.ns, c)] }

/-- The axis is assigned to a Beryl port that is not OFF (R332). -/
def State.berylHolds (s : State) (a : Nat) : Bool :=
  s.rd Reg.MOT_CTL_ROLE a == 2 && s.on Reg.BR_STATUS_STATE (s.rd Reg.MOT_CTL_PORT a)

/-- A target brought within the travel (R326). -/
def State.travel (s : State) (a : Nat) (v : Int) : Int :=
  sat v (256 * s.rdS Reg.MOT_TRAVEL_MIN_STEPS a) (256 * s.rdS Reg.MOT_TRAVEL_MAX_STEPS a)

/-- A target written by the host or by Beryl. -/
def State.axisTarget (s : State) (a : Nat) (v : Int) : State :=
  let t := s.travel a v
  (s.when (decide (t ≠ v)) (·.raise Ev.MOT_LIMIT a)).axisWait a (.target t)

/-- MOT_TARGET_HI_WRITE (R326, R332). -/
def motTargetHiWrite (a v : Nat) (s : State) : State :=
  let s := s.wr Reg.MOT_TARGET_HI_VALUE v a
  if s.berylHolds a then s.axisRefused a
  else s.axisTarget a (signed 40 (s.rdPair Reg.MOT_TARGET_LO_VALUE Reg.MOT_TARGET_HI_VALUE a))

def execMotTargetHiWrite (a : Fin 8) (v : Word) (s : State) : Host.Outcome State Fault Refusal :=
  .next (s.powered fun s => motTargetHiWrite a v.toNat s)

/-- A limit register written: the five limits wait for their boundary together (R326). -/
def State.axisLimits (s : State) (a : Nat) : State :=
  s.axisWait a (.limits ([Reg.MOT_VMAX_VALUE, Reg.MOT_AMAX_VALUE, Reg.MOT_JMAX_VALUE, Reg.MOT_STOP_A_VALUE,
    Reg.MOT_STOP_J_VALUE].map fun r => s.rd r a))

/-- MOT_CTL_WRITE: the fields are stored; EN disables or enables the axis (R327). -/
def motCtlWrite (a v : Nat) (s : State) : State :=
  let s := s.hostWord (0x260 + a) 0x20 v
  let st := s.axisState a
  if !v.testBit 0 && st != 0 then
    let s := s.onAxis a fun x =>
      { x with target := x.set, p := fxOf x.set, v := 0, a := 0, pieces := [], goal := none, before := x.set,
               standby := false, stall := 0, stallEmf := 0, integ := [0, 0] }
    let s := (s.putRemain a 0).putAxisState a 0
    let s := [Reg.MOT_STATUS_HOMED, Reg.MOT_STATUS_FAULT, Reg.MOT_STATUS_PACED, Reg.MOT_STATUS_HOST_STOP,
      Reg.MOT_STATUS_AT_TARGET].foldl (fun s r => s.wr r 0 a) s
    ((s.wr Reg.MOT_VEL_VALUE 0 a).bridge a false).sourceLost (a + 4)
  else if v.testBit 0 && st == 0 then
    let s := s.onAxis a fun x => { x with target := x.set, p := fxOf x.set, clipped := 0, samples := {} }
    let s := (s.putAxisState a 1).bridge a true
    if s.on Reg.AUXC_CTL_EN 0 a then s else s.axisFault a 3
  else s

def execMotCtlWrite (a : Fin 8) (v : Word) (s : State) : Host.Outcome State Fault Refusal :=
  .next (s.powered fun s => motCtlWrite a v.toNat s)

/-- STOP: MOT_CMD.STOP waits for its boundary (R326, R327). -/
def motStop (a : Nat) (s : State) : State := s.axisWait a .stop
def execMotStop (a : Fin 8) (s : State) : Host.Outcome State Fault Refusal := .next (s.powered fun s => motStop a s)

/-- RESUME: refused on the axis of a Beryl port that is not OFF (R332), else it waits for its boundary. -/
def motResume (a : Nat) (s : State) : State := if s.berylHolds a then s.axisRefused a else s.axisWait a .resume
def execMotResume (a : Fin 8) (s : State) : Host.Outcome State Fault Refusal := .next (s.powered fun s => motResume a s)

/-- HOME (R333). -/
def motHome (a : Nat) (s : State) : State := s.axisWait a .home
def execMotHome (a : Fin 8) (s : State) : Host.Outcome State Fault Refusal := .next (s.powered fun s => motHome a s)

/-- CLEAR, with the writer's hold on the axis (R334, code 4). -/
def motClear (agent a : Nat) (s : State) : State := s.axisWait a (.clear (s.holdsAxis agent a))
def execMotClear (agent : Agent) (a : Fin 8) (s : State) : Host.Outcome State Fault Refusal :=
  .next (s.powered fun s => motClear agent a s)

/-- ZERO (R333). -/
def motZero (a : Nat) (s : State) : State := s.axisWait a .zero
def execMotZero (a : Fin 8) (s : State) : Host.Outcome State Fault Refusal := .next (s.powered fun s => motZero a s)

/-- ABORT (R327). -/
def motAbort (a : Nat) (s : State) : State := s.axisWait a .abort
def execMotAbort (a : Fin 8) (s : State) : Host.Outcome State Fault Refusal := .next (s.powered fun s => motAbort a s)

/-- MOT_STANDBY: the axis has been at rest for STBY_MS (R329). -/
def motStandby (a : Nat) (s : State) : State :=
  let st := s.axisState a
  if (st = 1 ∨ st = 4 ∨ st = 7) ∧ ¬ (s.axis a).standby then s.standbyNow a else s
def execMotStandby (a : Fin 8) (s : State) : Host.Outcome State Fault Refusal :=
  .next (s.powered fun s => motStandby a s)

/-- MOT_HOME_SWITCH: the filtered level of MOT[a]_HOME changes; asserted in HOMING it is the home position (R333). -/
def motHomeSwitch (a : Nat) (high : Bool) (s : State) : State :=
  let s := s.onAxis a fun x => { x with home := high }
  if high ∧ s.axisState a = 6 ∧ ¬ (s.axis a).homeStop then s.homeFound a else s
def execMotHomeSwitch (a : Fin 8) (high : Bool) (s : State) : Host.Outcome State Fault Refusal :=
  .next (if s.alive then motHomeSwitch a high s else
    s.onAxis a fun x => { x with home := high })

/-- MOT_BRIDGE_FAULT: the level of MOT[a]_FLT_N changes; low is fault 2 (R334). -/
def motBridgeFault (a : Nat) (high : Bool) (s : State) : State :=
  let s := s.onAxis a fun x => { x with fltN := high }
  if high then s else s.axisFaultIf a 2
def execMotBridgeFault (a : Fin 8) (high : Bool) (s : State) : Host.Outcome State Fault Refusal :=
  .next (if s.alive then motBridgeFault a high s else
    s.onAxis a fun x => { x with fltN := high })

/-- MOT_SERVO_WRITE: refused while an axis moves (R335). -/
def motServoWrite (v : Nat) (s : State) : State :=
  if (List.range 8).any fun a => [2, 3, 5, 6].contains (s.axisState a) then s.raise Ev.MOTC_SERVO_REFUSED
  else s.wr Reg.MOT_SERVO_US (Reg.MOT_SERVO_US.stored v)
def execMotServoWrite (v : Word) (s : State) : Host.Outcome State Fault Refusal :=
  .next (s.powered fun s => motServoWrite v.toNat s)

/-- MOT_PAIR_READ: the set-point, or the remaining distance, read as a pair (R339). -/
def motPairRead (agent a : Nat) (remaining : Bool) (sub width : Nat) (s : State) : State :=
  if remaining then
    s.readPair agent (0x260 + a) 0x7C sub width (s.rdPair Reg.MOT_REMAIN_LO_VALUE Reg.MOT_REMAIN_HI_VALUE a)
  else s.readPair agent (0x260 + a) 0x74 sub width (s.rdPair Reg.MOT_POS_LO_VALUE Reg.MOT_POS_HI_VALUE a)
def execMotPairRead (agent : Agent) (a : Fin 8) (remaining : Bool) (sub : Fin 4) (width : Nat) (s : State) :
    Host.Outcome State Fault Refusal := .next (s.powered fun s => motPairRead agent a remaining sub width s)

/-- REFCLK is lost: PWM stops, and code 3 follows on every axis (R335). -/
def State.motRefclkLost (s : State) : State := s.each (List.range 8) fun s a => s.axisFaultIf a 3

/-- The motion domain leaves its on state (R334, code 5). -/
def State.motDomainOff (s : State) : State := s.each (List.range 8) fun s a => s.axisFaultIf a 5

end Sys2Proof.Machine
end

