-- ==== Sys2Proof/Machine/Pfe.lean ====
section
/-!
DEFINITION. The meanings of the chapter "Precision front end" (R293 to R320): scans and their triggers, conversions,
the check step, results with their faults, pairs, ratiometric outputs, and the captured reads of results.
-/

namespace Sys2Proof.Machine

/-! ## Configuration -/

/-- The SH fields in force of page `p`. -/
def State.pageForce (s : State) (p : Nat) : Store := s.force.filter fun e => decide (e.1 / 131072 = p)

/-- The state seen under the configuration of the running scan (R312). -/
def State.pfe? (s : State) : State := { s with force := s.pfe.settings }

/-- The slot is not Off (`c`: the state under the scan's configuration, in all that follows). -/
def slotOn (c : State) (i : Nat) : Bool := c.on Reg.SLOT_MODE 0 i

/-- The step after step `k` (8: the check step, R298); `k` none: the first step. -/
def pfeStepAfter (c : State) (k : Option Nat) : Nat :=
  ((List.range 8).find? fun n =>
    (match k with
      | some m => decide (m < n)
      | none => true) && (slotOn c (2 * n) || slotOn c (2 * n + 1))).getD 8

/-- The roles that slot `i` gives to pins (R293): pin, and 0 S0, 1 S1, 2 bias; a partner's excitation is ignored. -/
def slotRoles (c : State) (i : Nat) : List (Nat × Nat) :=
  if c.rd Reg.SLOT_MODE 0 i = 0 ∨ c.rd Reg.SLOT_MODE 0 i = 3 then []
  else
    (if c.on Reg.SLOT_S0_EN 0 i then [(c.rd Reg.SLOT_S0_PIN 0 i, 0)] else []) ++
    (if c.on Reg.SLOT_S1_EN 0 i then [(c.rd Reg.SLOT_S1_PIN 0 i, 1)] else []) ++
    (if c.on Reg.SLOT_BIAS_EN 0 i then [(c.rd Reg.SLOT_BIAS 0 i, 2)] else [])

/-- The step is refused: a pin has more than one role (R293). -/
def stepRefused (c : State) (k : Nat) : Bool :=
  let l := slotRoles c (2 * k) ++ slotRoles c (2 * k + 1)
  l.any fun a => l.any fun b => a.1 == b.1 && a.2 != b.2

/-- The nominal current of a source in nA by its MAG code (R294). -/
def sourceCurrent (mag : Nat) : Nat := if mag = 7 then 1000000 else 10000 * 2 ^ mag

/-- What slot `i` drives in its step: its sources, its bias at VBIAS, and its burn-out current on POS (R294, R295). The
excitation fields of a MODE 3 slot are ignored (R297), BURN among them (DEDUCED, log 50). -/
def slotDrives (c : State) (i : Nat) : List PfeDrive :=
  let level (role : Nat) : Nat :=
    match role with
    | 0 => sourceCurrent (c.rd Reg.SLOT_S0_MAG 0 i)
    | 1 => sourceCurrent (c.rd Reg.SLOT_S1_MAG 0 i)
    | _ => 1250
  ((slotRoles c i).map fun x => { pin := x.1, source := x.2, level := level x.2 }) ++
    (if (c.rd Reg.SLOT_MODE 0 i = 1 ∨ c.rd Reg.SLOT_MODE 0 i = 2) ∧ c.on Reg.SLOT_BURN 0 i then
      [{ pin := c.rd Reg.SLOT_POS 0 i, source := 3, level := 1000 }]
    else [])

/-- What drives the crosspoint pins in step `k`: nothing in a refused step (DEDUCED, log 50), nor in the check step. -/
def stepDrives (c : State) (k : Nat) : List PfeDrive :=
  if 8 ≤ k ∨ stepRefused c k then [] else slotDrives c (2 * k) ++ slotDrives c (2 * k + 1)

/-- The name of a drive of a crosspoint pin. -/
def PfeDrive.name (d : PfeDrive) : String :=
  match d.source with
  | 0 => "S0"
  | 1 => "S1"
  | 2 => "VBIAS"
  | _ => "BURN"

/-- What stood on the crosspoint pins is switched off, and `l` is switched on (R294, R295, R299). -/
def State.pfeExcite (s : State) (l : List PfeDrive) : State :=
  let s := s.each s.pfe.drives fun s d => s.emit (.drive d.name d.pin 0)
  let s := s.each l fun s d => s.emit (.drive d.name d.pin d.level)
  { s with pfe := { s.pfe with drives := l } }

/-- The other slot of the step. -/
def partnerOf (i : Nat) : Nat := if i % 2 = 0 then i + 1 else i - 1

/-- The points of the host table. -/
def hostPoints (c : State) : List (F64 × F64) :=
  (List.range (min 32 (c.rd Reg.PFE_TABLE_N_N))).map fun k =>
    (f64OfF32 (c.rd Reg.PFE_TABLE_IN 0 k), f64OfF32 (c.rd Reg.PFE_TABLE_OUT 0 k))

/-- Curves of a thermocouple, and of a resistive sensor. -/
def isThermocouple (curve : Nat) : Bool := decide (4 ≤ curve ∧ curve ≤ 11)
def isResistive (curve : Nat) : Bool := curve == 1 || curve == 2 || curve == 3 || curve == 12 || curve == 13

/-- The slot is refused with CFG, by itself or with its step (R293, R297, R302, R304, R306). -/
def slotRefused (c : State) (i : Nat) : Bool :=
  let m := c.rd Reg.SLOT_MODE 0 i
  let pm := c.rd Reg.SLOT_MODE 0 (partnerOf i)
  let v := c.rd Reg.SLOT_CURVE 0 i
  let cj := c.rd Reg.SLOT_CJ_SLOT 0 i
  stepRefused c (i / 2) || (m == 2 && pm != 3) || (m == 3 && pm != 2) ||
    (m == 1 && isResistive v && !c.on Reg.SLOT_S0_EN 0 i) || (m == 1 && v == 14) || (m == 2 && isThermocouple v) ||
    ((m == 1 || m == 2) && v == 15 && (decide ((hostPoints c).length < 2) || !ascending (hostPoints c))) ||
    (m == 1 && isThermocouple v && c.on Reg.SLOT_CJ_EN 0 i &&
      (cj == i || !isResistive (c.rd Reg.SLOT_CURVE 0 cj) || c.rd Reg.SLOT_MODE 0 cj == 3))

/-! ## Conversion -/

/-- The code of an input in pV (R296), and whether it clipped. -/
def pfeCode (v : Int) (pga time : Nat) : PfeCode :=
  let n := v * 2 ^ (pga + 23)
  let d : Nat := 2500000000000
  let q := if 0 ≤ n then (2 * n + d) / (2 * d) else -((-2 * n + d) / (2 * d))
  { code := sat q (-8388608) 8388607, clipped := decide (n < -8388608 * d ∨ 8388607 * (d : Int) < n), time := time }

/-- Half a window in ns (R298). -/
def halfWindow (odr : Nat) : Nat :=
  match odr with
  | 0 => 500000
  | 1 => 1000000
  | 2 => 2000000
  | 3 => 5000000
  | 4 => 10000000
  | _ => 50000000

/-- The voltage of a code in volts (exact in binary64, R302). -/
def codeVolts (code : Int) (pga : Nat) : F64 := f64OfRat (code * 5) (2 ^ (pga + 24))

/-- The same in mV (exact). -/
def codeMillivolts (code : Int) (pga : Nat) : F64 := f64OfRat (code * 5000) (2 ^ (pga + 24))

/-! ## Scans -/

/-- The precision front end can scan: EN, REFCLK and its power domain (R299, R425). -/
def State.pfeReady (s : State) : Bool := s.on Reg.PFE_CTL_EN && s.on Reg.TB_STATUS_LOCKED && s.domain 5 == 2

/-- The code of an output (R310), FAULT with it. -/
def State.putAo (s : State) (n code : Nat) (fault : Bool) : State :=
  let was := s.on Reg.AO_FAULT 0 n
  let s := (s.wr Reg.AO_CODE code 0 n).wrB Reg.AO_FAULT fault 0 n
  let s := s.emit (.drive "AO" n (code % 4096))
  s.when (fault && !was) (·.raise Ev.PFE_AO_FAULT)

/-- The fault level of an output. -/
def aoFaultLevel (c : State) (n : Nat) : Nat := if c.on Reg.AO_FAULT_HIGH 0 n then 4014 else 82

/-- The mapping of R310, with a free value where binary64 gives no number. -/
def aoCode (v : Int) (lo hi : F64) (free : Nat) : Nat :=
  let x := f64Div (f64Mul (f64Sub (f64OfRat v 65536) lo) (f64OfInt 3768)) (f64Sub hi lo)
  if f64IsNaN x then 164 + free % 3769
  else
    match f64Round x 0 with
    | some r => (sat (164 + r) 164 3932).toNat
    | none => if x.testBit 63 then 164 else 3932

/-- The source of an output: its value, and whether it is faulted; a source without a value counts as faulted. -/
def State.aoSource (s : State) (pair : Bool) (n : Nat) : Int × Bool :=
  if pair then
    if 8 ≤ n then (0, true)
    else (s.rdS Reg.PAIR_VALUE 0 n, s.on Reg.PAIR_FAULT 0 n || !s.on Reg.PAIR_VALID 0 n)
  else
    (s.rdS Reg.RES_VALUE 0 n,
     !s.on Reg.RES_VALID 0 n || [Reg.RES_OVR, Reg.RES_OPEN, Reg.RES_RANGE, Reg.RES_CHECK, Reg.RES_PAIR, Reg.RES_CJC,
       Reg.RES_CFG, Reg.RES_RATIO].any fun r => s.on r 0 n)

/-- One output brought up to date under the configuration of the last scan (R310). -/
def State.aoEval (s : State) (n : Nat) : State :=
  let c := s.pfe?
  let lo := f64OfF32 (c.rd Reg.AO_LO 0 n)
  let hi := f64OfF32 (c.rd Reg.AO_HI 0 n)
  match c.rd Reg.AO_KIND 0 n with
  | 0 => s.putAo n (aoFaultLevel c n) true
  | 3 => s.putAo n (s.rd Reg.AO_HOST 0 n) false
  | k =>
    let v := s.aoSource (k == 2) (c.rd Reg.AO_SRC 0 n)
    if v.2 || lo == hi then s.putAo n (aoFaultLevel c n) true
    else
      let r := s.take 32
      r.1.putAo n (aoCode v.1 lo hi r.2) false

/-- A scan starts: the configuration is taken, the first step runs (R298, R312). -/
def State.pfeStart (s : State) : State :=
  let s := { s with pfe := { s.pfe with settings := s.pageForce 0x240, codes := [], check := none } }
  let k := pfeStepAfter s.pfe? none
  let s := ((s.wr Reg.PFE_STATUS_BUSY 1).wr Reg.PFE_STATUS_STEP k).pfeExcite (stepDrives s.pfe? k)
  s.each ((List.range 8).filter fun n => s.pfe?.rd Reg.AO_KIND 0 n = 0 ∨ s.pfe?.rd Reg.AO_KIND 0 n = 3)
    fun s n => s.aoEval n

/-- A trigger: a scan starts, or the trigger is held or discarded with OVERRUN (R299). -/
def State.pfeTrigger (s : State) : State :=
  if s.on Reg.PFE_STATUS_BUSY then ({ s with pfe := { s.pfe with held := true } }).raise Ev.PFE_OVERRUN
  else s.pfeStart

/-- The scan in progress is abandoned (R299): EN 0 in force, REFCLK lost, or the domain draining (R426). The sources are
switched off. -/
def State.pfeAbandon (s : State) : State :=
  let s := s.pfeExcite []
  let s := { s with pfe := { s.pfe with held := false, codes := [], check := none } }
  (s.wr Reg.PFE_STATUS_BUSY 0).wr Reg.PFE_STATUS_STEP 0

/-- PFE_SCAN_TIMER: a periodic scan is due (R299). -/
def pfeScanTimer (s : State) : State :=
  if s.pfeReady && !s.on Reg.PFE_CTL_TRIG then s.pfeTrigger else s

def execPfeScanTimer (s : State) : Host.Outcome State Fault Refusal := .next (s.powered fun s => pfeScanTimer s)

/-- PFE_GO: a write of PFE_CMD (R299). -/
def pfeGo (v : Nat) (s : State) : State :=
  if v.testBit 0 && s.pfeReady && s.on Reg.PFE_CTL_TRIG then s.pfeTrigger else s

def execPfeGo (v : Word) (s : State) : Host.Outcome State Fault Refusal := .next (s.powered fun s => pfeGo v.toNat s)

/-- PFE_STEP_END: the window of the step in progress ends, with the averages of both converters' inputs in pV (R296 to
R298, R300): what the step drove is switched off, and the next step's settling begins. -/
def pfeStepEnd (va vb : Int) (s : State) : State :=
  if !s.on Reg.PFE_STATUS_BUSY || s.pfe.check.isSome then s
  else
    let c := s.pfe?
    let k := s.rd Reg.PFE_STATUS_STEP
    let time := s.tb.ns - halfWindow (c.rd Reg.PFE_CTL_ODR)
    if k = 8 then { s with pfe := { s.pfe with check := some ((pfeCode va 0 time).code, (pfeCode vb 0 time).code) } }
    else
      let one (s : State) (x : Nat × Int) : State :=
        if slotOn c x.1 && !stepRefused c k then
          { s with pfe := { s.pfe with codes := tput x.1 (pfeCode x.2 (c.rd Reg.SLOT_PGA 0 x.1) time) s.pfe.codes } }
        else s
      let next := pfeStepAfter c (some k)
      ((one (one s (2 * k, va)) (2 * k + 1, vb)).wr Reg.PFE_STATUS_STEP next).pfeExcite (stepDrives c next)

def execPfeStepEnd (va vb : Int) (s : State) : Host.Outcome State Fault Refusal :=
  .next (s.powered fun s => pfeStepEnd va vb s)

/-! ## Results -/

/-- The fault bits of a result but PAIR, and all of them (R307). -/
def slotFaultRows : List Row :=
  [Reg.RES_OVR, Reg.RES_OPEN, Reg.RES_RANGE, Reg.RES_CHECK, Reg.RES_CJC, Reg.RES_CFG, Reg.RES_RATIO]
def State.slotFaultedBut (s : State) (i : Nat) : Bool := slotFaultRows.any fun r => s.on r 0 i
def State.slotFaulted (s : State) (i : Nat) : Bool := s.slotFaultedBut i || s.on Reg.RES_PAIR 0 i

/-- OVR and OPEN of one conversion of slot `i`; `burn` and `src`: the burn-out current and a source were on (R307). -/
def clipFaults (x : PfeCode) (burn src : Bool) : Bool × Bool :=
  let opened := x.clipped && x.code == 8388607 && (burn || src)
  (x.clipped && !opened, opened)

/-- The input quantity of R302 put through the curve (R304); `tcj`: the cold junction in 15.16. -/
def slotConvert (c : State) (i : Nat) (own part : PfeCode) (tcj : Int) : Quantity :=
  let m := c.rd Reg.SLOT_MODE 0 i
  let v := c.rd Reg.SLOT_CURVE 0 i
  let g := c.rd Reg.SLOT_PGA 0 i
  let va := codeVolts own.code g
  let mv := codeMillivolts own.code g
  let vb := codeVolts part.code (c.rd Reg.SLOT_PGA 0 (partnerOf i))
  let p0 := f64OfF32 (c.rd Reg.SLOT_P0 0 i)
  let p1 := f64OfF32 (c.rd Reg.SLOT_P1 0 i)
  let p2 := f64OfF32 (c.rd Reg.SLOT_P2 0 i)
  let p3 := f64OfF32 (c.rd Reg.SLOT_P3 0 i)
  let mag := c.rd Reg.SLOT_S0_MAG 0 i
  let amps := f64OfRat (sourceCurrent mag) 1000000000
  let ohms := if m = 2 then f64Div (f64Mul p0 va) vb else f64Div va amps
  let ratio := f64Div va vb
  if v = 0 ∨ v = 15 then
    let q := if m = 2 then ratio else mv
    if v = 0 then linearCurve p1 p2 q else hostTable (hostPoints c) q
  else if v = 14 then linearCurve p1 p2 (f64Div mv vb)
  else if v = 12 then thermistorBeta p1 p2 p3 ohms
  else if v = 13 then steinhartHart p1 p2 p3 ohms
  else if isThermocouple v then
    let t := fixRat tcj 65536
    let span := typeSpan v
    if t < fixOf span.1 ∨ fixOf span.2 < t then { value := none, range := none }
    else curveInverse v (fixOfF64 mv + typeE v t)
  else if f64IsNaN ohms then { value := none, range := none }
  else if !f64Finite ohms then
    { value := some (65536 * (if ohms.testBit 63 then (curveRange v).1 else (curveRange v).2)), range := some true }
  else curveInverse v (fixOfF64 ohms)

/-- A quantity stored in a slot's VALUE and RANGE; what the manual leaves open takes a free value. -/
def State.putQuantity (s : State) (i : Nat) (q : Quantity) : State :=
  let r := s.take 34
  let s := if q.value.isNone || q.other.isSome || q.range.isNone then r.1 else s
  let v : Int :=
    match q.value, q.other with
    | none, _ => r.2 / 4
    | some a, none => a
    | some a, some b => if r.2 % 2 = 0 then a else b
  (s.wrS Reg.RES_VALUE v 0 i).wrB Reg.RES_RANGE (q.range.getD (r.2 / 2 % 2 == 1)) 0 i

/-- A slot's cold junction: 0 °C, or the result of the slot that it names (R306). -/
def State.coldJunction (s : State) (i : Nat) : Int :=
  let c := s.pfe?
  if c.on Reg.SLOT_CJ_EN 0 i then s.rdS Reg.RES_VALUE 0 (c.rd Reg.SLOT_CJ_SLOT 0 i) else 0

/-- The cold junction of a slot is faulted, or has had no result since reset (R306, R313). -/
def State.coldFaulted (s : State) (i : Nat) : Bool :=
  let c := s.pfe?
  let j := c.rd Reg.SLOT_CJ_SLOT 0 i
  c.on Reg.SLOT_CJ_EN 0 i && (s.slotFaulted j || !s.on Reg.RES_VALID 0 j)

/-- Slot `i` is a thermocouple that measures. -/
def isCoupleSlot (c : State) (i : Nat) : Bool :=
  c.rd Reg.SLOT_MODE 0 i == 1 && isThermocouple (c.rd Reg.SLOT_CURVE 0 i)

/-- The result of one slot that is not Off (R301 to R307). `failA`, `failB`: the converters that failed the check. -/
def State.slotResult (failA failB : Bool) (s : State) (i : Nat) : State :=
  let c := s.pfe?
  let m := c.rd Reg.SLOT_MODE 0 i
  let clear (s : State) : State :=
    s.each (Reg.RES_PAIR :: slotFaultRows) fun s r => s.wr r 0 0 i
  let s := ((clear s).wr Reg.RES_VALID 1 0 i).wr Reg.RES_SEQ (s.rd Reg.PFE_SCANS_COUNT) 0 i
  match tfind i s.pfe.codes with
  | none => s.wr Reg.RES_CFG 1 0 i
  | some own =>
    if slotRefused c i then s.wr Reg.RES_CFG 1 0 i
    else
      let j := partnerOf i
      let part := tget {} s.pfe.codes j
      let src := c.on Reg.SLOT_S0_EN 0 (if m = 3 then j else i) || c.on Reg.SLOT_S1_EN 0 (if m = 3 then j else i)
      let f := clipFaults own (m != 3 && c.on Reg.SLOT_BURN 0 i) src
      let g := if m = 2 then clipFaults part false src else (false, false)
      let fail (x : Nat) : Bool := if x % 2 = 0 then failA else failB
      let s := (s.wrS Reg.RES_RAW own.code 0 i).wr Reg.RES_TIME own.time 0 i
      let s := { s with pfe := { s.pfe with times := sput s.pfe.times i own.time } }
      let s := (s.wrB Reg.RES_OVR (f.1 || g.1) 0 i).wrB Reg.RES_OPEN (f.2 || g.2) 0 i
      let s := s.wrB Reg.RES_CHECK (fail i || (m == 2 && fail j)) 0 i
      if m = 2 ∧ part.code.natAbs < 64 then s.wr Reg.RES_RATIO 1 0 i
      else if m = 3 then s.putQuantity i (quantityOf (codeMillivolts own.code (c.rd Reg.SLOT_PGA 0 i)))
      else
        let s := s.putQuantity i (slotConvert c i own part (s.coldJunction i))
        s.wrB Reg.RES_CJC (isCoupleSlot c i && s.coldFaulted i) 0 i

/-- The enabled pairs that are not refused (R308), ascending: a pair that names a slot twice, or a slot of an earlier
one, is refused. -/
def pairsTaken (c : State) : List (Nat × Nat × Nat) :=
  (List.range 8).foldl (fun l p =>
    let a := c.rd Reg.PAIR_A 0 p
    let b := c.rd Reg.PAIR_B 0 p
    let used (x : Nat) : Bool := l.any fun (e : Nat × Nat × Nat) => e.2.1 == x || e.2.2 == x
    if !c.on Reg.PAIR_EN 0 p || a == b || used a || used b then l else l ++ [(p, a, b)]) []

/-- One pair evaluated (R308). -/
def State.pairEval (s : State) (x : Nat × Nat × Nat) : State :=
  let c := s.pfe?
  let p := x.1
  let fa := s.slotFaultedBut x.2.1
  let fb := s.slotFaultedBut x.2.2
  let a := s.rdS Reg.RES_VALUE 0 x.2.1
  let b := s.rdS Reg.RES_VALUE 0 x.2.2
  let excess := !fa && !fb && decide ((c.rd Reg.PAIR_TOL 0 p : Int) < (a - b).natAbs)
  let miss := if excess then satAdd 8 (s.rd Reg.PAIR_MISS 0 p) 1 else 0
  let dis := excess && decide (c.rd Reg.PAIR_COUNT 0 p ≤ miss)
  let was := s.pfe.disagree.contains p
  let s := { s with pfe := { s.pfe with disagree := s.pfe.disagree.filter (· != p) ++ (if dis then [p] else []) } }
  let s := s.wr Reg.PAIR_MISS miss 0 p
  let s := s.wrB Reg.PAIR_DEGRADED (fa != fb) 0 p
  let s := s.wrB Reg.PAIR_FAULT (dis || (fa && fb)) 0 p
  let mark (s : State) (i : Nat) : State := if slotOn c i then s.wrB Reg.RES_PAIR dis 0 i else s
  let s := mark (mark s x.2.1) x.2.2
  let s := s.when (dis && !was) (·.raise Ev.PFE_PAIR_FAULT)
  if dis || (fa && fb) then s
  else
    (s.wrS Reg.PAIR_VALUE (if fa then b else if fb then a else rnd (a + b) 1) 0 p).wr Reg.PAIR_VALID 1 0 p

/-- The write of R301 and what it tells. -/
def State.pfeResults (s : State) (ca cb : Int) : State :=
  let c := s.pfe?
  let tol : Int := c.rd Reg.PFE_CHECK_TOL
  let da := ca - 4194304
  let db := cb - 4194304
  let apart := decide (tol < (ca - cb).natAbs)
  let failA := decide (tol < da.natAbs) || apart
  let failB := decide (tol < db.natAbs) || apart
  let slots := (List.range 16).filter (slotOn c)
  let before := slots.filter s.slotFaulted
  let s := (s.inc Reg.PFE_SCANS_COUNT).wrS Reg.PFE_CHK_A_DEV da
  let s := (s.wrS Reg.PFE_CHK_B_DEV db).when (failA || failB) (·.raise Ev.PFE_CHECK_FAIL)
  let couples := slots.filter (isCoupleSlot c)
  let pairs := pairsTaken c
  let late (x : Nat × Nat × Nat) : Bool := isCoupleSlot c x.2.1 || isCoupleSlot c x.2.2
  let s := s.each (slots.filter fun i => !isCoupleSlot c i) (State.slotResult failA failB)
  let s := s.each (pairs.filter fun x => !late x) State.pairEval
  let s := s.each couples (State.slotResult failA failB)
  let s := s.each (pairs.filter late) State.pairEval
  let s := s.each (couples.filter fun i => !s.on Reg.RES_CFG 0 i) fun s i =>
    s.when (s.coldFaulted i) (·.wr Reg.RES_CJC 1 0 i)
  let s := { s with pfe := { s.pfe with disagree := s.pfe.disagree.filter fun p => pairs.any fun x => x.1 == p } }
  let s := s.when (slots.any fun i => s.slotFaulted i && !before.contains i) (·.raise Ev.PFE_RESULT_FAULT)
  let refused := decide (pairs.length < ((List.range 8).filter fun p => c.on Reg.PAIR_EN 0 p).length)
  let s := s.when (refused || slots.any fun i => s.on Reg.RES_CFG 0 i) (·.raise Ev.PFE_CFG_REFUSED)
  s.raise Ev.PFE_SCAN_DONE

/-- The end of a scan: the results are written, and the scan that a held trigger asked for starts (R299, R301). -/
def State.pfeScanEnd (s : State) : State :=
  match s.pfe.check with
  | none => s
  | some x =>
    let s := s.pfeResults x.1 x.2
    let held := s.pfe.held
    let s := s.pfeAbandon
    if held && s.pfeReady then s.pfeStart else s

/-! ## Outputs and reads -/

/-- AO_UPDATE: output `n` follows the results (R310). -/
def aoUpdate (n : Nat) (s : State) : State := if s.domain 5 = 2 then s.aoEval n else s

def execAoUpdate (n : Fin 8) (s : State) : Host.Outcome State Fault Refusal := .next (s.powered fun s => aoUpdate n s)

/-- A write of AO_OUT.HOST takes effect at once on an output of KIND 3 (R310, R312). -/
def State.aoHost (s : State) (n v : Nat) : State :=
  let s := s.wr Reg.AO_HOST v 0 n
  if s.pfe?.rd Reg.AO_KIND 0 n = 3 then s.aoEval n else s

/-- AO_REF_LOW: the reference of output `n` fell below 0.9 V (R311). -/
def aoRefLow (n : Nat) (s : State) : State := (s.wr Reg.AO_REF_LOW 1 0 n).raise Ev.PFE_AO_REF_LOW

def execAoRefLow (n : Fin 8) (s : State) : Host.Outcome State Fault Refusal := .next (s.powered fun s => aoRefLow n s)

/-- RES_VALUE_READ: a read of RES[i].VALUE captures RAW, STATUS and TIME for the agent (R317). -/
def resValueRead (agent i sub width : Nat) (s : State) : State :=
  let o := 0x300 + 0x10 * i
  let low (s : State) : State × Nat :=
    let t := s.capture agent 0x240 (o + 4) (s.storedWord 0x240 (o + 4))
    let t := t.capture agent 0x240 (o + 8) (s.storedWord 0x240 (o + 8))
    (t.capture agent 0x240 (o + 12) (s.storedWord 0x240 (o + 12)), s.storedWord 0x240 o)
  s.readAccess agent 0x240 o sub width low fun s => (s, s.captured agent 0x240 (o + 4))

def execResValueRead (agent : Agent) (i : Fin 16) (sub : Fin 4) (width : Nat) (s : State) :
    Host.Outcome State Fault Refusal := .next (s.powered fun s => resValueRead agent i sub width s)

end Sys2Proof.Machine
end

