-- ==== Sys2Proof/Machine/Beryl.lean ====
section
/-!
DEFINITION. The meanings of the chapter "Beryl thermal imaging" (R262 to R292): frames and their acceptance, array
temperature and serial port, tables and their window, pixel correction and temperatures, shutter recalibration, the
mapping into web coordinates, thermal items and regions, snapshots and direct reads.
-/

namespace Sys2Proof.Machine

/-! ## Ports -/

def State.port (s : State) (p : Nat) : BrPort := tget {} s.beryl.ports p

def State.putPort (s : State) (p : Nat) (x : BrPort) : State :=
  { s with beryl := { s.beryl with ports := tput p x s.beryl.ports } }

def State.onPort (s : State) (p : Nat) (f : BrPort → BrPort) : State := s.putPort p (f (s.port p))

/-- BR_STATUS.STATE: 0 OFF, 1 WAIT_SYNC, 2 RUN, 3 NO_SYNC, 4 CLOSING, 5 CLOSED, 6 OPENING, 7 SHUT_FAULT. -/
def State.portState (s : State) (p : Nat) : Nat := s.rd Reg.BR_STATUS_STATE p

/-- The state seen under the settings of the port's frame (R267). -/
def State.br? (s : State) (p : Nat) : State := { s with force := (s.port p).settings }

/-- Geometry as committed: it waits for the next enabling (R267). -/
def State.brGeomNext (s : State) (p : Nat) : List Nat :=
  [s.rd Reg.BR_GEOM_COLS p, s.rd Reg.BR_GEOM_ROWS p, s.rd Reg.BR_CTL_INTERLEAVE p, s.rd Reg.BR_POOL_BASE p,
   s.rd Reg.BR_POOL_GSETS p]

/-- Geometry: that of the enabling, or the committed one while the port is OFF. -/
def State.brGeom (s : State) (p : Nat) : List Nat := if s.portState p = 0 then s.brGeomNext p else (s.port p).geom
def State.brCols (s : State) (p : Nat) : Nat := (s.brGeom p).getD 0 0
def State.brRows (s : State) (p : Nat) : Nat := (s.brGeom p).getD 1 0
def State.brSets (s : State) (p : Nat) : Nat := (s.brGeom p).getD 4 0 + 1

/-- Blocks of the tables (R268). -/
def tableBlocks (g : List Nat) : Nat := (g.getD 0 0 * g.getD 1 0 * (4 + 2 * (g.getD 4 0 + 1)) + 4095) / 4096

/-- The status bits that follow from other state: DUE, DRIFT_UNCORR (R279), the ports that wait (R276). -/
def State.brShow (s : State) (p : Nat) : State :=
  let x := s.port p
  let due := x.due.isSome
  let valid := (s.br? p).on Reg.BR_SHUT_CTL_AXIS_VALID p
  let drift := s.portState p != 0 && (!x.passed || x.failed || (due && !valid))
  let s := (s.wrB Reg.BR_STATUS_DUE due p).wrB Reg.BR_STATUS_DRIFT_UNCORR drift p
  s.wr Reg.BR_ACC_WAITING (((List.range 4).filter fun q => (s.port q).due.isSome && s.rd Reg.BR_ACC_OWNER != q).foldl setBit 0)

def State.putPortState (s : State) (p st : Nat) : State := s.wr Reg.BR_STATUS_STATE st p

/-! ## The shutter axis (R277, R332) -/

/-- The axis of the port's settings. -/
def State.brAxis (s : State) (p : Nat) : Nat := (s.br? p).rd Reg.BR_SHUT_CTL_AXIS p

/-- The axis is assigned to the port. -/
def State.brAssigned (s : State) (p : Nat) : Bool :=
  let a := s.brAxis p
  s.rd Reg.MOT_CTL_ROLE a == 2 && s.rd Reg.MOT_CTL_PORT a == p

/-- A position is commanded, if the axis is assigned. -/
def State.brCommand (s : State) (p : Nat) (closed : Bool) : State :=
  let c := s.br? p
  let pos := if closed then c.rdS Reg.BR_SHUT_CLOSED_POS p else c.rdS Reg.BR_SHUT_OPEN_POS p
  let s := s.onPort p fun x => { x with position := pos, reported := false }
  if s.brAssigned p then s.axisTarget (s.brAxis p) pos else s

/-- The axis stands at the position commanded last, with nothing waiting. -/
def State.brAtPosition (s : State) (p : Nat) : Bool :=
  let a := s.brAxis p
  let x := s.axis a
  s.brAssigned p && s.axisState a == 1 && s.on Reg.MOT_STATUS_AT_TARGET a &&
    x.target == s.travel a (s.port p).position && x.set == x.target &&
    !(x.waiting.any fun e => match e.2 with
      | .target _ => true
      | _ => false)

/-- The axis fails: not assigned, in FAULT, or its lease has been revoked (R277, R289). -/
def State.brAxisFails (s : State) (p : Nat) : Bool :=
  !s.brAssigned p || s.axisState (s.brAxis p) == 7 || (s.axis (s.brAxis p)).waiting.any fun e => e.2 == .revoke

/-- An attempt ends with an outcome (R277): 1 PASS, 2 AXIS_CLOSE, 3 AXIS_OPEN, 4 SYNC, 5 ABORTED. -/
def State.recalEnd (s : State) (p outcome : Nat) : State :=
  let pass := outcome = 1
  let s := s.wr Reg.BR_STATUS_OUTCOME outcome p
  let s := if s.rd Reg.BR_ACC_OWNER = p then s.wr Reg.BR_ACC_OWNER 7 else s
  let s := s.onPort p fun x =>
    { x with failed := !pass, retry := if pass then x.retry else s.tb.ns + 1000000000 * s.rd Reg.BR_SHUT_INT_RETRY_S p,
             acc := [], summed := 0, settled := 0, taSum := 0, tsh := [] }
  (s.raise (if pass then Ev.BR_RECAL_DONE else Ev.BR_RECAL_FAIL) p).brShow p

/-- OPENING: OPEN_POS is commanded; an axis that is not assigned fails at once (R277). -/
def State.brOpening (s : State) (p : Nat) : State :=
  let s := (s.putPortState p 6).brCommand p false
  if s.brAxisFails p then ((s.recalEnd p 3).putPortState p 7).raise Ev.BR_SHUT_FAULT p else s

/-- The axis fails in CLOSING, CLOSED or OPENING. -/
def State.brAxisFailure (s : State) (p : Nat) : State :=
  match s.portState p with
  | 4 => (s.recalEnd p 2).brOpening p
  | 5 => (s.recalEnd p 2).brOpening p
  | 6 => ((s.recalEnd p 3).putPortState p 7).raise Ev.BR_SHUT_FAULT p
  | _ => s

/-- The shutter is confirmed open. -/
def State.brConfirm (s : State) (p : Nat) : State :=
  (s.onPort p fun x => { x with confirmed := true }).wr Reg.BR_STATUS_OPEN_CONF 1 p

/-- SETTLE frames have started since the axis reported at OPEN_POS (R277). -/
def State.brOpenSettled (s : State) (p : Nat) : State :=
  if s.portState p = 6 ∧ (s.port p).reported ∧ (s.br? p).rd Reg.BR_SHUT_CTL_SETTLE p ≤ (s.port p).settled then
    ((s.brConfirm p).putPortState p 2).onPort p fun x => { x with settled := 0 }
  else s

/-- What the axis reports is acted on (R277). -/
def State.brAxisStep (s : State) (p : Nat) : State :=
  let st := s.portState p
  if st ≠ 4 ∧ st ≠ 5 ∧ st ≠ 6 then s
  else if s.brAxisFails p then s.brAxisFailure p
  else
    let there := s.brAtPosition p
    match st with
    | 4 => if there then (s.putPortState p 5).onPort p fun x => { x with settled := 0, summed := 0, acc := [], taSum := 0, tsh := [] }
      else s
    | 5 => if there then s else s.brAxisFailure p
    | _ =>
      if there && !(s.port p).reported then
        let s := s.onPort p fun x => { x with reported := true, settled := 0 }
        if (s.port p).silent then ((s.brConfirm p).putPortState p 3).raise Ev.BR_SYNC_LOST p
        else s.brOpenSettled p
      else s

/-- All ports learn of their axes. -/
def State.brAxes (s : State) : State := s.each (List.range 4) fun s p => s.brAxisStep p

/-! ## Enabling (R267, R268, R277) -/

/-- The first block of the tables of a geometry, and the one after its last. -/
def blocksOf (g : List Nat) : Nat × Nat := (g.getD 3 0, g.getD 3 0 + tableBlocks g)

/-- The enabling is refused: its tables go beyond the pool, or overlap those of a port whose EN is 1 in force (R268). -/
def State.brRefused (s : State) (p : Nat) : Bool :=
  let b := blocksOf (s.brGeomNext p)
  decide (4992 < b.2) || (List.range 4).any fun q =>
    q != p && (s.port q).en &&
      (let d := blocksOf (s.port q).geom
       decide (b.1 < d.2 ∧ d.1 < b.2))

/-- The recalibration becomes due (R275). -/
def State.brDue (s : State) (p : Nat) : State :=
  (s.onPort p fun x => { x with due := some (x.due.getD s.tb.ns) }).brShow p

/-- EN takes effect as 1, and with it the geometry: the port starts, unless R268 refuses (R267, R277). -/
def State.brEnable (s : State) (p : Nat) : State :=
  let refused := s.brRefused p
  let s := s.onPort p fun x => { x with en := true, geom := s.brGeomNext p }
  if refused then s.raise Ev.BR_CFG_REFUSED p
  else
    let s := s.onPort p fun x =>
      { x with settings := s.pageForce (0x200 + p), frame := none, lsyncs := none, passed := false, confirmed := false,
               failed := false, silent := false, taFresh := false, items := [], clipped := [] }
    let s := ((s.putPortState p 1).wr Reg.BR_FRAMES_COUNT 0 p).wr Reg.BR_STATUS_OPEN_CONF 0 p
    (s.brDue p).emit (.pin "BR_MCLK" p true)

/-- The port goes OFF. -/
def State.brDisable (s : State) (p : Nat) : State :=
  let st := s.portState p
  if st = 0 then s
  else
    let s := if st = 4 ∨ st = 5 then s.recalEnd p 5 else s
    let s := if s.on Reg.BR_STATUS_OPEN_CONF p || !(s.br? p).on Reg.BR_SHUT_CTL_AXIS_VALID p then s else s.brCommand p false
    let s := if (s.beryl.snapReq.map (·.1)) = some p then
        { s with beryl := { s.beryl with snapReq := none } }.wr Reg.BR_SNAP_BUSY 0
      else s
    let s := (s.onPort p fun x => { x with frame := none }).putPortState p 0
    (s.emit (.pin "BR_MCLK" p false)).brShow p

/-- BR_CTL.EN as committed takes effect at an FSYNC (R267): a change to 1 enables the port, 0 takes it OFF. -/
def State.brTakeEn (s : State) (p : Nat) : State :=
  if s.on Reg.BR_CTL_EN p then if (s.port p).en then s else s.brEnable p
  else (s.onPort p fun x => { x with en := false }).brDisable p

/-- BERYL is ON again: each port with EN 1 starts (R426). -/
def State.brLit (s : State) : State :=
  s.each (List.range 4) fun s p => if s.on Reg.BR_CTL_EN p then s.brEnable p else s

/-! ## Tables (R268 to R270) -/

/-- Halfword index of entry `i` of plane `plane` in the pool. -/
def State.brIndex (s : State) (p plane i : Nat) : Nat :=
  (s.brGeom p).getD 3 0 * 2048 + plane * (s.brCols p * s.brRows p) + i

/-- An entry of a plane (0 offset, 1 drift and flags, 2 + j gain set j). -/
def State.brEntry (s : State) (p plane i : Nat) : Nat :=
  sget s.beryl.pool (s.brIndex p plane i) (if 2 ≤ plane then 0x4000 else 0)

def State.putBrEntry (s : State) (p plane i v : Nat) : State :=
  { s with beryl := { s.beryl with pool := tput (s.brIndex p plane i) (v % 65536) s.beryl.pool } }

/-- Size in bytes of an image (R270). -/
def State.brImageSize (s : State) (p image : Nat) : Nat :=
  if image < 2 + s.brSets p ∧ image < 6 then 2 * (s.brCols p * s.brRows p)
  else if image = 6 then 1572864 else if image = 7 then 4096 else 0

/-- A word of an image. -/
def State.brImageWord (s : State) (p image byte : Nat) : Nat :=
  if image < 6 then s.brEntry p image (byte / 2) + s.brEntry p image (byte / 2 + 1) <<< 16
  else if image = 6 then
    if s.on Reg.BR_SNAP_VALID ∧ s.rd Reg.BR_SNAP_PORT = p then
      s.beryl.snap.getD (byte / 2) 0 + s.beryl.snap.getD (byte / 2 + 1) 0 <<< 16
    else 0
  else sget (s.port p).rad (byte / 4)

/-- The byte of the image that word `w` of the window stands for, and its advance at the last word (R162). -/
def State.brXferByte (s : State) (p w : Nat) : Nat := 2048 * s.rd Reg.BR_XFER_ADDR_ADDR p + 4 * w
def State.brXferAdvance (s : State) (p w : Nat) : State :=
  s.when (w == 511) fun t => t.wr Reg.BR_XFER_ADDR_ADDR (t.rd Reg.BR_XFER_ADDR_ADDR p + 1) p

/-- A read of word `w` of the window. -/
def brXferRead (p w : Nat) (s : State) : State × Nat :=
  let image := s.rd Reg.BR_XFER_IMAGE_IMAGE p
  let b := s.brXferByte p w
  if s.brImageSize p image ≤ b then ((s.raise Ev.BR_XFER_RANGE p).brXferAdvance p w, 0)
  else (s.brXferAdvance p w, s.brImageWord p image b)

/-- A write of word `w` of the window: stored while the port is OFF, else refused (R270). -/
def brXferWrite (p w v : Nat) (s : State) : State :=
  let image := s.rd Reg.BR_XFER_IMAGE_IMAGE p
  let b := s.brXferByte p w
  let s' :=
    if s.brImageSize p image ≤ b then s.raise Ev.BR_XFER_RANGE p
    else if image = 6 ∨ s.portState p ≠ 0 then s.raise Ev.BR_XFER_REFUSED p
    else if image = 7 then s.onPort p fun x => { x with rad := sput x.rad (b / 4) (v % 2 ^ 24) }
    else (s.putBrEntry p image (b / 2) v).putBrEntry p image (b / 2 + 1) (v / 65536)
  s'.brXferAdvance p w

/-- XFER_WINDOW_ACCESS: an access to the window of the Opal aperture (none) or of a Beryl port (R162, R270): a read or
a write of `width` bytes at byte `sub` of word `w`. -/
def windowAccess (agent : Nat) (port : Option Nat) (w sub width : Nat) (value : Option Nat) (s : State) : State :=
  match port with
  | none => xferWindowAccess agent w sub width value s
  | some p =>
    let o := 0x800 + 4 * w
    match value with
    | none =>
      s.readAccess agent (0x200 + p) o sub width (brXferRead p w)
        (if w = 511 then fun t => (t, 0) else brXferRead p (w + 1))
    | some v =>
      s.storeAccess agent (0x200 + p) o sub width v (brXferWrite p w) fun v t =>
        if w = 511 then t else brXferWrite p (w + 1) v t

def execXferWindowAccess (agent : Agent) (port : Option (Fin 4)) (w : Fin 512) (sub : Fin 4) (width : Nat)
    (value : Option (BitVec 64)) (s : State) : Host.Outcome State Fault Refusal :=
  .next (s.powered fun s => windowAccess agent (port.map (·.val)) w sub width (value.map (·.toNat)) s)

/-! ## Array temperature and serial port (R265, R266) -/

/-- A transaction goes out on the serial port. -/
def State.brSend (s : State) (p word : Nat) : State :=
  let bits := s.rd Reg.BR_SPI_CTL_LEN p + 1
  s.emit (.spi p bits (word % 2 ^ bits))

/-- Thermal trigger of R275. -/
def State.brThermal (s : State) (p : Nat) : State :=
  let d := (s.rdS Reg.BR_TA_VALUE p - s.rdS Reg.BR_CAL_TS p).natAbs
  if s.on Reg.BR_CTL_RECAL_AUTO p && decide ((s.br? p).rd Reg.BR_SHUT_CTL_DELTA p * 16 < d) then s.brDue p else s

/-- A new array temperature. -/
def State.brTa (s : State) (p : Nat) (ta : Int) : State :=
  let s := (s.wrS Reg.BR_TA_VALUE ta p).wr Reg.BR_TA_VALID 1 p
  (s.onPort p fun x => { x with taFresh := true }).brThermal p

/-- The port asks for its own temperature read. -/
def State.brAskTa (s : State) (p : Nat) : State :=
  let c := s.br? p
  if c.on Reg.BR_CTL_TSRC p then
    let r := c.rd Reg.BR_RADIO_A_TA_RES p
    if s.on Reg.RES_VALID 0 r then s.brTa p (signed 16 (low 16 (rnd (s.rdS Reg.RES_VALUE 0 r) 8))) else s
  else if (s.port p).tempBusy || (s.port p).tempWaits then s
  else if s.on Reg.BR_SPI_CTL_BUSY p then s.onPort p fun x => { x with tempWaits := true }
  else (s.onPort p fun x => { x with tempBusy := true }).brSend p (c.rd Reg.BR_TEMP_CMD_WORD p)

/-- ARRAY_TEMPERATURE_READ: the port's own serial read ends with the received word `w` (R265, R266). -/
def arrayTemperatureRead (p w : Nat) (s : State) : State :=
  if !(s.port p).tempBusy then s
  else
    let c := s.br? p
    let v : Int := w % 65536
    let ta := sat (rnd ((v - c.rd Reg.BR_TEMP_T_OFF p) * c.rd Reg.BR_TEMP_T_GAIN p) 12) (-32768) 32767
    let s := s.onPort p fun x => { x with tempBusy := false }
    let s := if s.portState p = 0 then s else s.brTa p ta
    if (s.port p).hostWaits then
      (s.onPort p fun x => { x with hostWaits := false }).brSend p (s.rd Reg.BR_SPI_TX_VALUE p)
    else s

def execArrayTemperatureRead (p : Fin 4) (w : Word) (s : State) : Host.Outcome State Fault Refusal :=
  .next (s.powered fun s => arrayTemperatureRead p w.toNat s)

/-- BERYL_SPI_GO: a write of BR_SPI_CTL; GO starts a transaction unless one is in progress (R265). -/
def berylSpiGo (p v : Nat) (s : State) : State :=
  let s := s.hostWord (0x200 + p) 0x98 v
  if !v.testBit 31 || s.on Reg.BR_SPI_CTL_BUSY p then s
  else
    let s := s.wr Reg.BR_SPI_CTL_BUSY 1 p
    if (s.port p).tempBusy then s.onPort p fun x => { x with hostWaits := true }
    else s.brSend p (s.rd Reg.BR_SPI_TX_VALUE p)

def execBerylSpiGo (p : Fin 4) (v : Word) (s : State) : Host.Outcome State Fault Refusal :=
  .next (s.powered fun s => berylSpiGo p v.toNat s)

/-- SPI_DONE: the host's transaction ends with the received bits (R265); the port's own read that waited goes out. -/
def spiDone (p rx : Nat) (s : State) : State :=
  if !s.on Reg.BR_SPI_CTL_BUSY p || (s.port p).hostWaits then s
  else
    let s := (s.wr Reg.BR_SPI_RX_VALUE (rx % 2 ^ (s.rd Reg.BR_SPI_CTL_LEN p + 1)) p).wr Reg.BR_SPI_CTL_BUSY 0 p
    let s := s.raise Ev.BR_SPI_DONE p
    if (s.port p).tempWaits then
      (s.onPort p fun x => { x with tempWaits := false, tempBusy := true }).brSend p ((s.br? p).rd Reg.BR_TEMP_CMD_WORD p)
    else s

def execSpiDone (p : Fin 4) (rx : Word) (s : State) : Host.Outcome State Fault Refusal :=
  .next (s.powered fun s => spiDone p rx.toNat s)

/-- The front end has written its results: ports that take Ta from it and have none for this frame refresh it (R266). -/
def State.brFrontEnd (s : State) : State :=
  s.each (List.range 4) fun s p =>
    if s.portState p ≠ 0 ∧ (s.br? p).on Reg.BR_CTL_TSRC p ∧ ¬ (s.port p).taFresh then s.brAskTa p else s

/-! ## Correction and temperature (R271 to R273) -/

/-- A corrected pixel. -/
structure BrPixel where
  k : Int := 0
  t : Int := 0
  range : Bool := false
  clip : Bool := false
  exclude : Bool := false
  deriving DecidableEq

/-- The gain of pixel `i` at Ta, or that of the first set where there was no valid Ta (R266, R271). -/
def State.brGain (s : State) (p i : Nat) (ta : Option Int) : Int :=
  let c := s.br? p
  let rows := [Reg.BR_GTEMP_A_SET0, Reg.BR_GTEMP_A_SET1, Reg.BR_GTEMP_B_SET2, Reg.BR_GTEMP_B_SET3]
  match ta with
  | none => s.brEntry p 2 i
  | some ta =>
    let sets := ((List.range (s.brSets p)).map fun j =>
      (c.rdS (rows.getD j Reg.BR_GTEMP_A_SET0) p, j)).mergeSort fun a b => decide (a.1 ≤ b.1)
    let m := mixAt (sets.map (·.1)) ta
    let g (n : Nat) : Int := s.brEntry p (2 + (sets.getD n (0, 0)).2) i
    mixValue (g m.1) (g m.2.1) m.2.2

/-- The corrected count of pixel `i` of a frame (R271). -/
def State.brCount (s : State) (p i : Nat) (f : BrFrame) (code : Nat) : Int :=
  let ta := f.ta.getD 0
  let dt := ta - s.rdS Reg.BR_CAL_TS p
  let drift := signed 8 (s.brEntry p 1 i)
  let o := (s.brEntry p 0 i : Int) + rnd (drift * dt) 10
  sat (rnd ((4 * (code : Int) - o) * s.brGain p i (if f.taValid then some ta else none)) 14) (-32768) 32767

/-- `n / d` rounded half away from zero. -/
def roundDiv (n : Int) (d : Nat) : Int := if 0 ≤ n then (2 * n + d) / (2 * d) else -((-2 * n + d) / (2 * d))

/-- Replacement along a row (R272): `above` the row before as replaced, `own` this row's own counts, `bad` by column:
the REPL of a BAD pixel. -/
def replaceRow (above own : List Int) (bad : List (Option Nat)) : List Int :=
  let n := own.length
  ((List.range n).foldl (fun (done : List Int) u =>
    let mine := own.getD u 0
    let k :=
      match bad.getD u none with
      | none => mine
      | some r =>
        let left := if u = 0 then mine else done.headD mine
        let right := if u + 1 < n then own.getD (u + 1) 0 else mine
        let up (x : Int) : Int := if above.isEmpty ∨ x < 0 ∨ (n : Int) ≤ x then mine else above.getD x.toNat 0
        match r with
        | 0 => left
        | 1 => right
        | 2 => up u
        | 3 => up ((u : Int) - 1)
        | 4 => up ((u : Int) + 1)
        | 5 => rnd (left + right) 1
        | 6 => rnd (left + up u) 1
        | _ => roundDiv (left + right + up u) 3
    k :: done) []).reverse

/-- rad_of (R273). -/
def State.radOf (s : State) (p : Nat) (t : Int) : Int :=
  let c := s.br? p
  let lo := c.rdS Reg.BR_RADIO_B_RT_MIN p
  let step : Int := max 1 (c.rd Reg.BR_RADIO_C_RT_STEP p)
  let t := sat t lo (lo + 1022 * step)
  let i := ((t - lo) / step).toNat
  let f := (t - lo) % step
  let r (n : Nat) : Int := sget (s.port p).rad n
  r i + quot ((r (i + 1) - r i) * f + step / 2) step

/-- Temperature of a count, and RANGE (R273). -/
def State.brTemp (s : State) (p : Nat) (k : Int) : Int × Bool :=
  let c := s.br? p
  let lo := c.rdS Reg.BR_RADIO_B_RT_MIN p
  let step : Int := max 1 (c.rd Reg.BR_RADIO_C_RT_STEP p)
  let eps : Int := if c.rd Reg.BR_RADIO_A_EPS p = 0 then 0x8000 else c.rd Reg.BR_RADIO_A_EPS p
  let lsc := s.radOf p (s.rdS Reg.BR_CAL_TSH_CAL p) + rnd (k * c.rd Reg.BR_RESP_VALUE p) 16
  let lobj := quot (lsc * 2 ^ 15 - (0x8000 - eps) * s.radOf p (c.rdS Reg.BR_RADIO_B_T_REFL p)) eps
  let r (n : Nat) : Int := sget (s.port p).rad n
  if lobj ≤ r 0 then (lo, true)
  else if r 1023 ≤ lobj then (lo + 1023 * step, true)
  else
    let i := ((List.range 1023).find? fun i => decide (r i ≤ lobj ∧ lobj < r (i + 1))).getD 0
    let d := r (i + 1) - r i
    (lo + i * step + quot ((lobj - r i) * step + d / 2) d, false)

/-- The pixels of a frame, row by row (R271 to R273). -/
def State.brPixels (s : State) (p : Nat) (f : BrFrame) : List (List BrPixel) :=
  let cols := s.brCols p
  let rows := f.rows.reverse.zipIdx
  (rows.foldl (fun (acc : List (List BrPixel) × List Int) row =>
    let base := row.2 * cols
    let own := row.1.samples.zipIdx.map fun x => s.brCount p (base + x.2) f x.1.1
    let flags := (List.range cols).map fun u => s.brEntry p 1 (base + u)
    let ks := replaceRow acc.2 own (flags.map fun w => if w.testBit 11 then some (bitsOf w 8 3) else none)
    let px := ks.zipIdx.map fun x =>
      let t := s.brTemp p x.1
      { k := x.1, t := t.1, range := t.2, clip := (row.1.samples.getD x.2 (0, false)).2,
        exclude := (flags.getD x.2 0).testBit 12 : BrPixel }
    (px :: acc.1, ks)) ([], [])).1.reverse

/-! ## Mapping (R280, R281) -/

/-- The homography's X and D in 1/16 (R280); none: unmapped. -/
def State.brMap (s : State) (p u v : Nat) : Option (Int × Int) :=
  let c := s.br? p
  let h (j : Nat) : Int := c.rdS Reg.BR_H_VALUE p j
  let w := h 6 * u + h 7 * v + h 8
  if w ≤ 0 then none
  else
    let x := (h 0 * u + h 1 * v) * 2 ^ 8 + h 2 * 2 ^ 20
    let d := (h 3 * u + h 4 * v) * 2 ^ 8 + h 5 * 2 ^ 20
    some (roundDiv (16 * x) w.toNat, roundDiv (16 * d) w.toNat)

/-- The mid-exposure line of time `t` in 1/16, and EXTRAP (R281): the history is the newest 4,096 lines of the run. -/
def State.brLineOf (s : State) (t : Int) : Option Int × Bool :=
  if !s.running then (none, false)
  else
    let newest := s.lt.line - 1
    let oldest := s.lt.line - 4096
    let time (k : Nat) : Int := (s.line k).time
    match ((List.range (s.lt.line - oldest)).reverse.map (oldest + ·)).find? fun k => decide (time k ≤ t) with
    | none => (none, false)
    | some k =>
      if k < newest then
        let dt := time (k + 1) - time k
        (some (16 * k + min 16 (quot (16 * (t - time k) + dt / 2) dt)), false)
      else if k = 0 ∨ k = oldest then (none, true)
      else
        let dt := time k - time (k - 1)
        (some (16 * k + min 16 (quot (16 * (t - time k) + dt / 2) dt)), true)

/-- Web coordinates of pixel (u, v) of a row: x and y; none: unmapped. -/
def State.brPlace (s : State) (p u v : Nat) (row : BrRow) : Option (Int × Int) :=
  row.y16.bind fun y => (s.brMap p u v).map fun m => (asr (m.1 + 8) 4, asr (y - m.2 + 8) 4)

/-! ## Items (R282, R283) -/

/-- Lines at which the grid changed in this run. -/
def State.gridChanges (s : State) : List Nat :=
  (s.epochs.map (·.line)).filter fun y => decide (0 < y) && gridOf (s.atLine (y - 1)).rd != gridOf (s.atLine y).rd

/-- The thermal item at (x, y), without counts; none in the gutter or where its entry is not VALID. -/
def State.brItemAt (s : State) (changes : List Nat) (x y : Int) : Option BrItem :=
  if x < 0 ∨ y < 0 ∨ (s.cascadeLast s : Int) < x then none
  else
    let g := gridOf (s.atLine y.toNat).rd
    (g.itemAt y.toNat x.toNat).bind fun i =>
      let start := g.y0 + i.1 * g.repeat_ + i.2.1 * g.rowPitch
      let from_ := ((changes.filter fun (c : Nat) => decide ((c : Int) ≤ y)).foldl max start)
      let upto := changes.filter fun (c : Nat) => decide (y < (c : Int))
      let last := upto.foldl (fun (m c : Nat) => min m (c - 1)) (start + g.itemH - 1)
      let cfg := s.atLine from_
      let e := i.2.1 * g.cols + i.2.2
      if cfg.itemField Reg.ITEM_VALID e = 0 then none
      else
        some { id := g.id i.1 i.2.1 i.2.2, first := from_, last := last, queue := cfg.itemField Reg.ITEM_QUEUE e,
               trunc := decide (last < start + g.itemH - 1) }

/-- Two descriptions of the same item. -/
def BrItem.same (a b : BrItem) : Bool := a.id == b.id && a.first == b.first

/-- One counted sample added (R282, R283). -/
def BrItem.count1 (i : BrItem) (t x y hot cold : Int) : BrItem :=
  let newMax := i.count = 0 ∨ i.tMax < t
  { i with count := i.count + 1, sum := i.sum + t, squares := i.squares + t.natAbs * t.natAbs,
           tMin := if i.count = 0 ∨ t < i.tMin then t else i.tMin, tMax := if newMax then t else i.tMax,
           maxX := if newMax then x.toNat else i.maxX, maxY := if newMax then y.toNat else i.maxY,
           hot := i.hot + (decide (hot < t)).toNat, cold := i.cold + (decide (t < cold)).toNat }

/-- Two counts of one item joined: `b` comes after `a`. -/
def BrItem.join (a b : BrItem) : BrItem :=
  if a.count = 0 then { b with last := min a.last b.last, trunc := a.trunc || b.trunc }
  else
    let newMax := decide (a.tMax < b.tMax)
    { a with count := a.count + b.count, sum := a.sum + b.sum, squares := a.squares + b.squares,
             tMin := min a.tMin b.tMin, tMax := max a.tMax b.tMax, maxX := if newMax then b.maxX else a.maxX,
             maxY := if newMax then b.maxY else a.maxY, hot := a.hot + b.hot, cold := a.cold + b.cold,
             last := min a.last b.last, trunc := a.trunc || b.trunc, frames := a.frames + b.frames,
             drift := a.drift || b.drift, stale := a.stale || b.stale, extrap := a.extrap || b.extrap,
             range := a.range || b.range, clip := a.clip || b.clip,
             gens := a.gens ++ b.gens.filter fun g => !a.gens.contains g }

/-- Mean and deviation of R242 on 1/64 K (R283). -/
def thermalMean (n : Nat) (sum : Int) : Int := if n = 0 then 0 else quot (sum + n / 2) n
def thermalSd (n : Nat) (sum : Int) (squares : Nat) : Nat :=
  if n = 0 then 0 else min 65535 (isqrt ((n * squares - (sum * sum).toNat) / (n * n)))

/-- The thermal item record (R283). -/
def BrItem.words (i : BrItem) (p time : Nat) : List Nat :=
  let sat32 (n : Nat) : Nat := min n 0xFFFFFFFF
  recordWords 16
    [(0, 0, 8, 0x29), (0, 8, 8, 1), (0, 16, 2, p), (0, 18, 1, i.drift.toNat), (0, 19, 1, i.stale.toNat),
     (0, 20, 1, i.extrap.toNat), (0, 21, 1, i.range.toNat), (0, 22, 1, i.clip.toNat), (0, 23, 1, i.trunc.toNat),
     (0, 24, 1, (decide (1 < i.gens.length)).toNat), (4, 0, 32, i.id), (8, 0, 32, i.first),
     (0xC, 0, 16, i.first / 2 ^ 32), (0xC, 16, 16, min 65535 i.frames), (0x10, 0, 32, i.last),
     (0x14, 0, 16, i.last / 2 ^ 32), (0x18, 0, 32, sat32 i.count), (0x1C, 0, 16, low 16 (thermalMean i.count i.sum)),
     (0x1C, 16, 16, thermalSd i.count i.sum i.squares), (0x20, 0, 16, low 16 i.tMin), (0x20, 16, 16, low 16 i.tMax),
     (0x24, 0, 32, sat32 i.hot), (0x28, 0, 32, sat32 i.cold), (0x2C, 0, 20, i.maxX), (0x30, 0, 32, i.maxY),
     (0x34, 0, 16, i.maxY / 2 ^ 32), (0x38, 0, 32, i.gens.getLast?.getD 0), (0x3C, 0, 32, time)]

/-- An item closes: its record is staged (R283). -/
def State.brCloseItem (s : State) (p time : Nat) (i : BrItem) : State :=
  s.stage true { queue := i.queue, kind := 3, words := i.words p time, port := p }

/-- All open items of a port close with TRUNC; TIME_LO has no closing frame and takes a free value (R282). -/
def State.brTruncate (s : State) (p : Nat) : State :=
  let l := (s.port p).items
  let s := s.onPort p fun x => { x with items := [], clipped := [] }
  s.each l fun s i =>
    let r := s.take 32
    r.1.brCloseItem p r.2 { i with trunc := true }

/-- A frame whose rows no line history maps (R281, R289). -/
def BrFrame.unmap (f : BrFrame) : BrFrame :=
  { f with rows := f.rows.map fun r => { r with y16 := none, extrap := false } }

/-- The run stops: open items close with TRUNC, and the line history is emptied, so that the frame in progress is unmapped
(R289). -/
def State.brRunStop (s : State) : State :=
  s.each (List.range 4) fun s p => (s.brTruncate p).onPort p fun x => { x with frame := x.frame.map BrFrame.unmap }

/-- The counts of a frame by item, in raster order of their first pixel; a clipped pixel marks its item. -/
def State.brFrameItems (s : State) (p : Nat) (f : BrFrame) (px : List (List BrPixel)) : List BrItem :=
  let c := s.br? p
  let hot := c.rdS Reg.BR_THRESH_HOT_T p
  let cold := c.rdS Reg.BR_THRESH_COLD_T p
  let changes := s.gridChanges
  let drift := s.on Reg.BR_STATUS_DRIFT_UNCORR p
  let stale := s.on Reg.BR_STATUS_TSH_STALE p
  let rows := f.rows.reverse
  px.zipIdx.foldl (fun l row =>
    let r := rows.getD row.2 {}
    row.1.zipIdx.foldl (fun l e =>
      let q := e.1
      if q.exclude then l
      else
        match (s.brPlace p e.2 row.2 r).bind fun xy => (s.brItemAt changes xy.1 xy.2).map fun i => (xy, i) with
        | none => l
        | some (xy, i) =>
          let old := (l.find? fun o => o.same i).getD
            { i with frames := 1, drift := drift, stale := stale, gens := [f.gen] }
          let new := if q.clip then { old with clip := true }
            else { old.count1 q.t xy.1 xy.2 hot cold with extrap := old.extrap || r.extrap, range := old.range || q.range }
          if l.any fun o => o.same i then l.map fun o => if o.same i then new else o else l ++ [new]) l) []

/-- The counts of a frame are committed to the open items; a clipped pixel is remembered for an item that opens later
(R271, R282). -/
def State.brCommitItems (s : State) (p : Nat) (l : List BrItem) : State :=
  s.each l fun s i =>
    let items := (s.port p).items
    let add (o : BrItem) : BrItem :=
      if !o.same i then o else if i.count = 0 then { o with clip := o.clip || i.clip } else o.join i
    let clipped := (s.port p).clipped.any fun o => o.same i
    if items.any (fun o => o.same i) then s.onPort p fun x => { x with items := x.items.map add }
    else if i.count = 0 then if clipped then s else s.onPort p fun x => { x with clipped := x.clipped ++ [i] }
    else if 256 ≤ items.length then (s.incSat Reg.BR_DROP_OVERFLOW p).raise Ev.BR_ITEM_OVERFLOW p
    else s.onPort p fun x => { x with items := x.items ++ [{ i with clip := i.clip || clipped }],
                                      clipped := x.clipped.filter fun o => !o.same i }

/-- Open items whose last line lies before the least mapped y close; a grid change since shortens the others (R282,
R289). -/
def State.brCloseItems (s : State) (p time : Nat) (least : Option Int) : State :=
  let changes := s.gridChanges
  let cut (i : BrItem) : BrItem :=
    changes.foldl (fun i c => if i.first < c ∧ c ≤ i.last then { i with last := c - 1, trunc := true } else i) i
  let items := (s.port p).items.map cut
  let done (i : BrItem) : Bool := match least with
    | none => false
    | some y => decide ((i.last : Int) < y)
  let s := s.onPort p fun x => { x with items := items.filter fun i => !done i,
                                        clipped := x.clipped.filter fun i => !done (cut i) }
  s.each (items.filter done) fun s i => s.brCloseItem p time i

/-! ## Regions (R284) -/

/-- The region records after a frame. -/
def State.brRegions (s : State) (p : Nat) (f : BrFrame) (px : List (List BrPixel)) : State :=
  let c := s.br? p
  let frame := s.rd Reg.BR_FRAMES_COUNT p
  if !c.on Reg.BR_CTL_REGION_EN p || frame % max 1 (c.rd Reg.BR_TIMING_EVERY p) ≠ 0 then s
  else
    let rows := f.rows.reverse
    s.each ((List.range 16).filter fun r => c.on Reg.BR_REG_EN p r) fun s r =>
      let u0 := c.rd Reg.BR_REG_U0 p r
      let v0 := c.rd Reg.BR_REG_V0 p r
      let u1 := c.rd Reg.BR_REG_U1 p r
      let v1 := c.rd Reg.BR_REG_V1 p r
      let inside := ((px.take (v1 + 1)).drop v0).flatMap fun row => (row.take (u1 + 1)).drop u0
      let some_ := inside.filter fun q => !q.exclude
      let counted := some_.filter fun q => !q.clip
      let i := counted.foldl (fun (i : BrItem) q =>
        i.count1 q.t 0 0 (c.rdS Reg.BR_THRESH_HOT_T p) (c.rdS Reg.BR_THRESH_COLD_T p)) {}
      let row := rows.getD ((v0 + v1) / 2) {}
      let line := ((row.y16.getD 0 + 8).toNat) / 16
      let free := s.take 32
      let s := if i.count = 0 then free.1 else s
      let tMin := if i.count = 0 then free.2 % 65536 else low 16 i.tMin
      let tMax := if i.count = 0 then free.2 / 65536 else low 16 i.tMax
      let words := recordWords 16
        [(0, 0, 8, 0x2A), (0, 8, 8, 1), (0, 16, 2, p), (0, 18, 4, r), (0, 22, 1, f.shutter.toNat),
         (0, 23, 1, s.rd Reg.BR_STATUS_DRIFT_UNCORR p), (0, 24, 1, s.rd Reg.BR_STATUS_TSH_STALE p),
         (0, 25, 1, (counted.any fun q => q.range).toNat), (0, 26, 1, (some_.any fun q => q.clip).toNat),
         (0, 27, 1, row.y16.isNone.toNat), (4, 0, 16, c.rd Reg.BR_REG_ID p r), (8, 0, 32, frame), (0xC, 0, 32, i.count),
         (0x10, 0, 16, low 16 (thermalMean i.count i.sum)), (0x10, 16, 16, thermalSd i.count i.sum i.squares),
         (0x14, 0, 16, tMin), (0x14, 16, 16, tMax), (0x18, 0, 32, i.hot), (0x1C, 0, 32, i.cold),
         (0x20, 0, 32, if row.y16.isNone then 0 else line), (0x24, 0, 16, if row.y16.isNone then 0 else line / 2 ^ 32),
         (0x28, 0, 32, f.gen), (0x2C, 0, 32, f.time), (0x30, 0, 32, f.time / 2 ^ 32), (0x34, 0, 16, low 16 (f.ta.getD 0)),
         (0x34, 16, 16, s.rd Reg.BR_CAL_TSH_CAL p)]
      s.stage (c.on Reg.BR_Q_VALID p) { queue := c.rd Reg.BR_Q_QUEUE p, kind := 4, words := words, port := p }

/-! ## Recalibration (R274, R278) -/

/-- The accumulated frames end: new offsets, TS, TSH_CAL (R274, R278). -/
def State.brPass (s : State) (p log : Nat) : State :=
  let x := s.port p
  let s := s.each x.acc.zipIdx fun s e => s.putBrEntry p 0 e.2 (sat (rnd e.1 log) 0 65535).toNat
  let tshCal : Int :=
    if x.tsh.isEmpty then x.lastTsh.getD ((s.br? p).rdS Reg.BR_RADIO_B_T_REFL p) else roundDiv x.tsh.sum x.tsh.length
  let s := (s.wrS Reg.BR_CAL_TS (rnd x.taSum log) p).wrS Reg.BR_CAL_TSH_CAL tshCal p
  let s := (s.wr Reg.BR_CAL_TIME_S (s.tb.ns / 1000000000) p).wrB Reg.BR_STATUS_TSH_STALE x.tsh.isEmpty p
  let s := s.when x.tsh.isEmpty (·.raise Ev.BR_TSH_STALE p)
  let s := s.onPort p fun x => { x with passed := true, due := none }
  (s.recalEnd p 1).brOpening p

/-- An accepted frame in CLOSED settles or is accumulated (R277, R278). -/
def State.brClosedFrame (s : State) (p : Nat) (f : BrFrame) : State :=
  let c := s.br? p
  let x := s.port p
  if x.settled < c.rd Reg.BR_SHUT_CTL_SETTLE p then s.onPort p fun x => { x with settled := x.settled + 1 }
  else
    let samples := f.rows.reverse.flatMap (·.samples)
    let acc := samples.zipIdx.map fun e => x.acc.getD e.2 0 + 4 * e.1.1
    let s := s.when (samples.any fun e => e.2) (·.raise Ev.BR_RECAL_CLIP p)
    let log := c.rd Reg.BR_SHUT_CTL_AVG_LOG p
    let s := s.onPort p fun x =>
      { x with acc := acc, summed := x.summed + 1, taSum := x.taSum + f.ta.getD 0, tsh := x.tsh ++ f.tsh.toList,
               lastTsh := if f.tsh.isSome then f.tsh else x.lastTsh }
    if (s.port p).summed = 2 ^ log then s.brPass p log else s

/-- The shutter temperature for a frame that starts at `time`, if it is current (R274). -/
def State.brShutterTemp (s : State) (p time : Nat) : Option Int :=
  let r := (s.br? p).rd Reg.BR_RADIO_A_TSH_RES p
  let t := sget s.pfe.times r
  if s.on Reg.RES_VALID 0 r && !s.slotFaulted r && decide (time ≤ t + 1000000 * s.rd Reg.BR_RADIO_C_TSH_MAX_AGE p) then
    some (rnd (s.rdS Reg.RES_VALUE 0 r) 10)
  else none

/-! ## Frames (R263, R286) -/

/-- The frame in progress is discarded; `lost`: by a full buffer (R286). -/
def State.brDiscard (s : State) (p : Nat) (lost : Bool) : State :=
  let s := s.onPort p fun x => { x with frame := none }
  if lost then (s.incSat Reg.BR_ERR_FRAME_LOST p).raise Ev.BR_FRAME_LOST p
  else (s.incSat Reg.BR_ERR_SYNC_ERRS p).raise Ev.BR_SYNC_ERR p

/-- The snapshot is copied (R287). -/
def State.brSnapshot (s : State) (p : Nat) (px : List (List BrPixel)) : State :=
  match s.beryl.snapReq with
  | some (q, kind) =>
    if q ≠ p then s
    else
      let data := px.flatten.map fun e => low 16 (if kind = 0 then e.k else e.t)
      let s := { s with beryl := { s.beryl with snapReq := none, snap := data } }
      let s := ((s.wr Reg.BR_SNAP_PORT p).wr Reg.BR_SNAP_KIND kind).wr Reg.BR_SNAP_VALID 1
      ((s.wr Reg.BR_SNAP_BUSY 0).wr Reg.BR_SNAP_FRAME_COUNT (s.rd Reg.BR_FRAMES_COUNT p)).raise Ev.BR_SNAP_DONE p
  | none => s

/-- An accepted frame ends: its contributions are committed (R263, R277, R282 to R287). -/
def State.brFrameEnd (s : State) (p : Nat) (f : BrFrame) : State :=
  let s := s.onPort p fun x => { x with frame := none }
  let s := s.inc Reg.BR_FRAMES_COUNT p
  let st := s.portState p
  let s := if st = 1 ∨ st = 3 then s.putPortState p 2 else s
  let px := s.brPixels p f
  let rows := f.rows.reverse
  let places := (List.range (s.brRows p)).flatMap fun v =>
    (List.range (s.brCols p)).map fun u => s.brPlace p u v (rows.getD v {})
  let unmapped := (places.filter fun e => e.isNone).length
  let least := places.foldl (fun (m : Option Int) e =>
    match m, e with
    | none, some xy => some xy.2
    | some a, some xy => some (min a xy.2)
    | m, none => m) none
  let s := s.inc Reg.BR_NOMAP_COUNT p 0 unmapped
  let s := if f.shutter || !(s.br? p).on Reg.BR_CTL_ITEM_EN p then s else s.brCommitItems p (s.brFrameItems p f px)
  let s := s.brCloseItems p f.time least
  let s := (s.brRegions p f px).brSnapshot p px
  let s := if s.portState p = 5 ∧ f.inClosed then s.brClosedFrame p f else s
  if s.portState p = 6 ∧ f.opened then (s.onPort p fun x => { x with settled := x.settled + 1 }).brOpenSettled p else s

/-- The frame in progress has all its rows (R263). -/
def State.brComplete (s : State) (p : Nat) : Option BrFrame :=
  (s.port p).frame.filter fun f => f.rows.length == s.brRows p

/-- BERYL_FRAME_END's part of the port: the complete frame ends. -/
def State.brEndFrame (s : State) (p : Nat) : State :=
  match s.brComplete p with
  | some f => s.brFrameEnd p f
  | none => s

/-- The settings of a frame are taken; a change during CLOSED restarts the accumulation (R267, R289). -/
def State.brSettle (s : State) (p : Nat) : State :=
  let new := s.pageForce (0x200 + p)
  let changed := new != (s.port p).settings
  (s.onPort p fun x =>
    if changed && s.portState p == 5 then
      { x with settings := new, settled := 0, summed := 0, acc := [], taSum := 0, tsh := [] }
    else { x with settings := new }).brShow p

/-- BERYL_FSYNC: the frame before ends or is discarded, EN and the settings take effect, a frame starts (R263, R266,
R267). -/
def State.brFsync (s : State) (p : Nat) : State :=
  if s.domain 4 ≠ 2 then s
  else
    let s := s.brEndFrame p
    let s := if (s.port p).frame.isSome then s.brDiscard p false else s
    let s := s.brTakeEn p
    if s.portState p = 0 then s
    else
      let s := s.brSettle p
      let st := s.portState p
      let x := s.port p
      let f : BrFrame :=
        { time := s.tb.ns, gen := s.rd Reg.DEV_GEN_GEN,
          shutter := decide (4 ≤ st) || (st == 2 && !x.confirmed), inClosed := st == 5,
          opened := st == 6 && x.reported, tsh := if st = 5 then s.brShutterTemp p s.tb.ns else none }
      let s := s.onPort p fun x => { x with frame := some f, silent := false, taFresh := false, lsyncs := some 0 }
      let s := s.each [2 * p, 2 * p + 1] fun s n =>
        match sget s.beryl.arm n with
        | 1 => { s with beryl := { s.beryl with arm := sput s.beryl.arm n 2 } }
        | 2 => { s with beryl := { s.beryl with arm := sput s.beryl.arm n 0 } }
        | _ => s
      s.brAskTa p

def berylFsync (p : Nat) (s : State) : State := s.brFsync p

/-! ## Direct reads (R288) -/

/-- A video converter captures a code. -/
def State.bvcCapture (s : State) (n : Nat) (c : Nat × Bool) : State :=
  let s := s.wrB Reg.BVC_DATA_OVERRUN (s.on Reg.BVC_DATA_OVERRUN 0 n || s.on Reg.BVC_DATA_VALID 0 n) 0 n
  ((s.wr Reg.BVC_DATA_CODE c.1 0 n).wrB Reg.BVC_DATA_CLIP c.2 0 n).wr Reg.BVC_DATA_VALID 1 0 n

/-- The samples of row `v` since the newest FSYNC pass converter `n` (modes 1 and 2). -/
def State.bvcRow (s : State) (n : Nat) (v : Option Nat) (l : List (Nat × Bool)) : State :=
  match s.rd Reg.BVC_CTL_MODE 0 n with
  | 1 =>
    if sget s.beryl.arm n = 2 ∧ v = some (s.rd Reg.BVC_AT_V 0 n) ∧ s.rd Reg.BVC_AT_S 0 n < l.length then
      ({ s with beryl := { s.beryl with arm := sput s.beryl.arm n 0 } }).bvcCapture n
        (l.getD (s.rd Reg.BVC_AT_S 0 n) (0, false))
    else s
  | 2 => s.each l fun s c => s.bvcCapture n c
  | _ => s

/-- BVC[n].CTL written: mode 1 waits for the next frame. -/
def State.bvcCtl (s : State) (n v : Nat) : State :=
  { s.wr Reg.BVC_CTL_MODE v 0 n with beryl := { s.beryl with arm := sput s.beryl.arm n (if v % 4 = 1 then 1 else 0) } }

/-- BVC_FREE_CONVERT: mode 3's internal strobe. -/
def bvcFreeConvert (n : Nat) (c : Nat × Bool) (s : State) : State :=
  if s.rd Reg.BVC_CTL_MODE 0 n = 3 ∧ s.domain 4 = 2 then s.bvcCapture n c else s

def execBvcFreeConvert (n : Fin 8) (code : Fin 16384) (clip : Bool) (s : State) : Host.Outcome State Fault Refusal :=
  .next (s.powered fun s => bvcFreeConvert n (code.val, clip) s)

/-- BVC_DATA_READ: the fields, with VALID and OVERRUN cleared. -/
def bvcDataRead (agent n sub width : Nat) (s : State) : State :=
  let o := 0x28 + 0x10 * n
  s.readAccess agent 0x220 o sub width
    (fun s => ((s.wr Reg.BVC_DATA_VALID 0 0 n).wr Reg.BVC_DATA_OVERRUN 0 0 n, s.storedWord 0x220 o)) fun s => (s, 0)

def execBvcDataRead (agent : Agent) (n : Fin 8) (sub : Fin 4) (width : Nat) (s : State) :
    Host.Outcome State Fault Refusal := .next (s.powered fun s => bvcDataRead agent n sub width s)

/-! ## Rows -/

/-- The samples by column: interleaved from both outputs, or output 0 alone (R264). -/
def mergeSamples (interleave : Bool) (cols : Nat) (a b : List (Nat × Bool)) : Option (List (Nat × Bool)) :=
  if interleave then
    if a.length < cols / 2 ∨ b.length < cols / 2 then none
    else some ((List.range cols).map fun u => (if u % 2 = 0 then a else b).getD (u / 2) (0, false))
  else if a.length < cols then none
  else some (a.take cols)

/-- The direct reads of a row, which alter nothing of the stream: whatever becomes of its frame (R288). -/
def State.bvcRows (s : State) (p : Nat) (a b : List (Nat × Bool)) : State :=
  let v := (s.port p).lsyncs
  ((s.bvcRow (2 * p) v a).bvcRow (2 * p + 1) v b).onPort p fun x => { x with lsyncs := v.map (· + 1) }

/-- BERYL_LSYNC: a row starts; `a` and `b` are the samples its converters deliver before the next row, `full` tells that
the port's buffer is full (R263, R264, R281, R286, R288). -/
def berylLsync (p : Nat) (a b : List (Nat × Bool)) (full : Bool) (s : State) : State :=
  let s := if s.portState p = 0 ∨ s.domain 4 ≠ 2 then s else s.bvcRows p a b
  match (s.port p).frame with
  | none => s
  | some f =>
    if s.brRows p ≤ f.rows.length then s.brDiscard p false
    else
      let stale := f.ta.isNone && !(s.port p).taFresh
      let s := s.when stale (·.raise Ev.BR_TEMP_STALE p)
      let ta := f.ta.getD (s.rdS Reg.BR_TA_VALUE p)
      let valid := if f.ta.isNone then s.on Reg.BR_TA_VALID p else f.taValid
      if full then s.brDiscard p true
      else
        match mergeSamples ((s.brGeom p).getD 2 0 != 0) (s.brCols p) a b with
        | none => s.brDiscard p false
        | some l =>
          let y := s.brLineOf (s.tb.ns + (s.br? p).rdS Reg.BR_EXP_OFFSET_NS p)
          s.onPort p fun x =>
            { x with frame := some { f with ta := some ta, taValid := valid, rows := { y16 := y.1, extrap := y.2, samples := l } :: f.rows } }

def execBerylLsync (p : Fin 4) (a b : List (Fin 16384 × Bool)) (full : Bool) (s : State) :
    Host.Outcome State Fault Refusal :=
  .next (s.powered fun s => berylLsync p (a.map fun c => (c.1.val, c.2)) (b.map fun c => (c.1.val, c.2)) full s)

/-! ## Timeouts and commands (R275 to R277, R287) -/

/-- BERYL_SYNC_TIMEOUT: no FSYNC for TIMEOUT_MS (R277). -/
def berylSyncTimeout (p : Nat) (s : State) : State :=
  let s := s.onPort p fun x => { x with silent := true }
  match s.portState p with
  | 1 => (s.putPortState p 3).raise Ev.BR_SYNC_LOST p
  | 2 => (s.putPortState p 3).raise Ev.BR_SYNC_LOST p
  | 4 => (s.recalEnd p 4).brOpening p
  | 5 => (s.recalEnd p 4).brOpening p
  | 6 => if (s.port p).reported then ((s.brConfirm p).putPortState p 3).raise Ev.BR_SYNC_LOST p else s
  | _ => s

def execBerylSyncTimeout (p : Fin 4) (s : State) : Host.Outcome State Fault Refusal :=
  .next (s.powered fun s => berylSyncTimeout p s)

/-- BERYL_MOVE_TIMEOUT: MOVE_TMO passes without the axis at its target (R277). -/
def berylMoveTimeout (p : Nat) (s : State) : State :=
  let st := s.portState p
  if st = 4 ∨ (st = 6 ∧ ¬ (s.port p).reported) then s.brAxisFailure p else s

def execBerylMoveTimeout (p : Fin 4) (s : State) : Host.Outcome State Fault Refusal :=
  .next (s.powered fun s => berylMoveTimeout p s)

/-- BERYL_RECAL_CMD: BR_CMD.RECAL (R275). -/
def berylRecalCmd (p v : Nat) (s : State) : State := if v.testBit 0 then s.brDue p else s
def execBerylRecalCmd (p : Fin 4) (v : Word) (s : State) : Host.Outcome State Fault Refusal :=
  .next (s.powered fun s => berylRecalCmd p v.toNat s)

/-- BERYL_RECAL_INTERVAL: INTERVAL_S has passed since the last pass (R275). -/
def berylRecalInterval (p : Nat) (s : State) : State :=
  if s.portState p ≠ 0 ∧ s.on Reg.BR_CTL_RECAL_AUTO p ∧ s.rd Reg.BR_SHUT_INT_INTERVAL_S p ≠ 0 then s.brDue p else s
def execBerylRecalInterval (p : Fin 4) (s : State) : Host.Outcome State Fault Refusal :=
  .next (s.powered fun s => berylRecalInterval p s)

/-- The port that takes the accumulator: due, in RUN, with an axis, free of the hold-off, due first (R276). -/
def State.brNext (s : State) : Option Nat :=
  let l := (List.range 4).filter fun p =>
    (s.port p).due.isSome && s.portState p == 2 && (s.br? p).on Reg.BR_SHUT_CTL_AXIS_VALID p &&
      decide ((s.port p).retry ≤ s.tb.ns)
  l.foldl (fun (b : Option Nat) p =>
    match b with
    | none => some p
    | some q => if ((s.port p).due.getD 0) < ((s.port q).due.getD 0) then some p else some q) none

/-- BERYL_ACC_TAKE: the accumulator is taken, CLOSED_POS is commanded; a frame that started at this instant started in
CLOSING (R276, R277). -/
def berylAccTake (s : State) : State :=
  if s.rd Reg.BR_ACC_OWNER ≠ 7 then s
  else
    match s.brNext with
    | none => s
    | some p =>
      let s := ((s.wr Reg.BR_ACC_OWNER p).wr Reg.BR_STATUS_OPEN_CONF 0 p).putPortState p 4
      let s := s.onPort p fun x => { x with frame := x.frame.map fun f =>
        if f.time = s.tb.ns ∧ f.rows = [] then { f with shutter := true } else f }
      let s := (s.brCommand p true).brShow p
      if s.brAxisFails p then s.brAxisFailure p else s

def execBerylAccTake (s : State) : Host.Outcome State Fault Refusal := .next (s.powered fun s => berylAccTake s)

/-- BERYL_REOPEN: BR_CMD.REOPEN leaves SHUT_FAULT (R277). -/
def berylReopen (p v : Nat) (s : State) : State :=
  if v.testBit 3 ∧ s.portState p = 7 then s.brOpening p else s
def execBerylReopen (p : Fin 4) (v : Word) (s : State) : Host.Outcome State Fault Refusal :=
  .next (s.powered fun s => berylReopen p v.toNat s)

/-- BERYL_SNAP: BR_CMD.SNAP with SNAP_KIND (R287). -/
def berylSnap (p v : Nat) (s : State) : State :=
  if !v.testBit 1 then s
  else if s.on Reg.BR_SNAP_BUSY then s.raise Ev.BR_SNAP_IGNORED p
  else { s with beryl := { s.beryl with snapReq := some (p, bitOf v 2) } }.wr Reg.BR_SNAP_BUSY 1
def execBerylSnap (p : Fin 4) (v : Word) (s : State) : Host.Outcome State Fault Refusal :=
  .next (s.powered fun s => berylSnap p v.toNat s)

/-! ## The power domain (R426) -/

/-- BERYL leaves ON: recalibrations end ABORTED, and OPEN_POS is commanded. -/
def State.brDrain (s : State) : State :=
  s.each (List.range 4) fun s p =>
    let st := s.portState p
    if st = 4 ∨ st = 5 then (s.recalEnd p 5).brOpening p else s

/-- BERYL is OFF: open items close with TRUNC, ports go OFF. -/
def State.brOff (s : State) : State :=
  s.each (List.range 4) fun s p => ((s.brTruncate p).onPort p fun x => { x with en := false }).brDisable p

end Sys2Proof.Machine
end

