-- ==== Sys2Proof/Machine/Capacity.lean ====
section
/-!
DEFINITION. Reservations, deliverables and the capacity level (R442 to R447), and the ceilings of R435 as a measurement
window takes them.
-/

namespace Sys2Proof.Machine

/-- lane_rate of R443 for a speed code of HOST_LINK (R375). -/
def laneRate (speed : Nat) : Nat :=
  match speed with
  | 1 => 250
  | 2 => 500
  | 3 => 985
  | 4 => 1969
  | 5 => 3938
  | _ => 0

/-- CAP_DELIV follows the link in force (R443). -/
def State.capDeliver (s : State) : State :=
  let v := if s.on Reg.HOST_LINK_UP then
      min 48000 (s.rd Reg.HOST_LINK_WIDTH * laneRate (s.rd Reg.HOST_LINK_SPEED) * 3 / 4)
    else 0
  (s.wr Reg.CAP_DELIV_A_HOST_IN v).wr Reg.CAP_DELIV_A_HOST_OUT v

/-- The registers of a resource: deliverable, present capacity, admitted sum, reservation. -/
def capRows (r : Nat) : Row × Row × Row × Row :=
  match r with
  | 0 => (Reg.CAP_DELIV_A_HOST_IN, Reg.CAP_NOW_A_HOST_IN, Reg.CAP_ADMIT_A_HOST_IN, Reg.CAP_RES_HOST_IN)
  | 1 => (Reg.CAP_DELIV_A_HOST_OUT, Reg.CAP_NOW_A_HOST_OUT, Reg.CAP_ADMIT_A_HOST_OUT, Reg.CAP_RES_HOST_OUT)
  | _ => (Reg.CAP_DELIV_B_PIXEL, Reg.CAP_NOW_B_PIXEL, Reg.CAP_ADMIT_B_PIXEL, Reg.CAP_RES_PIXEL)

/-- The fields of CAP_RES (R444). -/
def capFields : List Row :=
  [Reg.CAP_RES_HOST_IN, Reg.CAP_RES_HOST_OUT, Reg.CAP_RES_PIXEL, Reg.CAP_RES_PRIO, Reg.CAP_RES_GUAR]

/-- The guaranteed sum of a resource over the tenants that `p` picks. -/
def State.guaranteed (s : State) (r : Nat) (p : Nat → Bool) : Nat :=
  (((List.range 16).filter fun t => s.on Reg.CAP_RES_GUAR 0 t && p t).map fun t => s.rd (capRows r).2.2.2 0 t).sum

/-- The CAP_RES settings of `c` exceed a deliverable (R444). -/
def State.capRefused (s c : State) : Bool :=
  [0, 1, 2].any fun r => decide (s.rd (capRows r).1 < c.guaranteed r fun _ => true)

/-- CAP_ADMIT shows the sums of the settings in force (R444). -/
def State.capAdmit (s : State) : State :=
  s.each [0, 1, 2] fun s r => s.wr (capRows r).2.2.1 (s.guaranteed r fun _ => true)

/-- The tenants whose guarantees count, in the order in which they are cut: PRIO ascending, then number descending
(R446). -/
def State.cutOrder (s : State) : List Nat :=
  (List.range 16).flatMap fun p =>
    (List.range 16).reverse.filter fun t => s.on Reg.CAP_RES_GUAR 0 t && s.tenantUp t && s.rd Reg.CAP_RES_PRIO 0 t == p

/-- The allowances of one resource in shortfall (R446). -/
def State.allowances (s : State) (r : Nat) : Store :=
  (s.cutOrder.foldl (fun (a : Store × Nat) t =>
    let g := s.rd (capRows r).2.2.2 0 t
    let cut := min g a.2
    (tput (4 * t + r) (g - cut + 1) a.1, a.2 - cut))
    (([] : Store), s.guaranteed r s.tenantUp - s.rd (capRows r).2.1)).1

/-- What tenant `t` is guaranteed of a resource now, MB/s. -/
def State.guarantee (s : State) (t r : Nat) : Nat :=
  if s.on Reg.CAP_RES_GUAR 0 t then
    match tfind (4 * t + r) s.cap.allow with
    | some a => a - 1
    | none => s.rd (capRows r).2.2.2 0 t
  else 0

/-- CAPACITY_EVALUATION, every 1 ms (R446). -/
def capacityEvaluation (s : State) : State :=
  let f := min 1000 (s.rd Reg.THROT_FRAC_F * 3 / 2)
  let s := s.each [0, 1, 2] fun s r => s.wr (capRows r).2.1 (s.rd (capRows r).1 * f / 1000)
  let short := [0, 1, 2].filter fun r => decide (s.rd (capRows r).2.1 < s.guaranteed r s.tenantUp)
  let was := s.on Reg.CAP_STATUS_SHORT
  let s := s.wrB Reg.CAP_STATUS_SHORT (!short.isEmpty)
  let s := s.when (!short.isEmpty && !was) (·.raise Ev.CAP_SHORTFALL)
  let l := s.rd Reg.CAP_STATUS_LEVEL
  let s :=
    if !short.isEmpty then
      let s := { s with cap := { s.cap with clear := 0 } }
      if l < 4 then (s.wr Reg.CAP_STATUS_LEVEL (l + 1)).raise Ev.CAP_LEVEL_UP else s
    else if l = 0 then s
    else if s.rd Reg.CAP_CTL_HOLD_MS ≤ s.cap.clear + 1 then
      ({ s with cap := { s.cap with clear := 0 } }.wr Reg.CAP_STATUS_LEVEL (l - 1)).raise Ev.CAP_LEVEL_DOWN
    else { s with cap := { s.cap with clear := s.cap.clear + 1 } }
  let allow := if s.rd Reg.CAP_STATUS_LEVEL = 4 then
      short.foldl (fun t r => (s.allowances r).foldl (fun t e => tput e.1 e.2 t) t) ([] : Store)
    else []
  let s := { s with cap := { s.cap with short := short, allow := allow } }
  s.wr Reg.CAP_STATUS_CUT ((List.range 16).foldl (fun m t =>
    if [0, 1, 2].any (fun r => decide (s.guarantee t r < s.rd (capRows r).2.2.2 0 t) && s.on Reg.CAP_RES_GUAR 0 t) then
      setBit m t else m) 0)

def execCapacityEvaluation (s : State) : Host.Outcome State Fault Refusal :=
  .next (s.powered fun s => capacityEvaluation s)

/-- THIN_FROM_LO_READ: the pair is captured for the agent (R451). -/
def thinFromLoRead (agent sub width : Nat) (s : State) : State :=
  s.readPair agent 0x22 0x28 sub width (s.rdPair Reg.THIN_FROM_LO_VALUE Reg.THIN_FROM_HI_VALUE)

def execThinFromLoRead (agent : Agent) (sub : Fin 4) (width : Nat) (s : State) : Host.Outcome State Fault Refusal :=
  .next (s.powered fun s => thinFromLoRead agent sub width s)

end Sys2Proof.Machine
end

