-- ==== Sys2Proof/Machine/Tenants.lean ====
section
/-!
DEFINITION. Tenants, leases and descriptors (R343 to R380, R417, R418): the link, virtual functions, tenant resets and
faults, the version negotiation, leases and their ends, ENABLE and context loads, the checks of fetched descriptors, and
the checks of DMA_XFER (R384).
-/

namespace Sys2Proof.Machine

/-! ## Pages -/

/-- The power domain of a page (R566). -/
def domainOfPage (p : Nat) : Nat :=
  if (0x40 ≤ p ∧ p < 0x4C) ∨ (0x80 ≤ p ∧ p < 0xE1) ∨ (0x100 ≤ p ∧ p < 0x110) then 2
  else if 0x120 ≤ p ∧ p < 0x1D0 then 3
  else if (0x200 ≤ p ∧ p < 0x208) ∨ p = 0x220 then 4
  else if p = 0x240 then 5
  else if (0x221 ≤ p ∧ p < 0x224) ∨ (0x260 ≤ p ∧ p < 0x269) then 6
  else if 0x940 ≤ p ∧ p < 0x950 then 7
  else if (0x300 ≤ p ∧ p < 0x310) ∨ (0x400 ≤ p ∧ p < 0x850) then 1
  else 0

/-- The addresses of a side of a transfer: some element has a byte on a page that `f` picks. -/
def Xfer.anyPage (x : Xfer) (base : Nat) (steps : List Int) (f : Nat → Bool) : Bool :=
  let n := fun (k c : Nat) => if steps.getD k 0 = 0 then min c 1 else c
  (List.range (n 2 x.n2)).any fun i2 => (List.range (n 1 x.n1)).any fun i1 => (List.range (n 0 x.n0)).any fun i0 =>
    let a := ((base : Int) + i2 * steps.getD 2 0 + i1 * steps.getD 1 0 + i0 * steps.getD 0 0).toNat
    f (a / 4096 % 8192) || f ((a + x.esize - 1) / 4096 % 8192)

/-- Some element of a device-window side lies on a page that `f` picks. -/
def Xfer.windowPage (x : Xfer) (f : Nat → Bool) : Bool :=
  !x.payload && ((x.src.testBit 63 && x.anyPage x.src x.srcStep f) || (x.dst.testBit 63 && x.anyPage x.dst x.dstStep f))

/-- Page `p` is no longer mapped to tenant `t`: a transfer of its that uses the page halts with cause DENIED (R387,
R392). -/
def State.unmapped (s : State) (t p : Nat) : State :=
  s.each (List.range 64) fun s c =>
    match (s.channel c).current with
    | some x =>
      if tenantOf x.queue = t ∧ s.rd Reg.DMA_STATUS_STATE c = 1 ∧ x.windowPage (· == p) then s.haltChannel c 4 0x06 0x0A else s
    | none => s

/-! ## Leases (R351 to R353, R376, R418) -/

/-- Bit `r` of the lease bits on a tenant's page. -/
def State.putLeaseBit (s : State) (t r : Nat) (b : Bool) : State :=
  s.wr Reg.TEN_LEASES_BITS (putBit (s.rd Reg.TEN_LEASES_BITS t (r / 32)) (r % 32) b) t (r / 32)

/-- The safe state of a resource whose lease has ended (R353). -/
def State.safeState (s : State) (r : Nat) : State :=
  if r < 64 then s.haltChannel r 2 0x06 0x06
  else if r < 72 then s.axisWait (r - 64) .revoke
  else s

/-- The lease of resource `r` ends with a CODE of R371; `agent` is the log's TENANT. -/
def State.endLease (s : State) (r code agent : Nat) : State :=
  match s.holder r with
  | none => s
  | some t =>
    let ms := sget s.fr.leaseMs r
    let s := ((s.wr Reg.LEASE_HOLDER 0 0 r).wr Reg.LEASE_ACTIVE 0 0 r).putLeaseBit t r false
    let s := { s with fr := { s.fr with leaseEnd := sput s.fr.leaseEnd r 0, leaseMs := sput s.fr.leaseMs r 0,
                                        revoking := s.fr.revoking.filter (· != r) } }
    let s := s.withIc (icPages t (8 + r) false)
    let s := (s.raise Ev.LEASE_LEASE_END).raise Ev.TEN_LEASE_END t
    let s := s.log { kind := 0x06, tenant := agent, value := code, arg1 := r, arg2 := ms }
    let s := ((s.safeState r).unmapped t (leasePage r)).brAxes
    (s.notice t 2 r code t).notice 0 2 r code t

/-- The time of expiry of a lease that is granted or renewed now. -/
def State.armLease (s : State) (r ms : Nat) : State :=
  { s with fr := { s.fr with leaseEnd := sput s.fr.leaseEnd r (s.tb.ns + 1000000 * ms), leaseMs := sput s.fr.leaseMs r ms } }

/-- LEASE_GRANT: resource `r` is leased to tenant `t`, or its lease renewed, or the grant is refused (R352). -/
def leaseGrant (r t ms : Nat) (s : State) : State :=
  let ms := max 1 ms
  let h := (s.holder r).getD 0
  if 87 < r ∨ t = 0 ∨ !s.tenantUp t ∨ (h ≠ 0 ∧ h ≠ t) then s.raise Ev.LEASE_LEASE_REFUSED
  else
    let s := (((s.wr Reg.LEASE_HOLDER t 0 r).wr Reg.LEASE_ACTIVE 1 0 r).putLeaseBit t r true).armLease r ms
    let s := s.withIc (icPages t (8 + r) (s.signals (leasePage r)))
    let s := (s.log { kind := 0x06, tenant := 0, value := 3, arg1 := r, arg2 := ms }).brAxes
    s.notice t 3 r ms t

def execLeaseGrant (r : Fin 128) (t : Tenant) (ms : BitVec 16) (s : State) : Host.Outcome State Fault Refusal :=
  .next (s.powered fun s => leaseGrant r.val t.val ms.toNat s)

/-- LEASE_REVOKE: the owner ends a lease (R352). -/
def leaseRevoke (r : Nat) (s : State) : State := s.endLease r 1 0

def execLeaseRevoke (r : Fin 128) (s : State) : Host.Outcome State Fault Refusal :=
  .next (s.powered fun s => leaseRevoke r.val s)

/-- LEASE_EXPIRY: the time of a lease has passed (R352, R456). -/
def leaseExpiry (r : Nat) (s : State) : State :=
  match s.holder r with
  | none => s
  | some t =>
    let s := { s with fr := { s.fr with expired := sput s.fr.expired t (s.tb.ns + 1) } }
    (s.mgmtRaise 23).endLease r 0 16

def execLeaseExpiry (r : Fin 88) (s : State) : Host.Outcome State Fault Refusal :=
  .next (s.powered fun s => leaseExpiry r.val s)

/-- LEASE_RENEW: every lease of the tenant is renewed; one that expired in the same cycle is not, and RENEW_LATE is
raised (R352, R374). -/
def leaseRenew (t : Nat) (s : State) : State :=
  let s := s.when (sget s.fr.expired t == s.tb.ns + 1) (·.raise Ev.LEASE_RENEW_LATE)
  s.each (List.range 88) fun s r => if s.holder r = some t then s.armLease r (sget s.fr.leaseMs r) else s

def execLeaseRenew (t : Tenant) (s : State) : Host.Outcome State Fault Refusal :=
  .next (s.powered fun s => leaseRenew t.val s)

/-- LEASE_REVOKE_ON_FAULT: management revokes what a faulted or reset holder held (R418). -/
def leaseRevokeOnFault (t : Nat) (s : State) : State :=
  s.each s.fr.revoking fun s r => if s.holder r = some t then s.endLease r 2 16 else s

def execLeaseRevokeOnFault (t : Tenant) (s : State) : Host.Outcome State Fault Refusal :=
  .next (s.powered fun s => leaseRevokeOnFault t.val s)

/-- The tenant's leases are to be revoked. -/
def State.markLeases (s : State) (t : Nat) : State :=
  let l := (List.range 88).filter fun r => s.holder r == some t && !s.fr.revoking.contains r
  { s with fr := { s.fr with revoking := s.fr.revoking ++ l } }

/-! ## Negotiation (R348, R349) -/

/-- A reply is ready for mailbox `t`. -/
def State.reply (s : State) (t : Nat) (words : List Nat) : State :=
  { s with mgmt := { s.mgmt with replies := tput t words s.mgmt.replies } }

/-- A REJECT with a reason. -/
def State.reject (s : State) (t reason : Nat) : State := s.reply t [0x2FF, reason]

/-- The request or the reply of a mailbox is discarded (R458). -/
def State.mailboxClear (s : State) (t : Nat) : State :=
  let s := (s.wr Reg.MBX_STATUS_STATE 0 t).wr Reg.MBX_STATUS_M2H_LEN 0 t
  { s with mgmt := { s.mgmt with replies := tdel t s.mgmt.replies, requests := tdel t s.mgmt.requests } }

/-- A HELLO is malformed (R348). -/
def helloMalformed (w : List Nat) : Bool := bitsOf (w.getD 0 0) 8 24 != 4 || w.length != 4 || w.getD 1 0 / 16 != 0

/-- CHOSEN: the highest version offered. -/
def chosenVersion (offer : Nat) : Nat :=
  if offer.testBit 3 then 8 else if offer.testBit 2 then 4 else if offer.testBit 1 then 2 else offer % 2

/-- The answer to a HELLO of a tenant that is DOWN (R349). -/
def State.negotiate (s : State) (t : Nat) (w : List Nat) : State :=
  if helloMalformed w then s.reject t 2
  else
    let c := chosenVersion (bitsOf (w.getD 1 0) 0 4)
    if c = 0 then s.reject t 1 else s.reply t [0x481, c, 16384, t]

/-! ## Tenant resets (R346, R411, R417) -/

/-- A transfer of tenant `t` is in progress on some channel. -/
def State.tenantBusy (s : State) (t : Nat) : Bool :=
  (List.range 64).any fun c => match (s.channel c).current with
    | some x => tenantOf x.queue == t
    | none => false

/-- A new state of a tenant, logged where it changes (R465). -/
def State.moveTenant (s : State) (t x cause : Nat) : State :=
  let was := s.tenantState t
  (s.putTenantState t x).when (was != x) (·.log { kind := 0x07, tenant := t, value := x, arg1 := cause })

/-- A cached queue as a reset of tenant `t` leaves it. -/
def disabledFor (t : Nat) (e : Nat × Queue) : Nat × Queue :=
  if tenantOf e.1 = t then (e.1, { e.2 with state := 0, due := [], ending := none }) else e

/-- Every queue of the tenant is DISABLED, without a write-back, and its work is discarded (R346, R417). -/
def State.dropTenant (s : State) (t : Nat) : State :=
  let qs := (s.fr.queues.filter fun e => tenantOf e.1 == t).map (·.1)
  let s := { s with fr := { s.fr with
      queues := s.fr.queues.map (disabledFor t)
      parked := s.fr.parked.filter fun e => tenantOf e.1 != t
      parkedFault := s.fr.parkedFault.filter fun e => tenantOf e.1 != t
      loads := s.fr.loads.filter fun q => tenantOf q != t
      stalled := s.fr.stalled.filter fun q => tenantOf q != t
      enabling := s.fr.enabling.filter fun q => tenantOf q != t
      doorbells := s.fr.doorbells.filter fun e => tenantOf e.1 != t
      notices := s.fr.notices.filter fun e => tenantOf e.1 != t } }
  let s := s.dropStaged fun r => tenantOf r.queue == t
  s.each qs State.discardWork

/-- Only the stored registers of `f` stay: the others read their reset values. -/
def State.filterRegs (s : State) (f : Nat × Nat → Bool) : State := { s with regs := s.regs.filter f }

/-- The registers of the tenant's pages and of its controller take their reset values, but for the configuration bytes
and profiles (R406, R411). -/
def State.tenantRegisters (s : State) (t : Nat) : State :=
  let s := s.each [0x400 + 64 * t, 0x401 + 64 * t, 0x402 + 64 * t, 0x840 + t] fun s p => s.putEvents p 0
  let page := fun (e : Nat × Nat) => e.1 / 131072
  let offset := fun (e : Nat × Nat) => e.1 / 32 % 4096
  let s := s.filterRegs fun e => page e != 0x840 + t && (page e < 0x400 + 64 * t || 0x440 + 64 * t ≤ page e)
  let s := s.each ((List.range 88).filter fun r => s.holder r == some t) fun s r => s.putLeaseBit t r true
  s.withIc fun x =>
    let ic := { x.1 with
      regs := x.1.regs.filter fun e => page e != 0x840 + t ||
        (decide (0x100 ≤ offset e) && decide (offset e < 0x800)) || decide (0xC00 ≤ offset e)
      count := x.1.count.filter fun e => e.1 / 1024 != t
      since := x.1.since.filter fun e => e.1 / 1024 != t
      owed := x.1.owed.filter (· != t) }
    let lo := Reg.IC_PAGES_BITS.key t 0 0
    let hi := Reg.IC_PAGES_BITS.key t 255 0
    let held := ic.regs.any fun e => lo ≤ e.1 && e.1 ≤ hi && e.2 != 0
    icUpdate t (icFall t (ic.putBit Reg.IC_PENDING_BITS t 1022 held, x.2))

/-- VF Enable is 1 and NumVFs covers tenant `t`; tenant 0 is never ABSENT (R346). -/
def State.vfEnabled (s : State) (t : Nat) : Bool :=
  t == 0 || (s.on Reg.SRIOV_VF_ENABLE && decide (t ≤ s.rd Reg.SRIOV_NUM_VFS))

/-- A tenant reset ends: the tenant is DOWN or ABSENT, and a HELLO that caused the reset is answered. -/
def State.finishReset (s : State) (t : Nat) : State :=
  match tfind t s.fr.resets with
  | none => s
  | some g =>
    let s := { s with fr := { s.fr with resets := tdel t s.fr.resets,
                                        queues := s.fr.queues.filter fun e => tenantOf e.1 != t } }
    let was := s.tenantState t
    let s := s.tenantRegisters t
    let s := (s.putTenantState t was).putVersion t 0
    let s := s.moveTenant t (if g.absent then 0 else 1) 0
    let s := if g.absent && s.vfEnabled t then s.moveTenant t 1 0 else s
    let s := s.when g.down (·.raise Ev.HOST_TENANT_DOWN)
    let s := s.markLeases t
    match g.hello with
    | some w => (s.negotiate t w).retryStalled
    | none => s.retryStalled

/-- Tenant resets end once no transfer of the tenant is in flight. -/
def State.drainResets (s : State) : State :=
  s.each (s.fr.resets.map (·.1)) fun s t => if s.tenantBusy t then s else s.finishReset t

/-- A tenant reset begins, or joins the one in progress (R346, R428, R458). -/
def State.resetTenant (s : State) (t : Nat) (g : TenantReset) : State :=
  let s := s.when g.hello.isNone (·.mailboxClear t)
  match tfind t s.fr.resets with
  | some o =>
    let n : TenantReset := { absent := o.absent || g.absent, down := o.down || g.down,
                             hello := if g.hello.isNone then none else o.hello }
    { s with fr := { s.fr with resets := tput t n s.fr.resets } }
  | none =>
    (({ s with fr := { s.fr with resets := tput t g s.fr.resets } }).dropTenant t).drainResets

/-- TENANT_DRAIN_LIMIT: 100 µs have passed; what is still in flight is discarded (R417). -/
def tenantDrainLimit (t : Nat) (s : State) : State :=
  if (tfind t s.fr.resets).isNone then s
  else
    let s := s.each (List.range 64) fun s c =>
      match (s.channel c).current with
      | some x => if tenantOf x.queue = t then (s.putChannel c { s.channel c with current := none }).beginNext c else s
      | none => s
    s.finishReset t

def execTenantDrainLimit (t : Tenant) (s : State) : Host.Outcome State Fault Refusal :=
  .next (s.powered fun s => tenantDrainLimit t.val s)

/-! ## Functions and the link (R343, R346, R347, R415) -/

/-- VF Enable and NumVFs take values: tenants become ABSENT or DOWN (R346). -/
def vfEnableChange (n : Nat) (enable : Bool) (s : State) : State :=
  let s := (s.wr Reg.SRIOV_NUM_VFS n).wrB Reg.SRIOV_VF_ENABLE enable
  s.each ((List.range 16).drop 1) fun s t =>
    if s.vfEnabled t then
      if s.tenantState t = 0 ∧ (tfind t s.fr.resets).isNone then s.moveTenant t 1 0 else s
    else if s.tenantState t ≠ 0 ∨ (tfind t s.fr.resets).isSome then s.resetTenant t { absent := true } else s

def execVfEnableChange (n : Fin 16) (enable : Bool) (s : State) : Host.Outcome State Fault Refusal :=
  .next (s.powered fun s => vfEnableChange n.val enable s)

/-- The MSI-X capability of a function after an FLR: disabled, its vector masked. -/
def State.msixReset (s : State) (f : Nat) : State :=
  { s with nt := { s.nt with ic := { s.nt.ic with msix := tdel f s.nt.ic.msix } } }

/-- A reset of tenant `t` to DOWN that raises TENANT_DOWN; an ABSENT tenant takes none. -/
def State.downTenant (s : State) (t : Nat) : State :=
  if s.tenantState t = 0 then s else s.resetTenant t { down := true }

/-- An FLR of PF0 (R347). -/
def State.flrPf0 (s : State) : State :=
  ((vfEnableChange (s.rd Reg.SRIOV_NUM_VFS) false s).downTenant 0).msixReset 0

/-- FUNCTION_LEVEL_RESET of function `f` (R346, R347). -/
def functionLevelReset (f : Nat) (s : State) : State := if f = 0 then s.flrPf0 else (s.downTenant f).msixReset f

def execFunctionLevelReset (f : Tenant) (s : State) : Host.Outcome State Fault Refusal :=
  .next (s.powered fun s => functionLevelReset f.val s)

/-- D3HOT_ENTRY of function `f` (R346). -/
def d3hotEntry (f : Nat) (s : State) : State := s.downTenant f

def execD3hotEntry (f : Tenant) (s : State) : Host.Outcome State Fault Refusal :=
  .next (s.powered fun s => d3hotEntry f.val s)

/-- TEN_RESET: bit t resets tenant t; bit 0 is ignored (R375). -/
def tenReset (mask : Nat) (s : State) : State :=
  s.each ((List.range 16).drop 1) fun s t => if mask.testBit t then s.downTenant t else s

def execTenReset (mask : BitVec 16) (s : State) : Host.Outcome State Fault Refusal :=
  .next (s.powered fun s => tenReset mask.toNat s)

/-- LINK_CHANGE: speed code, width and whether the link is up (R375); the deliverables follow (R443). -/
def linkChange (speed width : Nat) (up : Bool) (s : State) : State :=
  (((s.wr Reg.HOST_LINK_SPEED (if up then speed else 0)).wr Reg.HOST_LINK_WIDTH (if up then width else 0)).wrB
    Reg.HOST_LINK_UP up).capDeliver.raise Ev.HOST_LINK_CHANGE

def execLinkChange (speed : Fin 8) (width : Fin 32) (up : Bool) (s : State) : Host.Outcome State Fault Refusal :=
  .next (s.powered fun s => linkChange speed.val width.val up s)

/-- LINK_DOWN: a hot reset, or the link is down: every tenant as by an FLR of PF0 (R415). -/
def linkDown (hotReset : Bool) (s : State) : State :=
  let s := if hotReset then s.raise Ev.HOST_LINK_CHANGE else linkChange 0 0 false s
  (s.flrPf0).each (List.range 16) State.msixReset

def execLinkDown (hotReset : Bool) (s : State) : Host.Outcome State Fault Refusal :=
  .next (s.powered fun s => linkDown hotReset s)

/-! ## Tenant faults (R417) -/

/-- The queues of a tenant that are not DISABLED. -/
def State.activeQueues (s : State) (t : Nat) : List Nat :=
  ((s.fr.queues.filter fun e => tenantOf e.1 == t && e.2.state != 0).map (·.1)) ++
    ((s.fr.parked.filter fun e => tenantOf e.1 == t && e.2 != 0).map (·.1))

/-- A fault of tenant `t`; one that is not UP, or in a reset, counts it only (R428). -/
def State.tenantFault (s : State) (t cause : Nat) : State :=
  let s := s.incSat Reg.TEN_FLT_COUNT 0 t
  if !s.tenantUp t then s
  else
    let s := (s.wr Reg.TEN_FLT_CAUSE cause 0 t).moveTenant t 3 cause
    let s := ((s.raise Ev.HOST_TENANT_FAULT).raise Ev.FLT_TENANT_FAULT).alert 5
    let s := s.usbMessage 5 0 t
    let qs := s.activeQueues t
    let s := s.each qs fun s q =>
      let s := (s.onQueue q fun x => { x with fault := 16, due := [] }).setQueueState q 3
      let s := if (s.queue q).isSome then s else s.park q 3 16
      (s.raise Ev.TEN_QUEUE_FAULT t).putQfault q true
    let s := s.loseStaged fun r => tenantOf r.queue == t
    let s := s.each qs State.discardWork
    let s := s.each qs fun s q => s.notice t 1 (localQueue q) 16 t
    s.markLeases t

/-- POISONED_REQUEST: a poisoned request, or one with an ECRC error, to the tenant's function (R415). -/
def poisonedRequest (t : Nat) (s : State) : State := s.tenantFault t 2

def execPoisonedRequest (t : Tenant) (s : State) : Host.Outcome State Fault Refusal :=
  .next (s.powered fun s => poisonedRequest t.val s)

/-! ## QADM operations but ENABLE (R358, R359) -/

/-- An operation whose context read halted after its retries ends REFUSED, and the tenant faults with CTX_ERROR (R359,
R415). -/
def State.contextHalted (s : State) (t : Nat) : State := (s.qadmEnd t 2).tenantFault t 1

/-- DISABLE: fetching stops, descriptors begun complete, then the device-owned fields are written back. -/
def State.disableOp (t l : Nat) (w : Option (List Nat)) (s : State) : State :=
  let q := 16384 * t + l
  let st := s.queueState q
  if st ≠ 1 ∧ st ≠ 2 then s.qadmEnd t 2
  else
    let s := s.withContext q w
    match s.queue q with
    | none => s.contextHalted t
    | some _ =>
      let s := (s.onQueue q fun x => { x with head := none, early := false, ending := some 1 }).setQueueState q 0
      (((s.dropStaged fun r => r.queue == q).refWaiting).drainAllDue).settle q

def queueDisable (t l : Nat) (w : Option (List Nat)) (s : State) : State := s.qadmBegin t l (State.disableOp t l w)

def execQueueDisable (t : Tenant) (q : Fin 16384) (ctx : Option (List Nat)) (s : State) : Host.Outcome State Fault Refusal :=
  .next (s.powered fun s => queueDisable t.val q.val ctx s)

/-- PAUSE: fetching stops; a device-produced queue takes no further entries. -/
def State.pauseOp (t l : Nat) (w : Option (List Nat)) (s : State) : State :=
  let q := 16384 * t + l
  if s.queueState q ≠ 1 then s.qadmEnd t 2
  else
    let s := s.withContext q w
    match s.queue q with
    | none => s.contextHalted t
    | some _ => ((s.setQueueState q 2).dropStaged fun r => r.queue == q).qadmEnd t 1

def queuePause (t l : Nat) (w : Option (List Nat)) (s : State) : State := s.qadmBegin t l (State.pauseOp t l w)

def execQueuePause (t : Tenant) (q : Fin 16384) (ctx : Option (List Nat)) (s : State) : Host.Outcome State Fault Refusal :=
  .next (s.powered fun s => queuePause t.val q.val ctx s)

/-- RESUME: PAUSED to RUNNING. -/
def State.resumeOp (t l : Nat) (w : Option (List Nat)) (s : State) : State :=
  let q := 16384 * t + l
  if s.queueState q ≠ 2 then s.qadmEnd t 2
  else
    let s := s.withContext q w
    match s.queue q with
    | none => s.contextHalted t
    | some _ => ((s.setQueueState q 1).drainAllDue).qadmEnd t 1

def queueResume (t l : Nat) (w : Option (List Nat)) (s : State) : State := s.qadmBegin t l (State.resumeOp t l w)

def execQueueResume (t : Tenant) (q : Fin 16384) (ctx : Option (List Nat)) (s : State) : Host.Outcome State Fault Refusal :=
  .next (s.powered fun s => queueResume t.val q.val ctx s)

/-- RESET: the queue's work is discarded; when its bursts have returned the fields are written back and the queue is
DISABLED (R416). -/
def State.resetOp (t l : Nat) (w : Option (List Nat)) (s : State) : State :=
  let q := 16384 * t + l
  if s.queueState q = 0 then s.qadmEnd t 2
  else
    let s := s.withContext q w
    match s.queue q with
    | none => s.contextHalted t
    | some _ =>
      let s := (s.onQueue q fun x => { x with ending := some 4 }).setQueueState q 0
      (((s.dropStaged fun r => r.queue == q).discardWork q).settle q).drainAllDue

def queueReset (t l : Nat) (w : Option (List Nat)) (s : State) : State := s.qadmBegin t l (State.resetOp t l w)

def execQueueReset (t : Tenant) (q : Fin 16384) (ctx : Option (List Nat)) (s : State) : Host.Outcome State Fault Refusal :=
  .next (s.powered fun s => queueReset t.val q.val ctx s)

/-- SYNC: the device-owned fields are written back; refused for a DISABLED queue. -/
def State.syncOp (t l : Nat) (w : Option (List Nat)) (s : State) : State :=
  let q := 16384 * t + l
  if s.queueState q = 0 then s.qadmEnd t 2
  else
    let s := s.withContext q w
    match s.queue q with
    | none => s.contextHalted t
    | some _ => (s.writeFields q).qadmEnd t 1

def queueSync (t l : Nat) (w : Option (List Nat)) (s : State) : State := s.qadmBegin t l (State.syncOp t l w)

def execQueueSync (t : Tenant) (q : Fin 16384) (ctx : Option (List Nat)) (s : State) : Host.Outcome State Fault Refusal :=
  .next (s.powered fun s => queueSync t.val q.val ctx s)

/-! ## HELLO (R346, R349) -/

/-- A HELLO is handled: logged, then answered, after a tenant reset where the tenant is UP or FAULTED (R346, R349). -/
def State.helloArrives (s : State) (t : Nat) (w : List Nat) : State :=
  let offer := bitsOf (w.getD 1 0) 0 4
  let s := s.when (!helloMalformed w) (·.log { kind := 0x08, tenant := t, value := w.getD 2 0, arg1 := w.getD 3 0,
                                               arg2 := offer + chosenVersion offer <<< 4 })
  if (tfind t s.fr.resets).isSome ∨ s.tenantState t = 0 then s.reject t 3
  else if s.tenantState t = 1 then s.negotiate t w
  else s.resetTenant t { hello := some w }

/-- HELLO: the request in mailbox `t`, once management has copied it, is handled. -/
def hello (t : Nat) (s : State) : State :=
  let w := (tget [] s.mgmt.requests t)
  if s.rd Reg.MBX_STATUS_STATE t ≠ 2 ∨ bitsOf (w.getD 0 0) 0 8 ≠ 1 ∨ (tfind t s.mgmt.replies).isSome then s
  else if ((tfind t s.fr.resets).bind (·.hello)).isSome then s
  else s.helloArrives t w

def execHello (t : Tenant) (s : State) : Host.Outcome State Fault Refusal := .next (s.powered fun s => hello t.val s)

/-! ## ENABLE and context loads (R357, R358, R372) -/

/-- The context of a queue that an ENABLE read: the queue runs, or faults with CTX_INVALID. -/
def State.enableWith (s : State) (q : Nat) (w : List Nat) (cqType : Nat) : State :=
  let t := tenantOf q
  let y := contextQueue w
  let ok := s.contextValid t y (if y.cq = localQueue q then y.type else cqType)
  let s := s.park q 0 0
  if !ok then
    ((s.putQueue q { y with state := 0, fault := 0 }).faultQueue q 1).qadmEnd t 1
  else
    let x : Queue := { host := y.host, expSeq := w.getD 5 0, due := ((s.queue q).map (·.due)).getD [] }
    let r := s.pinLimit q x
    (((r.1.putQueue q r.2).setQueueState q 1).drainAllDue).qadmEnd t 1

/-- ENABLE: the context is read and the queue runs or faults; a read that halts ends REFUSED and faults the tenant. -/
def State.enableOp (t l : Nat) (w : Option (List Nat)) (cqType : Nat) (s : State) : State :=
  let q := 16384 * t + l
  if s.queueState q ≠ 0 then s.qadmEnd t 2
  else
    let s := s.inc Reg.CTXC_MISSES_COUNT
    let go := fun (s : State) =>
      let s := s.emit (.contextRead q)
      match w with
      | none => s.contextHalted t
      | some w => s.enableWith q w cqType
    if (s.queue q).isSome then go s
    else
      match s.freeEntry with
      | some s => go s
      | none =>
        (({ s with fr := { s.fr with stalled := s.fr.stalled ++ [q], enabling := s.fr.enabling ++ [q] } }).inc
          Reg.CTXC_STALLS_COUNT).raise Ev.CTX_CTX_STALL

def queueEnable (t l : Nat) (w : Option (List Nat)) (cqType : Nat) (s : State) : State :=
  s.qadmBegin t l (State.enableOp t l w cqType)

def execQueueEnable (t : Tenant) (q : Fin 16384) (ctx : Option (List Nat)) (cqType : Fin 8) (s : State) :
    Host.Outcome State Fault Refusal := .next (s.powered fun s => queueEnable t.val q.val ctx cqType.val s)

/-- CONTEXT_LOAD: the read of a context that was needed ends; without words it halted (R372, R415). -/
def contextLoad (q : Nat) (w : Option (List Nat)) (cqType : Nat) (s : State) : State :=
  if !s.fr.loads.contains q then s
  else
    let enabling := s.fr.enabling.contains q
    let s := { s with fr := { s.fr with loads := s.fr.loads.filter (· != q), enabling := s.fr.enabling.filter (· != q) } }
    match w with
    | none => (s.when enabling (·.qadmEnd (tenantOf q) 2)).tenantFault (tenantOf q) 1
    | some w => if enabling then s.enableWith q w cqType else s.loaded q w

def execContextLoad (q : Fin 262144) (ctx : Option (List Nat)) (cqType : Fin 8) (s : State) :
    Host.Outcome State Fault Refusal := .next (s.powered fun s => contextLoad q.val ctx cqType.val s)

/-- TEN_CTX_BASE_WRITE: ignored while a queue of the tenant is not DISABLED (R374). -/
def tenCtxBaseWrite (t : Nat) (high : Bool) (v : Nat) (s : State) : State :=
  if !(s.activeQueues t).isEmpty then s.raise Ev.TEN_CTX_REFUSED t
  else s.hostWord (0x400 + 64 * t) (if high then 0x28 else 0x24) v

def execTenCtxBaseWrite (t : Tenant) (high : Bool) (v : Word) (s : State) : Host.Outcome State Fault Refusal :=
  .next (s.powered fun s => tenCtxBaseWrite t.val high v.toNat s)

/-- The value of QSTAT_A and the captures of the registers behind it (R379). -/
def State.qstat (s : State) (agent t : Nat) (ctx : Option (List Nat)) : State × Nat :=
  let q := 16384 * t + s.rd Reg.QSEL_QUEUE t
  let p := 0x401 + 64 * t
  let cached := (s.queue q).isSome
  let kept := sget s.fr.parkedFault q
  let shown := (s.queue q).getD (contextQueue (ctx.getD []))
  let s := if !cached && ctx.isNone then s.tenantFault t 1 else s.withContext q ctx
  let x := if cached || ctx.isSome then shown else {}
  let s := (((s.capture agent p 0x28 x.prod).capture agent p 0x2C x.cons).capture agent p 0x30 x.expSeq).capture agent p
    0x34 x.epoch
  (s, x.state + x.type <<< 4 + (if kept = 0 then x.fault else kept) <<< 8 + cached.toNat <<< 16 +
    ((s.queue q).any fun y => s.pinned q y).toNat <<< 17)

/-- QSTAT_A_READ: the selected queue's state is captured for the agent, from the cache or from the context that the load
returns (R379). -/
def qstatARead (agent t sub width : Nat) (ctx : Option (List Nat)) (s : State) : State :=
  s.readAccess agent (0x401 + 64 * t) 0x24 sub width (fun s => s.qstat agent t ctx)
    fun s => (s, s.captured agent (0x401 + 64 * t) 0x28)

def execQstatARead (agent : Agent) (t : Tenant) (sub : Fin 4) (width : Nat) (ctx : Option (List Nat)) (s : State) :
    Host.Outcome State Fault Refusal := .next (s.powered fun s => qstatARead agent t.val sub width ctx s)

/-! ## Fetched descriptors (R362 to R366) -/

/-- The descriptor at index CONS is dropped or completes without being executed: CONS passes it. -/
def State.skipDescriptor (s : State) (q : Nat) (f : Queue → Queue) : State :=
  (s.onQueue q fun x => f { x with cons := (x.cons + 1) % 2 ^ 32 }).unpublished q 1 0

/-- An opcode that R363 or R365 allows for the queue's type and the tenant's version. -/
def opcodeAllowed (version type opcode : Nat) : Bool :=
  match opcode with
  | 0 => type == 0
  | 1 => type == 0
  | 2 => type == 4 && version != 0
  | 3 => type == 0 && version == 3
  | _ => false

/-- A descriptor that completes UNSUPPORTED (R363, R365). -/
def unsupported (version type : Nat) (w : List Nat) : Bool :=
  let w0 := w.getD 0 0
  if version = 0 then !opcodeAllowed 0 type (bitsOf w0 0 8) || bitsOf w0 11 5 != 0 || w.getD 1 0 != 0
  else
    !opcodeAllowed version type (bitsOf w0 0 8) || (w0.testBit 10 && version != 3) || bitsOf w0 11 5 != 0 ||
      bitsOf w0 24 8 != 0 || w.getD 4 0 != 0 || w.getD 5 0 != 0

/-- FENCE of version 2.2, or BARRIER of version 1.0 (R362, R394). -/
def fenced (version : Nat) (w : List Nat) : Bool :=
  if version = 0 then (w.getD 0 0).testBit 8 else version == 3 && (w.getD 0 0).testBit 10

/-- A descriptor that passed the sequence checks: unsupported, a NOP, or it waits at the head for its own command. -/
def State.takeDescriptor (s : State) (q : Nat) (x : Queue) (w : List Nat) : State :=
  if unsupported (s.version (tenantOf q)) x.type w then s.finishHead q w 0x05 0 0
  else if bitsOf (w.getD 0 0) 0 8 = 0 then s.finishHead q w 0 0 0
  else s.onQueue q fun x => { x with head := some w }

/-- The checks of R366 in ring order. -/
def State.checkDescriptor (s : State) (q : Nat) (x : Queue) (w : List Nat) : State :=
  let t := tenantOf q
  if s.version t = 0 then s.takeDescriptor q x w
  else if bitsOf (w.getD 0 0) 16 8 ≠ x.epoch then
    ((s.skipDescriptor q fun x => { x with stale := (x.stale + 1) % 2 ^ 32 }).inc Reg.TEN_STALE_COUNT t).raise
      Ev.TEN_STALE_EPOCH t
  else
    let d := signed 32 (w.getD 1 0 + 2 ^ 32 - x.expSeq)
    if d < 0 then
      (((s.skipDescriptor q fun x => { x with dup := (x.dup + 1) % 2 ^ 32 }).inc Reg.TEN_DUP_COUNT t).raise
        Ev.TEN_DUPLICATE t).complete q w 0x03 0 0
    else if 0 < d then ((s.skipDescriptor q id).complete q w 0x04 0 0).faultQueue q 2
    else s.takeDescriptor q x w

/-- DESCRIPTOR_FETCH: the next descriptor of a host-produced queue has been read, or its read halted (R358, R366).  A
queue that waits for a completion, holds an unbegun descriptor, or whose next descriptor is fenced behind earlier ones
takes none. -/
def descriptorFetch (q : Nat) (w : Option (List Nat)) (s : State) : State :=
  match s.queue q with
  | none => if s.queueState q = 1 then s.needContext q else s
  | some x =>
    if x.state ≠ 1 ∨ !x.hostProduced ∨ x.prod = x.cons ∨ x.head.isSome ∨ !x.due.isEmpty then s
    else
      match w with
      | none => s.faultQueue q 4
      | some w => if fenced (s.version (tenantOf q)) w && !x.begun.isEmpty then s else s.checkDescriptor q x w

def execDescriptorFetch (q : Fin 262144) (words : Option (List Nat)) (s : State) : Host.Outcome State Fault Refusal :=
  .next (s.powered fun s => descriptorFetch q.val words s)

/-! ## DMA_XFER (R382 to R385, R395) -/

/-- Element sizes (R382). -/
def elementSize (code : Nat) : Nat := [1, 2, 4, 6, 8, 16].getD code 1

/-- The transfer of a version 2.x descriptor, and its channel (R382). -/
def xferOf (q index : Nat) (w : List Nat) : Nat × Xfer :=
  let c := wordAt w 0x18
  (bitsOf c 0 6,
    { queue := q, index := index, words := w, esize := elementSize (bitsOf c 6 3), n0 := bitsOf (wordAt w 0x2C) 0 24,
      n1 := bitsOf (wordAt w 0x30) 0 16, n2 := bitsOf (wordAt w 0x30) 16 16,
      src := wordAt w 0x1C + 2 ^ 32 * wordAt w 0x20, dst := wordAt w 0x24 + 2 ^ 32 * wordAt w 0x28,
      swapB := c.testBit 9, swapH := c.testBit 10, linear := c.testBit 11, native := c.testBit 12 })

/-- The transfer of a version 1.0 descriptor, and its channel (R383). -/
def xferOf1 (q index : Nat) (w : List Nat) : Nat × Xfer :=
  (bitsOf (wordAt w 0x1C) 0 6,
    { queue := q, index := index, words := w, n0 := wordAt w 0x18, src := wordAt w 0x08 + 2 ^ 32 * wordAt w 0x0C,
      dst := wordAt w 0x10 + 2 ^ 32 * wordAt w 0x14, linear := true, native := (wordAt w 0).testBit 8 })

/-- A side with a device-window address breaks R387. -/
def Xfer.badWindow (x : Xfer) (base : Nat) (steps : List Int) : Bool :=
  base.testBit 63 &&
    (!(x.esize == 4 || x.esize == 8 || x.esize == 16) || base % 4 != 0 || steps.any (fun v => v % 4 != 0) ||
      decide ((x.span base steps).1 < 2 ^ 63) || decide (2 ^ 63 + 2 ^ 25 < (x.span base steps).2))

/-- The checks 1 to 5 of R384: the reason of a malformed descriptor, 0 for none. -/
def xferReason (version : Nat) (w : List Nat) (x : Xfer) : Nat :=
  if version = 0 ∧ bitsOf (wordAt w 0x1C) 6 26 ≠ 0 then 1
  else if version ≠ 0 ∧ (bitsOf (wordAt w 0x18) 14 18 ≠ 0 ∨ bitsOf (wordAt w 0x2C) 24 8 ≠ 0 ∨ wordAt w 0x34 ≠ 0 ∨
      wordAt w 0x38 ≠ 0 ∨ wordAt w 0x3C ≠ 0) then 1
  else if version ≠ 0 ∧ 6 ≤ bitsOf (wordAt w 0x18) 6 3 then 2
  else if x.n0 = 0 ∨ x.n1 = 0 ∨ x.n2 = 0 then 3
  else if x.badWindow x.src x.srcStep ∨ x.badWindow x.dst x.dstStep then 4
  else if x.src.testBit 63 ∧ x.dst.testBit 63 then 5
  else 0

/-- OVL_FAULT (R382). -/
def ovlFault (version : Nat) (w : List Nat) : Bool := version != 0 && (wordAt w 0x18).testBit 13

/-- The DMA_XFER descriptor at the head of a queue is checked and its transfer given to its channel (R384, R425). -/
def State.dmaTake (s : State) (q : Nat) (x : Queue) (w : List Nat) : State :=
  let t := tenantOf q
  let v := s.version t
  let r := if v = 0 then xferOf1 q x.cons w else xferOf q x.cons w
  let c := r.1
  let y := s.xferSteps c r.2
  let reason := xferReason v w y
  if reason ≠ 0 then s.finishHead q w 0x02 0 reason
  else if !s.holds t c then s.finishHead q w 0x06 0 0
  else if y.windowPage (fun p => (s.mapped t p).isNone) then s.finishHead q w 0x06 0 0
  else if ovlFault v w && y.overlaps then s.finishHead q w 0x09 0 0
  else if y.windowPage (fun p => s.domain (domainOfPage p) != 2) then s.finishHead q w 0x08 0 0
  else if 32 ≤ (s.channel c).waiting.length then s
  else (s.beginHead q w).submitXfer c r.2

/-- DMA_XFER: the descriptor at the head of the queue. -/
def dmaXfer (q : Nat) (s : State) : State :=
  match s.queue q with
  | none => s
  | some x =>
    match x.head with
    | none => s
    | some w => if x.state = 1 ∧ x.type = 0 ∧ bitsOf (wordAt w 0) 0 8 = 1 then s.dmaTake q x w else s

def execDmaXfer (q : Fin 262144) (s : State) : Host.Outcome State Fault Refusal :=
  .next (s.powered fun s => dmaXfer q.val s)

end Sys2Proof.Machine
end

