-- ==== Sys2Proof/Machine/Dma.lean ====
section
/-!
DEFINITION. The DMA engine's commands but the data flow of bursts (R381, R390 to R398): pacing requests, bus errors and
retries, completions, CLEAR, ABORT and the error address.
-/

namespace Sys2Proof.Machine

/-- Elements of a transfer. -/
def Xfer.total (x : Xfer) : Nat := x.n0 * x.n1 * x.n2

/-- Loop indexes of element `e` (R385). -/
def Xfer.loops (x : Xfer) (e : Nat) : Nat × Nat × Nat := (e % x.n0, e / x.n0 % x.n1, e / x.n0 / x.n1)

/-- The address of element `e` on one side (R385). -/
def Xfer.addressOn (x : Xfer) (base : Nat) (steps : List Int) (e : Nat) : Nat :=
  let l := x.loops e
  (((base : Int) + l.2.2 * steps.getD 2 0 + l.2.1 * steps.getD 1 0 + l.1 * steps.getD 0 0) % 2 ^ 64).toNat

/-- Source and destination address of element `e`. -/
def Xfer.source (x : Xfer) (e : Nat) : Nat := x.addressOn x.src x.srcStep e
def Xfer.target (x : Xfer) (e : Nat) : Nat := x.addressOn x.dst x.dstStep e

/-- Source and destination address of byte `p` in the order in which the elements are moved. -/
def Xfer.sourceByte (x : Xfer) (p : Nat) : Nat := x.source (p / x.esize) + p % x.esize
def Xfer.targetByte (x : Xfer) (p : Nat) : Nat := x.target (p / x.esize) + p % x.esize

/-- Bytes of a transfer. -/
def Xfer.size (x : Xfer) : Nat := x.total * x.esize

/-- The destination is host memory. -/
def Xfer.toHost (x : Xfer) : Bool := !x.payload && !x.dst.testBit 63

/-- The last written host address, to which the trailing read goes (R393). -/
def Xfer.lastWritten (x : Xfer) : Nat := (x.target (x.total - 1) + x.esize - 1) % 2 ^ 64

/-- Change the transfer in progress of a channel. -/
def State.onXfer (s : State) (c : Nat) (f : Xfer → Xfer) : State :=
  match (s.channel c).current with
  | some x => s.putChannel c { s.channel c with current := some (f x) }
  | none => s

/-- The host read of a burst, rounded outward to whole words (R388). -/
def State.readBurst (s : State) (x : Xfer) (b : Burst) : State :=
  let a := x.sourceByte b.first
  let n := b.count
  s.emit (.hostRead (tenantOf x.queue) (a / 4 * 4) ((a + n + 3) / 4 * 4 - a / 4 * 4))

/-- The trailing read of native completion (R393). -/
def State.readTrailing (s : State) (x : Xfer) : State := s.emit (.hostRead (tenantOf x.queue) x.lastWritten 0)

/-! ## Pacing (R390) -/

/-- A request for channel `c`. -/
def State.paceChannel (s : State) (c : Nat) : State :=
  if s.rd Reg.DMA_STATUS_REQ_PEND c = 255 then s.raise Ev.DMA_REQ_OVERRUN c else s.inc Reg.DMA_STATUS_REQ_PEND c

/-- Request line `l` asserts. -/
def State.paceRequest (s : State) (l : Nat) : State :=
  s.each (List.range 64) fun s c =>
    if s.on Reg.DMA_CTL_REQ_EN c && s.rd Reg.DMA_CTL_REQ_SEL c == l then s.paceChannel c else s

/-- DMA_PACE_REQUEST: one of the lines 0 to 6 asserts; lines 7 to 62 never do, and 63 is the channel's own. -/
def dmaPaceRequest (l : Nat) (s : State) : State := if l < 7 then s.paceRequest l else s

def execDmaPaceRequest (l : Fin 64) (s : State) : Host.Outcome State Fault Refusal :=
  .next (s.powered fun s => dmaPaceRequest l.val s)

/-- DMA_TIMER: the timer of channel `c` asserts line 63 for that channel. -/
def dmaTimer (c : Nat) (s : State) : State :=
  if s.on Reg.DMA_CTL_REQ_EN c && s.rd Reg.DMA_CTL_REQ_SEL c == 63 then s.paceChannel c else s

def execDmaTimer (c : Fin 64) (s : State) : Host.Outcome State Fault Refusal :=
  .next (s.powered fun s => dmaTimer c.val s)

/-- REQ_CLEAR. -/
def reqClear (c : Nat) (s : State) : State := s.wr Reg.DMA_STATUS_REQ_PEND 0 c

def execReqClear (c : Fin 64) (s : State) : Host.Outcome State Fault Refusal :=
  .next (s.powered fun s => reqClear c.val s)

/-! ## Errors and retries (R391, R392) -/

/-- One more retry of channel `c`. -/
def State.countRetry (s : State) (c : Nat) : State :=
  ((s.wr Reg.DMA_STATUS_RETRIES (min 15 (s.rd Reg.DMA_STATUS_RETRIES c + 1)) c).onXfer c fun x =>
    { x with retries := min 15 (x.retries + 1) }).raise Ev.DMA_RETRY c

/-- A transfer that is stopping ends once no burst of it is in flight (R392). -/
def State.stopIfDrained (s : State) (c : Nat) : State :=
  match (s.channel c).current with
  | some x =>
    match x.stop with
    | some st => if x.settled then (s.endXfer c x st).drainResets else s
    | none => s
  | none => s

/-- A halt with cause BUS_ERROR: the transfer completes BUS_ERROR, the waiting ones ABORTED. -/
def State.busHalt (s : State) (c : Nat) : State := (s.haltChannel c 1 0x07 0x0A).drainResets

/-- A bus error on the trailing read. -/
def State.trailError (s : State) (c : Nat) (x : Xfer) : State :=
  let s := s.wrPair Reg.DMA_ERR_ADDR_LO_VALUE Reg.DMA_ERR_ADDR_HI_VALUE x.lastWritten c
  if x.trailTries < s.rd Reg.DMA_CTL_RETRY c then
    (s.onXfer c fun x => { x with trailTries := x.trailTries + 1, trailFailed := true }).countRetry c
  else s.busHalt c

/-- A bus error on the read of burst `b` in flight. -/
def State.burstError (s : State) (c : Nat) (x : Xfer) (b : Nat) (u : Burst) : State :=
  let s := s.wrPair Reg.DMA_ERR_ADDR_LO_VALUE Reg.DMA_ERR_ADDR_HI_VALUE (x.sourceByte u.first) c
  let retry := decide (u.tries < s.rd Reg.DMA_CTL_RETRY c) && x.stop.isNone
  let s := s.onXfer c fun x =>
    { x with bursts := x.bursts.set b { u with failed := true, tries := u.tries + retry.toNat } }
  if retry then s.countRetry c else if x.stop.isSome then s.stopIfDrained c else s.busHalt c

/-- DMA_BUS_ERROR: the read of burst `b` in flight on channel `c`, oldest first, or the trailing read, meets a bus
error: a retry is due, or the channel halts (R391, R392). -/
def dmaBusError (c b : Nat) (s : State) : State :=
  match (s.channel c).current with
  | none => s
  | some x =>
    if x.trailing then if x.trailFailed || x.trailed then s else s.trailError c x
    else
      match x.bursts[b]? with
      | some u => if u.failed || u.data.isSome then s else s.burstError c x b u
      | none => s

def execDmaBusError (c : Fin 64) (b : Fin 8) (s : State) : Host.Outcome State Fault Refusal :=
  .next (s.powered fun s => dmaBusError c.val b.val s)

/-- DMA_RETRY: the failing read request of burst `b`, or the writes of native completion with their trailing read, are
issued again (R391). -/
def dmaRetry (c b : Nat) (s : State) : State :=
  match (s.channel c).current with
  | none => s
  | some x =>
    if x.stop.isSome then s
    else if x.trailFailed then
      let s := s.each x.writes fun s w => s.emit (.hostWrite (tenantOf x.queue) w.1 w.2)
      (s.onXfer c fun x => { x with trailFailed := false }).readTrailing x
    else
      match x.bursts[b]? with
      | some u =>
        if u.failed then (s.onXfer c fun x => { x with bursts := x.bursts.set b { u with failed := false } }).readBurst x u
        else s
      | none => s

def execDmaRetry (c : Fin 64) (b : Fin 8) (s : State) : Host.Outcome State Fault Refusal :=
  .next (s.powered fun s => dmaRetry c.val b.val s)

/-! ## Completion and commands (R392, R393) -/

/-- DMA_TRANSFER_COMPLETE: every write of the transfer has been issued, and its trailing read has returned where it has
one: it completes OK and the next waiting transfer begins (R393). -/
def dmaTransferComplete (c : Nat) (s : State) : State :=
  match (s.channel c).current with
  | none => s
  | some x =>
    if x.payload || x.stop.isSome || x.issued != x.total || !x.bursts.isEmpty || (x.trailing && !x.trailed) then s
    else (s.finishXfer c x 0 (min (2 ^ 32 - 1) x.issued) (s.xferDetail c x)).drainResets

def execDmaTransferComplete (c : Fin 64) (s : State) : Host.Outcome State Fault Refusal :=
  .next (s.powered fun s => dmaTransferComplete c.val s)

/-- DMA_CLEAR: a HALTED channel becomes IDLE, by its holder or by tenant 0 (R392). -/
def dmaClear (agent c : Nat) (s : State) : State :=
  if s.rd Reg.DMA_STATUS_STATE c = 2 ∧ (s.holds agent c ∨ agent = 0 ∨ 16 ≤ agent) then
    (((s.wr Reg.DMA_STATUS_STATE 0 c).wr Reg.DMA_STATUS_CAUSE 0 c).wr Reg.DMA_STATUS_RETRIES 0 c).beginNext c
  else s

def execDmaClear (agent : Agent) (c : Fin 64) (s : State) : Host.Outcome State Fault Refusal :=
  .next (s.powered fun s => dmaClear agent c.val s)

/-- DMA_ABORT: the channel's transfers complete ABORTED; a HALTED channel takes no notice (R392, R396). -/
def dmaAbort (c : Nat) (s : State) : State :=
  if s.rd Reg.DMA_STATUS_STATE c = 2 then s
  else (((s.dropWaiting c 0x0A fun _ => true).wr Reg.DMA_STATUS_STATE 0 c).stopXfer c 0x0A).drainResets

def execDmaAbort (c : Fin 64) (s : State) : Host.Outcome State Fault Refusal :=
  .next (s.powered fun s => dmaAbort c.val s)

/-- DMA_PAIR_READ: a read of DMA_ERR_ADDR_LO (R397). -/
def dmaPairRead (agent c sub width : Nat) (s : State) : State :=
  s.readPair agent (0x800 + c) 0x2C sub width (s.rdPair Reg.DMA_ERR_ADDR_LO_VALUE Reg.DMA_ERR_ADDR_HI_VALUE c)

def execDmaPairRead (agent : Agent) (c : Fin 64) (sub : Fin 4) (width : Nat) (s : State) :
    Host.Outcome State Fault Refusal := .next (s.powered fun s => dmaPairRead agent c.val sub width s)

end Sys2Proof.Machine
end

