-- ==== Sys2Proof/Machine/Interrupts.lean ====
section
/-!
DEFINITION. The interrupt controllers' commands (R399 to R410): events, coalescing timeouts, the MSI-X message, claims,
completions, and the set and clear registers.  Controller 0 to 15 is a tenant's, 16 is management's.
-/

namespace Sys2Proof.Machine

/-- IC_EVENT: an event on a source (R399 to R401). -/
def icEventCmd (c src : Nat) (s : State) : State := s.icRaise c src

def execIcEvent (c : Fin 17) (src : Fin 1024) (s : State) : Host.Outcome State Fault Refusal :=
  .next (s.powered fun s => icEventCmd c.val src.val s)

/-- IC_COALESCE_TIMEOUT: the tick of R401 for a source. -/
def icCoalesceTimeout (c src : Nat) (s : State) : State := s.withIc (icTimeout c src s.tb.ns)

def execIcCoalesceTimeout (c : Fin 17) (src : Fin 1024) (s : State) : Host.Outcome State Fault Refusal :=
  .next (s.powered fun s => icCoalesceTimeout c.val src.val s)

/-- MSIX_SEND: the message of a rise is issued (R402). -/
def msixSend (c : Nat) (s : State) : State := s.withIc (icSend c)

def execMsixSend (c : Fin 17) (s : State) : Host.Outcome State Fault Refusal :=
  .next (s.powered fun s => msixSend c.val s)

/-- MSIX_VECTOR_USABLE: the vector of function `c` takes settings (R402). -/
def msixVectorUsable (c : Nat) (m : Msix) (s : State) : State := s.withIc (icVector c m)

def execMsixVectorUsable (c : Tenant) (enable functionMask vectorMask : Bool) (address : BitVec 64) (data : Word) (s : State) :
    Host.Outcome State Fault Refusal :=
  .next (s.powered fun s => msixVectorUsable c.val ⟨enable, functionMask, vectorMask, false, address.toNat, data.toNat⟩ s)

/-- A claim: its value, and the state after it (R403). -/
def State.claim (s : State) (c : Nat) : State × Nat :=
  match if s.nt.ic.rd Reg.IC_CTL_EN c = 1 then s.nt.ic.best c else none with
  | some src => (s.withIc (icClaim c src), src)
  | none =>
    ((s.withIc fun x => (x.1.wr Reg.IC_SPURIOUS_COUNT (x.1.rd Reg.IC_SPURIOUS_COUNT c + 1) c, x.2)).raise Ev.IC_SPURIOUS c,
      0x3FF)

/-- IC_CLAIM: a read of IC_CLAIM of controller `c` (R403). -/
def icClaimRead (agent c sub width : Nat) (s : State) : State :=
  s.readAccess agent (0x840 + c) 0x24 sub width (fun s => s.claim c) fun s => (s, 0)

def execIcClaim (agent : Agent) (c : Fin 17) (sub : Fin 4) (width : Nat) (s : State) : Host.Outcome State Fault Refusal :=
  .next (s.powered fun s => icClaimRead agent c.val sub width s)

/-- IC_COMPLETE of a source (R403). -/
def icCompleteWrite (c src : Nat) (s : State) : State :=
  if s.nt.ic.bit Reg.IC_INSERVICE_BITS c src then s.withIc (icComplete c src) else s.raise Ev.IC_COMPLETE_IGNORED c

def execIcComplete (c : Fin 17) (src : Fin 1024) (s : State) : Host.Outcome State Fault Refusal :=
  .next (s.powered fun s => icCompleteWrite c.val src.val s)

/-- IC_SET: one event on a source; 1,022 and 1,023 are ignored (R404). -/
def icSetWrite (c src : Nat) (s : State) : State := if 1022 ≤ src then s else s.icRaise c src

def execIcSet (c : Fin 17) (src : Fin 1024) (s : State) : Host.Outcome State Fault Refusal :=
  .next (s.powered fun s => icSetWrite c.val src.val s)

/-- IC_CLEAR: a source's request is withdrawn; 1,022 and 1,023 are ignored (R404). -/
def icClearWrite (c src : Nat) (s : State) : State := if 1022 ≤ src then s else s.withIc (icClear c src)

def execIcClear (c : Fin 17) (src : Fin 1024) (s : State) : Host.Outcome State Fault Refusal :=
  .next (s.powered fun s => icClearWrite c.val src.val s)

/-- A write of a controller's own registers (IC_CTL, IC_PROF, IC_SRC) keeps the request at what R402 and R406 say. -/
def State.icRegister (s : State) (p o v : Nat) : State :=
  let c := p - 0x840
  let v := if o = 0x7FC then v % 2 ^ 24 else v
  s.withIc fun x =>
    icUpdate c ((fieldsAt p o).foldl (fun (ic : Interrupts) f =>
      if f.1.access = .rw then ic.wr f.1 (f.1.stored (bitsOf v f.1.lo f.1.width)) c f.2.2.1 else ic) x.1, x.2)

end Sys2Proof.Machine
end

