-- ==== Sys2Proof/Machine/Sha.lean ====
section
/-!
DEFINITION. SHA-256, SHA-512 and SHA-384 of FIPS 180-4 over a list of bytes (the configuration digest of R543, the image
hash of R471).  The constants are computed from the roots of the first primes, as that standard defines them.
-/

namespace Sys2Proof.Machine

/-- The first 80 primes. -/
def shaPrimes : List Nat :=
  [2, 3, 5, 7, 11, 13, 17, 19, 23, 29, 31, 37, 41, 43, 47, 53, 59, 61, 67, 71, 73, 79, 83, 89, 97, 101, 103, 107, 109,
   113, 127, 131, 137, 139, 149, 151, 157, 163, 167, 173] ++
  [179, 181, 191, 193, 197, 199, 211, 223, 227, 229, 233, 239, 241, 251, 257, 263, 269, 271, 277, 281, 283, 293, 307,
   311, 313, 317, 331, 337, 347, 349, 353, 359, 367, 373, 379, 383, 389, 397, 401, 409]

/-- The greatest number whose `k`-th power is at most `n`, found bit by bit from bit `b`. -/
def rootFrom (k n : Nat) : Nat → Nat → Nat
  | 0, r => r
  | b + 1, r => rootFrom k n b (if (r + 2 ^ b) ^ k ≤ n then r + 2 ^ b else r)

/-- The first `w` fraction bits of the `k`-th root of `p`. -/
def rootBits (k w p : Nat) : Nat := rootFrom k (p * 2 ^ (k * w)) (w + 8) 0 % 2 ^ w

/-- The parameters of one member of the family: word width, round constants, rotation amounts. -/
structure ShaKind where
  w : Nat
  consts : List Nat
  big0 : List Nat
  big1 : List Nat
  small0 : List Nat
  small1 : List Nat

/-- SHA-256's parameters. -/
def sha256Kind : ShaKind :=
  ⟨32, (shaPrimes.take 64).map (rootBits 3 32), [2, 13, 22], [6, 11, 25], [7, 18, 3], [17, 19, 10]⟩

/-- SHA-512's and SHA-384's parameters. -/
def sha512Kind : ShaKind :=
  ⟨64, shaPrimes.map (rootBits 3 64), [28, 34, 39], [14, 18, 41], [1, 8, 7], [19, 61, 6]⟩

/-- Rotation right of a word. -/
def rotr (w n x : Nat) : Nat := (x >>> n ||| x <<< (w - n)) % 2 ^ w

/-- Σ: the exclusive or of three rotations. -/
def shaBig (w : Nat) (l : List Nat) (x : Nat) : Nat :=
  rotr w (l.getD 0 0) x ^^^ rotr w (l.getD 1 0) x ^^^ rotr w (l.getD 2 0) x

/-- σ: two rotations and a shift. -/
def shaSmall (w : Nat) (l : List Nat) (x : Nat) : Nat :=
  rotr w (l.getD 0 0) x ^^^ rotr w (l.getD 1 0) x ^^^ x >>> l.getD 2 0

/-- The message schedule's next words; the last 16 words stand newest last. -/
def shaSchedule (k : ShaKind) : Nat → List Nat → List Nat
  | 0, _ => []
  | n + 1, l =>
    let x := (shaSmall k.w k.small1 (l.getD 14 0) + l.getD 9 0 + shaSmall k.w k.small0 (l.getD 1 0) + l.getD 0 0) % 2 ^ k.w
    x :: shaSchedule k n (l.drop 1 ++ [x])

/-- One round on the eight working variables. -/
def shaRound (k : ShaKind) (v : List Nat) (x : Nat × Nat) : List Nat :=
  let g := fun n => v.getD n 0
  let m := 2 ^ k.w
  let ch := (g 4 &&& g 5) ^^^ ((m - 1 - g 4) &&& g 6)
  let maj := (g 0 &&& g 1) ^^^ (g 0 &&& g 2) ^^^ (g 1 &&& g 2)
  let t1 := g 7 + shaBig k.w k.big1 (g 4) + ch + x.1 + x.2
  let t2 := shaBig k.w k.big0 (g 0) + maj
  [(t1 + t2) % m, g 0, g 1, g 2, (g 3 + t1) % m, g 4, g 5, g 6]

/-- One block on the hash value. -/
def shaBlock (k : ShaKind) (h : List Nat) (block : List Nat) : List Nat :=
  let ws := block ++ shaSchedule k (k.consts.length - 16) block
  let v := (k.consts.zip ws).foldl (shaRound k) h
  (h.zip v).map fun e => (e.1 + e.2) % 2 ^ k.w

/-- A big-endian number of bytes. -/
def ofBytesBE (l : List Nat) : Nat := l.foldl (fun a b => 256 * a + b % 256) 0

/-- The low `n` bytes of a number, most significant first. -/
def bytesBE (n v : Nat) : List Nat := (leBytes n v).reverse

/-- Pieces of `n` elements; `fuel` bounds their number. -/
def chunks (n : Nat) : Nat → List Nat → List (List Nat)
  | 0, _ => []
  | f + 1, l => if l.isEmpty then [] else l.take n :: chunks n f (l.drop n)

/-- The hash of `bytes` from the initial value `iv`, as `out` bytes. -/
def shaHash (k : ShaKind) (iv : List Nat) (out : Nat) (bytes : List Nat) : List Nat :=
  let size := 2 * k.w
  let lenBytes := k.w / 4
  let n := bytes.length
  let zeros := (size - (n + 1 + lenBytes) % size) % size
  let padded := bytes ++ 0x80 :: List.replicate zeros 0 ++ bytesBE lenBytes (8 * n)
  let words := (chunks (k.w / 8) (padded.length / (k.w / 8) + 1) padded).map ofBytesBE
  let h := (chunks 16 (words.length / 16 + 1) words).foldl (shaBlock k) iv
  (h.flatMap (bytesBE (k.w / 8))).take out

/-- SHA-256, 32 bytes. -/
def sha256 (bytes : List Nat) : List Nat := shaHash sha256Kind ((shaPrimes.take 8).map (rootBits 2 32)) 32 bytes

/-- SHA-384, 48 bytes. -/
def sha384 (bytes : List Nat) : List Nat :=
  shaHash sha512Kind (((shaPrimes.drop 8).take 8).map (rootBits 2 64)) 48 bytes

end Sys2Proof.Machine
end

