-- ==== Sys2Proof/Machine/Ecdsa.lean ====
section
/-!
DEFINITION. ECDSA verification over the curve P-384 (FIPS 186-5), as R470 uses it for firmware images. The four public
keys in the boot ROM are constants without a body.
-/

namespace Sys2Proof.Machine

/-- The field prime of P-384. -/
def p384 : Nat := 2 ^ 384 - 2 ^ 128 - 2 ^ 96 + 2 ^ 32 - 1

/-- The order of the base point. -/
def n384 : Nat := 0xFFFFFFFFFFFFFFFFFFFFFFFFFFFFFFFFFFFFFFFFFFFFFFFFC7634D81F4372DDF581A0DB248B0A77AECEC196ACCC52973

/-- The base point. -/
def g384 : Nat × Nat :=
  (0xAA87CA22BE8B05378EB1C71EF320AD746E1D3B628BA79B9859F741E082542A385502F25DBF55296C3A545E3872760AB7,
   0x3617DE4A96262C6F5D9E98BF9292DC29F8F41DBD289A147CE9DA3113B5F0B8C00A60B1CE1D7E819D7A431D7C90EA0E5F)

/-- b ^ e mod m, bit by bit from the lowest of `fuel` bits. -/
def powMod (m : Nat) : Nat → Nat → Nat → Nat
  | 0, _, _ => 1 % m
  | f + 1, b, e => (if e % 2 = 1 then b else 1) * powMod m f (b * b % m) (e / 2) % m

/-- The inverse modulo a prime (Fermat). -/
def invMod (m a : Nat) : Nat := powMod m 384 (a % m) (m - 2)

/-- The sum of two points; none is the point at infinity. -/
def addPoints (a b : Option (Nat × Nat)) : Option (Nat × Nat) :=
  match a, b with
  | none, q => q
  | p, none => p
  | some x, some y =>
    if x.1 = y.1 ∧ (x.2 + y.2) % p384 = 0 then none
    else
      let l := if x.1 = y.1 then (3 * x.1 * x.1 + p384 - 3) * invMod p384 (2 * x.2) % p384
        else (y.2 + p384 - x.2) * invMod p384 (y.1 + p384 - x.1) % p384
      let u := (l * l + 2 * p384 - x.1 - y.1) % p384
      some (u, (l * (x.1 + p384 - u) + p384 - x.2) % p384)

/-- k times a point, bit by bit from the lowest of `fuel` bits. -/
def mulPoint : Nat → Nat → Option (Nat × Nat) → Option (Nat × Nat)
  | 0, _, _ => none
  | f + 1, k, p => addPoints (if k % 2 = 1 then p else none) (mulPoint f (k / 2) (addPoints p p))

/-- The signature (r, s) of the hash value `e` verifies under the public key `q`. -/
def ecdsaVerify (q : Nat × Nat) (e r s : Nat) : Bool :=
  if r = 0 ∨ n384 ≤ r ∨ s = 0 ∨ n384 ≤ s then false
  else
    let w := invMod n384 s
    match addPoints (mulPoint 384 (e * w % n384) (some g384)) (mulPoint 384 (r * w % n384) (some q)) with
    | some x => x.1 % n384 == r
    | none => false

end Sys2Proof.Machine
end

