-- ==== Sys2Proof/Machine/Products.lean ====
section
/-!
DEFINITION. The meanings of the chapter "Measurements, previews and crops" (R237 to R261): colour-bar patches,
registration marks, preview lines and crops around blobs.
-/

namespace Sys2Proof.Machine

/-! ## What a product sees of the output lines -/

/-- An output pixel is sound (R237). -/
def Pixel.sound (p : Pixel) : Bool := p.flags % 8 == 0 && !decide (1 ≤ p.code ∧ p.code ≤ 11)

/-- The first line that no product sees: after a run stop the lines that were not emitted do not come (R257). -/
def State.linesEnd (s : State) : Nat := s.mp.stopAt.getD (s.lanesNext.foldl min s.lt.line)

/-- Line `y` reached lane `k`: it was neither skipped nor lost to an overrun or a fault (R227). -/
def State.reached (s : State) (y k : Nat) : Bool :=
  !(s.line y).codes.any fun e => (e.1 == 12 || e.1 == k) && (e.2 == 2 || e.2 == 3 || e.2 == 5)

/-- The lane that emits position `x` of line `y`. -/
def State.laneOf (s : State) (y x : Nat) : Option Nat :=
  (List.range 12).find? fun k => decide ((s.laneSpan k y).1 ≤ x) && decide (x < (s.laneSpan k y).1 + (s.laneSpan k y).2)

/-- The colours at (x, y) of a line that reached its lane. -/
def State.takenPixel (s : State) (y x : Nat) : Option (List Nat) :=
  (s.laneOf y x).bind fun k => if s.reached y k then (s.outAt y x).map fun e => e.2.1.rgb else none

/-- A pixel of a preview or a crop: 6 bytes, or 3 bytes of 8-bit colours (R250, R251). -/
def pixelBytes (format : Nat) (rgb : List Nat) : List Nat :=
  if format = 0 then rgb.flatMap (leBytes 2) else rgb.map fun v => min 255 ((v * 255 + 28672) / 57344)

/-- The words of a record: its header of 16 words and a payload, padded to 64 bytes (R238). -/
def streamRecord (header : List Nat) (payload : List Nat) : List Nat :=
  let w := header ++ bytesToWords payload
  w ++ List.replicate ((16 - w.length % 16) % 16) 0

/-- The registers of product queue `q`: 0 MEAS_Q, 1 PREV_Q, 2 CROP_Q (R258). -/
def State.stageProduct (s : State) (q kind : Nat) (words : List Nat) : State :=
  s.stage (s.on Reg.PROD_Q_VALID 0 q) { queue := s.rd Reg.PROD_Q_QUEUE 0 q, kind := kind, words := words }

/-! ## Windows in the repeats of the grid (R240, R244) -/

/-- The fields of an entry that place its window: enabled, OFF, and how many lines after y_f its last line ends. -/
structure Entry where
  en : Bool
  off : Nat
  h : Nat

/-- The repeat whose window of entry `e` begins at line `y` of grid `g` (R240). -/
def Entry.repeatAt (e : Entry) (g : Grid) (y : Nat) : Option Nat :=
  if e.en && g.en && g.repeat_ != 0 && decide (g.y0 + e.off ≤ y) && (y - g.y0 - e.off) % g.repeat_ == 0 then
    some ((y - g.y0 - e.off) / g.repeat_)
  else none

/-- The next line from `y` on, within `n` lines, at which a window begins: the line and its repeat. -/
def State.nextWindow (s : State) (entry : State → Entry) : Nat → Nat → Option (Nat × Nat)
  | 0, _ => none
  | n + 1, y =>
    let cfg := s.atLine y
    match (entry cfg).repeatAt (gridOf cfg.rd) y with
    | some k => some (y, k)
    | none => State.nextWindow s entry n (y + 1)

/-- The last line of a window that would end at `last`: a grid commit or the run stop cuts it short (R257). -/
def State.windowEnd (s : State) (first last : Nat) : Nat × Bool :=
  let cut := ((List.range (last - first)).map (first + 1 + ·)).find? fun y =>
    gridOf (s.atLine y).rd != gridOf (s.atLine (y - 1)).rd
  let l := match cut with
    | some y => y - 1
    | none => last
  let l := match s.mp.stopAt with
    | some e => min l (e - 1)
    | none => l
  (l, decide (l < last))

/-- A window that is measured now: first line, repeat, last line, cut short; none while it has not ended. -/
def State.windowDue (s : State) (entry : State → Entry) (from' : Nat) : Option (Nat × Nat × Nat × Bool) :=
  match s.nextWindow entry (s.linesEnd - from') from' with
  | none => none
  | some (y, k) =>
    let e := s.windowEnd y (y + max 1 (entry (s.atLine y)).h - 1)
    if e.1 < s.linesEnd then some (y, k, e.1, e.2) else none

/-- The emitted pixels of a window: (x, y) with line, pixel and token; thinned lines pass it by (R437). -/
def State.windowPixels (s : State) (y0 y1 x0 x1 : Nat) : List (Nat × Nat × Pixel × Token) :=
  let ys := ((List.range (y1 + 1 - y0)).map (y0 + ·)).filter fun y => !(s.line y).thinned
  ys.flatMap fun y => ((List.range (x1 + 1 - x0)).map (x0 + ·)).filterMap fun x =>
    (s.outAt y x).map fun e => (x, y, e.2.1, e.2.2)

/-- The lines of a window ran under more than one generation. -/
def State.genMixed (s : State) (y0 y1 : Nat) : Bool :=
  (List.range (y1 - y0)).any fun i => s.genAt (y0 + i) != s.genAt (y0 + i + 1)

/-- Part of the range of x lies beyond the device's output width. -/
def State.partOutside (s : State) (x0 x1 y : Nat) : Bool := decide (x0 < s.xFirst) || decide (s.xLast (s.atLine y) < x1)

/-! ## Patches (R240 to R243) -/

/-- The patch table entry `n`. -/
def patchEntry (n : Nat) (cfg : State) : Entry :=
  { en := cfg.on Reg.MP_CTL_PATCH_EN && cfg.on Reg.PATCH_EN 0 n, off := cfg.rd Reg.PATCH_OFF 0 n
    h := cfg.rd Reg.PATCH_H 0 n - cfg.rd Reg.PATCH_INSET 0 n }

/-- Mean and deviation of one colour (R242). -/
def meanOf (n s : Nat) : Nat := if n = 0 then 0 else (s + n / 2) / n
def deviation (n s ss : Nat) : Nat := if n = 0 then 0 else min 65535 (isqrt (((n * ss - s * s) * 256) / (n * n)))

/-- The patch record (R242, R243). -/
def State.patchRecord (s : State) (n y k last : Nat) (cut : Bool) : List Nat :=
  let cfg := s.atLine y
  let last' := s.atLine last
  let inset := cfg.rd Reg.PATCH_INSET 0 n
  let x0 := cfg.rd Reg.PATCH_X0 0 n + inset
  let x1 := cfg.rd Reg.PATCH_X0 0 n + cfg.rd Reg.PATCH_W 0 n - 1 - inset
  let px := (s.windowPixels (y + inset) last x0 x1).filter fun e => e.2.2.1.sound
  let ref := px.filter fun e => !e.2.2.2.absent
  let cnt := px.length
  let rn := ref.length
  let scan : List (List Nat) := (List.range 3).map fun (c : Nat) => px.map fun e => e.2.2.1.rgb.getD c 0
  let refs : List (List Nat) := (List.range 3).map fun (c : Nat) => ref.map fun e => e.2.2.2.rgb.getD c 0
  let mean := scan.map fun (l : List Nat) => meanOf cnt l.sum
  let sd := scan.map fun (l : List Nat) => deviation cnt l.sum (l.map fun (v : Nat) => v * v).sum
  let rm := refs.map fun (l : List Nat) => meanOf rn l.sum
  let cls := cfg.rd Reg.PATCH_CLASS 0 n
  let some' := rn != 0
  let dl : Int := if some' then (luma mean : Int) - luma rm else 0
  let da := if some' then chromaA mean - chromaA rm else 0
  let db := if some' then chromaB mean - chromaB rm else 0
  let m := fun (l : List Nat) (i : Nat) => l.getD i 0
  let d16 := fun (v : Int) => low 16 (sat v (-32768) 32767)
  recordWords 16
    [(0, 0, 8, 0x25), (0, 8, 8, 1), (0, 16, 4, cls), (0, 20, 1, (decide (cnt < last'.rd Reg.PATCH_MIN_PIXELS)).toNat),
     (0, 21, 1, (s.partOutside x0 x1 y).toNat), (0, 22, 1, cut.toNat), (0, 23, 1, (some' && rn == cnt).toNat),
     (0, 24, 1, (s.genMixed (y + inset) last).toNat), (4, 0, 16, cfg.rd Reg.PATCH_ID 0 n), (4, 16, 6, n), (8, 0, 32, y),
     (0xC, 0, 16, y / 2 ^ 32), (0x10, 0, 32, k), (0x14, 0, 32, cnt), (0x18, 0, 16, m mean 0), (0x18, 16, 16, m mean 1),
     (0x1C, 0, 16, m mean 2), (0x1C, 16, 16, m sd 0), (0x20, 0, 16, m sd 1), (0x20, 16, 16, m sd 2), (0x24, 0, 16, m rm 0),
     (0x24, 16, 16, m rm 1), (0x28, 0, 16, m rm 2), (0x28, 16, 16, if some' then last'.weighted cls dl da db else 0),
     (0x2C, 0, 16, d16 dl), (0x2C, 16, 16, d16 da), (0x30, 0, 16, d16 db), (0x34, 0, 32, s.genAt last),
     (0x38, 0, 32, (s.line last).time)]

/-- PATCH_MEASURED: the next patch of entry `n` has ended; its record is staged (R240 to R243). -/
def patchMeasured (n : Nat) (s : State) : State :=
  match s.windowDue (patchEntry n) (sget s.mp.patchFrom n) with
  | none => s
  | some (y, k, last, cut) =>
    let s := { s with mp := { s.mp with patchFrom := sput s.mp.patchFrom n (y + 1) } }
    (s.when cut (·.raise Ev.PROD_TRUNC)).stageProduct 0 5 (s.patchRecord n y k last cut)

def execPatchMeasured (n : Fin 64) (s : State) : Host.Outcome State Fault Refusal :=
  .next (s.powered fun s => patchMeasured n.val s)

/-- A patch entry that a commit sets is refused (R241); `f` gives its fields, `rep` IMP_REPEAT. -/
def patchRefused (f : Row → Nat) (rep : Nat) : Bool :=
  let w := f Reg.PATCH_W
  let h := f Reg.PATCH_H
  let i := f Reg.PATCH_INSET
  f Reg.PATCH_EN != 0 && (w == 0 || h == 0 || decide (4096 < w) || decide (4096 < h) || decide (w ≤ 2 * i) ||
    decide (h ≤ 2 * i) || decide (rep < f Reg.PATCH_OFF + h))

/-! ## Marks (R244 to R248) -/

/-- The mark table entry `n`. -/
def markEntry (n : Nat) (cfg : State) : Entry :=
  { en := cfg.on Reg.MP_CTL_MARK_EN && cfg.on Reg.MARK_EN 0 n, off := cfg.rd Reg.MARK_OFF 0 n, h := cfg.rd Reg.MARK_H 0 n }

/-- A mark entry that a commit sets is refused (R241, R244). -/
def markRefused (f : Row → Nat) (rep : Nat) : Bool :=
  let w := f Reg.MARK_W
  let h := f Reg.MARK_H
  f Reg.MARK_EN != 0 && (w == 0 || h == 0 || decide (512 < w) || decide (512 < h) || decide (rep < f Reg.MARK_OFF + h))

/-- The ink that a colour is classified as: the least distance within its radius, the lowest number on a tie (R245). -/
def State.inkOf (cfg : State) (inks : Nat) (rgb : List Nat) : Option Nat :=
  ((List.range 8).foldl (fun (b : Option (Nat × Nat)) i =>
    if !inks.testBit i then b
    else
      let d := cfg.distance (cfg.rd Reg.INK_CLASS 0 i) rgb
        [cfg.rd Reg.INK_RED 0 i, cfg.rd Reg.INK_GREEN 0 i, cfg.rd Reg.INK_BLUE 0 i]
      if cfg.rd Reg.INK_RADIUS 0 i < d then b
      else
        match b with
        | none => some (d, i)
        | some x => if d < x.1 then some (d, i) else b) none).map (·.2)

/-- A reference pixel carries ink plane `i` (R246). -/
def carriesPlane (format byte i : Nat) : Bool :=
  if format = 1 then byte.testBit i else if format = 2 then decide (i ≤ 3) && bitsOf byte (2 * i) 2 != 0 else false

/-- The byte of the unwarped job grid at output position (x, y): none where the line is not present, and none inside
where the position lies outside the reference (R246). -/
def State.gridByte (s : State) (y x : Nat) : Option (Option Nat) :=
  (s.jobAt y).bind fun j =>
    if y < j.y0 then none
    else
      (tfind (j.lineOf y) j.lines).map fun l =>
        let p : Int := (x : Int) - j.x0
        if p < 0 ∨ (j.fx * j.width : Nat) ≤ p then none else some (byteAt l (p.toNat / j.fx))

/-- Line `y` has a present reference line of format B (R246). -/
def State.planesAt (s : State) (y : Nat) : Bool :=
  match s.jobAt y with
  | some j => j.format != 0 && decide (j.y0 ≤ y) && (tfind (j.lineOf y) j.lines).isSome
  | none => false

/-- Count and centroid of a set of positions, lines counted from `yf` (R245). -/
def centroid (yf : Nat) (l : List (Nat × Nat)) : Nat × Nat × Nat :=
  let n := l.length
  if n = 0 then (0, 0, 0)
  else (n, (16 * (l.map (·.1)).sum + n / 2) / n, (16 * (l.map fun e => e.2 - yf).sum + n / 2) / n)

/-- The mark record (R245 to R248). -/
def State.markRecord (s : State) (n y k last : Nat) (cut : Bool) : List Nat :=
  let cfg := s.atLine y
  let x0 := cfg.rd Reg.MARK_X0 0 n
  let x1 := x0 + cfg.rd Reg.MARK_W 0 n - 1
  let inks := cfg.rd Reg.MARK_INKS 0 n
  let all := s.windowPixels y last x0 x1
  let sound := all.filter fun e => e.2.2.1.sound
  let cls := sound.map fun e => ((e.1, e.2.1), (s.atLine e.2.1).inkOf inks e.2.2.1.rgb)
  let format := fun (y : Nat) => ((s.jobAt y).map (·.format)).getD 0
  let grid := all.map fun e => ((e.1, e.2.1), s.gridByte e.2.1 e.1)
  let valid := (List.range (last + 1 - y)).all fun i => s.planesAt (y + i)
  let entry := fun (i : Nat) =>
    if !inks.testBit i then [0, 0, 0, 0]
    else
      let sc := centroid y ((cls.filter fun e => e.2 == some i).map (·.1))
      let rc := centroid y ((grid.filter fun e =>
        match e.2 with
        | some (some b) => carriesPlane (format e.1.2) b i
        | _ => false).map (·.1))
      [sc.2.1 % 2 ^ 24, rc.2.1 % 2 ^ 24, sc.2.2 % 2 ^ 14 + (rc.2.2 % 2 ^ 14) <<< 14, min 65535 sc.1 + min 65535 rc.1 <<< 16]
  recordWords 16
    [(0, 0, 8, 0x26), (0, 8, 8, 1), (0, 16, 8, inks), (0, 24, 1, cut.toNat), (0, 25, 1, valid.toNat),
     (0, 26, 1, (s.partOutside x0 x1 y).toNat), (4, 0, 16, cfg.rd Reg.MARK_ID 0 n), (4, 16, 5, n), (8, 0, 32, y),
     (0xC, 0, 16, y / 2 ^ 32), (0x10, 0, 32, k), (0x14, 0, 20, x0), (0x18, 0, 32, s.genAt last),
     (0x1C, 0, 32, (s.line last).time)] ++ (List.range 8).flatMap entry

/-- MARK_MEASURED: the next window of mark entry `n` has ended; its record is staged (R244 to R248). -/
def markMeasured (n : Nat) (s : State) : State :=
  match s.windowDue (markEntry n) (sget s.mp.markFrom n) with
  | none => s
  | some (y, k, last, cut) =>
    let s := { s with mp := { s.mp with markFrom := sput s.mp.markFrom n (y + 1) } }
    (s.when cut (·.raise Ev.PROD_TRUNC)).stageProduct 0 6 (s.markRecord n y k last cut)

def execMarkMeasured (n : Fin 32) (s : State) : Host.Outcome State Fault Refusal :=
  .next (s.powered fun s => markMeasured n.val s)

/-! ## The preview (R249 to R251) -/

/-- The fields that make the preview's geometry. -/
def prevFields : List Row :=
  [Reg.PREV_GEOM_FX, Reg.PREV_GEOM_FY, Reg.PREV_GEOM_FORMAT, Reg.PREV_GEOM_SKIP, Reg.PREV_X0_X, Reg.PREV_WIDTH_PIXELS]

/-- The geometry changes at line `y`. -/
def State.prevChange (s : State) (y : Nat) : Bool :=
  decide (0 < y) && prevFields.any fun r => (s.atLine y).rd r != (s.atLine (y - 1)).rd r

/-- x of the first preview pixel that covers a column of the device's output width (R249, R256). -/
def State.prevFirst (s : State) (cfg : State) : Nat :=
  let x0 := cfg.rd Reg.PREV_X0_X
  let fx := cfg.rd Reg.PREV_GEOM_FX
  x0 + (s.xFirst - x0) / fx * fx

/-- One past the last column of the preview. -/
def State.prevEnd (s : State) (cfg : State) : Nat :=
  let w := cfg.rd Reg.PREV_WIDTH_PIXELS
  let e := s.xLast cfg + 1
  if w = 0 then e else min e (cfg.rd Reg.PREV_X0_X + w)

/-- The preview pixels of a line under settings `cfg`. -/
def State.prevPixels (s : State) (cfg : State) : Nat :=
  min 49152 ((s.prevEnd cfg - s.prevFirst cfg + cfg.rd Reg.PREV_GEOM_FX - 1) / cfg.rd Reg.PREV_GEOM_FX)

/-- The pixels that preview pixel `i` is made of: those of its columns, in the lines of the block that reached the lane
(R250). -/
def State.prevBlock (s : State) (cfg : State) (first last i : Nat) : List (List Nat) :=
  let fx := cfg.rd Reg.PREV_GEOM_FX
  let xs := ((List.range fx).map (s.prevFirst cfg + i * fx + ·)).filter fun x => decide (x < s.prevEnd cfg)
  ((List.range (last + 1 - first)).map (first + ·)).flatMap fun y => xs.filterMap fun x => s.takenPixel y x

/-- The mean of the pixels of a block; 0 where it has none (R250). -/
def blockMean (px : List (List Nat)) : List Nat :=
  (List.range 3).map fun (c : Nat) => meanOf px.length (px.map fun (v : List Nat) => v.getD c 0).sum

/-- The preview record of the block of lines from `first` to `last`. -/
def State.prevRecord (s : State) (first last : Nat) : List Nat :=
  let cfg := s.atLine first
  let n := s.prevPixels cfg
  let lines := (((List.range (last + 1 - first)).map (first + ·)).filter fun y =>
    (List.range 12).any fun k => s.reached y k).length
  let fy := cfg.rd Reg.PREV_GEOM_FY
  let fmt := cfg.rd Reg.PREV_GEOM_FORMAT
  let time := (s.line first).time
  let blocks := (List.range n).map (s.prevBlock cfg first last)
  let gap := lines == 0 || blocks.any (·.isEmpty)
  streamRecord (recordWords 16
    [(0, 0, 8, 0x27), (0, 8, 8, 1), (0, 16, 1, fmt), (0, 17, 1, (decide (lines < fy)).toNat),
     (0, 18, 1, gap.toNat), (4, 0, 5, cfg.rd Reg.PREV_GEOM_FX), (4, 8, 5, fy), (8, 0, 32, first),
     (0xC, 0, 16, first / 2 ^ 32), (0xC, 16, 16, lines), (0x10, 0, 20, s.prevFirst cfg), (0x14, 0, 20, n),
     (0x18, 0, 16, s.mp.prevLost), (0x1C, 0, 32, s.genAt last), (0x20, 0, 32, time), (0x24, 0, 32, time / 2 ^ 32)])
    (blocks.flatMap fun b => pixelBytes fmt (blockMean b))

/-- A preview line that is not produced for want of capacity (R251, R257). -/
def State.prevShed (s : State) : State :=
  ({ s with mp := { s.mp with prevLost := satAdd 16 s.mp.prevLost 1 } }.inc Reg.PREV_DROP_COUNT).raise Ev.PROD_PREV_DROP

/-- PREVIEW_RECORD: the preview line in progress is complete; its record is staged if it is produced (R249 to R251). -/
def previewRecord (s : State) : State :=
  let first := s.mp.prevBase + s.mp.prevIndex * (s.atLine s.mp.prevBase).rd Reg.PREV_GEOM_FY
  let base := if s.prevChange first then first else s.mp.prevBase
  let j := if s.prevChange first then 0 else s.mp.prevIndex
  let cfg := s.atLine first
  let fy := cfg.rd Reg.PREV_GEOM_FY
  let change := ((List.range (fy - 1)).map (first + 1 + ·)).find? s.prevChange
  let last := match change with
    | some y => y - 1
    | none => first + fy - 1
  let last := match s.mp.stopAt with
    | some e => min last (e - 1)
    | none => last
  if s.linesEnd ≤ first ∨ s.linesEnd ≤ last then s
  else
    let next := match change with
      | some y => if y = last + 1 then (y, 0) else (base, j + 1)
      | none => (base, j + 1)
    let t := { s with mp := { s.mp with prevBase := next.1, prevIndex := next.2 } }
    if !cfg.on Reg.MP_CTL_PREV_EN || j % max 1 (cfg.rd Reg.PREV_GEOM_SKIP) != 0 then t
    else if 1 ≤ s.shedLevel then t.prevShed
    else
      let u := t.stageProduct 1 8 (s.prevRecord first last)
      if t.fr.staged.length < u.fr.staged.length then { u with mp := { u.mp with prevLost := 0 } } else u

def execPreviewRecord (s : State) : Host.Outcome State Fault Refusal := .next (s.powered fun s => previewRecord s)

/-! ## Crops (R252 to R255) -/

/-- CROP_TOKEN_REFILL: the rate limiter gains a token, up to BURST (R252). -/
def cropTokenRefill (s : State) : State :=
  if s.rd Reg.CROP_RATE_PER_S = 0 then s
  else { s with mp := { s.mp with tokens := min (s.rd Reg.CROP_RATE_BURST) (s.mp.tokens + 1) } }

def execCropTokenRefill (s : State) : Host.Outcome State Fault Refusal := .next (s.powered fun s => cropTokenRefill s)

/-- The crop record (R253, R255); `rows` lines are held. -/
def State.cropRecord (s : State) (c : Crop) (rows : Nat) (v : List Nat) : List Nat :=
  let ys := (List.range rows).map (c.y0 + ·)
  let xs := (List.range c.width).map (c.x0 + ·)
  let gap := ys.any fun y => xs.any fun x => (s.takenPixel y x).isNone
  let w := fun n => v.getD n 0
  streamRecord (recordWords 16
    [(0, 0, 8, 0x28), (0, 8, 8, 1), (0, 16, 1, c.format), (0, 17, 1, c.clipped.toNat),
     (0, 18, 1, (decide (rows < c.height)).toNat), (0, 19, 1, w 4), (0, 20, 4, w 3), (0, 24, 1, gap.toNat), (4, 0, 32, w 1),
     (8, 0, 32, c.y0), (0xC, 0, 16, c.y0 / 2 ^ 32), (0xC, 16, 16, w 0), (0x10, 0, 20, c.x0), (0x14, 0, 9, c.width),
     (0x14, 16, 9, rows), (0x18, 0, 32, w 2), (0x1C, 0, 16, w 2 / 2 ^ 32), (0x20, 0, 32, s.genAt (c.y0 + rows - 1)),
     (0x24, 0, 32, (s.line c.y0).time)])
    (ys.flatMap fun y => xs.flatMap fun x => pixelBytes c.format ((s.takenPixel y x).getD [0, 0, 0]))

/-- CROP_COMPLETE: crop buffer `n` holds its lines and its blob has closed: the crop is written, or discarded (R254). -/
def cropComplete (n : Nat) (s : State) : State :=
  match tfind n s.mp.crops with
  | none => s
  | some c =>
    match c.result with
    | none => s
    | some v =>
      let rows := match s.mp.stopAt with
        | some e => min c.height (e - c.y0)
        | none => c.height
      if s.linesEnd < c.y0 + rows then s
      else
        let t := { s with mp := { s.mp with crops := tdel n s.mp.crops } }
        if c.failOnly && v.getD 4 0 == 0 then t
        else
          let u := t.stageProduct 2 9 (s.cropRecord c rows v)
          if t.fr.staged.length < u.fr.staged.length then u.inc Reg.CROP_DONE_COUNT else u

def execCropComplete (n : Fin 6) (s : State) : Host.Outcome State Fault Refusal :=
  .next (s.powered fun s => cropComplete n.val s)

/-! ## Runs (R257, R258) -/

/-- A run starts: the counters of the run are cleared and the preview base is line 0. -/
def State.prodStart (s : State) : State :=
  let s := [Reg.PREV_DROP_COUNT, Reg.CROP_SKIP_RATE, Reg.CROP_SKIP_BUSY, Reg.CROP_SHED_COUNT, Reg.CROP_DONE_COUNT,
    Reg.MEAS_DROP_PATCH, Reg.MEAS_DROP_MARK].foldl (fun s r => s.wr r 0) s
  { s with mp := { tokens := s.mp.tokens } }

/-- What is in progress when the run stops is written cut short (R257): patches, marks, the preview line, and the crops
whose blobs have closed. -/
def State.prodStop (s : State) : State :=
  let s := { s with mp := { s.mp with stopAt := some (s.lanesNext.foldl min s.lt.line) } }
  let s := s.each (List.range 64) fun s n => patchMeasured n (patchMeasured n s)
  let s := s.each (List.range 32) fun s n => markMeasured n (markMeasured n s)
  let s := previewRecord (previewRecord s)
  s.each (List.range 6) fun s n => cropComplete n s

end Sys2Proof.Machine
end

