-- ==== Sys2Proof/Machine/Pages.lean ====
section
/-!
DEFINITION. Pages and commits (R550 to R565): the page index with its header, grants, shadows and commit groups, the
acceptance of a commit and the line at which it takes effect; and the configuration digest of a cascade (R543), whose
fields a cascade commit holds.
-/

namespace Sys2Proof.Machine

/-! ## The page index (R550, R566) -/

/-- A row of R566: first page, last page, TYPE, PAGE_CAP.NEVER, PAGE_CAP.LEASE. -/
structure PageRow where
  first : Nat
  last : Nat
  type : Nat
  never : Bool := false
  lease : Bool := false
  deriving DecidableEq

/-- The rows of R566; the first that holds a page is the page's.  Pages 0x0020 and 0x0022 are one row, from which
PAGE_ID.INSTANCE of page 0x0022 is counted by R550: DEDUCED, assumption log 85. -/
def pageIndex : List PageRow :=
  [{ first := 0x000, last := 0x000, type := 0x01, never := true }, { first := 0x001, last := 0x007, type := 0x02, never := true },
   { first := 0x010, last := 0x01F, type := 0x03 }, { first := 0x021, last := 0x021, type := 0x04, never := true },
   { first := 0x020, last := 0x022, type := 0x04 },
   { first := 0x028, last := 0x029, type := 0x05 }, { first := 0x040, last := 0x04B, type := 0x06, lease := true },
   { first := 0x050, last := 0x05F, type := 0x07 }, { first := 0x080, last := 0x0E0, type := 0x08 },
   { first := 0x100, last := 0x10F, type := 0x09 }, { first := 0x120, last := 0x12B, type := 0x0A },
   { first := 0x140, last := 0x14F, type := 0x0B }, { first := 0x160, last := 0x16F, type := 0x0C },
   { first := 0x180, last := 0x18F, type := 0x0D }, { first := 0x1A0, last := 0x1AF, type := 0x0E },
   { first := 0x1C0, last := 0x1CF, type := 0x0F }] ++
  [{ first := 0x200, last := 0x203, type := 0x10, lease := true }, { first := 0x204, last := 0x207, type := 0x10 },
   { first := 0x220, last := 0x220, type := 0x11 }, { first := 0x221, last := 0x223, type := 0x11 },
   { first := 0x240, last := 0x240, type := 0x12 }, { first := 0x260, last := 0x267, type := 0x13, lease := true },
   { first := 0x268, last := 0x268, type := 0x13 }, { first := 0x300, last := 0x30F, type := 0x14, never := true },
   { first := 0x400, last := 0x7FF, type := 0x15 }, { first := 0x800, last := 0x83F, type := 0x16, lease := true },
   { first := 0x840, last := 0x84F, type := 0x17 }, { first := 0x850, last := 0x850, type := 0x17, never := true },
   { first := 0x900, last := 0x900, type := 0x18, never := true }, { first := 0x901, last := 0x90F, type := 0x18 },
   { first := 0x920, last := 0x92F, type := 0x19 }, { first := 0x940, last := 0x94F, type := 0x1A },
   { first := 0x980, last := 0x983, type := 0x1B }]

/-- The row of R566 that holds page `p`. -/
def pageRow (p : Nat) : Option PageRow := pageIndex.find? fun r => decide (r.first ≤ p) && decide (p ≤ r.last)

/-- A page that a chapter defines; the others are reserved: they read 0, their header too, and writes to them are ignored
(R8, R566). -/
def pageDefined (p : Nat) : Bool := (pageRow p).isSome && !(rowsOfPage p).isEmpty

/-- The page that holds a tenant's own registers, and the tenant (R552). -/
def pageOwner (p : Nat) : Option Nat :=
  if 0x400 ≤ p ∧ p < 0x800 then some ((p - 0x400) / 64)
  else if 0x840 ≤ p ∧ p < 0x850 then some (p - 0x840)
  else if 0x900 ≤ p ∧ p < 0x910 then some (p - 0x900)
  else none

/-- The page holds SH fields. -/
def pageShadowed (p : Nat) : Bool := (rowsOfPage p).any fun g => g.2.any fun r => decide (r.access = .sh)

/-- The SH fields of the page take effect at a frame or scan start (R267, R312). -/
def pageFramed (p : Nat) : Bool := decide (0x200 ≤ p ∧ p ≤ 0x203) || p == 0x240

/-- PAGE_STATUS.SHARED: two or more virtual functions map the page (R354). -/
def State.pageShared (s : State) (p : Nat) : Bool :=
  decide (2 ≤ (((List.range 16).drop 1).filter fun t => (s.slotOf t p).isSome).length)

/-- The tenant as which an agent is judged: management and the USB agent act as tenant 0. -/
def actsAs (agent : Nat) : Nat := if agent < 16 then agent else 0

/-! ## The configuration digest (R543) -/

/-- The listed fields of R543 apart from DEV_MODE. -/
def digestRows : List Row :=
  [Reg.REF_CTL_EN, Reg.REF_CTL_FORMAT, Reg.REF_CTL_RX, Reg.REF_CTL_RY, Reg.REF_CTL_BLUR_A, Reg.REF_CTL_CLASS_A,
   Reg.REF_JOB_TAG, Reg.REF_Y0_LO_VALUE, Reg.REF_Y0_HI_VALUE, Reg.REF_X0_VALUE, Reg.REF_WIDTH_PIXELS, Reg.REF_BLUR_H0,
   Reg.REF_BLUR_H1, Reg.REF_BLUR_H2, Reg.REF_BLUR_H3, Reg.REF_BLUR_H4, Reg.REF_BLUR_V0, Reg.REF_BLUR_V1,
   Reg.REF_BLUR_V2, Reg.REF_BLUR_V3, Reg.REF_BLUR_V4] ++
  [Reg.PRED_RED, Reg.PRED_GREEN, Reg.PRED_BLUE, Reg.PRED_CLASS, Reg.PRED_DC, Reg.PRED_PAPER, Reg.EXP_RED, Reg.EXP_GREEN,
   Reg.EXP_BLUE, Reg.COMP_CTL_EN, Reg.COMP_CTL_OPEN_EN, Reg.COMP_CTL_EDGE, Reg.COMP_LIMITS_BLOB_MAX_LINES,
   Reg.COMP_LIMITS_MAX_UNINSP, Reg.TOL_TH_BASE, Reg.TOL_TH_SLOPE, Reg.TOL_WL, Reg.TOL_WA, Reg.TOL_WB,
   Reg.TOL_FAIL_PEAK, Reg.TOL_FAIL_AREA] ++ gridFields ++ [Reg.ITEM_VALID, Reg.ITEM_BLOBS]

/-- A listed field counts as unused under the configuration `c` (R543); `n` is its index. -/
def digestUnused (c : State) (r : Row) (k n : Nat) : Bool :=
  if r.page = 0x160 then
    r != Reg.REF_CTL_EN && (!c.on Reg.REF_CTL_EN ||
      ((r == Reg.REF_CTL_BLUR_A || r == Reg.REF_CTL_CLASS_A) && c.on Reg.REF_CTL_FORMAT) ||
      (decide (0x40 ≤ r.offset) && !c.on Reg.REF_CTL_FORMAT && !c.on Reg.REF_CTL_BLUR_A))
  else if r.page = 0x161 then !c.on Reg.REF_CTL_FORMAT || (r != Reg.PRED_DC && c.on Reg.PRED_DC 0 n)
  else if r.page = 0x162 then c.on Reg.REF_CTL_FORMAT
  else if r.page = 0x1A2 then r != Reg.IMP_CTL_EN && !c.on Reg.IMP_CTL_EN
  else if r.page = 0x1A3 then
    !c.on Reg.IMP_CTL_EN || decide (c.rd Reg.IMP_GRID_COLS * c.rd Reg.IMP_GRID_ROWS ≤ 512 * k + n) ||
      (r == Reg.ITEM_BLOBS && !c.on Reg.ITEM_VALID k n)
  else false

/-- The word of the canonical string at page `p`, offset `o`. -/
def digestWord (mode : Nat) (c : State) (p o : Nat) : Nat :=
  if p = 0 then if o = 0x24 then mode else 0
  else
    (fieldsAt p o).foldl (fun w f =>
      if digestRows.contains f.1 && !digestUnused c f.1 f.2.1 f.2.2.1 then
        w + c.rd f.1 f.2.1 f.2.2.1 f.2.2.2 <<< f.1.lo else w) 0

/-- The pages of the digest in ascending order. -/
def digestPages : List Nat := [0x000, 0x160, 0x161, 0x162, 0x1A0, 0x1A1, 0x1A2] ++ (List.range 8).map (0x1A3 + ·)

/-- The digest of a mode and the SH fields in force (R543), 32 bytes. -/
def digestOf (mode : Nat) (force : Store) : List Nat :=
  let c : State := { force := force }
  sha256 (digestPages.flatMap fun p => (List.range 1016).flatMap fun i => wordBytes (digestWord mode c p (0x20 + 4 * i)))

/-- IK_DIGEST: the digest as of the last commit that took effect, 0 before the first (R543, R548). -/
def State.digest (s : State) : List Nat :=
  match s.ik.basis with
  | some b => digestOf b.1 b.2
  | none => List.replicate 32 0

/-- The digest is computed afresh (R543). -/
def State.freshDigest (s : State) : State :=
  { s with ik := { s.ik with basis := some (s.rd Reg.DEV_MODE_MODE, s.force) } }

/-- The field of a key: row, page instance and indexes. -/
def fieldOfKey (key : Nat) : Option (Row × Nat × Nat × Nat) :=
  (fieldsAt (key / 131072) (key % 131072 / 32)).find? fun f => f.1.lo == key % 32

/-- The key names a field that R543 lists. -/
def keyListed (key : Nat) : Bool :=
  match fieldOfKey key with
  | some f => digestRows.contains f.1
  | none => false

/-! ## Captured fields (R555) -/

/-- A captured field put into a store. -/
def putCaptured (t : Store) (f : Nat × Option Nat) : Store :=
  match f.2 with
  | some v => tput f.1 v t
  | none => tdel f.1 t

/-- The SH fields of the pages of the groups whose shadows differ from the values in force; a page whose domain is not
ON takes no part. -/
def State.capturedFields (s : State) (groups : List Nat) : List (Nat × Option Nat) :=
  let keys := s.shadow.map (·.1) ++ (s.force.map (·.1)).filter fun k => (tfind k s.shadow).isNone
  (keys.filter fun k =>
    tfind k s.shadow != tfind k s.force && groups.contains (s.rd Reg.PAGE_COMMIT_GROUP (k / 131072)) &&
      s.domain (domainOfPage (k / 131072)) == 2).map fun k => (k, tfind k s.shadow)

/-- The state seen with the captured fields in force. -/
def State.withFields (s : State) (fs : List (Nat × Option Nat)) : State := { s with force := fs.foldl putCaptured s.force }

/-- The captured fields other than those of `rows` at every index. -/
def withoutRows (rows : List Row) (fs : List (Nat × Option Nat)) : List (Nat × Option Nat) :=
  fs.filter fun f =>
    match fieldOfKey f.1 with
    | some x => !rows.contains x.1
    | none => true

/-- The fields of `rows` at index `n` are not among the captured ones that remain. -/
def withoutEntry (rows : List Row) (n : Nat) (fs : List (Nat × Option Nat)) : List (Nat × Option Nat) :=
  fs.filter fun f => !(rows.any fun r => r.key 0 n 0 == f.1)

/-- Some field of `rows` at index `n` is captured. -/
def capturesEntry (rows : List Row) (n : Nat) (fs : List (Nat × Option Nat)) : Bool :=
  rows.any fun r => fs.any fun f => f.1 == r.key 0 n 0

/-- The fields of a patch entry and of a mark entry. -/
def patchFields : List Row :=
  [Reg.PATCH_ID, Reg.PATCH_CLASS, Reg.PATCH_INSET, Reg.PATCH_EN, Reg.PATCH_X0, Reg.PATCH_W, Reg.PATCH_H, Reg.PATCH_OFF]
def markFields : List Row :=
  [Reg.MARK_ID, Reg.MARK_INKS, Reg.MARK_EN, Reg.MARK_X0, Reg.MARK_W, Reg.MARK_H, Reg.MARK_OFF]

/-- What blocks refuse of the captured fields at the commit's line: a job (R166), a grid (R220), reservations (R444),
patch and mark entries (R241). -/
def State.refuseFields (s : State) (fs : List (Nat × Option Nat)) : State × List (Nat × Option Nat) :=
  let a := if s.jobRefused (s.withFields fs).rd then
      (s.raise Ev.REF_JOB_REFUSED, withoutRows jobFields fs)
    else (s, fs)
  let grid := gridOf (s.withFields a.2).rd
  let b := if grid != gridOf s.rd && grid.refused then (a.1.raise Ev.COMP_GRID_REFUSED, withoutRows gridFields a.2) else a
  let c := if (withoutRows capFields b.2).length != b.2.length && s.capRefused (s.withFields b.2) then
      (b.1.raise Ev.CAP_ADMIT_REFUSED, withoutRows capFields b.2)
    else b
  let v := s.withFields c.2
  let rep := v.rd Reg.IMP_REPEAT_LINES
  let d := (List.range 64).foldl (fun (d : State × List (Nat × Option Nat)) n =>
    if capturesEntry patchFields n d.2 && patchRefused (fun r => v.rd r 0 n) rep then
      (d.1.raise Ev.PROD_TABLE_REFUSED, withoutEntry patchFields n d.2) else d) c
  (List.range 32).foldl (fun (d : State × List (Nat × Option Nat)) n =>
    if capturesEntry markFields n d.2 && markRefused (fun r => v.rd r 0 n) rep then
      (d.1.raise Ev.PROD_TABLE_REFUSED, withoutEntry markFields n d.2) else d) d

/-! ## A commit takes effect (R557 to R559) -/

/-- The blocks take up new settings from line `y`; `old` is the state before, `fs` the fields that changed. -/
def State.settingsTaken (s old : State) (y : Nat) (fs : List (Nat × Option Nat)) : State :=
  let lanes := (List.range 12).filter fun k => fs.any fun f => f.1 / 131072 == 0x120 + k
  let s := ((s.capAdmit.opalExchange).followOverlaps).tellDelays lanes
  let s := ((s.refEffect old y).regEffect old y).castReact
  let s := s.when (s.on Reg.PFE_STATUS_BUSY && !s.on Reg.PFE_CTL_EN) (·.pfeAbandon)
  s.when (!s.running) fun s =>
    s.each (List.range 12) fun s g =>
      let s :=
        if !s.on Reg.PAWN_CTL_SWAP g then s
        else
          let s := s.swapBanks g 0
          s.putGroup g { s.group g with flushDue := (s.group g).flushDue || (s.group g).unread.isSome }
      (if old.groupOn g && !s.groupOn g then s.disableGroup g else s).showLeds g

/-- The captured fields are in force from line `y`: what blocks refuse is left out, the settings before are kept for the
lines below, and DEV_GEN and the PAGE_GENs count the commit. -/
def State.applyFields (s : State) (fs : List (Nat × Option Nat)) (y : Nat) : State :=
  let r := s.refuseFields fs
  let old := r.1
  let e : Epoch := { line := if old.running || decide (0 < y) then y else old.lt.line, force := old.force, gen := old.rd Reg.DEV_GEN_GEN, roles := old.opal.roles,
                     mixes := if r.2.contains (Reg.OPAL_CTL_INSTALL.key 0 0 0, some 1) then
                         some (old.opal.mixes, old.opal.next)
                       else none,
                     overlaps := old.opal.overlaps, weights := old.weightsNow }
  let s := { old with epochs := if 0 < e.line || old.running then e :: old.epochs else old.epochs,
                      force := r.2.foldl putCaptured old.force }
  let g := (s.rd Reg.DEV_GEN_GEN + 1) % 2 ^ 32
  let s := s.wr Reg.DEV_GEN_GEN g
  let s := s.each r.2 fun s f => s.wr Reg.PAGE_GEN g (f.1 / 131072)
  (s.settingsTaken old y r.2).freshDigest

/-- Group `g` has an accepted commit that has not taken effect. -/
def State.groupBusy (s : State) (g : Nat) : Bool := s.commits.waiting.any fun c => c.groups.contains g

/-- Moves of pages that waited for commits of either group (R562). -/
def State.movePages (s : State) : State :=
  s.each s.commits.moves fun s m =>
    if s.groupBusy (m.2 - 1) || s.groupBusy (s.rd Reg.PAGE_COMMIT_GROUP m.1) then s
    else ({ s with commits := { s.commits with moves := tdel m.1 s.commits.moves } }).wr Reg.PAGE_COMMIT_GROUP (m.2 - 1) m.1

/-- The oldest accepted commit takes effect at line `y`. -/
def State.commitFirst (s : State) (y : Nat) : State :=
  match s.commits.waiting with
  | [] => s
  | c :: rest =>
    let s := { s with commits := { s.commits with waiting := rest } }
    let s := s.each c.groups fun s g => s.wr Reg.GROUP_BUSY 0 0 g
    let s := s.applyFields c.fields y
    let s := s.each c.groups fun s g => s.wr Reg.GROUP_GEN (s.rd Reg.DEV_GEN_GEN) 0 g
    (s.raise Ev.CMT_COMMIT_DONE).movePages

/-- The cascade commit's held fields take effect at line `y` (R544). -/
def State.cascadeEffect (s : State) (y : Nat) : State :=
  match s.ik.commit with
  | none => s
  | some c => ({ s with ik := { s.ik with commit := none, reports := [] } }).applyFields c.fields y

/-- The next commit that is due: every line below its own has been assigned, or the run has stopped (`stop`). -/
def State.commitStep (s : State) (stop : Bool) : Option State :=
  let own := s.commits.waiting.head?.map (·.line)
  let held := s.ik.commit.bind (·.line)
  let next := fun (l : Option Nat) => l.any fun n => stop || decide (n ≤ s.lt.line)
  let first := match own, held with
    | some a, some b => decide (a ≤ b)
    | some _, none => true
    | none, _ => false
  if first && next own then some (s.commitFirst (min (own.getD 0) s.lt.line))
  else if !first && next held then some (s.cascadeEffect (min (held.getD 0) s.lt.line))
  else if stop && own.isNone && s.ik.commit.isSome then some (s.cascadeEffect s.lt.line)
  else none

/-- Every commit that is due takes effect, in order (R559). -/
def State.commitsDue (stop : Bool) : Nat → State → State
  | 0, s => s
  | n + 1, s =>
    match s.commitStep stop with
    | some t => State.commitsDue stop n t
    | none => s

/-- How many commits can wait at most: one for each group, and one of the cascade. -/
def commitCount : Nat := 17

/-- COMMIT_EFFECT: accepted commits take effect at their line (R557). -/
def commitEffect (s : State) : State := s.commitsDue (!s.running) commitCount

def execCommitEffect (s : State) : Host.Outcome State Fault Refusal := .next (s.powered fun s => commitEffect s)

/-! ## Requests (R556) -/

/-- The cascade is in RUN, so that listed fields are committed on all devices together (R544). -/
def State.cascadeRun (s : State) : Bool := s.rd Reg.IK_STATUS_STATE == 4

/-- A page of the group holds a field that R543 lists. -/
def State.groupListed (s : State) (g : Nat) : Bool :=
  (digestPages.drop 1).any fun p => s.rd Reg.PAGE_COMMIT_GROUP p == g

/-- Why a request of the groups by a tenant is refused: reason and group. -/
def State.commitRefusal (s : State) (tenant : Nat) (groups : List Nat) : Option (Nat × Nat) :=
  groups.findSome? fun g =>
    if tenant ≠ 0 ∧ tenant ≠ s.rd Reg.GROUP_OWNER 0 g then some (1, g)
    else if s.groupBusy g then some (2, g)
    else if s.ik.commit.isSome && s.groupListed g then some (3, g)
    else none

/-- A request is refused, with its reason (R556). -/
def State.refuseCommit (s : State) (tenant : Nat) (r : Nat × Nat) : State :=
  ((((s.wr Reg.COMMIT_LAST_REASON r.1).wr Reg.COMMIT_LAST_GROUP r.2).wr Reg.COMMIT_LAST_TENANT tenant).raise
    Ev.CMT_COMMIT_REFUSED)

/-- What an accepted commit announces ahead of its line `y`: locks of images (R144, R146), bank swaps (R68), the pending
job (R167). -/
def State.announce (s : State) (fs : List (Nat × Option Nat)) (y : Nat) : State :=
  let sets := fun (r : Row) (k : Nat) => fs.contains (r.key k 0 0, some 1)
  let s := { s with opal := { s.opal with lockSet := s.opal.lockSet || sets Reg.OPAL_CTL_INSTALL 0,
                                          lockLin := s.opal.lockLin || sets Reg.OPAL_CTL_LIN_SWAP 0,
                                          lockWgt := s.opal.lockWgt || sets Reg.OPAL_CTL_WGT_SWAP 0 } }
  let s := s.each (List.range 12) fun s g =>
    if sets Reg.PAWN_CTL_SWAP g then (s.putGroup g { s.group g with swapAt := some y }).wr Reg.PAWN_STATUS_SWAP_PENDING 1 g
    else s
  s.refRequest (s.withFields fs).rd y

/-- A message of the leader to all devices (R537). -/
def State.tellAll (s : State) (type : Nat) (payload : List Nat) : State :=
  (s.when (s.on Reg.IKP_STATUS_UP 0) (·.emit (.ikito 0 type payload))).when (s.on Reg.IKP_STATUS_UP 1)
    (·.emit (.ikito 1 type payload))

/-- A cascade commit is refused: the held fields are discarded and keep their values in force (R544). -/
def State.cascadeRefused (s : State) : State :=
  let lined := (s.ik.commit.bind (·.line)).isSome
  (({ s with ik := { s.ik with commit := none, reports := [] } }).raise Ev.IK_COMMIT_REFUSED).when lined (·.refForget)

/-- The leader's line y_k of a cascade commit is known (R544). -/
def State.cascadeLine (s : State) (y : Nat) : State :=
  let s := s.wrPair Reg.IK_COMMIT_LINE_LO_VALUE Reg.IK_COMMIT_LINE_HI_VALUE y
  match s.ik.commit with
  | some c =>
    ({ s with ik := { s.ik with commit := some { c with line := some y } } }).refRequest (s.withFields c.fields).rd y
  | none => s

/-- The leader judges the reports that it has: all devices agree, or two differ (R544). -/
def State.judgeReports (s : State) : State :=
  match s.ik.reports with
  | [] => s
  | r :: rest =>
    if rest.any fun e => e.2 != r.2 then (s.tellAll 0x08 (r.2 ++ [1])).cascadeRefused
    else if rest.length + 1 < s.rd Reg.IK_STATUS_NDEV then s
    else
      let y := s.lt.line + 64
      ({ s with ik := { s.ik with reports := [] } }.tellAll 0x08 (r.2 ++ leBytes 6 y)).cascadeLine y

/-- A device's report of the digest that its held fields would give goes to the leader (R544); the leader keeps its
own. -/
def State.sendReport (s : State) (digest : List Nat) : State :=
  if s.leads then
    let s := if s.ik.reports.isEmpty then { s with ik := { s.ik with since := s.tb.ns } } else s
    ({ s with ik := { s.ik with reports := tput (s.rd Reg.IK_STATUS_POS) digest s.ik.reports } }).judgeReports
  else s.emit (.ikito (if s.rd Reg.IK_STATUS_POS < s.rd Reg.IK_STATUS_LEADER_POS then 1 else 0) 0x08 digest)

/-- The listed fields of a commit in RUN are held, and the digest that would result is reported (R544). -/
def State.holdFields (s : State) (fs : List (Nat × Option Nat)) : State :=
  if fs.isEmpty then s
  else
    let d := digestOf (s.rd Reg.DEV_MODE_MODE) (fs.foldl putCaptured s.force)
    ({ s with ik := { s.ik with commit := some { fields := fs, digest := d } } }).sendReport d

/-- An installation requested during a capture is refused (R144). -/
def State.refuseInstall (s : State) (fs : List (Nat × Option Nat)) : State × List (Nat × Option Nat) :=
  if s.capturing && fs.contains (Reg.OPAL_CTL_INSTALL.key 0 0 0, some 1) then
    (s.raise Ev.OPAL_INSTALL_REFUSED, withoutRows [Reg.OPAL_CTL_INSTALL] fs)
  else (s, fs)

/-- A request is accepted: the shadows are captured and the line is fixed; with no run active it takes effect at once
(R555 to R558). -/
def State.acceptCommit (s : State) (groups : List Nat) : State :=
  let y := if s.running then s.lt.line + 64 else 0
  let c := s.refuseInstall (s.capturedFields groups)
  let s := c.1
  let held := if s.cascadeRun then c.2.filter fun f => keyListed f.1 else []
  let own := if s.cascadeRun then c.2.filter fun f => !keyListed f.1 else c.2
  let gen := s.rd Reg.DEV_GEN_GEN + s.commits.waiting.length + 1
  let s := s.each groups fun s g =>
    (((s.wr Reg.GROUP_LINE_LO (y % 2 ^ 32) 0 g).wr Reg.GROUP_LINE_HI (y / 2 ^ 32) 0 g).wr Reg.GROUP_GEN gen 0 g).wr
      Reg.GROUP_BUSY 1 0 g
  let p : PendingCommit := { groups := groups, line := y, fields := own }
  let s := { s with commits := { s.commits with waiting := s.commits.waiting ++ [p] } }
  let s := s.raise Ev.CMT_COMMIT_ACCEPTED
  if s.running then (s.announce own y).holdFields held else s.commitsDue true commitCount

/-- A request of groups by a tenant is accepted or refused whole (R556). -/
def State.requestCommit (s : State) (tenant : Nat) (groups : List Nat) : State :=
  match s.commitRefusal tenant groups with
  | some r => s.refuseCommit tenant r
  | none => if groups.isEmpty then s else s.acceptCommit groups

/-- A page moves to another group; while either has a commit accepted the move waits (R562). -/
def State.moveGroup (s : State) (p g : Nat) : State :=
  let was := s.rd Reg.PAGE_COMMIT_GROUP p
  if g = was then { s with commits := { s.commits with moves := tdel p s.commits.moves } }
  else if s.groupBusy g || s.groupBusy was then
    { s with commits := { s.commits with moves := tput p (g + 1) s.commits.moves } }
  else s.wr Reg.PAGE_COMMIT_GROUP g p

/-- COMMIT_REQUEST: a write of PAGE_COMMIT of page `p`; tenant 0 moves the page first, then REQ acts on the group named
there (R550, R556). -/
def commitRequest (agent p v : Nat) (s : State) : State :=
  if !pageDefined p then s
  else
    let s := if actsAs agent = 0 then s.moveGroup p (bitsOf v 0 4) else s
    if v.testBit 8 then s.requestCommit (actsAs agent) [s.rd Reg.PAGE_COMMIT_GROUP p] else s

def execCommitRequest (agent : Agent) (p : Fin 8192) (v : Word) (s : State) : Host.Outcome State Fault Refusal :=
  .next (s.powered fun s => commitRequest agent.val p.val v.toNat s)

/-- COMMIT_MULTI: several groups at one line, all or none (R556). -/
def commitMulti (v : Nat) (s : State) : State := s.requestCommit 0 ((List.range 16).filter v.testBit)

def execCommitMulti (v : Word) (s : State) : Host.Outcome State Fault Refusal :=
  .next (s.powered fun s => commitMulti v.toNat s)

/-- GROUP_LINE_LO_READ: the pair is captured for the agent (R565). -/
def groupLineLoRead (agent g sub width : Nat) (s : State) : State :=
  s.readPair agent 0x05 (0x104 + 0x10 * g) sub width
    (s.rd Reg.GROUP_LINE_LO 0 g + 2 ^ 32 * s.rd Reg.GROUP_LINE_HI 0 g)

def execGroupLineLoRead (agent : Agent) (g : Fin 16) (sub : Fin 4) (width : Nat) (s : State) :
    Host.Outcome State Fault Refusal :=
  .next (s.powered fun s => groupLineLoRead agent g sub width s)

/-- A domain leaves ON: what pending commits captured of its pages is discarded (R562). -/
def State.dropCaptured (s : State) (d : Nat) : State :=
  let keep := fun (fs : List (Nat × Option Nat)) => fs.filter fun f => domainOfPage (f.1 / 131072) != d
  let waiting := s.commits.waiting.map fun (c : PendingCommit) => { c with fields := keep c.fields }
  let held := s.ik.commit.map fun (c : CascadeCommit) => { c with fields := keep c.fields }
  let s := { s with commits := { s.commits with waiting := waiting }, ik := { s.ik with commit := held } }
  s.when (domainOfPage 0x160 == d) (·.refForget)

/-! ## Grants (R553, R554) -/

/-- A page that may not be granted to tenant `t` (R553); `slot` is the entry written. -/
def State.grantRefused (s : State) (t slot p : Nat) : Bool :=
  (pageRow p).any (fun r => r.never || r.lease) ||
    (pageOwner p).any (fun o => o != t) ||
    (match s.grantSlot t p with
      | some g => g.1 != slot
      | none => false)

/-- Page `p` begins or ceases to hold the page source of tenant `t` in a slot (R551). -/
def State.slotSource (s : State) (t slot : Nat) (b : Bool) : State := s.withIc (icPages t slot b)

/-- GRANT_WRITE: entry `slot` of tenant `t` (R553, R554). -/
def grantWrite (t slot v : Nat) (s : State) : State :=
  let k := (t - 1) / 6
  let i := (t - 1) % 6
  let j := slot - 96
  let p := bitsOf v 0 13
  let was := s.on Reg.GRANT_VALID k i j
  let old := s.rd Reg.GRANT_PAGE k i j
  let refused := v.testBit 31 && s.grantRefused t slot p
  let valid := v.testBit 31 && !refused
  let s := ((s.wr Reg.GRANT_PAGE p k i j).wr Reg.GRANT_RD_ONLY (bitsOf v 30 1) k i j).wrB Reg.GRANT_VALID valid k i j
  let s := s.slotSource t slot (valid && s.signals p)
  let s := if was && (s.slotOf t old).isNone then s.unmapped t old else s
  s.when refused fun s =>
    (((s.wr Reg.GRANT_LAST_TENANT t).wr Reg.GRANT_LAST_SLOT slot).wr Reg.GRANT_LAST_PAGE p).raise Ev.GRANT_GRANT_REFUSED

def execGrantWrite (t : Tenant) (slot : Fin 256) (v : Word) (s : State) : Host.Outcome State Fault Refusal :=
  .next (s.powered fun s => if t.val = 0 ∨ slot.val < 96 then s else grantWrite t.val slot.val v.toNat s)

/-- PAGE_DISCARD: every SH shadow of the page becomes its value in force (R550). -/
def pageDiscard (p v : Nat) (s : State) : State :=
  if v.testBit 0 then
    let keys := ((s.shadow ++ s.force).map (·.1)).filter fun k => k / 131072 == p
    { s with shadow := keys.foldl (fun t k => putCaptured t (k, tfind k s.force)) s.shadow }
  else s

def execPageDiscard (p : Fin 8192) (v : Word) (s : State) : Host.Outcome State Fault Refusal :=
  .next (s.powered fun s => pageDiscard p.val v.toNat s)

/-- PAGE_EVENT_CLEAR: a write of PAGE_EVENT clears the bits that it sets; the page source follows (R550, R551). -/
def pageEventClear (p v : Nat) (s : State) : State := s.putEvents p (clearMask (sget s.nt.events p) v)

def execPageEventClear (p : Fin 8192) (v : Word) (s : State) : Host.Outcome State Fault Refusal :=
  .next (s.powered fun s => pageEventClear p.val v.toNat s)

end Sys2Proof.Machine
end

