-- ==== Sys2Proof/Machine/LineFlow.lean ====
section
/-!
DEFINITION. Lines from the trigger to the groups (R58, R81 to R86, R100, R119, R419, R438): boundaries crossed by an
encoder, an axis or a prediction, line triggers, line starts with their deferral, the ends of minimum line periods, flush
lines; the start and the stop of a run (R561, R565); the loss and the return of REFCLK (R53, R420); and the commands of
other blocks that pace DMA channels.
-/

namespace Sys2Proof.Machine

/-! ## Boundaries (R82) -/

/-- The boundary of the next line is crossed at time `t`: the commits of that line take effect, it takes its number, and
the next boundary lies one divider further. -/
def State.cross (s : State) (t : Nat) : State :=
  let s := (s.commitsDue false commitCount).takeDiv
  let x := s.lt
  s.putLt { x with line := x.line + 1, next := x.next + x.div, owed := x.owed ++ [(x.line, t)], predict := none }

/-- The line trigger follows source `src`. -/
def State.follows? (s : State) (src : Nat) : Bool := s.running && s.lt.src == src && !s.follows

/-- A count `d` at time `t` from a source whose record of the last count is `dir`, `last` (R82). -/
def State.countLine1 (s : State) (d : Int) (t : Nat) (dir : Int) (last : Nat) : State :=
  let s := s.movePos d
  let s := if s.lt.next ≤ s.lt.pos then s.cross t else s
  s.putLt { s.lt with predict := prediction (s.on Reg.LT_CTL_INTERP) d dir t last s.lt.next s.lt.pos }

/-- ENCODER_COUNT: a sample of encoder `n` whose inputs have stood at `a` and `b` for `stoodA` and `stoodB` ns (R78 to
R82). -/
def encoderCount (n : Nat) (a b : Bool) (stoodA stoodB : Nat) (s : State) : State :=
  let r := s.encoderSample n (s.filtered n (s.encoder n).a a stoodA) (s.filtered n (s.encoder n).b b stoodB)
  let s := r.1
  if r.2 = 0 then s
  else
    let x := s.encoder n
    let s := if s.follows? n then s.countLine1 r.2 s.tb.ns x.lastDir x.lastTime else s
    s.putEncoder n { s.encoder n with lastDir := r.2, lastTime := s.tb.ns }

def execEncoderCount (n : Fin 4) (a b : PinLevel) (s : State) : Host.Outcome State Fault Refusal :=
  .next (if s.alive then encoderCount n.val a.high b.high a.stood b.stood s else
    s.putEncoder n { s.encoder n with a := a.high, b := b.high })

/-- TRIGGER_PREDICTION: the scheduled crossing time is reached with no count since (R82). -/
def triggerPrediction (s : State) : State :=
  match s.lt.predict with
  | some t => if s.running then s.cross t else s
  | none => s

def execTriggerPrediction (s : State) : Host.Outcome State Fault Refusal :=
  .next (s.powered fun s => triggerPrediction s)

/-- The next boundary is crossed in the servo period that an axis source interpolates over, at the first ns at or past it
(R81). -/
def State.axisTrigger (s : State) : State :=
  match s.lt.seg with
  | some (t0, span, from', delta) =>
    if 0 < delta ∧ s.lt.next ≤ from' + delta then
      s.cross (t0 + (-((-((s.lt.next - from') * span)) / delta)).toNat)
    else s
  | none => s

/-- The boundaries of a servo period that no command has told. -/
def State.axisCross : Nat → State → State
  | 0, s => s
  | n + 1, s =>
    match s.lt.seg with
    | some (_, _, from', delta) => if 0 < delta ∧ s.lt.next ≤ from' + delta then State.axisCross n s.axisTrigger else s
    | none => s

/-- The servo period that axis source `src` interpolates over, which began at the axis' last set-point: the position is
`pos` now, and the set-point moves from the one before to the last one (R81). -/
def State.axisSeg (s : State) (src : Nat) (pos : Int) : Option (Nat × Nat × Int × Int) :=
  let x := s.axis (src - 4)
  let delta := (x.set - x.before) * 2 ^ 32
  let span := s.rd Reg.MOT_SERVO_US * 1000
  if 4 ≤ src ∧ src ≤ 11 ∧ delta ≠ 0 ∧ s.tb.ns < x.emitted + span then
    some (x.emitted, span, pos - quot (delta * (s.tb.ns - x.emitted : Nat)) span, delta)
  else none

/-- The servo period that an axis source interpolates over ends: its last boundaries are crossed, and the position is its
end (R81, R82). -/
def State.axisEnd (s : State) : State :=
  match s.lt.seg with
  | none => s
  | some (_, _, from', delta) =>
    let s := State.axisCross ((delta / 2 ^ 32).toNat + 1) s
    let s := s.putLt { s.lt with pos := from' + delta, seg := none }
    s.when (decide (delta < 0 ∧ s.lt.pos < s.lt.next - s.lt.div)) (·.raise Ev.LT_REVERSE)

/-- A servo boundary for the line trigger: the set-point of its axis moves linearly to the new one until the next (R81,
R82). -/
def State.axisLine (s : State) : State :=
  if !(s.running && decide (4 ≤ s.lt.src ∧ s.lt.src ≤ 11)) || s.follows then s
  else
    let s := s.axisEnd
    s.putLt { s.lt with seg := s.axisSeg s.lt.src s.lt.pos }

/-! ## KEEP (R438, R545) -/

/-- KEEP takes effect from line `y`. -/
def State.putKeep (s : State) (keep y : Nat) : State :=
  let was := s.rd Reg.THIN_STATUS_KEEP
  if was = keep then s
  else
    let s := (s.wr Reg.THIN_STATUS_KEEP keep).wrB Reg.THIN_STATUS_ACTIVE (decide (keep < 0x1000))
    let s := s.wrPair Reg.THIN_FROM_LO_VALUE Reg.THIN_FROM_HI_VALUE y
    let s := s.when (was == 0x1000) (·.raise Ev.THIN_THIN_ON)
    s.when (keep == 0x1000) (·.raise Ev.THIN_THIN_OFF)

/-- A trigger brings the KEEPs that wait one trigger nearer; on a cascade the leader's line decides. -/
def State.keepTrigger (s : State) (y : Nat) : State :=
  let q := s.thin.queue.map fun (e : Nat × Nat) => (e.1, e.2 - 1)
  let due := (q.filter fun e => e.2 == 0).getLast?
  let s := { s with thin := { s.thin with queue := q.filter fun e => e.2 != 0 } }
  let s := match due with
    | some e => s.putKeep e.1 y
    | none => s
  let now := (s.thin.cascade.filter fun e => decide (e.2 ≤ y)).getLast?
  let s := { s with thin := { s.thin with cascade := s.thin.cascade.filter fun e => decide (y < e.2) } }
  match now with
  | some e => s.putKeep e.1 y
  | none => s

/-- Line `y` is thinned under KEEP (R438). -/
def thinned (keep y : Nat) : Bool := decide (keep < 0x1000) && (((y + 1) * keep) >>> 12 == (y * keep) >>> 12)

/-! ## Line triggers (R83, R85) -/

/-- Line `y` is assigned with trigger time `t`: it is recorded, thinned or not, and KEEP steps. -/
def State.assignLine (s : State) (y t : Nat) : State :=
  let s := s.wrPair Reg.LT_LINE_LO_VALUE Reg.LT_LINE_HI_VALUE y
  let s := s.wrPair Reg.LT_TIME_LO_VALUE Reg.LT_TIME_HI_VALUE t
  let s := (s.keepTrigger y).pwLine y
  let s := s.when (s.capturing && s.opal.start == y) (·.wr Reg.OPAL_CAP_STATUS_STATE 2)
  let thin := thinned (s.rd Reg.THIN_STATUS_KEEP) y
  let s := { s with lines := tput y { s.line y with time := t, thinned := thin } s.lines }
  let s := if thin then (s.mark y 12 12).inc Reg.THIN_LINES_COUNT else s
  s.each s.groupsOn fun s g => s.putGroup g { s.group g with triggered := true }

/-- A line start is wanted for line `y`: it goes to the groups, or is deferred while one is busy; a line that is deferred
already is skipped (R85). Without REFCLK no start reaches the groups and the line takes code 5 (R53, R420). -/
def State.wantStart (s : State) (y t : Nat) : State :=
  if !s.on Reg.TB_STATUS_LOCKED then s.mark y 12 5
  else if s.groupsBusy || s.lt.deferred.isSome then
    let s := match s.lt.deferred with
      | some d => ((s.mark d.1 12 3).inc Reg.LT_SKIPPED_COUNT).raise Ev.LT_SKIPPED
      | none => s
    ((s.putLt { s.lt with deferred := some (y, t) }).inc Reg.LT_DEFERRED_COUNT).raise Ev.LT_DEFERRED
  else s.putLt { s.lt with start := some (y, t) }

/-- LINE_TRIGGER: the oldest boundary crossed triggers its line (R83), or the next one within the servo period of an axis
source (R81); a cascade leader tells the chain (R540). -/
def lineTrigger (s : State) : State :=
  let s := if s.lt.owed.isEmpty && s.running && !s.follows then s.axisTrigger else s
  match s.lt.owed with
  | [] => s
  | (y, t) :: rest =>
    let s := (s.putLt { s.lt with owed := rest }).assignLine y t
    let s := if s.cascadeRun && s.leads then
        s.tellAll 0x04 (leBytes 6 y ++ leBytes 8 t ++ leBytes 2 (s.rd Reg.IK_TRIG_DELAY_NS))
      else s
    s.wantStart y t

def execLineTrigger (s : State) : Host.Outcome State Fault Refusal := .next (s.powered fun s => lineTrigger s)

/-- The deferred line start is released once every group is clear (R85). -/
def State.release (s : State) : State :=
  match s.lt.deferred with
  | none => s
  | some (y, t) =>
    if s.groupsBusy then s
    else
      let late := s.tb.ns - t
      let s := s.wr Reg.LT_MAXDEFER_NS (max (s.rd Reg.LT_MAXDEFER_NS) (min late 0xFFFFFFFF))
      let s := s.when (decide ((s.atLine y).rd Reg.LT_DEFER_LIMIT_NS < late)) (·.mark y 12 4)
      s.putLt { s.lt with deferred := none, start := some (y, t) }

/-- MIN_LINE_PERIOD_END of group `g` (R19, R75, R85). -/
def minLinePeriodEnd (g : Nat) (s : State) : State :=
  if !(s.group g).inMin then s
  else
    let s := s.clipLeds g
    ((s.putGroup g { s.group g with inMin := false }).swapWaits g).release

def execMinLinePeriodEnd (g : Fin 12) (s : State) : Host.Outcome State Fault Refusal :=
  .next (s.powered fun s => minLinePeriodEnd g.val s)

/-- SG_STALE.US has passed since the last line start of group `g` with no trigger since then, and an exposure is unread
(R58). -/
def State.isStale (s : State) (g : Nat) : Bool :=
  let x := s.group g
  s.running && x.live && !x.triggered && !x.flush && x.unread.isSome &&
    decide (x.startNs + 1000 * (s.groupCfg g).rd Reg.SG_STALE_US g ≤ s.tb.ns)

/-- Group `g` may start a flush line (R58): one is due, or the stale limit has passed. -/
def State.flushWanted (s : State) (g : Nat) : Bool :=
  let x := s.group g
  s.groupOn g && s.on Reg.TB_STATUS_LOCKED && s.domain 2 == 2 && !x.inMin && s.lt.start.isNone && s.lt.deferred.isNone &&
    (x.flushDue || s.isStale g)

/-- FLUSH_LINE of group `g` (R58). -/
def flushLine (g : Nat) (s : State) : State := if s.flushWanted g then s.nextPeriod g none else s

def execFlushLine (g : Fin 12) (s : State) : Host.Outcome State Fault Refusal :=
  .next (s.powered fun s => flushLine g.val s)

/-! ## Line starts (R84, R100, R119, R137, R419) -/

/-- A lane at the start of line `y`: a held lane, one that waits for its reset, and one whose domain is not ON discards the
line; at its reset the alignment history is emptied and HELD clears (R412, R419). -/
def State.laneStart (s : State) (y k : Nat) : State :=
  let x := s.lane k
  match x.resetIn with
  | some n =>
    if n ≤ 1 then
      let s := s.compFault [k]
      let s := s.putLane k { s.lane k with resetIn := none, histFrom := y }
      (s.wr Reg.LANE_FLT_HELD 0 0 k).wr Reg.LANE_HELD_BITS (clearBit (s.rd Reg.LANE_HELD_BITS) k)
    else ((s.putLane k { x with resetIn := some (n - 1) }).mark y k 5).compFault [k]
  | none => if s.on Reg.LANE_FLT_HELD 0 k || s.domain 3 != 2 then (s.mark y k 5).compFault [k] else s

/-- Group `g` at the start of line `y`: a line period starts, or the group stands disabled (R76). -/
def State.groupStart (s : State) (y t g : Nat) : State :=
  if (s.atLine y).groupOn g then (s.nextPeriod g (some (y, t))).emit (.lineStart g y)
  else
    let s := if (s.group g).live then s.disableGroup g else s
    match (s.group g).swapAt with
    | some n => if n ≤ y then s.swapBanks g y else s
    | none => s

/-- A plausibility line takes its level under the settings of its line (R100), after the check before it. -/
def State.plausLine (s : State) (y : Nat) : State :=
  let c := s.atLine y
  let every := c.rd Reg.BANK_PLAUS_CTL_EVERY
  let s := s.when (every != 0 && y % every == 0) fun s => (s.plausCompare).castReact
  if every ≠ 0 ∧ y % every = 0 then { ({ s with force := c.force }).plausStart with force := s.force }
  else { s with plaus := { s.plaus with isOpen := false } }

/-- The start of line `y` reaches the groups. -/
def State.startLine (s : State) (y t : Nat) : State :=
  let s := s.stepTrims.stepMixes
  let s := if y % 2 ^ s.rd Reg.CAST_CTL_EVAL_LOG = 0 then s.evalTrims.queueMixes else s
  let s := s.each (List.range 12) fun s k => s.laneStart y k
  let s := s.each (List.range 12) fun s g => s.groupStart y t g
  (s.plausLine y).paceRequest 0

/-- A follower's starts whose instant has come are wanted (R540). -/
def State.followStarts (s : State) : State :=
  match s.ik.starts with
  | [] => s
  | (y, t, at') :: rest =>
    if at' ≤ s.tb.ns then ({ s with ik := { s.ik with starts := rest } }).wantStart y t else s

/-- LINE_START: the start on its way reaches every enabled group (R84). -/
def lineStart (s : State) : State :=
  let s := if s.lt.start.isNone then s.followStarts else s
  match s.lt.start with
  | some (y, t) => (s.putLt { s.lt with start := none }).startLine y t
  | none => s

def execLineStart (s : State) : Host.Outcome State Fault Refusal := .next (s.powered fun s => lineStart s)

/-! ## Runs (R561) -/

/-- IK_STATUS.STATE becomes `st` with REASON `why` (R541, R546). -/
def State.putIkState (s : State) (st why : Nat) : State :=
  let was := s.rd Reg.IK_STATUS_STATE
  let reason := s.rd Reg.IK_STATUS_REASON
  let s := (s.wr Reg.IK_STATUS_STATE st).wr Reg.IK_STATUS_REASON why
  let s := s.when (st == 2 && why == 6 && (was != 2 || reason != 6)) (·.raise Ev.IK_DIGEST_MISMATCH)
  if was = st then s else ((s.raise Ev.IK_STATE_CHANGE).mgmtRaise 20).when (st == 5) (·.raise Ev.IK_HALTED)

/-- A run begins now: every commit is in force, the blocks' counters of the run are cleared, and the line trigger begins
(R57, R82, R561).  A line start still deferred from the run before, and a flush still due, are dropped: DESIGN CHOICE,
assumption log 75. -/
def State.beginRun (s : State) : State :=
  let s := s.compSettle.commitsDue true commitCount
  let s := (s.wr Reg.TB_STATUS_RUN_ACTIVE 1).wr Reg.DEV_RUN_STATUS_ACTIVE 1
  let s := ((s.wr Reg.DEV_RUN_STATUS_STARTING 0).inc Reg.DEV_RUNS_COUNT).raise Ev.DEV_RUN_STARTED
  let s := [Reg.LT_LINE_LO_VALUE, Reg.LT_LINE_HI_VALUE, Reg.LT_DEFERRED_COUNT, Reg.LT_SKIPPED_COUNT, Reg.LT_MAXDEFER_NS,
    Reg.THIN_LINES_COUNT].foldl (fun (s : State) r => s.wr r 0) s
  let s := { s with lines := [], epochs := [], outLines := [], joints := [], readouts := [],
                    opal := { s.opal with captures := [] },
                    ik := { s.ik with starts := [], order := none }, plaus := {} }
  let s := s.each (List.range 12) fun s g =>
    let s := s.putGroup g { s.group g with unread := none, reads := none, triggered := false, flushDue := false, plaus := false }
    s.putLane g { s.lane g with next := 0, histFrom := 0, overrun := false }
  let src := s.rd Reg.LT_CTL_SRC
  let s := (s.putLt { src := src, next := s.rd Reg.LT_START_COUNTS * 2 ^ 32, seg := s.axisSeg src 0 }).takeDiv
  let s : State := (((s.refRunStart.regRunStart).compStart).prodStart).pwStart
  if s.lt.next == 0 && decide (s.lt.src ≤ 11) && !s.follows then s.cross s.tb.ns else s

/-- Why a run start is refused (R561). -/
def State.startRefusal (s : State) : Option Nat :=
  if s.running || s.on Reg.DEV_RUN_STATUS_STARTING then some 1
  else if s.on Reg.BANK_CAL_BUSY then some 2
  else if s.domain 2 ≠ 2 ∨ s.domain 3 ≠ 2 then some 3
  else if s.follows then some 4
  else if s.cascaded && s.rd Reg.IK_STATUS_STATE != 3 then some 5
  else none

/-- A run start or stop is refused with a reason (R561). -/
def State.refuseRun (s : State) (why : Nat) : State := (s.wr Reg.DEV_RUN_STATUS_REASON why).raise Ev.DEV_RUN_REFUSED

/-- An accepted run start: on a cascade the leader tells the chain, and RUN follows (R541). -/
def State.startRun (s : State) : State :=
  let s := s.beginRun
  if s.cascaded then (s.tellAll 0x06 (1 :: leBytes 6 0 ++ leBytes 8 s.tb.ns)).putIkState 4 0 else s

/-- RUN_START: DEV_RUN.START written by tenant 0 (R561). -/
def runStart (s : State) : State :=
  match s.startRefusal with
  | some why => s.refuseRun why
  | none => if s.cast.aborting then s.wr Reg.DEV_RUN_STATUS_STARTING 1 else s.startRun

def execRunStart (s : State) : Host.Outcome State Fault Refusal := .next (s.powered fun s => runStart s)

/-- A follower's run begins with the leader's, unless it has left AGREED (R541). -/
def State.followRun (s : State) : State :=
  let s := (s.wr Reg.DEV_RUN_STATUS_STARTING 0)
  let s : State := { s with ik := { s.ik with order := none } }
  if s.rd Reg.IK_STATUS_STATE = 3 then s.beginRun.putIkState 4 0 else s

/-- RUN_START_DELAYED: the start that waited for a Castling abort begins, or is refused if its grounds have gone. -/
def runStartDelayed (s : State) : State :=
  if !s.on Reg.DEV_RUN_STATUS_STARTING || s.cast.aborting then s
  else if s.follows then s.followRun
  else
    let s := s.wr Reg.DEV_RUN_STATUS_STARTING 0
    match s.startRefusal with
    | some why => s.refuseRun why
    | none => s.startRun

def execRunStartDelayed (s : State) : Host.Outcome State Fault Refusal := .next (s.powered fun s => runStartDelayed s)

/-- The run stops now (R58, R182, R215, R231, R257, R289, R558, R561): the start deferred at the stop stays. -/
def State.endRun (s : State) : State :=
  let s := s.putLt { s.lt with owed := [], predict := none, pos := s.ltPos, seg := none }
  let s := ((s.compStop.prodStop).pwStop).captureStop
  let s := (s.regRunStop.brRunStop).refEmpty
  let s := (s.wr Reg.TB_STATUS_RUN_ACTIVE 0).wr Reg.DEV_RUN_STATUS_ACTIVE 0
  let s := s.raise Ev.DEV_RUN_STOPPED
  let s := ((s.commitsDue true commitCount).castReact).swapAtStop
  let s := s.each (List.range 97) fun s c => s.putConv c { s.conv c with sequences := 0 }
  let s := s.each (List.range 12) fun s g => s.putGroup g { s.group g with ran := false }
  if s.lt.start.isSome || s.lt.deferred.isSome || !s.ik.starts.isEmpty then s
  else s.each s.groupsOn fun s g => s.putGroup g { s.group g with flushDue := (s.group g).unread.isSome }

/-- RUN_STOP: DEV_RUN.STOP written (R541, R561). -/
def runStop (s : State) : State :=
  if s.follows then s.refuseRun 4
  else if !s.running then s
  else
    let s := if s.cascaded then s.tellAll 0x06 (0 :: leBytes 6 (s.lt.line - s.lt.owed.length) ++ leBytes 8 s.tb.ns) else s
    let s := s.endRun
    if s.cascaded then s.putIkState 3 0 else s

def execRunStop (s : State) : Host.Outcome State Fault Refusal := .next (s.powered fun s => runStop s)

/-! ## REFCLK (R53, R420) -/

/-- A group's read-out in progress is cut off, and the line that it carries is discarded (R420). -/
def State.cutGroup (s : State) (g : Nat) : State :=
  let x := s.group g
  if !x.live then s
  else
    let s := match x.reads with
      | some r =>
        if x.inMin && !s.readComplete g then ((s.discardReadouts r.1 g).mark r.1 g 5).compFault [g] else s
      | none => s
    let s := s.endPeriod g
    s.putGroup g { s.group g with live := false, runs := false, inMin := false, reads := none }

/-- REFCLK_LOSS (R53, R108, R289, R299, R335, R420). -/
def refclkLoss (s : State) : State :=
  if !s.on Reg.TB_STATUS_LOCKED then s
  else
    let s := ((s.wr Reg.TB_STATUS_LOCKED 0).raise Ev.TB_REFCLK_LOSS).calAbort
    let s := s.each (List.range 12) State.cutGroup
    let s := match s.lt.deferred with
      | some d => s.mark d.1 12 5
      | none => s
    let s := match s.lt.start with
      | some d => s.mark d.1 12 5
      | none => s
    let s := s.putLt { s.lt with deferred := none, start := none }
    let s := (s.when (s.on Reg.PFE_STATUS_BUSY) (·.pfeAbandon)).motRefclkLost
    s.each ((List.range 4).filter fun p => s.portState p != 0) fun s p => s.emit (.pin "BR_MCLK" p false)

def execRefclkLoss (s : State) : Host.Outcome State Fault Refusal := .next (s.powered fun s => refclkLoss s)

/-- SYNTH_RELOCK: the groups begin with a stale flush (R53, R420). -/
def synthRelock (s : State) : State :=
  if s.on Reg.TB_STATUS_LOCKED then s
  else
    let s := s.wr Reg.TB_STATUS_LOCKED 1
    let s := s.each s.groupsOn fun s g =>
      s.putGroup g { s.group g with flushDue := s.running || (s.group g).unread.isSome }
    s.each ((List.range 4).filter fun p => s.portState p != 0) fun s p => s.emit (.pin "BR_MCLK" p true)

def execSynthRelock (s : State) : Host.Outcome State Fault Refusal := .next (s.powered fun s => synthRelock s)

/-! ## Commands that pace DMA channels (R390) -/

/-- PFE_SCAN_END: the results are written; ports and DMA channels that wait for them go on (R266, R301, R390). -/
def pfeScanEndCmd (s : State) : State :=
  if s.pfe.check.isNone then s else (s.pfeScanEnd.brFrontEnd).paceRequest 5

def execPfeScanEnd (s : State) : Host.Outcome State Fault Refusal := .next (s.powered fun s => pfeScanEndCmd s)

/-- BERYL_FSYNC of port `p`. -/
def execBerylFsync (p : Fin 4) (s : State) : Host.Outcome State Fault Refusal :=
  .next (s.powered fun s => berylFsync p.val s)

/-- BERYL_FRAME_END of port `p`: the complete frame is processed, and its channels are paced. -/
def berylFrameEnd (p : Nat) (s : State) : State :=
  if (s.brComplete p).isSome then (s.brEndFrame p).paceRequest (p + 1) else s

def execBerylFrameEnd (p : Fin 4) (s : State) : Host.Outcome State Fault Refusal :=
  .next (s.powered fun s => berylFrameEnd p.val s)

/-- SERVO_BOUNDARY: axes, the shutters that they move, the line trigger that counts one, and paced channels. -/
def servoBoundaryCmd (s : State) : State :=
  if s.domain 6 = 2 then ((s.servoBoundary.brAxes).axisLine).paceRequest 6 else s

def execServoBoundary (s : State) : Host.Outcome State Fault Refusal := .next (s.powered fun s => servoBoundaryCmd s)

end Sys2Proof.Machine
end

