-- ==== Sys2Proof/Machine/Ikito.lean ====
section
/-!
DEFINITION. The Ikito cascade (R534 to R549): ports, enumeration, the time base across the chain, lines and runs that the
leader commands, the states of a device, cascade commits, and the messages of R537 with their relays.
-/

namespace Sys2Proof.Machine

/-! ## Ports and frames (R534, R537) -/

/-- Port `p` has a neighbour by the device's position: 0 the west port, 1 the east port (R535). -/
def State.ikFaces (s : State) (p : Nat) : Bool :=
  if p = 0 then s.on Reg.IK_STATUS_POS else decide (s.rd Reg.IK_STATUS_POS + 1 < s.rd Reg.IK_STATUS_NDEV)

/-- Every port that faces a neighbour is up. -/
def State.ikPortsUp (s : State) : Bool := [0, 1].all fun p => !s.ikFaces p || s.on Reg.IKP_STATUS_UP p

/-- The port towards position `q`. -/
def State.portTo (s : State) (q : Nat) : Nat := if q < s.rd Reg.IK_STATUS_POS then 0 else 1

/-- A message sent on a port, if the port is up. -/
def State.tell (s : State) (p type : Nat) (payload : List Nat) : State :=
  s.when (s.on Reg.IKP_STATUS_UP p) (·.emit (.ikito p type payload))

/-- A message relayed to the port other than the one it came on (R537). -/
def State.relay (s : State) (p type : Nat) (payload : List Nat) : State := s.tell (1 - p) type payload

/-- A frame arrives on port `p` without a CRC error; a port that is down receives none. -/
def State.frame (s : State) (p : Nat) (f : State → State) : State :=
  if s.on Reg.IKP_STATUS_UP p then f { s with ik := { s.ik with fails := sput s.ik.fails p 0 } } else s

/-- A port goes up or down (R546). -/
def State.linkEvent (s : State) : State := (s.raise Ev.IK_LINK_CHANGE).mgmtRaise 20

/-! ## States (R541) -/

/-- The payload of STATE: run state, digest, generation, KEEP, PAUSE_WANT (R537). -/
def State.statePayload (s : State) : List Nat :=
  (s.rd Reg.TB_STATUS_RUN_ACTIVE :: s.digest) ++ leBytes 4 (s.rd Reg.DEV_GEN_GEN) ++ leBytes 2 s.thin.own ++
    [s.rd Reg.SHEET_STATUS_PAUSED]

/-- STATE goes from the leader to all, and from every other device to the leader. -/
def State.sendState (s : State) : State :=
  if s.leads then s.tellAll 0x05 s.statePayload else s.tell (s.portTo (s.rd Reg.IK_STATUS_LEADER_POS)) 0x05 s.statePayload

/-- The payload of ENUM: version offer, position, W, O, LT_CTL.SRC (R537). -/
def State.enumPayload (s : State) : List Nat :=
  [s.rd Reg.IK_VERSIONS_OFFER, s.rd Reg.IK_STATUS_POS] ++ leBytes 4 s.outWidth ++ [s.segOverlap 95, s.rd Reg.LT_CTL_SRC]

/-- The leader begins enumeration. -/
def State.sendEnum (s : State) : State := s.when s.leads fun s => s.tellAll 0x01 s.enumPayload

/-- The run ends here because the chain is no longer in RUN: lines in the pipeline take code 5, and the rest is a run stop
(R541, R545). -/
def State.dropRun (s : State) : State :=
  if !s.running then s
  else
    let from' := (List.range 12).foldl (fun n k => min n (s.lane k).next) s.lt.line
    (s.each (List.range (s.lt.line - from')) fun s i => s.mark (from' + i) 12 5).endRun

/-- The device enters HALTED from RUN (R541). -/
def State.haltRun (s : State) (cause : Nat) : State :=
  if s.rd Reg.IK_STATUS_STATE ≠ 4 then s
  else
    let s := s.tellAll 0x20 (cause :: leBytes 6 s.lt.line)
    ((s.dropRun).wr Reg.IK_HALT_CAUSE_CAUSE cause).putIkState 5 0

/-- A port goes down: what is known of the devices behind it is forgotten, and a run halts (R534, R541). -/
def State.portDown (s : State) (p : Nat) : State :=
  if !s.on Reg.IKP_STATUS_UP p then s
  else
    let pos := s.rd Reg.IK_STATUS_POS
    let s := ((s.wr Reg.IKP_STATUS_UP 0 p).wr Reg.IKP_STATUS_WIDTH 0 p).inc Reg.IKP_DOWNS_COUNT p
    let chain := s.ik.chain.filter fun e => if p = 0 then decide (pos ≤ e.1) else decide (e.1 ≤ pos)
    let s := { s with ik := { s.ik with chain := chain, fails := sput s.ik.fails p 0 } }
    s.linkEvent.when (s.ikFaces p) fun s => (s.sourceLost 12).haltRun 1

/-- The device goes OFF: its ports go down and a run ends as for a link loss (R541). -/
def State.ikOff (s : State) : State :=
  let s := ((s.portDown 0).portDown 1).dropRun
  ({ s with ik := { s.ik with order := none, within := none, slowing := false } }).putIkState 0 0

/-- The device begins bring-up: ports train; a follower's run follows the leader's (R541). -/
def State.ikLink (s : State) : State :=
  let s : State := { s with ik := { s.ik with chain := [], leaderDigest := [], within := none, slowing := false,
                                              delaySet := false, order := none } }
  let s := s.putIkState 1 0
  (s.when (s.follows && s.running) (·.endRun)).sendEnum

/-- Positions of the chain other than this device's. -/
def State.others (s : State) : List Nat :=
  (List.range (s.rd Reg.IK_STATUS_NDEV)).filter fun p => p != s.rd Reg.IK_STATUS_POS

/-- Leaders of the chain as enumerated. -/
def State.leaderCount (s : State) : Nat := s.rd Reg.IK_CTL_LEAD + (s.ik.chain.filter fun e => e.2.lead).length

/-- Bring-up goes on: some device is still to be enumerated, no leader is known, or a digest is still to come. -/
def State.ikWaits (s : State) : Bool :=
  s.ik.chain.isEmpty || (s.others.any fun p => (tfind p s.ik.chain).isNone) || s.leaderCount == 0 ||
    (if s.leads then s.ik.chain.any fun e => e.2.digest.isEmpty else s.ik.leaderDigest.isEmpty)

/-- The highest version that an offer holds, bit n − 1 for version n. -/
def highestVersion (offer : Nat) : Nat := (List.range 8).foldl (fun v i => if offer.testBit i then i + 1 else v) 0

/-- The version in use: the lowest of the devices' highest ones, where every device offers it (R542); 0 for none. -/
def State.ikVersion (s : State) : Nat :=
  let offers := s.rd Reg.IK_VERSIONS_OFFER :: s.ik.chain.map fun e => e.2.offer
  let v := offers.foldl (fun v o => min v (highestVersion o)) 8
  if v != 0 && offers.all fun o => o.testBit (v - 1) then v else 0

/-- The follower's time base is within tolerance for 1 ms (R539). -/
def State.tracked (s : State) : Bool := s.ik.within.any fun t => decide (t + 1000000 ≤ s.tb.ns)

/-- Every follower holds SRC 12, and the leader does not (R540). -/
def State.sourcesAgree (s : State) : Bool :=
  ((s.rd Reg.LT_CTL_SRC == 12) != s.leads) && s.ik.chain.all fun e => (e.2.src == 12) != e.2.lead

/-- Every digest that the device knows equals the leader's (R543). -/
def State.digestsAgree (s : State) : Bool :=
  if s.leads then s.ik.chain.all fun e => e.2.digest == s.digest else s.ik.leaderDigest == s.digest

/-- The reason why agreement fails, the lowest; 0 where the chain agrees (R541). -/
def State.ikReason (s : State) : Nat :=
  if 1 < s.leaderCount then 1
  else if 4 < s.rd Reg.IK_STATUS_NDEV then 2
  else if s.ikVersion = 0 then 3
  else if !s.leads && !s.tracked then 4
  else if !s.sourcesAgree then 5
  else if !s.digestsAgree then 6
  else 0

/-- D_c: the largest latency over the followers plus 32 ns, rounded up to a multiple of 8 (R540); set once at bring-up. -/
def State.setDelay (s : State) : State :=
  if !s.leads || s.ik.delaySet then s
  else
    let l := s.ik.latencies.foldl (fun m e => max m e.2) 0
    ({ s with ik := { s.ik with delaySet := true } }).wr Reg.IK_TRIG_DELAY_NS ((l + 32 + 7) / 8 * 8)

/-- The device takes the state that R541 gives it. -/
def State.ikEvaluate (s : State) : State :=
  let st := s.rd Reg.IK_STATUS_STATE
  if !(s.on Reg.IK_CTL_EN && s.domain 7 == 2) then s.when (st != 0) (·.ikOff)
  else if st = 0 then s.ikLink
  else if st = 4 ∨ st = 5 then s
  else if !s.ikPortsUp then s.when (st == 3) (·.putIkState 2 0)
  else if s.ikWaits then s.when (st == 3) (·.putIkState 2 0)
  else
    let s := s.wr Reg.IK_STATUS_VERSION s.ikVersion
    let why := s.ikReason
    if why ≠ 0 then s.putIkState 2 why else if st = 3 then s else (s.setDelay).putIkState 3 0

/-- A write of IK_CTL: the state follows EN (R541, R546). -/
def State.ikCtlWrite (s : State) (v : Nat) : State := (s.hostWord 0x940 0x20 v).ikEvaluate

/-! ## Enumeration (R535, R536) -/

/-- The x base of position `p` and the first x that it emits. -/
def State.ikBase (s : State) (p : Nat) : Nat × Nat :=
  let dev := fun i => (tget {} s.ik.chain i : IkDevice)
  let x := (List.range p).foldl (fun x i => x + (dev i).width - (dev i).overlap) 0
  (x, if p = 0 then 0 else x + (dev (p - 1)).overlap)

/-- ENUM from the device at position `sender`, which is a leader or answers one; the receiver stands at `mine` in a chain
of `count`. The leader's ENUM is answered. -/
def ikEnum (port : Nat) (lead : Bool) (sender mine count offer w o src : Nat) (s : State) : State :=
  s.frame port fun s =>
    let s := s.relay port 0x01 ([offer, sender] ++ leBytes 4 w ++ [o, src])
    let s := if s.rd Reg.IK_STATUS_STATE = 5 && lead && !s.leads then s.ikLink else s
    let known : IkDevice := tget {} s.ik.chain sender
    let d : IkDevice := { known with offer := offer, width := w, overlap := o, src := src, lead := lead }
    let s := { s with ik := { s.ik with chain := tput sender d s.ik.chain } }
    let s := (s.wr Reg.IK_STATUS_POS mine).wr Reg.IK_STATUS_NDEV count
    let s := if lead then s.wr Reg.IK_STATUS_LEADER_POS sender else if s.leads then s.wr Reg.IK_STATUS_LEADER_POS mine else s
    let s := if sender + 1 = mine ∨ mine + 1 = sender then s.wr Reg.IKP_STATUS_PEER_POS sender port else s
    let x := s.ikBase mine
    let s := (s.wr Reg.IK_XBASE_X x.1).wr Reg.IK_XSTART_X x.2
    (s.when (lead && !s.leads) fun s => s.tell port 0x01 s.enumPayload).ikEvaluate

def execIkEnum (port : Fin 2) (lead : Bool) (sender mine count : Fin 8) (offer : BitVec 8) (w : BitVec 32)
    (o src : BitVec 8) (s : State) : Host.Outcome State Fault Refusal :=
  .next (s.powered fun s => ikEnum port lead sender mine count offer.toNat w.toNat o.toNat src.toNat s)

/-- IK_PORT_TRAINED (R534): the port goes up with `width` lanes; the leader enumerates. -/
def ikPortTrained (p width : Nat) (s : State) : State :=
  if !s.cascaded || s.on Reg.IKP_STATUS_UP p then s
  else (((s.wr Reg.IKP_STATUS_UP 1 p).wr Reg.IKP_STATUS_WIDTH width p).linkEvent.sendEnum).ikEvaluate

def execIkPortTrained (p : Fin 2) (width : Fin 8) (s : State) : Host.Outcome State Fault Refusal :=
  .next (s.powered fun s => ikPortTrained p width s)

/-- IK_PORT_DOWN (R534). -/
def ikPortDown (p : Nat) (s : State) : State := if s.on Reg.IKP_STATUS_UP p then (s.portDown p).ikEvaluate else s

def execIkPortDown (p : Fin 2) (s : State) : Host.Outcome State Fault Refusal :=
  .next (s.powered fun s => ikPortDown p s)

/-- IK_PORT_RETRY (R534): a port that is down tries to train once more. -/
def ikPortRetry (p : Nat) (s : State) : State :=
  s.when (s.cascaded && !s.on Reg.IKP_STATUS_UP p) (·.emit (.pin "IK_TRAIN" p true))

def execIkPortRetry (p : Fin 2) (s : State) : Host.Outcome State Fault Refusal :=
  .next (s.powered fun s => ikPortRetry p s)

/-- IK_FRAME_CRC_ERROR (R537): the frame is retransmitted up to three times; a fourth failure takes the port down. -/
def ikFrameCrcError (p : Nat) (s : State) : State :=
  if !s.on Reg.IKP_STATUS_UP p then s
  else
    let n := sget s.ik.fails p
    let s := s.inc Reg.IKP_CRC_ERR_COUNT p
    if n < 3 then ({ s with ik := { s.ik with fails := sput s.ik.fails p (n + 1) } }).inc Reg.IKP_RETRY_COUNT p
    else (s.portDown p).ikEvaluate

def execIkFrameCrcError (p : Fin 2) (s : State) : Host.Outcome State Fault Refusal :=
  .next (s.powered fun s => ikFrameCrcError p s)

/-! ## The time base across the chain (R539) -/

/-- The time base was resynchronised. -/
def State.resynced (s : State) : State := (s.inc Reg.IK_TB_RESYNCS_COUNT).raise Ev.IK_TB_RESYNC

/-- A follower takes up the offset to the leader's time base (R539). -/
def State.track (s : State) (offset : Int) : State :=
  let s := s.wrS Reg.IK_TB_OFFSET_NS offset
  let inTol := decide (offset.natAbs ≤ s.rd Reg.IK_CTL_TB_TOL)
  let s := { s with ik := { s.ik with within := if inTol then some (s.ik.within.getD s.tb.ns) else none } }
  if s.ik.slowing && decide (2 < offset.natAbs) && (inTol || decide (offset < 0)) then s
  else
    let s := { s with ik := { s.ik with slowing := false } }
    if inTol then s.wrS Reg.TB_RATE_PPB (sat (offset * 4000) (-200000) 200000)
    else if 0 < offset then (s.setTime ((s.tb.ns : Int) + offset)).resynced
    else (({ s with ik := { s.ik with slowing := true } }).wrS Reg.TB_RATE_PPB (-200000)).resynced

/-- TIME: the leader's time base at transmission (R539). -/
def ikTime (port time : Nat) (s : State) : State :=
  s.frame port fun s =>
    if s.leads then s
    else ((s.relay port 0x02 (leBytes 8 time)).track ((time + s.ik.latency : Nat) - (s.tb.ns : Int))).ikEvaluate

def execIkTime (port : Fin 2) (time : BitVec 64) (s : State) : Host.Outcome State Fault Refusal :=
  .next (s.powered fun s => ikTime port time.toNat s)

/-- PING to the follower at `pos`, or its PONG: leader time, the follower's receive and transmit times; `l` is the one-way
latency that the path gives the follower (R539). -/
def ikPing (port pos t0 rx tx l : Nat) (s : State) : State :=
  s.frame port fun s =>
    let mine := s.rd Reg.IK_STATUS_POS
    if s.leads then
      let lat := ((s.tb.ns - t0) - (tx - rx)) / 2
      let s := { s with ik := { s.ik with latencies := sput s.ik.latencies pos lat } }
      s.when (decide (pos + 1 = mine ∨ mine + 1 = pos)) (·.wr Reg.IKP_STATUS_LAT_NS lat port)
    else if pos = mine then
      let lead := s.rd Reg.IK_STATUS_LEADER_POS
      let s := { s with ik := { s.ik with latency := l } }
      let s := s.when (decide (lead + 1 = mine ∨ mine + 1 = lead)) (·.wr Reg.IKP_STATUS_LAT_NS l port)
      s.tell port 0x03 (leBytes 8 t0 ++ leBytes 8 s.tb.ns ++ leBytes 8 s.tb.ns)
    else s.relay port 0x03 (leBytes 8 t0 ++ leBytes 8 rx ++ leBytes 8 tx)

def execIkPing (port : Fin 2) (pos : Fin 4) (t0 rx tx : BitVec 64) (l : BitVec 16) (s : State) :
    Host.Outcome State Fault Refusal :=
  .next (s.powered fun s => ikPing port pos t0.toNat rx.toNat tx.toNat l.toNat s)

/-- IK_TIME_SEND: the 10 µs timer (R537). -/
def ikTimeSend (s : State) : State :=
  if !s.cascaded then s else ((s.when s.leads (·.tellAll 0x02 (leBytes 8 s.tb.ns))).sendState).ikEvaluate

def execIkTimeSend (s : State) : Host.Outcome State Fault Refusal := .next (s.powered fun s => ikTimeSend s)

/-- IK_PING_SEND: the leader's 1 ms timer (R537). -/
def ikPingSend (s : State) : State := s.when (s.cascaded && s.leads) (·.tellAll 0x03 (leBytes 8 s.tb.ns))

def execIkPingSend (s : State) : Host.Outcome State Fault Refusal := .next (s.powered fun s => ikPingSend s)

/-! ## Lines and runs (R540, R541) -/

/-- A follower whose run is to stop at a line that it has reached stops (R541). -/
def State.orderedStop (s : State) : State :=
  match s.ik.order with
  | some (false, y, _) =>
    if y ≤ s.lt.line then (({ s with ik := { s.ik with order := none } }).endRun).putIkState 3 0 else s
  | _ => s

/-- TRIGGER: line `y` with trigger time `t`; its start is due at t + D_c (R540). -/
def ikTrigger (port y t d : Nat) (s : State) : State :=
  s.frame port fun s =>
    if s.leads then s
    else
      let s := s.relay port 0x04 (leBytes 6 y ++ leBytes 8 t ++ leBytes 2 d)
      if s.rd Reg.IK_STATUS_STATE ≠ 4 then s
      else
        let s := (s.putLt { s.lt with line := y }).commitsDue false commitCount
        let s := (s.putLt { s.lt with line := y + 1 }).assignLine y t
        ({ s with ik := { s.ik with starts := s.ik.starts ++ [(y, t, t + d)] } }).orderedStop

def execIkTrigger (port : Fin 2) (y : BitVec 48) (t : BitVec 64) (d : BitVec 16) (s : State) :
    Host.Outcome State Fault Refusal :=
  .next (s.powered fun s => ikTrigger port y.toNat t.toNat d.toNat s)

/-- STATE of the device at position `pos` (R541). -/
def ikState (port pos : Nat) (run : Bool) (digest : List Nat) (gen keep : Nat) (pause : Bool) (s : State) : State :=
  s.frame port fun s =>
    let ofLeader := !s.leads && pos == s.rd Reg.IK_STATUS_LEADER_POS
    let s := s.when (!s.leads)
      (·.relay port 0x05 ((run.toNat :: digest) ++ leBytes 4 gen ++ leBytes 2 keep ++ [pause.toNat]))
    let known : IkDevice := tget {} s.ik.chain pos
    let d : IkDevice := { known with digest := digest, run := run, gen := gen, keep := keep, pause := pause }
    let s := { s with ik := { s.ik with chain := tput pos d s.ik.chain,
                                        leaderDigest := if ofLeader then digest else s.ik.leaderDigest } }
    let s := if ofLeader then
        s.each (bytesToWords digest).zipIdx fun s e => s.wr Reg.IK_LEADER_DIGEST e.1 0 e.2
      else s
    let s := s.when ((s.leads || ofLeader) && !run) (·.haltRun 3)
    s.ikEvaluate

def execIkState (port : Fin 2) (pos : Fin 4) (run : Bool) (digest : List Nat) (gen : Word) (keep : BitVec 16)
    (pause : Bool) (s : State) : Host.Outcome State Fault Refusal :=
  .next (s.powered fun s => ikState port pos run digest gen.toNat keep.toNat pause s)

/-- RUN: the leader starts or stops the run at a line and a time (R541). -/
def ikRun (port : Nat) (start : Bool) (y t : Nat) (s : State) : State :=
  s.frame port fun s =>
    if s.leads then s
    else
      let s := s.relay port 0x06 (start.toNat :: leBytes 6 y ++ leBytes 8 t)
      let st := s.rd Reg.IK_STATUS_STATE
      let o : Option (Bool × Nat × Nat) := some (start, y, t)
      if start then
        if st ≠ 3 then s
        else if t ≤ s.tb.ns && !s.cast.aborting then s.followRun
        else ({ s with ik := { s.ik with order := o } }).wr Reg.DEV_RUN_STATUS_STARTING 1
      else if st = 4 then ({ s with ik := { s.ik with order := o } }).orderedStop
      else
        -- a start that still waits is taken back
        ({ s with ik := { s.ik with order := none } }).wr Reg.DEV_RUN_STATUS_STARTING 0

def execIkRun (port : Fin 2) (start : Bool) (y : BitVec 48) (t : BitVec 64) (s : State) :
    Host.Outcome State Fault Refusal :=
  .next (s.powered fun s => ikRun port start y.toNat t.toNat s)

/-- HALT of another device (R541). -/
def ikHalt (port cause y : Nat) (s : State) : State :=
  s.frame port fun s =>
    if s.rd Reg.IK_STATUS_STATE = 4 then s.haltRun 2 else s.relay port 0x20 (cause :: leBytes 6 y)

def execIkHalt (port : Fin 2) (cause : BitVec 8) (y : BitVec 48) (s : State) : Host.Outcome State Fault Refusal :=
  .next (s.powered fun s => ikHalt port cause.toNat y.toNat s)

/-- IK_CLEAR: a write of IK_CMD (R541). -/
def ikClear (v : Nat) (s : State) : State :=
  let deaf := !s.on Reg.IKP_STATUS_UP (s.portTo (s.rd Reg.IK_STATUS_LEADER_POS))
  if v.testBit 0 && s.rd Reg.IK_STATUS_STATE == 5 && (s.leads || deaf) then s.ikLink else s

def execIkClear (v : Word) (s : State) : Host.Outcome State Fault Refusal :=
  .next (s.powered fun s => ikClear v.toNat s)

/-! ## KEEP (R545) -/

/-- THIN: the chain's KEEP and its first line. -/
def State.takeThin (s : State) (keep y : Nat) : State :=
  { s with thin := { s.thin with cascade := (s.thin.cascade.filter fun e => e.2 != y) ++ [(keep, y)] } }

/-- The leader takes the lowest KEEP, from the second trigger after it is computed. -/
def State.sendThin (s : State) : State :=
  let keep := s.ik.chain.foldl (fun k e => min k e.2.keep) s.thin.own
  let y := if s.running then s.lt.line - s.lt.owed.length + 1 else 1
  (s.tellAll 0x07 (leBytes 2 keep ++ leBytes 6 y)).takeThin keep y

/-- THIN received by a follower. -/
def ikThin (port keep y : Nat) (s : State) : State :=
  s.frame port fun s => if s.leads then s else (s.relay port 0x07 (leBytes 2 keep ++ leBytes 6 y)).takeThin keep y

def execIkThin (port : Fin 2) (keep : BitVec 16) (y : BitVec 48) (s : State) : Host.Outcome State Fault Refusal :=
  .next (s.powered fun s => ikThin port keep.toNat y.toNat s)

/-- PACE_WINDOW_END (R34, R437): on a cascade each device reports its KEEP, and the leader decides (R545). -/
def paceWindowEndCmd (tokens : List Nat) (s : State) : State :=
  let s := paceWindowEnd tokens s
  if !s.cascaded then s else (s.sendState).when s.leads (·.sendThin)

def execPaceWindowEnd (tokens : List Nat) (s : State) : Host.Outcome State Fault Refusal :=
  .next (s.powered fun s => paceWindowEndCmd tokens s)

/-! ## Cascade commits (R544) -/

/-- COMMIT: a device's report of its resulting digest (`none`), or the leader's refusal or line. -/
def ikCommit (port pos : Nat) (digest : List Nat) (result : Option (Option Nat)) (s : State) : State :=
  s.frame port fun s =>
    match result with
    | none =>
      if !s.leads then s.relay port 0x08 digest
      else
        let s := if s.ik.reports.isEmpty then { s with ik := { s.ik with since := s.tb.ns } } else s
        ({ s with ik := { s.ik with reports := tput pos digest s.ik.reports } }).judgeReports
    | some none => if s.leads then s else (s.relay port 0x08 (digest ++ [1])).cascadeRefused
    | some (some y) => if s.leads then s else (s.relay port 0x08 (digest ++ leBytes 6 y)).cascadeLine y

def execIkCommit (port : Fin 2) (pos : Fin 4) (digest : List Nat) (result : Option (Option (BitVec 48))) (s : State) :
    Host.Outcome State Fault Refusal :=
  .next (s.powered fun s => ikCommit port pos digest (result.map fun r => r.map BitVec.toNat) s)

/-- IK_COMMIT_TIMEOUT: SYNC_MS after the first report some are still missing, and the leader refuses. -/
def ikCommitTimeout (s : State) : State :=
  match s.ik.reports with
  | [] => s
  | r :: _ => if s.leads then (s.tellAll 0x08 (r.2 ++ [1])).cascadeRefused else s

def execIkCommitTimeout (s : State) : Host.Outcome State Fault Refusal := .next (s.powered fun s => ikCommitTimeout s)

/-- IK_COMMIT_LINE_LO_READ: the pair is captured for the agent (R546). -/
def ikCommitLineLoRead (agent sub width : Nat) (s : State) : State :=
  s.readPair agent 0x940 0x40 sub width (s.rdPair Reg.IK_COMMIT_LINE_LO_VALUE Reg.IK_COMMIT_LINE_HI_VALUE)

def execIkCommitLineLoRead (agent : Agent) (sub : Fin 4) (width : Nat) (s : State) :
    Host.Outcome State Fault Refusal :=
  .next (s.powered fun s => ikCommitLineLoRead agent sub width s)

/-! ## Work that crosses a boundary (R545) -/

/-- JOINT: the eastern device's part of the joint of line `y`; too late once the joint has been formed (R549). -/
def ikJoint (y o : Nat) (pixels : List (List Nat × Nat)) (s : State) : State :=
  s.frame 1 fun s =>
    if y < (s.lane 11).next then s else { s with joints := tput y { overlap := o, pixels := pixels } s.joints }

def execIkJoint (y : BitVec 48) (o : Fin 65) (pixels : List (List Nat × Nat)) (s : State) :
    Host.Outcome State Fault Refusal :=
  .next (s.powered fun s => ikJoint y.toNat o pixels s)

/-- DEFECT from the neighbour on a port. -/
def execIkDefect (port : Fin 2) (y : BitVec 48) (cols : List (Bool × Bool)) (s : State) :
    Host.Outcome State Fault Refusal :=
  .next (s.powered fun s => s.frame port fun s => ikDefect port y.toNat cols s)

/-- FRAGMENT from the neighbour on a port: ends, fragment number and first pixel of each run. -/
def execIkFragment (port : Fin 2) (y : BitVec 48) (runs : List (Nat × Nat × Nat × Nat × Nat)) (s : State) :
    Host.Outcome State Fault Refusal :=
  .next (s.powered fun s => s.frame port fun s =>
    ikFragment port y.toNat (runs.map fun r => ⟨r.1, r.2.1, r.2.2.1, r.2.2.2.1, r.2.2.2.2⟩) s)

/-- BLOB_PART from the neighbour on a port. -/
def execIkBlobPart (port : Fin 2) (v : List Nat) (s : State) : Host.Outcome State Fault Refusal :=
  .next (s.powered fun s => s.frame port fun s => ikBlobPart port v s)

/-- The bytes of an ITEM_PART message (R537). -/
def itemPartBytes (p : List Nat) : List Nat :=
  ((p.zip ([4, 8, 8, 8, 2, 2, 4, 2] ++ List.replicate 17 8)).flatMap fun e => leBytes e.2 e.1)

/-- ITEM_PART from the east: added where this device holds X0 of the item, else relayed to the west (R230, R545). -/
def ikItemPartFrame (p : List Nat) (s : State) : State :=
  s.frame 1 fun s =>
    let g := gridOf (s.atLine s.comp.next).rd
    let c := ((p.getD 0 0 + 2 ^ 32 - g.base) % 2 ^ 32) % g.cols
    if !s.westNeighbour || decide (s.xFirst ≤ g.colX c) then ikItemPart p s else s.relay 1 0x14 (itemPartBytes p)

def execIkItemPart (p : List Nat) (s : State) : Host.Outcome State Fault Refusal :=
  .next (s.powered fun s => ikItemPartFrame p s)

end Sys2Proof.Machine
end

