-- ==== Sys2Proof/Machine/Domains.lean ====
section
/-!
DEFINITION. Memory errors and lane releases (R415, R419), and the power domains with their drains (R423 to R430).
-/

namespace Sys2Proof.Machine

/-! ## Memory errors (R415) -/

/-- A queue's cache entry holds an uncorrectable error: code 17, and the entry leaves the cache without write-back. -/
def State.contextError (s : State) (q : Nat) : State :=
  match s.queue q with
  | none => s
  | some x =>
    if x.state = 0 then s.dropContext q
    else (((s.queueFault q 17).onQueue q fun x => { x with ending := some 17 }).settle q).drainAllDue

/-- A staging slot holds an uncorrectable error: its record is dropped (R412). -/
def State.stagingError (s : State) (n : Nat) : State :=
  match s.fr.staged[n]? with
  | none => s
  | some r => ({ s with fr := { s.fr with staged := s.fr.staged.eraseIdx n } }).recordLost r

/-- ECC_UNCORRECTABLE (R415): `kind` 0 lane `n`, 1 reference line `n`, 2 staging slot `n`, 3 the cache entry of queue
`n`. -/
def eccUncorrectable (kind n : Nat) (s : State) : State :=
  let s := (s.inc Reg.ECC_UNCORR_COUNT).raise Ev.FLT_ECC_UNCORR
  match kind with
  | 0 => s.laneFault n 2
  | 1 => s.refLineLost n
  | 2 => s.stagingError n
  | _ => s.contextError n

def execEccUncorrectable (kind : Fin 4) (n : Nat) (s : State) : Host.Outcome State Fault Refusal :=
  .next (s.powered fun s => eccUncorrectable kind.val n s)

/-- ECC_CORR (R415). -/
def eccCorr (s : State) : State := (s.inc Reg.ECC_CORR_COUNT).raise Ev.FLT_ECC_CORR

def execEccCorr (s : State) : Host.Outcome State Fault Refusal := .next (s.powered fun s => eccCorr s)

/-- LANE_RESET_CMD: a write of FLT_CMD; a held lane resets at the second line start after it (R419, R430). -/
def laneResetCmd (v : Nat) (s : State) : State :=
  let k := bitsOf v 0 4
  if v.testBit 4 && decide (k < 12) && s.on Reg.LANE_FLT_HELD 0 k && (s.lane k).resetIn.isNone then
    s.putLane k { s.lane k with resetIn := some 2 }
  else s

def execLaneResetCmd (v : Word) (s : State) : Host.Outcome State Fault Refusal :=
  .next (s.powered fun s => laneResetCmd v.toNat s)

/-! ## Domains (R424) -/

/-- DOM_STATE of a domain. -/
def State.putDomain (s : State) (d st : Nat) : State :=
  let v := s.rd Reg.DOM_STATE_STATE
  s.wr Reg.DOM_STATE_STATE (v - (bitsOf v (3 * d) 3) <<< (3 * d) + st <<< (3 * d))

/-- DOM_CTL.ON of a domain. -/
def State.wanted (s : State) (d : Nat) : Bool := (s.rd Reg.DOM_CTL_ON).testBit (d - 2)

/-- A domain that R423 does not switch off during a run. -/
def runKeeps (d : Nat) : Bool := d == 2 || d == 3 || d == 7

/-- A transfer is work of the domain: its device-window side lies on a page there, or it is a payload of PIXEL. -/
def Xfer.inDomain (x : Xfer) (d : Nat) : Bool := (x.payload && d == 3) || x.windowPage fun p => domainOfPage p == d

/-- Transfers of the domain, begun or waiting on a channel. -/
def State.domainXfers (s : State) (d : Nat) : Nat :=
  ((List.range 64).map fun c =>
    ((s.channel c).waiting.filter fun x => x.inDomain d).length +
      (match (s.channel c).current with
        | some x => if x.inDomain d then 1 else 0
        | none => 0)).sum

/-- Queues whose REF_LINES head waits for its line. -/
def State.earlyQueues (s : State) : List Nat := (s.fr.queues.filter fun e => e.2.early).map (·.1)

/-- A group is without its domain: its read-out is cut off. -/
def State.groupOff (s : State) (g : Nat) : State :=
  let s := s.cutGroup g
  s.putGroup g { (s.group g).outputsLow with unread := none, flushDue := false }

/-- What a domain does as it leaves ON (R426). -/
def State.domainLeaves (s : State) (d : Nat) : State :=
  let s := s.dropCaptured d
  match d with
  | 2 => (s.calAbort).each (List.range 97) fun s c => s.putConv c { s.conv c with forced := none }
  | 4 => s.brDrain
  | 5 => if s.on Reg.PFE_STATUS_BUSY then s.pfeAbandon else s
  | 6 => s.motDomainOff
  | 7 => s.ikEvaluate
  | _ => s

/-- What a domain loses as it goes off (R423, R426). -/
def State.domainDark (s : State) (d : Nat) : State :=
  match d with
  | 2 => s.each (List.range 12) State.groupOff
  | 3 =>
    let s := s.each s.earlyQueues fun s q =>
      match (s.queue q).bind (·.head) with
      | some w => s.finishHead q w 0x08 0 0
      | none => s
    let s := (s.refWaiting.refEmpty).loseStaged fun r => decide (5 ≤ r.kind)
    let s := if s.running then s.linesLost else { s with outLines := [] }
    { s with buffers := [], readouts := [], joints := [], reg := { s.reg with tiles := [] } }
  | 4 => let s := s.brOff; { s with beryl := { s.beryl with snap := [] } }
  | 5 => s.each (List.range 8) fun s n => s.emit (.drive "AO" n 0)
  | _ => s

/-- What a domain does as it is on again (R426). -/
def State.domainLit (s : State) (d : Nat) : State :=
  match d with
  | 2 => s.each (List.range 12) fun s g => (s.wr Reg.PAWN_STATUS_REASON 6 g).setFallback g true s.lt.line
  | 4 => s.brLit
  | 7 => s.ikEvaluate
  | _ => s

/-- An OFF domain that is wanted starts. -/
def State.domainStart (s : State) (d : Nat) : State := if s.domain d = 0 && s.wanted d then s.putDomain d 1 else s

/-- The domain goes OFF after a drain; `late`: what was left at its end was stopped (R424). -/
def State.domainOff (s : State) (d : Nat) (late : Bool) : State :=
  let n := (if late then s.domainXfers d else 0) + (if d = 3 then s.earlyQueues.length else 0)
  let lasted := s.tb.ns - sget s.flt.drains d
  let s := s.putDomain d 0
  let s := s.when late fun s => (s.stopXfers 0x08 fun x => x.inDomain d).drainAllDue
  let s := s.domainDark d
  let s := { s with flt := { s.flt with drains := tdel d s.flt.drains } }
  let s := ((s.wr Reg.DOM_LAST_DOMAIN d).wrB Reg.DOM_LAST_TIMEOUT late).wr Reg.DOM_LAST_DISCARDED (min 65535 n)
  let s := s.wr Reg.DOM_DRAIN_MAX_NS (max (s.rd Reg.DOM_DRAIN_MAX_NS) (min 0xFFFFFFFF lasted))
  (s.raise (if late then Ev.DOM_DRAIN_TIMEOUT else Ev.DOM_DOM_OFF)).domainStart d

/-- An ON domain that is no longer wanted drains, unless R423 refuses: the domain stays ON, and so does its bit. -/
def State.domainDrain (s : State) (d : Nat) : State :=
  if s.domain d ≠ 2 || s.wanted d then s
  else if s.running && runKeeps d then
    (s.wr Reg.DOM_CTL_ON (setBit (s.rd Reg.DOM_CTL_ON) (d - 2))).raise Ev.DOM_DOM_REFUSED
  else
    let s := s.putDomain d 3
    ({ s with flt := { s.flt with drains := tput d s.tb.ns s.flt.drains } }).domainLeaves d

/-- A domain in FAULT whose bit is 0 goes OFF. -/
def State.domainClear (s : State) (d : Nat) : State :=
  if s.domain d = 4 && !s.wanted d then
    (s.putDomain d 0).wr Reg.DOM_FAULT_BITS (clearBit (s.rd Reg.DOM_FAULT_BITS) d)
  else s

/-- DOM_CTL_WRITE: a write of DOM_CTL (R424, R429). -/
def domCtlWrite (v : Nat) (s : State) : State :=
  (s.wr Reg.DOM_CTL_ON (bitsOf v 2 6)).each [2, 3, 4, 5, 6, 7] fun s d =>
    ((s.domainDrain d).domainClear d).domainStart d

def execDomCtlWrite (v : Word) (s : State) : Host.Outcome State Fault Refusal :=
  .next (s.powered fun s => domCtlWrite v.toNat s)

/-- DOM_OFF: no work of the draining domain remains in flight (R424). -/
def domOff (d : Nat) (s : State) : State := if s.domain d = 3 && s.domainXfers d == 0 then s.domainOff d false else s

def execDomOff (d : Fin 8) (s : State) : Host.Outcome State Fault Refusal := .next (s.powered fun s => domOff d s)

/-- DRAIN_TIMEOUT: DOM_DRAIN has passed since the drain began; without work left it ends as a drain that is done
(R424, R428). -/
def drainTimeout (d : Nat) (s : State) : State :=
  if s.domain d = 3 then s.domainOff d (s.domainXfers d != 0) else s

def execDrainTimeout (d : Fin 8) (s : State) : Host.Outcome State Fault Refusal :=
  .next (s.powered fun s => drainTimeout d s)

/-- DOM_ON: the start time has passed (R424); a domain that is not wanted any more drains. -/
def domOn (d : Nat) (s : State) : State :=
  if s.domain d = 1 then (((s.putDomain d 2).raise Ev.DOM_DOM_ON).domainLit d).domainDrain d else s

def execDomOn (d : Fin 8) (s : State) : Host.Outcome State Fault Refusal := .next (s.powered fun s => domOn d s)

/-- A switchable domain's monitor or switch reports a fault: all its work ends at once (R415, R424, R462). -/
def State.domainFault (s : State) (d : Nat) : State :=
  if d < 2 ∨ s.domain d = 0 ∨ s.domain d = 4 then s
  else
    let was := s.domain d
    let s := { s.putDomain d 4 with flt := { s.flt with drains := tdel d s.flt.drains } }
    let s := (s.wr Reg.DOM_FAULT_BITS (setBit (s.rd Reg.DOM_FAULT_BITS) d)).raise Ev.DOM_DOM_FAULT
    let s := (s.alert 3).usbMessage 5 1 d
    let s := (s.stopXfers 0x08 fun x => x.inDomain d).drainAllDue
    (s.when (was == 2) (·.domainLeaves d)).domainDark d

/-- DOM_FAULT (R424). -/
def domFault (d : Nat) (s : State) : State := s.domainFault d

def execDomFault (d : Fin 8) (s : State) : Host.Outcome State Fault Refusal := .next (s.powered fun s => domFault d s)

end Sys2Proof.Machine
end

