-- ==== Sys2Proof/Machine/Log.lean ====
section
/-!
DEFINITION. The management log beyond its intake (R463 to R468): the ring, the mirror in flash, and the selection that
tenant 0 reads.
-/

namespace Sys2Proof.Machine

/-- The 32 bytes of a log entry (R464). -/
def LogEntry.bytes (e : LogEntry) : List Nat :=
  let b := leBytes 8 e.time ++ leBytes 4 e.seq ++ leBytes 2 (e.kind % 256 + (e.tenant % 32) <<< 8) ++ leBytes 2 (e.page % 8192) ++
    leBytes 2 (e.offset % 4096 + (e.be % 16) <<< 12) ++ [0, 0] ++ leBytes 4 e.value ++ leBytes 4 e.arg1 ++ leBytes 2 e.arg2
  b ++ leBytes 2 (crc16 0xFFFF b)

/-- The state with another log. -/
def State.putLog (s : State) (l : LogState) : State := { s with nt := { s.nt with log := l } }

/-- The entry is mirrored (R467, R468): its kind is, or it tells of a shutdown or, in the mirror, of lost entries. -/
def State.mirrored (s : State) (e : LogEntry) : Bool :=
  e.kind == 0x0B || (e.kind == 0x12 && e.arg1 == 0) || (s.rd Reg.LOG_MIRROR_MASK_BITS).testBit e.kind

/-- LOG_ENTRY: an event that must be logged (R463). -/
def logEntry (kind tenant page offset be value arg1 arg2 : Nat) (s : State) : State :=
  s.log ⟨kind, tenant, page, offset, be, value, arg1, arg2⟩

def execLogEntry (kind tenant : Fin 32) (page : Fin 8192) (offset : Fin 4096) (be : Fin 16) (value arg1 : Word)
    (arg2 : BitVec 16) (s : State) : Host.Outcome State Fault Refusal :=
  .next (s.powered fun s => logEntry kind tenant page offset be value.toNat arg1.toNat arg2.toNat s)

/-- The entry that a full ring gives up was still to be programmed: it is counted (R467). -/
def LogState.overwrite (l : LogState) (e : LogEntry) : LogState :=
  if l.waiting.any fun w => w.seq == e.seq then
    { l with waiting := l.waiting.filter fun w => w.seq != e.seq, lostMirror := satAdd 16 l.lostMirror 1,
             mirrorLostPending := l.mirrorLostPending + 1 }
  else l

/-- LOG_INTAKE_DRAIN: the oldest entry of the intake queue enters the ring (R463). -/
def logIntakeDrain (s : State) : State :=
  let l := s.nt.log
  match l.intake with
  | [] => s
  | e :: rest =>
    let l := match l.ring[8191]? with
      | some old => l.overwrite old
      | none => l
    s.putLog { l with intake := rest, ring := e :: l.ring.take 8191,
                      waiting := if s.mirrored e then l.waiting ++ [e] else l.waiting }

def execLogIntakeDrain (s : State) : Host.Outcome State Fault Refusal := .next (s.powered fun s => logIntakeDrain s)

/-- Mirroring stops: the flash failed or is absent (R467). -/
def State.mirrorFault (s : State) : State :=
  let n := s.nt.log.waiting.length
  ((s.putLog { s.nt.log with mirrorStopped := true }).raise Ev.MGMT_MIRROR_FAULT).log { kind := 0x12, value := n, arg1 := 1 }

/-- The entries `es` are programmed at the mirror's write point; the newest 130,944 are retained. -/
def State.program (s : State) (es : List LogEntry) : State :=
  let l := s.nt.log
  let s := s.emit (.flash (0x810000 + 32 * (l.mirrorAt % 131072)) (es.flatMap LogEntry.bytes))
  let last := ((es.getLast?).map fun e => (e.seq + 1) % 2 ^ 32).getD l.mirrorSeq
  (s.putLog { l with waiting := l.waiting.drop es.length, mirror := (es.reverse ++ l.mirror).take 130944,
                     mirrorSeq := last, mirrorAt := l.mirrorAt + es.length }).mgmtRaise 21

/-- LOG_MIRROR_PROGRAM: up to eight waiting entries, one page, are programmed; `fail`: the flash reports a failure
(R467). -/
def logMirrorProgram (fail : Bool) (s : State) : State :=
  let l := s.nt.log
  if l.waiting.isEmpty || l.mirrorStopped then s
  else if fail || !s.mgmt.flash.fitted then s.mirrorFault
  else
    let s := s.program (l.waiting.take 8)
    if l.mirrorLostPending = 0 then s
    else (s.putLog { s.nt.log with mirrorLostPending := 0 }).log { kind := 0x12, value := l.mirrorLostPending }

def execLogMirrorProgram (fail : Bool) (s : State) : Host.Outcome State Fault Refusal :=
  .next (s.powered fun s => logMirrorProgram fail s)

/-- Every entry of the intake queue enters the ring. -/
def State.logSettle (s : State) : State := s.each (List.range s.nt.log.intake.length) fun s _ => logIntakeDrain s

/-- Everything that is logged reaches the ring and the mirror before the cores stop (R468). -/
def State.logFlush (s : State) : State :=
  let s := s.logSettle
  if s.nt.log.waiting.isEmpty || s.nt.log.mirrorStopped || !s.mgmt.flash.fitted then s else s.program s.nt.log.waiting

/-! ## Reading the log (R466) -/

/-- A new selection is to be fetched. -/
def State.selectLog (s : State) (seq : Nat) : State :=
  let s := ((s.wr Reg.LOG_SEL_SEQ seq).wr Reg.LOG_SRC_READY 0).wr Reg.LOG_SRC_GONE 0
  { s with mgmt := { s.mgmt with logWanted := true } }

/-- LOG_SEL_WRITE. -/
def logSelWrite (v : Nat) (s : State) : State := s.selectLog v

def execLogSelWrite (v : Word) (s : State) : Host.Outcome State Fault Refusal :=
  .next (s.powered fun s => logSelWrite v.toNat s)

/-- The entry with a SEQ in the ring (source 0) or the mirror (source 1). -/
def State.logFind (s : State) (src seq : Nat) : Option LogEntry :=
  (if src = 0 then s.nt.log.ring else s.nt.log.mirror).find? fun e => e.seq == seq

/-- LOG_DATA_READY: LOG_DATA holds the selected entry, or zeros with GONE (R466). -/
def logDataReady (s : State) : State :=
  if !s.mgmt.logWanted then s
  else
    let s := { s with mgmt := { s.mgmt with logWanted := false } }
    let e := s.logFind (s.rd Reg.LOG_SRC_SRC) (s.rd Reg.LOG_SEL_SEQ)
    let words := (e.map fun e => bytesToWords e.bytes).getD (List.replicate 8 0)
    let s := s.each words.zipIdx fun s x => s.wr Reg.LOG_DATA_VALUE x.1 0 x.2
    (s.wr Reg.LOG_SRC_READY 1).wrB Reg.LOG_SRC_GONE e.isNone

def execLogDataReady (s : State) : Host.Outcome State Fault Refusal := .next (s.powered fun s => logDataReady s)

/-- A read of LOG_DATA[w]; word 7 advances the selection (R466, R478). -/
def State.logWord (w : Nat) (s : State) : State × Nat :=
  let v := s.rd Reg.LOG_DATA_VALUE 0 w
  (s.when (w == 7) fun s => s.selectLog (s.rd Reg.LOG_SEL_SEQ + 1), v)

/-- LOG_DATA_READ: a read at LOG_DATA[w]. -/
def logDataRead (agent w sub width : Nat) (s : State) : State :=
  s.readAccess agent 0x900 (0x440 + 4 * w) sub width (State.logWord w) (State.logWord (w + 1))

def execLogDataRead (agent : Agent) (w : Fin 8) (sub : Fin 4) (width : Nat) (s : State) :
    Host.Outcome State Fault Refusal :=
  .next (s.powered fun s => logDataRead agent w sub width s)

end Sys2Proof.Machine
end

