-- ==== Sys2Proof/Machine/Thermal.lean ====
section
/-!
DEFINITION. The power monitors (R461, R462), the thermal model (R431 to R434), the throttle fraction (R435) and the
latched thermal shutdown (R422, R441, R468).
-/

namespace Sys2Proof.Machine

/-! ## Power monitors -/

/-- A voltage of monitor `m` outside its limits in three samples on end (R462). -/
def State.monAlarm (s : State) (m mv : Nat) : State :=
  let s := (s.wr Reg.MON_ALARM 1 0 m).raise Ev.MGMT_MON_ALARM
  let s := s.log { kind := 0x0F, value := mv, arg1 := m }
  let s := (s.alert 4).usbMessage 5 3 m
  if 2 ≤ m ∧ m ≤ 7 ∧ (s.domain m = 2 ∨ s.domain m = 3) then s.domainFault m else s

/-- One sample of monitor `m`: voltage in mV and current in mA. -/
def State.monSample (s : State) (m : Nat) (x : Nat × Nat) : State :=
  let t := s.therm
  let out := decide (x.1 < s.rd Reg.MON_V_LO 0 m) || decide (s.rd Reg.MON_V_HI 0 m < x.1)
  let n := if out then sget t.outside m + 1 else 0
  let add := fun (l : Store) (v : Nat) => sput l m (sget l m + v)
  let t := { t with samples := add t.samples 1, volts := add t.volts x.1, amps := add t.amps x.2,
                    power := add t.power (x.1 * x.2), outside := sput t.outside m n }
  let s : State := { s with therm := t }
  if !out then s.wr Reg.MON_ALARM 0 0 m
  else if 3 ≤ n && !s.on Reg.MON_ALARM 0 m then s.monAlarm m x.1
  else s

/-- MONITOR_SAMPLE: each monitor delivers a sample, or none (R462). -/
def monitorSample (xs : List (Option (Nat × Nat))) (s : State) : State :=
  (s.each ((List.range 12).map fun m => (m, xs.getD m none)) fun s e =>
    match e.2 with
    | some x => s.monSample e.1 x
    | none => s).mgmtRaise 22

def execMonitorSample (xs : List (Option (Nat × Nat))) (s : State) : Host.Outcome State Fault Refusal :=
  .next (s.powered fun s => monitorSample xs s)

/-- The means of the step that ends go to MON, and which monitors reported. -/
def State.monStep (s : State) : State :=
  let t := s.therm
  let s := s.each (List.range 12) fun s m =>
    let n := sget t.samples m
    if n = 0 then s.wr Reg.MON_VALID 0 0 m
    else
      let p := sget t.power m / (1000 * n)
      let s := ((s.wr Reg.MON_V_MV (sget t.volts m / n) 0 m).wr Reg.MON_I_MA (sget t.amps m / n) 0 m).wr Reg.MON_P_MW p 0 m
      (s.wr Reg.MON_PEAK_MW (max (s.rd Reg.MON_PEAK_MW 0 m) p) 0 m).wr Reg.MON_VALID 1 0 m
  let missed := (List.range 12).foldl (fun (l : Store) m =>
    sput l m (if sget t.samples m = 0 then min 10 (sget l m + 1) else 0)) t.missed
  let all := (List.range 12).all fun m => sget t.samples m != 0
  { s with therm := { t with samples := [], volts := [], amps := [], power := [], missed := missed,
                             good := if all then min 10 (t.good + 1) else 0 } }

/-! ## The model -/

/-- The power of monitors in watts. -/
def State.watts (s : State) (ms : List Nat) : F64 := f64OfRat ((ms.map fun m => s.rd Reg.MON_P_MW 0 m).sum : Nat) 1000

/-- Fused constants of the network (R431): junction-to-lid resistance and capacitance of node `n`, lid capacitance; each
a positive binary64 number that the spec does not state. -/
def fused (n : Nat) : F64 :=
  f64OfRat ((Config.freeFuse (2 * n) % 2 ^ 32 + 1 : Nat) : Int) (Config.freeFuse (2 * n + 1) % 2 ^ 32 + 1)
def nodeR (n : Nat) : F64 := fused n
def nodeC (n : Nat) : F64 := fused (16 + n)
def lidC : F64 := fused 32

/-- Tokens of monitor `k` in the last window. -/
def State.tokens (s : State) (k : Nat) : Nat := s.avs.tokens.getD k 0

/-- The power input of node `n` (R431). -/
def State.nodePower (s : State) (n : Nat) : F64 :=
  if n < 12 then
    let sum := ((List.range 12).map s.tokens).sum
    let share := if sum = 0 then f64Div (s.watts [3]) (f64OfInt 12)
      else f64Div (f64Mul (s.watts [3]) (f64OfInt (s.tokens n))) (f64OfInt sum)
    f64Add (f64Div (s.watts [2, 8]) (f64OfInt 12)) share
  else if n = 12 then s.watts [1, 10]
  else if n = 13 then s.watts [7, 11]
  else f64Sum [s.watts [4], s.watts [5], s.watts [6], s.watts [0, 9]]

/-- The channels of region `k`: the spare counts where it serves, otherwise in region 11 (R431). -/
def State.regionChans (s : State) (k : Nat) : List Nat :=
  let spare := if s.carrying then s.castChan / 8 else 11
  (List.range 8).map (8 * k + ·) ++ (if spare = k then [96] else [])

/-- The mean temperature of region `k` from entries written since the last step, in °C (R432). -/
def State.regionMean (s : State) (k : Nat) : Option F64 :=
  let cs := (s.regionChans k).filter fun c => s.convEnabled c && (s.conv c).tempFresh
  if cs.isEmpty then none else some (f64OfRat ((cs.map s.ownT).sum) (256 * cs.length))

/-- The boundary temperature in units of 2⁻¹⁶ °C, and whether it comes from the front end (R433). -/
def State.boundary (s : State) : Int × Bool :=
  let c := s.pfe?
  let v := s.aoSource (c.on Reg.PFE_BOUND_PAIR) (c.rd Reg.PFE_BOUND_INDEX)
  if c.on Reg.PFE_BOUND_VALID && !v.2 then (v.1, true) else (s.rdS Reg.THERM_CFG_T_SET * 256, false)

/-- A temperature as signed 7.8 °C, saturated. -/
def celsius (t : F64) : Int :=
  match f64Round t 8 with
  | some v => sat v (-32768) 32767
  | none => if t.testBit 63 then -32768 else 32767

/-- The node temperatures with which the model begins: region means, else T_b (R434). -/
def State.startTemps (s : State) (tb : F64) : List F64 :=
  (List.range 16).map fun n => if n < 12 then (s.regionMean n).getD tb else tb

/-- One step of the network (R432). -/
def State.stepTemps (s : State) (t : List F64) (tb : F64) : List F64 :=
  let dt := f64OfRat 1 10000
  let lid := t.getD 15 0
  let q := (List.range 15).map fun n => f64Div (f64Sub (t.getD n 0) lid) (nodeR n)
  let t' := (List.range 15).map fun n =>
    f64Add (t.getD n 0) (f64Mul (f64Div dt (nodeC n)) (f64Sub (s.nodePower n) (q.getD n 0)))
  let rlb := f64OfRat (s.rd Reg.THERM_BOARD_RTH_LB : Nat) 4096
  let lid' := f64Add lid (f64Mul (f64Div dt lidC) (f64Sub (f64Sum q) (f64Div (f64Sub lid tb) rlb)))
  let corr := f64OfRat (s.rd Reg.THERM_CFG_CORR : Nat) 256
  let t' := (List.range 15).map fun k =>
    let x := t'.getD k 0
    if k < 12 then
      match s.regionMean k with
      | some m => f64Add x (f64Mul corr (f64Sub m x))
      | none => x
    else x
  t' ++ [lid']

/-- The highest temperature entry written in the last 10 ms over all channels, signed 7.8 °C (R434, R441). -/
def State.highestEntry (s : State) : Option Int :=
  (List.range 97).foldl (fun (b : Option Int) c =>
    if s.on Reg.DIAG_VALID c 3 && decide (s.tb.ns ≤ (s.conv c).tempTime + 10000000) then
      some (max (b.getD (s.ownT c)) (s.ownT c)) else b) none

/-- The state of the model after this step: 0 INIT, 1 RUN, 2 INVALID (R434). -/
def State.modelState (s : State) : Nat :=
  let st := s.rd Reg.THERM_STATUS_STATE
  if st = 1 then if s.therm.missed.any fun e => e.2 == 10 then 2 else 1
  else if s.therm.good = 10 then 1 else st

/-- tj_max in use, signed 7.8 °C; where neither the model nor an entry gives one it is a free value (R434). -/
def State.tjMax (s : State) (t : List F64) : State × Int :=
  if s.rd Reg.THERM_STATUS_STATE = 1 then (s, (t.take 15).foldl (fun m x => max m (celsius x)) (-32768))
  else
    match s.highestEntry with
    | some e => (s, sat (e + 1280) (-32768) 32767)
    | none => let r := s.take 16; (r.1, signed 16 r.2)

/-- The lowest node that holds the highest temperature. -/
def hotNode (t : List F64) : Nat :=
  (List.range 15).foldl (fun b n => if f64Lt (t.getD b 0) (t.getD n 0) then n else b) 0

/-- f of R435 for an excess `e`. -/
def throttleFraction (kp fMin : Nat) (e : Int) : Nat :=
  if e ≤ 0 then 1000 else (sat (1000 - rnd (kp * e) 8) fMin 1000).toNat

/-- The throttle fraction follows tj_max (R435). -/
def State.throttle (s : State) (tj : Int) : State :=
  let was := s.rd Reg.THROT_FRAC_F
  let f := throttleFraction (s.rd Reg.THROT_CTL_KP) (s.rd Reg.THROT_LIM_F_MIN) (tj - s.rdS Reg.THROT_CTL_TH_START)
  let s := (s.wr Reg.THROT_FRAC_F f).wrB Reg.THERM_STATUS_THROT (decide (f < 1000))
  let raw := low 16 tj
  if f < 1000 ∧ was = 1000 then ((s.raise Ev.THERM_THROTTLE_ON).alert 1).usbMessage 4 1 raw
  else if f = 1000 ∧ was < 1000 then (s.raise Ev.THERM_THROTTLE_OFF).usbMessage 4 2 raw
  else s

/-- The latched thermal shutdown at the quantity `v`: the entry is mirrored, the cores stop, every domain is off, the
outputs are safe and the link is down (R422, R468). -/
def State.thermalShutdown (s : State) (v : Int) : State :=
  let s := (s.logSettle.log { kind := 0x0B, value := low 16 v }).logFlush
  let s := (s.each (List.range 12) State.groupOff).each (List.range 8) fun s a =>
    ((s.emit (.pin "MOT_EN" a false)).emit (.drive "MOT_DUTY_A" a 0)).emit (.drive "MOT_DUTY_B" a 0)
  let s := (s.each (List.range 24) fun s n => s.emit (.pin "LED" n false)).each (List.range 4) fun s p =>
    s.emit (.pin "BR_MCLK" p false)
  let s := ((s.each (List.range 8) fun s n => s.emit (.drive "AO" n 0)).spdAdv true).wr Reg.HOST_LINK_UP 0
  let s := (s.wr Reg.DOM_STATE_STATE 0).wr Reg.IKP_STATUS_UP 0 0
  let s := (s.wr Reg.IKP_STATUS_UP 0 1).wr Reg.TB_STATUS_RUN_ACTIVE 0
  { s.wr Reg.DEV_RUN_STATUS_ACTIVE 0 with
    flt := { s.flt with shutdown := true }, mgmt := { s.mgmt with running := false, recovery := false } }

/-- The node temperatures and tj_max are published (R432, R449). -/
def State.publishTemps (s : State) (t : List F64) (tb tj : Int) (bound : Bool) : State :=
  let run := s.rd Reg.THERM_STATUS_STATE == 1
  let s := s.each (List.range 16) fun s n =>
    (s.wrS Reg.THERM_NODE_TEMP (celsius (t.getD n 0)) 0 n).wrB Reg.THERM_NODE_VALID run 0 n
  let fell := s.on Reg.THERM_STATUS_BOUND && !bound
  let s := (s.wrS Reg.THERM_BOUNDARY_VALUE (sat (rnd tb 8) (-32768) 32767)).wrB Reg.THERM_STATUS_BOUND bound
  let s := (s.wrS Reg.THERM_STATUS_TJ_MAX tj).wr Reg.THERM_STATUS_HOT_NODE (hotNode t)
  let s := s.wrS Reg.THERM_PEAK_VALUE (max (s.rdS Reg.THERM_PEAK_VALUE) tj)
  s.when fell (·.raise Ev.THERM_BOUND_FALLBACK)

/-- The temperatures of a step from `tb`, and THERM_STATUS.STATE after it (R431 to R435). -/
def State.modelTemps (s : State) (tb : Nat) : State :=
  let t := s.stepTemps (if s.therm.temps.isEmpty then s.startTemps tb else s.therm.temps) tb
  let st := s.modelState
  let s := s.when (st == 2 && s.rd Reg.THERM_STATUS_STATE != 2) (·.raise Ev.THERM_MODEL_INVALID)
  { s.wr Reg.THERM_STATUS_STATE st with therm := { s.therm with temps := t } }

/-- What is done at the temperature `v` (R441). -/
def State.judgeTemp (s : State) (tj v : Int) : State :=
  let s := s.when (decide (30720 ≤ v)) fun s => ((s.raise Ev.THERM_TJ_WARN).alert 0).usbMessage 4 0 (low 16 tj)
  if 32000 ≤ v then s.thermalShutdown v else s

/-- THERMAL_MODEL_STEP: every 100 µs while the firmware runs (R431 to R435, R441). -/
def thermalModelStep (s : State) : State :=
  if !s.mgmt.running then s
  else
    let s := s.monStep
    let b := s.boundary
    let s := s.modelTemps (f64OfRat b.1 65536)
    let r := s.tjMax s.therm.temps
    let tj := r.2
    let s := (r.1.publishTemps s.therm.temps b.1 tj b.2).throttle tj
    let v := match s.highestEntry with
      | some e => max e tj
      | none => tj
    let s := s.each (List.range 97) fun s c => s.putConv c { s.conv c with tempFresh := false }
    s.judgeTemp tj v

def execThermalModelStep (s : State) : Host.Outcome State Fault Refusal := .next (s.powered fun s => thermalModelStep s)

end Sys2Proof.Machine
end

