-- ==== Sys2Proof/Machine/Firmware.lean ====
section
/-!
DEFINITION. Mailboxes (R457 to R460), firmware images and their check (R470, R471), the boot ROM (R472) and the update
of a bank (R473 to R475).
-/

namespace Sys2Proof.Machine

/-! ## Mailboxes (R458 to R460) -/

/-- Mailbox writes that `p` picks become visible to every agent, in the order in which they were made (R460). -/
def State.settleStores (s : State) (p : MailboxStore → Bool) : State :=
  let go := s.mgmt.stores.filter p
  let s := { s with mgmt := { s.mgmt with stores := s.mgmt.stores.filter fun w => !p w } }
  s.each go fun s w =>
    s.hostWord w.page w.offset ((s.storedWord w.page w.offset &&& (0xFFFFFFFF - byteMask w.be)) ||| (w.value &&& byteMask w.be))

/-- Management, or the recovery ROM, handles requests. -/
def State.mgmtRuns (s : State) : Bool := s.mgmt.running || s.mgmt.recovery

/-- What an attached USB port loses as it detaches or is reset (R482): the queue of messages, the wake request, the log
stream. -/
def State.usbClear (s : State) : State :=
  let u := s.nt.usb
  let s : State := { s with nt := { s.nt with usb := { u with active := false, suspended := false, queue := [], lostPending := 0,
                                                               wakePending := false, wakeSent := false } } }
  ({ s with usb := { s.usb with stream := none } } : State).wr Reg.USB_STATUS_LOG_STREAM 0

/-- The rows of R482 that depend on VBUS, USB_CTL.EN and management: the port detaches, or attaches. -/
def State.usbFollow (s : State) : State :=
  let st := s.rd Reg.USB_STATUS_STATE
  if !s.usb.vbus || !s.on Reg.USB_CTL_EN then
    if st = 0 then s
    else
      let s : State := { s.usbClear with usb := { s.usbClear.usb with onyxBusy := false, onyxReply := none } }
      ((s.wr Reg.USB_STATUS_STATE 0).wr Reg.USB_STATUS_HS 0).emit (.pin "USB_PULLUP" 0 false)
  else if st = 0 && s.mgmtRuns then
    ((s.wr Reg.USB_STATUS_STATE 1).emit (.pin "USB_PULLUP" 0 true)).raise Ev.USB_CONNECT
  else s

/-- MAILBOX_GO: a write of MBX_H2M_CTL of mailbox `t` (R458). -/
def mailboxGo (agent t v : Nat) (s : State) : State :=
  if !v.testBit 31 then s
  else
    let n := bitsOf v 0 7
    if s.rd Reg.MBX_STATUS_STATE t ≠ 0 ∨ n = 0 ∨ 64 < n then s.raise Ev.MBX_MBX_REFUSED t
    else
      let s := s.settleStores fun w => w.agent == agent
      ((s.wr Reg.MBX_H2M_CTL_LEN n t).wr Reg.MBX_STATUS_STATE 1 t).mgmtRaise t

def execMailboxGo (agent : Agent) (t : Tenant) (v : Word) (s : State) : Host.Outcome State Fault Refusal :=
  .next (s.powered fun s => mailboxGo agent t v.toNat s)

/-- H2M_TAKEN: management has copied the request (R458). -/
def h2mTaken (t : Nat) (s : State) : State :=
  if s.rd Reg.MBX_STATUS_STATE t ≠ 1 || !s.mgmtRuns then s
  else
    let w := (List.range (s.rd Reg.MBX_H2M_CTL_LEN t)).map fun i => s.rd Reg.MBX_H2M_VALUE t i
    let s := { s with mgmt := { s.mgmt with requests := tput t w s.mgmt.requests, replies := tdel t s.mgmt.replies } }
    (s.wr Reg.MBX_STATUS_STATE 2 t).raise Ev.MBX_H2M_TAKEN t

def execH2mTaken (t : Tenant) (s : State) : Host.Outcome State Fault Refusal := .next (s.powered fun s => h2mTaken t s)

/-- Why a request other than a HELLO is rejected; `len`: the LEN of its message (R459). -/
def State.requestRejected (s : State) (t : Nat) (w : List Nat) (len : Nat) : Option Nat :=
  if s.tenantState t ≠ 2 && !s.mgmt.recovery then some 5
  else if bitsOf (w.getD 0 0) 8 8 ≠ w.length ∨ w.length ≠ len then some 2
  else none

/-- Words 1 to 4 of the FW_INFO reply (R459). -/
def State.fwInfo (s : State) : List Nat :=
  [s.rd Reg.MGMT_FW_VERSION, s.rd Reg.MGMT_BUILD_VALUE,
   s.rd Reg.MGMT_SVN_IMAGE + s.rd Reg.MGMT_SVN_FUSES <<< 8 + s.rd Reg.MGMT_STATUS_BANK <<< 16 +
     s.rd Reg.MGMT_STATUS_TRIAL <<< 17,
   s.rd Reg.ONX_ID_VERSION + s.rd Reg.ONX_ID_CHECKSUM <<< 16]

/-- A request `msg` of mailbox `t` waits for its reply. -/
def State.asked (s : State) (t msg : Nat) : Bool :=
  s.mgmtRuns && s.rd Reg.MBX_STATUS_STATE t == 2 && bitsOf ((tget [] s.mgmt.requests t).getD 0 0) 0 8 == msg &&
    (tfind t s.mgmt.replies).isNone

/-- FW_INFO (R459). -/
def fwInfoRequest (t : Nat) (s : State) : State :=
  if !s.asked t 2 then s
  else
    match s.requestRejected t (tget [] s.mgmt.requests t) 1 with
    | some r => s.reject t r
    | none => s.reply t (0x582 :: s.fwInfo)

def execFwInfo (t : Tenant) (s : State) : Host.Outcome State Fault Refusal :=
  .next (s.powered fun s => fwInfoRequest t s)

/-- LOG_MARK (R459): the reply carries the SEQ of its entry; that of an entry which was dropped is a free value. -/
def logMark (t : Nat) (s : State) : State :=
  if !s.asked t 3 || s.mgmt.recovery then s
  else
    let w := tget [] s.mgmt.requests t
    match s.requestRejected t w 3 with
    | some r => s.reject t r
    | none =>
      let n := s.nt.log.intake.length
      let s := s.log { kind := 0x10, tenant := t, value := w.getD 1 0, arg1 := w.getD 2 0 }
      if n < s.nt.log.intake.length then s.reply t [0x283, (s.nt.log.next + 2 ^ 32 - 1) % 2 ^ 32]
      else
        let r := s.take 32
        r.1.reply t [0x283, r.2]

def execLogMark (t : Tenant) (s : State) : Host.Outcome State Fault Refusal := .next (s.powered fun s => logMark t s)

/-- The answer to whatever the request is, where none is ready (R459). -/
def State.answer (s : State) (t : Nat) : State :=
  if !s.asked t (bitsOf ((tget [] s.mgmt.requests t).getD 0 0) 0 8) then s
  else
    match bitsOf ((tget [] s.mgmt.requests t).getD 0 0) 0 8 with
    | 1 => if s.mgmt.recovery then s else hello t s
    | 2 => fwInfoRequest t s
    | 3 => logMark t s
    | _ => if s.mgmt.recovery then s else s.reject t 4

/-- M2H_READY: management has written the reply (R458); a WELCOME brings the tenant up (R346). -/
def m2hReady (t : Nat) (s : State) : State :=
  if s.rd Reg.MBX_STATUS_STATE t ≠ 2 then s
  else
    let s := s.answer t
    match tfind t s.mgmt.replies with
    | none => s
    | some w =>
      let s := { s with mgmt := { s.mgmt with replies := tdel t s.mgmt.replies, requests := tdel t s.mgmt.requests } }
      let s := s.each w.zipIdx fun s x => s.wr Reg.MBX_M2H_VALUE x.1 t x.2
      let s := ((s.wr Reg.MBX_STATUS_M2H_LEN w.length t).wr Reg.MBX_STATUS_STATE 3 t).raise Ev.MBX_M2H_READY t
      if w.getD 0 0 = 0x481 then
        let v := (List.range 4).foldl (fun v i => if (w.getD 1 0).testBit i then i else v) 0
        ((s.putVersion t v).moveTenant t 2 0).raise Ev.HOST_TENANT_UP
      else s

def execM2hReady (t : Tenant) (s : State) : Host.Outcome State Fault Refusal := .next (s.powered fun s => m2hReady t s)

/-- MBX_M2H_ACK: a write of MBX_M2H_ACK (R458). -/
def mbxM2hAck (t v : Nat) (s : State) : State :=
  if v.testBit 0 && s.rd Reg.MBX_STATUS_STATE t == 3 then s.wr Reg.MBX_STATUS_STATE 0 t else s

def execMbxM2hAck (t : Tenant) (v : Word) (s : State) : Host.Outcome State Fault Refusal :=
  .next (s.powered fun s => mbxM2hAck t v.toNat s)

/-- MBX_FENCE_READ: every earlier write of the agent is visible to every agent when the read returns 0 (R460). -/
def mbxFenceRead (agent t sub width : Nat) (s : State) : State :=
  s.readAccess agent (0x900 + t) 0x2C sub width (fun s => (s.settleStores fun w => w.agent == agent, 0)) fun s => (s, 0)

def execMbxFenceRead (agent : Agent) (t : Tenant) (sub : Fin 4) (width : Nat) (s : State) :
    Host.Outcome State Fault Refusal :=
  .next (s.powered fun s => mbxFenceRead agent t sub width s)

/-! ## Images (R470, R471) -/

/-- A byte of flash or of an image; what was not programmed since the erase reads 0xFF. -/
def imageByte (b : List Nat) (o : Nat) : Nat := b.getD o 0xFF

/-- Bytes of an image. -/
def imageBytes (b : List Nat) (o n : Nat) : List Nat :=
  let l := (b.drop o).take n
  l ++ List.replicate (n - l.length) 0xFF

/-- A little-endian word of an image header. -/
def imageWord (b : List Nat) (o : Nat) : Nat := ofBytes (imageBytes b o 4)

/-- VERSION, BUILD and SVN of an image. -/
def imageVersion (b : List Nat) : Nat := imageWord b 8 % 2 ^ 24
def imageBuild (b : List Nat) : Nat := imageWord b 0x0C
def imageSvn (b : List Nat) : Nat := imageByte b 0x10

/-- The check of an image (R471): its REASON, 0 where it passes. `received`: the bytes of an update. -/
def imageReason (b : List Nat) (received : Option Nat) (revoked fuses : Nat) : Nat :=
  let id := imageWord b 0x10
  let len := imageWord b 0x14
  let key := bitsOf id 8 2
  if imageWord b 0 ≠ 0x3157464E ∨ imageWord b 4 ≠ 1 ∨ imageByte b 0x0B ≠ 0 ∨ id / 1024 ≠ 0 ∨
      (imageBytes b 0xB0 0x150).any (· != 0) then 1
  else if imageWord b 0x18 / 65536 ≠ 0x9640 ∨ 0x1100 < imageWord b 0x18 % 65536 then 2
  else if len % 4 ≠ 0 ∨ 4193792 < len ∨ received.any (· != 512 + len) then 3
  else if revoked.testBit key then 4
  else if !ecdsaVerify (Config.signingKey key) (ofBytesBE (sha384 (imageBytes b 0 0x50))) (ofBytesBE (imageBytes b 0x50 48))
      (ofBytesBE (imageBytes b 0x80 48)) then 5
  else if imageBytes b 0x20 48 ≠ sha384 (imageBytes b 512 len) then 6
  else if id % 256 < fuses then 7
  else 0

/-! ## The boot record and the boot ROM (R469, R472) -/

/-- The copy in force: the valid one with the higher count. -/
def Flash.record (f : Flash) : BootCopy :=
  if f.copyA.valid && (!f.copyB.valid || decide (f.copyB.count ≤ f.copyA.count)) then f.copyA else f.copyB

/-- A new record is written over the copy that is not in force. -/
def Flash.putRecord (f : Flash) (r : BootCopy) : Flash :=
  let old := f.record
  let r := { r with count := old.count + 1, valid := true }
  if f.copyA = old then { f with copyB := r } else { f with copyA := r }

/-- The image in a bank: 0 A, 1 B. -/
def Flash.bank (f : Flash) (b : Nat) : List Nat := if b = 0 then f.bankA else f.bankB

def Flash.putBank (f : Flash) (b : Nat) (l : List Nat) : Flash :=
  if b = 0 then { f with bankA := l } else { f with bankB := l }

def State.putFlash (s : State) (f : Flash) : State := { s with mgmt := { s.mgmt with flash := f } }

/-- A change of the boot record. -/
def State.onRecord (s : State) (f : BootCopy → BootCopy) : State :=
  s.putFlash (s.mgmt.flash.putRecord (f s.mgmt.flash.record))

/-- The REASON of the image in a bank; an absent flash holds none. -/
def State.bankReason (s : State) (b : Nat) (received : Option Nat := none) : Nat :=
  if !s.mgmt.flash.fitted then 10
  else imageReason (s.mgmt.flash.bank b) received s.mgmt.revoked (s.rd Reg.MGMT_SVN_FUSES)

/-- UPD_STATUS moves (R474): UPD_CHANGE, an UPDATE entry, alert 7 and the USB message follow a change of state. -/
def State.putUpdate (s : State) (st reason : Nat) : State :=
  let was := s.rd Reg.UPD_STATUS_STATE
  let s := (s.wr Reg.UPD_STATUS_STATE st).wr Reg.UPD_STATUS_REASON reason
  if was = st then s
  else
    let owner := s.rd Reg.UPD_STATUS_OWNER
    let s := (s.raise Ev.MGMT_UPD_CHANGE).log { kind := 0x0D, value := st, arg1 := reason, arg2 := owner }
    (s.alert 7).usbMessage 2 0 (s.storedWord 0x900 0x604)

/-- The firmware in bank `b` starts; `trial`: on trial, `fallback`: in place of the chosen bank (R472);
the link to the core regulator starts with it (R39, R40). -/
def State.startFirmware (s : State) (b : Nat) (trial fallback : Bool) : State :=
  let i := s.mgmt.flash.bank b
  let s := (s.wr Reg.MGMT_FW_VERSION (imageVersion i)).wr Reg.MGMT_BUILD_VALUE (imageBuild i)
  let s := (s.wr Reg.MGMT_SVN_IMAGE (imageSvn i)).wr Reg.MGMT_STATUS_BANK b
  let s := (s.wrB Reg.MGMT_STATUS_TRIAL trial).wrB Reg.MGMT_STATUS_FALLBACK fallback
  let s : State := { s.wr Reg.MGMT_STATUS_MODE 0 with mgmt := { s.mgmt with running := true }, therm := {} }
  let s := s.log { kind := 0x0E, value := imageVersion i, arg1 := b + trial.toNat * 2 + fallback.toNat * 4,
                   arg2 := imageSvn i }
  (s.when (s.rd Reg.DEV_LAST_CAUSE != 0) (·.alert 2)).linkStart

/-- The ROM enters recovery (R472). -/
def State.startRecovery (s : State) : State :=
  let s := ((s.wr Reg.MGMT_FW_VERSION 0).wr Reg.MGMT_BUILD_VALUE 0).wr Reg.MGMT_STATUS_MODE 1
  { s with mgmt := { s.mgmt with recovery := true } }

/-- BOOT: the boot ROM chooses and checks a bank and starts its firmware, or enters recovery (R472). -/
def boot (s : State) : State :=
  if !s.mgmt.bootDue then s
  else
    let s : State := { s with mgmt := { s.mgmt with bootDue := false } }
    let r := s.mgmt.flash.record
    -- without a valid record the bank is a free value
    let u := s.take 1
    let s := if r.valid then s else u.1
    let confirmed := if r.valid then r.confirmed else u.2
    let trial := r.valid && r.trial.isSome && !r.attempted
    let dropped := r.valid && r.trial.isSome && r.attempted
    let s := s.when (trial && s.mgmt.flash.fitted) (·.onRecord fun c => { c with attempted := true })
    let s := s.when (dropped && s.mgmt.flash.fitted) (·.onRecord fun c => { c with trial := none, attempted := false })
    let bank := if trial then r.trial.getD 0 else confirmed
    let s :=
      if s.bankReason bank = 0 then s.startFirmware bank trial false
      else if s.bankReason (1 - bank) = 0 then s.startFirmware (1 - bank) false true
      else s.startRecovery
    let s := if dropped then s.putUpdate 4 9 else if s.on Reg.MGMT_STATUS_TRIAL then s.putUpdate 6 0 else s
    s.usbFollow

def execBoot (s : State) : Host.Outcome State Fault Refusal := .next (s.powered fun s => boot s)

/-! ## Updates (R473 to R475) -/

/-- An update command is refused. -/
def State.updRefused (s : State) : State := s.raise Ev.MGMT_UPD_REFUSED

/-- The owner code of an agent: 1 tenant 0, 2 USB. -/
def ownerCode (usb : Bool) : Nat := if usb then 2 else 1

/-- A command of an agent may be looked at: in RECEIVING and VERIFYING only the owner's. -/
def State.updMay (s : State) (usb : Bool) : Bool :=
  let st := s.rd Reg.UPD_STATUS_STATE
  s.mgmtRuns && (decide (st ≠ 1 ∧ st ≠ 2) || s.rd Reg.UPD_STATUS_OWNER == ownerCode usb)

/-- A row of R474 allows the command `op` to an agent. -/
def State.updAllows (s : State) (op : Nat) (usb : Bool) : Bool :=
  let st := s.rd Reg.UPD_STATUS_STATE
  s.updMay usb &&
    match op with
    | 1 => [0, 3, 4, 5].contains st
    | 2 => st == 1
    | 3 => st == 3
    | 4 => st == 6
    | 5 => st == 1 || st == 5
    | _ => false

/-- OPEN (R474): the target is the bank not running; in recovery none runs, and it is a free value. -/
def updOpen (usb : Bool) (s : State) : State :=
  if s.updAllows 1 usb then
    let u := s.take 1
    let target := if s.mgmt.recovery then u.2 else 1 - s.rd Reg.MGMT_STATUS_BANK
    let s := if s.mgmt.recovery then u.1 else s
    let s := s.when (s.mgmt.flash.record.trial == some target) (·.onRecord fun c => { c with trial := none, attempted := false })
    let s : State := { s with mgmt := { s.mgmt with target := target, buffer := [] } }
    let s := s.putFlash (s.mgmt.flash.putBank target [])
    let s := ((s.wr Reg.UPD_STATUS_OWNER (ownerCode usb)).wr Reg.UPD_COUNT_BYTES 0).wr Reg.UPD_FREE_BYTES 65536
    s.putUpdate 1 0
  else s.updRefused

def execUpdOpen (usb : Bool) (s : State) : Host.Outcome State Fault Refusal := .next (s.powered fun s => updOpen usb s)

/-- VERIFY (R474). -/
def updVerify (usb : Bool) (s : State) : State :=
  if s.updAllows 2 usb then s.putUpdate 2 0 else s.updRefused

def execUpdVerify (usb : Bool) (s : State) : Host.Outcome State Fault Refusal :=
  .next (s.powered fun s => updVerify usb s)

/-- VERIFY_DONE: the image has been checked once the buffer is in the flash (R471, R474). -/
def updVerifyDone (s : State) : State :=
  if s.rd Reg.UPD_STATUS_STATE ≠ 2 || !s.mgmt.buffer.isEmpty then s
  else
    let r := s.bankReason s.mgmt.target (some (s.rd Reg.UPD_COUNT_BYTES))
    if r = 0 then s.putUpdate 3 0 else s.putUpdate 4 r

def execUpdVerifyDone (s : State) : Host.Outcome State Fault Refusal := .next (s.powered fun s => updVerifyDone s)

/-- ACTIVATE (R474). -/
def updActivate (usb : Bool) (s : State) : State :=
  if s.updAllows 3 usb then
    (s.onRecord fun c => { c with trial := some s.mgmt.target, attempted := false }).putUpdate 5 0
  else s.updRefused

def execUpdActivate (usb : Bool) (s : State) : Host.Outcome State Fault Refusal :=
  .next (s.powered fun s => updActivate usb s)

/-- CONFIRM (R473, R474): the running bank is confirmed, and fuses are blown up to the image's SVN. -/
def updConfirm (usb : Bool) (s : State) : State :=
  if s.updAllows 4 usb then
    let s := s.onRecord fun c => { c with confirmed := s.rd Reg.MGMT_STATUS_BANK, trial := none, attempted := false }
    let s := s.wr Reg.MGMT_SVN_FUSES (max (s.rd Reg.MGMT_SVN_FUSES) (min 64 (s.rd Reg.MGMT_SVN_IMAGE)))
    (s.wr Reg.MGMT_STATUS_TRIAL 0).putUpdate 0 0
  else s.updRefused

def execUpdConfirm (usb : Bool) (s : State) : Host.Outcome State Fault Refusal :=
  .next (s.powered fun s => updConfirm usb s)

/-- CANCEL (R474): the target bank is left invalid, or the trial is removed. -/
def updCancel (usb : Bool) (s : State) : State :=
  if !s.updAllows 5 usb then s.updRefused
  else if s.rd Reg.UPD_STATUS_STATE = 1 then
    let s : State := { s with mgmt := { s.mgmt with buffer := [], flash := s.mgmt.flash.putBank s.mgmt.target [] } }
    s.putUpdate 0 0
  else (s.onRecord fun c => { c with trial := none, attempted := false }).putUpdate 3 0

def execUpdCancel (usb : Bool) (s : State) : Host.Outcome State Fault Refusal :=
  .next (s.powered fun s => updCancel usb s)

/-- An update command by its code (R474): others are refused. -/
def State.updCommand (s : State) (op : Nat) (usb : Bool) : State :=
  match op with
  | 1 => updOpen usb s
  | 2 => updVerify usb s
  | 3 => updActivate usb s
  | 4 => updConfirm usb s
  | 5 => updCancel usb s
  | _ => s.updRefused

/-- UPD_DATA_WRITE: an image word (R475). -/
def updDataWrite (v : Nat) (s : State) : State :=
  if s.rd Reg.UPD_STATUS_STATE ≠ 1 then s
  else
    let n := s.rd Reg.UPD_COUNT_BYTES
    let free := s.rd Reg.UPD_FREE_BYTES
    if free < 4 then s.putUpdate 4 8
    else if 4194304 < n + 4 then s.putUpdate 4 3
    else
      let s : State := { s with mgmt := { s.mgmt with buffer := s.mgmt.buffer ++ leBytes 4 v } }
      (s.wr Reg.UPD_COUNT_BYTES (n + 4)).wr Reg.UPD_FREE_BYTES (free - 4)

def execUpdDataWrite (v : Word) (s : State) : Host.Outcome State Fault Refusal :=
  .next (s.powered fun s => updDataWrite v.toNat s)

/-- UPD_FLASH_PROGRAM: up to a page of the buffer goes to the target bank; `fail`: the flash reports a failure (R474,
R475). -/
def updFlashProgram (fail : Bool) (s : State) : State :=
  let st := s.rd Reg.UPD_STATUS_STATE
  if (st ≠ 1 ∧ st ≠ 2) ∨ s.mgmt.buffer.isEmpty then s
  else if fail || !s.mgmt.flash.fitted then s.putUpdate 4 10
  else
    let b := s.mgmt.target
    let page := s.mgmt.buffer.take 256
    let done := s.mgmt.flash.bank b
    let s : State := { s with mgmt := { s.mgmt with buffer := s.mgmt.buffer.drop 256,
                                                    flash := s.mgmt.flash.putBank b (done ++ page) } }
    let s := s.wr Reg.UPD_FREE_BYTES (min 65536 (s.rd Reg.UPD_FREE_BYTES + page.length))
    (s.emit (.flash (0x10000 + 0x400000 * b + done.length) page)).mgmtRaise 21

def execUpdFlashProgram (fail : Bool) (s : State) : Host.Outcome State Fault Refusal :=
  .next (s.powered fun s => updFlashProgram fail s)

end Sys2Proof.Machine
end

