-- ==== Sys2Proof/Machine/Onyx.lean ====
section
/-!
DEFINITION. Onyx, the legal metering partition (R507 to R533): the wheels, the comparison of windows, the states, the
seal and the audit trail, the command frames, and the push into the read-only view.  Every operation on `Onyx` touches
nothing else of the device; only the push writes the view (R508).
-/

namespace Sys2Proof.Machine

/-! ## What Onyx holds -/

/-- VERSION and CHECKSUM of the ROM, and the fused unique number (R509, R481). -/
def onyxVersion : Nat := Config.freeFuse 70 % 2 ^ 16
def onyxChecksum : Nat := Config.freeFuse 71 % 2 ^ 16
def uniqueNumber : Nat := Config.freeFuse 72 % 2 ^ 64

/-- ONX_SEC (R511). -/
def Onyx.sec (o : Onyx) : Nat := o.clock / 1000000000 % 2 ^ 32

/-- TOTAL, the unmetered length and JOB, in 0.1 mm (R514). -/
def Onyx.total (o : Onyx) : Int := asr o.h 1
def Onyx.unmetered (o : Onyx) : Int := asr o.u 1
def Onyx.job (o : Onyx) : Int := o.total - o.mark

/-- A parameter in force (R517). -/
def Onyx.param (o : Onyx) (id : Nat) : Nat := sget o.params id

def Onyx.wheel (o : Onyx) (w : Nat) : Wheel := if w = 0 then o.wheel0 else o.wheel1

def Onyx.putWheel (o : Onyx) (w : Nat) (x : Wheel) : Onyx := if w = 0 then { o with wheel0 := x } else { o with wheel1 := x }

/-- The six parameters that METERING needs are all non-zero (R516). -/
def configured (params : Store) : Bool := [1, 2, 4, 5, 7, 8].all fun i => sget params i != 0

/-- The code of a state in ONX_STATUS.STATE (R529). -/
def OnyxState.code : OnyxState → Nat
  | .unconfigured => 0
  | .metering => 1
  | .fault => 2
  | .overtemp => 3

/-- A new comparison window (R515). -/
def Onyx.newWindow (o : Onyx) : Onyx :=
  { o with wheel0 := { o.wheel0 with advance := 0 }, wheel1 := { o.wheel1 with advance := 0 }, windowError := false }

/-- Entry into a state. -/
def Onyx.enter (o : Onyx) (t : OnyxState) : Onyx := { o with state := t, streak := 0 }

/-- A length in 0.1 mm since U stood at `from`, saturated to a signed word (R522). -/
def Onyx.lengthSince (o : Onyx) (start : Int) : Nat := low 32 (sat (asr (o.u - start) 1) (-2 ^ 31) (2 ^ 31 - 1))

/-! ## The audit trail (R521 to R523) -/

/-- Free slots (R523). -/
def Onyx.free (o : Onyx) : Nat := 1024 - (o.head + 2 ^ 32 - o.released) % 2 ^ 32

/-- Bytes 0x00 to 0x1B of an entry. -/
def AuditEntry.body (e : AuditEntry) : List Nat :=
  leBytes 4 e.seq ++ leBytes 4 e.event ++ leBytes 4 e.sec ++ [e.kind % 256, e.param % 256, 0, 0] ++ leBytes 4 e.old ++
    leBytes 4 e.new ++ leBytes 4 e.total

/-- The 32 bytes of an entry. -/
def AuditEntry.bytes (e : AuditEntry) : List Nat := e.body ++ leBytes 2 e.check ++ [0, 0]

/-- Write an entry, or count it as lost where no slot is free (R523); its CHECK chains to the entry before it (R521). -/
def Onyx.write (o : Onyx) (kind : Nat) (old new : Nat := 0) (param : Nat := 0) : Onyx :=
  if o.free = 0 then { o with overflow := (o.overflow + 1) % 2 ^ 32 }
  else
    let e : AuditEntry := ⟨o.head, o.event, o.sec, kind, param, old % 2 ^ 32, new % 2 ^ 32, low 32 o.total, 0⟩
    let init := ((o.audit.head?).map fun x => x.check).getD 0xFFFF
    let e := { e with check := crc16 init e.body }
    { o with audit := e :: o.audit.take 1023, head := (o.head + 1) % 2 ^ 32, unpushed := o.unpushed ++ [e] }

/-! ## Measuring (R512 to R516) -/

/-- One judged window ends; the states that two alike windows in a row change (R515, R516). -/
def Onyx.judge (o : Onyx) : Onyx :=
  let a0 := o.wheel0.advance
  let a1 := o.wheel1.advance
  let m := max a0.natAbs a1.natAbs
  let agree := decide ((a0 - a1).natAbs ≤ 1 + o.param 7 * m / 1000000) && !o.windowError
  let tracked := o.state == .metering || o.state == .fault
  let o : Onyx := { o with lastA0 := a0, lastA1 := a1, windows := (o.windows + 1) % 2 ^ 32,
                           disagrees := (o.disagrees + (!agree).toNat) % 2 ^ 32,
                           streak := if !tracked then 0 else if o.streakAgrees == agree then o.streak + 1 else 1,
                           streakAgrees := agree }
  let o := o.newWindow
  if o.state == .metering && !agree && decide (2 ≤ o.streak) then
    { (o.write 5 (low 32 a0) (low 32 a1)).enter .fault with faultStart := o.u }
  else if o.state == .fault && agree && decide (2 ≤ o.streak) then
    (o.write 6 0 (o.lengthSince o.faultStart)).enter .metering
  else o

/-- The odometer's step for the count `d`: the remainder and the change of n (R513). -/
def odometerStep (r d : Int) (c n : Nat) : Int × Int :=
  let lim : Int := (n : Int) * 100
  let r := r + d * c
  let x : Int × Int := if lim ≤ r then (r - lim, 1) else (r, 0)
  if x.1 ≤ -lim then (x.1 + lim, x.2 - 1) else x

/-- The wheel after the change `dn` of its odometer at Onyx's time `now`; moves older than 100 ms are forgotten. -/
def Wheel.move (x : Wheel) (r dn : Int) (now : Nat) : Wheel :=
  { x with n := x.n + dn, r := r, advance := x.advance + dn,
           moves := if dn = 0 then x.moves else (now, dn) :: x.moves.filter fun e => decide (now < e.1 + 100000000) }

/-- The speed over the last 100 ms in mm/s (R529): the change of n in that time, in 0.1 mm per 0.1 s. -/
def Wheel.speed (x : Wheel) (now : Nat) : Int :=
  ((x.moves.filter fun e => decide (now < e.1 + 100000000)).map fun e => e.2).sum

/-- A count of wheel `w`, up or down before DIR (R512 to R515). -/
def Onyx.count (o : Onyx) (w : Nat) (up : Bool) : Onyx :=
  let x := o.wheel w
  let d : Int := if up == (o.param (3 + 3 * w) == 0) then 1 else -1
  let q := odometerStep x.r d (o.param (1 + 3 * w)) (o.param (2 + 3 * w))
  let o := o.putWheel w (x.move q.1 q.2 o.clock)
  let o : Onyx := if o.state == .metering then { o with h := o.h + q.2 } else { o with u := o.u + q.2 }
  if configured o.params && decide (o.param 8 ≤ max o.wheel0.advance.natAbs o.wheel1.advance.natAbs) then o.judge else o

/-- A quadrature error of wheel `w` (R512). -/
def Onyx.quadratureError (o : Onyx) (w : Nat) : Onyx :=
  { o.putWheel w { o.wheel w with qerr := ((o.wheel w).qerr + 1) % 2 ^ 32 } with windowError := true }

/-- Apply `f` to Onyx while it operates (R510). -/
def State.onOnyx (s : State) (f : Onyx → Onyx) : State :=
  if s.onyx.power = .operating then { s with onyx := f s.onyx } else s

/-- The level of a wheel input that the filter has accepted: a new level that has stood for FILT_NS, else the level before
(R78, R512). -/
def Onyx.filtered (o : Onyx) (was now : Bool) (stood : Nat) : Bool := if o.param 9 ≤ stood then now else was

/-- A sample of wheel `w` with the accepted levels `a`, `b`: no count, a count up or down before DIR, or a quadrature error
(R78, R512). -/
def Onyx.sample (o : Onyx) (w : Nat) (a b : Bool) : Onyx :=
  let x := o.wheel w
  let p := o.putWheel w { x with a := a, b := b }
  match (quadrant a b + 4 - quadrant x.a x.b) % 4 with
  | 0 => p
  | 1 => p.count w true
  | 3 => p.count w false
  | _ => p.quadratureError w

/-- ONYX_WHEEL_COUNT: a sample of wheel `w` whose inputs have stood at `a` and `b` for `stoodA` and `stoodB` of Onyx's ns.
While Onyx does not operate nothing is counted (R510). -/
def onyxWheelCount (w : Nat) (a b : Bool) (stoodA stoodB : Nat) (s : State) : State :=
  let o := s.onyx
  let x := o.wheel w
  if o.power = .operating then
    { s with onyx := o.sample w (o.filtered x.a a stoodA) (o.filtered x.b b stoodB) }
  else { s with onyx := o.putWheel w { x with a := a, b := b } }

def execOnyxWheelCount (w : Fin 2) (x : WheelInputs) (s : State) : Host.Outcome State Fault Refusal :=
  .next (onyxWheelCount w x.a.high x.b.high x.a.stood x.b.stood s)

/-! ## The seal (R517 to R520) -/

/-- The range of a staged value (R517). -/
def parameterRange (id v : Nat) : Bool :=
  match id with
  | 1 | 4 => decide (v = 0 ∨ (10000 ≤ v ∧ v ≤ 2000000))
  | 2 | 5 => decide (v = 0 ∨ (100 ≤ v ∧ v ≤ 4194304))
  | 3 | 6 => decide (v ≤ 1)
  | 7 => decide (v = 0 ∨ (100 ≤ v ∧ v ≤ 50000))
  | 8 => decide (v = 0 ∨ (1000 ≤ v ∧ v ≤ 100000))
  | 9 => decide (v ≤ 150)
  | _ => false

/-- The cross-check of IDs 2 and 5 against the circumference in force (R517). -/
def crossCheck (params : Store) (id v : Nat) : Bool :=
  if id = 2 ∨ id = 5 then decide (v = 0 ∨ sget params (id - 1) ≤ 100 * v) else true

/-- The parameters that a commit changes, in the loop's order, and the set after it (R518). -/
def Onyx.changes (o : Onyx) : List (Nat × Nat) × Store :=
  (List.range' 1 9).foldl (fun (x : List (Nat × Nat) × Store) id =>
    match tfind id o.staged with
    | some v => if v ≠ sget x.2 id ∧ crossCheck x.2 id v then (x.1 ++ [(id, v)], sput x.2 id v) else x
    | none => x) ([], o.params)

/-- One parameter change of a commit (R518, R520); one of C or N clears the wheel's remainder (R513). -/
def Onyx.change (o : Onyx) (e : Nat × Nat) : Onyx :=
  let old := o.param e.1
  let o := ({ o with event := (o.event + 1) % 2 ^ 32 } : Onyx).write 3 old e.2 e.1
  let o : Onyx := { o with params := sput o.params e.1 e.2 }
  match e.1 with
  | 1 | 2 => { o with wheel0 := { o.wheel0 with r := 0 } }
  | 4 | 5 => { o with wheel1 := { o.wheel1 with r := 0 } }
  | _ => o

/-- The staged release is applied within its limits (R523), and its entry written. -/
def Onyx.releaseStep (o : Onyx) : Onyx :=
  match o.release with
  | none => o
  | some q =>
    let old := o.released
    let ok := decide ((q + 2 ^ 32 - old) % 2 ^ 32 ≤ (o.head + 2 ^ 32 - old) % 2 ^ 32)
    let o : Onyx := { o with released := if ok then q else old, release := none }
    o.write 4 old o.released

/-- The state that the parameters leave (R516, R533); in OVERTEMP the state to return to is decided. -/
def Onyx.settle (o : Onyx) : Onyx :=
  let now := if o.state = .overtemp then o.before else o.state
  let t := if !configured o.params then OnyxState.unconfigured else if now = .unconfigured then .metering else now
  if o.state = .overtemp then { o with before := t }
  else if t = o.state then o
  else if t = .metering then (o.enter t).newWindow
  else o.enter t

/-- A press of the seal switch: what R518 commits, in its order. -/
def Onyx.press (o : Onyx) : Onyx :=
  let differ := (o.staged.filter fun e => e.2 != o.param e.1).length
  let o := ({ o with switch := true } : Onyx).write 2 0 differ
  let o := o.releaseStep
  let ch := o.changes.1
  if ch.length + 8 ≤ o.free then
    let p := ch.foldl Onyx.change o
    let p : Onyx := { p with staged := [], kept := false }
    (if ch.isEmpty then p else p.newWindow).settle
  else { o with kept := true }

/-- SEAL_PRESS. -/
def sealPress (s : State) : State := s.onOnyx Onyx.press

def execSealPress (s : State) : Host.Outcome State Fault Refusal := .next (sealPress s)

/-! ## Supply and temperature (R510, R511, R516) -/

/-- ONYX_RETENTION: wheel inputs and commands are ignored until POWER_GAP (R510). -/
def onyxRetention (s : State) : State := s.onOnyx fun o => { o with power := .retention, gapSec := o.sec }

def execOnyxRetention (s : State) : Host.Outcome State Fault Refusal := .next (onyxRetention s)

/-- POWER_GAP: Onyx operates again; the window in progress is abandoned (R510). -/
def powerGap (s : State) : State :=
  if s.onyx.power = .retention then
    { s with onyx := (({ s.onyx with power := .operating } : Onyx).write 9 s.onyx.gapSec).newWindow }
  else s

def execPowerGap (s : State) : Host.Outcome State Fault Refusal := .next (powerGap s)

/-- The levels of a wheel's inputs, which no start changes. -/
def Wheel.pins (x : Wheel) : Wheel := { a := x.a, b := x.b }

/-- COLD_START: the next fuse is blown and everything starts afresh (R511); the temperature and VDD_ONYX as Onyx
measures them. -/
def coldStart (temp vddMv : Nat) (s : State) : State :=
  let n := min 32 (s.onyx.coldStarts + 1)
  let o : Onyx := { power := .operating, coldStarts := n, temp := temp, vddMv := vddMv, wheel0 := s.onyx.wheel0.pins,
                    wheel1 := s.onyx.wheel1.pins }
  { s with onyx := o.write 1 0 n }

def execColdStart (temp vddMv : BitVec 16) (s : State) : Host.Outcome State Fault Refusal :=
  .next (coldStart temp.toNat vddMv.toNat s)

/-- TEMP_START: 140.0 °C is reached (R516). -/
def tempStart (temp : Nat) (s : State) : State :=
  s.onOnyx fun o =>
    if o.state = .overtemp then o
    else { (o.write 7 0 (low 32 (signed 16 temp))).enter .overtemp with before := o.state, tempStart := o.u, temp := temp }

def execTempStart (temp : BitVec 16) (s : State) : Host.Outcome State Fault Refusal := .next (tempStart temp.toNat s)

/-- TEMP_END: the temperature falls below 130.0 °C (R516). -/
def tempEnd (temp : Nat) (s : State) : State :=
  s.onOnyx fun o =>
    if o.state = .overtemp then
      { ((o.write 8 0 (o.lengthSince o.tempStart)).enter o.before).newWindow with temp := temp }
    else o

def execTempEnd (temp : BitVec 16) (s : State) : Host.Outcome State Fault Refusal := .next (tempEnd temp.toNat s)

/-! ## The view's content (R529, R531) -/

/-- ONX_STATUS as Onyx holds it, without VIEW_VALID. -/
def Onyx.statusWord (o : Onyx) : Nat :=
  o.state.code + (!o.staged.isEmpty || o.release.isSome).toNat <<< 4 + o.switch.toNat <<< 5 +
    (o.kept || decide (o.free < 17)).toNat <<< 6 + o.coldStarts <<< 8

/-- The two words of a signed 64-bit number. -/
def words64 (x : Int) : List Nat := [low 32 x, low 64 x / 2 ^ 32]

/-- The words of a wheel (R529). -/
def Onyx.wheelWords (o : Onyx) (x : Wheel) : List Nat := words64 x.n ++ [x.qerr, low 32 (x.speed o.clock)]

/-- Page 0x0980, offsets 0x020 to 0x0FF, as Onyx holds it, with the push fields 0 (R526, R529). -/
def Onyx.page (o : Onyx) : List Nat :=
  [onyxVersion + onyxChecksum <<< 16, o.statusWord, o.event, o.sec, 0, 0, 0, 0] ++
  words64 o.total ++ words64 o.job ++ [o.jobNo] ++ words64 o.unmetered ++ [0] ++
  o.wheelWords o.wheel0 ++ o.wheelWords o.wheel1 ++
  [low 32 o.lastA0, low 32 o.lastA1, o.windows, o.disagrees, o.head, o.released, o.overflow, 0,
   o.temp + o.vddMv <<< 16, 0, 0, 0, 0, 0, 0, 0] ++
  (List.range' 1 9).map o.param ++ List.replicate 7 0

/-- The staged IDs as STAGE_MASK.IDS holds them, bit 0 for ID 1. -/
def Onyx.stagedIds (o : Onyx) : Nat := (o.staged.map fun e => 2 ^ (e.1 - 1)).sum

/-! ## Command frames (R525 to R527) -/

/-- The reply to the frame `b`: OP, STATUS, length and payload (R525). -/
def onyxReplyFrame (b : List Nat) (status : Nat) (payload : List Nat) : List Nat :=
  [b.getD 0 0 ||| 0x80, status] ++ leBytes 2 (4 + payload.length) ++ payload

/-- Onyx with its reply to the frame `b`. -/
def Onyx.respond (o : Onyx) (b : List Nat) (status : Nat) (payload : List Nat := []) : Onyx :=
  { o with reply := some (onyxReplyFrame b status payload) }

/-- LEN is the frame's length and what the command has (R526). -/
def lenIs (b : List Nat) (n : Nat) : Bool := b.length == n && b.getD 1 0 == n

/-- IDENT. -/
def Onyx.ident (o : Onyx) (b : List Nat) : Onyx :=
  if !lenIs b 2 then o.respond b 2
  else o.respond b 0 (leBytes 2 onyxVersion ++ leBytes 2 onyxChecksum ++ [o.coldStarts, o.state.code, 0, 0] ++
    leBytes 8 uniqueNumber)

/-- READ_STATE. -/
def Onyx.readState (o : Onyx) (b : List Nat) : Onyx :=
  if !lenIs b 2 then o.respond b 2 else o.respond b 0 (o.page.flatMap (leBytes 4))

/-- READ_AUDIT: the held entries from a SEQ on, ascending. -/
def Onyx.readAudit (o : Onyx) (b : List Nat) : Onyx :=
  let n := b.getD 2 0
  if !lenIs b 7 ∨ n = 0 ∨ 64 < n then o.respond b 2
  else
    let first := ofBytes (b.drop 3)
    o.respond b 0 (((o.audit.reverse.filter fun e => decide (first ≤ e.seq)).take n).flatMap AuditEntry.bytes)

/-- JOB_MARK (R524). -/
def Onyx.jobMark (o : Onyx) (b : List Nat) : Onyx :=
  if !lenIs b 2 then o.respond b 2
  else
    let j : JobRecord := ⟨o.jobNo, o.mark, o.total, o.sec⟩
    let o : Onyx := { o with mark := o.total, jobNo := (o.jobNo + 1) % 2 ^ 32, lastJob := j }
    o.respond b 0 (leBytes 4 j.number ++ (words64 j.start ++ words64 j.stop).flatMap (leBytes 4) ++ leBytes 4 j.sec)

/-- STAGE_PARAM (R517, R518). -/
def Onyx.stageParam (o : Onyx) (b : List Nat) : Onyx :=
  let id := b.getD 2 0
  let v := ofBytes (b.drop 3)
  if !lenIs b 7 ∨ id = 0 ∨ 9 < id then o.respond b 2
  else if !parameterRange id v then o.respond b 3
  else ({ o with staged := tput id v o.staged } : Onyx).respond b 0

/-- STAGE_RELEASE (R518, R523). -/
def Onyx.stageRelease (o : Onyx) (b : List Nat) : Onyx :=
  if !lenIs b 6 then o.respond b 2 else ({ o with release := some (ofBytes (b.drop 2)) } : Onyx).respond b 0

/-- CLEAR_STAGE (R518). -/
def Onyx.clearStage (o : Onyx) (b : List Nat) : Onyx :=
  if !lenIs b 2 then o.respond b 2 else ({ o with staged := [], release := none } : Onyx).respond b 0

/-- Onyx runs the frame that waits with `f`, where the frame's OP is `op` and it is not answered yet. -/
def State.onyxCommand (s : State) (op : Nat) (f : Onyx → List Nat → Onyx) : State :=
  s.onOnyx fun o =>
    match o.frame, o.reply with
    | some b, none => if b.getD 0 0 = op then f o b else o
    | _, _ => o

/-- IDENT. -/
def onyxIdent (s : State) : State := s.onyxCommand 1 Onyx.ident
def execIdent (s : State) : Host.Outcome State Fault Refusal := .next (onyxIdent s)

/-- READ_STATE. -/
def onyxReadState (s : State) : State := s.onyxCommand 2 Onyx.readState
def execReadState (s : State) : Host.Outcome State Fault Refusal := .next (onyxReadState s)

/-- READ_AUDIT. -/
def onyxReadAudit (s : State) : State := s.onyxCommand 3 Onyx.readAudit
def execReadAudit (s : State) : Host.Outcome State Fault Refusal := .next (onyxReadAudit s)

/-- JOB_MARK. -/
def onyxJobMark (s : State) : State := s.onyxCommand 4 Onyx.jobMark
def execJobMark (s : State) : Host.Outcome State Fault Refusal := .next (onyxJobMark s)

/-- STAGE_PARAM. -/
def onyxStageParam (s : State) : State := s.onyxCommand 5 Onyx.stageParam
def execStageParam (s : State) : Host.Outcome State Fault Refusal := .next (onyxStageParam s)

/-- STAGE_RELEASE. -/
def onyxStageRelease (s : State) : State := s.onyxCommand 6 Onyx.stageRelease
def execStageRelease (s : State) : Host.Outcome State Fault Refusal := .next (onyxStageRelease s)

/-- CLEAR_STAGE. -/
def onyxClearStage (s : State) : State := s.onyxCommand 7 Onyx.clearStage
def execClearStage (s : State) : Host.Outcome State Fault Refusal := .next (onyxClearStage s)

/-- The frame that waits is run by its OP; an OP that no command has is answered UNKNOWN_OP (R526). -/
def State.onyxRun (s : State) : State :=
  match (s.onyx.frame.getD []).getD 0 0 with
  | 1 => onyxIdent s
  | 2 => onyxReadState s
  | 3 => onyxReadAudit s
  | 4 => onyxJobMark s
  | 5 => onyxStageParam s
  | 6 => onyxStageRelease s
  | 7 => onyxClearStage s
  | op => s.onyxCommand op fun o b => o.respond b 1

/-- ONYX_REPLY_READY: the command is finished; its reply is ready on endpoint 3 with an ONYX message (R488, R489), or
is discarded where the port has left it behind (R482). -/
def onyxReplyReady (s : State) : State :=
  if s.onyx.power ≠ .operating then s
  else
    let s := s.onyxRun
    match s.onyx.reply with
    | none => s
    | some r =>
      let s : State := { s with onyx := { s.onyx with frame := none, reply := none } }
      if !s.usb.onyxBusy then s
      else ({ s with usb := { s.usb with onyxReply := some r } } : State).usbMessage 3 0 r.length

def execOnyxReplyReady (s : State) : Host.Outcome State Fault Refusal := .next (onyxReplyReady s)

/-- ONYX_REPLY_TRANSFER: the host reads the reply in full (R485, R488). -/
def onyxReplyTransfer (s : State) : State :=
  match s.usb.onyxReply with
  | none => s
  | some r =>
    if s.rd Reg.USB_STATUS_STATE ≠ 4 || s.usb.halts.testBit 3 then s
    else ({ s with usb := { s.usb with onyxReply := none, onyxBusy := false } } : State).emit (.usbIn 3 r)

def execOnyxReplyTransfer (s : State) : Host.Outcome State Fault Refusal := .next (s.powered fun s => onyxReplyTransfer s)

/-! ## The push (R528, R530, R532) -/

/-- An audit entry in the view's mirror. -/
def State.mirrorEntry (s : State) (e : AuditEntry) : State :=
  let g := e.seq % 224
  s.each ((bytesToWords e.bytes).zipIdx) fun s x => s.wr Reg.AUDIT_VIEW x.1 (g / 112) (g % 112) x.2

/-- The view of pages 0x0980 and 0x0981 takes what Onyx holds. -/
def State.viewPages (s : State) : State :=
  let o := s.onyx
  let s := s.each (o.page.zipIdx) fun s x => s.each (fieldsAt 0x980 (0x20 + 4 * x.2)) fun s f =>
    s.wr f.1 (bitsOf x.1 f.1.lo f.1.width) f.2.1 f.2.2.1 f.2.2.2
  let s := s.wr Reg.ONX_STATUS_VIEW_VALID 1
  let s := s.wrPair Reg.ONX_PUSH_TIME_LO_VALUE Reg.ONX_PUSH_TIME_HI_VALUE s.tb.ns
  let s := s.wr Reg.ONX_PUSH_SEQ_COUNT o.pushes
  let s := (s.wr Reg.STAGE_MASK_IDS o.stagedIds).wrB Reg.STAGE_MASK_RELEASE o.release.isSome
  let s := s.each (List.range 9) fun s i => s.wr Reg.STAGE_VALUE_VALUE (sget o.staged (i + 1)) 0 i
  let s := s.wr Reg.STAGE_RELEASE_SEQ (o.release.getD 0)
  let s := s.wr Reg.LAST_JOB_JOB_NO o.lastJob.number
  let s := (s.wr Reg.LAST_JOB_START_LO (low 32 o.lastJob.start)).wr Reg.LAST_JOB_START_HI (low 64 o.lastJob.start / 2 ^ 32)
  let s := (s.wr Reg.LAST_JOB_END_LO (low 32 o.lastJob.stop)).wr Reg.LAST_JOB_END_HI (low 64 o.lastJob.stop / 2 ^ 32)
  s.wr Reg.LAST_JOB_SEC o.lastJob.sec

/-- A push arrives: the view takes it in one step and the events show what it changed (R528, R530). -/
def State.takePush (s : State) (entries : List AuditEntry) : State :=
  let event := s.rd Reg.ONX_EVENT_COUNT
  let state := s.rd Reg.ONX_STATUS_STATE
  let job := s.rd Reg.ONX_JOB_NO_VALUE
  let head := s.rd Reg.AUD_HEAD_SEQ
  let s := s.viewPages.each entries State.mirrorEntry
  let s := s.when (s.rd Reg.ONX_EVENT_COUNT != event) fun s => (s.raise Ev.ONX_EVENT_CHANGED).alert 8
  let s := s.when (s.rd Reg.ONX_STATUS_STATE != state) (·.raise Ev.ONX_STATE_CHANGED)
  let s := s.when (s.rd Reg.ONX_JOB_NO_VALUE != job) (·.raise Ev.ONX_JOB_MARKED)
  let s := s.when (s.rd Reg.AUD_HEAD_SEQ != head) (·.raise Ev.ONX_AUDIT_NEW)
  s.mgmtRaise 19

/-- ONYX_PUSH: with the temperature, VDD_ONYX and the filtered level of the seal switch as Onyx measures them; a die
without power takes nothing (R528). -/
def onyxPush (temp vddMv : Nat) (switch : Bool) (s : State) : State :=
  let o := s.onyx
  if o.power ≠ .operating then s
  else
    let turn := (o.audit.take 224).filter fun e => e.seq % 224 / 32 == o.rotation
    let s : State := { s with onyx := { o with temp := temp, vddMv := vddMv, switch := switch,
                                               pushes := (o.pushes + 1) % 2 ^ 32, unpushed := [],
                                               rotation := (o.rotation + 1) % 7 } }
    if s.alive then s.takePush (turn ++ o.unpushed) else s

def execOnyxPush (temp vddMv : BitVec 16) (switch : Bool) (s : State) : Host.Outcome State Fault Refusal :=
  .next (onyxPush temp.toNat vddMv.toNat switch s)

/-- VIEW_STALE: no push has arrived for 50 ms (R528). -/
def viewStale (s : State) : State := (s.wr Reg.ONX_STATUS_VIEW_VALID 0).raise Ev.ONX_VIEW_STALE

def execViewStale (s : State) : Host.Outcome State Fault Refusal := .next (s.powered fun s => viewStale s)

end Sys2Proof.Machine
end

