-- ==== Sys2Proof/Machine/Usb.lean ====
section
/-!
DEFINITION. The USB port (R480 to R492) but for the register accesses of its vendor requests, which are with the host
accesses: its states, its standard and vendor requests, its streams, its event messages and the remote wake.
-/

namespace Sys2Proof.Machine

/-! ## The port's states (R482, R483) -/

/-- The port's state changes; messages are queued in CONFIGURED and in SUSPENDED entered from it (R489). -/
def State.usbMove (s : State) (st : Nat) : State :=
  let s := s.wr Reg.USB_STATUS_STATE st
  { s with nt := { s.nt with usb := { s.nt.usb with active := st == 4 || (st == 5 && s.usb.prior == 4), suspended := st == 5 } } }

/-- What a bus reset does, and SET_CONFIGURATION 0 with it (R482): configuration 0, remote wake disabled, queue, stream
and halts cleared; a frame that Onyx never answers is let go (R527). -/
def State.usbDefault (s : State) (st : Nat) : State :=
  let s := s.usbClear
  let s : State := { s with nt := { s.nt with usb := { s.nt.usb with rwake := false, seq := 0 } } }
  let s : State := { s with usb := { s.usb with halts := 0, onyxBusy := s.onyx.frame.isSome || s.usb.onyxReply.isSome } }
  ((s.wr Reg.USB_STATUS_RWAKE 0).usbMove st).raise Ev.USB_BUS_RESET

/-- USB_VBUS_CHANGE. -/
def usbVbusChange (present : Bool) (s : State) : State :=
  ({ s with usb := { s.usb with vbus := present } } : State).usbFollow

def execUsbVbusChange (present : Bool) (s : State) : Host.Outcome State Fault Refusal :=
  .next (if s.alive then usbVbusChange present s else
    { s with usb := { s.usb with vbus := present } })

/-- BUS_RESET: `hs`: the high-speed handshake succeeds; `cut`: it falls before the end of a control transfer's data
stage (R483). -/
def usbBusReset (hs cut : Bool) (s : State) : State :=
  if s.rd Reg.USB_STATUS_STATE = 0 then s
  else
    let s := s.when cut fun s => (s.inc Reg.USB_ABORTS_COUNT).raise Ev.USB_CTRL_ABORT
    let s := s.when (s.nt.usb.suspended && s.nt.usb.wakeSent) (·.emit (.usbWake false))
    (((s.inc Reg.USB_BUS_RESETS_COUNT).wr Reg.USB_STATUS_ADDRESS 0).wrB Reg.USB_STATUS_HS hs).usbDefault 2

def execUsbBusReset (hs cut : Bool) (s : State) : Host.Outcome State Fault Refusal :=
  .next (s.powered fun s => usbBusReset hs cut s)

/-- SUSPEND: 3.0 ms of bus idle; a message already queued requests a wake (R482, R490). -/
def usbSuspend (s : State) : State :=
  let st := s.rd Reg.USB_STATUS_STATE
  if st = 0 ∨ 5 ≤ st then s
  else
    let s : State := { s with usb := { s.usb with prior := st } }
    let s := (s.usbMove 5).raise Ev.USB_SUSPEND
    let u := { s.nt.usb with wakeSent := false }
    { s with nt := { s.nt with usb := u.wake ((u.queue.headD []).headD 0 % 256) (s.on Reg.USB_CTL_WAKE_EN) } }

def execUsbSuspend (s : State) : Host.Outcome State Fault Refusal := .next (s.powered fun s => usbSuspend s)

/-- The WAKE message of R491, ahead of every other. -/
def State.wakeMessage (s : State) : State :=
  let u := s.nt.usb
  let v : UsbEvents := { u with wakePending := false }
  if !u.wakePending then s
  else if !(s.rd Reg.USB_EVT_MASK_MASK).testBit 7 then { s with nt := { s.nt with usb := v } }
  else if u.queue.length < 64 then
    { s with nt := { s.nt with usb := { v with queue := usbMessageWords 7 u.wakeCollided.toNat u.seq s.tb.ns u.wakeKind :: u.queue,
                                               seq := (u.seq + 1) % 2 ^ 32 } } }
  else
    ({ s with nt := { s.nt with usb := { v with lost := (u.lost + 1) % 2 ^ 32, lostPending := u.lostPending + 1 } } } : State).raise
      Ev.USB_EVT_LOST

/-- USB_RESUME: the host's resume ends (R482, R491). -/
def usbResume (s : State) : State :=
  if s.rd Reg.USB_STATUS_STATE ≠ 5 then s else ((s.usbMove s.usb.prior).raise Ev.USB_RESUME).wakeMessage

def execUsbResume (s : State) : Host.Outcome State Fault Refusal := .next (s.powered fun s => usbResume s)

/-- WAKE_SENT: the signalling of a requested wake begins, once in a suspension (R490). -/
def wakeSent (s : State) : State :=
  let u := s.nt.usb
  if !u.suspended || !u.wakePending || u.wakeSent then s
  else (({ s with nt := { s.nt with usb := { u with wakeSent := true } } } : State).emit (.usbWake true)).raise Ev.USB_WAKE_SENT

def execWakeSent (s : State) : Host.Outcome State Fault Refusal := .next (s.powered fun s => wakeSent s)

/-- WAKE_COLLIDED: the port finds K while it has released the bus (R491). -/
def wakeCollided (s : State) : State :=
  let u := s.nt.usb
  if !u.suspended || !u.wakeSent || u.wakeCollided then s
  else
    (({ s with nt := { s.nt with usb := { u with wakeCollided := true } } } : State).emit (.usbWake false)).raise
      Ev.USB_WAKE_COLLIDED

def execWakeCollided (s : State) : Host.Outcome State Fault Refusal := .next (s.powered fun s => wakeCollided s)

/-- The port answers control transfers. -/
def State.usbAnswers (s : State) : Bool := 2 ≤ s.rd Reg.USB_STATUS_STATE && s.rd Reg.USB_STATUS_STATE ≤ 4

/-- USB_CTL written: the port follows EN, and WAKE_EN may request a wake.  EN 0 before the end of the data stage of a
control transfer (`cut`) aborts it as a bus reset does (R483, R492). -/
def usbCtlWrite (v : Nat) (cut : Bool) (s : State) : State :=
  let s := s.when (cut && !v.testBit 0 && s.usbAnswers) fun s => (s.inc Reg.USB_ABORTS_COUNT).raise Ev.USB_CTRL_ABORT
  let s := (s.hostWord 0x920 0x20 v).usbFollow
  let u := s.nt.usb
  { s with nt := { s.nt with usb := if u.wakeSent then u else u.wake ((u.queue.headD []).headD 0 % 256) (s.on Reg.USB_CTL_WAKE_EN) } }

/-! ## Standard requests (R481, R484) -/

/-- The data stage of a standard request, cut to wLength. -/
def State.usbData (s : State) (b : List Nat) (wLength : Nat) : State := s.emit (.usbIn 0 (b.take wLength))

/-- Apply `f` where the port answers. -/
def State.usbRequest (s : State) (f : State → State) : State := if s.usbAnswers then f s else s

/-- SET_ADDRESS (R482; in ADDRESS as the USB 2.0 specification has it). -/
def setAddress (a : Nat) (s : State) : State :=
  let st := s.rd Reg.USB_STATUS_STATE
  if st = 2 then if a = 0 then s else (s.wr Reg.USB_STATUS_ADDRESS a).usbMove 3
  else if st = 3 then (s.wr Reg.USB_STATUS_ADDRESS a).usbMove (if a = 0 then 2 else 3)
  else s

def execSetAddress (a : Fin 128) (s : State) : Host.Outcome State Fault Refusal :=
  .next (s.powered fun s => setAddress a s)

/-- SET_CONFIGURATION (R482). -/
def setConfiguration (v : Nat) (s : State) : State :=
  let st := s.rd Reg.USB_STATUS_STATE
  if (st = 3 ∨ st = 4) ∧ v ≤ 1 then
    if st = 3 ∧ v = 1 then s.usbMove 4 else if st = 4 ∧ v = 0 then s.usbDefault 3 else s
  else s.usbRequest (·.emit (.usbStall 0))

def execSetConfiguration (v : Fin 256) (s : State) : Host.Outcome State Fault Refusal :=
  .next (s.powered fun s => setConfiguration v s)

/-- A descriptor byte that the spec does not state. -/
def descriptorFuse (n : Nat) : Nat := Config.freeFuse (100 + n) % 256

/-- The string index of iSerialNumber, 1 or more. -/
def serialIndex : Nat := 1 + Config.freeFuse 99 % 255

/-- The device descriptor (R480, R481). -/
def State.deviceDescriptor (s : State) : List Nat :=
  [18, 1, 0, 2, descriptorFuse 0, descriptorFuse 1, descriptorFuse 2, 64] ++ leBytes 2 (s.rd Reg.USB_ID_VID) ++
    leBytes 2 (s.rd Reg.USB_ID_PID) ++ [descriptorFuse 3, descriptorFuse 4, descriptorFuse 5, descriptorFuse 6, serialIndex, 1]

/-- The descriptor of an endpoint: address, attributes, size, interval. -/
def endpointDescriptor (address attributes size interval : Nat) : List Nat :=
  [7, 5, address, attributes] ++ leBytes 2 size ++ [interval]

/-- The configuration descriptor with its interface and endpoints at a speed (R481). -/
def configDescriptor (kind : Nat) (hs : Bool) : List Nat :=
  let bulk := if hs then 512 else 64
  [9, kind] ++ leBytes 2 46 ++ [1, 1, descriptorFuse 7, 0xE0, 0] ++
  [9, 4, 0, 0, 4, 0xFF, descriptorFuse 8, descriptorFuse 9, descriptorFuse 10] ++
  endpointDescriptor 0x81 2 bulk (descriptorFuse 11) ++ endpointDescriptor 0x02 2 bulk (descriptorFuse 12) ++
  endpointDescriptor 0x83 2 bulk (descriptorFuse 13) ++ endpointDescriptor 0x84 3 16 (if hs then 4 else 1)

/-- A hexadecimal digit as a character code. -/
def hexDigit (n : Nat) : Nat := if n < 10 then 0x30 + n else 0x37 + n

/-- A string descriptor of UTF-16 codes. -/
def stringDescriptor (codes : List Nat) : List Nat := [2 + 2 * codes.length, 3] ++ codes.flatMap (leBytes 2)

/-- The string descriptors: the language table, the unique number in 16 hexadecimal digits (R481), and the texts of
the other indexes that the device descriptor names, which the spec does not state. -/
def usbString (index : Nat) : Option (List Nat) :=
  if index = 0 then some (stringDescriptor [Config.freeFuse 98 % 65536])
  else if index = serialIndex then
    some (stringDescriptor ((List.range 16).map fun i => hexDigit (uniqueNumber / 16 ^ (15 - i) % 16)))
  else if index = descriptorFuse 5 ∨ index = descriptorFuse 6 then
    some (stringDescriptor ((List.range (Config.freeFuse (1000 + index) % 127)).map fun i => Config.freeFuse (2000 + 128 * index + i) % 65536))
  else none

/-- A descriptor by type and index. -/
def State.usbDescriptor (s : State) (kind index : Nat) : Option (List Nat) :=
  let hs := s.on Reg.USB_STATUS_HS
  match kind with
  | 1 => some s.deviceDescriptor
  | 2 => if index = 0 then some (configDescriptor 2 hs) else none
  | 3 => usbString index
  | 6 => some [10, 6, 0, 2, descriptorFuse 0, descriptorFuse 1, descriptorFuse 2, 64, 1, 0]
  | 7 => if index = 0 then some (configDescriptor 7 (!hs)) else none
  | _ => none

/-- GET_DESCRIPTOR. -/
def getDescriptor (kind index wLength : Nat) (s : State) : State :=
  s.usbRequest fun s =>
    match s.usbDescriptor kind index with
    | some b => s.usbData b wLength
    | none => s.emit (.usbStall 0)

def execGetDescriptor (kind index : Fin 256) (wLength : Fin 65536) (s : State) : Host.Outcome State Fault Refusal :=
  .next (s.powered fun s => getDescriptor kind index wLength s)

/-- GET_CONFIGURATION. -/
def getConfiguration (wLength : Nat) (s : State) : State :=
  s.usbRequest fun s => s.usbData [if s.rd Reg.USB_STATUS_STATE = 4 then 1 else 0] wLength

def execGetConfiguration (wLength : Fin 65536) (s : State) : Host.Outcome State Fault Refusal :=
  .next (s.powered fun s => getConfiguration wLength s)

/-- The bit of an endpoint address in `halts`, for the endpoints that R481 gives. -/
def endpointOf (index : Nat) : Option Nat :=
  match index with
  | 0x81 => some 1
  | 0x02 => some 2
  | 0x83 => some 3
  | 0x84 => some 4
  | _ => none

/-- GET_STATUS of the device (recipient 0), the interface (1) or an endpoint (2). -/
def getStatus (recipient index wLength : Nat) (s : State) : State :=
  s.usbRequest fun s =>
    match recipient with
    | 0 => s.usbData [1 + 2 * s.rd Reg.USB_STATUS_RWAKE, 0] wLength
    | 1 => if index = 0 ∧ s.rd Reg.USB_STATUS_STATE = 4 then s.usbData [0, 0] wLength else s.emit (.usbStall 0)
    | 2 =>
      match endpointOf index with
      | some e => s.usbData [(s.usb.halts.testBit e).toNat, 0] wLength
      | none => if index % 128 = 0 then s.usbData [0, 0] wLength else s.emit (.usbStall 0)
    | _ => s.emit (.usbStall 0)

def execGetStatus (recipient : Fin 32) (index wLength : Fin 65536) (s : State) : Host.Outcome State Fault Refusal :=
  .next (s.powered fun s => getStatus recipient index wLength s)

/-- Remote wake enabled or disabled by the host. -/
def State.setRwake (s : State) (b : Bool) : State :=
  ({ s with nt := { s.nt with usb := { s.nt.usb with rwake := b } } } : State).wrB Reg.USB_STATUS_RWAKE b

/-- SET_FEATURE for DEVICE_REMOTE_WAKEUP (1), ENDPOINT_HALT (0) and TEST_MODE (2). -/
def setFeature (recipient feature index : Nat) (s : State) : State :=
  s.usbRequest fun s =>
    if recipient = 0 ∧ feature = 1 then s.setRwake true
    else if recipient = 0 ∧ feature = 2 then { s with usb := { s.usb with testMode := some (index / 256) } }
    else if recipient = 2 ∧ feature = 0 then
      match endpointOf index with
      | some e => { s with usb := { s.usb with halts := setBit s.usb.halts e } }
      | none => s.emit (.usbStall 0)
    else s.emit (.usbStall 0)

def execSetFeature (recipient : Fin 32) (feature index : Fin 65536) (s : State) : Host.Outcome State Fault Refusal :=
  .next (s.powered fun s => setFeature recipient feature index s)

/-- CLEAR_FEATURE for DEVICE_REMOTE_WAKEUP and ENDPOINT_HALT. -/
def clearFeature (recipient feature index : Nat) (s : State) : State :=
  s.usbRequest fun s =>
    if recipient = 0 ∧ feature = 1 then s.setRwake false
    else if recipient = 2 ∧ feature = 0 then
      match endpointOf index with
      | some e => { s with usb := { s.usb with halts := clearBit s.usb.halts e } }
      | none => s.emit (.usbStall 0)
    else s.emit (.usbStall 0)

def execClearFeature (recipient : Fin 32) (feature index : Fin 65536) (s : State) : Host.Outcome State Fault Refusal :=
  .next (s.powered fun s => clearFeature recipient feature index s)

/-- GET_INTERFACE: alternate setting 0. -/
def getInterface (index wLength : Nat) (s : State) : State :=
  s.usbRequest fun s =>
    if index = 0 ∧ s.rd Reg.USB_STATUS_STATE = 4 then s.usbData [0] wLength else s.emit (.usbStall 0)

def execGetInterface (index wLength : Fin 65536) (s : State) : Host.Outcome State Fault Refusal :=
  .next (s.powered fun s => getInterface index wLength s)

/-- SET_INTERFACE: alternate setting 0 only. -/
def setInterface (alt index : Nat) (s : State) : State :=
  s.usbRequest fun s => if alt = 0 ∧ index = 0 ∧ s.rd Reg.USB_STATUS_STATE = 4 then s else s.emit (.usbStall 0)

def execSetInterface (alt index : Fin 65536) (s : State) : Host.Outcome State Fault Refusal :=
  .next (s.powered fun s => setInterface alt index s)

/-- SET_DESCRIPTOR is answered with STALL. -/
def setDescriptor (s : State) : State := s.usbRequest (·.emit (.usbStall 0))

def execSetDescriptor (s : State) : Host.Outcome State Fault Refusal := .next (s.powered fun s => setDescriptor s)

/-- SYNCH_FRAME is answered with STALL. -/
def synchFrame (s : State) : State := s.usbRequest (·.emit (.usbStall 0))

def execSynchFrame (s : State) : Host.Outcome State Fault Refusal := .next (s.powered fun s => synchFrame s)

/-! ## Vendor requests (R484, R485) -/

/-- A vendor request is answered with STALL and counted. -/
def State.vendorStall (s : State) : State := (s.inc Reg.USB_STALLS_COUNT).emit (.usbStall 0)

/-- A vendor request: accepted in CONFIGURED with the table's wLength and where `ok` holds; management hears
of it (R456). -/
def State.vendor (s : State) (ok : Bool) (f : State → State) : State :=
  s.usbRequest fun s => if s.rd Reg.USB_STATUS_STATE = 4 ∧ ok then f (s.mgmtRaise 16) else s.vendorStall

/-- GET_INFO: DEV_ID and words 1 to 4 of FW_INFO. -/
def getInfo (wLength : Nat) (s : State) : State :=
  s.vendor (wLength == 20) fun s => s.usbData ((s.storedWord 0 0x20 :: s.fwInfo).flatMap (leBytes 4)) 20

def execGetInfo (wLength : Fin 65536) (s : State) : Host.Outcome State Fault Refusal :=
  .next (s.powered fun s => getInfo wLength s)

/-- USB_UPD_CMD: a command of the USB agent (R474); a refused one is stalled. -/
def usbUpdCmd (op wLength : Nat) (s : State) : State :=
  s.vendor (wLength == 0 && s.on Reg.USB_CTL_UPD_EN) fun s =>
    if s.updAllows op true then s.updCommand op true else s.updRefused.vendorStall

def execUsbUpdCmd (op wLength : Fin 65536) (s : State) : Host.Outcome State Fault Refusal :=
  .next (s.powered fun s => usbUpdCmd op wLength s)

/-- USB_UPD_STATUS. -/
def usbUpdStatus (wLength : Nat) (s : State) : State :=
  s.vendor (wLength == 12) fun s =>
    s.usbData ([0x604, 0x60C, 0x610].flatMap fun o => leBytes 4 (s.storedWord 0x900 o)) 12

def execUsbUpdStatus (wLength : Fin 65536) (s : State) : Host.Outcome State Fault Refusal :=
  .next (s.powered fun s => usbUpdStatus wLength s)

/-- ONYX: a command frame is passed on unchanged (R488); in retention it is never answered (R527). -/
def onyxFrame (b : List Nat) (s : State) : State :=
  s.vendor (decide (1 ≤ b.length ∧ b.length ≤ 64) && !s.usb.onyxBusy) fun s =>
    let s := s.onyxRun
    let frame := if s.onyx.power = .operating then some b else none
    { s with usb := { s.usb with onyxBusy := true }, onyx := { s.onyx with frame := frame, reply := none } }

def execOnyxFrame (b : List Byte) (s : State) : Host.Outcome State Fault Refusal :=
  .next (s.powered fun s => onyxFrame (b.map (·.toNat)) s)

/-- EVT_MASK writes USB_EVT_MASK. -/
def usbEvtMask (mask wLength : Nat) (s : State) : State := s.vendor (wLength == 0) (·.wr Reg.USB_EVT_MASK_MASK mask)

def execUsbEvtMask (mask wLength : Fin 65536) (s : State) : Host.Outcome State Fault Refusal :=
  .next (s.powered fun s => usbEvtMask mask wLength s)

/-! ## Streams (R486, R487) -/

/-- The log stream changes. -/
def State.putStream (s : State) (x : Option LogStream) : State :=
  ({ s with usb := { s.usb with stream := x } } : State).wrB Reg.USB_STATUS_LOG_STREAM x.isSome

/-- LOG_START. -/
def logStart (seq : Nat) (mirror follow : Bool) (wLength : Nat) (s : State) : State :=
  s.vendor (wLength == 8) (·.putStream (some ⟨seq, mirror, follow⟩))

def execLogStart (seq : Word) (mirror follow : Bool) (wLength : Fin 65536) (s : State) : Host.Outcome State Fault Refusal :=
  .next (s.powered fun s => logStart seq.toNat mirror follow wLength s)

/-- LOG_STOP. -/
def logStop (wLength : Nat) (s : State) : State := s.vendor (wLength == 0) (·.putStream none)

def execLogStop (wLength : Fin 65536) (s : State) : Host.Outcome State Fault Refusal :=
  .next (s.powered fun s => logStop wLength s)

/-- The entries of the stream's source from its SEQ up to `limit`, ascending. -/
def State.streamEntries (s : State) (x : LogStream) (limit : Nat) : List LogEntry :=
  let n := (limit + 2 ^ 32 - x.seq) % 2 ^ 32
  let n := if 2 ^ 31 ≤ n then 0 else n
  ((if x.mirror then s.nt.log.mirror else s.nt.log.ring).filter fun e => decide ((e.seq + 2 ^ 32 - x.seq) % 2 ^ 32 < n)).reverse

/-- USB_LOG_PACKET: a packet of up to 16 entries (2 at full speed) on endpoint 1; a short one ends a stream without
FOLLOW; there is none while entries that belong to it are still on their way to the ring (R486). -/
def usbLogPacket (s : State) : State :=
  match s.usb.stream with
  | none => s
  | some x =>
    let l := s.nt.log
    let limit := if x.mirror && x.follow then l.mirrorSeq else l.next
    let most := if s.on Reg.USB_STATUS_HS then 16 else 2
    let all := s.streamEntries x limit
    let es := all.take most
    let full := decide (es.length = most)
    if s.rd Reg.USB_STATUS_STATE ≠ 4 || s.usb.halts.testBit 1 then s
    else if !full && ((x.follow && es.isEmpty) || !l.intake.isEmpty) then s
    else
      let seq := if decide (all.length = es.length) && !full then limit
        else (((es.getLast?).map fun e => (e.seq + 1) % 2 ^ 32).getD x.seq)
      let s := s.emit (.usbIn 1 (es.flatMap LogEntry.bytes))
      if x.follow || full then s.putStream (some { x with seq := seq }) else s.putStream none

def execUsbLogPacket (s : State) : Host.Outcome State Fault Refusal := .next (s.powered fun s => usbLogPacket s)

/-- USB_IMAGE_PACKET: an OUT packet on endpoint 2 (R487). -/
def usbImagePacket (b : List Nat) (s : State) : State :=
  if s.rd Reg.USB_STATUS_STATE ≠ 4 || s.usb.halts.testBit 2 || decide (s.rd Reg.UPD_FREE_BYTES < 512) then s
  else if b.length % 4 ≠ 0 ∨ s.rd Reg.UPD_STATUS_STATE ≠ 1 ∨ s.rd Reg.UPD_STATUS_OWNER ≠ 2 then
    { s with usb := { s.usb with halts := setBit s.usb.halts 2 } }
  else s.each (bytesToWords b) fun s w => updDataWrite w s

def execUsbImagePacket (b : List Byte) (s : State) : Host.Outcome State Fault Refusal :=
  .next (s.powered fun s => usbImagePacket (b.map (·.toNat)) s)

/-- EVENT_MESSAGE_POLL: the host takes the oldest message of endpoint 4 (R489). -/
def eventMessagePoll (s : State) : State :=
  match s.nt.usb.queue with
  | [] => s
  | m :: rest =>
    if s.rd Reg.USB_STATUS_STATE ≠ 4 || s.usb.halts.testBit 4 then s
    else ({ s with nt := { s.nt with usb := { s.nt.usb with queue := rest } } } : State).emit (.usbIn 4 (wordsBytes m))

def execEventMessagePoll (s : State) : Host.Outcome State Fault Refusal := .next (s.powered fun s => eventMessagePoll s)

end Sys2Proof.Machine
end

