-- ==== Sys2Proof/Machine/RegWord.lean ====
section
/-!
DEFINITION. What a read of a register word returns without a side effect: the common header (R550), the registers
whose value is made from the state of their block, and the others as they are stored (R6, R8).
-/

namespace Sys2Proof.Machine

/-- PAGE_STATUS.PENDING: some SH field's shadow differs from its value in force. -/
def State.pagePending (s : State) (p : Nat) : Bool :=
  (s.shadow ++ s.force).any fun e => e.1 / 131072 == p && tfind e.1 s.shadow != tfind e.1 s.force

/-- The common header of page `p` (R550). -/
def State.headerWord (s : State) (p o : Nat) : Nat :=
  match pageRow p with
  | none => 0
  | some r =>
    let g := s.rd Reg.PAGE_COMMIT_GROUP p
    match o with
    | 0x00 => r.type + ((p - r.first) % 256) <<< 8 + 1 <<< 16
    | 0x04 => (pageShadowed p).toNat + (pageFramed p).toNat <<< 1 + r.lease.toNat <<< 2 + r.never.toNat <<< 3 +
        domainOfPage p <<< 4
    | 0x08 => (s.pagePending p).toNat + (s.groupBusy g).toNat <<< 1 + (s.domain (domainOfPage p) == 2).toNat <<< 2 +
        (s.pageShared p).toNat <<< 3
    | 0x10 => sget s.nt.events p
    | 0x14 => s.rd Reg.PAGE_MASK p
    | 0x18 => g
    | 0x1C => s.rd Reg.PAGE_GEN p
    | _ => 0

/-- A word of an interrupt controller's page (R408). -/
def State.icWord (s : State) (p o : Nat) : Nat :=
  let c := p - 0x840
  let w := (fieldsAt p o).foldl (fun w f =>
    if f.1.access = .wo then w else w + s.nt.ic.rd f.1 c f.2.2.1 <<< f.1.lo) 0
  if o = 0x34 ∧ c < 16 ∧ !(s.nt.ic.vector c).usable then setBit w 1 else w

/-- LEASE[r].REMAIN_MS: the time to expiry, rounded up (R376). -/
def State.leaseRemain (s : State) (r : Nat) : Nat :=
  if s.on Reg.LEASE_ACTIVE 0 r then (sget s.fr.leaseEnd r - s.tb.ns + 999999) / 1000000 % 65536 else 0

/-- LOG_HEAD, LOG_TAIL, LOG_MIRROR and LOG_LOST (R478); the tail of an empty ring is the SEQ that enters it next. -/
def State.logWordAt (s : State) (o : Nat) : Nat :=
  let l := s.nt.log
  match o with
  | 0x428 => l.next
  | 0x42C => ((l.ring.getLast?).map (·.seq)).getD ((l.next + 2 ^ 32 - l.intake.length) % 2 ^ 32)
  | 0x430 => l.mirrorSeq
  | _ => l.lostIntake + l.lostMirror <<< 16

/-- A mailbox word as `agent` sees it: its own latest write, else what every agent sees (R460). -/
def State.mailboxWord (s : State) (agent p o : Nat) : Nat :=
  (s.mgmt.stores.filter fun w => w.agent == agent && w.page == p && w.offset == o).foldl
    (fun v w => (v &&& (0xFFFFFFFF - byteMask w.be)) ||| (w.value &&& byteMask w.be)) (s.storedWord p o)

/-- The word of the block registers at page `p`, offset `o` (0x20 and above). -/
def State.blockWord (s : State) (p o : Nat) : Nat :=
  let w := s.storedWord p o
  if 0x840 ≤ p ∧ p ≤ 0x850 then s.icWord p o
  else if 0x50 ≤ p ∧ p < 0x54 ∧ o = 0x2C then s.encoderVelocity (p - 0x50)
  else if p = 0x100 ∧ 0x44 ≤ o ∧ o ≤ 0x50 then s.castPend ((o - 0x44) / 4)
  else if p = 0x108 ∧ 0x120 ≤ o then 0
  else if p = 0x140 ∧ o = 0x30 ∧ s.capturing then w % 2 ^ 16 + (s.capFewest % 2 ^ 13) <<< 16
  else if p = 0x301 ∧ 0x100 ≤ o ∧ o < 0x260 then w % 2 ^ 16 + s.leaseRemain ((o - 0x100) / 4) <<< 16
  else if p = 0x302 ∧ o = 0x2C then s.pinnedCount
  else if p = 0x900 ∧ 0x428 ≤ o ∧ o ≤ 0x434 then s.logWordAt o
  else if p = 0x920 ∧ o = 0x24 then w + s.nt.usb.wakePending.toNat <<< 12
  else if p = 0x920 ∧ o = 0x3C then s.nt.usb.lost
  else if p = 0x921 ∧ o = 0x2C then s.nt.alerts.status
  else if p = 0x943 ∧ 0x20 ≤ o ∧ o < 0x40 then (bytesToWords s.digest).getD ((o - 0x20) / 4) 0
  else w

/-- Any word of the register map, as a read without a side effect returns it. -/
def State.word (s : State) (p o : Nat) : Nat :=
  if !pageDefined p then 0
  else if o < 0x20 then s.headerWord p o
  else if s.domain (domainOfPage p) = 2 then s.blockWord p o
  else 0

end Sys2Proof.Machine
end

