-- ==== Sys2Proof/Machine/TwoWire.lean ====
section
/-!
DEFINITION. The two-wire ports (R493 to R506): the target's transactions, alerts and alert responses, and the
controller's transfers with their recovery of the bus.
-/

namespace Sys2Proof.Machine

/-! ## The target port (R494 to R498) -/

/-- The port answers the address (R494, R505). -/
def State.twtAnswers (s : State) (a : Nat) : Bool :=
  s.on Reg.TWT_CTL_EN && !(decide (a < 8) || a == 0x0C || decide (0x78 ≤ a)) &&
    ((a ^^^ s.rd Reg.TWT_ADDR_BASE) &&& s.rd Reg.TWT_ADDR_MASK) == 0

/-- The port is busy (R497). -/
def State.twtBusy (s : State) : Bool := !s.mgmtRuns || decide (s.tb.ns < s.twt.busyUntil)

/-- The four bytes of a word, and which of them `ptr` names. -/
def byteOf (v ptr : Nat) : Nat := bitsOf v (8 * (ptr % 4)) 8

/-- The byte at a pointer (R496). -/
def State.twtByte (s : State) (ptr : Nat) : Nat :=
  let w := ptr / 4 * 4
  if 0x100 ≤ ptr ∧ ptr < 0x200 then byteOf (s.word 0x980 (w - 0x100)) ptr
  else if 0x1000 ≤ ptr ∧ ptr < 0x1800 then byteOf (s.word 0x921 (w - 0x1000 + 0x800)) ptr
  else
    match w with
    | 0x00 => byteOf (s.word 0 0x20) ptr
    | 0x04 => byteOf (s.word 0x900 0x400) ptr
    | 0x08 => byteOf (s.word 0x900 0x404) ptr
    | 0x0C => byteOf (s.word 0x900 0x408) ptr
    | 0x10 => byteOf (s.word 0x980 0x20) ptr
    | 0x14 => byteOf (s.rd Reg.TEN_STATE_STATE) ptr
    | 0x18 => byteOf (s.rd Reg.DOM_STATE_STATE) ptr
    | 0x40 => byteOf (s.word 0x20 0x30) ptr
    | 0x44 => byteOf (s.rd Reg.THROT_FRAC_F + s.rd Reg.CAP_STATUS_LEVEL <<< 16) ptr
    | 0x48 => byteOf (((List.range 12).map fun m => s.rd Reg.MON_P_MW 0 m).sum) ptr
    | 0x4C => byteOf (s.tb.ns / 1000000000 % 2 ^ 32) ptr
    | 0x80 => byteOf (s.nt.alerts.status + s.rd Reg.TWT_ALERT_MASK_MASK <<< 16) ptr
    | _ => 0

/-- A transaction that finds the port busy is refused (R497). -/
def State.twtNack (s : State) : State := s.incSat Reg.TWT_COUNT_NACK_BUSY

/-- One byte of a write transaction is applied (R495, R496). -/
def State.twtPut (s : State) (ptr v : Nat) : State :=
  let put := fun (old : Nat) (n : Nat) => old - bitsOf old (8 * n) 8 <<< (8 * n) + v <<< (8 * n)
  if 0x1000 ≤ ptr ∧ ptr < 0x1800 then
    s.wr Reg.TWT_SCRATCH_VALUE (put (s.rd Reg.TWT_SCRATCH_VALUE 0 ((ptr - 0x1000) / 4)) (ptr % 4)) 0 ((ptr - 0x1000) / 4)
  else if ptr = 0x82 ∨ ptr = 0x83 then s.wr Reg.TWT_ALERT_MASK_MASK (put (s.rd Reg.TWT_ALERT_MASK_MASK) (ptr - 0x82))
  else if ptr = 0x84 ∨ ptr = 0x85 then s.alertClear (v <<< (8 * (ptr - 0x84)))
  else s.inc Reg.TWT_IGNORED_COUNT

/-- The pointer after a written byte: it wraps within its 64-byte page (R495). -/
def nextWritten (ptr : Nat) : Nat := ptr / 64 * 64 + (ptr + 1) % 64

/-- The bytes of a write transaction are applied together. -/
def State.twtApply : List Nat → Nat → State → State × Nat
  | [], ptr, s => (s, ptr)
  | v :: rest, ptr, s => State.twtApply rest (nextWritten ptr) (s.twtPut ptr (v % 256))

/-- TWT_WRITE_TRANSACTION: the bytes after the address, the first two of them the pointer; `stop`: it ends with a STOP,
else with a repeated START, which drops its data (R495). -/
def twtWriteTransaction (address : Nat) (b : List Nat) (stop : Bool) (s : State) : State :=
  if !s.twtAnswers address then s
  else if s.twtBusy then s.twtNack
  else
    let s := s.mgmtRaise 17
    match b with
    | hi :: lo :: data =>
      let ptr := hi % 256 * 256 + lo % 256
      let s : State := { s with twt := { s.twt with pointer := ptr } }
      if data.isEmpty || !stop then s
      else
        let r := State.twtApply data ptr s
        -- up to 20 µs of application: a free value
        let u := r.1.take 15
        ({ u.1 with twt := { pointer := r.2, busyUntil := u.1.tb.ns + u.2 % 20001 } } : State).raise Ev.TWT_WRITE
    | _ => s

def execTwtWriteTransaction (address : Fin 128) (b : List Byte) (stop : Bool) (s : State) :
    Host.Outcome State Fault Refusal :=
  .next (s.powered fun s => twtWriteTransaction address (b.map (·.toNat)) stop s)

/-- TWT_READ_TRANSACTION: `n` bytes from the pointer on (R495). -/
def twtReadTransaction (address n : Nat) (s : State) : State :=
  if !s.twtAnswers address then s
  else if s.twtBusy then s.twtNack
  else
    let p := s.twt.pointer
    let bytes := (List.range n).map fun i => s.twtByte ((p + i) % 65536)
    (({ s with twt := { s.twt with pointer := (p + n) % 65536 } } : State).emit (.twoWireTarget bytes)).mgmtRaise 17

def execTwtReadTransaction (address : Fin 128) (n : Nat) (s : State) : Host.Outcome State Fault Refusal :=
  .next (s.powered fun s => twtReadTransaction address n s)

/-- BUS_TIMEOUT: SCL stays low for more than 30 ms within a transaction, whose bytes are discarded (R497). -/
def twtBusTimeout (s : State) : State :=
  if s.on Reg.TWT_CTL_EN then (s.incSat Reg.TWT_COUNT_TIMEOUTS).raise Ev.TWT_BUS_TIMEOUT else s

def execTwtBusTimeout (s : State) : Host.Outcome State Fault Refusal := .next (s.powered fun s => twtBusTimeout s)

/-- The alerting source of lowest number (R498). -/
def State.alertFirst (s : State) : Option Nat := (List.range 16).find? fun n => s.nt.alerts.alerting.testBit n

/-- ARA_DONE: a read at the alert response address; `won`: the port wins the arbitration of its byte (R498). -/
def twtAraDone (won : Bool) (s : State) : State :=
  match s.alertFirst with
  | none => s
  | some n =>
    if !s.on Reg.TWT_CTL_EN || s.twtBusy then s
    else
      let rest := clearBit s.nt.alerts.alerting n
      let byte := s.rd Reg.TWT_ADDR_ALERT_ADDR <<< 1 + (decide (rest ≠ 0)).toNat
      let s := s.emit (.twoWireTarget [byte])
      if !won then s
      else ((s.putAlerts { s.nt.alerts with alerting := rest }).wr Reg.TWT_LAST_ALERT_SOURCE n).raise Ev.TWT_ARA_DONE

def execTwtAraDone (won : Bool) (s : State) : Host.Outcome State Fault Refusal :=
  .next (s.powered fun s => twtAraDone won s)

/-- TWT_HOST_ALERT: a write of TWT_HOST_ALERT (R498, R505). -/
def twtHostAlert (v : Nat) (s : State) : State := if v.testBit 0 then s.alert 9 else s

def execTwtHostAlert (v : Word) (s : State) : Host.Outcome State Fault Refusal :=
  .next (s.powered fun s => twtHostAlert v.toNat s)

/-- TWT_CTL written: TWT_ALERT_N follows EN. -/
def twtCtlWrite (v : Nat) (s : State) : State :=
  let t := s.hostWord 0x921 0x20 v
  if t.alertPin == s.alertPin then t
  else if t.alertPin then (t.emit (.pin "TWT_ALERT_N" 0 false)).raise Ev.TWT_ALERT_ASSERT
  else t.emit (.pin "TWT_ALERT_N" 0 true)

/-! ## The controller port (R499 to R502) -/

/-- The result codes of TWC_STATUS.RESULT. -/
def State.twcResult (s : State) (code : Nat) : State := s.wr Reg.TWC_STATUS_RESULT code

/-- A bus recovery of `n` clocks that has freed the bus (R501). -/
def State.twcFreed (s : State) (n : Nat) : State :=
  ((({ s with twc := { s.twc with stuck := false, cutOff := false } } : State).emit (.twoWireRecovery n true)).incSat
    Reg.TWC_COUNT_RECOVERIES).raise Ev.TWC_RECOVERED

/-- A bus that a recovery cannot free, or that is not recovered at all (R501). -/
def State.twcStays (s : State) : State :=
  (({ s with twc := { s.twc with stuck := true } } : State).twcResult 6).raise Ev.TWC_BUS_STUCK

/-- A bus recovery (R501). -/
def State.twcRecovery (s : State) (bus : BusLines) : State :=
  match bus with
  | .free => s.twcFreed 0
  | .low n => s.twcFreed n
  | .stuck => (s.emit (.twoWireRecovery 9 false)).twcStays
  | .sclLow => s.twcStays

/-- The transfer has ended (R499, R456): BUSY 0, XFER_DONE or XFER_FAIL, source 18; a loop command that waits goes out
(R502). -/
def State.twcEnd (s : State) (code : Nat) : State :=
  let s := (s.twcResult code).wr Reg.TWC_STATUS_ARB_RETRIES s.twc.losses
  let s : State := { s.wr Reg.TWC_STATUS_BUSY 0 with twc := { s.twc with host := none, refused := false } }
  let s := (s.raise (if code = 1 then Ev.TWC_XFER_DONE else Ev.TWC_XFER_FAIL)).mgmtRaise 18
  if s.twc.loopWaits then
    ({ s with twc := { s.twc with loopWaits := false } } : State).emit
      (.regulator true (s.rd Reg.AVS_CTL_ADDR) 0 (s.rd Reg.AVS_VSET_MV))
  else s

/-- The transfer's START goes out. -/
def State.twcStart (s : State) (t : TwcTransfer) : State := s.emit (.twoWireTransfer t.address t.write t.readLength)

/-- The bytes of TWC_WDATA. -/
def State.twcWritten (s : State) (n : Nat) : List Nat :=
  ((List.range 8).flatMap fun w => wordBytes (s.rd Reg.TWC_WDATA_VALUE 0 w)).take n

/-- TWC_XFER_GO: a write of TWC_XFER; `bus`: the lines as the START is to be sent (R499, R501). -/
def twcXferGo (v : Nat) (bus : BusLines) (s : State) : State :=
  let wlen := bitsOf v 8 6
  let rlen := bitsOf v 16 6
  if !v.testBit 31 then s
  else if s.on Reg.TWC_STATUS_BUSY ∨ 32 < wlen ∨ 32 < rlen then s.raise Ev.TWC_GO_IGNORED
  else
    let s : State := { s with twc := { s.twc with losses := 0 } }
    let s := ((s.wr Reg.TWC_STATUS_BUSY 1).wr Reg.TWC_STATUS_RCOUNT 0).wr Reg.TWC_STATUS_ARB_RETRIES 0
    if !s.on Reg.TWC_CTL_EN then s.twcEnd 7
    else if s.twc.stuck then s.twcEnd 6
    else
      let s := if bus = .free && !s.twc.cutOff then s else s.twcRecovery bus
      if s.twc.stuck then s.twcEnd 6
      else
        let t : TwcTransfer := ⟨bitsOf v 0 7, s.twcWritten wlen, rlen⟩
        ({ s with twc := { s.twc with host := some t } } : State).twcStart t

def execTwcXferGo (v : Word) (bus : BusLines) (s : State) : Host.Outcome State Fault Refusal :=
  .next (s.powered fun s => twcXferGo v.toNat bus s)

/-- The bytes read go to TWC_RDATA. -/
def State.twcReadBytes (s : State) (b : List Nat) : State :=
  s.each b.zipIdx fun s x =>
    let old := s.rd Reg.TWC_RDATA_VALUE 0 (x.2 / 4)
    let sh := 8 * (x.2 % 4)
    s.wr Reg.TWC_RDATA_VALUE (old - bitsOf old sh 8 <<< sh + (x.1 % 256) <<< sh) 0 (x.2 / 4)

/-- XFER_DONE: the transfer ends as `e`; one whose port was disabled meanwhile ends REFUSED (R499, R503). -/
def twcXferDone (e : TransferEnd) (s : State) : State :=
  match s.twc.host with
  | none => s
  | some t =>
    match e with
    | .ok read =>
      let b := read.map (·.toNat)
      if s.twc.refused && decide (b.length ≤ t.readLength) then
        ((s.twcReadBytes b).wr Reg.TWC_STATUS_RCOUNT b.length).twcEnd 7
      else if b.length = t.readLength then ((s.twcReadBytes b).wr Reg.TWC_STATUS_RCOUNT b.length).twcEnd 1
      else s
    | .addressNack => s.twcEnd (if s.twc.refused then 7 else 2)
    | .dataNack n =>
      if t.write.length ≤ n.val then s
      else (s.wr Reg.TWC_STATUS_NACK_BYTE n.val).twcEnd (if s.twc.refused then 7 else 3)

def execTwcXferDone (e : TransferEnd) (s : State) : Host.Outcome State Fault Refusal :=
  .next (s.powered fun s => twcXferDone e s)

/-- TWC_ARB_LOST: the port loses the arbitration: it starts again, or ends after RETRIES losses (R500). -/
def twcArbLost (s : State) : State :=
  match s.twc.host with
  | none => s
  | some t =>
    let s := s.incSat Reg.TWC_COUNT_ARB_LOST
    if s.rd Reg.TWC_CTL_RETRIES ≤ s.twc.losses + 1 then s.twcEnd 4
    else ({ s with twc := { s.twc with losses := s.twc.losses + 1 } } : State).twcStart t

def execTwcArbLost (s : State) : Host.Outcome State Fault Refusal := .next (s.powered fun s => twcArbLost s)

/-- TWC_TIMEOUT: a target holds SCL low for more than TIMEOUT_MS; recovery follows (R499, R501). -/
def twcTimeout (bus : BusLines) (s : State) : State :=
  if s.twc.host.isNone then s else (s.twcEnd 5).twcRecovery bus

def execTwcTimeout (bus : BusLines) (s : State) : Host.Outcome State Fault Refusal :=
  .next (s.powered fun s => twcTimeout bus s)

/-- TWC_RECOVER: a write of TWC_RECOVER (R501). -/
def twcRecover (v : Nat) (bus : BusLines) (s : State) : State := if v.testBit 0 then s.twcRecovery bus else s

def execTwcRecover (v : Word) (bus : BusLines) (s : State) : Host.Outcome State Fault Refusal :=
  .next (s.powered fun s => twcRecover v.toNat bus s)

/-- TWC_CTL written: EN 0 during a transfer lets it end REFUSED (R503). -/
def twcCtlWrite (v : Nat) (s : State) : State :=
  let s := s.hostWord 0x922 0x20 v
  if !s.on Reg.TWC_CTL_EN && s.twc.host.isSome then { s with twc := { s.twc with refused := true } } else s

end Sys2Proof.Machine
end

