-- ==== Sys2Proof/Machine/Reset.lean ====
section
/-!
DEFINITION. Device resets and power-on reset (R421, R422, R580, R582): what survives and what starts afresh.
-/

namespace Sys2Proof.Machine

/-- The status that is not the device's to reset: the synthesiser of the time base stays locked (R47, R421). -/
def timeBaseRows : List Row := [Reg.TB_STATUS_LOCKED]

/-- The fields that straps and fuses give, in `t` as `s` has them (R576, R473). -/
def State.strapped (t s : State) : State :=
  let t := (t.wrB Reg.IK_CTL_LEAD s.flt.strapLead).wrB Reg.AVS_CTL_LINK s.flt.strapLink
  let t := (t.wr Reg.TWT_ADDR_BASE (0x58 + s.flt.strapAddr)).wr Reg.TWT_ADDR_ALERT_ADDR (0x58 + s.flt.strapAddr)
  let t := t.wr Reg.MGMT_SVN_FUSES (s.rd Reg.MGMT_SVN_FUSES)
  { t with flt := { t.flt with strapLead := s.flt.strapLead, strapLink := s.flt.strapLink, strapAddr := s.flt.strapAddr } }

/-- The log after a device reset: its entries survive, its counts and a stop of the mirror do not (R463, R467). -/
def LogState.afterReset (l : LogState) : LogState := { l with lostIntake := 0, lostMirror := 0, mirrorStopped := false }

/-- The pins' levels of encoders and axes, which no reset of the device changes. -/
def Encoder.pins (x : Encoder) : Encoder := { a := x.a, b := x.b }
def Axis.pins (x : Axis) : Axis := { home := x.home, fltN := x.fltN }

/-- The flash after a reset: a bank that was being received is left invalid (R476). -/
def State.flashAfter (s : State) : Flash :=
  let st := s.rd Reg.UPD_STATUS_STATE
  if st = 1 ∨ st = 2 then s.mgmt.flash.putBank s.mgmt.target [] else s.mgmt.flash

/-- What a device reset makes of the state: every field at its reset value (R10, R411); the time base's counter, Onyx,
the log, the flash and the fuses survive (R421), and the outside is as it was.  The agents' captures (R48) are cleared
too: DESIGN CHOICE, assumption log 70. -/
def State.afterReset (s : State) : State :=
  let t : State := { tb := s.tb, onyx := s.onyx, fresh := s.fresh, out := s.out, pending := s.pending,
                     nt := { log := s.nt.log.afterReset }, usb := { vbus := s.usb.vbus },
                     twc := { cutOff := s.twc.host.isSome || s.twc.cutOff },
                     mgmt := { flash := s.flashAfter, revoked := s.mgmt.revoked },
                     encoders := s.encoders.map fun e => (e.1, e.2.pins), axes := s.axes.map fun e => (e.1, e.2.pins) }
  let t := t.strapped s
  timeBaseRows.foldl (fun t r => t.wr r (s.rd r)) t

/-- The outputs while the device waits for its firmware (R582). -/
def State.resetOutputs (s : State) : State :=
  let s := (s.each (List.range 24) fun s n => s.emit (.pin "LED" n false)).each (List.range 8) fun s a =>
    ((s.emit (.pin "MOT_EN" a false)).emit (.drive "MOT_DUTY_A" a 0)).emit (.drive "MOT_DUTY_B" a 0)
  let s := s.each (List.range 4) fun s p => s.emit (.pin "BR_MCLK" p false)
  let s := s.each (List.range 8) fun s n => s.emit (.drive "AO" n 82)
  ((s.emit (.pin "SPD_ADV" 0 true)).emit (.pin "TWT_ALERT_N" 0 true)).emit (.pin "USB_PULLUP" 0 false)

/-- A device reset with a cause (R421): DEV_LAST is written and logged as it ends. -/
def State.deviceReset (s : State) (cause : Nat) : State :=
  let n := satAdd 16 (s.rd Reg.DEV_LAST_COUNT) 1
  let t := ((s.afterReset.wr Reg.DEV_LAST_CAUSE cause).wr Reg.DEV_LAST_COUNT n).resetOutputs
  t.log { kind := 0x09, value := cause }

/-- DEV_RESET_KEY: a write of DEV_RESET.KEY (R421). -/
def devResetKey (agent v : Nat) (s : State) : State :=
  if v % 65536 = 0xD3C0 ∧ (agent = 0 ∨ agent = 17) then s.deviceReset 2
  else
    (s.raise Ev.FLT_KEY_REFUSED).log { kind := 0x0A, tenant := agent, page := 0x29, offset := 0x24, be := 15, value := v % 65536 }

def execDevResetKey (agent : Agent) (v : Word) (s : State) : Host.Outcome State Fault Refusal :=
  .next (s.powered fun s => devResetKey agent.val v.toNat s)

/-- PERST_N_ASSERT. -/
def perstNAssert (s : State) : State := s.deviceReset 1
def execPerstNAssert (s : State) : Host.Outcome State Fault Refusal := .next (s.powered fun s => perstNAssert s)

/-- CORE_SUPPLY_FAULT. -/
def coreSupplyFault (s : State) : State := s.deviceReset 3
def execCoreSupplyFault (s : State) : Host.Outcome State Fault Refusal := .next (s.powered fun s => coreSupplyFault s)

/-- WATCHDOG: the watchdog of a core expires; its entry names the core (R455, R465). -/
def watchdog (core : Nat) (s : State) : State :=
  if s.mgmtRuns then (s.log { kind := 0x0C, value := core }).deviceReset 4 else s
def execWatchdog (core : Fin 2) (s : State) : Host.Outcome State Fault Refusal :=
  .next (s.powered fun s => watchdog core.val s)

/-- The log at power-on: the ring is empty, and SEQ goes on from the newest mirrored entry (R463). -/
def LogState.powerOn (l : LogState) : LogState :=
  let next := ((l.mirror.head?).map fun e => (e.seq + 1) % 2 ^ 32).getD 0
  { next := next, mirror := l.mirror, mirrorSeq := l.mirrorSeq, mirrorAt := l.mirrorAt }

/-- The flash as the board has it programmed: the boot record names the confirmed bank. -/
def flashOf (c : FlashContent) : Flash :=
  { fitted := true, bankA := c.bankA.map (·.toNat), bankB := c.bankB.map (·.toNat),
    copyA := { count := 1, valid := true, confirmed := c.confirmedB.toNat } }

/-- The device as it leaves power-on reset, or is held in it. -/
def State.poweredOn (s : State) : State :=
  let t := s.afterReset
  { t with tb := {}, captures := [], nt := { t.nt with log := s.nt.log.powerOn } }

/-- POWER_ON_RESET: the supplies hold and the synthesiser has locked (R580): the straps are sampled, the time base starts
at 0; `core`: VDD_CORE had been removed, which ends a thermal shutdown (R422); `flash`: the board's flash, where it was
fitted or programmed while the device had no supply. -/
def powerOnReset (lead link core : Bool) (addr : Nat) (flash : Option FlashContent) (s : State) : State :=
  if s.flt.shutdown && !core then s
  else
    let s : State := { s with flt := { s.flt with strapLead := lead, strapLink := link, strapAddr := addr } }
    let s := s.poweredOn
    let s : State := match flash with
      | some c => { s with mgmt := { s.mgmt with flash := flashOf c } }
      | none => s
    let s := ((s.wr Reg.TB_STATUS_LOCKED 1).wr Reg.DEV_LAST_CAUSE 0).wr Reg.DEV_LAST_COUNT 0
    s.resetOutputs.log { kind := 0x09, value := 0 }

def execPowerOnReset (lead link core : Bool) (addr : Fin 8) (flash : Option FlashContent) (s : State) :
    Host.Outcome State Fault Refusal :=
  .next (powerOnReset lead link core addr.val flash s)

/-- SUPPLY_FALL: the device is held in power-on reset until its supplies hold again (R580, R582). -/
def supplyFall (s : State) : State :=
  let t := s.poweredOn
  { t.resetOutputs with flt := { t.flt with held := true, shutdown := s.flt.shutdown } }

def execSupplyFall (s : State) : Host.Outcome State Fault Refusal := .next (supplyFall s)

end Sys2Proof.Machine
end

