-- ==== Sys2Proof/Machine/HostAccess.lean ====
section
/-!
DEFINITION. Register accesses of an agent by page and offset (R6, R8, R9, R354, R427): the write that has a row of its
own acts as that row does, every other write stores its fields; a read with a side effect acts as its row does, every
other read composes its word.  REGISTER_WRITE, REG_WRITE descriptors and the USB requests REG_READ and REG_WRITE.
-/

namespace Sys2Proof.Machine

/-! ## Effects of a write, block by block -/

/-- Page 0x000: DEV_MODE, DEV_RUN. -/
def State.deviceWrite (agent o v : Nat) (s : State) : State :=
  if o = 0x24 then devModeWrite agent v s
  else if o = 0x28 then (s.when (v.testBit 0) runStart).when (v.testBit 1) runStop
  else s.hostWord 0x000 o v

/-- Pages 0x001 to 0x003: grant entries of the tenants 1 to 15. -/
def State.grantPageWrite (p o v : Nat) (s : State) : State :=
  match Reg.GRANT_PAGE.indexAt o with
  | some ij => if 6 * (p - 1) + ij.1 < 15 then grantWrite (6 * (p - 1) + ij.1 + 1) (96 + ij.2) v s else s
  | none => s.hostWord p o v

/-- Pages 0x010 and 0x011: the time base and the core-voltage loop. -/
def State.timeWrite (agent p o v : Nat) (s : State) : State :=
  if p = 0x10 ∧ o = 0x2C then tbRateWrite v s
  else if p = 0x10 ∧ o = 0x34 then tbStep agent v s
  else if p = 0x11 ∧ o = 0x28 then avsCtlWrite v s
  else if p = 0x11 ∧ o = 0x30 then avsVlimitWrite v s
  else s.hostWord p o v

/-- Pages 0x028 and 0x029: domains and faults. -/
def State.faultWrite (agent p o v : Nat) (s : State) : State :=
  if p = 0x28 ∧ o = 0x20 then domCtlWrite v s
  else if p = 0x29 ∧ o = 0x20 then laneResetCmd v s
  else if p = 0x29 ∧ o = 0x24 then devResetKey agent v s
  else s.hostWord p o v

/-- Pages 0x080 to 0x0E0: line converters. -/
def State.converterWrite (p o v : Nat) (s : State) : State :=
  if p = 0xE0 ∧ o = 0x100 then bankCalStart v s
  else if o = 0x34 then forceRequest (p - 0x80) v s
  else s.hostWord p o v

/-- Pages 0x100 to 0x10F: Castling. -/
def State.castWrite (p o v : Nat) (s : State) : State :=
  if p = 0x100 ∧ o = 0x30 then castReqRelease v (castReqGo v s)
  else if 0x102 ≤ p ∧ p ≤ 0x108 ∧ 0x100 ≤ o ∧ o < 0x900 ∧ 16 * (p - 0x102) + (o - 0x100) / 0x80 < 97 then
    trimSlotWrite (16 * (p - 0x102) + (o - 0x100) / 0x80) ((o - 0x100) / 0x20 % 4) ((o - 0x100) / 4 % 8) v s
  else if p = 0x108 ∧ 0x120 ≤ o then s
  else s.hostWord p o v

/-- Pages 0x140 to 0x14F: the Opal array. -/
def State.opalWrite (agent p o v : Nat) (s : State) : State :=
  if p = 0x140 ∧ o = 0x24 then opalCapGo v s
  else if p = 0x141 ∧ 0x800 ≤ o then windowAccess agent none ((o - 0x800) / 4) 0 4 (some v) s
  else if p = 0x147 ∧ o = 0x20 then pwReset v s
  else if p = 0x146 ∧ 0x100 ≤ o ∧ o < 0x280 then
    -- the staging headers are RW, those of the slots RO (R163)
    (s.wr Reg.OPAL_HDR_TEMP v 4 ((o - 0x100) / 4)).wr Reg.OPAL_HDR_VALID (bitsOf v 16 1) 4 ((o - 0x100) / 4)
  else s.hostWord p o v

/-- Pages 0x200 to 0x203: Beryl ports. -/
def State.berylWrite (agent k o v : Nat) (s : State) : State :=
  if o = 0x94 then berylReopen k v (berylSnap k v (berylRecalCmd k v s))
  else if o = 0x98 then berylSpiGo k v (s.hostWord (0x200 + k) o v)
  else if 0x800 ≤ o then windowAccess agent (some k) ((o - 0x800) / 4) 0 4 (some v) s
  else s.hostWord (0x200 + k) o v

/-- Pages 0x220 and 0x221: auxiliary converters. -/
def State.auxiliaryWrite (p o v : Nat) (s : State) : State :=
  if p = 0x220 then
    match Reg.BVC_CTL_MODE.indexAt o with
    | some ij => s.bvcCtl ij.1 v
    | none => s.hostWord p o v
  else if p = 0x221 then
    match Reg.AUXC_CTL_EN.indexAt o with
    | some ij => s.auxCtl ij.1 v
    | none => s.hostWord p o v
  else s.hostWord p o v

/-- Page 0x240: the precision front end. -/
def State.pfeWrite (o v : Nat) (s : State) : State :=
  if o = 0x24 then pfeGo v s
  else
    match Reg.AO_HOST.indexAt o with
    | some ij => s.aoHost ij.1 v
    | none => s.hostWord 0x240 o v

/-- MOT_CMD of axis `a`: the commands that the write sets, in bit order. -/
def State.motCmdWrite (agent a v : Nat) (s : State) : State :=
  let s := (s.when (v.testBit 0) (motStop a)).when (v.testBit 1) (motResume a)
  let s := (s.when (v.testBit 2) (motHome a)).when (v.testBit 3) (motClear agent a)
  (s.when (v.testBit 4) (motZero a)).when (v.testBit 5) (motAbort a)

/-- Pages 0x260 to 0x267: axes. -/
def State.axisWrite (agent a o v : Nat) (s : State) : State :=
  let w := fun (s : State) => s.hostWord (0x260 + a) o v
  if o = 0x20 then motCtlWrite a v s
  else if o = Reg.MOT_TARGET_HI_VALUE.offset then motTargetHiWrite a v s
  else if o = 0x6C then s.motCmdWrite agent a v
  else if [Reg.MOT_VMAX_VALUE, Reg.MOT_AMAX_VALUE, Reg.MOT_JMAX_VALUE, Reg.MOT_STOP_A_VALUE,
      Reg.MOT_STOP_J_VALUE].any (·.offset == o) then (w s).axisLimits a
  else w s

/-- LEASE_CMD (R352). -/
def State.leaseCmdWrite (v : Nat) (s : State) : State :=
  if bitsOf v 12 2 = 0 then leaseGrant (bitsOf v 0 7) (bitsOf v 8 4) (bitsOf v 16 16) s
  else if bitsOf v 12 2 = 1 then leaseRevoke (bitsOf v 0 7) s
  else s

/-- QADM_CMD of tenant `t` (R359). -/
def State.qadmCmdWrite (x : Outside) (t v : Nat) (s : State) : State :=
  let l := bitsOf v 0 14
  match bitsOf v 16 3 with
  | 0 => queueEnable t l x.ctx x.cqType.val s
  | 1 => queueDisable t l x.ctx s
  | 2 => queuePause t l x.ctx s
  | 3 => queueResume t l x.ctx s
  | 4 => queueReset t l x.ctx s
  | 5 => queueSync t l x.ctx s
  | _ => s.qadmBegin t l (·.qadmEnd t 2)

/-- Pages 0x400 + 64t: tenant `t`'s registers. -/
def State.tenantWrite (x : Outside) (p o v : Nat) (s : State) : State :=
  let t := (p - 0x400) / 64
  if p % 64 ≠ 0 then s.hostWord p o v
  else if o = 0x24 ∨ o = 0x28 then tenCtxBaseWrite t (o == 0x28) v s
  else if o = 0x2C then s.qadmCmdWrite x t v
  else if o = 0x34 then s.when (v.testBit 0) (leaseRenew t)
  else s.hostWord p o v

/-- DMA_CMD of channel `c` (R397). -/
def State.dmaCmdWrite (agent c v : Nat) (s : State) : State :=
  ((s.when (v.testBit 0) (dmaClear agent c)).when (v.testBit 1) (dmaAbort c)).when (v.testBit 2) (reqClear c)

/-- Pages 0x840 to 0x850: interrupt controllers. -/
def State.icWrite (c o v : Nat) (s : State) : State :=
  if o = 0x28 then icCompleteWrite c (bitsOf v 0 10) s
  else if o = 0x2C then icSetWrite c (bitsOf v 0 10) s
  else if o = 0x30 then icClearWrite c (bitsOf v 0 10) s
  else s.icRegister (0x840 + c) o v

/-- A write of a mailbox word: it becomes visible to other agents within 2.0 µs, in the agent's order (R460). -/
def State.mailboxStore (agent p o v : Nat) (s : State) : State :=
  let r := s.take 32
  let last := (s.mgmt.stores.filter fun w => w.agent == agent).foldl (fun m w => max m w.due) 0
  let w : MailboxStore := { agent := agent, due := max last (s.tb.ns + r.2 % 2001), page := p, offset := o, be := 15, value := v }
  { r.1 with mgmt := { r.1.mgmt with stores := r.1.mgmt.stores ++ [w] } }

/-- Offset `o` of a mailbox page holds a flag word or a request word. -/
def isMailboxWord (o : Nat) : Bool := decide (0x40 ≤ o ∧ o < 0x60) || decide (0x100 ≤ o ∧ o < 0x200)

/-- Pages 0x900 to 0x90F: mailboxes, and management's registers. -/
def State.mgmtWrite (agent p o v : Nat) (s : State) : State :=
  let t := p - 0x900
  if o = 0x20 then mailboxGo agent t v s
  else if o = 0x28 then mbxM2hAck t v s
  else if isMailboxWord o then
    if 0x100 ≤ o && s.rd Reg.MBX_STATUS_STATE t != 0 then s.raise Ev.MBX_MBX_REFUSED t else s.mailboxStore agent p o v
  else if p = 0x900 ∧ o = 0x420 then logSelWrite v s
  else if p = 0x900 ∧ o = 0x424 then
    let src := s.rd Reg.LOG_SRC_SRC
    let s := s.hostWord p o v
    if s.rd Reg.LOG_SRC_SRC = src then s else s.selectLog (s.rd Reg.LOG_SEL_SEQ)
  else if p = 0x900 ∧ o = 0x600 then s.updCommand (bitsOf v 0 3) false
  else if p = 0x900 ∧ o = 0x608 then updDataWrite v s
  else s.hostWord p o v

/-- Pages 0x920 to 0x922: the service ports. -/
def State.portWrite (x : Outside) (p o v : Nat) (s : State) : State :=
  if p = 0x920 ∧ o = 0x20 then usbCtlWrite v x.usbCut s
  else if p = 0x921 ∧ o = 0x20 then twtCtlWrite v s
  else if p = 0x921 ∧ o = 0x2C then s.alertClear (v % 65536)
  else if p = 0x921 ∧ o = 0x3C then twtHostAlert v s
  else if p = 0x922 ∧ o = 0x20 then twcCtlWrite v s
  else if p = 0x922 ∧ o = 0x24 then twcXferGo v x.bus s
  else if p = 0x922 ∧ o = 0x2C then twcRecover v x.bus s
  else s.hostWord p o v

/-- A write that takes effect at a register of a block (R6, R8). -/
def State.blockWrite (x : Outside) (agent p o v : Nat) (s : State) : State :=
  if p = 0 then s.deviceWrite agent o v
  else if p < 4 then s.grantPageWrite p o v
  else if p = 0x05 ∧ o = 0x20 then commitMulti v s
  else if p = 0x10 ∨ p = 0x11 then s.timeWrite agent p o v
  else if p = 0x28 ∨ p = 0x29 then s.faultWrite agent p o v
  else if 0x40 ≤ p ∧ p < 0x4C ∧ o = 0x74 then pawnDataHiWrite (p - 0x40) v s
  else if 0x80 ≤ p ∧ p ≤ 0xE0 then s.converterWrite p o v
  else if 0x100 ≤ p ∧ p < 0x110 then s.castWrite p o v
  else if 0x140 ≤ p ∧ p < 0x150 then s.opalWrite agent p o v
  else if p = 0x180 ∧ o = 0x34 then regReacq v s
  else if 0x200 ≤ p ∧ p < 0x204 then s.berylWrite agent (p - 0x200) o v
  else if p = 0x220 ∨ p = 0x221 then s.auxiliaryWrite p o v
  else if p = 0x240 then s.pfeWrite o v
  else if 0x260 ≤ p ∧ p < 0x268 then s.axisWrite agent (p - 0x260) o v
  else if p = 0x268 ∧ o = 0x20 then motServoWrite v s
  else if p = 0x300 ∧ o = 0x30 then tenReset (v % 65536) s
  else if p = 0x301 ∧ o = 0x20 then s.leaseCmdWrite v
  else if 0x400 ≤ p ∧ p < 0x800 then s.tenantWrite x p o v
  else if 0x800 ≤ p ∧ p < 0x840 ∧ o = 0x24 then s.dmaCmdWrite agent (p - 0x800) v
  else if 0x840 ≤ p ∧ p ≤ 0x850 then s.icWrite (p - 0x840) o v
  else if 0x900 ≤ p ∧ p < 0x910 then s.mgmtWrite agent p o v
  else if 0x920 ≤ p ∧ p < 0x930 then s.portWrite x p o v
  else if p = 0x940 ∧ o = 0x20 then s.ikCtlWrite v
  else if p = 0x940 ∧ o = 0x3C then ikClear v s
  else s.hostWord p o v

/-! ## The access path of a write -/

/-- A write to the common header of page `p` (R550); a reserved page has none (R8, R566). -/
def State.headerWrite (agent p o v : Nat) (s : State) : State :=
  if !pageDefined p then s
  else if o = 0x0C then pageDiscard p v s
  else if o = 0x10 then pageEventClear p v s
  else if o = 0x14 then
    let t := s.wr Reg.PAGE_MASK v p
    if t.signals p = s.signals p then t else t.pageSource p
  else if o = 0x18 then commitRequest agent p v s
  else s

/-- The agent sees page `p`: tenant 0, management and the USB agent every page (in recovery pages 0x0000 and 0x0900
only, R472), a virtual function the pages of its slots (R552). -/
def State.sees (s : State) (agent p : Nat) : Bool :=
  if s.mgmt.recovery && agent != 16 then actsAs agent == 0 && (p == 0 || p == 0x900)
  else actsAs agent == 0 || (s.slotOf agent p).isSome

/-- The agent's writes to page `p` are discarded by a read-only grant (R554). -/
def State.readOnly (s : State) (agent p : Nat) : Bool :=
  actsAs agent != 0 && ((s.slotOf agent p).map (·.2)).getD false

/-- A write that R354 or R485 has recorded. -/
def State.writeLogged (s : State) (agent p : Nat) : Bool :=
  s.pageShared p || agent == 17 ||
    (agent == 0 && ((List.range 16).drop 1).any fun t => (s.slotOf t p).isSome)

/-- A 32-bit write of `v` by an agent at page `p`, offset `o`; `mask` is that of a REG_WRITE descriptor (R6, R354,
R427).  The events that logging a write of PAGE_EVENT raises are set at that moment: they stay set (R7). -/
def State.hostWrite (s : State) (x : Outside) (agent p o v : Nat) (mask : Nat := 0xFFFFFFFF) : State :=
  if !s.sees agent p then s
  else if s.readOnly agent p then s.log { kind := 0x02, tenant := agent, page := p, offset := o, be := 15, value := v }
  else if 0x20 ≤ o && s.domain (domainOfPage p) != 2 then
    s.log { kind := 0x05, tenant := agent, page := p, offset := o, be := 15, value := v }
  else
    let told := fun (t : State) => t.when (s.writeLogged agent p)
      (·.log { kind := 0x01, tenant := agent, page := p, offset := o, be := 15, value := v, arg1 := mask })
    if o = 0x10 then told (s.headerWrite agent p o v)
    else if o < 0x20 then (told s).headerWrite agent p o v
    else (told s).blockWrite x agent p o v

/-- A write access of `width` bytes (R9). -/
def State.writeAccess (s : State) (x : Outside) (agent p o width v : Nat) : State :=
  if width = 4 ∧ o % 4 = 0 then s.hostWrite x agent p o (v % 2 ^ 32)
  else if width = 8 ∧ o % 4 = 0 then
    let t := s.hostWrite x agent p o (v % 2 ^ 32)
    if o + 4 < 4096 then t.hostWrite x agent p (o + 4) (v / 2 ^ 32 % 2 ^ 32)
    else t.hostWrite x agent (p + 1) 0 (v / 2 ^ 32 % 2 ^ 32)
  else s.discardAccess agent p o width v false

/-! ## Reads -/

/-- A read whose row gives it an effect: the row's command, as a 32-bit read. -/
def readCommand (x : Outside) (agent p o : Nat) : Option (State → State) :=
  let word := (o - 0x800) / 4
  if p = 0x10 ∧ o = 0x24 then some (timeLoRead agent 0 4)
  else if p = 0x22 ∧ o = 0x28 then some (thinFromLoRead agent 0 4)
  else if p = 0x54 ∧ o = 0x34 then some (ltLineLoRead agent 0 4)
  else if p = 0x54 ∧ o = 0x3C then some (ltPosFracRead agent 0 4)
  else if p = 0x05 ∧ 0x104 ≤ o ∧ o < 0x204 ∧ o % 16 = 4 then some (groupLineLoRead agent ((o - 0x104) / 16) 0 4)
  else if 0x40 ≤ p ∧ p < 0x4C ∧ o = 0x70 then some (pawnDataLoRead agent (p - 0x40) 0 4)
  else if 0x40 ≤ p ∧ p < 0x4C ∧ o = 0x74 then some (pawnDataHiRead agent (p - 0x40) 0 4)
  else if p = 0x100 ∧ o = 0x3C then some (castSwapLineLoRead agent 0 4)
  else if p = 0x141 ∧ 0x800 ≤ o then some (windowAccess agent none word 0 4 none)
  else if p = 0x160 ∧ o = 0x28 then some (refPairRead agent 0 0 4)
  else if p = 0x160 ∧ o = 0x60 then some (refPairRead agent 1 0 4)
  else if p = 0x160 ∧ o = 0x68 then some (refPairRead agent 2 0 4)
  else if p = 0x160 ∧ o = 0x70 then some (refPairRead agent 3 0 4)
  else if p = 0x180 ∧ (o = 0x44 ∨ o = 0x4C) then some (regPairRead agent (o == 0x4C) 0 4)
  else if 0x200 ≤ p ∧ p < 0x204 ∧ 0x800 ≤ o then some (windowAccess agent (some (p - 0x200)) word 0 4 none)
  else if p = 0x220 ∧ 0x28 ≤ o ∧ o < 0xA8 ∧ o % 16 = 8 then some (bvcDataRead agent ((o - 0x28) / 16) 0 4)
  else if p = 0x240 ∧ 0x300 ≤ o ∧ o < 0x400 ∧ o % 16 = 0 then some (resValueRead agent ((o - 0x300) / 16) 0 4)
  else if 0x260 ≤ p ∧ p < 0x268 ∧ (o = 0x74 ∨ o = 0x7C) then some (motPairRead agent (p - 0x260) (o == 0x7C) 0 4)
  else if 0x400 ≤ p ∧ p < 0x800 ∧ p % 64 = 1 ∧ o = 0x24 then some (qstatARead agent ((p - 0x400) / 64) 0 4 x.ctx)
  else if 0x800 ≤ p ∧ p < 0x840 ∧ o = 0x2C then some (dmaPairRead agent (p - 0x800) 0 4)
  else if 0x840 ≤ p ∧ p ≤ 0x850 ∧ o = 0x24 then some (icClaimRead agent (p - 0x840) 0 4)
  else if 0x900 ≤ p ∧ p < 0x910 ∧ o = 0x2C then some (mbxFenceRead agent (p - 0x900) 0 4)
  else if p = 0x900 ∧ 0x440 ≤ o ∧ o < 0x460 then some (logDataRead agent ((o - 0x440) / 4) 0 4)
  else if p = 0x940 ∧ o = 0x40 then some (ikCommitLineLoRead agent 0 4)
  else none

/-- A word that a read of an earlier word of its pair or group captured for the agent (R48, R379). -/
def isCaptured (p o : Nat) : Bool :=
  p == 0x10 && o == 0x28 || p == 0x22 && o == 0x2C || p == 0x54 && (o == 0x38 || o == 0x40) ||
  p == 0x05 && decide (0x108 ≤ o ∧ o < 0x208 ∧ o % 16 = 8) || p == 0x100 && o == 0x40 ||
  p == 0x160 && (o == 0x2C || o == 0x64 || o == 0x6C || o == 0x74) || p == 0x180 && (o == 0x48 || o == 0x50) ||
  p == 0x240 && decide (0x300 ≤ o ∧ o < 0x400 ∧ o % 16 ≠ 0) ||
  decide (0x260 ≤ p ∧ p < 0x268) && (o == 0x78 || o == 0x80) ||
  decide (0x400 ≤ p ∧ p < 0x800 ∧ p % 64 = 1 ∧ 0x28 ≤ o ∧ o ≤ 0x34) ||
  decide (0x800 ≤ p ∧ p < 0x840) && o == 0x30 || p == 0x940 && o == 0x44

/-- A row's read whose answer goes to the agent by another path than a host read. -/
def State.through (s : State) (f : State → State) : State × Nat :=
  let t := f s
  match t.out with
  | .readData _ _ _ v :: rest => ({ t with out := rest }, v)
  | _ => (t, 0)

/-- A 32-bit read by an agent at page `p`, offset `o`, with its side effects (R6, R8, R48, R427, R552). -/
def State.hostRead (s : State) (x : Outside) (agent p o : Nat) : State × Nat :=
  if !s.sees agent p then (s, 0)
  else if !pageDefined p then (s, 0)
  else if o < 0x20 then (s, s.headerWord p o)
  else if s.domain (domainOfPage p) != 2 then
    (s.log { kind := 0x05, tenant := agent, page := p, offset := o, arg1 := 1 }, 0)
  else if p = 0x900 ∧ 0x410 ≤ o ∧ o < 0x420 then s.take 32
  else
    match readCommand x agent p o with
    | some f => s.through f
    | none =>
      if isCaptured p o then (s, s.captured agent p o)
      else if 0x900 ≤ p ∧ p < 0x910 ∧ isMailboxWord o then (s, s.mailboxWord agent p o)
      else (s, s.blockWord p o)

/-- A read access of `width` bytes (R9). -/
def State.readRegister (s : State) (x : Outside) (agent p o width : Nat) : State :=
  match readWords (o / 4 * 4) (o % 4) width with
  | none => s.discardAccess agent p o width 0 true
  | some [w] =>
    let r := s.hostRead x agent p w
    r.1.emit (.readData agent p o (subBytes r.2 (o % 4) width))
  | some _ =>
    let r := s.hostRead x agent p o
    let t := r.1.emit (.readData agent p o r.2)
    let q := if o + 4 < 4096 then t.hostRead x agent p (o + 4) else t.hostRead x agent (p + 1) 0
    q.1.emit (.readData agent p (o + 4) q.2)

/-- REGISTER_WRITE: a write, or a read of a register. -/
def registerAccess (agent p o width : Nat) (v : Option Nat) (x : Outside) (s : State) : State :=
  match v with
  | some v => s.writeAccess x agent p o width v
  | none => s.readRegister x agent p o width

def execRegisterWrite (agent : Agent) (p : Fin 8192) (o : Fin 4096) (width : Nat) (v : Option (BitVec 64)) (x : Outside)
    (s : State) : Host.Outcome State Fault Refusal :=
  .next (s.powered fun s => registerAccess agent p o width (v.map (·.toNat)) x s)

/-! ## REG_WRITE (R364) -/

/-- The present value of the bits at page `p`, offset `o` that a masked write leaves as they are. -/
def State.presentWord (s : State) (agent p o : Nat) : Nat :=
  if o = 0x14 then s.rd Reg.PAGE_MASK p
  else if o = 0x18 then s.rd Reg.PAGE_COMMIT_GROUP p
  else if o < 0x20 then 0
  else if p = 0x141 ∧ 0x800 ≤ o then
    let b := s.xferByte ((o - 0x800) / 4)
    if imageSize (s.rd Reg.XFER_IMAGE_IMAGE) ≤ b then 0
    else s.imageWord (s.opal.roles.getD (s.rd Reg.XFER_IMAGE_IMAGE) 0) b
  else if 0x200 ≤ p ∧ p < 0x204 ∧ 0x800 ≤ o then
    let k := p - 0x200
    let b := s.brXferByte k ((o - 0x800) / 4)
    if s.brImageSize k (s.rd Reg.BR_XFER_IMAGE_IMAGE k) ≤ b then 0
    else s.brImageWord k (s.rd Reg.BR_XFER_IMAGE_IMAGE k) b
  else if 0x840 ≤ p ∧ p ≤ 0x850 then s.icWord p o
  else if 0x900 ≤ p ∧ p < 0x910 ∧ isMailboxWord o then s.mailboxWord agent p o
  else
    (fieldsAt p o).foldl (fun w f =>
      if f.1.access = .rw ∨ f.1.access = .sh then w + s.seen f.1 f.2.1 f.2.2.1 f.2.2.2 <<< f.1.lo else w) 0

/-- The word that a masked write stores. -/
def State.maskedWord (s : State) (agent p o v mask : Nat) : Nat :=
  (s.presentWord agent p o &&& (0xFFFFFFFF - mask)) ||| (v &&& mask)

/-- The REG_WRITE descriptor at the head of a queue is checked and performed. -/
def State.regWriteTake (s : State) (x : Outside) (q : Nat) (w : List Nat) : State :=
  let t := tenantOf q
  let p := bitsOf (wordAt w 0x18) 0 13
  let o := bitsOf (wordAt w 0x1C) 0 12
  let mask := wordAt w 0x24
  if bitsOf (wordAt w 0x18) 13 19 ≠ 0 ∨ bitsOf (wordAt w 0x1C) 12 20 ≠ 0 ∨
      [0x28, 0x2C, 0x30, 0x34, 0x38, 0x3C].any (fun o => wordAt w o != 0) then s.finishHead q w 0x02 0 1
  else if o % 4 ≠ 0 then s.finishHead q w 0x02 0 2
  else if !s.sees t p || s.readOnly t p then s.finishHead q w 0x06 0 0
  else (s.hostWrite x t p o (s.maskedWord t p o (wordAt w 0x20) mask) mask).finishHead q w 0 0 0

/-- REG_WRITE: the descriptor at the head of the queue. -/
def regWrite (q : Nat) (x : Outside) (s : State) : State :=
  match s.queue q with
  | none => s
  | some y =>
    match y.head with
    | none => s
    | some w => if y.state = 1 ∧ y.type = 0 ∧ bitsOf (wordAt w 0) 0 8 = 3 then s.regWriteTake x q w else s

def execRegWrite (q : Fin 262144) (x : Outside) (s : State) : Host.Outcome State Fault Refusal :=
  .next (s.powered fun s => regWrite q.val x s)

/-! ## The USB agent's accesses (R485) -/

/-- USB_REG_READ: a register is read as tenant 0 reads it, with the USB agent's captures. -/
def usbRegRead (p o wLength : Nat) (x : Outside) (s : State) : State :=
  s.vendor (wLength == 4 && s.on Reg.USB_CTL_RD_EN && !(decide (0x840 ≤ p ∧ p ≤ 0x850))) fun s =>
    if 8192 ≤ p ∨ 4096 ≤ o then s.usbData (leBytes 4 0) 4
    else if o % 4 ≠ 0 then
      (s.log { kind := 0x02, tenant := 17, page := p, offset := o, arg1 := 4, arg2 := 1 }).usbData (leBytes 4 0) 4
    else
      let r := s.hostRead x 17 p o
      r.1.usbData (leBytes 4 r.2) 4

def execUsbRegRead (p o wLength : Fin 65536) (x : Outside) (s : State) : Host.Outcome State Fault Refusal :=
  .next (s.powered fun s => usbRegRead p.val o.val wLength.val x s)

/-- Pages that the USB agent does not write. -/
def usbNoWrite (p : Nat) : Bool := decide (p ≤ 7) || p == 0x300 || p == 0x301 || p == 0x920

/-- USB_REG_WRITE: a register is written as tenant 0 writes it, and the write logged with TENANT 17. -/
def usbRegWrite (p o wLength v : Nat) (x : Outside) (s : State) : State :=
  s.vendor (wLength == 4 && s.on Reg.USB_CTL_WR_EN && !usbNoWrite p && o % 4 == 0) fun s =>
    if 8192 ≤ p ∨ 4096 ≤ o then s else s.hostWrite x 17 p o v

def execUsbRegWrite (p o wLength : Fin 65536) (v : Word) (x : Outside) (s : State) : Host.Outcome State Fault Refusal :=
  .next (s.powered fun s => usbRegWrite p.val o.val wLength.val v.toNat x s)

end Sys2Proof.Machine
end

