-- ==== Sys2Proof/Machine/DmaFlow.lean ====
section
/-!
DEFINITION. The data flow of the DMA engine (R385 to R390, R393, R445): bursts and their grants, the reads that return,
the swaps, and the writes to host memory, the device window and the reference window.
-/

namespace Sys2Proof.Machine

/-! ## Bursts (R389) -/

/-- Element `k + 1` follows element `k` without a gap on both sides. -/
def Xfer.continues (x : Xfer) (k : Nat) : Bool :=
  decide (k + 1 < x.total) && x.source (k + 1) == x.source k + x.esize &&
    (x.payload || x.target (k + 1) == x.target k + x.esize)

/-- The last element of the contiguous run that holds element `k`, looking at most `n` elements ahead. -/
def Xfer.runEnd (x : Xfer) : Nat → Nat → Nat
  | 0, k => k
  | n + 1, k => if x.continues k then x.runEnd n (k + 1) else k

/-- Bytes of the transfer's next burst under a limit: it ends where the elements cease to be contiguous, at a 4 KiB
boundary of either side, or at the limit; with overlapping ranges it keeps to one element (R389, R395). -/
def Xfer.nextBurst (x : Xfer) (limit : Nat) : Nat :=
  let k := x.granted / x.esize
  let run := ((if x.serial then k else x.runEnd limit k) + 1) * x.esize - x.granted
  let left := 4096 - x.sourceByte x.granted % 4096
  let right := if x.payload then limit else 4096 - x.targetByte x.granted % 4096
  min (min run limit) (min left right)

/-- The burst limit of channel `c` in bytes. -/
def State.burstLimit (s : State) (c : Nat) : Nat := 2 ^ (6 + s.rd Reg.DMA_CTL_BURST c)

/-- The bursts of channel `c` are paced (R390). -/
def State.paced (s : State) (c : Nat) (x : Xfer) : Bool := s.on Reg.DMA_CTL_REQ_EN c && !x.payload

/-- The resources that a transfer's bursts use: 0 HOST_IN, 1 HOST_OUT, 2 PIXEL (R442). -/
def Xfer.resources (x : Xfer) : List Nat :=
  (if x.src.testBit 63 then [] else [0]) ++ (if x.toHost then [1] else []) ++
    (if x.payload || x.src.testBit 63 || x.dst.testBit 63 then [2] else [])

/-- A transfer has a burst ready: it is running, has elements left, fewer than eight bursts in flight, the request that
pacing asks for, and its tenant is not stopped by level 3 (R389, R390, R395, R446). -/
def State.burstReady (s : State) (c : Nat) (x : Xfer) : Bool :=
  x.stop.isNone && decide (x.granted < x.size) && decide (x.bursts.length < 8) && (!x.serial || x.bursts.isEmpty) &&
    (!s.paced c x || s.on Reg.DMA_STATUS_REQ_PEND c) &&
    !s.levelStops (tenantOf x.queue) x.resources

/-! ## Guarantees (R445) -/

/-- What is missing in the bucket of tenant `t` and resource `r` now, in thousandths of a byte. -/
def State.bucketMissing (s : State) (t r : Nat) : Nat :=
  sget s.dma.used (4 * t + r) - s.guarantee t r * (s.tb.ns - sget s.dma.refilled (4 * t + r))

/-- The guarantee of tenant `t` covers `n` bytes of resource `r`. -/
def State.covers (s : State) (t n r : Nat) : Bool :=
  decide (0 < s.guarantee t r ∧ s.bucketMissing t r + 1000 * n ≤ 65536000)

/-- The next burst of a transfer is within guarantee. -/
def State.within (s : State) (c : Nat) (x : Xfer) : Bool :=
  x.resources.all (s.covers (tenantOf x.queue) (x.nextBurst (s.burstLimit c)))

/-- The bytes of a burst within guarantee are taken from the buckets. -/
def State.spend (s : State) (t n : Nat) (rs : List Nat) : State :=
  s.each rs fun s r =>
    let m := s.bucketMissing t r + 1000 * n
    { s with dma := { s.dma with used := sput s.dma.used (4 * t + r) m, refilled := sput s.dma.refilled (4 * t + r) s.tb.ns } }

/-! ## Grants -/

/-- The channels with a burst ready: number, transfer, within guarantee. -/
def State.readyBursts (s : State) : List (Nat × Xfer × Bool) :=
  (List.range 64).filterMap fun c =>
    (s.channel c).current.bind fun x => if s.burstReady c x then some (c, x, s.within c x) else none

/-- How far channel `c` stands behind the channel granted last at its priority. -/
def State.turn (s : State) (c : Nat) : Nat := (c + 63 - sget s.dma.last (s.rd Reg.DMA_CTL_PRIO c) 63) % 64

/-- The burst at `a` is granted before the one at `b`: within guarantee first, then by priority, then in turn. -/
def State.grantsFirst (s : State) (a b : Nat × Xfer × Bool) : Bool :=
  if a.2.2 != b.2.2 then a.2.2
  else if s.rd Reg.DMA_CTL_PRIO a.1 != s.rd Reg.DMA_CTL_PRIO b.1 then
    decide (s.rd Reg.DMA_CTL_PRIO b.1 < s.rd Reg.DMA_CTL_PRIO a.1)
  else decide (s.turn a.1 < s.turn b.1)

/-- The burst that the arbiter grants next. -/
def State.arbiter (s : State) : Option (Nat × Xfer × Bool) :=
  s.readyBursts.foldl (fun b a =>
    match b with
    | none => some a
    | some y => if s.grantsFirst a y then some a else some y) none

/-! ## Writes -/

/-- Neighbours exchanged. -/
def swapPairs : List Nat → List Nat
  | a :: b :: l => b :: a :: swapPairs l
  | l => l

/-- The two half-words of every word exchanged. -/
def swapHalves : List Nat → List Nat
  | a :: b :: c :: d :: l => c :: d :: a :: b :: swapHalves l
  | l => l

/-- An element's bytes between its read and its write (R386). -/
def Xfer.swapped (x : Xfer) (b : List Nat) : List Nat :=
  let h := if x.swapH then
      if x.esize = 6 then b.drop 4 ++ (b.drop 2).take 2 ++ b.take 2 else if 4 ≤ x.esize then swapHalves b else b
    else b
  if x.swapB then swapPairs h else h

/-- Whole elements, each with its swaps. -/
def Xfer.swapAll (x : Xfer) (b : List Nat) : List Nat :=
  (List.range (b.length / x.esize)).flatMap fun i => x.swapped ((b.drop (i * x.esize)).take x.esize)

/-- Bytes written to the device window by a tenant, as 32-bit words (R387). -/
def State.windowWrite (s : State) (x : Outside) (t address : Nat) (b : List Nat) : State :=
  s.each (bytesToWords b).zipIdx fun s w =>
    s.hostWrite x t ((address + 4 * w.2) / 4096 % 8192) ((address + 4 * w.2) % 4096) w.1

/-- `n` words of the device window read by a tenant, as bytes (R387). -/
def State.windowRead (s : State) (x : Outside) (t address n : Nat) : State × List Nat :=
  (List.range n).foldl (fun (r : State × List Nat) i =>
    let y := r.1.hostRead x t ((address + 4 * i) / 4096 % 8192) ((address + 4 * i) % 4096)
    (y.1, r.2 ++ leBytes 4 y.2)) (s, [])

/-- The writes of the elements that are whole now that bytes `b` have come: each element is written whole (R385 to R387,
R393). -/
def State.writeBytes (s : State) (o : Outside) (c : Nat) (x : Xfer) (b : List Nat) : State :=
  if x.payload then s.onXfer c fun y => { y with data := y.data ++ b, issued := (y.data.length + b.length) / y.esize }
  else
    let all := x.carry ++ b
    let n := all.length / x.esize
    let d := x.swapAll all
    let a := x.target x.issued
    let s := s.onXfer c fun y => { y with carry := all.drop (n * x.esize), issued := y.issued + n }
    let s := s.inc Reg.DMA_BYTES_COUNT c 0 d.length
    if n = 0 then s
    else if x.dst.testBit 63 then s.windowWrite o (tenantOf x.queue) a d
    else (s.emit (.hostWrite (tenantOf x.queue) a d)).when x.native (·.onXfer c fun y => { y with writes := y.writes ++ [(a, d)] })

/-- Bursts whose data has returned are written in order from the oldest. -/
def State.drainBursts (o : Outside) : Nat → State → Nat → State
  | 0, s, _ => s
  | n + 1, s, c =>
    match (s.channel c).current with
    | none => s
    | some x =>
      match x.bursts with
      | [] => s
      | u :: rest =>
        match u.data with
        | none => s
        | some b =>
          ((s.onXfer c fun y => { y with bursts := rest }).writeBytes o c x b).drainBursts o n c

/-- The trailing read of native completion follows the last write (R393); a transfer that is stopping ends. -/
def State.afterWrites (s : State) (c : Nat) : State :=
  match (s.channel c).current with
  | none => s
  | some x =>
    if x.stop.isSome then s.stopIfDrained c
    else if x.native && x.toHost && x.issued == x.total && !x.trailing then
      (s.onXfer c fun y => { y with trailing := true }).readTrailing x
    else s

/-- The data of burst `b` in flight has returned. -/
def State.burstData (s : State) (o : Outside) (c b : Nat) (d : List Nat) : State :=
  ((s.onXfer c fun x =>
    match x.bursts[b]? with
    | some u => { x with bursts := x.bursts.set b { u with data := some d } }
    | none => x).drainBursts o 8 c).afterWrites c

/-- The reads of a burst: from host memory they go out, from the device window they return at once. -/
def State.startBurst (s : State) (o : Outside) (c : Nat) (x : Xfer) (u : Burst) : State :=
  if x.src.testBit 63 then
    let r := s.windowRead o (tenantOf x.queue) (x.sourceByte u.first) (u.count / 4)
    r.1.burstData o c x.bursts.length r.2
  else s.readBurst x u

/-- DMA_BURST_GRANT: the arbiter grants one burst (R389, R390, R445). -/
def dmaBurstGrant (o : Outside) (s : State) : State :=
  match s.arbiter with
  | none => s
  | some (c, x, within) =>
    let n := x.nextBurst (s.burstLimit c)
    let u : Burst := { first := x.granted, count := n }
    let s := s.when within (·.spend (tenantOf x.queue) n x.resources)
    let s := s.when (s.paced c x) fun s => s.wr Reg.DMA_STATUS_REQ_PEND (s.rd Reg.DMA_STATUS_REQ_PEND c - 1) c
    let s := { s with dma := { s.dma with last := sput s.dma.last (s.rd Reg.DMA_CTL_PRIO c) c 63 } }
    (s.onXfer c fun y => { y with granted := y.granted + n, bursts := y.bursts ++ [u] }).startBurst o c x u

def execDmaBurstGrant (o : Outside) (s : State) : Host.Outcome State Fault Refusal :=
  .next (s.powered fun s => dmaBurstGrant o s)

/-- DMA_READ_COMPLETION: the read of burst `b` in flight, oldest first, returns with its bytes, or the read returns (R388, R393). -/
def dmaReadCompletion (c b : Nat) (d : List Nat) (o : Outside) (s : State) : State :=
  match (s.channel c).current with
  | none => s
  | some x =>
    if x.trailing then
      if x.trailFailed then s else (s.onXfer c fun y => { y with trailed := true }).when x.stop.isSome (·.stopIfDrained c)
    else
      match x.bursts[b]? with
      | some u => if u.failed || u.data.isSome || d.length != u.count then s else s.burstData o c b d
      | none => s

def execDmaReadCompletion (c : Fin 64) (b : Fin 8) (d : List Byte) (o : Outside) (s : State) :
    Host.Outcome State Fault Refusal := .next (s.powered fun s => dmaReadCompletion c.val b.val (d.map (·.toNat)) o s)

end Sys2Proof.Machine
end

