-- ==== Sys2Proof/Machine/Dispatch.lean ====
section
/-!
DEFINITION. The dispatch: one arm for each command, each a direct call of its meaning.
-/

namespace Sys2Proof.Machine

def exec (i : Instr) (s : State) : Host.Outcome State Fault Refusal :=
  match i with
  | .registerWrite agent p o width v x => Sys2Proof.Machine.execRegisterWrite agent p o width v x s
  | .pageEventClear p v => Sys2Proof.Machine.execPageEventClear p v s
  | .pageDiscard p v => Sys2Proof.Machine.execPageDiscard p v s
  | .devModeWrite agent v => Sys2Proof.Machine.execDevModeWrite agent v s
  | .paceWindowEnd tokens => Sys2Proof.Machine.execPaceWindowEnd tokens s
  | .avsEvaluation  => Sys2Proof.Machine.execAvsEvaluation s
  | .avsReadback error mv => Sys2Proof.Machine.execAvsReadback error mv s
  | .avsCtlWrite v => Sys2Proof.Machine.execAvsCtlWrite v s
  | .timeLoRead agent sub width => Sys2Proof.Machine.execTimeLoRead agent sub width s
  | .tbStep agent hi => Sys2Proof.Machine.execTbStep agent hi s
  | .refclkLoss  => Sys2Proof.Machine.execRefclkLoss s
  | .synthRelock  => Sys2Proof.Machine.execSynthRelock s
  | .converterWord c red green blue => Sys2Proof.Machine.execConverterWord c red green blue s
  | .lineTrigger  => Sys2Proof.Machine.execLineTrigger s
  | .triggerPrediction  => Sys2Proof.Machine.execTriggerPrediction s
  | .encoderCount n a b => Sys2Proof.Machine.execEncoderCount n a b s
  | .encoderIndex z => Sys2Proof.Machine.execEncoderIndex z s
  | .ltLineLoRead agent sub width => Sys2Proof.Machine.execLtLineLoRead agent sub width s
  | .ltPosFracRead agent sub width => Sys2Proof.Machine.execLtPosFracRead agent sub width s
  | .lineStart  => Sys2Proof.Machine.execLineStart s
  | .minLinePeriodEnd g => Sys2Proof.Machine.execMinLinePeriodEnd g s
  | .flushLine g => Sys2Proof.Machine.execFlushLine g s
  | .ledStrobe g n => Sys2Proof.Machine.execLedStrobe g n s
  | .pawnOut g => Sys2Proof.Machine.execPawnOut g s
  | .pawnNop g => Sys2Proof.Machine.execPawnNop g s
  | .pawnLdc g => Sys2Proof.Machine.execPawnLdc g s
  | .pawnDjnz g => Sys2Proof.Machine.execPawnDjnz g s
  | .pawnJmp g => Sys2Proof.Machine.execPawnJmp g s
  | .pawnJc g => Sys2Proof.Machine.execPawnJc g s
  | .pawnStw g => Sys2Proof.Machine.execPawnStw g s
  | .pawnEnd g => Sys2Proof.Machine.execPawnEnd g s
  | .pawnLineTimeout g => Sys2Proof.Machine.execPawnLineTimeout g s
  | .pawnDataHiWrite g v => Sys2Proof.Machine.execPawnDataHiWrite g v s
  | .pawnDataLoRead agent g sub width => Sys2Proof.Machine.execPawnDataLoRead agent g sub width s
  | .pawnDataHiRead agent g sub width => Sys2Proof.Machine.execPawnDataHiRead agent g sub width s
  | .diagEntryDone c xs => Sys2Proof.Machine.execDiagEntryDone c xs s
  | .plausCheck  => Sys2Proof.Machine.execPlausCheck s
  | .forceRequest c v => Sys2Proof.Machine.execForceRequest c v s
  | .forceDone c v ref => Sys2Proof.Machine.execForceDone c v ref s
  | .bankCalStart v => Sys2Proof.Machine.execBankCalStart v s
  | .bankCalDone results => Sys2Proof.Machine.execBankCalDone results s
  | .castReqGo v => Sys2Proof.Machine.execCastReqGo v s
  | .castReqRelease v => Sys2Proof.Machine.execCastReqRelease v s
  | .castIntervalDue c => Sys2Proof.Machine.execCastIntervalDue c s
  | .castSelect  => Sys2Proof.Machine.execCastSelect s
  | .castMatchWindowEnd  => Sys2Proof.Machine.execCastMatchWindowEnd s
  | .castOfflineCalEnd errors gains => Sys2Proof.Machine.execCastOfflineCalEnd errors gains s
  | .trimSlotWrite c j w v => Sys2Proof.Machine.execTrimSlotWrite c j w v s
  | .castSwapLineLoRead agent sub width => Sys2Proof.Machine.execCastSwapLineLoRead agent sub width s
  | .laneOutputLine k => Sys2Proof.Machine.execLaneOutputLine k s
  | .opalCapGo v => Sys2Proof.Machine.execOpalCapGo v s
  | .opalCapEnd  => Sys2Proof.Machine.execOpalCapEnd s
  | .xferWindowAccess agent port w sub width value => Sys2Proof.Machine.execXferWindowAccess agent port w sub width value s
  | .xferWriteStored  => Sys2Proof.Machine.execXferWriteStored s
  | .pwWindowEnd  => Sys2Proof.Machine.execPwWindowEnd s
  | .pwReset v => Sys2Proof.Machine.execPwReset v s
  | .refLines q => Sys2Proof.Machine.execRefLines q s
  | .refEarlyFetch q => Sys2Proof.Machine.execRefEarlyFetch q s
  | .refArrival c => Sys2Proof.Machine.execRefArrival c s
  | .refPairRead agent n sub width => Sys2Proof.Machine.execRefPairRead agent n sub width s
  | .regTileDecide c => Sys2Proof.Machine.execRegTileDecide c s
  | .rowDone  => Sys2Proof.Machine.execRowDone s
  | .regReacq v => Sys2Proof.Machine.execRegReacq v s
  | .regPairRead agent track sub width => Sys2Proof.Machine.execRegPairRead agent track sub width s
  | .labelLineDone  => Sys2Proof.Machine.execLabelLineDone s
  | .blobRecordStage  => Sys2Proof.Machine.execBlobRecordStage s
  | .verdict  => Sys2Proof.Machine.execVerdict s
  | .coverageRecordStage  => Sys2Proof.Machine.execCoverageRecordStage s
  | .covBacklogResume  => Sys2Proof.Machine.execCovBacklogResume s
  | .recordDelivery q => Sys2Proof.Machine.execRecordDelivery q s
  | .patchMeasured n => Sys2Proof.Machine.execPatchMeasured n s
  | .markMeasured n => Sys2Proof.Machine.execMarkMeasured n s
  | .previewRecord  => Sys2Proof.Machine.execPreviewRecord s
  | .cropTokenRefill  => Sys2Proof.Machine.execCropTokenRefill s
  | .cropComplete n => Sys2Proof.Machine.execCropComplete n s
  | .berylFsync p => Sys2Proof.Machine.execBerylFsync p s
  | .berylLsync p a b full => Sys2Proof.Machine.execBerylLsync p a b full s
  | .berylFrameEnd p => Sys2Proof.Machine.execBerylFrameEnd p s
  | .berylSyncTimeout p => Sys2Proof.Machine.execBerylSyncTimeout p s
  | .berylMoveTimeout p => Sys2Proof.Machine.execBerylMoveTimeout p s
  | .berylRecalCmd p v => Sys2Proof.Machine.execBerylRecalCmd p v s
  | .berylRecalInterval p => Sys2Proof.Machine.execBerylRecalInterval p s
  | .berylAccTake  => Sys2Proof.Machine.execBerylAccTake s
  | .berylReopen p v => Sys2Proof.Machine.execBerylReopen p v s
  | .berylSnap p v => Sys2Proof.Machine.execBerylSnap p v s
  | .berylSpiGo p v => Sys2Proof.Machine.execBerylSpiGo p v s
  | .spiDone p rx => Sys2Proof.Machine.execSpiDone p rx s
  | .bvcDataRead agent n sub width => Sys2Proof.Machine.execBvcDataRead agent n sub width s
  | .bvcFreeConvert n code clip => Sys2Proof.Machine.execBvcFreeConvert n code clip s
  | .pfeScanTimer  => Sys2Proof.Machine.execPfeScanTimer s
  | .pfeGo v => Sys2Proof.Machine.execPfeGo v s
  | .pfeStepEnd va vb => Sys2Proof.Machine.execPfeStepEnd va vb s
  | .pfeScanEnd  => Sys2Proof.Machine.execPfeScanEnd s
  | .aoUpdate n => Sys2Proof.Machine.execAoUpdate n s
  | .aoRefLow n => Sys2Proof.Machine.execAoRefLow n s
  | .resValueRead agent n sub width => Sys2Proof.Machine.execResValueRead agent n sub width s
  | .servoBoundary  => Sys2Proof.Machine.execServoBoundary s
  | .pwmPeriod a codes => Sys2Proof.Machine.execPwmPeriod a codes s
  | .auxIdleScan n codes => Sys2Proof.Machine.execAuxIdleScan n codes s
  | .motStandby a => Sys2Proof.Machine.execMotStandby a s
  | .motTargetHiWrite a v => Sys2Proof.Machine.execMotTargetHiWrite a v s
  | .motCtlWrite a v => Sys2Proof.Machine.execMotCtlWrite a v s
  | .motStop a => Sys2Proof.Machine.execMotStop a s
  | .motResume a => Sys2Proof.Machine.execMotResume a s
  | .motHome a => Sys2Proof.Machine.execMotHome a s
  | .motClear agent a => Sys2Proof.Machine.execMotClear agent a s
  | .motZero a => Sys2Proof.Machine.execMotZero a s
  | .motAbort a => Sys2Proof.Machine.execMotAbort a s
  | .motHomeSwitch a high => Sys2Proof.Machine.execMotHomeSwitch a high s
  | .motBridgeFault a high => Sys2Proof.Machine.execMotBridgeFault a high s
  | .motServoWrite v => Sys2Proof.Machine.execMotServoWrite v s
  | .motPairRead agent a remaining sub width => Sys2Proof.Machine.execMotPairRead agent a remaining sub width s
  | .functionLevelReset f => Sys2Proof.Machine.execFunctionLevelReset f s
  | .d3hotEntry f => Sys2Proof.Machine.execD3hotEntry f s
  | .vfEnableChange n enable => Sys2Proof.Machine.execVfEnableChange n enable s
  | .tenReset mask => Sys2Proof.Machine.execTenReset mask s
  | .hello t => Sys2Proof.Machine.execHello t s
  | .fwInfo t => Sys2Proof.Machine.execFwInfo t s
  | .logMark t => Sys2Proof.Machine.execLogMark t s
  | .leaseGrant r t ms => Sys2Proof.Machine.execLeaseGrant r t ms s
  | .leaseRevoke r => Sys2Proof.Machine.execLeaseRevoke r s
  | .leaseExpiry r => Sys2Proof.Machine.execLeaseExpiry r s
  | .leaseRenew t => Sys2Proof.Machine.execLeaseRenew t s
  | .queueEnable t q ctx cqType => Sys2Proof.Machine.execQueueEnable t q ctx cqType s
  | .queueDisable t q ctx => Sys2Proof.Machine.execQueueDisable t q ctx s
  | .queuePause t q ctx => Sys2Proof.Machine.execQueuePause t q ctx s
  | .queueResume t q ctx => Sys2Proof.Machine.execQueueResume t q ctx s
  | .queueReset t q ctx => Sys2Proof.Machine.execQueueReset t q ctx s
  | .queueSync t q ctx => Sys2Proof.Machine.execQueueSync t q ctx s
  | .doorbell t o width v => Sys2Proof.Machine.execDoorbell t o width v s
  | .descriptorFetch q words => Sys2Proof.Machine.execDescriptorFetch q words s
  | .dmaXfer q => Sys2Proof.Machine.execDmaXfer q s
  | .regWrite q x => Sys2Proof.Machine.execRegWrite q x s
  | .indexWriteback q error => Sys2Proof.Machine.execIndexWriteback q error s
  | .contextLoad q ctx cqType => Sys2Proof.Machine.execContextLoad q ctx cqType s
  | .tenCtxBaseWrite t high v => Sys2Proof.Machine.execTenCtxBaseWrite t high v s
  | .qstatARead agent t sub width ctx => Sys2Proof.Machine.execQstatARead agent t sub width ctx s
  | .linkChange speed width up => Sys2Proof.Machine.execLinkChange speed width up s
  | .linkDown hotReset => Sys2Proof.Machine.execLinkDown hotReset s
  | .poisonedRequest t => Sys2Proof.Machine.execPoisonedRequest t s
  | .leaseRevokeOnFault t => Sys2Proof.Machine.execLeaseRevokeOnFault t s
  | .dmaBurstGrant o => Sys2Proof.Machine.execDmaBurstGrant o s
  | .dmaReadCompletion c b d o => Sys2Proof.Machine.execDmaReadCompletion c b d o s
  | .dmaBusError c b => Sys2Proof.Machine.execDmaBusError c b s
  | .dmaRetry c b => Sys2Proof.Machine.execDmaRetry c b s
  | .dmaTransferComplete c => Sys2Proof.Machine.execDmaTransferComplete c s
  | .dmaClear agent c => Sys2Proof.Machine.execDmaClear agent c s
  | .dmaAbort c => Sys2Proof.Machine.execDmaAbort c s
  | .reqClear c => Sys2Proof.Machine.execReqClear c s
  | .dmaPaceRequest l => Sys2Proof.Machine.execDmaPaceRequest l s
  | .dmaTimer c => Sys2Proof.Machine.execDmaTimer c s
  | .dmaPairRead agent c sub width => Sys2Proof.Machine.execDmaPairRead agent c sub width s
  | .icEvent c src => Sys2Proof.Machine.execIcEvent c src s
  | .icCoalesceTimeout c src => Sys2Proof.Machine.execIcCoalesceTimeout c src s
  | .msixSend c => Sys2Proof.Machine.execMsixSend c s
  | .msixVectorUsable c enable functionMask vectorMask address data => Sys2Proof.Machine.execMsixVectorUsable c enable functionMask vectorMask address data s
  | .icClaim agent c sub width => Sys2Proof.Machine.execIcClaim agent c sub width s
  | .icComplete c src => Sys2Proof.Machine.execIcComplete c src s
  | .icSet c src => Sys2Proof.Machine.execIcSet c src s
  | .icClear c src => Sys2Proof.Machine.execIcClear c src s
  | .laneResetCmd v => Sys2Proof.Machine.execLaneResetCmd v s
  | .eccUncorrectable kind n => Sys2Proof.Machine.execEccUncorrectable kind n s
  | .eccCorr  => Sys2Proof.Machine.execEccCorr s
  | .devResetKey agent v => Sys2Proof.Machine.execDevResetKey agent v s
  | .perstNAssert  => Sys2Proof.Machine.execPerstNAssert s
  | .coreSupplyFault  => Sys2Proof.Machine.execCoreSupplyFault s
  | .watchdog core => Sys2Proof.Machine.execWatchdog core s
  | .domCtlWrite v => Sys2Proof.Machine.execDomCtlWrite v s
  | .domFault d => Sys2Proof.Machine.execDomFault d s
  | .domOff d => Sys2Proof.Machine.execDomOff d s
  | .drainTimeout d => Sys2Proof.Machine.execDrainTimeout d s
  | .domOn d => Sys2Proof.Machine.execDomOn d s
  | .thermalModelStep  => Sys2Proof.Machine.execThermalModelStep s
  | .capacityEvaluation  => Sys2Proof.Machine.execCapacityEvaluation s
  | .thinFromLoRead agent sub width => Sys2Proof.Machine.execThinFromLoRead agent sub width s
  | .mailboxGo agent t v => Sys2Proof.Machine.execMailboxGo agent t v s
  | .h2mTaken t => Sys2Proof.Machine.execH2mTaken t s
  | .m2hReady t => Sys2Proof.Machine.execM2hReady t s
  | .mbxM2hAck t v => Sys2Proof.Machine.execMbxM2hAck t v s
  | .mbxFenceRead agent t sub width => Sys2Proof.Machine.execMbxFenceRead agent t sub width s
  | .monitorSample xs => Sys2Proof.Machine.execMonitorSample xs s
  | .logEntry kind tenant page offset be value arg1 arg2 => Sys2Proof.Machine.execLogEntry kind tenant page offset be value arg1 arg2 s
  | .logMirrorProgram fail => Sys2Proof.Machine.execLogMirrorProgram fail s
  | .logSelWrite v => Sys2Proof.Machine.execLogSelWrite v s
  | .logDataReady  => Sys2Proof.Machine.execLogDataReady s
  | .logDataRead agent w sub width => Sys2Proof.Machine.execLogDataRead agent w sub width s
  | .boot  => Sys2Proof.Machine.execBoot s
  | .updOpen usb => Sys2Proof.Machine.execUpdOpen usb s
  | .updVerify usb => Sys2Proof.Machine.execUpdVerify usb s
  | .updVerifyDone  => Sys2Proof.Machine.execUpdVerifyDone s
  | .updActivate usb => Sys2Proof.Machine.execUpdActivate usb s
  | .updConfirm usb => Sys2Proof.Machine.execUpdConfirm usb s
  | .updCancel usb => Sys2Proof.Machine.execUpdCancel usb s
  | .updDataWrite v => Sys2Proof.Machine.execUpdDataWrite v s
  | .updFlashProgram fail => Sys2Proof.Machine.execUpdFlashProgram fail s
  | .usbVbusChange present => Sys2Proof.Machine.execUsbVbusChange present s
  | .usbBusReset hs cut => Sys2Proof.Machine.execUsbBusReset hs cut s
  | .setAddress a => Sys2Proof.Machine.execSetAddress a s
  | .setConfiguration v => Sys2Proof.Machine.execSetConfiguration v s
  | .getDescriptor kind index wLength => Sys2Proof.Machine.execGetDescriptor kind index wLength s
  | .getConfiguration wLength => Sys2Proof.Machine.execGetConfiguration wLength s
  | .getStatus recipient index wLength => Sys2Proof.Machine.execGetStatus recipient index wLength s
  | .setFeature recipient feature index => Sys2Proof.Machine.execSetFeature recipient feature index s
  | .clearFeature recipient feature index => Sys2Proof.Machine.execClearFeature recipient feature index s
  | .getInterface index wLength => Sys2Proof.Machine.execGetInterface index wLength s
  | .setInterface alt index => Sys2Proof.Machine.execSetInterface alt index s
  | .setDescriptor  => Sys2Proof.Machine.execSetDescriptor s
  | .synchFrame  => Sys2Proof.Machine.execSynchFrame s
  | .getInfo wLength => Sys2Proof.Machine.execGetInfo wLength s
  | .usbRegRead p o wLength x => Sys2Proof.Machine.execUsbRegRead p o wLength x s
  | .usbRegWrite p o wLength v x => Sys2Proof.Machine.execUsbRegWrite p o wLength v x s
  | .logStart seq mirror follow wLength => Sys2Proof.Machine.execLogStart seq mirror follow wLength s
  | .logStop wLength => Sys2Proof.Machine.execLogStop wLength s
  | .usbUpdCmd op wLength => Sys2Proof.Machine.execUsbUpdCmd op wLength s
  | .usbUpdStatus wLength => Sys2Proof.Machine.execUsbUpdStatus wLength s
  | .onyxFrame b => Sys2Proof.Machine.execOnyxFrame b s
  | .usbEvtMask mask wLength => Sys2Proof.Machine.execUsbEvtMask mask wLength s
  | .usbLogPacket  => Sys2Proof.Machine.execUsbLogPacket s
  | .usbImagePacket b => Sys2Proof.Machine.execUsbImagePacket b s
  | .usbSuspend  => Sys2Proof.Machine.execUsbSuspend s
  | .usbResume  => Sys2Proof.Machine.execUsbResume s
  | .wakeSent  => Sys2Proof.Machine.execWakeSent s
  | .wakeCollided  => Sys2Proof.Machine.execWakeCollided s
  | .twtWriteTransaction address b stop => Sys2Proof.Machine.execTwtWriteTransaction address b stop s
  | .twtReadTransaction address n => Sys2Proof.Machine.execTwtReadTransaction address n s
  | .twtBusTimeout  => Sys2Proof.Machine.execTwtBusTimeout s
  | .twtAraDone won => Sys2Proof.Machine.execTwtAraDone won s
  | .twtHostAlert v => Sys2Proof.Machine.execTwtHostAlert v s
  | .twcXferGo v bus => Sys2Proof.Machine.execTwcXferGo v bus s
  | .twcXferDone e => Sys2Proof.Machine.execTwcXferDone e s
  | .twcArbLost  => Sys2Proof.Machine.execTwcArbLost s
  | .twcTimeout bus => Sys2Proof.Machine.execTwcTimeout bus s
  | .twcRecover v bus => Sys2Proof.Machine.execTwcRecover v bus s
  | .onyxWheelCount w x => Sys2Proof.Machine.execOnyxWheelCount w x s
  | .sealPress  => Sys2Proof.Machine.execSealPress s
  | .onyxRetention  => Sys2Proof.Machine.execOnyxRetention s
  | .powerGap  => Sys2Proof.Machine.execPowerGap s
  | .coldStart temp vddMv => Sys2Proof.Machine.execColdStart temp vddMv s
  | .tempStart temp => Sys2Proof.Machine.execTempStart temp s
  | .tempEnd temp => Sys2Proof.Machine.execTempEnd temp s
  | .onyxIdent  => Sys2Proof.Machine.execIdent s
  | .onyxReadState  => Sys2Proof.Machine.execReadState s
  | .onyxReadAudit  => Sys2Proof.Machine.execReadAudit s
  | .onyxJobMark  => Sys2Proof.Machine.execJobMark s
  | .onyxStageParam  => Sys2Proof.Machine.execStageParam s
  | .onyxStageRelease  => Sys2Proof.Machine.execStageRelease s
  | .onyxClearStage  => Sys2Proof.Machine.execClearStage s
  | .onyxPush temp vddMv switch => Sys2Proof.Machine.execOnyxPush temp vddMv switch s
  | .viewStale  => Sys2Proof.Machine.execViewStale s
  | .ikEnum port lead sender mine count offer w o src => Sys2Proof.Machine.execIkEnum port lead sender mine count offer w o src s
  | .ikTime port time => Sys2Proof.Machine.execIkTime port time s
  | .ikPing port pos t0 rx tx l => Sys2Proof.Machine.execIkPing port pos t0 rx tx l s
  | .ikTrigger port y t d => Sys2Proof.Machine.execIkTrigger port y t d s
  | .ikState port pos run digest gen keep pause => Sys2Proof.Machine.execIkState port pos run digest gen keep pause s
  | .ikRun port start y t => Sys2Proof.Machine.execIkRun port start y t s
  | .ikThin port keep y => Sys2Proof.Machine.execIkThin port keep y s
  | .ikCommit port pos digest result => Sys2Proof.Machine.execIkCommit port pos digest result s
  | .ikJoint y o pixels => Sys2Proof.Machine.execIkJoint y o pixels s
  | .ikDefect port y cols => Sys2Proof.Machine.execIkDefect port y cols s
  | .ikFragment port y runs => Sys2Proof.Machine.execIkFragment port y runs s
  | .ikBlobPart port v => Sys2Proof.Machine.execIkBlobPart port v s
  | .ikItemPart p => Sys2Proof.Machine.execIkItemPart p s
  | .ikHalt port cause y => Sys2Proof.Machine.execIkHalt port cause y s
  | .ikPortDown p => Sys2Proof.Machine.execIkPortDown p s
  | .ikPortRetry p => Sys2Proof.Machine.execIkPortRetry p s
  | .ikFrameCrcError p => Sys2Proof.Machine.execIkFrameCrcError p s
  | .ikTimeSend  => Sys2Proof.Machine.execIkTimeSend s
  | .ikPingSend  => Sys2Proof.Machine.execIkPingSend s
  | .ikCommitTimeout  => Sys2Proof.Machine.execIkCommitTimeout s
  | .jointWaitExpiry  => Sys2Proof.Machine.execJointWaitExpiry s
  | .ikClear v => Sys2Proof.Machine.execIkClear v s
  | .ikCommitLineLoRead agent sub width => Sys2Proof.Machine.execIkCommitLineLoRead agent sub width s
  | .commitRequest agent p v => Sys2Proof.Machine.execCommitRequest agent p v s
  | .commitMulti v => Sys2Proof.Machine.execCommitMulti v s
  | .commitEffect  => Sys2Proof.Machine.execCommitEffect s
  | .grantWrite t slot v => Sys2Proof.Machine.execGrantWrite t slot v s
  | .groupLineLoRead agent g sub width => Sys2Proof.Machine.execGroupLineLoRead agent g sub width s
  | .runStart  => Sys2Proof.Machine.execRunStart s
  | .runStartDelayed  => Sys2Proof.Machine.execRunStartDelayed s
  | .runStop  => Sys2Proof.Machine.execRunStop s
  | .powerOnReset lead link core addr flash => Sys2Proof.Machine.execPowerOnReset lead link core addr flash s
  | .supplyFall  => Sys2Proof.Machine.execSupplyFall s
  | .arrayTemperatureRead p w => Sys2Proof.Machine.execArrayTemperatureRead p w s
  | .offlineStepBoundary  => Sys2Proof.Machine.execOfflineStepBoundary s
  | .tenantDrainLimit t => Sys2Proof.Machine.execTenantDrainLimit t s
  | .logIntakeDrain  => Sys2Proof.Machine.execLogIntakeDrain s
  | .onyxReplyReady  => Sys2Proof.Machine.execOnyxReplyReady s
  | .onyxReplyTransfer  => Sys2Proof.Machine.execOnyxReplyTransfer s
  | .eventMessagePoll  => Sys2Proof.Machine.execEventMessagePoll s
  | .ikPortTrained p width => Sys2Proof.Machine.execIkPortTrained p width s

end Sys2Proof.Machine
end

