-- ==== Sys2Proof/Machine/Idle.lean ====
section
/-!
DEFINITION. What passes while no command waits: one ns of the time base (assumption log 6), at which the mailbox writes
that are due become visible (R460), and one ns of Onyx's own clock.
-/

namespace Sys2Proof.Machine

/-- One ns of the island clock: the counter advances by one, adjusted by TB_RATE (R47, R49).  The adjustment of one ns is
cut to 32 fraction bits toward zero: DESIGN CHOICE, assumption log 72. -/
def State.tick (s : State) : State :=
  let inc : Int := 2 ^ 32 + quot (s.rdS Reg.TB_RATE_PPB * 2 ^ 32) 1000000000
  let f := (s.tb.frac : Int) + inc
  { s with tb := { ns := (s.tb.ns + (f / 2 ^ 32).toNat) % 2 ^ 64, frac := (f % 2 ^ 32).toNat } }

/-- One ns with no command: Onyx's clock runs on its own supply; the rest needs the device's supplies.  The outputs of live
groups are evaluated up to now (R60, R70). -/
def State.idle (s : State) : State :=
  let s : State := { s with onyx := { s.onyx with clock := s.onyx.clock + 1 } }
  s.powered fun s =>
    (s.tick.settleStores fun w => decide (w.due ≤ s.tick.tb.ns)).each (List.range 12) fun s g => s.keepUp g

end Sys2Proof.Machine
end

