-- ==== Sys2Proof/Safety.lean ====
section
/-!
DEFINITION. What holds of a state that the block can be in, in the terms that the statements use.
-/

namespace Sys2Proof.Machine

/-- The indexes of a table rise strictly, and lie at `lo` or above. -/
def Table.rising {α : Type} : Nat → Table α → Bool
  | _, [] => true
  | lo, (i, _) :: t => decide (lo ≤ i) && Table.rising (i + 1) t

/-- The time base is a counter of 64 bits, and the fraction of a ns that its rate accumulates has 32 (R47, R49). -/
def TimeBase.wf (t : TimeBase) : Prop := t.ns < 2 ^ 64 ∧ t.frac < 2 ^ 32

/-- The invariant of every step: the stored registers are in their canonical order, each listed once, and the time base
is a 64-bit counter. -/
def State.wf (s : State) : Prop := Table.rising 0 s.regs = true ∧ s.tb.wf

/-- The parts of the state, one for each field of `State`. -/
inductive Part where
  | regs | force | shadow | captures | nt | tb | avs | thin | groups | pawn | encoders | lt | lines | epochs
  | converters | buffers | readouts | plaus | cast | lanes | opal | pw | outLines | joints | ref | reg | comp
  | mp | fr | dma | beryl | pfe | axes | ik | flt | therm | cap | commits | mgmt | usb | twt | twc | onyx
  | fresh | out | pending
  deriving DecidableEq, Repr

/-- The place of a part in the list of parts. -/
def Part.index : Part → Nat
  | .regs => 0
  | .force => 1
  | .shadow => 2
  | .captures => 3
  | .nt => 4
  | .tb => 5
  | .avs => 6
  | .thin => 7
  | .groups => 8
  | .pawn => 9
  | .encoders => 10
  | .lt => 11
  | .lines => 12
  | .epochs => 13
  | .converters => 14
  | .buffers => 15
  | .readouts => 16
  | .plaus => 17
  | .cast => 18
  | .lanes => 19
  | .opal => 20
  | .pw => 21
  | .outLines => 22
  | .joints => 23
  | .ref => 24
  | .reg => 25
  | .comp => 26
  | .mp => 27
  | .fr => 28
  | .dma => 29
  | .beryl => 30
  | .pfe => 31
  | .axes => 32
  | .ik => 33
  | .flt => 34
  | .therm => 35
  | .cap => 36
  | .commits => 37
  | .mgmt => 38
  | .usb => 39
  | .twt => 40
  | .twc => 41
  | .onyx => 42
  | .fresh => 43
  | .out => 44
  | .pending => 45

/-- The part `p` is the same in `t` as it was in `s`. -/
def Part.same (p : Part) (s t : State) : Prop :=
  match p with
  | .regs => t.regs = s.regs
  | .force => t.force = s.force
  | .shadow => t.shadow = s.shadow
  | .captures => t.captures = s.captures
  | .nt => t.nt = s.nt
  | .tb => t.tb = s.tb
  | .avs => t.avs = s.avs
  | .thin => t.thin = s.thin
  | .groups => t.groups = s.groups
  | .pawn => t.pawn = s.pawn
  | .encoders => t.encoders = s.encoders
  | .lt => t.lt = s.lt
  | .lines => t.lines = s.lines
  | .epochs => t.epochs = s.epochs
  | .converters => t.converters = s.converters
  | .buffers => t.buffers = s.buffers
  | .readouts => t.readouts = s.readouts
  | .plaus => t.plaus = s.plaus
  | .cast => t.cast = s.cast
  | .lanes => t.lanes = s.lanes
  | .opal => t.opal = s.opal
  | .pw => t.pw = s.pw
  | .outLines => t.outLines = s.outLines
  | .joints => t.joints = s.joints
  | .ref => t.ref = s.ref
  | .reg => t.reg = s.reg
  | .comp => t.comp = s.comp
  | .mp => t.mp = s.mp
  | .fr => t.fr = s.fr
  | .dma => t.dma = s.dma
  | .beryl => t.beryl = s.beryl
  | .pfe => t.pfe = s.pfe
  | .axes => t.axes = s.axes
  | .ik => t.ik = s.ik
  | .flt => t.flt = s.flt
  | .therm => t.therm = s.therm
  | .cap => t.cap = s.cap
  | .commits => t.commits = s.commits
  | .mgmt => t.mgmt = s.mgmt
  | .usb => t.usb = s.usb
  | .twt => t.twt = s.twt
  | .twc => t.twc = s.twc
  | .onyx => t.onyx = s.onyx
  | .fresh => t.fresh = s.fresh
  | .out => t.out = s.out
  | .pending => t.pending = s.pending

/-- What holds of Onyx in every state of the block (R518, R520, R521, R523): its counters are words, no more than 1,024
entries lie at or above the released limit, the entries that it holds are numbered without a gap up to the next SEQ, and
each CHECK continues the one before it; a staged release is a word, and a frame is made of bytes. -/
def Onyx.wf (o : Onyx) : Prop :=
  o.head < 2 ^ 32 ∧ o.released < 2 ^ 32 ∧ o.event < 2 ^ 32 ∧ (o.head + 2 ^ 32 - o.released) % 2 ^ 32 ≤ 1024 ∧
  o.audit.length ≤ 1024 ∧ (∀ e ∈ o.audit.head?, (e.seq + 1) % 2 ^ 32 = o.head) ∧
  (∀ p ∈ o.audit.zip o.audit.tail, p.1.seq = (p.2.seq + 1) % 2 ^ 32 ∧
    p.1.check = crc16 p.2.check (leBytes 4 p.1.seq ++ leBytes 4 p.1.event ++ leBytes 4 p.1.sec ++
      [p.1.kind % 256, p.1.param % 256, 0, 0] ++ leBytes 4 p.1.old ++ leBytes 4 p.1.new ++ leBytes 4 p.1.total)) ∧
  (∀ q ∈ o.release, q < 2 ^ 32) ∧ (∀ b ∈ o.frame, ∀ x ∈ b, x < 256)

/-- Two states that differ in `nt` (page events, interrupt controllers, log, USB messages, alerts) and in the outputs at
most: what is left of a command's effect when one does not ask whom it tells. -/
def Told (s t : State) : Prop := t = { s with nt := t.nt, out := t.out }

/-- Bit `e` of PAGE_EVENT of the page instance `k` is set (R550). -/
def State.eventSet (s : State) (e : Event) (k : Nat := 0) : Bool :=
  (sget s.nt.events (e.page + e.step * k)).testBit e.bit

/-- No PAGE_EVENT bit of `s` is clear in `t`. -/
def EventsKept (s t : State) : Prop := ∀ p b, (sget s.nt.events p).testBit b = true → (sget t.nt.events p).testBit b = true

end Sys2Proof.Machine
end

