-- ==== Sys2Proof/Certificates/Slice0/Obligations.lean ====
section
/-!
DEFINITION. The statements about the block, for the provers. Each clause says in which states a command completes and
what it then leaves; what a command leaves alone is said once for all of them, part by part, by `CommandFrames`, and more
closely where a clause names the whole state that a command leaves (`Told`: that state, but for the events, notices and
outputs that the command adds).
-/

open Sys2Proof Sys2Proof.Machine

/-- The command `c` runs in `s`, and the state it leaves has `P`. -/
def Sys2Proof.Machine.Completes (c : Instr) (s : State) (P : State → Prop) : Prop := ∃ t, exec c s = .next t ∧ P t

/-- Every part of the block but those listed is the same in `t` as in `s`. -/
def Sys2Proof.Machine.OnlyChanges (l : List Part) (s t : State) : Prop := ∀ p, p ∉ l → p.same s t

/-- A read by agent `a` of the register pair at page `p`, offset `o`, whose value is `v` (R9, R48): an aligned read of up
to four bytes captures the high half for that agent alone and returns bytes of the low half, a read of eight bytes
returns both halves, and any other read is discarded and returns 0. -/
def Sys2Proof.Machine.PairRead (c : Fin 4 → Nat → Instr) (a p o v : Nat) (s : State) : Prop :=
  (∀ (sub : Fin 4) (width : Nat), width = 1 ∨ width = 2 ∨ width = 4 → sub.val % width = 0 →
    Completes (c sub width) s fun t =>
      t.out = .readData a p (o + sub.val) (v % 2 ^ 32 / 2 ^ (8 * sub.val) % 2 ^ (8 * width)) :: s.out ∧
      t.captured a p (o + 4) = v / 2 ^ 32 % 2 ^ 32 ∧
      (∀ b q r, q < 8192 → r < 4096 → (b, q, r) ≠ (a, p, o + 4) → t.captured b q r = s.captured b q r) ∧
      OnlyChanges [.captures, .out] s t) ∧
  (Completes (c 0 8) s fun t =>
    t.out = .readData a p (o + 4) (v / 2 ^ 32 % 2 ^ 32) :: .readData a p o (v % 2 ^ 32) :: s.out ∧
    t.captured a p (o + 4) = v / 2 ^ 32 % 2 ^ 32 ∧
    (∀ b q r, q < 8192 → r < 4096 → (b, q, r) ≠ (a, p, o + 4) → t.captured b q r = s.captured b q r) ∧
    OnlyChanges [.captures, .out] s t) ∧
  (∀ (sub : Fin 4) (width : Nat), ¬((width = 1 ∨ width = 2 ∨ width = 4) ∧ sub.val % width = 0) → (sub, width) ≠ (0, 8) →
    Completes (c sub width) s fun t => Told s t ∧ t.out.head? = some (.readData a p (o + sub.val) 0))


/-- No channel works for queue `q`. -/
def Sys2Proof.Machine.State.unworked (s : State) (q : Nat) : Bool :=
  s.dma.channels.all fun e => e.2.current.all (·.queue != q) && e.2.waiting.all (·.queue != q)

/-- R48, R84, R128, R451, R184, R207, R339, R546, R565. Each pair of registers that is captured for the reading agent
reads so: TIME_LO, LT_LINE_LO, LT_POS_FRAC, CAST_SWAP_LINE_LO, THIN_FROM_LO, IK_COMMIT_LINE_LO, GROUP_LINE_LO, and
the pairs of the reference feed, of registration and of the axes. R50, R539. TB_STEP adds the signed pair to the
counter at once, or is refused: a negative step while a run is active, and any step of a cascade follower. -/
def Obligations.TimeAndPairs : Prop :=
  ((∀ (s : State) (a : Agent), s.alive = true → PairRead (.timeLoRead a) a 0x10 0x24 s.tb.ns s) ∧
  (∀ (s : State) (a : Agent), s.alive = true →
    PairRead (.ltLineLoRead a) a 0x54 0x34 (s.rd Reg.LT_LINE_LO_VALUE + 2 ^ 32 * s.rd Reg.LT_LINE_HI_VALUE) s) ∧
  (∀ (s : State) (a : Agent), s.alive = true → PairRead (.ltPosFracRead a) a 0x54 0x3C (low 64 s.lt.pos) s) ∧
  (∀ (s : State) (a : Agent), s.alive = true →
    PairRead (.castSwapLineLoRead a) a 0x100 0x3C
      (s.rd Reg.CAST_SWAP_LINE_LO_VALUE + 2 ^ 32 * s.rd Reg.CAST_SWAP_LINE_HI_VALUE +
        2 ^ 63 * s.rd Reg.CAST_SWAP_LINE_HI_BACK) s) ∧
  (∀ (s : State) (a : Agent), s.alive = true →
    PairRead (.thinFromLoRead a) a 0x22 0x28 (s.rd Reg.THIN_FROM_LO_VALUE + 2 ^ 32 * s.rd Reg.THIN_FROM_HI_VALUE) s) ∧
  (∀ (s : State) (a : Agent), s.alive = true →
    PairRead (.ikCommitLineLoRead a) a 0x940 0x40
      (s.rd Reg.IK_COMMIT_LINE_LO_VALUE + 2 ^ 32 * s.rd Reg.IK_COMMIT_LINE_HI_VALUE) s) ∧
  (∀ (s : State) (a : Agent) (g : Fin 16), s.alive = true →
    PairRead (.groupLineLoRead a g) a 0x05 (0x104 + 0x10 * g)
      (s.rd Reg.GROUP_LINE_LO 0 g + 2 ^ 32 * s.rd Reg.GROUP_LINE_HI 0 g) s) ∧
  (∀ (s : State) (a : Agent) (i : Fin 4), s.alive = true → ∀ o, o = [0x28, 0x60, 0x68, 0x70].getD i 0 →
    PairRead (.refPairRead a i) a 0x160 o (s.storedWord 0x160 o + 2 ^ 32 * s.storedWord 0x160 (o + 4)) s) ∧
  (∀ (s : State) (a : Agent) (track : Bool), s.alive = true → ∀ o, o = (if track then 0x4C else 0x44) →
    PairRead (.regPairRead a track) a 0x180 o (s.storedWord 0x180 o + 2 ^ 32 * s.storedWord 0x180 (o + 4)) s) ∧
  (∀ (s : State) (a : Agent) (x : Fin 8), s.alive = true →
    PairRead (.motPairRead a x false) a (0x260 + x) 0x74
      (s.rd Reg.MOT_POS_LO_VALUE x + 2 ^ 32 * s.rd Reg.MOT_POS_HI_VALUE x) s ∧
    PairRead (.motPairRead a x true) a (0x260 + x) 0x7C
      (s.rd Reg.MOT_REMAIN_LO_VALUE x + 2 ^ 32 * s.rd Reg.MOT_REMAIN_HI_VALUE x) s)) ∧
  ((∀ (s : State) (a : Agent) (hi : Word), s.alive = true → ∀ step : Int,
    step = signed 64 ((s.wr Reg.TB_STEP_HI_VALUE hi.toNat).rdPair Reg.TB_STEP_LO_VALUE Reg.TB_STEP_HI_VALUE) →
    (s.follows = false → (0 ≤ step ∨ s.running = false) →
      Completes (.tbStep a hi) s fun t =>
        Told { s.wr Reg.TB_STEP_HI_VALUE hi.toNat with tb := { s.tb with ns := (((s.tb.ns : Int) + step) % 2 ^ 64).toNat } } t ∧
        t.eventSet Ev.TB_STEP_DONE = true ∧ EventsKept s t) ∧
    (s.follows = true ∨ (step < 0 ∧ s.running = true) →
      Completes (.tbStep a hi) s fun t =>
        Told (s.wr Reg.TB_STEP_HI_VALUE hi.toNat) t ∧ t.eventSet Ev.TB_STEP_REFUSED = true ∧ EventsKept s t)))

/-- R22, R34, R437. The mode changes only outside a run, and a refused change is told. The end of a measurement window
publishes pace, demand and headroom of every monitor, and computes KEEP from the lowest headroom of monitors 0 to
12. R41, R42, R43. The core-voltage loop: the voltage of an evaluation, the fault of a readback, and when LINK can
change. -/
def Obligations.PaceAndVoltage : Prop :=
  ((∀ (s : State) (a : Agent) (v : Word), s.alive = true →
    (v.toNat % 2 = s.rd Reg.DEV_MODE_MODE ∨ s.running = false →
      Completes (.devModeWrite a v) s fun t =>
        t.rd Reg.DEV_MODE_MODE = v.toNat % 2 ∧ OnlyChanges [.regs] s t) ∧
    (v.toNat % 2 ≠ s.rd Reg.DEV_MODE_MODE → s.running = true →
      Completes (.devModeWrite a v) s fun t =>
        Told s t ∧ t.eventSet Ev.DEV_MODE_REFUSED = true ∧ EventsKept s t)) ∧
  (∀ (s : State) (tokens : List Nat), s.alive = true → tokens.length = 14 →
    Completes (.paceWindowEnd tokens) s fun t =>
      (∀ m, m < 14 →
        t.rd Reg.PACE_MON_PACE_CEIL 0 m =
          (if s.rd Reg.THROT_FRAC_F = 1000 then 0xFFFF
           else (if m < 12 then 1500 else if m = 12 then 18000 else 375) * s.rd Reg.THROT_FRAC_F / 1000) % 2 ^ 16 ∧
        t.rd Reg.PACE_MON_PACE_MEAS 0 m = min 0xFFFF (tokens.getD m 0 / s.avs.window) ∧
        t.rd Reg.PACE_MON_DEMAND_VALUE 0 m = s.demand m % 2 ^ 16 ∧
        t.rd Reg.PACE_MON_HEADROOM_VALUE 0 m =
          (if s.demand m = 0 then 0xFFFF
           else min 0xFFFF (min (t.rd Reg.PACE_MON_PACE_MEAS 0 m) (t.rd Reg.PACE_MON_PACE_CEIL 0 m) * 4096 / s.demand m))) ∧
      t.avs.windows = s.avs.windows + 1 ∧ t.avs.window = s.rd Reg.PACE_CTL_WINDOW ∧
      t.thin.own =
        (let hm := ((t.lowestHeadroom 13).map (·.1)).getD 0xFFFF
         if 0x1000 ≤ hm then 0x1000
         else (sat (quot (((hm : Int) - 1536) * 4096) 2560 - s.rd Reg.THIN_CTL_MARGIN) (s.rd Reg.THIN_CTL_MIN_KEEP)
           0x0FFF).toNat) ∧
      EventsKept s t ∧ OnlyChanges [.regs, .nt, .out, .avs, .thin] s t)) ∧
  ((∀ s : State, s.alive = true → s.mgmt.running = true → s.on Reg.AVS_CTL_EN = true → s.eventSet Ev.PACE_AVS_FAULT = false →
    s.avs.stopped = false → s.avs.due = true → s.on Reg.AVS_CTL_LINK = false →
    ∀ v, v = (let v0 := s.rd Reg.AVS_VSET_MV
            let vmin := if s.running then s.rd Reg.AVS_VLIMIT_VMIN_RUN else 620
            let target := s.rd Reg.AVS_TARGET_TARGET
            let hyst := s.rd Reg.AVS_TARGET_HYST
            if s.overCeiling then max (v0 - s.rd Reg.AVS_CTL_STEP) 620
            else if s.rd Reg.HEADROOM_MIN_VALUE + hyst < target then
              (if v0 < s.rd Reg.AVS_VLIMIT_VMAX then min (v0 + s.rd Reg.AVS_CTL_STEP) (s.rd Reg.AVS_VLIMIT_VMAX) else v0)
            else if target + hyst < s.rd Reg.HEADROOM_MIN_VALUE then max (v0 - s.rd Reg.AVS_CTL_STEP) vmin
            else v0) →
    Completes .avsEvaluation s fun t =>
        Told { s.wr Reg.AVS_VSET_MV v with
               avs := { s.avs with windows := 0, due := false, awaiting := true, readDue := false } } t ∧
        t.out.head? = some (.regulator false (s.rd Reg.AVS_CTL_ADDR) 0 v) ∧ EventsKept s t ∧
        (s.overCeiling = false →
          s.rd Reg.HEADROOM_MIN_VALUE + s.rd Reg.AVS_TARGET_HYST < s.rd Reg.AVS_TARGET_TARGET →
          s.rd Reg.AVS_VLIMIT_VMAX ≤ s.rd Reg.AVS_VSET_MV → t.eventSet Ev.PACE_AVS_AT_LIMIT = true)) ∧
  (∀ (s : State) (error : Bool) (mv : Fin 1024), s.alive = true → s.avs.awaiting = true → s.avs.readDue = true →
    Completes (.avsReadback error mv) s fun t =>
      (error = false → t.rd Reg.AVS_VREAD_MV = mv.val ∧ t.rd Reg.AVS_VREAD_VALID = 1) ∧
      (error = true ∨ s.rd Reg.AVS_VSET_MV + 20 < mv.val ∨ mv.val + 20 < s.rd Reg.AVS_VSET_MV →
        t.eventSet Ev.PACE_AVS_FAULT = true ∧ t.avs.stopped = true) ∧
      (error = false → ¬(s.rd Reg.AVS_VSET_MV + 20 < mv.val ∨ mv.val + 20 < s.rd Reg.AVS_VSET_MV) →
        t.avs.stopped = s.avs.stopped) ∧
      t.rd Reg.AVS_VSET_MV = s.rd Reg.AVS_VSET_MV ∧ EventsKept s t ∧ OnlyChanges [.regs, .nt, .avs, .out] s t) ∧
  (∀ (s : State) (v : Word), s.alive = true →
    Completes (.avsCtlWrite v) s fun t =>
      t.rd Reg.AVS_CTL_EN = v.toNat % 2 ∧
      t.rd Reg.AVS_CTL_LINK =
        (if s.on Reg.AVS_CTL_EN = false ∧ v.toNat % 2 = 1 then v.toNat / 2 % 2 else s.rd Reg.AVS_CTL_LINK) ∧
      t.rd Reg.AVS_CTL_INTERVAL = max 1 (v.toNat / 2 ^ 8 % 16) ∧
      t.rd Reg.AVS_CTL_STEP = max 1 (min 20 (v.toNat / 2 ^ 16 % 32)) ∧
      t.rd Reg.AVS_CTL_ADDR = v.toNat / 2 ^ 24 % 128 ∧
      (s.on Reg.AVS_CTL_EN = false → v.toNat % 2 = 1 → s.eventSet Ev.PACE_AVS_FAULT = false → t.avs.stopped = false) ∧
      t.rd Reg.AVS_VSET_MV = s.rd Reg.AVS_VSET_MV ∧ t.nt = s.nt ∧ OnlyChanges [.regs, .avs, .out] s t))

/-- The instruction that group `g` of the running sequencer has fetched has opcode `op`, is well formed, and its issue is
within the counts of R64 with the levels up to its period evaluated. -/
def Sys2Proof.Machine.State.Issues (s : State) (g op : Nat) : Prop :=
  s.alive = true ∧ (s.group g).live = true ∧ (s.group g).runs = true ∧ bitsOf (s.group g).ir 60 4 = op ∧
    pawnUndefined (s.group g).ir = false ∧ (op ≠ 1 → (s.group g).controls ≠ 8) ∧
    ((s.advance g (64 * (s.group g).period)).group g).runs = true

/-- Group `g` of `t` goes on at address `a` of the program it runs in `s`. -/
def Sys2Proof.Machine.State.GoesTo (s t : State) (g a : Nat) : Prop :=
  (t.group g).runs = true ∧ (t.group g).pc = a ∧ (t.group g).ir = s.pawnFetch g a ∧
    t.rd Reg.PAWN_STATUS_PC g = (s.group g).pc % 2 ^ 10

/-- R63, R64, R65. The control instructions of Pawn: NOP, LDC, DJNZ, JMP, JC and STW take no period; each continues at the
next address or at its target, and has the effect of its row on the counters and on program memory. -/
def Obligations.PawnControl : Prop :=
  (∀ (s : State) (g : Fin 12), s.Issues g 0 →
    Completes (.pawnNop g) s fun t =>
      s.GoesTo t g (((s.group g).pc + 1) % 1024) ∧ (t.group g).controls = (s.group g).controls + 1 ∧
      (t.group g).counters = (s.group g).counters ∧ (t.group g).period = (s.group g).period ∧ t.pawn = s.pawn) ∧
  (∀ (s : State) (g : Fin 12), s.Issues g 2 → ∀ w, w = (s.group g).ir →
    Completes (.pawnLdc g) s fun t =>
      s.GoesTo t g (((s.group g).pc + 1) % 1024) ∧
      (t.group g).counters = (s.group g).counters.set (bitsOf w 16 2) (w % 2 ^ 16) ∧
      (t.group g).period = (s.group g).period ∧ t.pawn = s.pawn) ∧
  (∀ (s : State) (g : Fin 12), s.Issues g 3 → ∀ w, w = (s.group g).ir →
    ∀ v, v = (s.group g).counters.getD (bitsOf w 16 2) 0 - 1 →
    Completes (.pawnDjnz g) s fun t =>
      s.GoesTo t g (if v = 0 then ((s.group g).pc + 1) % 1024 else w % 1024) ∧
      (t.group g).counters = (s.group g).counters.set (bitsOf w 16 2) v ∧
      (t.group g).period = (s.group g).period ∧ t.pawn = s.pawn) ∧
  (∀ (s : State) (g : Fin 12), s.Issues g 4 →
    Completes (.pawnJmp g) s fun t =>
      s.GoesTo t g ((s.group g).ir % 1024) ∧ (t.group g).counters = (s.group g).counters ∧
      (t.group g).period = (s.group g).period ∧ t.pawn = s.pawn) ∧
  (∀ (s : State) (g : Fin 12), s.Issues g 5 → ∀ w, w = (s.group g).ir → ∀ arg, arg = bitsOf w 16 7 →
    ∀ x, x = s.group g →
    Completes (.pawnJc g) s fun t =>
      s.GoesTo t g
        (if (bitsOf w 24 4 = 0 ∧ x.priming = true) ∨ (bitsOf w 24 4 = 1 ∧ x.flush = true) ∨
            (bitsOf w 24 4 = 2 ∧ arg < 48 ∧ x.number.testBit arg = true) ∨
            (bitsOf w 24 4 = 3 ∧ x.counters.getD (arg % 4) 0 = 0)
         then w % 1024 else (x.pc + 1) % 1024) ∧
      (t.group g).counters = x.counters ∧ (t.group g).period = x.period ∧ t.pawn = s.pawn) ∧
  (∀ (s : State) (g : Fin 12), s.Issues g 6 → ∀ w, w = (s.group g).ir →
    ∀ bank, bank = s.rd Reg.PAWN_STATUS_BANK g → ∀ old, old = s.pawnWord g bank (w % 1024) →
    Completes (.pawnStw g) s fun t =>
      s.GoesTo t g (((s.group g).pc + 1) % 1024) ∧
      t.pawnWord g bank (w % 1024) =
        (if w.testBit 10 then old % 2 ^ 32 + 2 ^ 32 * bitsOf w 16 32 else old / 2 ^ 32 * 2 ^ 32 + bitsOf w 16 32) ∧
      (∀ k, k ≠ pawnKey g bank (w % 1024) → sget t.pawn k = sget s.pawn k) ∧
      (t.group g).counters = (s.group g).counters ∧ (t.group g).period = (s.group g).period)

/-- The program of group `g` has become invalid for reason `c` (R70, R71): Pawn has stopped with its outputs LOW, the
reason is reported, and the line that the read-out carries takes code 6 unless its words are all in the lane. -/
def Sys2Proof.Machine.State.Invalidated (s t : State) (g c : Nat) : Prop :=
  (t.group g).runs = false ∧ (t.group g).invalid = true ∧ (t.group g).modes = [0, 0, 0, 0, 0, 0, 0, 0, 0, 0] ∧
    (t.group g).smp = false ∧ t.rd Reg.PAWN_STATUS_REASON g = c ∧
    (t.group g).ph = [false, false, false, false, false, false, false, false] ∧ (t.group g).clamp = false ∧
    (∀ r, (s.group g).reads = some r → s.readComplete g = false →
      (t.group g).discarded = true ∧ (g, 6) ∈ (t.line r.1).codes ∧
      (∀ i, i < 8 → (t.readout r.1 (8 * g + i)).discarded = true))

/-- R59, R60, R63, R70, R75. OUT, END, the end of the minimum line period without END, and a strobe of the LEDs. R66,
R67, R68, R80. Program memory through PAWN_ADDR and PAWN_DATA, and the index pulse of an encoder. -/
def Obligations.PawnHostAndTime : Prop :=
  ((∀ (s : State) (g : Fin 12), s.Issues g 1 → ∀ w, w = (s.group g).ir → ∀ n, n = 64 * (s.group g).period + bitsOf w 24 6 →
    ((s.advance g n).group g).runs = true → ((s.advance g n).group g).smp = true →
    Completes (.pawnOut g) s fun t =>
      s.GoesTo t g (((s.group g).pc + 1) % 1024) ∧ (t.group g).controls = 0 ∧
      (t.group g).period = (s.group g).period + 1 + w % 2 ^ 16 ∧
      (t.group g).step = n + 1 ∧ (t.group g).strobes = ((s.advance g n).group g).strobes ∧
      (∀ o, o < 10 → (t.group g).modes.getD o 0 =
        if w.testBit (30 + o) then bitsOf w (40 + 2 * o) 2 else (s.group g).modes.getD o 0) ∧
      t.pawn = s.pawn) ∧
  (∀ (s : State) (g : Fin 12), s.Issues g 7 → ∀ x, x = (s.advance g (64 * (s.group g).period + 1)).group g →
    x.runs = true →
    Completes (.pawnEnd g) s fun t =>
      (x.strobes < (s.groupCfg g).rd Reg.SG_GEOM_PIXELS g → s.Invalidated t g 2) ∧
      ((s.groupCfg g).rd Reg.SG_GEOM_PIXELS g ≤ x.strobes →
        (t.group g).runs = false ∧ (t.group g).invalid = x.invalid ∧ (t.group g).modes = (s.group g).modes ∧
        t.lines = s.lines)) ∧
  (∀ (s : State) (g : Fin 12), s.alive = true → (s.group g).live = true → (s.group g).runs = true →
    ∀ x, x = (s.advance g (64 * ((s.groupCfg g).rd Reg.SG_GEOM_PIXELS g + 32) + 1)).group g →
    Completes (.pawnLineTimeout g) s fun t =>
      (t.group g).runs = false ∧ (x.runs = true → s.Invalidated t g 3)) ∧
  (∀ (s : State) (g : Fin 12) (n : Fin 2), s.alive = true →
    ∀ a, a = 64 * (s.groupCfg g).rd Reg.SG_LED_START_PX g n + (s.groupCfg g).rd Reg.SG_LED_START_EDGE g n →
    ∀ b, b = a + 64 * (s.groupCfg g).rd Reg.SG_LED_WIDTH_PX g n + (s.groupCfg g).rd Reg.SG_LED_WIDTH_EDGE g n →
    ∀ z, z = 64 * ((s.groupCfg g).rd Reg.SG_GEOM_PIXELS g + 32) → (s.group g).leds.length = 2 →
    ∀ c, c = (if s.running && (s.group g).live then s.groupCfg g else s) → (s.group g).ledLevels.length = 2 →
    ((s.group g).leds.getD n 0 = 1 → a < z →
      Completes (.ledStrobe g n) s fun t =>
        (t.group g).leds.getD n 0 = 2 ∧
        (t.group g).ledLevels.getD n false = (c.on Reg.SG_CTL_EN g && !c.on Reg.SG_LED_START_POL g n) ∧
        (c.on Reg.SG_CTL_EN g = true → (s.group g).ledLevels.getD n false = c.on Reg.SG_LED_START_POL g n →
          t.out = .pin "LED" (2 * g.val + n.val) (!c.on Reg.SG_LED_START_POL g n) :: s.out) ∧
        OnlyChanges [.groups, .out] s t) ∧
    ((s.group g).leds.getD n 0 = 1 → z ≤ a →
      Completes (.ledStrobe g n) s fun t =>
        (t.group g).leds.getD n 0 = 0 ∧ t.eventSet Ev.SG_STROBE_CLIPPED g = true ∧ EventsKept s t) ∧
    ((s.group g).leds.getD n 0 = 2 →
      Completes (.ledStrobe g n) s fun t =>
        (t.group g).leds.getD n 0 = 0 ∧
        (t.group g).ledLevels.getD n false = (c.on Reg.SG_CTL_EN g && c.on Reg.SG_LED_START_POL g n) ∧
        ((s.group g).ledLevels.getD n false ≠ (c.on Reg.SG_CTL_EN g && c.on Reg.SG_LED_START_POL g n) →
          .pin "LED" (2 * g.val + n.val) (c.on Reg.SG_CTL_EN g && c.on Reg.SG_LED_START_POL g n) ∈ t.out) ∧
        (z < b → t.eventSet Ev.SG_STROBE_CLIPPED g = true) ∧ EventsKept s t))) ∧
  ((∀ (s : State) (g : Fin 12) (v : Word), s.alive = true → ∀ a, a = s.rd Reg.PAWN_ADDR_ADDR g →
    ∀ bank, bank = s.rd Reg.PAWN_STATUS_BANK g →
    (s.on Reg.PAWN_STATUS_SWAP_PENDING g = true →
      Completes (.pawnDataHiWrite g v) s fun t => Told s t ∧ t.eventSet Ev.SG_WRITE_REFUSED g = true ∧ EventsKept s t) ∧
    (s.on Reg.PAWN_STATUS_SWAP_PENDING g = false →
      Completes (.pawnDataHiWrite g v) s fun t =>
        t.pawnWord g (1 - bank) a = s.rd Reg.PAWN_DATA_LO_VALUE g + 2 ^ 32 * v.toNat ∧
        (∀ k, k ≠ pawnKey g (1 - bank) a → sget t.pawn k = sget s.pawn k) ∧
        t.rd Reg.PAWN_ADDR_ADDR g = (a + 1) % 2 ^ 10 ∧ t.rd Reg.PAWN_DATA_HI_VALUE g = v.toNat ∧
        OnlyChanges [.regs, .pawn] s t)) ∧
  (∀ (s : State) (agent : Agent) (g : Fin 12), s.alive = true →
    ∀ w, w = s.pawnWord g (if s.on Reg.PAWN_ADDR_ACTIVE g then s.rd Reg.PAWN_STATUS_BANK g
                      else 1 - s.rd Reg.PAWN_STATUS_BANK g) (s.rd Reg.PAWN_ADDR_ADDR g) →
    (∀ (sub : Fin 4) (width : Nat), width = 1 ∨ width = 2 ∨ width = 4 → sub.val % width = 0 →
      Completes (.pawnDataLoRead agent g sub width) s fun t =>
        t.out = .readData agent (0x40 + g) (0x70 + sub) (w % 2 ^ 32 / 2 ^ (8 * sub.val) % 2 ^ (8 * width)) :: s.out ∧
        (t.group g).capture = w / 2 ^ 32 ∧ OnlyChanges [.groups, .out] s t) ∧
    (Completes (.pawnDataLoRead agent g 0 8) s fun t =>
      t.out = .readData agent (0x40 + g) 0x74 (w / 2 ^ 32) :: .readData agent (0x40 + g) 0x70 (w % 2 ^ 32) :: s.out ∧
      t.rd Reg.PAWN_ADDR_ADDR g = (s.rd Reg.PAWN_ADDR_ADDR g + 1) % 2 ^ 10 ∧ OnlyChanges [.groups, .regs, .out] s t)) ∧
  (∀ (s : State) (agent : Agent) (g : Fin 12) (sub : Fin 4), s.alive = true →
    ∀ width, width = 1 ∨ width = 2 ∨ width = 4 → sub.val % width = 0 →
    Completes (.pawnDataHiRead agent g sub width) s fun t =>
      t.out = .readData agent (0x40 + g) (0x74 + sub)
        (if width < 4 then (s.group g).capture / 2 ^ (8 * sub.val) % 2 ^ (8 * width) else (s.group g).capture) :: s.out ∧
      t.rd Reg.PAWN_ADDR_ADDR g = (s.rd Reg.PAWN_ADDR_ADDR g + 1) % 2 ^ 10 ∧ OnlyChanges [.regs, .out] s t) ∧
  (∀ (s : State) (agent : Agent) (g : Fin 12) (sub : Fin 4) (width : Nat), s.alive = true →
    ¬((width = 1 ∨ width = 2 ∨ width = 4) ∧ sub.val % width = 0) →
    ((sub, width) ≠ (0, 8) →
      Completes (.pawnDataLoRead agent g sub width) s fun t =>
        Told s t ∧ t.out.head? = some (.readData agent (0x40 + g) (0x70 + sub) 0)) ∧
    (Completes (.pawnDataHiRead agent g sub width) s fun t =>
      Told s t ∧ t.out.head? = some (.readData agent (0x40 + g) (0x74 + sub) 0))) ∧
  (∀ (s : State) (n : Fin 4) (stood : Nat), s.alive = true →
    (s.on Reg.ENC_CTL_EN n = true → s.on Reg.ENC_CTL_Z_EN n = true → s.rd Reg.ENC_CTL_FILT n ≤ stood →
      Completes (.encoderIndex ⟨n, stood⟩) s fun t =>
        t.rd Reg.ENC_INDEX_VALUE n = s.rd Reg.ENC_COUNT_VALUE n % 2 ^ 32 ∧ t.eventSet Ev.ENC_INDEX n = true ∧
        EventsKept s t ∧ OnlyChanges [.regs, .nt, .out] s t) ∧
    (s.on Reg.ENC_CTL_EN n = false ∨ s.on Reg.ENC_CTL_Z_EN n = false ∨ stood < s.rd Reg.ENC_CTL_FILT n →
      Completes (.encoderIndex ⟨n, stood⟩) s fun t => t = s)))

/-- Converter `c`, which serves its own channel, has its next word out: the group runs, both are enabled, a word of the
period is still owed, and the group strobe of its pixel has come (R90 to R94). -/
def Sys2Proof.Machine.State.Converts (s : State) (c : Nat) : Prop :=
  s.alive = true ∧ c < 96 ∧ s.carrying = false ∧ (s.group (c / 8)).live = true ∧
    (s.groupCfg (c / 8)).on Reg.SG_CTL_EN (c / 8) = true ∧ (s.groupCfg (c / 8)).on Reg.CHAN_CTL_EN c = true ∧
    s.disconnected c = false ∧ (s.buffer c).count < 3 * (s.groupCfg (c / 8)).rd Reg.SG_GEOM_PIXELS (c / 8) ∧
    (s.buffer c).count / 3 < (s.group (c / 8)).strobes ∧
    (trainStrobe (s.group (c / 8)).trains ((s.buffer c).count / 3)).isSome = true

/-- Entry `entry` of channel `c` of `t` has the result of the held inputs `xs`: the mean of their codes, OVR, VALID and
`line` (R96, R98). -/
def Sys2Proof.Machine.State.DiagResult (s t : State) (c entry line : Nat) (xs : List Int) : Prop :=
  ∀ codes, codes = xs.map (fun x => diagCode entry x s.plaus.level) →
    t.rd Reg.DIAG_VALUE c entry = (2 * (codes.map (·.1)).sum + codes.length) / (2 * codes.length) % 2 ^ 14 ∧
    t.rd Reg.DIAG_OVR c entry = (codes.any (·.2)).toNat ∧ t.rd Reg.DIAG_VALID c entry = 1 ∧
    t.rd Reg.DIAG_LINE c entry = line % 2 ^ Reg.DIAG_LINE.width ∧
    (entry = 3 → (t.conv c).tempFresh = true ∧ (t.conv c).tempTime = s.tb.ns) ∧
    t.plaus.results = s.plaus.results ++
      (if entry = 4 ∧ s.plaus.parts.contains c = true ∧ c ∉ s.plaus.results.map (·.1)
       then [(c, (2 * (codes.map (·.1)).sum + codes.length) / (2 * codes.length))] else [])

/-- R45, R46, R90, R91, R93, R94, R95, R96, R98, R99. A converter's next word: its code from the values held at its
pixel's strobe, and where it goes; a full lane buffer discards the rest of the line; no strobe, no word. An entry of
the diagnostic sequence in its quiet interval: its mean, its validity and its line. R101, R102, R103, R104. The
comparison of a plausibility line, once no participant's entry is still to come, and a conversion that the host
forces. R106, R107, R121. The self-calibration of the bank: refused while it cannot run; its end stores what a
passing converter measured, and marks the others. -/
def Obligations.LineConverters : Prop :=
  ((∀ (s : State) (c : Fin 97) (held level : Colours) (y : Nat × Nat), s.Converts c →
    ∀ cfg, cfg = s.groupCfg (c / 8) → ∀ col, col = (s.buffer c).count % 3 → cfg.rd Reg.CHAN_CTL_REFMODE c = 1 →
    cfg.on (if col = 0 then Reg.SCAN_MASK_RED else if col = 1 then Reg.SCAN_MASK_GREEN else Reg.SCAN_MASK_BLUE) c = true →
    (s.group (c / 8)).reads = some y → (s.group (c / 8)).discarded = false → (s.lane (c / 8)).overrun = false →
    (s.readout y.1 c).discarded = false →
    ∀ v, v = (if col = 0 then held.red else (s.conv c).held.getD col 0) →
    ∀ ref, ref = (if col = 0 then level.red else (s.conv c).levels.getD col 0) →
    ∀ ideal, ideal = roundQuot ((v - ref) * 16384) (2000000000 / 2 ^ cfg.rd Reg.CHAN_FE_RANGE c col)
      + cfg.rdS Reg.CHAN_FE_OFFSET c col →
    ((s.drained c y.1).level < 256 →
      Completes (.converterWord c ⟨held.red, level.red⟩ ⟨held.green, level.green⟩ ⟨held.blue, level.blue⟩) s fun t =>
        (t.readout y.1 c).words =
          (if ideal < 0 then 16384 else if 16383 < ideal then 16383 + 16384 else ideal.toNat) :: (s.readout y.1 c).words ∧
        (t.buffer c).count = (s.buffer c).count + 1 ∧ (t.buffer c).level = (s.drained c y.1).level + 1 ∧
        (col = 0 → (t.conv c).held = [held.red, held.green, held.blue] ∧
          (t.conv c).levels = [level.red, level.red, level.red]) ∧
        (ideal < 0 ∨ 16383 < ideal → t.eventSet Ev.CH_OVR c = true ∧
          t.rd Reg.OVR_COUNT_COUNT c = (s.rd Reg.OVR_COUNT_COUNT c + 1) % 2 ^ 32) ∧
        (∀ d, d < 96 → d ≠ c.val → t.buffer d = s.buffer d ∧ t.readout y.1 d = s.readout y.1 d) ∧
        EventsKept s t ∧ OnlyChanges [.regs, .nt, .out, .converters, .buffers, .readouts] s t) ∧
    (256 ≤ (s.drained c y.1).level →
      Completes (.converterWord c ⟨held.red, level.red⟩ ⟨held.green, level.green⟩ ⟨held.blue, level.blue⟩) s fun t =>
        (∀ d, d < 96 → d / 8 = c / 8 → (t.readout y.1 d).discarded = true) ∧ (12, 2) ∈ (t.line y.1).codes ∧
        (t.lane (c / 8)).overrun = true ∧ t.eventSet Ev.LANE_OVERRUN (c / 8) = true ∧
        t.rd Reg.LANE_OVERRUN_COUNT (c / 8) = (s.rd Reg.LANE_OVERRUN_COUNT (c / 8) + 1) % 2 ^ 32 ∧
        (s.rd Reg.PACE_MON_HEADROOM_VALUE 0 (c / 8) < 0x1000 → ∀ k, (t.lane k).faults = (s.lane k).faults) ∧
        EventsKept s t)) ∧
  (∀ (s : State) (c y : Nat), c < 96 → (s.line y).thinned = false →
    s.drained c y = (let n := (s.buffer c).taken + (s.tb.ns - (s.buffer c).since) * (3 * s.effPace (c / 8))
      { s.buffer c with since := s.tb.ns, level := (s.buffer c).level - n / 8000,
                        taken := if (s.buffer c).level ≤ n / 8000 then 0 else n % 8000 })) ∧
  (∀ (s : State) (c : Fin 97) (held level : Colours) (g : Nat), s.alive = true → s.convGroup c = some g →
    (s.group g).trains = [] → (s.group g).modes.getD 8 0 = 0 →
    Completes (.converterWord c ⟨held.red, level.red⟩ ⟨held.green, level.green⟩ ⟨held.blue, level.blue⟩) s fun t => t = s) ∧
  (∀ (s : State) (c : Fin 97) (xs : List Int), s.alive = true → (s.conv c).late = [] → s.convEnabled c = true →
    s.disconnected c = false → xs.length = 2 ^ (s.convCfg c).rd Reg.BANK_DIAG_AVG_LOG → (s.conv c).forced = none →
    (s.byLine c = true → (s.conv c).diagDone < 5) →
    s.isQuiet c = true →
    ∀ entry, entry = s.nextEntry c →
    ∀ line, line = ((((if s.byLine c then s.convGroup c else none).map fun g => (s.group g).number)).getD
      (s.conv c).sequences) →
    ((s.convCfg c).diagEnabled c entry = true → (entry = 4 → s.plausBus c = true ∧ s.plaus.parts.contains c.val = true) →
      Completes (.diagEntryDone c xs) s fun t =>
        s.DiagResult t c entry line xs ∧ (s.byLine c = true → (t.conv c).diagDone = (s.conv c).diagDone + 1) ∧
        OnlyChanges [.regs, .converters, .plaus] s t) ∧
    ((s.convCfg c).diagEnabled c entry = false →
      Completes (.diagEntryDone c xs) s fun t => t.regs = s.regs ∧ OnlyChanges [.converters] s t)) ∧
  (∀ (s : State) (c : Fin 97) (xs : List Int) (e : Nat × Nat × Bool) (rest : List (Nat × Nat × Bool)), s.alive = true →
    (s.conv c).late = e :: rest → xs ≠ [] →
    Completes (.diagEntryDone c xs) s fun t =>
      (t.conv c).late = rest ∧ (e.2.2 = true → s.DiagResult t c e.1 e.2.1 xs) ∧ (e.2.2 = false → t.regs = s.regs) ∧
      OnlyChanges [.regs, .converters, .plaus] s t)) ∧
  ((∀ s : State, s.alive = true → s.plaus.active = true → s.plaus.parts.any s.plausWaits = false →
    (s.plaus.results.map (·.1)).Nodup → s.castState < 2 ∨ 4 < s.castState →
    Completes .plausCheck s fun t =>
      t.plaus.active = false ∧ t.plaus.parts = [] ∧ t.plaus.results = [] ∧
      t.rd Reg.BANK_PLAUS_COUNT_COUNT = (s.rd Reg.BANK_PLAUS_COUNT_COUNT + 1) % 2 ^ Reg.BANK_PLAUS_COUNT_COUNT.width ∧
      (∀ e ∈ s.plaus.results, e.1 < 97 →
        ∀ ref, ref = (if e.1 = 96 then lowerMedian ((s.plaus.results.filter fun e => decide (e.1 < 96)).map (·.2))
          else lowerMedian (plausSet s.plaus.results e.1)) →
        ∀ near : Bool, near = decide (((e.2 : Int) - ref).natAbs ≤ s.rd Reg.BANK_PLAUS_CTL_TOL) →
        t.rd Reg.PLAUS_STATUS_DEV e.1 = low Reg.PLAUS_STATUS_DEV.width ((e.2 : Int) - ref) ∧
        (near = true → t.rd Reg.PLAUS_STATUS_FAILS e.1 = 0 ∧ t.rd Reg.PLAUS_STATUS_SUSPECT e.1 = 0) ∧
        (near = false → t.rd Reg.PLAUS_STATUS_FAILS e.1 = min 255 (s.rd Reg.PLAUS_STATUS_FAILS e.1 + 1) ∧
          t.eventSet Ev.CH_PLAUS_FAIL e.1 = true ∧
          (s.rd Reg.BANK_PLAUS_CTL_LIMIT ≤ min 255 (s.rd Reg.PLAUS_STATUS_FAILS e.1 + 1) →
            s.rd Reg.PLAUS_STATUS_SUSPECT e.1 = 0 →
            t.rd Reg.PLAUS_STATUS_SUSPECT e.1 = 1 ∧ t.eventSet Ev.CH_SUSPECT e.1 = true))) ∧
      EventsKept s t ∧ OnlyChanges [.regs, .nt, .out, .plaus] s t) ∧
  (∀ s : State, s.alive = true → s.plaus.active = true → s.plaus.parts.any s.plausWaits = true → s.castState < 2 ∨ 4 < s.castState →
    Completes .plausCheck s fun t => t = s) ∧
  (∀ (s : State) (c : Fin 97) (v : Word), s.alive = true →
    ∀ busy : Bool, busy = ((s.conv c).forced.isSome ||
      (match s.convGroup c with
        | some g => !(s.convCfg c).on Reg.SG_CTL_EN g
        | none => false) || s.on Reg.BANK_CAL_BUSY) →
    (v.toNat.testBit 31 = true → busy = true →
      Completes (.forceRequest c v) s fun t => Told s t ∧ t.eventSet Ev.CH_FORCE_IGNORED c = true ∧ EventsKept s t) ∧
    (v.toNat.testBit 31 = true → busy = false →
      Completes (.forceRequest c v) s fun t =>
        (t.conv c).forced = some (v.toNat % 8) ∧ t.rd Reg.FORCE_RESULT_DONE c = 0 ∧
        (∀ d, d ≠ c.val → t.conv d = s.conv d) ∧ OnlyChanges [.regs, .converters] s t) ∧
    (v.toNat.testBit 31 = false → Completes (.forceRequest c v) s fun t => t = s)) ∧
  (∀ (s : State) (c : Fin 97) (v ref : Int) (i : Nat), s.alive = true → (s.conv c).forced = some i → i < 8 →
    s.on Reg.BANK_CAL_BUSY = false → s.cast.offline ≠ some c.val ∨ s.cast.eligible = true →
    s.isQuiet c = true →
    (s.byLine c = true → s.nextEntry c = 4 → (s.conv c).diagDone < 5 → s.diagConverts c 4 = false) →
    ∀ k, k = s.serves c → ∀ cfg, cfg = s.convCfg c →
    ∀ level : Int, level = (if cfg.rd Reg.CHAN_CTL_REFMODE k = 1 then ref
      else if cfg.rd Reg.CHAN_CTL_REFMODE k = 2 then (s.conv c).reset.getD i 0 else (s.conv c).clamp.getD i 0) →
    ∀ code, code = (if i < 3 then colourCode (v - level) (cfg.rd Reg.CHAN_FE_RANGE k i) (cfg.rdS Reg.CHAN_FE_OFFSET k i)
      else diagCode (i - 3) v s.plaus.level) →
    Completes (.forceDone c v ref) s fun t =>
      (t.conv c).forced = none ∧ t.rd Reg.FORCE_RESULT_VALUE c = code.1 % 2 ^ 14 ∧
      t.rd Reg.FORCE_RESULT_OVR c = code.2.toNat ∧ t.rd Reg.FORCE_RESULT_DONE c = 1 ∧
      t.rd Reg.FORCE_RESULT_INPUT c = i ∧
      (∀ g, s.convGroup c = some g → t.rd Reg.FORCE_TIME_LO c = (s.tb.ns - 4000000 / s.pixKhz g) % 2 ^ 32) ∧
      t.eventSet Ev.CH_FORCE_DONE c = true ∧ EventsKept s t ∧
      OnlyChanges [.regs, .nt, .out, .converters, .cast] s t)) ∧
  ((∀ (s : State) (v : Word), s.alive = true →
    ∀ refused : Bool, refused = (s.running || s.on Reg.BANK_CAL_BUSY || !s.on Reg.TB_STATUS_LOCKED) →
    (v.toNat.testBit 0 = true → refused = true →
      Completes (.bankCalStart v) s fun t => Told s t ∧ t.eventSet Ev.CH_CAL_REFUSED 96 = true ∧ EventsKept s t) ∧
    (v.toNat.testBit 0 = true → refused = false →
      Completes (.bankCalStart v) s fun t =>
        t.rd Reg.BANK_CAL_BUSY = 1 ∧
        (∀ c, c < 97 → t.rd Reg.CAL_STATUS_STATE c = 3 ∧ (t.conv c).stateBefore = s.rd Reg.CAL_STATUS_STATE c ∧
          (t.conv c).forced = none) ∧ OnlyChanges [.regs, .converters] s t)) ∧
  (∀ (s : State) (results : List Measured), s.alive = true → s.on Reg.BANK_CAL_BUSY = true → results.length = 97 →
    Completes (.bankCalDone results) s fun t =>
      t.rd Reg.BANK_CAL_BUSY = 0 ∧ t.eventSet Ev.CH_BANK_CAL_DONE 96 = true ∧
      (∀ c, c < 97 → ∀ m, m = results.getD c ([], [], [], 0) →
        (calPasses m = true →
          t.rd Reg.CAL_STATUS_STATE c = 1 ∧ t.rd Reg.PLAUS_STATUS_SUSPECT c = 0 ∧
          t.rd Reg.CAL_TEMP_VALUE c = low 16 m.2.2.2 ∧ t.rd Reg.CAL_TIME_LO c = s.tb.ns % 2 ^ 32 ∧
          (∀ i, i < 6 → t.rd Reg.CAL_STAGE_GAIN c i = m.1.getD i 0 % 2 ^ 16) ∧
          (∀ i, i < 3 → t.rd Reg.CAL_PATH_OFFSET c i = low Reg.CAL_PATH_OFFSET.width (m.2.1.getD i 0) ∧
            t.rd Reg.CAL_PATH_GAIN c i = m.2.2.1.getD i 0 % 2 ^ 16) ∧
          (∀ j, j < 4 → t.rd Reg.TRIM_VALID (c / 16) (c % 16) j = 0) ∧ t.eventSet Ev.CH_CAL_DONE c = true) ∧
        (calPasses m = false →
          t.rd Reg.CAL_STATUS_STATE c = 2 ∧ t.eventSet Ev.CH_CAL_FAIL c = true ∧
          (∀ i, i < 6 → t.rd Reg.CAL_STAGE_GAIN c i = s.rd Reg.CAL_STAGE_GAIN c i))) ∧
      EventsKept s t))

/-- R114, R118, R121, R122, R123, R125. What makes a channel pending, the release of a RETAINED channel, the choice of
the next channel, a step boundary of offline calibration, and a host write to a trim slot. R114, R116, R117, R118,
R120. The end of a match window in SHADOW and in SHADOW_BACK, and the end of an offline calibration. -/
def Obligations.Castling : Prop :=
  ((∀ (s : State) (v : Word), s.alive = true → ∀ c, c = v.toNat % 128 →
    (v.toNat.testBit 30 = true → 96 < c ∨ s.castEnabled = false →
      Completes (.castReqGo v) s fun t => Told s t ∧ t.eventSet Ev.CAST_REQ_IGNORED = true ∧ EventsKept s t) ∧
    (v.toNat.testBit 30 = true → c ≤ 96 → s.castEnabled = true →
      Completes (.castReqGo v) s fun t =>
        c ∈ t.cast.host ∧ (∀ d, d ≠ c → (d ∈ t.cast.host ↔ d ∈ s.cast.host)) ∧ OnlyChanges [.cast] s t) ∧
    (v.toNat.testBit 31 = true → s.castState ≠ 5 ∨ s.castChan ≠ c →
      Completes (.castReqRelease v) s fun t => Told s t ∧ t.eventSet Ev.CAST_REQ_IGNORED = true ∧ EventsKept s t) ∧
    (v.toNat.testBit 31 = true → s.castState = 5 → s.castChan = c → c < 96 →
      Completes (.castReqRelease v) s fun t =>
        t.castState = 0 ∧ t.rd Reg.CAST_LAST_OUTCOME = 9 ∧ t.rd Reg.CAST_LAST_CHAN = c ∧
        t.rd Reg.CAST_QUAL_OUTCOME 0 c = 9 ∧
        (s.running = true → t.cast.swap = some (true, 2) ∧ t.rd Reg.CAST_STATUS_CARRYING = s.rd Reg.CAST_STATUS_CARRYING) ∧
        (s.running = false → t.rd Reg.CAST_STATUS_CARRYING = 0 ∧ t.cast.connected = false ∧
          t.eventSet Ev.CAST_SWAP_BACK = true) ∧
        t.eventSet Ev.CAST_CYCLE_DONE = true ∧ EventsKept s t)) ∧
  (∀ (s : State) (c : Fin 96), s.alive = true →
    (s.on Reg.CAST_CTL_AUTO = true → s.rd Reg.THERM_STATUS_STATE ≠ 1 → s.rd Reg.CAST_TRIG_INTERVAL_S ≠ 0 →
      Completes (.castIntervalDue c) s fun t => c.val ∈ t.cast.interval ∧ OnlyChanges [.cast] s t) ∧
    (s.on Reg.CAST_CTL_AUTO = false ∨ s.rd Reg.THERM_STATUS_STATE = 1 ∨ s.rd Reg.CAST_TRIG_INTERVAL_S = 0 →
      Completes (.castIntervalDue c) s fun t => t = s)) ∧
  (∀ s : State, s.alive = true → s.castState = 0 → s.on Reg.CAST_CTL_EN = true → s.running = true → s.carrying = false →
    s.cast.swap = none → s.cast.offline = none →
    (s.spareDue = true → Completes .castSelect s fun t =>
      t.castState = 1 ∧ t.cast.offline = some 96 ∧ t.cast.connected = s.cast.connected ∧ OnlyChanges [.regs, .cast] s t) ∧
    (s.spareDue = false → (∀ k, k < 96 → s.castRank k = none) → Completes .castSelect s fun t => t = s) ∧
    (s.spareDue = false → ∀ k, k < 96 → (s.castRank k).isSome = true → s.cast.excess = [] →
      Completes .castSelect s fun t =>
        t.castState = 2 ∧ t.cast.connected = true ∧ t.cast.settle = s.rd Reg.CAST_MATCH_SETTLE ∧ t.cast.lines = 0 ∧
        ((s.castRank k).all fun a => (s.castRank t.castChan).any fun b => a.1 < b.1 || (a.1 == b.1 && a.2 ≤ b.2)) = true ∧
        t.cast.frozen = (s.conv t.castChan).trims ∧ OnlyChanges [.regs, .cast] s t)) ∧
  (∀ (s : State) (c : Nat), s.alive = true → s.cast.offline = some c →
    (s.cast.aborting = false → Completes .offlineStepBoundary s fun t =>
      t.cast.eligible = (s.conv c).forced.isSome ∧ t.cast.offline = some c ∧ OnlyChanges [.cast] s t) ∧
    (s.cast.aborting = true → c < 96 → Completes .offlineStepBoundary s fun t =>
      t.cast.offline = none ∧ t.cast.aborting = false ∧
      t.rd Reg.CAL_STATUS_STATE c = s.cast.before.getD 0 0 % 4 ∧
      (∀ i, i < 6 → t.rd Reg.CAL_STAGE_GAIN c i = s.cast.before.getD (2 + i) 0 % 2 ^ 16) ∧
      OnlyChanges [.regs, .cast] s t)) ∧
  (∀ (s : State) (c : Fin 97) (j : Fin 4) (w : Fin 8) (v : Word), s.alive = true →
    ∀ refused : Bool, refused = (s.inCycle c || (c.val == 96 && s.cast.connected)) →
    (refused = true →
      Completes (.trimSlotWrite c j w v) s fun t =>
        Told s t ∧ t.eventSet Ev.CAST_TRIM_WRITE_REFUSED = true ∧ EventsKept s t) ∧
    (refused = false → w.val < 4 → c.val ≠ 96 ∨ j.val = 0 →
      Completes (.trimSlotWrite c j w v) s fun t =>
        t.rd Reg.TRIM_HOST (c / 16) (c % 16) j = 1 ∧
        (w.val = 1 → t.rd Reg.TRIM_GAIN0 (c / 16) (c % 16) j = v.toNat % 2 ^ 16 ∧
          t.rd Reg.TRIM_OFFSET0 (c / 16) (c % 16) j = v.toNat / 2 ^ 16) ∧
        OnlyChanges [.regs] s t))) ∧
  ((∀ s : State, s.alive = true → s.castState = 2 ∨ s.castState = 4 → s.rd Reg.CAST_MATCH_LINES ≤ s.cast.lines →
    ∀ k, k = s.castChan → k < 96 →
    ∀ fits, fits = (List.range 3).map (fun col =>
      if (s.coloursOn k).getD col false then fitColour (s.cast.acc.getD col []) (s.rd Reg.CAST_ACCEPT_MIN_SPAN)
      else ⟨true, {}, 0⟩) →
    ∀ last : Bool, last = decide (s.rd Reg.CAST_MATCH_MAX_WIN ≤ s.rd Reg.CAST_STATUS_WIN + 1) →
    (fits.all (·.span) = true → fits.all (·.accepted (s.rd Reg.CAST_ACCEPT_TOL)) = true → s.castState = 2 →
      Completes .castMatchWindowEnd s fun t =>
        t.castState = 3 ∧ t.rd Reg.CAL_STATUS_STATE k = 3 ∧ t.slotTrims 96 0 = fits.map (·.trim) ∧
        t.rd Reg.TRIM_VALID 6 0 0 = 1 ∧ (s.running = true → t.cast.swap = some (false, 2)) ∧ EventsKept s t) ∧
    (fits.all (·.span) = true → fits.all (·.accepted (s.rd Reg.CAST_ACCEPT_TOL)) = true → s.castState = 4 →
      Completes .castMatchWindowEnd s fun t =>
        t.castState = 0 ∧ t.rd Reg.CAL_STATUS_STATE k = 1 ∧ t.rd Reg.PLAUS_STATUS_SUSPECT k = 0 ∧
        t.rd Reg.CAST_LAST_OUTCOME = 1 ∧ t.rd Reg.CAST_QUAL_OUTCOME 0 k = 1 ∧ t.rd Reg.CAL_TIME_LO k = s.tb.ns % 2 ^ 32 ∧
        k ∉ t.cast.host ∧ k ∉ t.cast.interval ∧ t.eventSet Ev.CAST_CYCLE_DONE = true ∧
        (s.running = true → t.cast.swap = some (true, 2)) ∧ EventsKept s t) ∧
    (fits.all (·.span) = true → fits.all (·.accepted (s.rd Reg.CAST_ACCEPT_TOL)) = false →
      Completes .castMatchWindowEnd s fun t =>
        t.eventSet Ev.CAST_MATCH_FAIL = true ∧ EventsKept s t ∧
        (last = false → t.castState = s.castState ∧ t.cast.lines = 0 ∧
          t.rd Reg.CAST_STATUS_WIN = (s.rd Reg.CAST_STATUS_WIN + 1) % 2 ^ Reg.CAST_STATUS_WIN.width) ∧
        (last = true → s.castState = 2 → t.castState = 0 ∧ t.rd Reg.CAST_LAST_OUTCOME = 3) ∧
        (last = true → s.castState = 4 → t.castState = 5 ∧ t.rd Reg.CAST_LAST_OUTCOME = 5 ∧
          t.rd Reg.CAL_STATUS_STATE k = 1 ∧ t.eventSet Ev.CAST_RETAINED = true)) ∧
    (fits.all (·.span) = false → s.castState = 4 →
      Completes .castMatchWindowEnd s fun t =>
        t.castState = 4 ∧ t.cast.lines = 0 ∧ OnlyChanges [.cast] s t)) ∧
  (∀ (s : State) (errors : List (List Nat)) (gains : List Nat) (c : Nat), s.alive = true → s.cast.offline = some c →
    c < 97 → s.cast.aborting = false → errors.length = 6 → gains.length = 6 →
    ∀ pass : Bool, pass = gains.all (fun g => decide (90 * 32768 ≤ 100 * g ∧ 100 * g ≤ 110 * 32768)) →
    Completes (.castOfflineCalEnd errors gains) s fun t =>
      t.cast.offline = none ∧ EventsKept s t ∧
      (pass = true → (∀ i, i < 6 → t.rd Reg.CAL_STAGE_GAIN c i = gains.getD i 0 % 2 ^ 16) ∧
        t.rd Reg.CAST_QUAL_ELEM 0 c = elemWord errors % 2 ^ Reg.CAST_QUAL_ELEM.width) ∧
      (pass = true → c < 96 → t.castState = 4 ∧ t.cast.lines = 0 ∧ t.cast.settle = s.rd Reg.CAST_MATCH_SETTLE) ∧
      (pass = true → c = 96 → t.castState = 0 ∧ t.rd Reg.CAL_STATUS_STATE 96 = 1 ∧ t.rd Reg.CAST_LAST_OUTCOME = 1) ∧
      (pass = false → t.eventSet Ev.CAST_OFFLINE_FAIL = true ∧ t.rd Reg.CAL_STATUS_STATE c = 2) ∧
      (pass = false → c < 96 → t.castState = 5 ∧ t.rd Reg.CAST_LAST_OUTCOME = 4 ∧ t.eventSet Ev.CAST_RETAINED = true) ∧
      (pass = false → c = 96 → t.castState = 6 ∧ t.rd Reg.CAST_LAST_OUTCOME = 8 ∧ t.eventSet Ev.CAST_SPARE_FAIL = true)))

/-- R141, R142, R143, R144, R155, R162. A capture begins, ends with every enabled channel filled or falls short; the
transfer aperture reads and writes one word of the chosen image; and PW_CTL.RESET. -/
def Obligations.OpalImages : Prop :=
  (∀ (s : State) (v : Word), s.alive = true →
    ∀ ignored : Bool, ignored = (s.capturing || !s.running || s.opal.writes.any fun w => w.1 == s.opal.roles.getD 0 0) →
    (v.toNat.testBit 0 = true → ignored = true →
      Completes (.opalCapGo v) s fun t => Told s t ∧ t.eventSet Ev.OPAL_CAP_IGNORED = true ∧ EventsKept s t) ∧
    (v.toNat.testBit 0 = true → ignored = false →
      Completes (.opalCapGo v) s fun t =>
        t.rd Reg.OPAL_CAP_STATUS_STATE = 1 ∧ t.rd Reg.OPAL_CAP_STATUS_KIND = v.toNat / 2 % 2 ∧
        t.rd Reg.OPAL_CAP_STATUS_LINES = 0 ∧ t.rd Reg.OPAL_CAP_START_LO = (s.lt.line + 64) % 2 ^ 32 ∧
        t.opal.start = s.lt.line + 64 ∧ t.opal.linesLog = max 4 (min 12 (v.toNat / 4 % 16)) ∧
        OnlyChanges [.regs, .opal] s t)) ∧
  (∀ s : State, s.alive = true → s.capturing = true → ∀ n, n = 2 ^ s.opal.linesLog →
    (n ≤ s.capFewest →
      Completes .opalCapEnd s fun t =>
        t.rd Reg.OPAL_CAP_STATUS_STATE = 0 ∧ t.rd Reg.OPAL_CAP_STATUS_OUTCOME = 1 ∧ t.eventSet Ev.OPAL_CAP_DONE = true ∧
        (∀ c, c < 96 → n ≤ (s.captureLines c).length → t.rd Reg.OPAL_HDR_VALID 4 c = s.opal.kind % 2) ∧ EventsKept s t) ∧
    (s.capFewest < n → s.opal.start + 2 * n < s.lt.line →
      Completes .opalCapEnd s fun t =>
        t.rd Reg.OPAL_CAP_STATUS_STATE = 0 ∧ t.rd Reg.OPAL_CAP_STATUS_OUTCOME = 2 ∧ t.eventSet Ev.OPAL_CAP_SHORT = true ∧
        t.opal.memory = s.opal.memory ∧ EventsKept s t) ∧
    (s.capFewest < n → s.lt.line ≤ s.opal.start + 2 * n → Completes .opalCapEnd s fun t => t = s)) ∧
  (∀ (s : State) (agent : Agent) (w : Fin 512), s.alive = true → ∀ image, image = s.rd Reg.XFER_IMAGE_IMAGE →
    ∀ b, b = 2048 * s.rd Reg.XFER_ADDR_ADDR + 4 * w →
    (∀ v : Word, b < imageSize image → s.xferRefused image = false →
      Completes (.xferWindowAccess agent none w 0 4 (some (v.setWidth 64))) s fun t =>
        t.opal.writes = s.opal.writes ++ [(s.opal.roles.getD image 0, b, v.toNat)] ∧ t.opal.memory = s.opal.memory ∧
        t.rd Reg.XFER_ADDR_ADDR =
          (if w.val = 511 then (s.rd Reg.XFER_ADDR_ADDR + 1) % 2 ^ Reg.XFER_ADDR_ADDR.width else s.rd Reg.XFER_ADDR_ADDR)) ∧
    (∀ v : Word, b < imageSize image → s.xferRefused image = true →
      Completes (.xferWindowAccess agent none w 0 4 (some (v.setWidth 64))) s fun t =>
        t.opal = s.opal ∧ t.eventSet Ev.XFER_REFUSED = true ∧ EventsKept s t) ∧
    (b < imageSize image → s.opal.writes = [] →
      Completes (.xferWindowAccess agent none w 0 4 none) s fun t =>
        t.out = .readData agent 0x141 (0x800 + 4 * w)
          (s.half (s.opal.roles.getD image 0) (b / 2) + s.half (s.opal.roles.getD image 0) (b / 2 + 1) <<< 16) :: s.out ∧
        t.opal = s.opal) ∧
    (imageSize image ≤ b →
      Completes (.xferWindowAccess agent none w 0 4 none) s fun t =>
        t.out.head? = some (.readData agent 0x141 (0x800 + 4 * w) 0) ∧ t.opal = s.opal ∧
        t.eventSet Ev.XFER_RANGE = true ∧ EventsKept s t)) ∧
  (∀ (s : State) (p b v : Nat) (l : List (Nat × Nat × Nat)), s.alive = true → s.opal.writes = (p, b, v) :: l →
    p < 5 → v < 2 ^ 32 →
    Completes .xferWriteStored s fun t =>
      t.half p (b / 2) = v % 2 ^ 16 ∧ t.half p (b / 2 + 1) = v / 2 ^ 16 ∧ t.opal.writes = l ∧
      (∀ i, i < 1048576 → i ≠ b / 2 → i ≠ b / 2 + 1 → t.half p i = s.half p i) ∧ OnlyChanges [.opal] s t) ∧
  (∀ (s : State) (v : Word), s.alive = true → v.toNat.testBit 2 = true →
    (s.running = true →
      Completes (.pwReset v) s fun t =>
        t.pw.resetAt = some (s.lt.line + 64) ∧ t.pw.gains = (s.lt.line + 64, []) :: s.pw.gains ∧
        OnlyChanges [.regs, .force, .shadow, .pw] s t) ∧
    (s.running = false →
      Completes (.pwReset v) s fun t =>
        t.pw.gains = [] ∧
        (∀ j, j < 96 → t.rd Reg.PW_GAIN_RED (j / 8) (j % 8) = 0x4000 ∧ t.rd Reg.PW_GAIN_GREEN (j / 8) (j % 8) = 0x4000 ∧
          t.rd Reg.PW_GAIN_BLUE (j / 8) (j % 8) = 0x4000 ∧ t.rd Reg.PW_GAIN_AT_LIMIT (j / 8) (j % 8) = 0) ∧
        OnlyChanges [.regs, .force, .shadow, .pw] s t))

/-- R173, R174, R175, R177, R179, R180, R183. A REF_LINES descriptor is refused as malformed, waits as early, or begins; a
descriptor that waited begins when the limit has reached it; and at the arrival instant every line is written, stale or
refused, or the whole descriptor fails its CRC. -/
def Obligations.ReferenceFeed : Prop :=
  (∀ (s : State) (q : Fin 262144), s.alive = true → ∀ x w, s.refHead q = some (x, w) →
    s.domain 3 = 2 → x.early = false →
    (s.refReason q w ≠ 0 → s.refEarly w = false →
      Completes (.refLines q) s fun t =>
        t.rd Reg.REF_MALFORMED_COUNT = (s.rd Reg.REF_MALFORMED_COUNT + 1) % 2 ^ 32 ∧ t.eventSet Ev.REF_MALFORMED = true ∧
        (t.queue q).map (·.cons) = some ((x.cons + 1) % 2 ^ 32) ∧ t.ref = s.ref ∧ EventsKept s t) ∧
    (s.refEarly w = true →
      Completes (.refLines q) s fun t =>
        (t.queue q).map (·.early) = some true ∧ (t.queue q).map (·.cons) = some x.cons ∧
        t.rd Reg.REF_STATE_WAITING = 1 ∧ t.eventSet Ev.REF_WAITED = true ∧ t.ref = s.ref ∧ t.dma = s.dma ∧
        EventsKept s t) ∧
    (s.refReason q w = 0 → s.refEarly w = false → (s.channel x.channel).current = none →
      (s.channel x.channel).waiting = [] → s.rd Reg.DMA_STATUS_STATE x.channel ≠ 2 → s.holds (tenantOf q) x.channel = true →
      Completes (.refLines q) s fun t =>
        (t.queue q).map (·.cons) = some ((x.cons + 1) % 2 ^ 32) ∧
        ((t.channel x.channel).current.map fun y => (y.payload, y.queue, y.n0, y.n1, y.src)) =
          some (true, q.val, wordAt w 0x2C, bitsOf (wordAt w 0x24) 16 16, wordAt w 0x18 + 2 ^ 32 * wordAt w 0x1C) ∧
        t.rd Reg.DMA_STATUS_STATE x.channel = 1 ∧ t.ref = s.ref ∧ EventsKept s t)) ∧
  (∀ (s : State) (q : Fin 262144), s.alive = true → ∀ x w, s.refHead q = some (x, w) →
    s.domain 3 = 2 → x.early = true →
    (s.refEarly w = true → Completes (.refEarlyFetch q) s fun t => t = s) ∧
    (s.refReason q w ≠ 0 → s.refEarly w = false →
      Completes (.refEarlyFetch q) s fun t =>
        t.rd Reg.REF_MALFORMED_COUNT = (s.rd Reg.REF_MALFORMED_COUNT + 1) % 2 ^ 32 ∧ t.eventSet Ev.REF_MALFORMED = true ∧
        (t.queue q).map (·.cons) = some ((x.cons + 1) % 2 ^ 32) ∧ t.ref = s.ref ∧ EventsKept s t) ∧
    (s.refReason q w = 0 → s.refEarly w = false → (s.channel x.channel).waiting.length < 32 →
      Completes (.refEarlyFetch q) s fun t =>
        (t.queue q).map (·.cons) = some ((x.cons + 1) % 2 ^ 32) ∧ (t.queue q).map (·.early) = some false ∧
        t.ref = s.ref ∧ EventsKept s t)) ∧
  (∀ (s : State) (c : Fin 64), s.alive = true → ∀ x, (s.channel c).current = some x → x.payload = true →
    x.stop = none → x.n0 * x.n1 ≤ x.data.length →
    ∀ bad : Bool, bad = (((wordAt x.words 0x30).testBit 22 && crc32 x.data != wordAt x.words 0x38) ||
      (!(wordAt x.words 0x30).testBit 22 && s.on Reg.REF_CTL_CRC_REQ)) →
    ∀ j, j = s.jobTagged (bitsOf (wordAt x.words 0x30) 0 16) →
    ∀ n, n = (fun k => ((List.range (refCount x.words)).filter fun i =>
      s.arrivalOf j (refLine x.words + i) == k).length) →
    (bad = true →
      Completes (.refArrival c) s fun t =>
        t.rd Reg.REF_MALFORMED_COUNT = (s.rd Reg.REF_MALFORMED_COUNT + 1) % 2 ^ 32 ∧ t.eventSet Ev.REF_MALFORMED = true ∧
        t.ref = s.ref ∧ EventsKept s t) ∧
    (bad = false →
      Completes (.refArrival c) s fun t =>
        t.rd Reg.REF_STALE_COUNT = (s.rd Reg.REF_STALE_COUNT + n 1) % 2 ^ 32 ∧
        t.rd Reg.REF_REWRITE_COUNT = (s.rd Reg.REF_REWRITE_COUNT + n 2) % 2 ^ 32 ∧
        (n 1 ≠ 0 → t.eventSet Ev.REF_STALE = true) ∧ (n 2 ≠ 0 → t.eventSet Ev.REF_REWRITE_REFUSED = true) ∧
        (n 0 = 0 → t.ref = s.ref) ∧
        (∀ y, j = some y → s.jobById y.id = some y → Table.rising 0 y.lines = true →
          ∀ i, i < refCount x.words → s.arrivalOf j (refLine x.words + i) = 0 →
          ((t.jobById y.id).bind fun z => tfind (refLine x.words + i) z.lines) =
            some ((x.data.drop (i * wordAt x.words 0x2C)).take (wordAt x.words 0x2C))) ∧ EventsKept s t))

/-- R193, R194, R196, R199, R203. The decision of a tile and what it counts; a decided row becomes available, and moves
registration from acquiring to tracking; and a new acquisition that the host asks for. -/
def Obligations.RegistrationRows : Prop :=
  (∀ (s : State) (c : Fin 1024), s.alive = true → ∀ x, s.reg.current = some x →
    ∀ j, s.jobById x.1 = some j → ∀ size, size = tileSize x.2.2 →
    ∀ cols, cols = s.columns (s.atLine (j.rowFirst size x.2.1)) j size →
    cols.1 ≤ c → c < cols.1 + cols.2 → tfind c.val s.reg.tiles = none → s.allPast (j.rowLast size x.2.1) = true →
    ∀ d, d = s.decideTile j size x.2.1 c →
    Completes (.regTileDecide c) s fun t =>
      (s.reg.tiles.length + 1 < cols.2 → tfind c.val t.reg.tiles = some d.tile ∧ t.reg.current = s.reg.current ∧
        t.reg.ready = s.reg.ready) ∧
      (cols.2 ≤ s.reg.tiles.length + 1 → t.reg.tiles = [] ∧
        t.reg.ready.map (fun r => (r.job, r.row, r.tile, r.col0)) =
          s.reg.ready.map (fun r => (r.job, r.row, r.tile, r.col0)) ++ [(x.1, x.2.1, x.2.2, cols.1)]) ∧
      t.rd Reg.REG_FAIL_A_FEW = (s.rd Reg.REG_FAIL_A_FEW + (if d.reason = 1 then 1 else 0)) % 2 ^ Reg.REG_FAIL_A_FEW.width ∧
      t.rd Reg.REG_FAIL_A_TEX = (s.rd Reg.REG_FAIL_A_TEX + (if d.reason = 2 then 1 else 0)) % 2 ^ Reg.REG_FAIL_A_TEX.width ∧
      t.rd Reg.REG_FAIL_C_RANGE =
        (s.rd Reg.REG_FAIL_C_RANGE + (if d.reason = 3 then 1 else 0)) % 2 ^ Reg.REG_FAIL_C_RANGE.width ∧
      t.rd Reg.REG_FAIL_B_CONF =
        (s.rd Reg.REG_FAIL_B_CONF + (if d.reason = 4 then 1 else 0)) % 2 ^ Reg.REG_FAIL_B_CONF.width ∧
      t.rd Reg.REG_FAIL_B_MARGIN =
        (s.rd Reg.REG_FAIL_B_MARGIN + (if d.reason = 5 then 1 else 0)) % 2 ^ Reg.REG_FAIL_B_MARGIN.width ∧
      t.rd Reg.REG_FAIL_C_COARSE =
        (s.rd Reg.REG_FAIL_C_COARSE + (if d.coarse then 1 else 0)) % 2 ^ Reg.REG_FAIL_C_COARSE.width ∧
      OnlyChanges [.regs, .reg] s t) ∧
  (∀ (s : State), s.alive = true → ∀ x, s.rowNext = some x → ∀ j, s.jobById x.job = some j → j.stop = none →
    ∀ due, due = j.rowFirst (tileSize x.tile) (x.row + 1) + 8 → ∀ most, most = s.lanesNext.foldl max 0 →
    (most < due → Completes .rowDone s fun t => t = s) ∧
    (due ≤ most →
      Completes .rowDone s fun t =>
        t.reg.ready = s.reg.ready.erase x ∧ t.reg.rows = { x with avail := most } :: s.reg.rows ∧
        t.rd Reg.REG_ROW_ROW = x.row % 2 ^ 32 ∧
        t.rd Reg.REG_ROW_INFO_ACCEPTED = (x.tiles.filter (·.accepted)).length % 2 ^ Reg.REG_ROW_INFO_ACCEPTED.width ∧
        t.eventSet Ev.REG_ROW_DONE = true ∧ (due < most → t.eventSet Ev.REG_ROW_LATE = true) ∧
        (s.rd Reg.REG_STATUS_STATE = 1 → ((s.reg.history.head?).map (·.line)).getD 0 ≤ most → x.qualified = true →
          ∀ need, need = max 1 ((s.atLine (j.rowFirst (tileSize x.tile) x.row)).rd Reg.REG_ACQ_ROWS) →
          ∀ have', have' = min 15 (s.rd Reg.REG_STATUS_QROWS + 1) →
          (need ≤ have' → t.rd Reg.REG_STATUS_STATE = 2 ∧ t.rd Reg.REG_STATUS_QROWS = 0 ∧
            t.rd Reg.REG_TRACK_LINE_LO_VALUE = most % 2 ^ 32 ∧ t.eventSet Ev.REG_ACQUIRED = true) ∧
          (have' < need → t.rd Reg.REG_STATUS_STATE = 1 ∧ t.rd Reg.REG_STATUS_QROWS = have')) ∧
        EventsKept s t)) ∧
  (∀ (s : State) (v : Word), s.alive = true →
    (v.toNat % 2 = 1 → s.rd Reg.REG_STATUS_STATE ≠ 0 →
      Completes (.regReacq v) s fun t =>
        t.rd Reg.REG_STATUS_STATE = 1 ∧ t.rd Reg.REG_STATUS_QROWS = 0 ∧
        t.rd Reg.REG_ACQ_LINE_LO_VALUE = (s.lt.line + 64) % 2 ^ 32 ∧
        t.rd Reg.REG_ACQS_COUNT = (s.rd Reg.REG_ACQS_COUNT + 1) % 2 ^ Reg.REG_ACQS_COUNT.width ∧
        (∃ k, t.reg.history = { line := s.lt.line + 64, active := true, tile := k } :: s.reg.history) ∧ EventsKept s t) ∧
    (v.toNat % 2 = 0 ∨ s.rd Reg.REG_STATUS_STATE = 0 → Completes (.regReacq v) s fun t => t = s))

/-- R132, R149, R152, R154, R155, R158, R545. A lane emits its next output line once every read-out of it has ended, the
last lane of a device with an eastern neighbour only with that neighbour's part or when the wait expires; and a
paper-white window ends. -/
def Obligations.LaneOutput : Prop :=
  (∀ (s : State) (k : Fin 12), s.alive = true → ∀ y, y = (s.lane k).next →
    (s.laneReady k = true → (k.val = 11 → s.eastNeighbour = true → (tfind y s.joints).isSome = true) →
      Completes (.laneOutputLine k) s fun t =>
        (t.lane k).next = y + 1 ∧ (∀ i, i ≠ k.val → t.lane i = s.lane i) ∧
        ((tfind (16 * y + k) t.outLines).map fun l => (l.first, l.time, l.gen, l.pixels)) =
          some ((s.outputLine k y).first, (s.line y).time, s.genAt y, (s.outputLine k y).pixels) ∧
        ((s.outputLine k y).incomplete = true →
          t.rd Reg.LANE_INCOMPLETE_COUNT k = (s.rd Reg.LANE_INCOMPLETE_COUNT k + 1) % 2 ^ 32 ∧
          t.eventSet Ev.LANE_ALIGN_INCOMPLETE k = true) ∧
        EventsKept s t) ∧
    (s.laneReady k = false ∨ (k.val = 11 ∧ s.eastNeighbour = true ∧ (tfind y s.joints).isSome = false) →
      Completes (.laneOutputLine k) s fun t => t = s)) ∧
  (∀ s : State, s.alive = true → ∀ y, y = (s.lane 11).next →
    (s.laneReady 11 = true → s.eastNeighbour = true → (tfind y s.joints).isSome = false →
      Completes .jointWaitExpiry s fun t =>
        (t.lane 11).next = y + 1 ∧
        ((tfind (16 * y + 11) t.outLines).map (·.pixels)) = some (s.outputLine 11 y).pixels ∧ EventsKept s t) ∧
    (s.laneReady 11 = false ∨ s.eastNeighbour = false ∨ (tfind y s.joints).isSome = true →
      Completes .jointWaitExpiry s fun t => t = s)) ∧
  (∀ s : State, s.alive = true → ∀ w, s.pw.oldest = some w →
    ∀ front, front = s.lanesNext.foldl max 0 → ∀ ye, ye = w.2 →
    (w.1.cut = true →
      Completes .pwWindowEnd s fun t =>
        t.pw.ended = s.pw.ended + 1 ∧ t.pw.gains = s.pw.gains ∧ t.pw.windows = s.pw.windows ∧ OnlyChanges [.pw] s t) ∧
    (w.1.cut = false → s.running = true → s.allPast (ye + w.1.settings.getD 1 0) = true →
      Completes .pwWindowEnd s fun t =>
        t.pw.ended = s.pw.ended + 1 ∧ (t.pw.gains.head?).map (·.1) = some (max (ye + 64) front) ∧
        t.pw.gains.tail = s.pw.gains ∧ t.rd Reg.PW_WINDOWS_COUNT = (s.rd Reg.PW_WINDOWS_COUNT + 1) % 2 ^ 32 ∧
        t.eventSet Ev.PW_WINDOW_DONE = true ∧ (ye + 64 < front → t.eventSet Ev.PW_PW_LATE = true) ∧
        (w.1.settings.getD 0 1 ≠ 1 → t.eventSet Ev.PW_STARVED = true ∧
          ∀ j, j < 96 → (t.pw.gains.head?).map (fun e => e.2.getD j {}) = some ((s.pw.at (ye + 64)).getD j {})) ∧
        EventsKept s t ∧ OnlyChanges [.regs, .nt, .out, .pw] s t) ∧
    (w.1.cut = false → s.running = false ∨ s.allPast (ye + w.1.settings.getD 1 0) = false →
      Completes .pwWindowEnd s fun t => t = s)) ∧
  (∀ s : State, s.alive = true → s.pw.oldest = none → Completes .pwWindowEnd s fun t => t = s)

/-- The record `r` can be staged: its queue takes its kind, a slot is free, and a stream has room (R225, R238). -/
def Sys2Proof.Machine.State.Stages (s : State) (r : Staged) : Prop :=
  s.queueTakes r.queue r.kind = true ∧ s.slotFree r = true ∧ (kindType r.kind = 5 → s.streamSpace r.queue r.blocks = true)

/-- R213, R218, R222, R223, R225, R228, R229, R230. The labeller finishes a line once the second line after it has been
compared; blobs, verdicts and coverage records are staged in order, or dropped and counted; coverage enters and
leaves backlog. R240, R243, R244, R249, R251, R252, R254. A patch and a mark window that have ended give their
records; a preview line; the token of the crop rate limiter; a crop is written, or discarded when its blob did not
fail. -/
def Obligations.Records : Prop :=
  ((∀ s : State, s.alive = true →
    ∀ edges : Bool, edges = ((!s.westNeighbour || (tfind (2 * (s.comp.next + 2)) s.comp.edges).isSome) &&
      (!s.eastNeighbour || (tfind (2 * (s.comp.next + 2) + 1) s.comp.edges).isSome)) →
    (s.running = true → s.allPast (s.comp.next + 2) = true → edges = true →
      Completes .labelLineDone s fun t =>
        t.comp.next = s.comp.next + 1 ∧ t.outLines = s.outLines ∧
        t.rd Reg.COMP_STATUS_OPEN_BLOBS = min 65535 (t.comp.blobs.filter fun b => !b.ghost).length ∧ EventsKept s t) ∧
    (s.running = false ∨ s.allPast (s.comp.next + 2) = false ∨ edges = false →
      Completes .labelLineDone s fun t => t = s)) ∧
  (∀ s : State, s.alive = true → ∀ c rest, s.comp.closed = c :: rest →
    ∀ r : Staged, r = { queue := c.queue, kind := 0, words := c.words, item := c.item } →
    (s.Stages r → Completes .blobRecordStage s fun t =>
      t.comp.closed = rest ∧ t.fr.staged = s.fr.staged ++ [r] ∧ t.comp.items = s.comp.items) ∧
    (s.queueTakes r.queue 0 = false ∨ s.slotFree r = false → Completes .blobRecordStage s fun t =>
      t.comp.closed = rest ∧ t.fr = s.fr ∧ t.rd Reg.COMP_DROP_BLOB =
        (s.rd Reg.COMP_DROP_BLOB + 1) % 2 ^ Reg.COMP_DROP_BLOB.width ∧ t.eventSet Ev.COMP_BLOB_DROP = true ∧
      EventsKept s t)) ∧
  (∀ s : State, s.alive = true → ∀ n i, s.nextItem = some (n, i) →
    ∀ r : Staged, r = { queue := i.queue, kind := 1, words := s.verdictRecord i, item := some n } →
    (s.holdsItem i = false → Completes .verdict s fun t =>
      t.out = .ikito 0 0x14 i.partFrame :: s.out ∧ t.comp.items = tdel n s.comp.items ∧ OnlyChanges [.comp, .out] s t) ∧
    (s.holdsItem i = true → s.Stages r → Completes .verdict s fun t =>
      t.fr.staged = s.fr.staged ++ [r] ∧ t.comp.items = tdel n s.comp.items ∧
      r.words.getD 0 0 / 2 ^ 16 % 4 =
        (if 0 < i.failing then 2
         else if (s.atLine i.last).rd Reg.COMP_LIMITS_MAX_UNINSP * (i.compared + i.uninsp) < i.uninsp * 256 then 3
         else if 0 < i.uninsp then 1 else 0) ∧
      r.words.getD 1 0 = i.id % 2 ^ 32 ∧
      t.rd Reg.COMP_VERDICTS_COUNT = (s.rd Reg.COMP_VERDICTS_COUNT + 1) % 2 ^ 32 ∧ sget t.comp.lost i.queue = 0) ∧
    (s.holdsItem i = true → s.queueTakes i.queue 1 = false → Completes .verdict s fun t =>
      t.fr = s.fr ∧ t.eventSet Ev.COMP_VERDICT_DROP = true ∧
      sget t.comp.lost i.queue = min 65535 (sget s.comp.lost i.queue + 1) ∧ EventsKept s t)) ∧
  (∀ s : State, s.alive = true → ∀ c rest, s.comp.coverClosed = c :: rest →
    ∀ q, q = c.queue → ∀ r : Staged, r = { queue := q, kind := 2, words := c.words } →
    (s.Stages r → Completes .coverageRecordStage s fun t =>
      t.comp.coverClosed = rest ∧ t.fr.staged = s.fr.staged ++ [r] ∧
      t.rd Reg.COV_RECORDS_COUNT = (s.rd Reg.COV_RECORDS_COUNT + 1) % 2 ^ 32) ∧
    (s.queueTakes q 2 = true → s.slotFree r = false → Completes .coverageRecordStage s fun t =>
      t.rd Reg.COMP_STATUS_COV_BACKLOG = 1 ∧ t.comp.coverClosed = [] ∧ t.comp.cover = [] ∧
      t.comp.backlog.isSome = true ∧ t.eventSet Ev.COMP_COV_BACKLOG = true ∧ EventsKept s t)) ∧
  (∀ s : State, s.alive = true → s.comp.coverLeft = [] → ∀ a b, s.comp.backlog = some (a, b) →
    ∀ q, q = (s.atLine b).rd Reg.COV_Q_QUEUE →
    (s.queueTakes q 2 = true → s.coverSlot = false → Completes .covBacklogResume s fun t => t = s) ∧
    (s.queueTakes q 2 = true → s.coverSlot = true → Completes .covBacklogResume s fun t =>
      t.comp.backlog = none ∧ t.rd Reg.COMP_STATUS_COV_BACKLOG = 0 ∧
      t.fr.staged = s.fr.staged ++ [{ queue := q, kind := 2, words := CovRecord.words ⟨0xFF, false, s.xFirst,
        s.xLast (s.atLine b), a, b, s.genAt b, q⟩ }] ∧
      t.rd Reg.COV_RECORDS_COUNT = (s.rd Reg.COV_RECORDS_COUNT + 1) % 2 ^ 32))) ∧
  ((∀ (s : State) (n : Fin 64), s.alive = true → ∀ w, s.windowDue (patchEntry n) (sget s.mp.patchFrom n) = some w →
    ∀ r : Staged, r = { queue := s.rd Reg.PROD_Q_QUEUE 0 0, kind := 5, words := s.patchRecord n w.1 w.2.1 w.2.2.1 w.2.2.2 } →
    (s.on Reg.PROD_Q_VALID 0 0 = true → s.Stages r → Completes (.patchMeasured n) s fun t =>
      sget t.mp.patchFrom n = w.1 + 1 ∧ t.fr.staged = s.fr.staged ++ [r] ∧ r.words.getD 0 0 % 2 ^ 8 = 0x25 ∧
      r.words.getD 2 0 = w.1 % 2 ^ 32 ∧ r.words.getD 4 0 = w.2.1 % 2 ^ 32 ∧
      (w.2.2.2 = true → t.eventSet Ev.PROD_TRUNC = true)) ∧
    (s.on Reg.PROD_Q_VALID 0 0 = false → Completes (.patchMeasured n) s fun t =>
      sget t.mp.patchFrom n = w.1 + 1 ∧ t.fr = s.fr ∧
      t.rd Reg.MEAS_DROP_PATCH = min 65535 (s.rd Reg.MEAS_DROP_PATCH + 1) ∧ t.eventSet Ev.PROD_MEAS_DROP = true ∧
      EventsKept s t)) ∧
  (∀ (s : State) (n : Fin 32), s.alive = true → ∀ w, s.windowDue (markEntry n) (sget s.mp.markFrom n) = some w →
    ∀ r : Staged, r = { queue := s.rd Reg.PROD_Q_QUEUE 0 0, kind := 6, words := s.markRecord n w.1 w.2.1 w.2.2.1 w.2.2.2 } →
    (s.on Reg.PROD_Q_VALID 0 0 = true → s.Stages r → Completes (.markMeasured n) s fun t =>
      sget t.mp.markFrom n = w.1 + 1 ∧ t.fr.staged = s.fr.staged ++ [r] ∧ r.words.getD 0 0 % 2 ^ 8 = 0x26 ∧
      r.words.getD 2 0 = w.1 % 2 ^ 32 ∧ r.words.getD 4 0 = w.2.1 % 2 ^ 32 ∧
      (w.2.2.2 = true → t.eventSet Ev.PROD_TRUNC = true)) ∧
    (s.on Reg.PROD_Q_VALID 0 0 = false → Completes (.markMeasured n) s fun t =>
      sget t.mp.markFrom n = w.1 + 1 ∧ t.fr = s.fr ∧
      t.rd Reg.MEAS_DROP_MARK = min 65535 (s.rd Reg.MEAS_DROP_MARK + 1) ∧ t.eventSet Ev.PROD_MEAS_DROP = true ∧
      EventsKept s t)) ∧
  (∀ s : State, s.alive = true → s.mp.stopAt = none →
    ∀ first, first = s.mp.prevBase + s.mp.prevIndex * (s.atLine s.mp.prevBase).rd Reg.PREV_GEOM_FY →
    ∀ fy, fy = (s.atLine first).rd Reg.PREV_GEOM_FY → 0 < fy → (∀ i, i < fy → s.prevChange (first + i) = false) →
    (s.linesEnd < first + fy → Completes .previewRecord s fun t => t = s) ∧
    (first + fy ≤ s.linesEnd → (s.atLine first).on Reg.MP_CTL_PREV_EN = false →
      Completes .previewRecord s fun t =>
        t.mp.prevBase = s.mp.prevBase ∧ t.mp.prevIndex = s.mp.prevIndex + 1 ∧ OnlyChanges [.mp] s t) ∧
    (first + fy ≤ s.linesEnd → (s.atLine first).on Reg.MP_CTL_PREV_EN = true →
      s.mp.prevIndex % max 1 ((s.atLine first).rd Reg.PREV_GEOM_SKIP) = 0 →
      (1 ≤ s.shedLevel → Completes .previewRecord s fun t =>
        t.mp.prevIndex = s.mp.prevIndex + 1 ∧ t.rd Reg.PREV_DROP_COUNT = (s.rd Reg.PREV_DROP_COUNT + 1) % 2 ^ 32 ∧
        t.eventSet Ev.PROD_PREV_DROP = true ∧ t.fr = s.fr ∧ EventsKept s t) ∧
      (s.shedLevel = 0 → s.on Reg.PROD_Q_VALID 0 1 = true →
        ∀ r : Staged, r = { queue := s.rd Reg.PROD_Q_QUEUE 0 1, kind := 8, words := s.prevRecord first (first + fy - 1) } →
        s.Stages r → Completes .previewRecord s fun t =>
          t.mp.prevIndex = s.mp.prevIndex + 1 ∧ t.fr.staged = s.fr.staged ++ [r] ∧ t.mp.prevLost = 0))) ∧
  (∀ s : State, s.alive = true →
    Completes .cropTokenRefill s fun t =>
      t.mp.tokens = (if s.rd Reg.CROP_RATE_PER_S = 0 then s.mp.tokens
        else min (s.rd Reg.CROP_RATE_BURST) (s.mp.tokens + 1)) ∧ OnlyChanges [.mp] s t) ∧
  (∀ (s : State) (n : Fin 6), s.alive = true → s.mp.stopAt = none → ∀ c, tfind n.val s.mp.crops = some c →
    ∀ v, c.result = some v → c.y0 + c.height ≤ s.linesEnd →
    (c.failOnly = true → v.getD 4 0 = 0 → Completes (.cropComplete n) s fun t =>
      t.mp.crops = tdel n.val s.mp.crops ∧ OnlyChanges [.mp] s t) ∧
    (c.failOnly = false ∨ v.getD 4 0 ≠ 0 → s.on Reg.PROD_Q_VALID 0 2 = true →
      ∀ r : Staged, r = { queue := s.rd Reg.PROD_Q_QUEUE 0 2, kind := 9, words := s.cropRecord c c.height v } →
      s.Stages r → Completes (.cropComplete n) s fun t =>
        t.mp.crops = tdel n.val s.mp.crops ∧ t.fr.staged = s.fr.staged ++ [r] ∧
        t.rd Reg.CROP_DONE_COUNT = (s.rd Reg.CROP_DONE_COUNT + 1) % 2 ^ 32)))

/-- R263, R264, R265, R266, R286, R288. The serial port of a Beryl port and its own temperature read, the free
conversion and the read of a video converter, and a row of an array. R275, R276, R277, R287. The timeouts of a Beryl
port, what makes its recalibration due, the port that takes the accumulator, the way out of SHUT_FAULT, and the
snapshot. -/
def Obligations.BerylPorts : Prop :=
  ((∀ (s : State) (p : Fin 4) (w : Word), s.alive = true → (s.port p).tempBusy = true → s.portState p ≠ 0 →
    ∀ ta, ta = sat (rnd (((w.toNat % 2 ^ 16 : Nat) - (s.br? p).rd Reg.BR_TEMP_T_OFF p : Int) *
      (s.br? p).rd Reg.BR_TEMP_T_GAIN p) 12) (-32768) 32767 →
    Completes (.arrayTemperatureRead p w) s fun t =>
      t.rd Reg.BR_TA_VALUE p = low 16 ta ∧ t.rd Reg.BR_TA_VALID p = 1 ∧ (t.port p).tempBusy = false ∧
      (t.port p).taFresh = true ∧ (t.port p).hostWaits = false ∧
      ((s.port p).hostWaits = true → t.out = .spi p (s.rd Reg.BR_SPI_CTL_LEN p + 1)
        (s.rd Reg.BR_SPI_TX_VALUE p % 2 ^ (s.rd Reg.BR_SPI_CTL_LEN p + 1)) :: s.out) ∧
      OnlyChanges [.regs, .beryl, .out] s t) ∧
  (∀ (s : State) (p : Fin 4) (v : Word), s.alive = true → s.rd Reg.BR_SPI_CTL_BUSY p = 0 → v.toNat.testBit 31 = true →
    Completes (.berylSpiGo p v) s fun t =>
      t.rd Reg.BR_SPI_CTL_BUSY p = 1 ∧
      ((s.port p).tempBusy = false → (t.out.head?).isSome = true ∧ t.out.tail = s.out ∧ t.port p = s.port p) ∧
      ((s.port p).tempBusy = true → (t.port p).hostWaits = true ∧ t.out = s.out) ∧
      OnlyChanges [.regs, .force, .shadow, .beryl, .out] s t) ∧
  (∀ (s : State) (p : Fin 4) (rx : Word), s.alive = true → s.rd Reg.BR_SPI_CTL_BUSY p = 1 → (s.port p).hostWaits = false →
    Completes (.spiDone p rx) s fun t =>
      t.rd Reg.BR_SPI_RX_VALUE p = rx.toNat % 2 ^ (s.rd Reg.BR_SPI_CTL_LEN p + 1) ∧ t.rd Reg.BR_SPI_CTL_BUSY p = 0 ∧
      t.eventSet Ev.BR_SPI_DONE p = true ∧
      ((s.port p).tempWaits = true → (t.port p).tempWaits = false ∧ (t.port p).tempBusy = true) ∧ EventsKept s t ∧
      OnlyChanges [.regs, .beryl, .nt, .out] s t) ∧
  (∀ (s : State) (n : Fin 8) (code : Fin 16384) (clip : Bool), s.alive = true →
    (s.rd Reg.BVC_CTL_MODE 0 n = 3 → s.domain 4 = 2 →
      Completes (.bvcFreeConvert n code clip) s fun t =>
        t.rd Reg.BVC_DATA_CODE 0 n = code.val ∧ t.rd Reg.BVC_DATA_CLIP 0 n = clip.toNat ∧
        t.rd Reg.BVC_DATA_VALID 0 n = 1 ∧
        (t.rd Reg.BVC_DATA_OVERRUN 0 n = 1 ↔ s.on Reg.BVC_DATA_OVERRUN 0 n = true ∨ s.on Reg.BVC_DATA_VALID 0 n = true) ∧
        OnlyChanges [.regs] s t) ∧
    (s.rd Reg.BVC_CTL_MODE 0 n ≠ 3 ∨ s.domain 4 ≠ 2 → Completes (.bvcFreeConvert n code clip) s fun t => t = s)) ∧
  (∀ (s : State) (agent : Agent) (n : Fin 8), s.alive = true →
    Completes (.bvcDataRead agent n 0 4) s fun t =>
      t.out = .readData agent 0x220 (0x28 + 0x10 * n) (s.storedWord 0x220 (0x28 + 0x10 * n)) :: s.out ∧
      t.rd Reg.BVC_DATA_VALID 0 n = 0 ∧ t.rd Reg.BVC_DATA_OVERRUN 0 n = 0 ∧
      t.rd Reg.BVC_DATA_CODE 0 n = s.rd Reg.BVC_DATA_CODE 0 n ∧ OnlyChanges [.regs, .out] s t) ∧
  (∀ (s : State) (p : Fin 4) (a b : List (Fin 16384 × Bool)) (full : Bool), s.alive = true →
    ∀ f, (s.port p).frame = some f → f.rows.length < s.brRows p →
    ∀ l, l = mergeSamples ((s.brGeom p).getD 2 0 != 0) (s.brCols p) (a.map fun c => (c.1.val, c.2))
      (b.map fun c => (c.1.val, c.2)) →
    (full = true →
      Completes (.berylLsync p a b full) s fun t =>
        (t.port p).frame = none ∧ t.rd Reg.BR_ERR_FRAME_LOST p = min 65535 (s.rd Reg.BR_ERR_FRAME_LOST p + 1) ∧
        t.eventSet Ev.BR_FRAME_LOST p = true ∧ EventsKept s t) ∧
    (full = false → l = none →
      Completes (.berylLsync p a b full) s fun t =>
        (t.port p).frame = none ∧ t.rd Reg.BR_ERR_SYNC_ERRS p = min 65535 (s.rd Reg.BR_ERR_SYNC_ERRS p + 1) ∧
        t.eventSet Ev.BR_SYNC_ERR p = true ∧ EventsKept s t) ∧
    (full = false → ∀ k, l = some k →
      Completes (.berylLsync p a b full) s fun t =>
        ((t.port p).frame.map fun g => (g.ta, g.rows.tail, (g.rows.head?).map (·.samples), g.time, g.gen)) =
          some (some (f.ta.getD (s.rdS Reg.BR_TA_VALUE p)), f.rows, some k, f.time, f.gen) ∧
        (f.ta = none → (s.port p).taFresh = false → t.eventSet Ev.BR_TEMP_STALE p = true) ∧ EventsKept s t))) ∧
  ((∀ (s : State) (p : Fin 4), s.alive = true →
    (s.portState p = 1 ∨ s.portState p = 2 ∨ (s.portState p = 6 ∧ (s.port p).reported = true) →
      Completes (.berylSyncTimeout p) s fun t =>
        t.portState p = 3 ∧ (t.port p).silent = true ∧ t.eventSet Ev.BR_SYNC_LOST p = true ∧
        (s.portState p = 6 → (t.port p).confirmed = true ∧ t.rd Reg.BR_STATUS_OPEN_CONF p = 1) ∧ EventsKept s t) ∧
    (s.portState p = 4 ∨ s.portState p = 5 →
      Completes (.berylSyncTimeout p) s fun t =>
        (t.portState p = 6 ∨ t.portState p = 7) ∧ (t.portState p = 7 → t.eventSet Ev.BR_SHUT_FAULT p = true) ∧
        t.rd Reg.BR_STATUS_OUTCOME p = (if t.portState p = 7 then 3 else 4) ∧ (t.port p).failed = true ∧
        t.eventSet Ev.BR_RECAL_FAIL p = true ∧ EventsKept s t) ∧
    (s.portState p = 0 ∨ s.portState p = 3 ∨ s.portState p = 7 →
      Completes (.berylSyncTimeout p) s fun t => (t.port p).silent = true ∧ OnlyChanges [.beryl] s t)) ∧
  (∀ (s : State) (p : Fin 4), s.alive = true →
    (s.portState p = 4 →
      Completes (.berylMoveTimeout p) s fun t =>
        (t.portState p = 6 ∨ t.portState p = 7) ∧ t.rd Reg.BR_STATUS_OUTCOME p = (if t.portState p = 7 then 3 else 2) ∧
        t.eventSet Ev.BR_RECAL_FAIL p = true ∧ EventsKept s t) ∧
    (s.portState p = 6 → (s.port p).reported = false →
      Completes (.berylMoveTimeout p) s fun t =>
        t.portState p = 7 ∧ t.rd Reg.BR_STATUS_OUTCOME p = 3 ∧ t.eventSet Ev.BR_SHUT_FAULT p = true ∧ EventsKept s t)) ∧
  (∀ (s : State) (p : Fin 4) (v : Word), s.alive = true → v.toNat.testBit 0 = true →
    Completes (.berylRecalCmd p v) s fun t =>
      (t.port p).due = some ((s.port p).due.getD s.tb.ns) ∧ t.rd Reg.BR_STATUS_DUE p = 1 ∧
      OnlyChanges [.regs, .beryl] s t) ∧
  (∀ (s : State) (p : Fin 4), s.alive = true →
    (s.portState p ≠ 0 → s.on Reg.BR_CTL_RECAL_AUTO p = true → s.rd Reg.BR_SHUT_INT_INTERVAL_S p ≠ 0 →
      Completes (.berylRecalInterval p) s fun t =>
        (t.port p).due = some ((s.port p).due.getD s.tb.ns) ∧ t.rd Reg.BR_STATUS_DUE p = 1 ∧
        OnlyChanges [.regs, .beryl] s t) ∧
    (s.portState p = 0 ∨ s.on Reg.BR_CTL_RECAL_AUTO p = false ∨ s.rd Reg.BR_SHUT_INT_INTERVAL_S p = 0 →
      Completes (.berylRecalInterval p) s fun t => t = s)) ∧
  (∀ s : State, s.alive = true →
    (s.rd Reg.BR_ACC_OWNER ≠ 7 → Completes .berylAccTake s fun t => t = s) ∧
    (s.rd Reg.BR_ACC_OWNER = 7 → ∀ p, s.brNext = some p → s.brAxisFails p = false →
      Completes .berylAccTake s fun t =>
        (s.port p).due.isSome = true ∧ s.portState p = 2 ∧
        (t.portState p = 4 → t.rd Reg.BR_ACC_OWNER = p ∧
          (t.port p).position = (s.br? p).rdS Reg.BR_SHUT_CLOSED_POS p ∧ (t.port p).reported = false) ∧
        (t.portState p = 4 ∨ t.portState p = 6 ∨ t.portState p = 7) ∧ EventsKept s t)) ∧
  (∀ (s : State) (p : Fin 4) (v : Word), s.alive = true →
    (v.toNat.testBit 3 = true → s.portState p = 7 →
      Completes (.berylReopen p v) s fun t =>
        (t.port p).position = (s.br? p).rdS Reg.BR_SHUT_OPEN_POS p ∧ (t.portState p = 6 ∨ t.portState p = 7) ∧
        (s.brAssigned p = false → t.portState p = 7 ∧ t.eventSet Ev.BR_SHUT_FAULT p = true) ∧ EventsKept s t) ∧
    (v.toNat.testBit 3 = false ∨ s.portState p ≠ 7 → Completes (.berylReopen p v) s fun t => t = s)) ∧
  (∀ (s : State) (p : Fin 4) (v : Word), s.alive = true → v.toNat.testBit 1 = true →
    (s.rd Reg.BR_SNAP_BUSY = 1 →
      Completes (.berylSnap p v) s fun t => Told s t ∧ t.eventSet Ev.BR_SNAP_IGNORED p = true ∧ EventsKept s t) ∧
    (s.rd Reg.BR_SNAP_BUSY = 0 →
      Completes (.berylSnap p v) s fun t =>
        t.beryl.snapReq = some (p.val, v.toNat / 4 % 2) ∧ t.rd Reg.BR_SNAP_BUSY = 1 ∧ OnlyChanges [.regs, .beryl] s t)))

/-- R296, R298, R299, R310, R311, R317. The precision front end: a periodic trigger and the host's, the end of a step's
window, the outputs, and the read that captures a result. -/
def Obligations.PrecisionFrontEnd : Prop :=
  (∀ s : State, s.alive = true →
    (s.pfeReady = true → s.on Reg.PFE_CTL_TRIG = false → s.on Reg.PFE_STATUS_BUSY = true →
      Completes .pfeScanTimer s fun t =>
        t.pfe.held = true ∧ t.pfe.codes = s.pfe.codes ∧ t.eventSet Ev.PFE_OVERRUN = true ∧ EventsKept s t ∧
        OnlyChanges [.pfe, .nt, .out] s t) ∧
    (s.pfeReady = true → s.on Reg.PFE_CTL_TRIG = false → s.on Reg.PFE_STATUS_BUSY = false →
      Completes .pfeScanTimer s fun t =>
        t.rd Reg.PFE_STATUS_BUSY = 1 ∧ t.rd Reg.PFE_STATUS_STEP = pfeStepAfter s none % 2 ^ Reg.PFE_STATUS_STEP.width ∧
        t.pfe.codes = [] ∧ t.pfe.check = none ∧ t.pfe.settings = s.pageForce 0x240 ∧ EventsKept s t) ∧
    (s.pfeReady = false ∨ s.on Reg.PFE_CTL_TRIG = true → Completes .pfeScanTimer s fun t => t = s)) ∧
  (∀ (s : State) (v : Word), s.alive = true →
    (v.toNat.testBit 0 = true → s.pfeReady = true → s.on Reg.PFE_CTL_TRIG = true → s.on Reg.PFE_STATUS_BUSY = false →
      Completes (.pfeGo v) s fun t => t.rd Reg.PFE_STATUS_BUSY = 1 ∧ t.pfe.codes = [] ∧ EventsKept s t) ∧
    (v.toNat.testBit 0 = true → s.pfeReady = true → s.on Reg.PFE_CTL_TRIG = true → s.on Reg.PFE_STATUS_BUSY = true →
      Completes (.pfeGo v) s fun t =>
        t.pfe.held = true ∧ t.eventSet Ev.PFE_OVERRUN = true ∧ EventsKept s t ∧ OnlyChanges [.pfe, .nt, .out] s t) ∧
    (v.toNat.testBit 0 = false ∨ s.pfeReady = false ∨ s.on Reg.PFE_CTL_TRIG = false →
      Completes (.pfeGo v) s fun t => t = s)) ∧
  (∀ (s : State) (va vb : Int), s.alive = true → s.on Reg.PFE_STATUS_BUSY = true → s.pfe.check = none →
    ∀ k, k = s.rd Reg.PFE_STATUS_STEP → ∀ now, now = s.tb.ns - halfWindow (s.pfe?.rd Reg.PFE_CTL_ODR) →
    (k = 8 → Completes (.pfeStepEnd va vb) s fun t =>
      t.pfe.check = some ((pfeCode va 0 now).code, (pfeCode vb 0 now).code) ∧ OnlyChanges [.pfe] s t) ∧
    (k < 8 → Completes (.pfeStepEnd va vb) s fun t =>
      t.rd Reg.PFE_STATUS_STEP = pfeStepAfter s.pfe? (some k) % 2 ^ Reg.PFE_STATUS_STEP.width ∧
      (slotOn s.pfe? (2 * k) = true → stepRefused s.pfe? k = false →
        tfind (2 * k) t.pfe.codes = some (pfeCode va (s.pfe?.rd Reg.SLOT_PGA 0 (2 * k)) now)) ∧
      (slotOn s.pfe? (2 * k + 1) = true → stepRefused s.pfe? k = false →
        tfind (2 * k + 1) t.pfe.codes = some (pfeCode vb (s.pfe?.rd Reg.SLOT_PGA 0 (2 * k + 1)) now)) ∧
      (∀ i, i ≠ 2 * k → i ≠ 2 * k + 1 → tfind i t.pfe.codes = tfind i s.pfe.codes) ∧ OnlyChanges [.regs, .pfe] s t)) ∧
  (∀ (s : State) (n : Fin 8), s.alive = true → s.domain 5 = 2 →
    (s.pfe?.rd Reg.AO_KIND 0 n = 0 →
      Completes (.aoUpdate n) s fun t =>
        t.rd Reg.AO_FAULT 0 n = 1 ∧
        t.rd Reg.AO_CODE 0 n = (if s.pfe?.on Reg.AO_FAULT_HIGH 0 n then 4014 else 82) ∧
        (s.rd Reg.AO_FAULT 0 n = 0 → t.eventSet Ev.PFE_AO_FAULT = true) ∧
        .drive "AO" n (if s.pfe?.on Reg.AO_FAULT_HIGH 0 n then 4014 else 82) ∈ t.out ∧ EventsKept s t ∧
        OnlyChanges [.regs, .nt, .out] s t) ∧
    (s.pfe?.rd Reg.AO_KIND 0 n = 3 →
      Completes (.aoUpdate n) s fun t =>
        t.rd Reg.AO_FAULT 0 n = 0 ∧ t.rd Reg.AO_CODE 0 n = s.rd Reg.AO_HOST 0 n % 2 ^ 12 ∧
        t.out = .drive "AO" n (s.rd Reg.AO_HOST 0 n % 2 ^ 12) :: s.out ∧ OnlyChanges [.regs, .out] s t)) ∧
  (∀ (s : State) (n : Fin 8), s.alive = true →
    Completes (.aoRefLow n) s fun t =>
      t.rd Reg.AO_REF_LOW 0 n = 1 ∧ t.eventSet Ev.PFE_AO_REF_LOW = true ∧ EventsKept s t ∧
      Told (s.wr Reg.AO_REF_LOW 1 0 n) t) ∧
  (∀ (s : State) (agent : Agent) (i : Fin 16), s.alive = true → ∀ o, o = 0x300 + 0x10 * i.val →
    Completes (.resValueRead agent i 0 4) s fun t =>
      t.out.head? = some (.readData agent 0x240 o (s.storedWord 0x240 o)) ∧ t.out.tail = s.out ∧
      t.captured agent 0x240 (o + 4) = s.storedWord 0x240 (o + 4) % 2 ^ 32 ∧
      t.captured agent 0x240 (o + 8) = s.storedWord 0x240 (o + 8) % 2 ^ 32 ∧
      t.captured agent 0x240 (o + 12) = s.storedWord 0x240 (o + 12) % 2 ^ 32 ∧
      (∀ b p r, b ≠ agent.val → p < 8192 → r < 4096 → t.captured b p r = s.captured b p r) ∧
      OnlyChanges [.captures, .out] s t)

/-- R326, R327, R332, R335. The host's commands to an axis wait, each with its time, for the servo-period boundary that
R326 names; a target is brought within the travel; the axis of a Beryl port that is not OFF refuses targets and
RESUME; and the servo period changes only while no axis moves. R327, R328, R333. What a command does at its
boundary: STOP, RESUME, HOME, ZERO and ABORT in the states in which they have an effect, and CMD_REFUSED in the
others. -/
def Obligations.AxisCommands : Prop :=
  ((∀ (s : State) (agent : Agent) (a : Fin 8), s.alive = true →
    ∀ waits, waits = (fun (c : AxisCommand) => { s with
      axes := tput a.val { s.axis a with waiting := (s.axis a).waiting ++ [(s.tb.ns, c)] } s.axes }) →
    Completes (.motStop a) s (fun t => t = waits .stop) ∧ Completes (.motHome a) s (fun t => t = waits .home) ∧
    Completes (.motZero a) s (fun t => t = waits .zero) ∧ Completes (.motAbort a) s (fun t => t = waits .abort) ∧
    Completes (.motClear agent a) s (fun t => t = waits (.clear (s.holdsAxis agent a))) ∧
    (s.berylHolds a = false → Completes (.motResume a) s (fun t => t = waits .resume)) ∧
    (s.berylHolds a = true → Completes (.motResume a) s fun t =>
      Told s t ∧ t.eventSet Ev.MOT_CMD_REFUSED a = true ∧ EventsKept s t)) ∧
  (∀ (s : State) (a : Fin 8) (v : Word), s.alive = true →
    ∀ want, want = signed 40 (s.rd Reg.MOT_TARGET_LO_VALUE a + 2 ^ 32 * (v.toNat % 2 ^ 8)) →
    ∀ given, given = sat want (256 * s.rdS Reg.MOT_TRAVEL_MIN_STEPS a) (256 * s.rdS Reg.MOT_TRAVEL_MAX_STEPS a) →
    (s.berylHolds a = true → Completes (.motTargetHiWrite a v) s fun t =>
      Told (s.wr Reg.MOT_TARGET_HI_VALUE v.toNat a) t ∧ t.eventSet Ev.MOT_CMD_REFUSED a = true ∧ EventsKept s t) ∧
    (s.berylHolds a = false → Completes (.motTargetHiWrite a v) s fun t =>
      (t.axis a).waiting = (s.axis a).waiting ++ [(s.tb.ns, .target given)] ∧ (t.axis a).target = (s.axis a).target ∧
      t.rd Reg.MOT_TARGET_HI_VALUE a = v.toNat % 2 ^ 8 ∧
      (given ≠ want → t.eventSet Ev.MOT_LIMIT a = true) ∧ EventsKept s t ∧ OnlyChanges [.regs, .axes, .nt, .out] s t)) ∧
  (∀ (s : State) (v : Word), s.alive = true →
    ∀ moves : Bool, moves = (List.range 8).any (fun a => [2, 3, 5, 6].contains (s.axisState a)) →
    (moves = true → Completes (.motServoWrite v) s fun t =>
      Told s t ∧ t.eventSet Ev.MOTC_SERVO_REFUSED = true ∧ EventsKept s t) ∧
    (moves = false → Completes (.motServoWrite v) s fun t =>
      t = s.wr Reg.MOT_SERVO_US (Reg.MOT_SERVO_US.stored v.toNat)))) ∧
  ((∀ (s : State) (a : Nat), a < 8 →
    (s.axisState a = 2 ∨ s.axisState a = 5 →
      (s.axisCommand a .stop).axisState a = 3 ∧ (s.axisCommand a .stop).rd Reg.MOT_STATUS_HOST_STOP a = 1 ∧
      ((s.axisCommand a .stop).axis a).after = .held) ∧
    (s.axisState a = 0 ∨ s.axisState a = 1 ∨ s.axisState a = 4 ∨ s.axisState a = 7 →
      Told s (s.axisCommand a .stop) ∧ (s.axisCommand a .stop).eventSet Ev.MOT_CMD_REFUSED a = true) ∧
    (s.axisState a = 4 → s.pauseHolds a = false → s.remain a ≠ 0 →
      (s.axisCommand a .resume).axisState a = (if s.rd Reg.MOT_BACKLASH_UST a = 0 then 2 else 5) ∧
      (s.axisCommand a .resume).rd Reg.MOT_STATUS_HOST_STOP a = 0 ∧
      (s.axisCommand a .resume).rd Reg.MOT_STATUS_PACED a = 0) ∧
    (s.axisState a ≠ 4 →
      Told s (s.axisCommand a .resume) ∧ (s.axisCommand a .resume).eventSet Ev.MOT_CMD_REFUSED a = true ∧
      Told s (s.axisCommand a .abort) ∧ (s.axisCommand a .abort).eventSet Ev.MOT_CMD_REFUSED a = true) ∧
    (s.axisState a = 4 →
      (s.axisCommand a .abort).axisState a = 1 ∧ (s.axisCommand a .abort).remain a = 0 ∧
      ((s.axisCommand a .abort).axis a).target = (s.axis a).set) ∧
    (s.axisState a = 1 →
      ((s.axisCommand a .zero).axis a).set = 0 ∧ ((s.axisCommand a .zero).axis a).target = 0 ∧
      (s.axisCommand a .zero).rd Reg.MOT_STATUS_HOMED a = 1 ∧ (s.axisCommand a .zero).axisState a = 1 ∧
      (s.axisCommand a .home).axisState a = 6 ∧ (s.axisCommand a .home).rd Reg.MOT_STATUS_HOMED a = 0) ∧
    (s.axisState a ≠ 1 →
      Told s (s.axisCommand a .home) ∧ (s.axisCommand a .home).eventSet Ev.MOT_CMD_REFUSED a = true ∧
      Told s (s.axisCommand a .zero) ∧ (s.axisCommand a .zero).eventSet Ev.MOT_CMD_REFUSED a = true) ∧
    (s.axisState a = 7 → s.causeGone a (s.rd Reg.MOT_STATUS_FAULT a) true = true →
      (s.axisCommand a (.clear true)).axisState a = (if s.remain a = 0 then 1 else 4) ∧
      (s.axisCommand a (.clear true)).rd Reg.MOT_STATUS_FAULT a = 0)) ∧
  (∀ (s : State) (a b : Nat) (c : AxisCommand), b ≠ a → (s.axisCommand a c).axis b = s.axis b))

/-- R322, R327, R329, R333, R334. MOT_CTL enables and disables an axis; the standstill mode takes hold; the home switch
and the bridge fault; a PWM period; and a scan of the converter of a DISABLED axis. -/
def Obligations.MotionPins : Prop :=
  (∀ (s : State) (a : Fin 8) (v : Word), s.alive = true →
    (v.toNat.testBit 0 = false → s.axisState a ≠ 0 →
      Completes (.motCtlWrite a v) s fun t =>
        t.axisState a = 0 ∧ t.rd Reg.MOT_STATUS_HOMED a = 0 ∧ t.rd Reg.MOT_STATUS_FAULT a = 0 ∧ t.remain a = 0 ∧
        (t.axis a).target = (s.axis a).set ∧ (t.axis a).v = 0 ∧ t.out.head? = some (.pin "MOT_EN" a false)) ∧
    (v.toNat.testBit 0 = true → s.axisState a = 0 → s.on Reg.AUXC_CTL_EN 0 a = true →
      Completes (.motCtlWrite a v) s fun t =>
        t.axisState a = 1 ∧ (t.axis a).target = (s.axis a).set ∧ .pin "MOT_EN" a.val true ∈ t.out ∧ EventsKept s t) ∧
    (v.toNat.testBit 0 = true → s.axisState a = 0 → s.on Reg.AUXC_CTL_EN 0 a = false →
      Completes (.motCtlWrite a v) s fun t =>
        t.axisState a = 7 ∧ t.rd Reg.MOT_STATUS_FAULT a = 3 ∧ t.eventSet Ev.MOT_FAULT a = true ∧ EventsKept s t)) ∧
  (∀ (s : State) (a : Fin 8), s.alive = true → s.axisState a = 1 ∨ s.axisState a = 4 ∨ s.axisState a = 7 →
    (s.axis a).standby = false →
    Completes (.motStandby a) s fun t =>
      (t.axis a).standby = true ∧ t.axisState a = s.axisState a ∧
      (s.standstill a = 0 → t.out = .pin "MOT_EN" a false :: s.out) ∧ (s.standstill a ≠ 0 → .pin "MOT_EN" a.val true ∈ t.out) ∧
      OnlyChanges [.axes, .out] s t) ∧
  (∀ (s : State) (a : Fin 8) (high : Bool),
    Completes (.motHomeSwitch a high) s fun t =>
      (t.axis a).home = high ∧
      (s.alive = true → high = true → s.axisState a = 6 → (s.axis a).homeStop = false →
        (t.axis a).set = 0 ∧ (t.axis a).target = 0 ∧ (t.axis a).homeStop = true ∧ t.eventSet Ev.MOT_HOMED a = true) ∧
      (s.alive = false ∨ high = false → t.axes = tput a.val { s.axis a with home := high } s.axes ∧ OnlyChanges [.axes] s t) ∧
      EventsKept s t) ∧
  (∀ (s : State) (a : Fin 8) (high : Bool),
    Completes (.motBridgeFault a high) s fun t =>
      (t.axis a).fltN = high ∧
      (s.alive = true → high = false → s.axisState a ≠ 0 → s.axisState a ≠ 7 →
        t.axisState a = 7 ∧ t.rd Reg.MOT_STATUS_FAULT a = 2 ∧ t.rd Reg.MOT_STATUS_HOMED a = 0 ∧ (t.axis a).v = 0 ∧
        .pin "MOT_EN" a.val false ∈ t.out ∧ t.eventSet Ev.MOT_FAULT a = true) ∧
      (s.alive = false ∨ high = true → OnlyChanges [.axes] s t) ∧ EventsKept s t) ∧
  (∀ (s : State) (a : Fin 8) (codes : List (Fin 16384 × Bool)), s.alive = true → codes.length = 6 → s.domain 6 = 2 →
    s.on Reg.AUXC_CTL_EN 0 a = true →
    ∀ bad : Bool, bad = ((codes.getD 0 (0, false)).2 || (codes.getD 1 (0, false)).2) →
    ∀ full : Nat → Int, full = (fun i => ((codes.getD i (0, false)).1.val : Int)) →
    (s.axisState a ≠ 0 → s.on Reg.TB_STATUS_LOCKED = true →
      Completes (.pwmPeriod a codes) s fun t =>
        (∀ i, i < 6 → t.rd Reg.AUXC_RES_CODE 0 a i = (codes.getD i (0, false)).1.val ∧ t.rd Reg.AUXC_RES_VALID 0 a i = 1) ∧
        (t.axis a).samples.n = (s.axis a).samples.n + 1 ∧
        (t.axis a).samples.sums.getD 0 0 = (s.axis a).samples.sums.getD 0 0 +
          quot ((full 0 - 8192) * (s.axis a).fields.iFsMa) 8192 ∧
        (t.axis a).samples.sums.getD 4 0 = (s.axis a).samples.sums.getD 4 0 +
          quot (full 4 * (s.axis a).fields.vFsMv) 16384 ∧
        (t.axis a).clipped = (if bad then (s.axis a).clipped + 1 else 0) ∧
        (bad = true → 15 ≤ (s.axis a).clipped → s.axisState a ≠ 7 →
          t.axisState a = 7 ∧ t.rd Reg.MOT_STATUS_FAULT a = 3 ∧ t.eventSet Ev.MOT_FAULT a = true) ∧ EventsKept s t) ∧
    (s.axisState a = 0 →
      Completes (.auxIdleScan a codes) s fun t =>
        (∀ i, i < 6 → t.rd Reg.AUXC_RES_CODE 0 a i = (codes.getD i (0, false)).1.val ∧
          t.rd Reg.AUXC_RES_CLIP 0 a i = (codes.getD i (0, false)).2.toNat ∧ t.rd Reg.AUXC_RES_VALID 0 a i = 1) ∧
        (t.axis a).clipped = 0 ∧ (codes.any (·.2) = true → t.eventSet Ev.AUXC_CLIP = true) ∧ EventsKept s t ∧
        OnlyChanges [.regs, .axes, .nt, .out] s t))

/-- The QADM operation of tenant `t` on queue `l` has ended in `u` with a RESULT (R359). -/
def Sys2Proof.Machine.State.QadmEnded (u : State) (t l result : Nat) : Prop :=
  u.rd Reg.QADM_STATUS_BUSY t = 0 ∧ u.rd Reg.QADM_STATUS_RESULT t = result ∧ u.rd Reg.QADM_STATUS_QUEUE t = l ∧
  u.eventSet Ev.TEN_QADM_DONE t = true

/-- A QADM operation that is turned away (R359): discarded with QADM_REFUSED while another is in progress; REFUSED for a
tenant that is not UP, and for a queue in a state in which the operation is refused. -/
def Sys2Proof.Machine.QadmTurnsAway (c : Instr) (t l : Nat) (refused : Bool) (s : State) : Prop :=
  (s.on Reg.QADM_STATUS_BUSY t = true → Completes c s fun u =>
    u.eventSet Ev.TEN_QADM_REFUSED t = true ∧ EventsKept s u ∧ Told s u) ∧
  (s.on Reg.QADM_STATUS_BUSY t = false → s.tenantUp t = false ∨ refused = true → Completes c s fun u =>
    u.QadmEnded t l 2 ∧ EventsKept s u ∧ OnlyChanges [.regs, .nt, .out] s u)

/-- The state in which a QADM operation that was accepted works on the queue's context (R359, R372). -/
def Sys2Proof.Machine.State.qadmOpened (s : State) (t l : Nat) (ctx : Option (List Nat)) : State :=
  ((s.wr Reg.QADM_STATUS_QUEUE l t).wr Reg.QADM_STATUS_BUSY 1 t).withContext (16384 * t + l) ctx

/-- R358, R359, R369, R372, R416. The operations on a queue: DISABLE, PAUSE, RESUME, RESET, SYNC and ENABLE, and when
they are refused. -/
def Obligations.QueueOperations : Prop :=
  (∀ (s : State) (t : Tenant) (l : Fin 16384) (ctx : Option (List Nat)), s.alive = true →
    ∀ q, q = 16384 * t.val + l.val → ∀ st, st = s.queueState q →
    QadmTurnsAway (.queueDisable t l ctx) t l (st != 1 && st != 2) s ∧
    (s.on Reg.QADM_STATUS_BUSY t = false → s.tenantUp t = true → st = 1 ∨ st = 2 →
      ∀ v, v = s.qadmOpened t l ctx → ∀ x, v.queue q = some x → x.due = [] →
      (x.begun = [] → Completes (.queueDisable t l ctx) s fun u =>
        u.QadmEnded t l 1 ∧ u.queueState q = 0 ∧ (∀ r ∈ u.fr.staged, r.queue ≠ q) ∧
        .contextWrite q [x.prod, x.cons, x.expSeq, x.fault <<< 8, x.stale, x.dup] ∈ u.out) ∧
      (x.begun ≠ [] → Completes (.queueDisable t l ctx) s fun u =>
        u.rd Reg.QADM_STATUS_BUSY t = 1 ∧ u.queueState q = 0 ∧ ((u.queue q).map (·.begun)) = some x.begun ∧
        ((u.queue q).map (·.ending)) = some (some 1)))) ∧
  (∀ (s : State) (t : Tenant) (l : Fin 16384) (ctx : Option (List Nat)), s.alive = true →
    ∀ q, q = 16384 * t.val + l.val → ∀ st, st = s.queueState q →
    QadmTurnsAway (.queuePause t l ctx) t l (st != 1) s ∧
    (s.on Reg.QADM_STATUS_BUSY t = false → s.tenantUp t = true → st = 1 →
      ∀ v, v = s.qadmOpened t l ctx → ∀ x, v.queue q = some x →
      Completes (.queuePause t l ctx) s fun u =>
        u.QadmEnded t l 1 ∧ u.queueState q = 2 ∧ (∀ r ∈ u.fr.staged, r.queue ≠ q) ∧
        ((u.queue q).map fun y => (y.prod, y.cons, y.begun)) = some (x.prod, x.cons, x.begun))) ∧
  (∀ (s : State) (t : Tenant) (l : Fin 16384) (ctx : Option (List Nat)), s.alive = true →
    ∀ q, q = 16384 * t.val + l.val → ∀ st, st = s.queueState q →
    QadmTurnsAway (.queueResume t l ctx) t l (st != 2) s ∧
    (s.on Reg.QADM_STATUS_BUSY t = false → s.tenantUp t = true → st = 2 →
      ∀ v, v = s.qadmOpened t l ctx → ∀ x, v.queue q = some x → (∀ e ∈ v.fr.queues, e.2.due = []) →
      Completes (.queueResume t l ctx) s fun u =>
        u.QadmEnded t l 1 ∧ u.queueState q = 1 ∧
        ((u.queue q).map fun y => (y.prod, y.cons, y.begun)) = some (x.prod, x.cons, x.begun))) ∧
  (∀ (s : State) (t : Tenant) (l : Fin 16384) (ctx : Option (List Nat)), s.alive = true →
    ∀ q, q = 16384 * t.val + l.val → ∀ st, st = s.queueState q →
    QadmTurnsAway (.queueReset t l ctx) t l (st == 0) s ∧
    (s.on Reg.QADM_STATUS_BUSY t = false → s.tenantUp t = true → st ≠ 0 →
      ∀ v, v = s.qadmOpened t l ctx → ∀ x, v.queue q = some x → x.begun = [] → v.unworked q = true →
      Completes (.queueReset t l ctx) s fun u =>
        u.QadmEnded t l 1 ∧ u.queueState q = 0 ∧ (∀ r ∈ u.fr.staged, r.queue ≠ q) ∧
        (u.rd Reg.QFAULT t (l.val / 32)).testBit (l.val % 32) = false ∧
        .contextWrite q [x.prod, x.cons, x.expSeq, x.fault <<< 8, x.stale, x.dup] ∈ u.out)) ∧
  (∀ (s : State) (t : Tenant) (l : Fin 16384) (ctx : Option (List Nat)), s.alive = true →
    ∀ q, q = 16384 * t.val + l.val → ∀ st, st = s.queueState q →
    QadmTurnsAway (.queueSync t l ctx) t l (st == 0) s ∧
    (s.on Reg.QADM_STATUS_BUSY t = false → s.tenantUp t = true → st ≠ 0 →
      ∀ v, v = s.qadmOpened t l ctx → ∀ x, v.queue q = some x → x.state = st →
      Completes (.queueSync t l ctx) s fun u =>
        u.QadmEnded t l 1 ∧ u.fr = v.fr ∧
        .contextWrite q [x.prod, x.cons, x.expSeq, st + x.fault <<< 8, x.stale, x.dup] ∈ u.out)) ∧
  (∀ (s : State) (t : Tenant) (l : Fin 16384) (ctx : Option (List Nat)) (cqType : Fin 8), s.alive = true →
    ∀ q, q = 16384 * t.val + l.val →
    QadmTurnsAway (.queueEnable t l ctx cqType) t l (s.queueState q != 0) s ∧
    (s.on Reg.QADM_STATUS_BUSY t = false → s.tenantUp t = true → s.queueState q = 0 →
      (s.queue q = none → s.freeEntry.isSome = false → Completes (.queueEnable t l ctx cqType) s fun u =>
        u.rd Reg.QADM_STATUS_BUSY t = 1 ∧ q ∈ u.fr.stalled ∧ u.eventSet Ev.CTX_CTX_STALL = true ∧
        u.rd Reg.CTXC_STALLS_COUNT = (s.rd Reg.CTXC_STALLS_COUNT + 1) % 2 ^ 32 ∧ u.fr.queues = s.fr.queues) ∧
      ((s.queue q).isSome = true ∨ s.freeEntry.isSome = true →
        (ctx = none → Completes (.queueEnable t l ctx cqType) s fun u =>
          u.QadmEnded t l 2 ∧ u.tenantState t = 3 ∧ u.rd Reg.TEN_FLT_CAUSE 0 t = 1 ∧
          u.eventSet Ev.HOST_TENANT_FAULT = true) ∧
        (∀ w, ctx = some w → ∀ x, x = contextQueue w →
          ∀ valid : Bool, valid = s.contextValid t x (if x.cq = l then x.type else cqType) →
          (valid = true → (∀ e ∈ s.fr.queues, e.2.due = []) → Completes (.queueEnable t l ctx cqType) s fun u =>
            u.QadmEnded t l 1 ∧
            ((u.queue q).map fun y => (y.host, y.prod, y.cons, y.expSeq, y.state, y.fault)) =
              some (x.host, 0, 0, w.getD 5 0, 1, 0)) ∧
          (valid = false → Completes (.queueEnable t l ctx cqType) s fun u =>
            u.QadmEnded t l 1 ∧ u.queueState q = 3 ∧ (∀ y, u.queue q = some y → y.fault = 1) ∧
            u.eventSet Ev.TEN_QUEUE_FAULT t = true ∧
            (u.rd Reg.QFAULT t (l.val / 32)).testBit (l.val % 32) = true)))))

/-- R345, R357, R358, R360, R369, R370, R372. A doorbell moves PROD or CONS of a queue, is stale, is ignored, faults the
queue, or waits for a load; an index write-back publishes; a staged record is delivered. -/
def Obligations.QueueIndexes : Prop :=
  (∀ (s : State) (t : Tenant) (l : Fin 16384) (o : Fin 131072) (v : BitVec 64), s.alive = true → o.val = 8 * l.val →
    ∀ lo hi : Word, lo = v.setWidth 32 → hi = (v >>> 32).setWidth 32 → ∀ q, q = 16384 * t.val + l.val → ∀ open_ : Bool, open_ = (hi == 0 && (s.queueState q == 1 || s.queueState q == 2) && s.tenantUp t) →
    (open_ = false → Completes (.doorbell t o 8 (some v)) s fun u =>
      u.rd Reg.TEN_DB_IGNORED_COUNT t = (s.rd Reg.TEN_DB_IGNORED_COUNT t + 1) % 2 ^ 32 ∧
      u.eventSet Ev.TEN_DB_IGNORED t = true ∧ EventsKept s u ∧ OnlyChanges [.regs, .nt, .out] s u) ∧
    (open_ = true → s.queue q = none → Completes (.doorbell t o 8 (some v)) s fun u =>
      u.fr.doorbells = s.fr.doorbells ++ [(q, lo.toNat)] ∧ (q ∈ u.fr.loads ∨ q ∈ u.fr.stalled)) ∧
    (open_ = true → ∀ x, s.queue q = some x →
      ∀ base, base = (if x.hostProduced then x.prod else x.cons) →
      ∀ ahead, ahead = (lo.toNat + 2 ^ 32 - base) % 2 ^ 32 → ∀ behind, behind = (base + 2 ^ 32 - lo.toNat) % 2 ^ 32 →
      ∀ room, room = (if x.hostProduced then x.size - (x.prod + 2 ^ 32 - x.cons) % 2 ^ 32
        else (x.prod + 2 ^ 32 - x.cons) % 2 ^ 32) →
      (lo.toNat = base → Completes (.doorbell t o 8 (some v)) s fun u => u = s.inc Reg.CTXC_HITS_COUNT) ∧
      (lo.toNat ≠ base → ahead ≤ room → (∀ e ∈ s.fr.queues, e.2.due = []) → Completes (.doorbell t o 8 (some v)) s fun u =>
        u = (s.inc Reg.CTXC_HITS_COUNT).putQueue q
          (if x.hostProduced then { x with prod := lo.toNat } else { x with cons := lo.toNat })) ∧
      (lo.toNat ≠ base → room < ahead → behind ≤ x.size → Completes (.doorbell t o 8 (some v)) s fun u =>
        u.rd Reg.TEN_DB_IGNORED_COUNT t = (s.rd Reg.TEN_DB_IGNORED_COUNT t + 1) % 2 ^ 32 ∧
        u.eventSet Ev.TEN_DB_STALE t = true ∧ EventsKept s u ∧ OnlyChanges [.regs, .nt, .out] s u) ∧
      (lo.toNat ≠ base → room < ahead → x.size < behind → Completes (.doorbell t o 8 (some v)) s fun u =>
        u.queueState q = 3 ∧ u.eventSet Ev.TEN_QUEUE_FAULT t = true))) ∧
  (∀ (s : State) (t : Tenant) (o : Fin 131072) (width : Nat), s.alive = true →
    (∀ v : BitVec 64, width ≠ 8 ∨ o.val % 8 ≠ 0 → Completes (.doorbell t o width (some v)) s fun u => Told s u ∧ u.fr = s.fr) ∧
    (Completes (.doorbell t o width none) s fun u =>
      u.out.head? = some (.doorbellData t o 0) ∧ u.fr = s.fr ∧ u.regs = s.regs)) ∧
  (∀ (s : State) (q : Fin 262144) (error : Bool), s.alive = true →
    (s.queue q = none → Completes (.indexWriteback q error) s fun u => u = s) ∧
    (∀ x, s.queue q = some x →
      (x.unpublished = 0 ∨ (error = true ∧ x.state ≠ 1) → Completes (.indexWriteback q error) s fun u => u = s) ∧
      (x.unpublished ≠ 0 → error = true → x.state = 1 → Completes (.indexWriteback q error) s fun u =>
        u.queueState q = 3 ∧ u.eventSet Ev.TEN_QUEUE_FAULT (tenantOf q) = true) ∧
      (x.unpublished ≠ 0 → error = false → Completes (.indexWriteback q error) s fun u =>
        ((u.queue q).map fun y => (y.unpublished, y.events, y.prod, y.cons, y.state)) = some (0, 0, x.prod, x.cons, x.state) ∧
        (s.version (tenantOf q) ≠ 0 → x.writebackAt ≠ 0 →
          .writeback (tenantOf q) x.writebackAt x.indexValue ∈ u.out) ∧
        OnlyChanges [.fr, .nt, .out] s u))) ∧
  (∀ (s : State) (q : Fin 262144), s.alive = true →
    (s.fr.staged.find? (fun r => r.queue == q.val) = none → Completes (.recordDelivery q) s fun u => u = s) ∧
    (∀ r, s.fr.staged.find? (fun r => r.queue == q.val) = some r →
      ∀ rest, rest = s.fr.staged.eraseP (fun r => r.queue == q.val) →
      (s.takesRecord r = false → Completes (.recordDelivery q) s fun u =>
        u.fr.staged = rest ∧ u.fr.queues = s.fr.queues ∧ EventsKept s u) ∧
      (s.takesRecord r = true → s.levelStops (tenantOf q.val) [1, 2] = true →
        Completes (.recordDelivery q) s fun u => u = s) ∧
      (s.takesRecord r = true → s.levelStops (tenantOf q.val) [1, 2] = false → s.queue q = none → Completes (.recordDelivery q) s fun u =>
        u.fr.staged = s.fr.staged ∧ (q.val ∈ u.fr.loads ∨ q.val ∈ u.fr.stalled)) ∧
      (s.takesRecord r = true → s.levelStops (tenantOf q.val) [1, 2] = false → ∀ x, s.queue q = some x →
        ∀ n, n = (if kindType r.kind = 5 then r.blocks else 1) →
        ∀ pad, pad = (if kindType r.kind = 5 then padBlocks x x.prod n else 0) →
        (x.free < n + pad → kindWaits r.kind = true → Completes (.recordDelivery q) s fun u => u = s) ∧
        (x.free < n + pad → kindWaits r.kind = false → Completes (.recordDelivery q) s fun u =>
          u.fr.staged = rest ∧ u.fr.queues = s.fr.queues ∧ EventsKept s u) ∧
        (n + pad ≤ x.free → Completes (.recordDelivery q) s fun u =>
          u.fr.staged = rest ∧ ((u.queue q).map fun y => (y.prod, y.cons)) = some ((x.prod + pad + n) % 2 ^ 32, x.cons) ∧
          .entry q ((x.prod + pad) % 2 ^ 32) r.words ∈ u.out ∧
          (pad = 0 → u.fresh = s.fresh)))))

/-- R351, R352, R353, R371, R418. Leases: what a grant refuses, a grant, its end by the owner, by its time and after a
fault of its holder, and a renewal. -/
def Obligations.Leases : Prop :=
  (∀ (s : State) (r : Fin 128) (t : Tenant) (ms : BitVec 16), s.alive = true →
    ∀ refused : Bool, refused = (decide (87 < r.val) || t.val == 0 || !s.tenantUp t ||
      ((s.holder r).getD 0 != 0 && (s.holder r).getD 0 != t.val)) →
    (refused = true → Completes (.leaseGrant r t ms) s fun u =>
      Told s u ∧ u.eventSet Ev.LEASE_LEASE_REFUSED = true ∧ EventsKept s u) ∧
    (refused = false → Completes (.leaseGrant r t ms) s fun u =>
      u.holder r = some t.val ∧ (∀ i, i < 88 → i ≠ r.val → u.holder i = s.holder i) ∧
      (u.rd Reg.TEN_LEASES_BITS t (r.val / 32)).testBit (r.val % 32) = true ∧
      sget u.fr.leaseEnd r = s.tb.ns + 1000000 * max 1 ms.toNat ∧ sget u.fr.leaseMs r = max 1 ms.toNat ∧
      EventsKept s u)) ∧
  (∀ (s : State) (r : Fin 128), s.alive = true →
    (s.holder r = none → Completes (.leaseRevoke r) s fun u => u = s) ∧
    (r.val < 88 → ∀ t, s.holder r = some t → t < 16 → Completes (.leaseRevoke r) s fun u =>
      u.holder r = none ∧ u.rd Reg.LEASE_HOLDER 0 r = 0 ∧ (∀ i, i < 88 → i ≠ r.val → u.holder i = s.holder i) ∧
      (u.rd Reg.TEN_LEASES_BITS t (r.val / 32)).testBit (r.val % 32) = false ∧
      sget u.fr.leaseEnd r = 0 ∧ u.eventSet Ev.LEASE_LEASE_END = true ∧ u.eventSet Ev.TEN_LEASE_END t = true ∧
      (r.val < 64 → u.rd Reg.DMA_STATUS_STATE r = 2 ∧ u.rd Reg.DMA_STATUS_CAUSE r = 2))) ∧
  (∀ (s : State) (r : Fin 88), s.alive = true →
    (s.holder r = none → Completes (.leaseExpiry r) s fun u => u = s) ∧
    (∀ t, s.holder r = some t → t < 16 → Completes (.leaseExpiry r) s fun u =>
      u.holder r = none ∧ (u.rd Reg.TEN_LEASES_BITS t (r.val / 32)).testBit (r.val % 32) = false ∧
      u.eventSet Ev.LEASE_LEASE_END = true ∧ u.eventSet Ev.TEN_LEASE_END t = true)) ∧
  (∀ (s : State) (t : Tenant), s.alive = true → Completes (.leaseRenew t) s fun u =>
    (∀ r, r < 88 → sget u.fr.leaseEnd r =
      if s.holder r = some t.val then s.tb.ns + 1000000 * sget s.fr.leaseMs r else sget s.fr.leaseEnd r) ∧
    (∀ r, r < 88 → u.holder r = s.holder r) ∧
    (sget s.fr.expired t = s.tb.ns + 1 → u.eventSet Ev.LEASE_RENEW_LATE = true) ∧ EventsKept s u ∧
    OnlyChanges [.fr, .nt, .out] s u) ∧
  (∀ (s : State) (t : Tenant), s.alive = true → Completes (.leaseRevokeOnFault t) s fun u =>
    (∀ r, r < 88 → u.holder r = if r ∈ s.fr.revoking ∧ s.holder r = some t.val then none else s.holder r) ∧
    ((∃ r ∈ s.fr.revoking, s.holder r = some t.val) → u.eventSet Ev.LEASE_LEASE_END = true))

/-- Tenant `t` has been reset: it is in a state, its version reads 0, it has no queue left in the cache, and no reset of it
is in progress (R346). -/
def Sys2Proof.Machine.State.TenantCleared (u : State) (t st : Nat) : Prop :=
  u.tenantState t = st ∧ u.version t = 0 ∧ (∀ e ∈ u.fr.queues, tenantOf e.1 ≠ t) ∧ tfind t u.fr.resets = none

/-- R343, R346, R347, R375, R411, R415, R417. What resets a tenant: an FLR, D3hot, VF Enable, TEN_RESET, the link, a
drain that takes too long. A reset of a tenant without a transfer in flight ends at once, with TENANT_DOWN; with one
it waits. R346, R348, R349, R356, R374, R379, R415, R417. What tenants do and suffer beyond resets: HELLO is
answered by the tenant's state, a poisoned request faults a tenant that is UP, the context base moves only while
every queue is DISABLED, and QSTAT_A shows a queue and captures its indexes. -/
def Obligations.Tenants : Prop :=
  ((∀ (s : State) (t : Tenant), s.alive = true → s.tenantState t ≠ 0 → tfind t.val s.fr.resets = none →
    (s.tenantBusy t = false →
      Completes (.d3hotEntry t) s (fun u => u.TenantCleared t 1 ∧ u.eventSet Ev.HOST_TENANT_DOWN = true) ∧
      (t.val ≠ 0 → Completes (.functionLevelReset t) s fun u =>
        u.TenantCleared t 1 ∧ u.eventSet Ev.HOST_TENANT_DOWN = true ∧ tfind t.val u.nt.ic.msix = none ∧
        ∀ i, i ≠ t.val → tfind i u.nt.ic.msix = tfind i s.nt.ic.msix)) ∧
    (s.tenantBusy t = true →
      (∀ c ∈ List.range 64, ∀ x ∈ (s.channel c).current.toList, tenantOf x.queue = t → x.settled = false) →
      Completes (.d3hotEntry t) s fun u =>
        tfind t.val u.fr.resets = some { down := true } ∧ ∀ e ∈ u.fr.queues, tenantOf e.1 = t → e.2.state = 0)) ∧
  (∀ (s : State), s.alive = true → s.fr.resets = [] → (∀ t, t < 16 → s.tenantBusy t = false) →
    Completes (.functionLevelReset 0) s fun u =>
      u.rd Reg.SRIOV_VF_ENABLE = 0 ∧ u.rd Reg.SRIOV_NUM_VFS = s.rd Reg.SRIOV_NUM_VFS % 2 ^ 4 ∧
      (s.tenantState 0 ≠ 0 → u.TenantCleared 0 1) ∧ ∀ t, t < 16 → 0 < t → u.tenantState t = 0) ∧
  (∀ (s : State) (t : Tenant), s.alive = true → s.tenantState t = 0 →
    Completes (.d3hotEntry t) s (fun u => u = s)) ∧
  (∀ (s : State) (n : Fin 16) (enable : Bool), s.alive = true → s.fr.resets = [] →
    (∀ t, t < 16 → s.tenantBusy t = false) → Completes (.vfEnableChange n enable) s fun u =>
      u.rd Reg.SRIOV_NUM_VFS = n ∧ u.rd Reg.SRIOV_VF_ENABLE = enable.toNat ∧ u.tenantState 0 = s.tenantState 0 ∧
      ∀ t, t < 16 → 0 < t → u.tenantState t =
        if enable = true ∧ t ≤ n then (if s.tenantState t = 0 then 1 else s.tenantState t) else 0) ∧
  (∀ (s : State) (mask : BitVec 16), s.alive = true → s.fr.resets = [] → (∀ t, t < 16 → s.tenantBusy t = false) →
    Completes (.tenReset mask) s fun u => u.tenantState 0 = s.tenantState 0 ∧
      ∀ t, t < 16 → 0 < t → u.tenantState t =
        if mask.toNat.testBit t = true ∧ s.tenantState t ≠ 0 then 1 else s.tenantState t) ∧
  (∀ (s : State) (hotReset : Bool), s.alive = true → s.fr.resets = [] → (∀ t, t < 16 → s.tenantBusy t = false) →
    Completes (.linkDown hotReset) s fun u =>
      u.eventSet Ev.HOST_LINK_CHANGE = true ∧ (∀ f, f < 16 → tfind f u.nt.ic.msix = none) ∧
      u.tenantState 0 = (if s.tenantState 0 = 0 then 0 else 1) ∧ (∀ t, t < 16 → 0 < t → u.tenantState t = 0) ∧
      (hotReset = false → u.rd Reg.HOST_LINK_UP = 0 ∧ u.rd Reg.HOST_LINK_SPEED = 0 ∧ u.rd Reg.HOST_LINK_WIDTH = 0) ∧
      (hotReset = true → u.rd Reg.HOST_LINK_UP = s.rd Reg.HOST_LINK_UP)) ∧
  (∀ (s : State) (speed : Fin 8) (width : Fin 32) (up : Bool), s.alive = true →
    Completes (.linkChange speed width up) s fun u =>
      u.rd Reg.HOST_LINK_UP = up.toNat ∧ u.rd Reg.HOST_LINK_SPEED = (if up then speed.val else 0) ∧
      u.rd Reg.HOST_LINK_WIDTH = (if up then width.val else 0) ∧ u.eventSet Ev.HOST_LINK_CHANGE = true ∧
      EventsKept s u ∧ u.fr = s.fr) ∧
  (∀ (s : State) (t : Tenant), s.alive = true →
    (tfind t.val s.fr.resets = none → Completes (.tenantDrainLimit t) s fun u => u = s) ∧
    (∀ g, tfind t.val s.fr.resets = some g → Completes (.tenantDrainLimit t) s fun u =>
      u.TenantCleared t (if g.absent = true ∧ s.vfEnabled t = false then 0 else 1) ∧
      (g.down = true → u.eventSet Ev.HOST_TENANT_DOWN = true)))) ∧
  ((∀ (s : State) (t : Tenant), s.alive = true → ∀ w, w = tget [] s.mgmt.requests t →
    (s.rd Reg.MBX_STATUS_STATE t ≠ 2 ∨ w.getD 0 0 % 2 ^ 8 ≠ 1 ∨ (tfind t.val s.mgmt.replies).isSome = true →
      Completes (.hello t) s fun u => u = s) ∧
    (s.rd Reg.MBX_STATUS_STATE t = 2 → w.getD 0 0 % 2 ^ 8 = 1 → tfind t.val s.mgmt.replies = none →
      ((s.tenantState t = 0 ∧ tfind t.val s.fr.resets = none) ∨
        (∃ g, tfind t.val s.fr.resets = some g ∧ g.hello = none) → Completes (.hello t) s fun u =>
          tfind t.val u.mgmt.replies = some [0x2FF, 3] ∧ Told { s with mgmt := u.mgmt } u) ∧
      (tfind t.val s.fr.resets = none → 1 ≤ s.tenantState t → s.tenantBusy t = false →
        Completes (.hello t) s fun u =>
          tfind t.val u.mgmt.replies = some (if helloMalformed w = true then [0x2FF, 2]
            else if w.getD 1 0 % 16 = 0 then [0x2FF, 1]
            else [0x481, 2 ^ Nat.log2 (w.getD 1 0 % 16), 16384, t.val]) ∧
          u.tenantState t = 1))) ∧
  (∀ (s : State) (t : Tenant), s.alive = true →
    (s.tenantUp t = false → Completes (.poisonedRequest t) s fun u => u = s.incSat Reg.TEN_FLT_COUNT 0 t) ∧
    (s.tenantUp t = true → Completes (.poisonedRequest t) s fun u =>
      u.tenantState t = 3 ∧ u.rd Reg.TEN_FLT_CAUSE 0 t = 2 ∧
      u.rd Reg.TEN_FLT_COUNT 0 t = min 65535 (s.rd Reg.TEN_FLT_COUNT 0 t + 1) ∧
      u.eventSet Ev.HOST_TENANT_FAULT = true ∧ u.eventSet Ev.FLT_TENANT_FAULT = true ∧
      (∀ q ∈ s.activeQueues t, u.queueState q = 3) ∧ (∀ r ∈ u.fr.staged, tenantOf r.queue ≠ t) ∧
      ∀ r, r < 88 → s.holder r = some t.val → r ∈ u.fr.revoking)) ∧
  (∀ (s : State) (t : Tenant) (v : Word), s.alive = true →
    (s.activeQueues t ≠ [] →
      Completes (.tenCtxBaseWrite t false v) s (fun u => Told s u ∧ u.eventSet Ev.TEN_CTX_REFUSED t = true ∧ EventsKept s u) ∧
      Completes (.tenCtxBaseWrite t true v) s (fun u => Told s u ∧ u.eventSet Ev.TEN_CTX_REFUSED t = true ∧ EventsKept s u)) ∧
    (s.activeQueues t = [] →
      Completes (.tenCtxBaseWrite t false v) s (fun u => u = s.wr Reg.TEN_CTX_BASE_LO_ADDR (v.toNat / 2 ^ 12) t) ∧
      Completes (.tenCtxBaseWrite t true v) s (fun u => u = s.wr Reg.TEN_CTX_BASE_HI_ADDR v.toNat t))) ∧
  (∀ (s : State) (agent : Agent) (t : Tenant) (ctx : Option (List Nat)), s.alive = true →
    ∀ q, q = 16384 * t.val + s.rd Reg.QSEL_QUEUE t → ∀ p, p = 0x401 + 64 * t.val →
    (∀ x, s.queue q = some x → Completes (.qstatARead agent t 0 4 ctx) s fun u =>
      u.out.head? = some (.readData agent p 0x24 ((x.state + x.type <<< 4 +
        (if sget s.fr.parkedFault q = 0 then x.fault else sget s.fr.parkedFault q) <<< 8 + 2 ^ 16 +
        (s.pinned q x).toNat <<< 17) % 2 ^ 32)) ∧ u.out.tail = s.out ∧
      u.captured agent p 0x28 = x.prod % 2 ^ 32 ∧ u.captured agent p 0x2C = x.cons % 2 ^ 32 ∧
      u.captured agent p 0x30 = x.expSeq % 2 ^ 32 ∧ u.captured agent p 0x34 = x.epoch ∧
      u.fr = s.fr) ∧
    (s.queue q = none → ∀ w, ctx = some w → Completes (.qstatARead agent t 0 4 ctx) s fun u =>
      u.captured agent p 0x28 = w.getD 8 0 % 2 ^ 32 ∧ u.captured agent p 0x2C = w.getD 9 0 % 2 ^ 32 ∧
      u.captured agent p 0x30 = w.getD 10 0 % 2 ^ 32 ∧ (u.queue q).isSome = true) ∧
    (s.queue q = none → ctx = none → s.tenantUp t = true → Completes (.qstatARead agent t 0 4 ctx) s fun u =>
      u.tenantState t = 3 ∧ u.rd Reg.TEN_FLT_CAUSE 0 t = 1)))

/-- R358, R363, R364, R365, R366, R372, R384, R392. Descriptors: what a fetch finds in ring order, a context that a load
brings, a DMA_XFER that is given to its channel or completes at once, and a REG_WRITE, which stores through its mask. -/
def Obligations.Descriptors : Prop :=
  (∀ (s : State) (q : Fin 262144) (words : Option (List Nat)), s.alive = true → ∀ t, t = tenantOf q.val →
    ∀ x, s.queue q = some x →
    (x.state ≠ 1 ∨ x.hostProduced = false ∨ x.prod = x.cons ∨ x.head.isSome = true ∨ x.due ≠ [] →
      Completes (.descriptorFetch q words) s fun u => u = s) ∧
    (x.state = 1 → x.hostProduced = true → x.prod ≠ x.cons → x.head = none → x.due = [] →
      (words = none → Completes (.descriptorFetch q words) s fun u =>
        u.queueState q = 3 ∧ u.eventSet Ev.TEN_QUEUE_FAULT t = true) ∧
      (∀ w, words = some w → s.version t ≠ 0 → fenced (s.version t) w = false ∨ x.begun = [] →
        (w.getD 0 0 / 2 ^ 16 % 2 ^ 8 ≠ x.epoch → Completes (.descriptorFetch q words) s fun u =>
          u.rd Reg.TEN_STALE_COUNT t = (s.rd Reg.TEN_STALE_COUNT t + 1) % 2 ^ 32 ∧
          u.eventSet Ev.TEN_STALE_EPOCH t = true ∧
          ((u.queue q).map fun y => (y.cons, y.stale, y.expSeq)) =
            some ((x.cons + 1) % 2 ^ 32, (x.stale + 1) % 2 ^ 32, x.expSeq)) ∧
        (w.getD 0 0 / 2 ^ 16 % 2 ^ 8 = x.epoch → ∀ d, d = signed 32 (w.getD 1 0 + 2 ^ 32 - x.expSeq) →
          (0 < d → Completes (.descriptorFetch q words) s fun u =>
            u.queueState q = 3 ∧ u.eventSet Ev.TEN_QUEUE_FAULT t = true) ∧
          (d < 0 → Completes (.descriptorFetch q words) s fun u =>
            u.rd Reg.TEN_DUP_COUNT t = (s.rd Reg.TEN_DUP_COUNT t + 1) % 2 ^ 32 ∧
            u.eventSet Ev.TEN_DUPLICATE t = true ∧ ∀ y, u.queue q = some y → y.expSeq = x.expSeq) ∧
          (d = 0 → unsupported (s.version t) x.type w = false → w.getD 0 0 % 2 ^ 8 ≠ 0 →
            Completes (.descriptorFetch q words) s fun u =>
              u = s.putQueue q { x with head := some w }))))) ∧
  (∀ (s : State) (q : Fin 262144) (ctx : Option (List Nat)) (cqType : Fin 8), s.alive = true →
    (q.val ∉ s.fr.loads → Completes (.contextLoad q ctx cqType) s fun u => u = s) ∧
    (q.val ∈ s.fr.loads → ctx = none → s.tenantUp (tenantOf q) = true →
      Completes (.contextLoad q ctx cqType) s fun u =>
        u.tenantState (tenantOf q) = 3 ∧ u.rd Reg.TEN_FLT_CAUSE 0 (tenantOf q) = 1) ∧
    (q.val ∈ s.fr.loads → q.val ∉ s.fr.enabling → ∀ w, ctx = some w →
      (∀ e ∈ s.fr.doorbells, e.1 ≠ q.val) → (∀ e ∈ s.fr.notices, e.1 ≠ q.val) → (∀ e ∈ s.fr.queues, e.2.due = []) →
      Completes (.contextLoad q ctx cqType) s fun u =>
        q.val ∉ u.fr.loads ∧ ((u.queue q).map fun y => (y.host, y.prod, y.cons, y.state)) =
          some ((contextQueue w).host, w.getD 8 0, w.getD 9 0, sget s.fr.parked q))) ∧
  (∀ (s : State) (q : Fin 262144), s.alive = true → ∀ t, t = tenantOf q.val →
    ((∀ x, s.queue q = some x → x.head = none) → Completes (.dmaXfer q) s fun u => u = s) ∧
    (∀ x, s.queue q = some x → ∀ w, x.head = some w → x.state = 1 → x.type = 0 → w.getD 0 0 % 2 ^ 8 = 1 →
      s.version t ≠ 0 → ∀ c, c = w.getD 6 0 % 2 ^ 6 → ∀ y, y = s.xferSteps c (xferOf q x.cons w).2 →
      (xferReason (s.version t) w y ≠ 0 ∨ s.holds t c = false → x.due = [] → s.unworked q = true → Completes (.dmaXfer q) s fun u =>
        (∀ i, i < 64 → u.channel i = s.channel i) ∧ ∀ z, u.queue q = some z → z.head = none ∧ z.cons = (x.cons + 1) % 2 ^ 32) ∧
      (xferReason (s.version t) w y = 0 → s.holds t c = true → y.windowPage (fun _ => true) = false →
        (w.getD 6 0).testBit 13 = false → s.rd Reg.DMA_STATUS_STATE c ≠ 2 → s.channel c = {} →
        Completes (.dmaXfer q) s fun u =>
          (u.channel c).current = some y ∧ u.rd Reg.DMA_STATUS_STATE c = 1 ∧
          ((u.queue q).map fun z => (z.head, z.cons, z.begun.getLast?.map (·.index))) =
            some (none, (x.cons + 1) % 2 ^ 32, some x.cons)))) ∧
  (∀ (s : State) (q : Fin 262144) (o : Outside), s.alive = true → ∀ t, t = tenantOf q.val →
    ((∀ x, s.queue q = some x → x.head = none) → Completes (.regWrite q o) s fun u => u = s) ∧
    (∀ x, s.queue q = some x → ∀ w, x.head = some w → x.state = 1 → x.type = 0 → w.getD 0 0 % 2 ^ 8 = 3 →
      x.due = [] → ∀ p, p = w.getD 6 0 →
      (p < 2 ^ 13 → s.sees t p = false ∨ s.readOnly t p = true → Completes (.regWrite q o) s fun u =>
        (∀ i k, u.rd Reg.PAGE_MASK i = s.rd Reg.PAGE_MASK i ∧ u.rd Reg.TEN_CTX_BASE_HI_ADDR k = s.rd Reg.TEN_CTX_BASE_HI_ADDR k) ∧
        ∀ z, u.queue q = some z → z.head = none ∧ z.cons = (x.cons + 1) % 2 ^ 32) ∧
      (s.sees t p = true → s.readOnly t p = false → (pageRow p).isSome = true → w.getD 7 0 = 0x14 →
        (w.drop 10).all (· == 0) = true → Completes (.regWrite q o) s fun u =>
          u.rd Reg.PAGE_MASK p = ((s.rd Reg.PAGE_MASK p &&& (0xFFFFFFFF - w.getD 9 0)) ||| (w.getD 8 0 &&& w.getD 9 0)) % 2 ^ 32 ∧
          ∀ z, u.queue q = some z → z.head = none ∧ z.cons = (x.cons + 1) % 2 ^ 32)))

/-- R390, R391, R392, R393, R397. Requests and errors of the DMA engine: pacing, a bus error and its retry, the end of a
transfer, CLEAR, ABORT and the address of the last error. R385, R386, R388, R389, R390, R393. The data flow of the
DMA engine: which burst the arbiter grants, how long a burst is, the reads it makes, and the writes of the elements
that have come. -/
def Obligations.DmaTransfers : Prop :=
  ((∀ (s : State) (l : Fin 64), s.alive = true → Completes (.dmaPaceRequest l) s fun u =>
    (∀ c, c < 64 → u.rd Reg.DMA_STATUS_REQ_PEND c =
      if l.val < 7 ∧ s.on Reg.DMA_CTL_REQ_EN c = true ∧ s.rd Reg.DMA_CTL_REQ_SEL c = l ∧
          s.rd Reg.DMA_STATUS_REQ_PEND c ≠ 255
        then (s.rd Reg.DMA_STATUS_REQ_PEND c + 1) % 2 ^ 8 else s.rd Reg.DMA_STATUS_REQ_PEND c) ∧
    (∀ c, c < 64 → l.val < 7 → s.on Reg.DMA_CTL_REQ_EN c = true → s.rd Reg.DMA_CTL_REQ_SEL c = l →
      s.rd Reg.DMA_STATUS_REQ_PEND c = 255 → u.eventSet Ev.DMA_REQ_OVERRUN c = true) ∧
    EventsKept s u ∧ OnlyChanges [.regs, .nt, .out] s u) ∧
  (∀ (s : State) (c : Fin 64), s.alive = true →
    ∀ takes : Bool, takes = (s.on Reg.DMA_CTL_REQ_EN c && s.rd Reg.DMA_CTL_REQ_SEL c == 63) →
    (takes = false → Completes (.dmaTimer c) s fun u => u = s) ∧
    (takes = true → s.rd Reg.DMA_STATUS_REQ_PEND c = 255 → Completes (.dmaTimer c) s fun u =>
      Told s u ∧ u.eventSet Ev.DMA_REQ_OVERRUN c = true ∧ EventsKept s u) ∧
    (takes = true → s.rd Reg.DMA_STATUS_REQ_PEND c ≠ 255 → Completes (.dmaTimer c) s fun u =>
      u = s.wr Reg.DMA_STATUS_REQ_PEND (s.rd Reg.DMA_STATUS_REQ_PEND c + 1) c)) ∧
  (∀ (s : State) (c : Fin 64), s.alive = true →
    Completes (.reqClear c) s fun u => u.rd Reg.DMA_STATUS_REQ_PEND c = 0 ∧ OnlyChanges [.regs] s u ∧
      ∀ i, i < 64 → i ≠ c.val → u.rd Reg.DMA_STATUS_REQ_PEND i = s.rd Reg.DMA_STATUS_REQ_PEND i) ∧
  (∀ (s : State) (c : Fin 64) (b : Fin 8), s.alive = true →
    ((s.channel c).current = none → Completes (.dmaBusError c b) s fun u => u = s) ∧
    (∀ x, (s.channel c).current = some x → x.trailing = false → x.stop = none →
      ∀ v, x.bursts[b.val]? = some v → v.failed = false → v.data = none →
      (v.tries < s.rd Reg.DMA_CTL_RETRY c → Completes (.dmaBusError c b) s fun u =>
        u.rd Reg.DMA_STATUS_STATE c = s.rd Reg.DMA_STATUS_STATE c ∧
        u.rd Reg.DMA_STATUS_RETRIES c = min 15 (s.rd Reg.DMA_STATUS_RETRIES c + 1) ∧
        u.rdPair Reg.DMA_ERR_ADDR_LO_VALUE Reg.DMA_ERR_ADDR_HI_VALUE c = x.sourceByte v.first % 2 ^ 64 ∧
        ((u.channel c).current.map (·.bursts)) = some (x.bursts.set b { v with failed := true, tries := v.tries + 1 }) ∧
        u.eventSet Ev.DMA_RETRY c = true ∧ EventsKept s u ∧ OnlyChanges [.regs, .dma, .nt, .out] s u) ∧
      (s.rd Reg.DMA_CTL_RETRY c ≤ v.tries → Completes (.dmaBusError c b) s fun u =>
        u.rd Reg.DMA_STATUS_STATE c = 2 ∧ u.rd Reg.DMA_STATUS_CAUSE c = 1 ∧
        u.rdPair Reg.DMA_ERR_ADDR_LO_VALUE Reg.DMA_ERR_ADDR_HI_VALUE c = x.sourceByte v.first % 2 ^ 64 ∧
        u.eventSet Ev.DMA_HALTED c = true ∧ (u.channel c).waiting = []))) ∧
  (∀ (s : State) (c : Fin 64) (b : Fin 8), s.alive = true →
    ((s.channel c).current = none → Completes (.dmaRetry c b) s fun u => u = s) ∧
    (∀ x, (s.channel c).current = some x → x.stop = none → x.trailFailed = false → ∀ v, x.bursts[b.val]? = some v →
      (v.failed = false → Completes (.dmaRetry c b) s fun u => u = s) ∧
      (v.failed = true → ∀ a, a = x.sourceByte v.first → Completes (.dmaRetry c b) s fun u =>
        u.out = .hostRead (tenantOf x.queue) (a / 4 * 4) ((a + v.count + 3) / 4 * 4 - a / 4 * 4) :: s.out ∧
        ((u.channel c).current.map (·.bursts)) = some (x.bursts.set b { v with failed := false }) ∧
        OnlyChanges [.dma, .out] s u))) ∧
  (∀ (s : State) (c : Fin 64), s.alive = true →
    ((s.channel c).current = none → Completes (.dmaTransferComplete c) s fun u => u = s) ∧
    (∀ x, (s.channel c).current = some x →
      (x.payload = true ∨ x.stop ≠ none ∨ x.issued ≠ x.total ∨ x.bursts ≠ [] ∨ (x.trailing = true ∧ x.trailed = false) →
        Completes (.dmaTransferComplete c) s fun u => u = s) ∧
      (x.payload = false → x.stop = none → x.issued = x.total → x.bursts = [] → x.trailing = false ∨ x.trailed = true →
        (s.channel c).waiting = [] → s.rd Reg.DMA_STATUS_STATE c ≠ 2 → Completes (.dmaTransferComplete c) s fun u =>
          (u.channel c).current = none ∧ u.rd Reg.DMA_STATUS_STATE c = 0 ∧
          ∀ y, u.queue x.queue = some y → ∀ d ∈ y.begun, d.index ≠ x.index))) ∧
  (∀ (s : State) (agent : Agent) (c : Fin 64), s.alive = true →
    ∀ may : Bool, may = (s.rd Reg.DMA_STATUS_STATE c == 2 && (s.holds agent c || agent.val == 0 || decide (16 ≤ agent.val))) →
    (may = false → Completes (.dmaClear agent c) s fun u => u = s) ∧
    (may = true → (s.channel c).waiting = [] → Completes (.dmaClear agent c) s fun u =>
      u.rd Reg.DMA_STATUS_STATE c = 0 ∧ u.rd Reg.DMA_STATUS_CAUSE c = 0 ∧ u.rd Reg.DMA_STATUS_RETRIES c = 0 ∧
      u.channel c = s.channel c ∧ OnlyChanges [.regs] s u)) ∧
  (∀ (s : State) (c : Fin 64), s.alive = true →
    (s.rd Reg.DMA_STATUS_STATE c = 2 → Completes (.dmaAbort c) s fun u => u = s) ∧
    (s.rd Reg.DMA_STATUS_STATE c ≠ 2 → Completes (.dmaAbort c) s fun u =>
      (u.channel c).waiting = [] ∧ u.rd Reg.DMA_STATUS_STATE c = 0 ∧
      (∀ x, (s.channel c).current = some x →
        (x.settled = true → (u.channel c).current = none) ∧
        (x.settled = false → ((u.channel c).current.map (·.stop)) = some (some (x.stop.getD 0x0A)))))) ∧
  (∀ (s : State) (agent : Agent) (c : Fin 64), s.alive = true →
    PairRead (.dmaPairRead agent c) agent (0x800 + c) 0x2C
      (s.rd Reg.DMA_ERR_ADDR_LO_VALUE c + 2 ^ 32 * s.rd Reg.DMA_ERR_ADDR_HI_VALUE c) s)) ∧
  ((∀ (s : State) (o : Outside), s.alive = true →
    (s.arbiter = none → Completes (.dmaBurstGrant o) s fun u => u = s) ∧
    (∀ g, s.arbiter = some g → ∀ c, c = g.1 → ∀ x, x = g.2.1 → x.src.testBit 63 = false →
      ∀ n, n = x.nextBurst (s.burstLimit c) → ∀ a, a = x.sourceByte x.granted → Completes (.dmaBurstGrant o) s fun u =>
        g ∈ s.readyBursts ∧ (∀ h ∈ s.readyBursts, s.grantsFirst h g = false) ∧
        (u.channel c).current = some { x with granted := x.granted + n, bursts := x.bursts ++ [{ first := x.granted, count := n }] } ∧
        u.out = .hostRead (tenantOf x.queue) (a / 4 * 4) ((a + n + 3) / 4 * 4 - a / 4 * 4) :: s.out ∧
        u.rd Reg.DMA_STATUS_REQ_PEND c =
          (if s.paced c x = true then (s.rd Reg.DMA_STATUS_REQ_PEND c - 1) % 2 ^ 8 else s.rd Reg.DMA_STATUS_REQ_PEND c) ∧
        sget u.dma.last (s.rd Reg.DMA_CTL_PRIO c) 63 = c ∧ OnlyChanges [.regs, .dma, .out] s u)) ∧
  (∀ (s : State) (c : Nat) (x : Xfer), ∀ limit, limit = s.burstLimit c → ∀ n, n = x.nextBurst limit →
    n ≤ limit ∧ x.sourceByte x.granted % 4096 + n ≤ 4096 ∧
    (x.payload = false → x.targetByte x.granted % 4096 + n ≤ 4096) ∧
    (x.serial = true → n ≤ x.esize) ∧ limit = 64 * 2 ^ s.rd Reg.DMA_CTL_BURST c) ∧
  (∀ (s : State) (c : Fin 64) (b : Fin 8) (d : List Byte) (o : Outside), s.alive = true →
    ((s.channel c).current = none → Completes (.dmaReadCompletion c b d o) s fun u => u = s) ∧
    (∀ x, (s.channel c).current = some x → x.trailing = false → ∀ v, x.bursts[b.val]? = some v →
      (v.failed = true ∨ v.data ≠ none ∨ d.length ≠ v.count → Completes (.dmaReadCompletion c b d o) s fun u => u = s) ∧
      (v.failed = false → v.data = none → d.length = v.count → x.stop = none →
        (b.val ≠ 0 → (x.bursts.head?.bind (·.data)) = none → Completes (.dmaReadCompletion c b d o) s fun u =>
          ((u.channel c).current.map (·.bursts)) = some (x.bursts.set b { v with data := some (d.map (·.toNat)) }) ∧
          ((u.channel c).current.map (·.issued)) = some x.issued) ∧
        (x.bursts = [v] → x.payload = false → x.dst.testBit 63 = false → x.native = false → x.carry = [] → 0 < x.esize →
          ∀ n, n = d.length / x.esize → 0 < n → Completes (.dmaReadCompletion c b d o) s fun u =>
            u.out = .hostWrite (tenantOf x.queue) (x.target x.issued) (x.swapAll (d.map (·.toNat))) :: s.out ∧
            ((u.channel c).current.map fun y => (y.bursts, y.issued, y.carry.length)) =
              some ([], x.issued + n, d.length - n * x.esize) ∧
            OnlyChanges [.regs, .dma, .out] s u)))) ∧
  (∀ (x : Xfer) (e : Nat), 0 < x.n0 → 0 < x.n1 → e < x.total →
    ∀ i, i = e % x.n0 → ∀ j, j = e / x.n0 % x.n1 → ∀ k, k = e / (x.n0 * x.n1) →
    e = i + x.n0 * (j + x.n1 * k) ∧ k < x.n2 ∧
    (x.source e : Int) = ((x.src : Int) + i * x.srcStep.getD 0 0 + j * x.srcStep.getD 1 0 + k * x.srcStep.getD 2 0) % 2 ^ 64))

/-- The request of controller `c` is what R402 makes it: 1 while it is enabled and has a source that can be claimed. -/
def Sys2Proof.Machine.Interrupts.RequestRight (ic : Interrupts) (c : Nat) : Prop :=
  ic.rd Reg.IC_STATUS_REQUEST c = (ic.rd Reg.IC_CTL_EN c == 1 && (ic.best c).isSome).toNat

/-- The pending bit, the in-service bit and the count of a source. -/
def Sys2Proof.Machine.Interrupts.source (ic : Interrupts) (c src : Nat) : Bool × Bool × Nat :=
  (ic.bit Reg.IC_PENDING_BITS c src, ic.bit Reg.IC_INSERVICE_BITS c src, sget ic.count (1024 * c + src))

/-- R399, R401, R402, R403, R404. The interrupt controllers: an event on a source counts or makes it pending, the
coalescing time runs out, a claim takes the best source, a completion ends it, the set and clear registers, and the
message of a rise. -/
def Obligations.InterruptControllers : Prop :=
  (∀ (s : State) (c : Fin 17) (src : Fin 1024), s.alive = true → ∀ ic, ic = s.nt.ic →
    ∀ need, need = ic.rd Reg.IC_PROF_COUNT c (ic.rd (profileRow src) c (src.val / 4)) →
    ∀ n, n = sget ic.count (1024 * c.val + src.val) →
    (1022 ≤ src.val ∨ ic.bit Reg.IC_PENDING_BITS c src = true →
      Completes (.icEvent c src) s (fun u => u = s) ∧ (src.val < 1022 → Completes (.icSet c src) s (fun u => u = s))) ∧
    (1022 ≤ src.val → Completes (.icSet c src) s (fun u => u = s) ∧ Completes (.icClear c src) s (fun u => u = s)) ∧
    (src.val < 1022 → ic.bit Reg.IC_PENDING_BITS c src = false → n + 1 < need →
      Completes (.icEvent c src) s (fun u => u.nt.ic.source c src = (false, ic.bit Reg.IC_INSERVICE_BITS c src, min 255 (n + 1)) ∧
        u.out = s.out ∧ OnlyChanges [.nt] s u) ∧
      Completes (.icSet c src) s (fun u => u.nt.ic.source c src = (false, ic.bit Reg.IC_INSERVICE_BITS c src, min 255 (n + 1)) ∧
        u.out = s.out ∧ OnlyChanges [.nt] s u)) ∧
    (src.val < 1022 → ic.bit Reg.IC_PENDING_BITS c src = false → need ≤ n + 1 →
      Completes (.icEvent c src) s (fun u => u.nt.ic.source c src = (true, ic.bit Reg.IC_INSERVICE_BITS c src, 0) ∧
        u.nt.ic.RequestRight c ∧ OnlyChanges [.nt, .out] s u) ∧
      Completes (.icSet c src) s (fun u => u.nt.ic.source c src = (true, ic.bit Reg.IC_INSERVICE_BITS c src, 0) ∧
        u.nt.ic.RequestRight c ∧ OnlyChanges [.nt, .out] s u)) ∧
    (src.val < 1022 → Completes (.icClear c src) s fun u =>
      u.nt.ic.source c src = (false, ic.bit Reg.IC_INSERVICE_BITS c src, 0) ∧ u.nt.ic.RequestRight c ∧
      OnlyChanges [.nt, .out] s u)) ∧
  (∀ (s : State) (c : Fin 17) (src : Fin 1024), s.alive = true → ∀ ic, ic = s.nt.ic →
    ∀ n, n = sget ic.count (1024 * c.val + src.val) →
    ∀ time, time = ic.rd Reg.IC_PROF_TIME_US c (ic.rd (profileRow src) c (src.val / 4)) * 1000 →
    (n = 0 ∨ s.tb.ns - sget ic.since (1024 * c.val + src.val) < time →
      Completes (.icCoalesceTimeout c src) s (fun u => u = s)) ∧
    (n ≠ 0 → time ≤ s.tb.ns - sget ic.since (1024 * c.val + src.val) →
      Completes (.icCoalesceTimeout c src) s fun u =>
        u.nt.ic.source c src = (true, ic.bit Reg.IC_INSERVICE_BITS c src, 0) ∧ u.nt.ic.RequestRight c ∧
        OnlyChanges [.nt, .out] s u)) ∧
  (∀ (s : State) (agent : Agent) (c : Fin 17), s.alive = true → ∀ ic, ic = s.nt.ic →
    (∀ src, ic.best c = some src → ic.rd Reg.IC_CTL_EN c = 1 → Completes (.icClaim agent c 0 4) s fun u =>
      u.out.head? = some (.readData agent (0x840 + c) 0x24 src) ∧ u.out.tail = s.out ∧
      u.nt.ic.bit Reg.IC_INSERVICE_BITS c src = true ∧
      u.nt.ic.bit Reg.IC_PENDING_BITS c src = (decide (src = 1022) && ic.bit Reg.IC_PENDING_BITS c src) ∧
      u.nt.ic.RequestRight c) ∧
    (ic.best c = none ∨ ic.rd Reg.IC_CTL_EN c ≠ 1 → Completes (.icClaim agent c 0 4) s fun u =>
      u.out.head? = some (.readData agent (0x840 + c) 0x24 0x3FF) ∧ u.eventSet Ev.IC_SPURIOUS c = true ∧ EventsKept s u)) ∧
  (∀ (s : State) (c : Fin 17) (src : Fin 1024), s.alive = true → ∀ ic, ic = s.nt.ic →
    (ic.bit Reg.IC_INSERVICE_BITS c src = true → Completes (.icComplete c src) s fun u =>
      u.nt.ic.source c src = (ic.bit Reg.IC_PENDING_BITS c src, false, sget ic.count (1024 * c.val + src.val)) ∧
      u.nt.ic.RequestRight c ∧ OnlyChanges [.nt, .out] s u) ∧
    (ic.bit Reg.IC_INSERVICE_BITS c src = false → Completes (.icComplete c src) s fun u =>
      Told s u ∧ u.eventSet Ev.IC_COMPLETE_IGNORED c = true ∧ EventsKept s u)) ∧
  (∀ (s : State) (c : Fin 17), s.alive = true → ∀ ic, ic = s.nt.ic → ∀ m, m = ic.vector c →
    (c.val ∉ ic.owed → Completes (.msixSend c) s fun u => u = s) ∧
    (c.val ∈ ic.owed → Completes (.msixSend c) s fun u =>
      u.nt.ic.owed = ic.owed.erase c ∧ u.nt.ic.rd Reg.IC_SENT_COUNT c = (ic.rd Reg.IC_SENT_COUNT c + 1) % 2 ^ 32 ∧
      u.out = (if c.val = 16 then .mgmtIrq :: s.out else if m.usable = true then .msix c m.address m.data :: s.out else s.out) ∧
      (c.val < 16 → m.usable = false → u.nt.ic.vector c = { m with pba := ic.rd Reg.IC_STATUS_REQUEST c == 1 }) ∧
      OnlyChanges [.nt, .out] s u)) ∧
  (∀ (s : State) (c : Tenant) (enable functionMask vectorMask : Bool) (address : BitVec 64) (data : Word), s.alive = true →
    ∀ held : Bool, held = (s.nt.ic.vector c).pba →
    ∀ usable : Bool, usable = (enable && !functionMask && !vectorMask) →
    Completes (.msixVectorUsable c enable functionMask vectorMask address data) s fun u =>
      u.nt.ic.vector c = ⟨enable, functionMask, vectorMask, held && !usable, address.toNat, data.toNat⟩ ∧
      u.out = (if usable = true ∧ held = true ∧ s.nt.ic.rd Reg.IC_STATUS_REQUEST c = 1
        then .msix c address.toNat data.toNat :: s.out else s.out) ∧
      OnlyChanges [.nt, .out] s u)

/-- R415, R419. Memory errors are counted and told: one in a lane is a lane fault, in a staging slot drops its record, in
a context faults the queue with code 17; and the release of a held lane. -/
def Obligations.MemoryErrors : Prop :=
  (∀ (s : State), s.alive = true → Completes .eccCorr s fun u =>
    u.rd Reg.ECC_CORR_COUNT = (s.rd Reg.ECC_CORR_COUNT + 1) % 2 ^ 32 ∧ u.eventSet Ev.FLT_ECC_CORR = true ∧
    EventsKept s u ∧ OnlyChanges [.regs, .nt, .out] s u) ∧
  (∀ (s : State) (k : Fin 4) (n : Nat), s.alive = true → (k = 0 → n < 12) → Completes (.eccUncorrectable k n) s fun u =>
    u.rd Reg.ECC_UNCORR_COUNT = (s.rd Reg.ECC_UNCORR_COUNT + 1) % 2 ^ 32 ∧ u.eventSet Ev.FLT_ECC_UNCORR = true ∧
    EventsKept s u ∧
    (k = 0 → u.rd Reg.LANE_FLT_COUNT 0 n = min 65535 (s.rd Reg.LANE_FLT_COUNT 0 n + 1) ∧
      u.rd Reg.LANE_FLT_CAUSE 0 n = 2 ∧ u.eventSet Ev.FLT_LANE_FAULT = true ∧
      (s.on Reg.LANE_FLT_HELD 0 n = false →
        (u.lane n).resetIn = (if u.on Reg.LANE_FLT_HELD 0 n then none else some 2) ∧
        (u.on Reg.LANE_FLT_HELD 0 n = true ↔ s.rd Reg.LANE_FLT_LIMIT_LIMIT < 1 + ((s.lane n).faults.filter fun t =>
          decide (s.tb.ns ≤ t + s.rd Reg.LANE_FLT_LIMIT_WINDOW_MS * 1000000)).length) ∧
        ∀ y, (s.lane n).next ≤ y → y < s.lt.line → (n, 5) ∈ (u.line y).codes)) ∧
    (k = 1 → ∀ j, u.job = some j → tfind n j.lines = none) ∧
    (k = 2 → u.fr.staged = s.fr.staged.eraseIdx n ∧ u.fr.queues = s.fr.queues) ∧
    (k = 3 → ∀ x, s.queue n = some x →
      (x.state = 0 → u.queue n = none) ∧
      (x.state ≠ 0 → u.queueState n = 3 ∧ u.eventSet Ev.TEN_QUEUE_FAULT (tenantOf n) = true ∧
        (x.begun = [] → x.due = [] → s.unworked n = true → u.queue n = none ∧ sget u.fr.parkedFault n = 17)))) ∧
  (∀ (s : State) (v : Word), s.alive = true → ∀ k, k = v.toNat % 2 ^ 4 →
    (v.toNat.testBit 4 = true → k < 12 → s.on Reg.LANE_FLT_HELD 0 k = true → (s.lane k).resetIn = none →
      Completes (.laneResetCmd v) s fun u => (u.lane k).resetIn = some 2 ∧ (∀ i, i ≠ k → u.lane i = s.lane i) ∧
        OnlyChanges [.lanes] s u) ∧
    (v.toNat.testBit 4 = false ∨ 12 ≤ k ∨ s.on Reg.LANE_FLT_HELD 0 k = false ∨ (s.lane k).resetIn ≠ none →
      Completes (.laneResetCmd v) s fun u => u = s))

/-- R423, R424, R426, R429. The power domains: a write of DOM_CTL drains, starts and clears them, or is refused during a
run; a drain ends, in time or not; a domain comes on; and a domain faults. -/
def Obligations.PowerDomains : Prop :=
  (∀ (s : State) (v : Word), s.alive = true → Completes (.domCtlWrite v) s fun u =>
    (∀ d, 2 ≤ d → d < 8 →
      ∀ refused : Bool, refused = (s.domain d == 2 && !v.toNat.testBit d && s.running && (d == 2 || d == 3 || d == 7)) →
      ∀ on : Bool, on = (v.toNat.testBit d || refused) →
      (u.rd Reg.DOM_CTL_ON).testBit (d - 2) = on ∧ (refused = true → u.eventSet Ev.DOM_DOM_REFUSED = true) ∧
      u.domain d = (if on = false ∧ s.domain d = 2 then 3 else if on = false ∧ s.domain d = 4 then 0
        else if on = true ∧ s.domain d = 0 then 1 else s.domain d) ∧
      (on = false → s.domain d = 2 → tfind d u.flt.drains = some s.tb.ns)) ∧
    u.domain 0 = s.domain 0 ∧ u.domain 1 = s.domain 1) ∧
  (∀ (s : State) (d : Fin 8), s.alive = true →
    (s.domain d ≠ 3 → Completes (.domOff d) s (fun u => u = s) ∧ Completes (.drainTimeout d) s (fun u => u = s)) ∧
    (s.domain d = 3 → s.domainXfers d ≠ 0 → Completes (.domOff d) s (fun u => u = s)) ∧
    (s.domain d = 3 → 2 ≤ d.val → s.domainXfers d = 0 →
      Completes (.domOff d) s (fun u => u.domain d = (if s.wanted d = true then 1 else 0) ∧
        u.rd Reg.DOM_LAST_DOMAIN = d ∧ u.rd Reg.DOM_LAST_TIMEOUT = 0 ∧ u.eventSet Ev.DOM_DOM_OFF = true ∧
        tfind d.val u.flt.drains = none ∧
        (d = 3 → (s.running = false → u.outLines = []) ∧ u.buffers = [] ∧ u.readouts = [] ∧ u.joints = [] ∧
          ∀ e ∈ u.fr.queues, e.2.early = true → e.2.head = none)) ∧
      Completes (.drainTimeout d) s (fun u => u.domain d = (if s.wanted d = true then 1 else 0) ∧
        u.rd Reg.DOM_LAST_TIMEOUT = 0 ∧ u.eventSet Ev.DOM_DOM_OFF = true)) ∧
    (s.domain d = 3 → 2 ≤ d.val → s.domainXfers d ≠ 0 → Completes (.drainTimeout d) s fun u =>
      u.domain d = (if s.wanted d = true then 1 else 0) ∧ u.rd Reg.DOM_LAST_DOMAIN = d ∧ u.rd Reg.DOM_LAST_TIMEOUT = 1 ∧
      (d.val ≠ 3 → u.rd Reg.DOM_LAST_DISCARDED = min 65535 (s.domainXfers d)) ∧
      u.rd Reg.DOM_DRAIN_MAX_NS = max (s.rd Reg.DOM_DRAIN_MAX_NS) (min 0xFFFFFFFF (s.tb.ns - sget s.flt.drains d)) % 2 ^ 32 ∧
      u.eventSet Ev.DOM_DRAIN_TIMEOUT = true)) ∧
  (∀ (s : State) (d : Fin 8), s.alive = true → 2 ≤ d.val →
    (s.domain d ≠ 1 → Completes (.domOn d) s fun u => u = s) ∧
    (s.domain d = 1 → s.wanted d = true → Completes (.domOn d) s fun u =>
      u.domain d = 2 ∧ u.eventSet Ev.DOM_DOM_ON = true ∧
      (d.val = 2 → ∀ g, g < 12 → u.rd Reg.PAWN_STATUS_REASON g = 6))) ∧
  (∀ (s : State) (d : Fin 8), s.alive = true →
    (d.val < 2 ∨ s.domain d = 0 ∨ s.domain d = 4 → Completes (.domFault d) s fun u => u = s) ∧
    (2 ≤ d.val → s.domain d ≠ 0 → s.domain d ≠ 4 → Completes (.domFault d) s fun u =>
      u.domain d = 4 ∧ (u.rd Reg.DOM_FAULT_BITS).testBit d = true ∧ u.eventSet Ev.DOM_DOM_FAULT = true ∧
      tfind d.val u.flt.drains = none))

/-- R446. Every ms: present capacity follows THROT_FRAC; the level rises by one while a resource is short of what is
guaranteed of it, and falls by one after HOLD_MS evaluations without. -/
def Obligations.CapacityLevel : Prop :=
  ∀ (s : State), s.alive = true → ∀ f, f = min 1000 (s.rd Reg.THROT_FRAC_F * 3 / 2) →
  ∀ now, now = (fun r => (s.rd (capRows r).1 * f / 1000) % 2 ^ 16) →
  ∀ short, short = [0, 1, 2].filter (fun r => decide (now r < s.guaranteed r s.tenantUp)) →
  ∀ l, l = s.rd Reg.CAP_STATUS_LEVEL → ∀ falls : Bool, falls = decide (s.rd Reg.CAP_CTL_HOLD_MS ≤ s.cap.clear + 1) →
  Completes .capacityEvaluation s fun u =>
    (∀ r, r < 3 → u.rd (capRows r).2.1 = now r) ∧ u.cap.short = short ∧
    u.rd Reg.CAP_STATUS_SHORT = (if short = [] then 0 else 1) ∧
    (short ≠ [] → s.on Reg.CAP_STATUS_SHORT = false → u.eventSet Ev.CAP_SHORTFALL = true) ∧
    (short ≠ [] → u.rd Reg.CAP_STATUS_LEVEL = (if l < 4 then l + 1 else l) ∧ u.cap.clear = 0 ∧
      (l < 4 → u.eventSet Ev.CAP_LEVEL_UP = true)) ∧
    (short = [] → u.rd Reg.CAP_STATUS_LEVEL = (if l ≠ 0 ∧ falls = true then (l - 1) % 2 ^ 3 else l) ∧
      (l ≠ 0 → falls = true → u.eventSet Ev.CAP_LEVEL_DOWN = true)) ∧
    (u.rd Reg.CAP_STATUS_LEVEL ≠ 4 → u.cap.allow = []) ∧ EventsKept s u ∧
    OnlyChanges [.regs, .nt, .out, .cap] s u

/-- R463, R464, R466, R467. The management log: an entry enters the intake with the next SEQ, behind the LOST entry that
is owed, or is dropped; it reaches the ring; mirrored entries are programmed; and entries are selected and read. -/
def Obligations.ManagementLog : Prop :=
  (∀ (s : State) (kind tenant : Fin 32) (page : Fin 8192) (offset : Fin 4096) (be : Fin 16) (value arg1 : Word)
    (arg2 : BitVec 16), s.alive = true → ∀ l, l = s.nt.log →
    ∀ e, e = (fun seq => (⟨s.tb.ns, seq, kind, tenant, page, offset, be, value.toNat, arg1.toNat, arg2.toNat⟩ : LogEntry)) →
    (l.lostPending = 0 → l.intake.length < 256 → Completes (.logEntry kind tenant page offset be value arg1 arg2) s fun u =>
      u.nt.log.intake = l.intake ++ [e l.next] ∧ u.nt.log.next = (l.next + 1) % 2 ^ 32 ∧ EventsKept s u ∧ Told s u) ∧
    (l.lostPending ≠ 0 → l.intake.length < 255 → Completes (.logEntry kind tenant page offset be value arg1 arg2) s fun u =>
      u.nt.log.intake = l.intake ++ [⟨s.tb.ns, l.next, 0x11, 16, 0, 0, 0, l.lostPending % 2 ^ 32, 0, 0⟩,
        e ((l.next + 1) % 2 ^ 32)] ∧ u.nt.log.lostPending = 0 ∧ EventsKept s u ∧ Told s u) ∧
    (256 - l.intake.length < (if l.lostPending = 0 then 1 else 2) →
      Completes (.logEntry kind tenant page offset be value arg1 arg2) s fun u =>
        u.nt.log.intake = l.intake ∧ u.nt.log.next = l.next ∧ u.nt.log.lostPending = l.lostPending + 1 ∧
        u.nt.log.lostIntake = min 65535 (l.lostIntake + 1) ∧ u.eventSet Ev.MGMT_LOG_LOST = true ∧ EventsKept s u ∧ Told s u)) ∧
  (∀ s : State, s.alive = true → ∀ l, l = s.nt.log →
    (l.intake = [] → Completes .logIntakeDrain s fun u => u = s) ∧
    (∀ e rest, l.intake = e :: rest → Completes .logIntakeDrain s fun u =>
      u.nt.log.intake = rest ∧ u.nt.log.ring = e :: l.ring.take 8191 ∧
      (s.mirrored e = true → u.nt.log.waiting.getLast? = some e) ∧
      (l.ring.length < 8192 → s.mirrored e = false → u.nt.log.waiting = l.waiting) ∧ OnlyChanges [.nt] s u)) ∧
  (∀ (s : State) (fail : Bool), s.alive = true → ∀ l, l = s.nt.log →
    (l.waiting = [] ∨ l.mirrorStopped = true → Completes (.logMirrorProgram fail) s fun u => u = s) ∧
    (l.waiting ≠ [] → l.mirrorStopped = false → fail = true ∨ s.mgmt.flash.fitted = false →
      Completes (.logMirrorProgram fail) s fun u =>
        u.nt.log.mirrorStopped = true ∧ u.nt.log.mirror = l.mirror ∧ u.eventSet Ev.MGMT_MIRROR_FAULT = true ∧
        EventsKept s u ∧ Told s u) ∧
    (l.waiting ≠ [] → l.mirrorStopped = false → fail = false → s.mgmt.flash.fitted = true →
      Completes (.logMirrorProgram fail) s fun u =>
        u.nt.log.waiting = l.waiting.drop 8 ∧
        u.nt.log.mirror = ((l.waiting.take 8).reverse ++ l.mirror).take 130944 ∧
        .flash (0x810000 + 32 * (l.mirrorAt % 131072)) ((l.waiting.take 8).flatMap LogEntry.bytes) ∈ u.out ∧ Told s u)) ∧
  (∀ (s : State) (v : Word), s.alive = true → Completes (.logSelWrite v) s fun u =>
    u.rd Reg.LOG_SEL_SEQ = v.toNat ∧ u.rd Reg.LOG_SRC_READY = 0 ∧ u.rd Reg.LOG_SRC_GONE = 0 ∧ u.mgmt.logWanted = true ∧
    OnlyChanges [.regs, .mgmt] s u) ∧
  (∀ s : State, s.alive = true →
    (s.mgmt.logWanted = false → Completes .logDataReady s fun u => u = s) ∧
    (s.mgmt.logWanted = true → ∀ e, e = s.logFind (s.rd Reg.LOG_SRC_SRC) (s.rd Reg.LOG_SEL_SEQ) →
      Completes .logDataReady s fun u =>
        u.rd Reg.LOG_SRC_READY = 1 ∧ u.rd Reg.LOG_SRC_GONE = e.isNone.toNat ∧ u.mgmt.logWanted = false ∧
        (∀ w, w < 8 → u.rd Reg.LOG_DATA_VALUE 0 w =
          (match e with
            | some e => (bytesToWords e.bytes).getD w 0 % 2 ^ 32
            | none => 0)) ∧ OnlyChanges [.regs, .mgmt] s u)) ∧
  (∀ (s : State) (agent : Agent) (w : Fin 8), s.alive = true → Completes (.logDataRead agent w 0 4) s fun u =>
    u.out.head? = some (.readData agent 0x900 (0x440 + 4 * w) (s.rd Reg.LOG_DATA_VALUE 0 w % 2 ^ 32)) ∧
    u.out.tail = s.out ∧
    u.rd Reg.LOG_SEL_SEQ = (if w.val = 7 then (s.rd Reg.LOG_SEL_SEQ + 1) % 2 ^ 32 else s.rd Reg.LOG_SEL_SEQ) ∧
    (w.val = 7 → u.mgmt.logWanted = true ∧ u.rd Reg.LOG_SRC_READY = 0) ∧ OnlyChanges [.regs, .mgmt, .out] s u)

/-- R422, R432, R435, R441, R461, R462. The power monitors and the thermal model: samples and their alarm, the means of a
step, the throttle fraction, the warning and the latched shutdown. -/
def Obligations.MonitorsAndThermal : Prop :=
  (∀ (s : State) (xs : List (Option (Nat × Nat))), s.alive = true → xs.length = 12 →
    Completes (.monitorSample xs) s fun u =>
      EventsKept s u ∧ ∀ m, m < 12 →
        (∀ v i, xs.getD m none = some (v, i) →
          sget u.therm.samples m = sget s.therm.samples m + 1 ∧ sget u.therm.volts m = sget s.therm.volts m + v ∧
          sget u.therm.amps m = sget s.therm.amps m + i ∧ sget u.therm.power m = sget s.therm.power m + v * i ∧
          (s.rd Reg.MON_V_LO 0 m ≤ v → v ≤ s.rd Reg.MON_V_HI 0 m → u.rd Reg.MON_ALARM 0 m = 0 ∧ sget u.therm.outside m = 0) ∧
          (v < s.rd Reg.MON_V_LO 0 m ∨ s.rd Reg.MON_V_HI 0 m < v →
            sget u.therm.outside m = sget s.therm.outside m + 1 ∧
            (2 ≤ sget s.therm.outside m → s.on Reg.MON_ALARM 0 m = false →
              u.rd Reg.MON_ALARM 0 m = 1 ∧ u.eventSet Ev.MGMT_MON_ALARM = true))) ∧
        (xs.getD m none = none → sget u.therm.samples m = sget s.therm.samples m ∧
          u.rd Reg.MON_ALARM 0 m = s.rd Reg.MON_ALARM 0 m)) ∧
  (∀ s : State, s.alive = true →
    (s.mgmt.running = false → Completes .thermalModelStep s fun u => u = s) ∧
    (s.mgmt.running = true → Completes .thermalModelStep s fun u =>
      u.therm.samples = [] ∧
      (∀ m, m < 12 → ∀ n, n = sget s.therm.samples m → u.rd Reg.MON_VALID 0 m = (if n = 0 then 0 else 1) ∧
        (n ≠ 0 → u.rd Reg.MON_V_MV 0 m = sget s.therm.volts m / n % 2 ^ 16 ∧
          u.rd Reg.MON_I_MA 0 m = sget s.therm.amps m / n % 2 ^ 16 ∧
          u.rd Reg.MON_P_MW 0 m = sget s.therm.power m / (1000 * n) % 2 ^ 24)) ∧
      ∀ tj, tj = u.rdS Reg.THERM_STATUS_TJ_MAX →
        u.rd Reg.THROT_FRAC_F = throttleFraction (s.rd Reg.THROT_CTL_KP) (s.rd Reg.THROT_LIM_F_MIN)
          (tj - s.rdS Reg.THROT_CTL_TH_START) % 2 ^ 10 ∧
        (30720 ≤ tj → u.eventSet Ev.THERM_TJ_WARN = true) ∧
        ∀ top, top = max tj (s.highestEntry.getD tj) →
          (32000 ≤ top → u.flt.shutdown = true ∧ u.rd Reg.DOM_STATE_STATE = 0 ∧ u.rd Reg.HOST_LINK_UP = 0 ∧
            u.running = false ∧ u.mgmt.running = false) ∧
          (top < 32000 → u.flt = s.flt ∧ u.mgmt = s.mgmt ∧ u.rd Reg.DOM_STATE_STATE = s.rd Reg.DOM_STATE_STATE)))

/-- R346, R458, R459, R460. The mailboxes: a request is sent, taken and answered, and the fence. -/
def Obligations.Mailboxes : Prop :=
  (∀ (s : State) (agent : Agent) (t : Tenant) (v : Word), s.alive = true → ∀ n, n = v.toNat % 2 ^ 7 →
    (v.toNat.testBit 31 = false → Completes (.mailboxGo agent t v) s fun u => u = s) ∧
    (v.toNat.testBit 31 = true → s.rd Reg.MBX_STATUS_STATE t ≠ 0 ∨ n = 0 ∨ 64 < n →
      Completes (.mailboxGo agent t v) s fun u =>
        Told s u ∧ u.eventSet Ev.MBX_MBX_REFUSED t = true ∧ EventsKept s u) ∧
    (v.toNat.testBit 31 = true → s.rd Reg.MBX_STATUS_STATE t = 0 → 0 < n → n ≤ 64 →
      Completes (.mailboxGo agent t v) s fun u =>
        u.rd Reg.MBX_STATUS_STATE t = 1 ∧ u.rd Reg.MBX_H2M_CTL_LEN t = n ∧
        u.mgmt.stores = s.mgmt.stores.filter (fun w => w.agent != agent.val) ∧ u.nt.events = s.nt.events)) ∧
  (∀ (s : State) (t : Tenant), s.alive = true →
    (s.rd Reg.MBX_STATUS_STATE t ≠ 1 ∨ s.mgmtRuns = false → Completes (.h2mTaken t) s fun u => u = s) ∧
    (s.rd Reg.MBX_STATUS_STATE t = 1 → s.mgmtRuns = true → Completes (.h2mTaken t) s fun u =>
      u.rd Reg.MBX_STATUS_STATE t = 2 ∧ u.eventSet Ev.MBX_H2M_TAKEN t = true ∧ EventsKept s u ∧
      tfind t.val u.mgmt.requests =
        some ((List.range (s.rd Reg.MBX_H2M_CTL_LEN t)).map fun i => s.rd Reg.MBX_H2M_VALUE t i))) ∧
  (∀ (s : State) (t : Tenant), s.alive = true →
    (s.rd Reg.MBX_STATUS_STATE t ≠ 2 ∨ (tfind t.val s.mgmt.replies = none ∧ s.mgmtRuns = false) →
      Completes (.m2hReady t) s fun u => u = s) ∧
    (s.rd Reg.MBX_STATUS_STATE t = 2 → ∀ w, tfind t.val s.mgmt.replies = some w → w.length ≤ 64 →
      Completes (.m2hReady t) s fun u =>
        u.rd Reg.MBX_STATUS_STATE t = 3 ∧ u.rd Reg.MBX_STATUS_M2H_LEN t = w.length ∧
        (∀ i, i < w.length → u.rd Reg.MBX_M2H_VALUE t i = w.getD i 0 % 2 ^ 32) ∧
        u.eventSet Ev.MBX_M2H_READY t = true ∧ EventsKept s u ∧ tfind t.val u.mgmt.replies = none ∧
        (w.getD 0 0 = 0x481 → u.tenantState t = 2 ∧ u.eventSet Ev.HOST_TENANT_UP = true ∧
          (w.getD 1 0 % 16 ≠ 0 → u.version t = Nat.log2 (w.getD 1 0 % 16))) ∧
        (w.getD 0 0 ≠ 0x481 → u.tenantState t = s.tenantState t))) ∧
  (∀ (s : State) (t : Tenant) (v : Word), s.alive = true → Completes (.mbxM2hAck t v) s fun u =>
    u = if v.toNat.testBit 0 = true ∧ s.rd Reg.MBX_STATUS_STATE t = 3 then s.wr Reg.MBX_STATUS_STATE 0 t else s) ∧
  (∀ (s : State) (agent : Agent) (t : Tenant), s.alive = true → Completes (.mbxFenceRead agent t 0 4) s fun u =>
    u.out = .readData agent (0x900 + t) 0x2C 0 :: s.out ∧
    u.mgmt.stores = s.mgmt.stores.filter (fun w => w.agent != agent.val) ∧
    OnlyChanges [.regs, .shadow, .mgmt, .out] s u) ∧
  (∀ (s : State) (t : Tenant), s.alive = true → ∀ w, w = tget [] s.mgmt.requests t →
    ∀ up : Bool, up = (s.tenantState t == 2 || s.mgmt.recovery) →
    (s.asked t 2 = false → Completes (.fwInfo t) s fun u => u = s) ∧
    (s.asked t 2 = true → Completes (.fwInfo t) s fun u => Told { s with mgmt := u.mgmt } u ∧
      tfind t.val u.mgmt.replies = some (if up = false then [0x2FF, 5]
        else if w.length = 1 ∧ w.getD 0 0 / 2 ^ 8 % 2 ^ 8 = 1 then 0x582 :: s.fwInfo else [0x2FF, 2])) ∧
    (s.asked t 3 = false ∨ s.mgmt.recovery = true → Completes (.logMark t) s fun u => u = s) ∧
    (s.asked t 3 = true → s.mgmt.recovery = false →
      (s.tenantState t ≠ 2 → Completes (.logMark t) s fun u => tfind t.val u.mgmt.replies = some [0x2FF, 5]) ∧
      (s.tenantState t = 2 → w.length ≠ 3 ∨ w.getD 0 0 / 2 ^ 8 % 2 ^ 8 ≠ 3 →
        Completes (.logMark t) s fun u => tfind t.val u.mgmt.replies = some [0x2FF, 2]) ∧
      (s.tenantState t = 2 → w.length = 3 → w.getD 0 0 / 2 ^ 8 % 2 ^ 8 = 3 → s.nt.log.lostPending = 0 →
        s.nt.log.intake.length < 256 → Completes (.logMark t) s fun u =>
          u.nt.log.intake = s.nt.log.intake ++ [⟨s.tb.ns, s.nt.log.next, 0x10, t, 0, 0, 0, w.getD 1 0 % 2 ^ 32,
            w.getD 2 0 % 2 ^ 32, 0⟩] ∧
          (s.nt.log.next < 2 ^ 32 → tfind t.val u.mgmt.replies = some [0x283, s.nt.log.next]) ∧ EventsKept s u)))

/-- R471, R472, R473, R474, R475. Firmware: the boot ROM's choice of a bank, and the update of the other one, command by
command, with what each command's state and owner allow. -/
def Obligations.FirmwareUpdate : Prop :=
  (∀ s : State, s.alive = true →
    (s.mgmt.bootDue = false → Completes .boot s fun u => u = s) ∧
    (s.mgmt.bootDue = true → ∀ r, r = s.mgmt.flash.record → r.valid = true →
      ∀ trial : Bool, trial = (r.trial.isSome && !r.attempted) →
      ∀ bank, bank = (if trial then r.trial.getD 0 else r.confirmed) →
      (s.bankReason bank ≠ 0 → s.bankReason (1 - bank) ≠ 0 → Completes .boot s fun u =>
        u.mgmt.recovery = true ∧ u.mgmt.running = s.mgmt.running ∧ u.rd Reg.MGMT_STATUS_MODE = 1 ∧
        u.rd Reg.MGMT_FW_VERSION = 0 ∧ u.mgmt.bootDue = false ∧
        (s.mgmt.flash.fitted = true → trial = true → u.mgmt.flash.record.attempted = true) ∧
        (r.trial.isSome = true → r.attempted = true → u.rd Reg.UPD_STATUS_STATE = 4 ∧ u.rd Reg.UPD_STATUS_REASON = 9)) ∧
      Completes .boot s fun u => u.mgmt.bootDue = false ∧ (s.bankReason bank = 0 → u.mgmt.running = true ∧
        u.rd Reg.MGMT_STATUS_MODE = 0 ∧ u.rd Reg.MGMT_STATUS_BANK = bank % 2 ∧ u.rd Reg.MGMT_STATUS_TRIAL = trial.toNat ∧
        u.rd Reg.MGMT_STATUS_FALLBACK = 0))) ∧
  (∀ (s : State) (usb : Bool), s.alive = true → ∀ st, st = s.rd Reg.UPD_STATUS_STATE →
    ∀ owner, owner = (if usb then 2 else 1) → ∀ mine : Bool, mine = (s.rd Reg.UPD_STATUS_OWNER == owner) →
    (s.mgmtRuns = true → st = 0 ∨ st = 3 ∨ st = 4 ∨ st = 5 → s.mgmt.recovery = false →
      Completes (.updOpen usb) s fun u =>
        u.rd Reg.UPD_STATUS_STATE = 1 ∧ u.rd Reg.UPD_STATUS_OWNER = owner ∧ u.rd Reg.UPD_COUNT_BYTES = 0 ∧
        u.rd Reg.UPD_FREE_BYTES = 65536 ∧ u.mgmt.target = 1 - s.rd Reg.MGMT_STATUS_BANK ∧ u.mgmt.buffer = [] ∧
        u.mgmt.flash.bank u.mgmt.target = [] ∧ u.mgmt.flash.record.trial ≠ some u.mgmt.target ∧
        u.eventSet Ev.MGMT_UPD_CHANGE = true ∧ EventsKept s u ∧ OnlyChanges [.regs, .nt, .out, .mgmt] s u) ∧
    (s.mgmtRuns = false ∨ st = 1 ∨ st = 2 ∨ st = 6 → Completes (.updOpen usb) s fun u =>
      Told s u ∧ u.eventSet Ev.MGMT_UPD_REFUSED = true ∧ EventsKept s u) ∧
    (s.mgmtRuns = true → st = 1 → mine = true →
      Completes (.updVerify usb) s (fun u => u.rd Reg.UPD_STATUS_STATE = 2 ∧ u.rd Reg.UPD_STATUS_REASON = 0 ∧
        u.eventSet Ev.MGMT_UPD_CHANGE = true ∧ EventsKept s u ∧ OnlyChanges [.regs, .nt, .out] s u) ∧
      Completes (.updCancel usb) s (fun u => u.rd Reg.UPD_STATUS_STATE = 0 ∧ u.mgmt.buffer = [] ∧
        u.mgmt.flash.bank s.mgmt.target = [] ∧ u.eventSet Ev.MGMT_UPD_CHANGE = true ∧ EventsKept s u)) ∧
    (s.mgmtRuns = false ∨ st ≠ 1 ∨ mine = false → Completes (.updVerify usb) s fun u =>
      Told s u ∧ u.eventSet Ev.MGMT_UPD_REFUSED = true ∧ EventsKept s u) ∧
    (s.mgmtRuns = true → st = 3 → Completes (.updActivate usb) s fun u =>
      u.rd Reg.UPD_STATUS_STATE = 5 ∧ u.mgmt.flash.record.trial = some s.mgmt.target ∧
      u.mgmt.flash.record.attempted = false ∧ u.mgmt.flash.record.confirmed = s.mgmt.flash.record.confirmed ∧
      u.eventSet Ev.MGMT_UPD_CHANGE = true ∧ EventsKept s u) ∧
    (s.mgmtRuns = false ∨ st ≠ 3 → Completes (.updActivate usb) s fun u =>
      Told s u ∧ u.eventSet Ev.MGMT_UPD_REFUSED = true ∧ EventsKept s u) ∧
    (s.mgmtRuns = true → st = 6 → Completes (.updConfirm usb) s fun u =>
      u.rd Reg.UPD_STATUS_STATE = 0 ∧ u.mgmt.flash.record.confirmed = s.rd Reg.MGMT_STATUS_BANK ∧
      u.mgmt.flash.record.trial = none ∧ u.rd Reg.MGMT_STATUS_TRIAL = 0 ∧
      u.rd Reg.MGMT_SVN_FUSES = max (s.rd Reg.MGMT_SVN_FUSES) (min 64 (s.rd Reg.MGMT_SVN_IMAGE)) % 2 ^ 8 ∧
      u.eventSet Ev.MGMT_UPD_CHANGE = true ∧ EventsKept s u) ∧
    (s.mgmtRuns = false ∨ st ≠ 6 → Completes (.updConfirm usb) s fun u =>
      Told s u ∧ u.eventSet Ev.MGMT_UPD_REFUSED = true ∧ EventsKept s u) ∧
    (s.mgmtRuns = true → st = 5 → Completes (.updCancel usb) s fun u =>
      u.rd Reg.UPD_STATUS_STATE = 3 ∧ u.mgmt.flash.record.trial = none ∧ EventsKept s u) ∧
    (s.mgmtRuns = false ∨ (st = 1 ∧ mine = false) ∨ (st ≠ 1 ∧ st ≠ 5) → Completes (.updCancel usb) s fun u =>
      Told s u ∧ u.eventSet Ev.MGMT_UPD_REFUSED = true ∧ EventsKept s u)) ∧
  (∀ s : State, s.alive = true →
    (s.rd Reg.UPD_STATUS_STATE ≠ 2 ∨ s.mgmt.buffer ≠ [] → Completes .updVerifyDone s fun u => u = s) ∧
    (s.rd Reg.UPD_STATUS_STATE = 2 → s.mgmt.buffer = [] →
      ∀ r, r = s.bankReason s.mgmt.target (some (s.rd Reg.UPD_COUNT_BYTES)) → Completes .updVerifyDone s fun u =>
        u.rd Reg.UPD_STATUS_STATE = (if r = 0 then 3 else 4) ∧ u.rd Reg.UPD_STATUS_REASON = r ∧
        u.eventSet Ev.MGMT_UPD_CHANGE = true ∧ EventsKept s u)) ∧
  (∀ (s : State) (v : Word), s.alive = true → ∀ n, n = s.rd Reg.UPD_COUNT_BYTES → ∀ free, free = s.rd Reg.UPD_FREE_BYTES →
    (s.rd Reg.UPD_STATUS_STATE ≠ 1 → Completes (.updDataWrite v) s fun u => u = s) ∧
    (s.rd Reg.UPD_STATUS_STATE = 1 → free < 4 → Completes (.updDataWrite v) s fun u =>
      u.rd Reg.UPD_STATUS_STATE = 4 ∧ u.rd Reg.UPD_STATUS_REASON = 8 ∧ u.mgmt = s.mgmt) ∧
    (s.rd Reg.UPD_STATUS_STATE = 1 → 4 ≤ free → 4194304 < n + 4 → Completes (.updDataWrite v) s fun u =>
      u.rd Reg.UPD_STATUS_STATE = 4 ∧ u.rd Reg.UPD_STATUS_REASON = 3 ∧ u.mgmt = s.mgmt) ∧
    (s.rd Reg.UPD_STATUS_STATE = 1 → 4 ≤ free → n + 4 ≤ 4194304 → Completes (.updDataWrite v) s fun u =>
      u.mgmt.buffer = s.mgmt.buffer ++ leBytes 4 v.toNat ∧ u.rd Reg.UPD_COUNT_BYTES = n + 4 ∧
      u.rd Reg.UPD_FREE_BYTES = (free - 4) % 2 ^ 17 ∧ OnlyChanges [.regs, .mgmt] s u)) ∧
  (∀ (s : State) (fail : Bool), s.alive = true →
    ∀ due : Bool, due = ((s.rd Reg.UPD_STATUS_STATE == 1 || s.rd Reg.UPD_STATUS_STATE == 2) && !s.mgmt.buffer.isEmpty) →
    (due = false → Completes (.updFlashProgram fail) s fun u => u = s) ∧
    (due = true → fail = true ∨ s.mgmt.flash.fitted = false → Completes (.updFlashProgram fail) s fun u =>
      u.rd Reg.UPD_STATUS_STATE = 4 ∧ u.rd Reg.UPD_STATUS_REASON = 10 ∧ u.mgmt = s.mgmt ∧ EventsKept s u) ∧
    (due = true → fail = false → s.mgmt.flash.fitted = true → ∀ done, done = s.mgmt.flash.bank s.mgmt.target →
      Completes (.updFlashProgram fail) s fun u =>
        u.mgmt.buffer = s.mgmt.buffer.drop 256 ∧ u.mgmt.flash.bank s.mgmt.target = done ++ s.mgmt.buffer.take 256 ∧
        .flash (0x10000 + 0x400000 * s.mgmt.target + done.length) (s.mgmt.buffer.take 256) ∈ u.out ∧
        u.rd Reg.UPD_FREE_BYTES = min 65536 (s.rd Reg.UPD_FREE_BYTES + min 256 s.mgmt.buffer.length)))

/-- A standard request: silence where the port does not answer, else the data or the STALL that `answer` gives (R484). -/
def Sys2Proof.Machine.UsbRequest (c : Instr) (answer : Output) (s : State) : Prop :=
  Completes c s fun u => u = if 2 ≤ s.rd Reg.USB_STATUS_STATE ∧ s.rd Reg.USB_STATUS_STATE ≤ 4 then s.emit answer else s

/-- R482, R483, R489, R490, R491. The states of the USB port: VBUS, bus reset, address, configuration, suspend and
resume, and the remote wake. R481, R482, R484. The standard requests: descriptors, configuration, status, features
and the interface. -/
def Obligations.UsbPort : Prop :=
  ((∀ (s : State) (present : Bool), ∀ st, st = s.rd Reg.USB_STATUS_STATE →
    (s.alive = false → Completes (.usbVbusChange present) s fun u => u = { s with usb := { s.usb with vbus := present } }) ∧
    (s.alive = true → present = false → st ≠ 0 → Completes (.usbVbusChange present) s fun u =>
      u.usb.vbus = false ∧ u.rd Reg.USB_STATUS_STATE = 0 ∧ u.rd Reg.USB_STATUS_HS = 0 ∧ u.nt.usb.active = false ∧
      u.nt.usb.queue = [] ∧ u.usb.stream = none ∧ u.out = .pin "USB_PULLUP" 0 false :: s.out ∧ EventsKept s u) ∧
    (s.alive = true → present = true → st = 0 → s.on Reg.USB_CTL_EN = true → s.mgmtRuns = true →
      Completes (.usbVbusChange present) s fun u =>
        u.usb.vbus = true ∧ u.rd Reg.USB_STATUS_STATE = 1 ∧ u.eventSet Ev.USB_CONNECT = true ∧
        .pin "USB_PULLUP" 0 true ∈ u.out ∧ EventsKept s u) ∧
    (s.alive = true → (present = false ∧ st = 0) ∨ (present = true ∧ st ≠ 0 ∧ s.on Reg.USB_CTL_EN = true) →
      Completes (.usbVbusChange present) s fun u => u = { s with usb := { s.usb with vbus := present } })) ∧
  (∀ (s : State) (hs cut : Bool), s.alive = true →
    (s.rd Reg.USB_STATUS_STATE = 0 → Completes (.usbBusReset hs cut) s fun u => u = s) ∧
    (s.rd Reg.USB_STATUS_STATE ≠ 0 → Completes (.usbBusReset hs cut) s fun u =>
      u.rd Reg.USB_STATUS_STATE = 2 ∧ u.rd Reg.USB_STATUS_ADDRESS = 0 ∧ u.rd Reg.USB_STATUS_HS = hs.toNat ∧
      u.rd Reg.USB_STATUS_RWAKE = 0 ∧ u.rd Reg.USB_STATUS_LOG_STREAM = 0 ∧ u.usb.stream = none ∧ u.usb.halts = 0 ∧
      u.nt.usb.queue = [] ∧ u.nt.usb.seq = 0 ∧ u.nt.usb.active = false ∧ u.nt.usb.rwake = false ∧
      u.rd Reg.USB_BUS_RESETS_COUNT = (s.rd Reg.USB_BUS_RESETS_COUNT + 1) % 2 ^ 32 ∧
      u.rd Reg.USB_ABORTS_COUNT = (if cut then (s.rd Reg.USB_ABORTS_COUNT + 1) % 2 ^ 32 else s.rd Reg.USB_ABORTS_COUNT) ∧
      u.eventSet Ev.USB_BUS_RESET = true ∧ (cut = true → u.eventSet Ev.USB_CTRL_ABORT = true) ∧ EventsKept s u)) ∧
  (∀ (s : State) (a : Fin 128), s.alive = true → ∀ st, st = s.rd Reg.USB_STATUS_STATE →
    ((st = 2 ∧ a.val ≠ 0) ∨ st = 3 → Completes (.setAddress a) s fun u =>
      u.rd Reg.USB_STATUS_ADDRESS = a ∧ u.rd Reg.USB_STATUS_STATE = (if a.val = 0 then 2 else 3) ∧
      u.nt.events = s.nt.events ∧ OnlyChanges [.regs, .nt] s u) ∧
    (st ≠ 2 ∧ st ≠ 3 → Completes (.setAddress a) s fun u => u = s)) ∧
  (∀ (s : State) (v : Fin 256), s.alive = true → ∀ st, st = s.rd Reg.USB_STATUS_STATE →
    (st = 3 → v.val = 1 → Completes (.setConfiguration v) s fun u =>
      u.rd Reg.USB_STATUS_STATE = 4 ∧ u.nt.usb.active = true ∧ OnlyChanges [.regs, .nt] s u) ∧
    (st = 4 → v.val = 0 → Completes (.setConfiguration v) s fun u =>
      u.rd Reg.USB_STATUS_STATE = 3 ∧ u.nt.usb.active = false ∧ u.nt.usb.queue = [] ∧ u.usb.stream = none) ∧
    ((st = 3 ∨ st = 4) ∧ 1 < v.val ∨ st = 2 → Completes (.setConfiguration v) s fun u =>
      u = s.emit (.usbStall 0)) ∧
    (st < 2 ∨ 4 < st ∨ (st = 3 ∧ v.val = 0) ∨ (st = 4 ∧ v.val = 1) → Completes (.setConfiguration v) s fun u => u = s)) ∧
  (∀ s : State, s.alive = true → ∀ st, st = s.rd Reg.USB_STATUS_STATE →
    (st = 0 ∨ 5 ≤ st → Completes .usbSuspend s fun u => u = s) ∧
    (1 ≤ st → st ≤ 4 → Completes .usbSuspend s fun u =>
      u.rd Reg.USB_STATUS_STATE = 5 ∧ u.usb.prior = st ∧ u.nt.usb.suspended = true ∧ u.nt.usb.wakeSent = false ∧
      (u.nt.usb.active = true ↔ st = 4) ∧ u.nt.usb.queue = s.nt.usb.queue ∧
      (s.nt.usb.rwake = true → s.on Reg.USB_CTL_WAKE_EN = true → s.nt.usb.queue ≠ [] → u.nt.usb.wakePending = true) ∧
      u.eventSet Ev.USB_SUSPEND = true ∧ EventsKept s u)) ∧
  (∀ s : State, s.alive = true →
    (s.rd Reg.USB_STATUS_STATE ≠ 5 → Completes .usbResume s fun u => u = s) ∧
    (s.rd Reg.USB_STATUS_STATE = 5 → Completes .usbResume s fun u =>
      u.rd Reg.USB_STATUS_STATE = s.usb.prior % 2 ^ 3 ∧ u.eventSet Ev.USB_RESUME = true ∧ EventsKept s u ∧
      u.nt.usb.wakePending = false ∧ (s.nt.usb.wakePending = false → u.nt.usb.queue = s.nt.usb.queue) ∧
      (s.nt.usb.wakePending = true → (s.rd Reg.USB_EVT_MASK_MASK).testBit 7 = true → s.nt.usb.queue.length < 64 →
        u.nt.usb.queue = [7 + 0x100 + s.nt.usb.wakeCollided.toNat * 2 ^ 16, s.nt.usb.seq, s.tb.ns % 2 ^ 32,
          s.nt.usb.wakeKind % 2 ^ 32] :: s.nt.usb.queue))) ∧
  (∀ s : State, s.alive = true →
    ∀ wakes : Bool, wakes = (s.nt.usb.suspended && s.nt.usb.wakePending && !s.nt.usb.wakeSent) →
    (wakes = false → Completes .wakeSent s fun u => u = s) ∧
    (wakes = true → Completes .wakeSent s fun u =>
      u.nt.usb.wakeSent = true ∧ .usbWake true ∈ u.out ∧ u.eventSet Ev.USB_WAKE_SENT = true ∧ EventsKept s u ∧ Told s u)) ∧
  (∀ s : State, s.alive = true →
    ∀ meets : Bool, meets = (s.nt.usb.suspended && s.nt.usb.wakeSent && !s.nt.usb.wakeCollided) →
    (meets = false → Completes .wakeCollided s fun u => u = s) ∧
    (meets = true → Completes .wakeCollided s fun u =>
      u.nt.usb.wakeCollided = true ∧ .usbWake false ∈ u.out ∧ u.eventSet Ev.USB_WAKE_COLLIDED = true ∧ EventsKept s u ∧
      Told s u))) ∧
  ((∀ (s : State) (kind index : Fin 256) (n : Fin 65536), s.alive = true → ∀ d, d = s.usbDescriptor kind index →
    (∀ b, d = some b → UsbRequest (.getDescriptor kind index n) (.usbIn 0 (b.take n)) s) ∧
    (d = none → UsbRequest (.getDescriptor kind index n) (.usbStall 0) s) ∧
    (kind.val = 1 → d = some s.deviceDescriptor) ∧ (kind.val = 4 ∨ kind.val = 5 ∨ 8 ≤ kind.val → d = none) ∧
    s.deviceDescriptor.length = 18) ∧
  (∀ (s : State) (n : Fin 65536), s.alive = true → ∀ on, on = (if s.rd Reg.USB_STATUS_STATE = 4 then 1 else 0) →
    UsbRequest (.getConfiguration n) (.usbIn 0 ([on].take n)) s) ∧
  (∀ (s : State) (r : Fin 32) (index n : Fin 65536), s.alive = true → ∀ e, e = endpointOf index →
    (r.val = 0 → UsbRequest (.getStatus r index n) (.usbIn 0 ([1 + 2 * s.rd Reg.USB_STATUS_RWAKE, 0].take n)) s) ∧
    (r.val = 1 → UsbRequest (.getStatus r index n) (if index.val = 0 ∧ s.rd Reg.USB_STATUS_STATE = 4
      then .usbIn 0 ([0, 0].take n) else .usbStall 0) s) ∧
    (r.val = 2 → ∀ i, e = some i →
      UsbRequest (.getStatus r index n) (.usbIn 0 ([(s.usb.halts.testBit i).toNat, 0].take n)) s) ∧
    (3 ≤ r.val → UsbRequest (.getStatus r index n) (.usbStall 0) s)) ∧
  (∀ (s : State) (r : Fin 32) (f index : Fin 65536), s.alive = true → s.usbAnswers = true → ∀ e, e = endpointOf index →
    (r.val = 0 → f.val = 1 →
      Completes (.setFeature r f index) s (fun u => u.rd Reg.USB_STATUS_RWAKE = 1 ∧ u.nt.usb.rwake = true ∧
        OnlyChanges [.regs, .nt] s u) ∧
      Completes (.clearFeature r f index) s (fun u => u.rd Reg.USB_STATUS_RWAKE = 0 ∧ u.nt.usb.rwake = false ∧
        OnlyChanges [.regs, .nt] s u)) ∧
    (r.val = 0 → f.val = 2 → Completes (.setFeature r f index) s fun u =>
      u = { s with usb := { s.usb with testMode := some (index.val / 2 ^ 8) } }) ∧
    (r.val = 2 → f.val = 0 → ∀ i, e = some i →
      Completes (.setFeature r f index) s (fun u => u.usb.halts.testBit i = true ∧ OnlyChanges [.usb] s u ∧
        ∀ j, j ≠ i → u.usb.halts.testBit j = s.usb.halts.testBit j) ∧
      Completes (.clearFeature r f index) s (fun u => u.usb.halts.testBit i = false ∧ OnlyChanges [.usb] s u ∧
        ∀ j, j ≠ i → u.usb.halts.testBit j = s.usb.halts.testBit j)) ∧
    (3 ≤ r.val ∨ 3 ≤ f.val →
      Completes (.setFeature r f index) s (fun u => u = s.emit (.usbStall 0)) ∧
      Completes (.clearFeature r f index) s (fun u => u = s.emit (.usbStall 0)))) ∧
  (∀ (s : State) (alt index n : Fin 65536), s.alive = true →
    ∀ here : Bool, here = (index.val == 0 && s.rd Reg.USB_STATUS_STATE == 4) →
    UsbRequest (.getInterface index n) (if here then .usbIn 0 ([0].take n) else .usbStall 0) s ∧
    (alt.val = 0 → here = true → Completes (.setInterface alt index) s fun u => u = s) ∧
    (alt.val ≠ 0 ∨ here = false → UsbRequest (.setInterface alt index) (.usbStall 0) s)) ∧
  (∀ s : State, s.alive = true → UsbRequest .setDescriptor (.usbStall 0) s ∧ UsbRequest .synchFrame (.usbStall 0) s))

/-- What a vendor request that is not accepted does (R484, R485): nothing where the port does not answer, else a STALL that
is counted. -/
def Sys2Proof.Machine.VendorRefuses (c : Instr) (ok : Bool) (s : State) : Prop :=
  (s.usbAnswers = false → Completes c s fun u => u = s) ∧
  (s.usbAnswers = true → s.rd Reg.USB_STATUS_STATE ≠ 4 ∨ ok = false → Completes c s fun u =>
    u = (s.inc Reg.USB_STALLS_COUNT).emit (.usbStall 0))

/-- R474, R484, R485, R486, R488. The vendor requests: when each is refused, and what it does in CONFIGURED. R486, R487,
R489. The bulk streams and the event messages: a log packet, an image packet, and a message that the host takes. -/
def Obligations.UsbRequestsAndStreams : Prop :=
  ((∀ (s : State) (n : Fin 65536), s.alive = true →
    VendorRefuses (.getInfo n) (n.val == 20) s ∧ VendorRefuses (.usbUpdStatus n) (n.val == 12) s ∧
    VendorRefuses (.logStop n) (n.val == 0) s ∧
    (s.rd Reg.USB_STATUS_STATE = 4 → n.val = 20 → Completes (.getInfo n) s fun u =>
      u.out = .usbIn 0 ((s.storedWord 0 0x20 :: s.fwInfo).flatMap (leBytes 4)) :: s.out ∧ OnlyChanges [.nt, .out] s u) ∧
    (s.rd Reg.USB_STATUS_STATE = 4 → n.val = 12 → Completes (.usbUpdStatus n) s fun u =>
      u.out = .usbIn 0 ([s.storedWord 0x900 0x604, s.rd Reg.UPD_COUNT_BYTES, s.rd Reg.UPD_FREE_BYTES].flatMap (leBytes 4)) :: s.out ∧
      OnlyChanges [.nt, .out] s u) ∧
    (s.rd Reg.USB_STATUS_STATE = 4 → n.val = 0 → Completes (.logStop n) s fun u =>
      u.usb.stream = none ∧ u.rd Reg.USB_STATUS_LOG_STREAM = 0 ∧ OnlyChanges [.regs, .nt, .usb] s u)) ∧
  (∀ (s : State) (seq : Word) (mirror follow : Bool) (n : Fin 65536), s.alive = true →
    VendorRefuses (.logStart seq mirror follow n) (n.val == 8) s ∧
    (s.rd Reg.USB_STATUS_STATE = 4 → n.val = 8 → Completes (.logStart seq mirror follow n) s fun u =>
      u.usb.stream = some ⟨seq.toNat, mirror, follow⟩ ∧ u.rd Reg.USB_STATUS_LOG_STREAM = 1 ∧
      OnlyChanges [.regs, .nt, .usb] s u)) ∧
  (∀ (s : State) (op n : Fin 65536), s.alive = true →
    VendorRefuses (.usbUpdCmd op n) (n.val == 0 && s.on Reg.USB_CTL_UPD_EN) s ∧
    (s.rd Reg.USB_STATUS_STATE = 4 → n.val = 0 → s.on Reg.USB_CTL_UPD_EN = true →
      (s.updAllows op true = false → Completes (.usbUpdCmd op n) s fun u =>
        u.rd Reg.USB_STALLS_COUNT = (s.rd Reg.USB_STALLS_COUNT + 1) % 2 ^ 32 ∧ u.out.head? = some (.usbStall 0) ∧
        u.eventSet Ev.MGMT_UPD_REFUSED = true ∧ EventsKept s u ∧ OnlyChanges [.regs, .nt, .out] s u) ∧
      (s.updAllows op true = true → s.mgmt.recovery = false → Completes (.usbUpdCmd op n) s fun u =>
        u.rd Reg.UPD_STATUS_STATE = [0, 1, 2, 5, 0, if s.rd Reg.UPD_STATUS_STATE = 1 then 0 else 3].getD op 0 ∧
        (op.val = 1 → u.rd Reg.UPD_STATUS_OWNER = 2) ∧ u.eventSet Ev.MGMT_UPD_CHANGE = true ∧ EventsKept s u))) ∧
  (∀ (s : State) (b : List Byte), s.alive = true →
    VendorRefuses (.onyxFrame b) (decide (1 ≤ b.length ∧ b.length ≤ 64) && !s.usb.onyxBusy) s ∧
    (s.rd Reg.USB_STATUS_STATE = 4 → 1 ≤ b.length → b.length ≤ 64 → s.usb.onyxBusy = false →
      Completes (.onyxFrame b) s fun u =>
        u.usb.onyxBusy = true ∧ u.onyx.reply = none ∧ u.onyx.power = s.onyx.power ∧
        u.onyx.frame = (if s.onyx.power = .operating then some (b.map (·.toNat)) else none) ∧
        OnlyChanges [.nt, .usb, .onyx, .out] s u)) ∧
  (∀ (s : State) (mask n : Fin 65536), s.alive = true → VendorRefuses (.usbEvtMask mask n) (n.val == 0) s ∧
    (s.rd Reg.USB_STATUS_STATE = 4 → n.val = 0 → Completes (.usbEvtMask mask n) s fun u =>
      u.rd Reg.USB_EVT_MASK_MASK = mask ∧ OnlyChanges [.regs, .nt] s u)) ∧
  (∀ (s : State) (p o n : Fin 65536) (x : Outside), s.alive = true →
    VendorRefuses (.usbRegRead p o n x) (n.val == 4 && s.on Reg.USB_CTL_RD_EN && !(decide (0x840 ≤ p.val ∧ p.val ≤ 0x850))) s ∧
    (s.rd Reg.USB_STATUS_STATE = 4 → n.val = 4 → s.on Reg.USB_CTL_RD_EN = true → p.val < 8192 → p.val < 0x840 ∨ 0x850 < p.val →
      s.mgmt.recovery = false →
      (o.val < 0x20 → o.val % 4 = 0 → Completes (.usbRegRead p o n x) s fun u =>
        u.out = .usbIn 0 (leBytes 4 (if pageDefined p then s.headerWord p o else 0)) :: s.out ∧
        OnlyChanges [.nt, .out] s u) ∧
      (p.val = 0x10 → o.val = 0x24 → s.domain 0 = 2 → Completes (.usbRegRead p o n x) s fun u =>
        u.out = .usbIn 0 (leBytes 4 (s.tb.ns % 2 ^ 32)) :: s.out ∧ u.captured 17 0x10 0x28 = s.tb.ns / 2 ^ 32 % 2 ^ 32 ∧
        (∀ r, r < 4096 → u.captured 0 0x10 r = s.captured 0 0x10 r)))) ∧
  (∀ (s : State) (p o n : Fin 65536) (v : Word) (x : Outside), s.alive = true →
    VendorRefuses (.usbRegWrite p o n v x) (n.val == 4 && s.on Reg.USB_CTL_WR_EN && !usbNoWrite p && o.val % 4 == 0) s ∧
    (s.rd Reg.USB_STATUS_STATE = 4 → n.val = 4 → s.on Reg.USB_CTL_WR_EN = true → p.val < 8192 → usbNoWrite p = false →
      pageDefined p = true → o.val = 0x14 → s.mgmt.recovery = false → Completes (.usbRegWrite p o n v x) s fun u =>
        u.rd Reg.PAGE_MASK p = v.toNat ∧ EventsKept s u ∧ OnlyChanges [.regs, .nt, .out] s u ∧
        (s.nt.log.lostPending = 0 → s.nt.log.intake.length < 256 →
          (u.nt.log.intake.getLast?).map (fun e => (e.kind, e.tenant, e.page, e.offset, e.value)) =
            some (0x01, 17, p.val, 0x14, v.toNat))))) ∧
  ((∀ s : State, s.alive = true →
    (s.usb.stream = none ∨ s.rd Reg.USB_STATUS_STATE ≠ 4 ∨ s.usb.halts.testBit 1 = true →
      Completes .usbLogPacket s fun u => u = s) ∧
    (∀ x, s.usb.stream = some x → s.rd Reg.USB_STATUS_STATE = 4 → s.usb.halts.testBit 1 = false →
      ∀ most, most = (if s.on Reg.USB_STATUS_HS then 16 else 2) →
      ∀ es, es = s.streamEntries x (if x.mirror && x.follow then s.nt.log.mirrorSeq else s.nt.log.next) →
      (most ≤ es.length → Completes .usbLogPacket s fun u =>
        u.out = .usbIn 1 ((es.take most).flatMap LogEntry.bytes) :: s.out ∧
        (u.usb.stream.map fun y => (y.mirror, y.follow)) = some (x.mirror, x.follow) ∧
        (u.usb.stream.map (·.seq)) = ((es.take most).getLast?).map (fun e => (e.seq + 1) % 2 ^ 32) ∧
        OnlyChanges [.regs, .usb, .out] s u) ∧
      (es.length < most → s.nt.log.intake = [] → x.follow = false → Completes .usbLogPacket s fun u =>
        u.out = .usbIn 1 (es.flatMap LogEntry.bytes) :: s.out ∧ u.usb.stream = none ∧
        u.rd Reg.USB_STATUS_LOG_STREAM = 0) ∧
      (es = [] → x.follow = true → Completes .usbLogPacket s fun u => u = s))) ∧
  (∀ (s : State) (b : List Byte), s.alive = true → b.length ≤ 512 →
    (s.rd Reg.USB_STATUS_STATE ≠ 4 ∨ s.usb.halts.testBit 2 = true ∨ s.rd Reg.UPD_FREE_BYTES < 512 →
      Completes (.usbImagePacket b) s fun u => u = s) ∧
    (s.rd Reg.USB_STATUS_STATE = 4 → s.usb.halts.testBit 2 = false → 512 ≤ s.rd Reg.UPD_FREE_BYTES →
      (b.length % 4 ≠ 0 ∨ s.rd Reg.UPD_STATUS_STATE ≠ 1 ∨ s.rd Reg.UPD_STATUS_OWNER ≠ 2 →
        Completes (.usbImagePacket b) s fun u => u.usb.halts.testBit 2 = true ∧ OnlyChanges [.usb] s u) ∧
      (b.length % 4 = 0 → s.rd Reg.UPD_STATUS_STATE = 1 → s.rd Reg.UPD_STATUS_OWNER = 2 →
        s.rd Reg.UPD_COUNT_BYTES + b.length ≤ 4194304 → Completes (.usbImagePacket b) s fun u =>
          u.mgmt.buffer = s.mgmt.buffer ++ b.map (·.toNat) ∧
          u.rd Reg.UPD_COUNT_BYTES = s.rd Reg.UPD_COUNT_BYTES + b.length ∧
          (s.rd Reg.UPD_FREE_BYTES < 2 ^ 17 → u.rd Reg.UPD_FREE_BYTES = s.rd Reg.UPD_FREE_BYTES - b.length) ∧
          OnlyChanges [.regs, .mgmt] s u))) ∧
  (∀ s : State, s.alive = true →
    (s.nt.usb.queue = [] ∨ s.rd Reg.USB_STATUS_STATE ≠ 4 ∨ s.usb.halts.testBit 4 = true →
      Completes .eventMessagePoll s fun u => u = s) ∧
    (∀ m rest, s.nt.usb.queue = m :: rest → s.rd Reg.USB_STATUS_STATE = 4 → s.usb.halts.testBit 4 = false →
      Completes .eventMessagePoll s fun u =>
        u.out = .usbIn 4 (wordsBytes m) :: s.out ∧ u.nt.usb.queue = rest ∧ Told s u)))

/-- R494, R495, R496, R497, R498. The two-wire target port: write and read transactions, a bus timeout, alert responses,
and the host's alert. R499, R500, R501, R503. The two-wire controller port: a transfer is started, ends, loses the
arbitration or runs into the timeout; and the recovery of the bus. -/
def Obligations.TwoWirePorts : Prop :=
  ((∀ (s : State) (a : Fin 128) (b : List Byte) (stop : Bool), s.alive = true →
    (s.twtAnswers a = false → Completes (.twtWriteTransaction a b stop) s fun u => u = s) ∧
    (s.twtAnswers a = true → s.twtBusy = true → Completes (.twtWriteTransaction a b stop) s fun u =>
      u = s.incSat Reg.TWT_COUNT_NACK_BUSY) ∧
    (s.twtAnswers a = true → s.twtBusy = false → ∀ hi data, b = hi :: data → ∀ lo rest, data = lo :: rest →
      ∀ p, p = 256 * hi.toNat + lo.toNat →
      (rest = [] ∨ stop = false → Completes (.twtWriteTransaction a b stop) s fun u =>
        u.twt = { s.twt with pointer := p } ∧ u.nt.events = s.nt.events ∧ OnlyChanges [.nt, .out, .twt] s u) ∧
      (∀ v more, rest = v :: more → more = [] → stop = true → Completes (.twtWriteTransaction a b stop) s fun u =>
        u.twt.pointer = p / 64 * 64 + (p + 1) % 64 ∧ s.tb.ns ≤ u.twt.busyUntil ∧ u.twt.busyUntil ≤ s.tb.ns + 20000 ∧
        u.eventSet Ev.TWT_WRITE = true ∧ EventsKept s u ∧
        (0x1000 ≤ p → p < 0x1800 → ∀ w, w = (p - 0x1000) / 4 →
          (u.rd Reg.TWT_SCRATCH_VALUE 0 w) / 2 ^ (8 * (p % 4)) % 2 ^ 8 = v.toNat ∧
          u.rd Reg.TWT_IGNORED_COUNT = s.rd Reg.TWT_IGNORED_COUNT) ∧
        (p < 0x82 ∨ (0x86 ≤ p ∧ p < 0x1000) ∨ 0x1800 ≤ p →
          u.rd Reg.TWT_IGNORED_COUNT = (s.rd Reg.TWT_IGNORED_COUNT + 1) % 2 ^ 32)))) ∧
  (∀ (s : State) (a : Fin 128) (n : Nat), s.alive = true →
    (s.twtAnswers a = false → Completes (.twtReadTransaction a n) s fun u => u = s) ∧
    (s.twtAnswers a = true → s.twtBusy = true → Completes (.twtReadTransaction a n) s fun u =>
      u = s.incSat Reg.TWT_COUNT_NACK_BUSY) ∧
    (s.twtAnswers a = true → s.twtBusy = false → Completes (.twtReadTransaction a n) s fun u =>
      u.out = .twoWireTarget ((List.range n).map fun i => s.twtByte ((s.twt.pointer + i) % 65536)) :: s.out ∧
      u.twt = { s.twt with pointer := (s.twt.pointer + n) % 65536 } ∧ OnlyChanges [.nt, .out, .twt] s u)) ∧
  (∀ s : State, s.alive = true →
    (s.on Reg.TWT_CTL_EN = false → Completes .twtBusTimeout s fun u => u = s) ∧
    (s.on Reg.TWT_CTL_EN = true → Completes .twtBusTimeout s fun u =>
      u.rd Reg.TWT_COUNT_TIMEOUTS = min 65535 (s.rd Reg.TWT_COUNT_TIMEOUTS + 1) ∧ u.eventSet Ev.TWT_BUS_TIMEOUT = true ∧
      EventsKept s u ∧ u.twt = s.twt)) ∧
  (∀ (s : State) (won : Bool), s.alive = true →
    (s.nt.alerts.alerting % 2 ^ 16 = 0 ∨ s.on Reg.TWT_CTL_EN = false ∨ s.twtBusy = true →
      Completes (.twtAraDone won) s fun u => u = s) ∧
    (∀ n, s.alertFirst = some n → s.on Reg.TWT_CTL_EN = true → s.twtBusy = false →
      ∀ rest, rest = clearBit s.nt.alerts.alerting n →
      ∀ byte, byte = 2 * s.rd Reg.TWT_ADDR_ALERT_ADDR + (if rest = 0 then 0 else 1) →
      (won = false → Completes (.twtAraDone won) s fun u => u = s.emit (.twoWireTarget [byte])) ∧
      (won = true → Completes (.twtAraDone won) s fun u =>
        .twoWireTarget [byte] ∈ u.out ∧ u.nt.alerts.alerting = rest ∧ u.nt.alerts.status = s.nt.alerts.status ∧
        u.rd Reg.TWT_LAST_ALERT_SOURCE = n ∧ u.eventSet Ev.TWT_ARA_DONE = true ∧ EventsKept s u ∧
        (rest = 0 → .pin "TWT_ALERT_N" 0 true ∈ u.out)))) ∧
  (∀ (s : State) (v : Word), s.alive = true →
    (v.toNat.testBit 0 = false ∨ s.nt.alerts.status.testBit 9 = true → Completes (.twtHostAlert v) s fun u => u = s) ∧
    (v.toNat.testBit 0 = true → s.nt.alerts.status.testBit 9 = false → Completes (.twtHostAlert v) s fun u =>
      u.nt.alerts.status.testBit 9 = true ∧
      (u.nt.alerts.alerting.testBit 9 = (s.nt.alerts.alerting.testBit 9 || (s.rd Reg.TWT_ALERT_MASK_MASK).testBit 9)) ∧
      EventsKept s u ∧ Told s u))) ∧
  ((∀ (s : State) (v : Word) (bus : BusLines), s.alive = true → ∀ w, w = v.toNat / 2 ^ 8 % 2 ^ 6 →
    ∀ r, r = v.toNat / 2 ^ 16 % 2 ^ 6 → ∀ bad : Bool, bad = (s.on Reg.TWC_STATUS_BUSY || decide (32 < w) || decide (32 < r)) →
    (v.toNat.testBit 31 = false → Completes (.twcXferGo v bus) s fun u => u = s) ∧
    (v.toNat.testBit 31 = true → bad = true → Completes (.twcXferGo v bus) s fun u =>
      Told s u ∧ u.eventSet Ev.TWC_GO_IGNORED = true ∧ EventsKept s u) ∧
    (v.toNat.testBit 31 = true → bad = false →
      (s.on Reg.TWC_CTL_EN = false → Completes (.twcXferGo v bus) s fun u =>
        u.rd Reg.TWC_STATUS_RESULT = 7 ∧ u.rd Reg.TWC_STATUS_BUSY = 0 ∧ u.twc.host = none ∧
        u.eventSet Ev.TWC_XFER_FAIL = true ∧ EventsKept s u) ∧
      (s.on Reg.TWC_CTL_EN = true → s.twc.stuck = true → Completes (.twcXferGo v bus) s fun u =>
        u.rd Reg.TWC_STATUS_RESULT = 6 ∧ u.rd Reg.TWC_STATUS_BUSY = 0 ∧ u.eventSet Ev.TWC_XFER_FAIL = true ∧ EventsKept s u) ∧
      (s.on Reg.TWC_CTL_EN = true → s.twc.stuck = false → bus = .free ∨ (∃ n, bus = .low n) →
        Completes (.twcXferGo v bus) s fun u =>
          u.rd Reg.TWC_STATUS_BUSY = 1 ∧ u.rd Reg.TWC_STATUS_RCOUNT = 0 ∧ u.rd Reg.TWC_STATUS_ARB_RETRIES = 0 ∧
          u.twc.host = some ⟨v.toNat % 2 ^ 7, s.twcWritten w, r⟩ ∧
          u.out.head? = some (.twoWireTransfer (v.toNat % 2 ^ 7) (s.twcWritten w) r) ∧ EventsKept s u) ∧
      (s.on Reg.TWC_CTL_EN = true → s.twc.stuck = false → bus = .stuck ∨ bus = .sclLow →
        Completes (.twcXferGo v bus) s fun u =>
          u.rd Reg.TWC_STATUS_RESULT = 6 ∧ u.rd Reg.TWC_STATUS_BUSY = 0 ∧ u.twc.stuck = true ∧ u.twc.host = none ∧
          u.eventSet Ev.TWC_BUS_STUCK = true ∧ u.eventSet Ev.TWC_XFER_FAIL = true ∧ EventsKept s u))) ∧
  (∀ (s : State) (b : List Byte) (n : Fin 32), s.alive = true →
    (s.twc.host = none → Completes (.twcXferDone (.ok b)) s (fun u => u = s) ∧
      Completes (.twcXferDone .addressNack) s (fun u => u = s) ∧ Completes (.twcXferDone (.dataNack n)) s (fun u => u = s)) ∧
    (∀ t, s.twc.host = some t → ∀ code, code = (fun (n : Nat) => if s.twc.refused then 7 else n) →
      (Completes (.twcXferDone .addressNack) s fun u =>
        u.rd Reg.TWC_STATUS_RESULT = code 2 ∧ u.rd Reg.TWC_STATUS_BUSY = 0 ∧ u.twc.host = none ∧
        u.eventSet Ev.TWC_XFER_FAIL = true ∧ EventsKept s u) ∧
      (n.val < t.write.length → Completes (.twcXferDone (.dataNack n)) s fun u =>
        u.rd Reg.TWC_STATUS_RESULT = code 3 ∧ u.rd Reg.TWC_STATUS_NACK_BYTE = n ∧ u.rd Reg.TWC_STATUS_BUSY = 0 ∧
        u.twc.host = none ∧ u.eventSet Ev.TWC_XFER_FAIL = true ∧ EventsKept s u) ∧
      (b.length = t.readLength → b.length ≤ 32 → Completes (.twcXferDone (.ok b)) s fun u =>
        u.rd Reg.TWC_STATUS_RESULT = code 1 ∧ u.rd Reg.TWC_STATUS_RCOUNT = b.length ∧ u.rd Reg.TWC_STATUS_BUSY = 0 ∧
        u.twc.host = none ∧ (s.twc.refused = false → u.eventSet Ev.TWC_XFER_DONE = true) ∧ EventsKept s u ∧
        ∀ i, i < b.length →
          u.rd Reg.TWC_RDATA_VALUE 0 (i / 4) / 2 ^ (8 * (i % 4)) % 2 ^ 8 = (b.getD i 0).toNat))) ∧
  (∀ s : State, s.alive = true →
    (s.twc.host = none → Completes .twcArbLost s fun u => u = s) ∧
    (∀ t, s.twc.host = some t →
      (s.rd Reg.TWC_CTL_RETRIES ≤ s.twc.losses + 1 → Completes .twcArbLost s fun u =>
        u.rd Reg.TWC_STATUS_RESULT = 4 ∧ u.rd Reg.TWC_STATUS_BUSY = 0 ∧ u.twc.host = none ∧
        u.rd Reg.TWC_COUNT_ARB_LOST = min 65535 (s.rd Reg.TWC_COUNT_ARB_LOST + 1) ∧
        u.eventSet Ev.TWC_XFER_FAIL = true ∧ EventsKept s u) ∧
      (s.twc.losses + 1 < s.rd Reg.TWC_CTL_RETRIES → Completes .twcArbLost s fun u =>
        u.twc = { s.twc with losses := s.twc.losses + 1 } ∧
        u.out = .twoWireTransfer t.address t.write t.readLength :: s.out ∧
        u.rd Reg.TWC_COUNT_ARB_LOST = min 65535 (s.rd Reg.TWC_COUNT_ARB_LOST + 1) ∧ OnlyChanges [.regs, .out, .twc] s u))) ∧
  (∀ (s : State) (bus : BusLines), s.alive = true →
    (s.twc.host = none → Completes (.twcTimeout bus) s fun u => u = s) ∧
    (s.twc.host ≠ none → Completes (.twcTimeout bus) s fun u =>
      u.rd Reg.TWC_STATUS_BUSY = 0 ∧ u.twc.host = none ∧ u.eventSet Ev.TWC_XFER_FAIL = true ∧ EventsKept s u ∧
      (bus = .free ∨ (∃ n, bus = .low n) → u.rd Reg.TWC_STATUS_RESULT = 5 ∧ u.twc.stuck = false ∧
        u.eventSet Ev.TWC_RECOVERED = true) ∧
      (bus = .stuck ∨ bus = .sclLow → u.twc.stuck = true ∧ u.eventSet Ev.TWC_BUS_STUCK = true))) ∧
  (∀ (s : State) (v : Word) (bus : BusLines), s.alive = true →
    (v.toNat.testBit 0 = false → Completes (.twcRecover v bus) s fun u => u = s) ∧
    (v.toNat.testBit 0 = true →
      (bus = .free ∨ (∃ n, bus = .low n) → Completes (.twcRecover v bus) s fun u =>
        u.twc = { s.twc with stuck := false, cutOff := false } ∧
        u.rd Reg.TWC_COUNT_RECOVERIES = min 65535 (s.rd Reg.TWC_COUNT_RECOVERIES + 1) ∧
        u.eventSet Ev.TWC_RECOVERED = true ∧ EventsKept s u ∧
        ∀ n : Fin 10, bus = .low n → .twoWireRecovery n true ∈ u.out) ∧
      (bus = .stuck ∨ bus = .sclLow → Completes (.twcRecover v bus) s fun u =>
        u.twc = { s.twc with stuck := true } ∧ u.rd Reg.TWC_STATUS_RESULT = 6 ∧
        u.eventSet Ev.TWC_BUS_STUCK = true ∧ EventsKept s u ∧ (bus = .stuck → .twoWireRecovery 9 false ∈ u.out)))))

/-- What writing an entry leaves (R521, R523): with a free slot the entry, which carries the counter of events, ONX_SEC
and TOTAL of the moment and a CHECK that chains to the entry before it; with none a count of AUD_OVERFLOW. -/
def Sys2Proof.Machine.Onyx.Wrote (o t : Onyx) (kind param old new : Nat) : Prop :=
  (o.free = 0 → t.overflow = (o.overflow + 1) % 2 ^ 32 ∧ t.audit = o.audit ∧ t.head = o.head) ∧
  (o.free ≠ 0 → t.overflow = o.overflow ∧ t.head = (o.head + 1) % 2 ^ 32 ∧ t.audit.tail = o.audit.take 1023 ∧
    (t.audit.head?.map fun e => ({ e with check := 0 } : AuditEntry)) =
      some ⟨o.head, o.event, o.sec, kind, param, old, new, (o.h / 2 % 2 ^ 32).toNat, 0⟩ ∧
    (t.audit.head?.map fun e => e.check) =
      t.audit.head?.map fun e => crc16 (((o.audit.head?).map fun x => x.check).getD 0xFFFF) (e.bytes.take 28))

/-- The quarter turns from the levels of wheel `w` to those that its filter accepts: an input's new level once it has
stood for FILT_NS (R78, R512). -/
def Sys2Proof.Machine.Onyx.turns (o : Onyx) (w : Fin 2) (a b : Bool) (stoodA stoodB : Nat) : Nat :=
  (quadrant (if o.param 9 ≤ stoodA then a else (o.wheel w).a) (if o.param 9 ≤ stoodB then b else (o.wheel w).b) + 4
    - quadrant (o.wheel w).a (o.wheel w).b) % 4

/-- The change of a wheel's odometer for a count up or down before DIR, in tenths of a millimetre (R513). -/
def Sys2Proof.Machine.Onyx.odometerChange (o : Onyx) (w : Fin 2) (up : Bool) : Int :=
  let d : Int := if up == (o.param (3 + 3 * w.val) == 0) then 1 else -1
  let r := (o.wheel w).r + d * o.param (1 + 3 * w.val)
  let lim : Int := 100 * o.param (2 + 3 * w.val)
  if lim ≤ r then 1 else if r ≤ -lim then -1 else 0

/-- R510, R512, R513, R514. A count of wheel `w` moves its remainder and, at a tenth of a millimetre, its odometer, and
the change goes to H in METERING and to U in every other state; two lines that change in one sample count an error
and mark the window; no level accepted, no change; in retention nothing moves. R515, R516, R522. The count that
brings the greater advance of a window to WIN_UNITS judges it: the advances, the counts and the verdict; a second
window in a row that disagrees ends METERING with FAULT_START, and a second one that agrees ends FAULT with
FAULT_END. -/
def Obligations.OnyxMetering : Prop :=
  ((∀ (s : State) (w : Fin 2) (a b : Bool) (stoodA stoodB : Nat), s.onyx.power ≠ .operating →
    Completes (.onyxWheelCount w ⟨⟨a, stoodA⟩, ⟨b, stoodB⟩⟩) s fun u =>
      u.onyx.wheel w = { s.onyx.wheel w with a := a, b := b } ∧ u.onyx.wheel (1 - w.val) = s.onyx.wheel (1 - w.val) ∧
      u.onyx.h = s.onyx.h ∧ u.onyx.u = s.onyx.u ∧ u.onyx.windowError = s.onyx.windowError ∧
      u.onyx.event = s.onyx.event ∧ u.onyx.audit = s.onyx.audit ∧ OnlyChanges [.onyx] s u) ∧
  (∀ (s : State) (w : Fin 2) (a b : Bool) (stoodA stoodB : Nat), s.onyx.power = .operating →
    s.onyx.turns w a b stoodA stoodB = 0 → Completes (.onyxWheelCount w ⟨⟨a, stoodA⟩, ⟨b, stoodB⟩⟩) s fun u => u = s) ∧
  (∀ (s : State) (w : Fin 2) (a b : Bool) (stoodA stoodB : Nat), s.onyx.power = .operating →
    s.onyx.turns w a b stoodA stoodB = 2 → ∀ x, x = s.onyx.wheel w →
    Completes (.onyxWheelCount w ⟨⟨a, stoodA⟩, ⟨b, stoodB⟩⟩) s fun u =>
      u.onyx.wheel w = { x with a := !x.a, b := !x.b, qerr := (x.qerr + 1) % 2 ^ 32 } ∧
      u.onyx.wheel (1 - w.val) = s.onyx.wheel (1 - w.val) ∧
      u.onyx.windowError = true ∧ u.onyx.h = s.onyx.h ∧ u.onyx.u = s.onyx.u ∧ u.onyx.event = s.onyx.event ∧
      u.onyx.audit = s.onyx.audit ∧ OnlyChanges [.onyx] s u) ∧
  (∀ (s : State) (w : Fin 2) (a b : Bool) (stoodA stoodB : Nat) (up : Bool), s.onyx.power = .operating →
    s.onyx.turns w a b stoodA stoodB = (if up then 1 else 3) → ∀ x, x = s.onyx.wheel w →
    ∀ d : Int, d = (if up == (s.onyx.param (3 + 3 * w.val) == 0) then 1 else -1) →
    ∀ r : Int, r = x.r + d * s.onyx.param (1 + 3 * w.val) → ∀ lim : Int, lim = 100 * s.onyx.param (2 + 3 * w.val) → 0 < lim →
    ∀ dn : Int, dn = (if lim ≤ r then 1 else if r ≤ -lim then -1 else 0) →
    Completes (.onyxWheelCount w ⟨⟨a, stoodA⟩, ⟨b, stoodB⟩⟩) s fun u =>
      (u.onyx.wheel w).n = x.n + dn ∧ (u.onyx.wheel w).r = r - dn * lim ∧ (u.onyx.wheel w).qerr = x.qerr ∧
      (u.onyx.wheel (1 - w.val)).n = (s.onyx.wheel (1 - w.val)).n ∧
      u.onyx.h = (if s.onyx.state = .metering then s.onyx.h + dn else s.onyx.h) ∧
      u.onyx.u = (if s.onyx.state = .metering then s.onyx.u else s.onyx.u + dn) ∧ u.onyx.event = s.onyx.event ∧
      u.onyx.params = s.onyx.params ∧ OnlyChanges [.onyx] s u)) ∧
  (∀ (s : State) (w : Fin 2) (a b : Bool) (stoodA stoodB : Nat) (up : Bool), s.onyx.power = .operating →
    s.onyx.turns w a b stoodA stoodB = (if up then 1 else 3) → 0 < s.onyx.param (2 + 3 * w.val) →
    ∀ dn, dn = s.onyx.odometerChange w up → ∀ a0 : Int, a0 = s.onyx.wheel0.advance + (if w = 0 then dn else 0) →
    ∀ a1 : Int, a1 = s.onyx.wheel1.advance + (if w = 1 then dn else 0) → ∀ m, m = max a0.natAbs a1.natAbs →
    ∀ agree : Bool, agree = (decide ((a0 - a1).natAbs ≤ 1 + s.onyx.param 7 * m / 1000000) && !s.onyx.windowError) →
    (m < s.onyx.param 8 → Completes (.onyxWheelCount w ⟨⟨a, stoodA⟩, ⟨b, stoodB⟩⟩) s fun u =>
      u.onyx.wheel0.advance = a0 ∧ u.onyx.wheel1.advance = a1 ∧ u.onyx.windows = s.onyx.windows ∧
      u.onyx.disagrees = s.onyx.disagrees ∧ u.onyx.state = s.onyx.state ∧ u.onyx.audit = s.onyx.audit) ∧
    (configured s.onyx.params = true → s.onyx.param 8 ≤ m → Completes (.onyxWheelCount w ⟨⟨a, stoodA⟩, ⟨b, stoodB⟩⟩) s fun u =>
      (u.onyx.wheel0.advance = 0 ∧ u.onyx.wheel1.advance = 0 ∧ u.onyx.windowError = false ∧ u.onyx.lastA0 = a0 ∧
        u.onyx.lastA1 = a1 ∧ u.onyx.windows = (s.onyx.windows + 1) % 2 ^ 32 ∧
        u.onyx.disagrees = (s.onyx.disagrees + (if agree then 0 else 1)) % 2 ^ 32) ∧
      (s.onyx.state = .metering → agree = false → s.onyx.streakAgrees = false → 0 < s.onyx.streak →
        u.onyx.state = .fault ∧ u.onyx.faultStart = u.onyx.u ∧
        (s.onyx.free ≠ 0 → (u.onyx.audit.head?.map fun e => (e.kind, e.old, e.new)) =
          some (5, (a0 % 2 ^ 32).toNat, (a1 % 2 ^ 32).toNat))) ∧
      (s.onyx.state = .metering → agree = true ∨ s.onyx.streakAgrees = true ∨ s.onyx.streak = 0 →
        u.onyx.state = .metering ∧ u.onyx.audit = s.onyx.audit) ∧
      (s.onyx.state = .fault → agree = true → s.onyx.streakAgrees = true → 0 < s.onyx.streak →
        u.onyx.state = .metering ∧
        (s.onyx.free ≠ 0 → (u.onyx.audit.head?.map fun e => (e.kind, e.old, e.new)) =
          some (6, 0, (max (-2 ^ 31) (min (2 ^ 31 - 1) ((u.onyx.u - s.onyx.faultStart) / 2)) % 2 ^ 32).toNat))) ∧
      (s.onyx.state = .fault → agree = false ∨ s.onyx.streakAgrees = false ∨ s.onyx.streak = 0 →
        u.onyx.state = .fault ∧ u.onyx.audit = s.onyx.audit) ∧
      (s.onyx.state = .overtemp → u.onyx.state = .overtemp ∧ u.onyx.audit = s.onyx.audit)))

/-- R510, R511, R516, R522. Retention, the return from it with POWER_GAP, a cold start, and the two ends of OVERTEMP with
their entries. -/
def Obligations.OnyxSupply : Prop :=
  (∀ (s : State), s.onyx.power = .operating → Completes .onyxRetention s fun u =>
    u = { s with onyx := { s.onyx with power := .retention, gapSec := s.onyx.clock / 1000000000 % 2 ^ 32 } }) ∧
  (∀ (s : State), s.onyx.power ≠ .operating → Completes .onyxRetention s fun u => u = s) ∧
  (∀ (s : State), s.onyx.power = .retention → Completes .powerGap s fun u =>
    u.onyx.power = .operating ∧ s.onyx.Wrote u.onyx 9 0 (s.onyx.gapSec % 2 ^ 32) 0 ∧ u.onyx.wheel0.advance = 0 ∧
    u.onyx.wheel1.advance = 0 ∧ u.onyx.windowError = false ∧ u.onyx.state = s.onyx.state ∧ u.onyx.h = s.onyx.h ∧
    u.onyx.u = s.onyx.u ∧ u.onyx.windows = s.onyx.windows ∧ u.onyx.params = s.onyx.params ∧ OnlyChanges [.onyx] s u) ∧
  (∀ (s : State), s.onyx.power ≠ .retention → Completes .powerGap s fun u => u = s) ∧
  (∀ (s : State) (temp vddMv : BitVec 16), Completes (.coldStart temp vddMv) s fun u =>
    ∀ n, n = min 32 (s.onyx.coldStarts + 1) → u.onyx.coldStarts = n ∧ u.onyx.power = .operating ∧ u.onyx.clock = 0 ∧
    u.onyx.h = 0 ∧ u.onyx.u = 0 ∧ u.onyx.mark = 0 ∧ u.onyx.wheel0 = { a := s.onyx.wheel0.a, b := s.onyx.wheel0.b } ∧
    u.onyx.wheel1 = { a := s.onyx.wheel1.a, b := s.onyx.wheel1.b } ∧ u.onyx.event = 0 ∧
    u.onyx.params = [] ∧ u.onyx.staged = [] ∧ u.onyx.release = none ∧ u.onyx.state = .unconfigured ∧ u.onyx.head = 1 ∧
    u.onyx.overflow = 0 ∧ (u.onyx.audit.map fun e => (e.seq, e.kind, e.old, e.new, e.event, e.sec)) = [(0, 1, 0, n, 0, 0)] ∧
    OnlyChanges [.onyx] s u) ∧
  (∀ (s : State) (temp : BitVec 16), s.onyx.power = .operating →
    (s.onyx.state ≠ .overtemp → Completes (.tempStart temp) s fun u =>
      u.onyx.state = .overtemp ∧ u.onyx.before = s.onyx.state ∧ u.onyx.tempStart = s.onyx.u ∧ u.onyx.h = s.onyx.h ∧
      s.onyx.Wrote u.onyx 7 0 0 (temp.toInt % 2 ^ 32).toNat ∧ OnlyChanges [.onyx] s u) ∧
    (s.onyx.state = .overtemp → Completes (.tempStart temp) s fun u => u = s) ∧
    (s.onyx.state = .overtemp → Completes (.tempEnd temp) s fun u =>
      u.onyx.state = s.onyx.before ∧ u.onyx.wheel0.advance = 0 ∧ u.onyx.wheel1.advance = 0 ∧
      s.onyx.Wrote u.onyx 8 0 0 (max (-2 ^ 31) (min (2 ^ 31 - 1) ((s.onyx.u - s.onyx.tempStart) / 2)) % 2 ^ 32).toNat ∧
      OnlyChanges [.onyx] s u) ∧
    (s.onyx.state ≠ .overtemp → Completes (.tempEnd temp) s fun u => u = s))

/-- R516, R517, R518, R520, R523. A press of the seal switch: its entry, the staged release within its limits, and then
every staged parameter change at once, each with its entry and a count of the event counter, if eight slots stay free,
else none. -/
def Obligations.OnyxSeal : Prop :=
  (∀ (s : State), s.onyx.power ≠ .operating → Completes .sealPress s fun u => u = s) ∧
  (∀ (s : State), s.onyx.power = .operating → s.onyx.release = none → s.onyx.staged = [] → s.onyx.wf → 9 ≤ s.onyx.free →
    Completes .sealPress s fun u =>
      s.onyx.Wrote u.onyx 2 0 0 0 ∧ u.onyx.params = s.onyx.params ∧ u.onyx.event = s.onyx.event ∧
      u.onyx.released = s.onyx.released ∧ u.onyx.switch = true ∧ u.onyx.h = s.onyx.h ∧ u.onyx.u = s.onyx.u ∧
      OnlyChanges [.onyx] s u) ∧
  (∀ (s : State) (id : Fin 10) (v : Nat), s.onyx.power = .operating → s.onyx.release = none → s.onyx.wf →
    10 ≤ s.onyx.free → id ≠ 0 → s.onyx.staged = [(id.val, v)] → v ≠ s.onyx.param id → v < 2 ^ 32 →
    ((id = 2 ∨ id = 5) → v = 0 ∨ s.onyx.param (id.val - 1) ≤ 100 * v) →
    Completes .sealPress s fun u =>
      u.onyx.param id = v ∧ (∀ j : Fin 10, j ≠ id → u.onyx.param j = s.onyx.param j) ∧
      u.onyx.event = (s.onyx.event + 1) % 2 ^ 32 ∧ u.onyx.staged = [] ∧ u.onyx.kept = false ∧
      u.onyx.head = (s.onyx.head + 2) % 2 ^ 32 ∧
      (u.onyx.audit.take 2).map (fun e => (e.kind, e.param, e.new, e.event)) =
        [(3, id.val, v, (s.onyx.event + 1) % 2 ^ 32), (2, 0, 1, s.onyx.event)] ∧
      ((id = 1 ∨ id = 2) → u.onyx.wheel0.r = 0) ∧ ((id = 4 ∨ id = 5) → u.onyx.wheel1.r = 0) ∧
      (s.onyx.state ≠ .overtemp → configured u.onyx.params = false → u.onyx.state = .unconfigured) ∧
      (s.onyx.state = .unconfigured → configured u.onyx.params = true → u.onyx.state = .metering) ∧
      ((s.onyx.state = .metering ∨ s.onyx.state = .fault) → configured u.onyx.params = true → u.onyx.state = s.onyx.state) ∧
      (s.onyx.state = .overtemp → u.onyx.state = .overtemp) ∧
      u.onyx.h = s.onyx.h ∧ u.onyx.u = s.onyx.u ∧ OnlyChanges [.onyx] s u) ∧
  (∀ (s : State) (id : Fin 10) (v : Nat), s.onyx.power = .operating → s.onyx.release = none → s.onyx.wf → s.onyx.free ≠ 0 →
    s.onyx.free ≤ 9 → id ≠ 0 → s.onyx.staged = [(id.val, v)] → v ≠ s.onyx.param id →
    ((id = 2 ∨ id = 5) → v = 0 ∨ s.onyx.param (id.val - 1) ≤ 100 * v) →
    Completes .sealPress s fun u =>
      u.onyx.params = s.onyx.params ∧ u.onyx.staged = s.onyx.staged ∧ u.onyx.kept = true ∧ u.onyx.event = s.onyx.event ∧
      s.onyx.Wrote u.onyx 2 0 0 1 ∧ OnlyChanges [.onyx] s u) ∧
  (∀ (s : State) (q : Nat), s.onyx.power = .operating → s.onyx.release = some q → s.onyx.staged = [] → s.onyx.wf →
    10 ≤ s.onyx.free →
    ∀ n, n = (s.onyx.head + 1) % 2 ^ 32 →
    ∀ ok : Bool, ok = decide ((q + 2 ^ 32 - s.onyx.released) % 2 ^ 32 ≤ (n + 2 ^ 32 - s.onyx.released) % 2 ^ 32) →
    Completes .sealPress s fun u =>
      u.onyx.released = (if ok then q else s.onyx.released) ∧ u.onyx.release = none ∧
      (u.onyx.audit.take 2).map (fun e => (e.kind, e.old, e.new)) =
        [(4, s.onyx.released, if ok then q else s.onyx.released), (2, 0, 0)] ∧
      u.onyx.params = s.onyx.params ∧ u.onyx.event = s.onyx.event ∧ OnlyChanges [.onyx] s u)

/-- The reply frame that answers the frame `b` (R525). -/
def Sys2Proof.Machine.onyxAnswer (b : List Nat) (status : Nat) (payload : List Nat) : List Nat :=
  (b.getD 0 0 ||| 0x80) :: status :: (4 + payload.length) % 256 :: (4 + payload.length) / 256 % 256 :: payload

/-- R524, R525, R526, R527. The command frames: what each answers, MALFORMED and RANGE included; JOB_MARK sets the mark and
STAGE_PARAM, STAGE_RELEASE and CLEAR_STAGE the stages, and nothing else of Onyx changes. -/
def Obligations.OnyxFrames : Prop :=
  (∀ (s : State) (b : List Nat), s.onyx.power = .operating → s.onyx.frame = some b → s.onyx.reply = none →
    ∀ op, op = b.getD 0 0 → ∀ good : Bool, good = (b.length == 2 && b.getD 1 0 == 2) →
    (op = 1 → good = false → Completes .onyxIdent s fun u =>
      u = { s with onyx := { s.onyx with reply := some (onyxAnswer b 2 []) } }) ∧
    (op = 1 → good = true → Completes .onyxIdent s fun u =>
      ∀ p, p = (u.onyx.reply.getD []).drop 4 →
      u = { s with onyx := { s.onyx with reply := some (onyxAnswer b 0 p) } } ∧ p.length = 16 ∧
      p.take 2 = [onyxVersion % 256, onyxVersion / 256 % 256] ∧ p.getD 4 0 = s.onyx.coldStarts ∧
      p.getD 5 0 = s.onyx.state.code) ∧
    (op = 2 → good = false → Completes .onyxReadState s fun u =>
      u = { s with onyx := { s.onyx with reply := some (onyxAnswer b 2 []) } }) ∧
    (op = 2 → good = true → Completes .onyxReadState s fun u =>
      u = { s with onyx := { s.onyx with reply := some (onyxAnswer b 0 (s.onyx.page.flatMap (leBytes 4))) } } ∧
      s.onyx.page.length = 56) ∧
    (op = 4 → good = false → Completes .onyxJobMark s fun u =>
      u = { s with onyx := { s.onyx with reply := some (onyxAnswer b 2 []) } }) ∧
    (op = 4 → good = true → ∀ total, total = s.onyx.h / 2 → Completes .onyxJobMark s fun u =>
      ∀ r, r = u.onyx.reply.getD [] →
        u = { s with onyx := { s.onyx with mark := total, jobNo := (s.onyx.jobNo + 1) % 2 ^ 32, reply := some r,
                                           lastJob := ⟨s.onyx.jobNo, s.onyx.mark, total, s.onyx.sec⟩ } } ∧
        r.take 4 = [b.getD 0 0 ||| 0x80, 0, 28, 0] ∧ r.length = 28 ∧ ofBytes ((r.drop 4).take 4) = s.onyx.jobNo % 2 ^ 32 ∧
        ofBytes (r.drop 24) = s.onyx.sec ∧ (ofBytes ((r.drop 16).take 8) : Int) = total % 2 ^ 64) ∧
    (op = 7 → good = false → Completes .onyxClearStage s fun u =>
      u = { s with onyx := { s.onyx with reply := some (onyxAnswer b 2 []) } }) ∧
    (op = 7 → good = true → Completes .onyxClearStage s fun u =>
      u = { s with onyx := { s.onyx with staged := [], release := none, reply := some (onyxAnswer b 0 []) } }) ∧
    (op = 6 → ∀ ok : Bool, ok = (b.length == 6 && b.getD 1 0 == 6) →
      (ok = false → Completes .onyxStageRelease s fun u =>
        u = { s with onyx := { s.onyx with reply := some (onyxAnswer b 2 []) } }) ∧
      (ok = true → Completes .onyxStageRelease s fun u =>
        u = { s with onyx := { s.onyx with release := some (ofBytes (b.drop 2)), reply := some (onyxAnswer b 0 []) } })) ∧
    (op = 5 → ∀ ok : Bool, ok = (b.length == 7 && b.getD 1 0 == 7 && decide (1 ≤ b.getD 2 0 ∧ b.getD 2 0 ≤ 9)) →
      ∀ v, v = ofBytes (b.drop 3) →
      (ok = false → Completes .onyxStageParam s fun u =>
        u = { s with onyx := { s.onyx with reply := some (onyxAnswer b 2 []) } }) ∧
      (ok = true → parameterRange (b.getD 2 0) v = false → Completes .onyxStageParam s fun u =>
        u = { s with onyx := { s.onyx with reply := some (onyxAnswer b 3 []) } }) ∧
      (ok = true → parameterRange (b.getD 2 0) v = true → Completes .onyxStageParam s fun u =>
        u = { s with onyx := { s.onyx with staged := tput (b.getD 2 0) v s.onyx.staged,
                                           reply := some (onyxAnswer b 0 []) } })) ∧
    (op = 3 → ∀ n, n = b.getD 2 0 → ∀ ok : Bool, ok = (b.length == 7 && b.getD 1 0 == 7 && decide (1 ≤ n ∧ n ≤ 64)) →
      (ok = false → Completes .onyxReadAudit s fun u =>
        u = { s with onyx := { s.onyx with reply := some (onyxAnswer b 2 []) } }) ∧
      (ok = true → ∀ held, held = ((s.onyx.audit.reverse.filter fun e => decide (ofBytes (b.drop 3) ≤ e.seq)).take n) →
        Completes .onyxReadAudit s fun u =>
          u = { s with onyx := { s.onyx with reply := some (onyxAnswer b 0 (held.flatMap AuditEntry.bytes)) } }))) ∧
  (∀ (s : State), s.onyx.power ≠ .operating ∨ s.onyx.frame = none →
    Completes .onyxIdent s (fun u => u = s) ∧ Completes .onyxReadState s (fun u => u = s) ∧
    Completes .onyxReadAudit s (fun u => u = s) ∧ Completes .onyxJobMark s (fun u => u = s) ∧
    Completes .onyxStageParam s (fun u => u = s) ∧ Completes .onyxStageRelease s (fun u => u = s) ∧
    Completes .onyxClearStage s (fun u => u = s))

/-- R488, R526, R528, R530, R532. The ends of Onyx's paths out: the reply goes to endpoint 3 with its message and is read
by the host; a push fills the view, advances its number and the mirror and tells what it changed, and on a die without
power it reaches no view; the view goes stale. -/
def Obligations.OnyxView : Prop :=
  (∀ (s : State), s.onyx.power ≠ .operating → Completes .onyxReplyReady s fun u => u = s) ∧
  (∀ (s : State) (b : List Nat), s.onyx.power = .operating → s.onyx.frame = some b → s.onyx.reply = none →
    s.usb.onyxBusy = true →
    (b.getD 0 0 = 0 ∨ 8 ≤ b.getD 0 0 → Completes .onyxReplyReady s fun u =>
      u.onyx = { s.onyx with frame := none } ∧ u.usb = { s.usb with onyxReply := some (onyxAnswer b 1 []) } ∧
      OnlyChanges [.onyx, .usb, .regs, .nt, .out] s u) ∧
    (b.getD 0 0 = 7 ∧ b.length = 2 ∧ b.getD 1 0 = 2 → Completes .onyxReplyReady s fun u =>
      u.onyx = { s.onyx with frame := none, staged := [], release := none } ∧
      u.usb = { s.usb with onyxReply := some (onyxAnswer b 0 []) } ∧ OnlyChanges [.onyx, .usb, .regs, .nt, .out] s u)) ∧
  (∀ (s : State) (r : List Nat), s.onyx.power = .operating → s.onyx.frame = none → s.onyx.reply = some r →
    s.usb.onyxBusy = false → Completes .onyxReplyReady s fun u => u = { s with onyx := { s.onyx with reply := none } }) ∧
  (∀ (s : State), s.alive = true → ∀ r, s.usb.onyxReply = some r →
    (s.rd Reg.USB_STATUS_STATE = 4 → s.usb.halts.testBit 3 = false → Completes .onyxReplyTransfer s fun u =>
      u = { s with usb := { s.usb with onyxReply := none, onyxBusy := false }, out := .usbIn 3 r :: s.out }) ∧
    (s.rd Reg.USB_STATUS_STATE ≠ 4 ∨ s.usb.halts.testBit 3 = true → Completes .onyxReplyTransfer s fun u => u = s)) ∧
  (∀ (s : State) (temp vddMv : BitVec 16) (sw : Bool), s.onyx.power ≠ .operating →
    Completes (.onyxPush temp vddMv sw) s fun u => u = s) ∧
  (∀ (s : State) (temp vddMv : BitVec 16) (sw : Bool), s.onyx.power = .operating →
    ∀ o : Onyx, o = { s.onyx with temp := temp.toNat, vddMv := vddMv.toNat, switch := sw,
                                  pushes := (s.onyx.pushes + 1) % 2 ^ 32, unpushed := [],
                                  rotation := (s.onyx.rotation + 1) % 7 } →
    (s.alive = false → Completes (.onyxPush temp vddMv sw) s fun u => u = { s with onyx := o }) ∧
    (s.alive = true → Completes (.onyxPush temp vddMv sw) s fun u =>
      u.onyx = o ∧ u.rd Reg.ONX_STATUS_VIEW_VALID = 1 ∧ u.rd Reg.ONX_PUSH_SEQ_COUNT = o.pushes ∧
      u.rd Reg.ONX_PUSH_TIME_LO_VALUE = s.tb.ns % 2 ^ 32 ∧ u.rd Reg.ONX_STATUS_STATE = o.state.code ∧
      u.rd Reg.ONX_TOTAL_LO_VALUE = (o.h / 2 % 2 ^ 32).toNat ∧ u.rd Reg.ONX_EVENT_COUNT = o.event % 2 ^ 32 ∧
      u.rd Reg.AUD_HEAD_SEQ = o.head % 2 ^ 32 ∧ u.rd Reg.ONX_ENV_TEMP = temp.toNat ∧
      (∀ i : Fin 9, u.rd Reg.ONX_PARAM_VALUE 0 i = o.param (i.val + 1) % 2 ^ 32) ∧
      (s.rd Reg.ONX_EVENT_COUNT ≠ o.event % 2 ^ 32 → u.eventSet Ev.ONX_EVENT_CHANGED = true) ∧
      (s.rd Reg.ONX_STATUS_STATE ≠ o.state.code → u.eventSet Ev.ONX_STATE_CHANGED = true) ∧
      (s.rd Reg.ONX_JOB_NO_VALUE ≠ o.jobNo % 2 ^ 32 → u.eventSet Ev.ONX_JOB_MARKED = true) ∧
      (s.rd Reg.AUD_HEAD_SEQ ≠ o.head % 2 ^ 32 → u.eventSet Ev.ONX_AUDIT_NEW = true) ∧
      EventsKept s u ∧ OnlyChanges [.onyx, .regs, .nt, .out] s u)) ∧
  (∀ (s : State), s.alive = true → Completes .viewStale s fun u =>
    u.rd Reg.ONX_STATUS_VIEW_VALID = 0 ∧ u.rd Reg.ONX_TOTAL_LO_VALUE = s.rd Reg.ONX_TOTAL_LO_VALUE ∧
    u.eventSet Ev.ONX_VIEW_STALE = true ∧ EventsKept s u ∧ u.onyx = s.onyx ∧ OnlyChanges [.regs, .nt, .out] s u)

/-- A frame has arrived whole on port `p`: its failures in a row are forgotten (R537). -/
def Sys2Proof.Machine.State.heard (s : State) (p : Nat) : State := { s with ik := { s.ik with fails := sput s.ik.fails p 0 } }

/-- The message `type` with its payload is sent on port `p`, if the port is up (R537). -/
def Sys2Proof.Machine.State.sentOn (s : State) (p type : Nat) (payload : List Nat) : State :=
  if s.on Reg.IKP_STATUS_UP p then { s with out := .ikito p type payload :: s.out } else s

/-- The cascade is enabled and its domain is ON (R541). -/
def Sys2Proof.Machine.State.chained (s : State) : Bool := s.on Reg.IK_CTL_EN && s.domain 7 == 2

/-- R534, R537, R541, R546. The ports of the cascade: one that trains, one that goes down, its retry, a frame with a CRC
error and the fourth in a row; a run halts when a port that faces a neighbour goes down. -/
def Obligations.CascadePorts : Prop :=
  (∀ (s : State) (p : Fin 2) (w : Fin 8), s.alive = true →
    (s.cascaded = false ∨ s.on Reg.IKP_STATUS_UP p = true → Completes (.ikPortTrained p w) s fun u => u = s) ∧
    (s.cascaded = true → s.chained = true → s.on Reg.IKP_STATUS_UP p = false → Completes (.ikPortTrained p w) s fun u =>
      u.rd Reg.IKP_STATUS_UP p = 1 ∧ u.rd Reg.IKP_STATUS_WIDTH p = w.val ∧
      u.rd Reg.IKP_STATUS_UP (1 - p.val) = s.rd Reg.IKP_STATUS_UP (1 - p.val) ∧ u.eventSet Ev.IK_LINK_CHANGE = true ∧
      EventsKept s u ∧ (s.leads = true → .ikito p 0x01 s.enumPayload ∈ u.out) ∧ u.running = s.running ∧
      OnlyChanges [.regs, .nt, .ik, .out] s u) ∧
    (s.cascaded = true → s.on Reg.IKP_STATUS_UP p = false → Completes (.ikPortRetry p) s fun u =>
      u = { s with out := .pin "IK_TRAIN" p true :: s.out }) ∧
    (s.cascaded = false ∨ s.on Reg.IKP_STATUS_UP p = true → Completes (.ikPortRetry p) s fun u => u = s) ∧
    (s.on Reg.IKP_STATUS_UP p = false → Completes (.ikPortDown p) s fun u => u = s) ∧
    (s.on Reg.IKP_STATUS_UP p = false → Completes (.ikFrameCrcError p) s fun u => u = s)) ∧
  (∀ (s : State) (p : Fin 2), s.alive = true → s.chained = true → s.cascaded = true → s.on Reg.IKP_STATUS_UP p = true →
    ∀ st, st = s.rd Reg.IK_STATUS_STATE →
    (st ≠ 4 ∨ s.ikFaces p = false → Completes (.ikPortDown p) s fun u =>
      u.rd Reg.IKP_STATUS_UP p = 0 ∧ u.rd Reg.IKP_STATUS_WIDTH p = 0 ∧
      u.rd Reg.IKP_DOWNS_COUNT p = (s.rd Reg.IKP_DOWNS_COUNT p + 1) % 2 ^ 32 ∧
      (s.ikFaces p = true → st = 3 → u.rd Reg.IK_STATUS_STATE = 2 ∧ u.eventSet Ev.IK_STATE_CHANGE = true) ∧
      u.eventSet Ev.IK_LINK_CHANGE = true ∧ EventsKept s u ∧ u.running = s.running ∧ OnlyChanges [.regs, .nt, .ik, .out] s u) ∧
    (st = 4 → s.ikFaces p = true → Completes (.ikPortDown p) s fun u =>
      u.rd Reg.IKP_STATUS_UP p = 0 ∧ u.rd Reg.IK_STATUS_STATE = 5 ∧ u.rd Reg.IK_HALT_CAUSE_CAUSE = 1 ∧
      u.running = false ∧ u.eventSet Ev.IK_HALTED = true ∧ u.eventSet Ev.IK_LINK_CHANGE = true ∧
      u.rd Reg.IKP_STATUS_UP (1 - p.val) = s.rd Reg.IKP_STATUS_UP (1 - p.val) ∧ EventsKept s u ∧
      (s.on Reg.IKP_STATUS_UP (1 - p.val) = true → .ikito (1 - p.val) 0x20 (1 :: leBytes 6 s.lt.line) ∈ u.out))) ∧
  (∀ (s : State) (p : Fin 2), s.alive = true → s.on Reg.IKP_STATUS_UP p = true → ∀ n, n = sget s.ik.fails p →
    (n < 3 → Completes (.ikFrameCrcError p) s fun u =>
      u.rd Reg.IKP_CRC_ERR_COUNT p = (s.rd Reg.IKP_CRC_ERR_COUNT p + 1) % 2 ^ 32 ∧
      u.rd Reg.IKP_RETRY_COUNT p = (s.rd Reg.IKP_RETRY_COUNT p + 1) % 2 ^ 32 ∧ sget u.ik.fails p = n + 1 ∧
      u.rd Reg.IKP_STATUS_UP p = 1 ∧ u.rd Reg.IK_STATUS_STATE = s.rd Reg.IK_STATUS_STATE ∧ OnlyChanges [.regs, .ik] s u) ∧
    (3 ≤ n → s.chained = true → s.cascaded = true → s.rd Reg.IK_STATUS_STATE ≠ 4 → Completes (.ikFrameCrcError p) s fun u =>
      u.rd Reg.IKP_CRC_ERR_COUNT p = (s.rd Reg.IKP_CRC_ERR_COUNT p + 1) % 2 ^ 32 ∧ u.rd Reg.IKP_STATUS_UP p = 0 ∧
      u.rd Reg.IKP_RETRY_COUNT p = s.rd Reg.IKP_RETRY_COUNT p ∧ u.eventSet Ev.IK_LINK_CHANGE = true ∧ EventsKept s u ∧
      OnlyChanges [.regs, .nt, .ik, .out] s u))

/-- R537, R539, R540, R541. The leader's timers and what comes of its TIME, PING, TRIGGER, RUN and HALT on a follower;
STATE of the leader that differs in the run halts; IK_CMD.CLEAR; and a message on a port that is down is lost. -/
def Obligations.CascadeMessages : Prop :=
  (∀ (s : State), s.alive = true →
    (s.cascaded = false → Completes .ikTimeSend s fun u => u = s) ∧
    (s.rd Reg.IK_STATUS_STATE = 4 → s.chained = true → s.leads = true → Completes .ikTimeSend s fun u =>
      u = (((s.sentOn 0 0x02 (leBytes 8 s.tb.ns)).sentOn 1 0x02 (leBytes 8 s.tb.ns)).sentOn 0 0x05 s.statePayload).sentOn 1
        0x05 s.statePayload) ∧
    (s.rd Reg.IK_STATUS_STATE = 4 → s.chained = true → s.leads = false → Completes .ikTimeSend s fun u =>
      u = s.sentOn (if s.rd Reg.IK_STATUS_LEADER_POS < s.rd Reg.IK_STATUS_POS then 0 else 1) 0x05 s.statePayload) ∧
    (s.cascaded = true → s.leads = true → Completes .ikPingSend s fun u =>
      u = (s.sentOn 0 0x03 (leBytes 8 s.tb.ns)).sentOn 1 0x03 (leBytes 8 s.tb.ns)) ∧
    (s.cascaded = false ∨ s.leads = false → Completes .ikPingSend s fun u => u = s)) ∧
  (∀ (s : State) (port : Fin 2) (time : BitVec 64), s.alive = true → s.on Reg.IKP_STATUS_UP port = true →
    s.leads = false → s.chained = true → s.rd Reg.IK_STATUS_STATE = 4 → ∀ tol, tol = s.rd Reg.IK_CTL_TB_TOL →
    ∀ off : Int, off = (time.toNat : Int) + s.ik.latency - s.tb.ns →
    (off.natAbs ≤ tol → s.ik.slowing = false → Completes (.ikTime port time) s fun u =>
      u.rd Reg.IK_TB_OFFSET_NS = (off % 2 ^ 32).toNat ∧ u.rdS Reg.TB_RATE_PPB = max (-200000) (min 200000 (off * 4000)) ∧
      u.tb = s.tb ∧ u.ik.within = some (s.ik.within.getD s.tb.ns) ∧
      u.rd Reg.IK_TB_RESYNCS_COUNT = s.rd Reg.IK_TB_RESYNCS_COUNT ∧ OnlyChanges [.regs, .ik, .out] s u) ∧
    ((tol : Int) < off → Completes (.ikTime port time) s fun u =>
      u.rd Reg.IK_TB_OFFSET_NS = (off % 2 ^ 32).toNat ∧ u.tb = { s.tb with ns := (time.toNat + s.ik.latency) % 2 ^ 64 } ∧
      u.ik.within = none ∧ u.ik.slowing = false ∧ u.rd Reg.TB_RATE_PPB = s.rd Reg.TB_RATE_PPB ∧
      u.rd Reg.IK_TB_RESYNCS_COUNT = (s.rd Reg.IK_TB_RESYNCS_COUNT + 1) % 2 ^ 32 ∧ u.eventSet Ev.IK_TB_RESYNC = true ∧
      EventsKept s u ∧ OnlyChanges [.regs, .nt, .ik, .tb, .out] s u) ∧
    (off < -(tol : Int) → s.ik.slowing = false → Completes (.ikTime port time) s fun u =>
      u.rdS Reg.TB_RATE_PPB = -200000 ∧ u.tb = s.tb ∧ u.ik.slowing = true ∧ u.ik.within = none ∧
      u.rd Reg.IK_TB_RESYNCS_COUNT = (s.rd Reg.IK_TB_RESYNCS_COUNT + 1) % 2 ^ 32 ∧ u.eventSet Ev.IK_TB_RESYNC = true ∧
      EventsKept s u ∧ OnlyChanges [.regs, .nt, .ik, .out] s u) ∧
    (2 < off.natAbs → off < 0 → s.ik.slowing = true → Completes (.ikTime port time) s fun u =>
      u.rd Reg.TB_RATE_PPB = s.rd Reg.TB_RATE_PPB ∧ u.tb = s.tb ∧ u.ik.slowing = true ∧
      u.rd Reg.IK_TB_RESYNCS_COUNT = s.rd Reg.IK_TB_RESYNCS_COUNT ∧ OnlyChanges [.regs, .ik, .out] s u) ∧
    Completes (.ikTime port time) s fun u =>
      s.on Reg.IKP_STATUS_UP (1 - port.val) = true → .ikito (1 - port.val) 0x02 (leBytes 8 time.toNat) ∈ u.out) ∧
  (∀ (s : State) (port : Fin 2) (pos : Fin 4) (t0 rx tx : BitVec 64) (l : BitVec 16), s.alive = true →
    s.on Reg.IKP_STATUS_UP port = true → ∀ mine, mine = s.rd Reg.IK_STATUS_POS → ∀ a, a = t0.toNat → ∀ b, b = rx.toNat →
    ∀ c, c = tx.toNat →
    (s.leads = true → ∀ lat, lat = ((s.tb.ns - a) - (c - b)) / 2 → Completes (.ikPing port pos t0 rx tx l) s fun u =>
      sget u.ik.latencies pos = lat ∧
      u.rd Reg.IKP_STATUS_LAT_NS port =
        (if pos.val + 1 = mine ∨ mine + 1 = pos.val then lat % 2 ^ 16 else s.rd Reg.IKP_STATUS_LAT_NS port) ∧
      OnlyChanges [.regs, .ik] s u) ∧
    (s.leads = false → pos.val = mine → Completes (.ikPing port pos t0 rx tx l) s fun u =>
      u.ik.latency = l.toNat ∧ u.out.head? = some (.ikito port 0x03 (leBytes 8 a ++ leBytes 8 s.tb.ns ++ leBytes 8 s.tb.ns)) ∧
      OnlyChanges [.regs, .ik, .out] s u) ∧
    (s.leads = false → pos.val ≠ mine → Completes (.ikPing port pos t0 rx tx l) s fun u =>
      u = (s.heard port).sentOn (1 - port.val) 0x03 (leBytes 8 a ++ leBytes 8 b ++ leBytes 8 c))) ∧
  (∀ (s : State) (port : Fin 2) (y : BitVec 48) (t : BitVec 64) (d : BitVec 16), s.alive = true →
    s.on Reg.IKP_STATUS_UP port = true → ∀ m, m = leBytes 6 y.toNat ++ leBytes 8 t.toNat ++ leBytes 2 d.toNat →
    (s.leads = true → Completes (.ikTrigger port y t d) s fun u => u = s.heard port) ∧
    (s.leads = false → s.rd Reg.IK_STATUS_STATE ≠ 4 → Completes (.ikTrigger port y t d) s fun u =>
      u = (s.heard port).sentOn (1 - port.val) 0x04 m) ∧
    (s.leads = false → s.rd Reg.IK_STATUS_STATE = 4 → s.ik.order = none → Completes (.ikTrigger port y t d) s fun u =>
      u.lt.line = y.toNat + 1 ∧ u.rd Reg.LT_LINE_LO_VALUE = y.toNat % 2 ^ 32 ∧ u.rd Reg.LT_TIME_LO_VALUE = t.toNat % 2 ^ 32 ∧
      (u.line y.toNat).time = t.toNat ∧ u.ik.starts = s.ik.starts ++ [(y.toNat, t.toNat, t.toNat + d.toNat)] ∧
      (s.on Reg.IKP_STATUS_UP (1 - port.val) = true → .ikito (1 - port.val) 0x04 m ∈ u.out) ∧ u.onyx = s.onyx ∧ u.tb = s.tb)) ∧
  (∀ (s : State) (port : Fin 2) (y : BitVec 48) (t : BitVec 64), s.alive = true → s.on Reg.IKP_STATUS_UP port = true →
    s.leads = false → ∀ st, st = s.rd Reg.IK_STATUS_STATE →
    (st ≠ 3 → Completes (.ikRun port true y t) s fun u =>
      u = (s.heard port).sentOn (1 - port.val) 0x06 (1 :: leBytes 6 y.toNat ++ leBytes 8 t.toNat)) ∧
    (st = 3 → s.tb.ns < t.toNat → Completes (.ikRun port true y t) s fun u =>
      u.ik.order = some (true, y.toNat, t.toNat) ∧ u.rd Reg.DEV_RUN_STATUS_STARTING = 1 ∧ u.rd Reg.IK_STATUS_STATE = 3 ∧
      u.running = s.running ∧ OnlyChanges [.regs, .ik, .out] s u) ∧
    (st = 3 → t.toNat ≤ s.tb.ns → s.cast.aborting = false → Completes (.ikRun port true y t) s fun u =>
      u.rd Reg.IK_STATUS_STATE = 4 ∧ u.running = true ∧ u.rd Reg.DEV_RUN_STATUS_STARTING = 0 ∧
      u.eventSet Ev.IK_STATE_CHANGE = true ∧ EventsKept s u) ∧
    (st = 4 → s.lt.line < y.toNat → Completes (.ikRun port false y t) s fun u =>
      u = { (s.heard port).sentOn (1 - port.val) 0x06 (0 :: leBytes 6 y.toNat ++ leBytes 8 t.toNat) with
              ik := { (s.heard port).ik with order := some (false, y.toNat, t.toNat) } }) ∧
    (st = 4 → y.toNat ≤ s.lt.line → Completes (.ikRun port false y t) s fun u =>
      u.rd Reg.IK_STATUS_STATE = 3 ∧ u.running = false ∧ u.ik.order = none ∧ u.eventSet Ev.IK_STATE_CHANGE = true ∧
      EventsKept s u) ∧
    (st ≠ 4 → Completes (.ikRun port false y t) s fun u =>
      u.ik.order = none ∧ u.rd Reg.DEV_RUN_STATUS_STARTING = 0 ∧ u.rd Reg.IK_STATUS_STATE = st ∧
      OnlyChanges [.regs, .ik, .out] s u)) ∧
  (∀ (s : State) (port : Fin 2) (cause : BitVec 8) (y : BitVec 48), s.alive = true → s.on Reg.IKP_STATUS_UP port = true →
    (s.rd Reg.IK_STATUS_STATE = 4 → Completes (.ikHalt port cause y) s fun u =>
      u.rd Reg.IK_STATUS_STATE = 5 ∧ u.rd Reg.IK_HALT_CAUSE_CAUSE = 2 ∧ u.running = false ∧
      u.eventSet Ev.IK_HALTED = true ∧ EventsKept s u) ∧
    (s.rd Reg.IK_STATUS_STATE ≠ 4 → Completes (.ikHalt port cause y) s fun u =>
      u = (s.heard port).sentOn (1 - port.val) 0x20 (cause.toNat :: leBytes 6 y.toNat))) ∧
  (∀ (s : State) (port : Fin 2) (pos : Fin 4) (run : Bool) (digest : List Nat) (gen : Word) (keep : BitVec 16) (pause : Bool),
    s.alive = true → s.on Reg.IKP_STATUS_UP port = true → s.chained = true → s.rd Reg.IK_STATUS_STATE = 4 →
    ∀ ofLeader : Bool, ofLeader = (!s.leads && pos.val == s.rd Reg.IK_STATUS_LEADER_POS) →
    (s.leads = true ∨ ofLeader = true → run = false → Completes (.ikState port pos run digest gen keep pause) s fun u =>
      u.rd Reg.IK_STATUS_STATE = 5 ∧ u.rd Reg.IK_HALT_CAUSE_CAUSE = 3 ∧ u.running = false ∧
      u.eventSet Ev.IK_HALTED = true ∧ EventsKept s u) ∧
    (run = true ∨ (s.leads = false ∧ ofLeader = false) → Completes (.ikState port pos run digest gen keep pause) s fun u =>
      u.rd Reg.IK_STATUS_STATE = 4 ∧ u.running = s.running ∧ u.ik.leaderDigest = (if ofLeader then digest else s.ik.leaderDigest) ∧
      (∀ e, e = (tget {} u.ik.chain pos : IkDevice) → e.digest = digest ∧ e.run = run ∧ e.gen = gen.toNat ∧
        e.keep = keep.toNat ∧ e.pause = pause) ∧ OnlyChanges [.regs, .ik, .out] s u)) ∧
  (∀ (s : State) (v : Word), s.alive = true →
    ∀ deaf : Bool, deaf = !s.on Reg.IKP_STATUS_UP (if s.rd Reg.IK_STATUS_LEADER_POS < s.rd Reg.IK_STATUS_POS then 0 else 1) →
    (v.toNat % 2 = 1 → s.rd Reg.IK_STATUS_STATE = 5 → s.leads = true ∨ deaf = true → s.running = false →
      Completes (.ikClear v) s fun u =>
        u.rd Reg.IK_STATUS_STATE = 1 ∧ u.rd Reg.IK_STATUS_REASON = 0 ∧ u.ik.chain = [] ∧ u.ik.order = none ∧
        u.ik.delaySet = false ∧ u.eventSet Ev.IK_STATE_CHANGE = true ∧ EventsKept s u ∧ OnlyChanges [.regs, .nt, .ik, .out] s u) ∧
    (v.toNat % 2 = 0 ∨ s.rd Reg.IK_STATUS_STATE ≠ 5 ∨ (s.leads = false ∧ deaf = false) → Completes (.ikClear v) s fun u => u = s)) ∧
  (∀ (s : State) (port : Fin 2) (pos : Fin 4) (time : BitVec 64) (y : BitVec 48) (keep : BitVec 16), s.alive = true →
    s.on Reg.IKP_STATUS_UP port = false →
    Completes (.ikTime port time) s (fun u => u = s) ∧ Completes (.ikPing port pos time time time keep) s (fun u => u = s) ∧
    Completes (.ikTrigger port y time keep) s (fun u => u = s) ∧ Completes (.ikRun port true y time) s (fun u => u = s) ∧
    Completes (.ikHalt port 1 y) s (fun u => u = s) ∧ Completes (.ikThin port keep y) s (fun u => u = s))

/-- R536, R537, R541, R542, R544, R545. Work that the cascade carries: an enumerated neighbour and what it gives, THIN,
COMMIT with its reports, its line and its refusal, the joint, the boundary columns, fragments, parts of blobs and of
items. -/
def Obligations.CascadeWork : Prop :=
  (∀ (s : State) (port : Fin 2) (lead : Bool) (sender mine count : Fin 8) (offer : BitVec 8) (w : BitVec 32) (o src : BitVec 8),
    s.alive = true → s.on Reg.IKP_STATUS_UP port = true → s.chained = true → mine.val < 4 → count.val < 8 → sender.val < 4 →
    s.rd Reg.IK_STATUS_STATE = 1 ∨ s.rd Reg.IK_STATUS_STATE = 4 →
    Completes (.ikEnum port lead sender mine count offer w o src) s fun u =>
      u.rd Reg.IK_STATUS_POS = mine.val ∧ u.rd Reg.IK_STATUS_NDEV = count.val ∧
      (lead = true → u.rd Reg.IK_STATUS_LEADER_POS = sender.val) ∧
      (lead = false → s.leads = true → u.rd Reg.IK_STATUS_LEADER_POS = mine.val) ∧
      (sender.val + 1 = mine.val ∨ mine.val + 1 = sender.val → u.rd Reg.IKP_STATUS_PEER_POS port = sender.val) ∧
      (∀ e, e = (tget {} u.ik.chain sender : IkDevice) → e.offer = offer.toNat ∧ e.width = w.toNat ∧ e.overlap = o.toNat ∧
        e.src = src.toNat ∧ e.lead = lead) ∧
      (mine.val = 0 → u.rd Reg.IK_XBASE_X = 0 ∧ u.rd Reg.IK_XSTART_X = 0) ∧
      (mine.val = 1 → sender.val = 0 → u.rd Reg.IK_XBASE_X = (w.toNat - o.toNat) % 2 ^ 20 ∧
        u.rd Reg.IK_XSTART_X = (w.toNat - o.toNat + o.toNat) % 2 ^ 20) ∧
      (lead = true → s.leads = false →
        .ikito port 0x01 ([s.rd Reg.IK_VERSIONS_OFFER, mine.val] ++ leBytes 4 s.outWidth ++
          [s.segOverlap 95, s.rd Reg.LT_CTL_SRC]) ∈ u.out) ∧ u.running = s.running ∧ OnlyChanges [.regs, .nt, .ik, .out] s u) ∧
  (∀ (s : State) (port : Fin 2) (keep : BitVec 16) (y : BitVec 48), s.alive = true → s.on Reg.IKP_STATUS_UP port = true →
    (s.leads = true → Completes (.ikThin port keep y) s fun u => u = s.heard port) ∧
    (s.leads = false → Completes (.ikThin port keep y) s fun u =>
      u = { (s.heard port).sentOn (1 - port.val) 0x07 (leBytes 2 keep.toNat ++ leBytes 6 y.toNat) with
              thin := { s.thin with
                cascade := (s.thin.cascade.filter fun e => e.2 != y.toNat) ++ [(keep.toNat, y.toNat)] } })) ∧
  (∀ (s : State) (port : Fin 2) (pos : Fin 4) (digest : List Nat) (y : BitVec 48), s.alive = true →
    s.on Reg.IKP_STATUS_UP port = true →
    (s.leads = false → Completes (.ikCommit port pos digest none) s fun u =>
      u = (s.heard port).sentOn (1 - port.val) 0x08 digest) ∧
    (s.leads = true → s.ik.reports = [] → 1 < s.rd Reg.IK_STATUS_NDEV → Completes (.ikCommit port pos digest none) s fun u =>
      u = { s with ik := { (s.heard port).ik with since := s.tb.ns, reports := [(pos.val, digest)] } }) ∧
    (s.leads = true → ∀ q other, s.ik.reports = [(q, other)] → q < pos.val → digest ≠ other →
      Completes (.ikCommit port pos digest none) s fun u =>
        u.ik.commit = none ∧ u.ik.reports = [] ∧ u.eventSet Ev.IK_COMMIT_REFUSED = true ∧ EventsKept s u ∧
        .ikito port 0x08 (other ++ [1]) ∈ u.out ∧ OnlyChanges [.nt, .ik, .out] s u) ∧
    (s.leads = true → ∀ q, s.ik.reports = [(q, digest)] → q < pos.val → s.rd Reg.IK_STATUS_NDEV = 2 →
      Completes (.ikCommit port pos digest none) s fun u => ∀ k, k = s.lt.line + 64 →
        u.ik.reports = [] ∧ u.rd Reg.IK_COMMIT_LINE_LO_VALUE = k % 2 ^ 32 ∧
        (u.ik.commit.map fun c => (c.fields, c.line)) = (s.ik.commit.map fun c => (c.fields, some k)) ∧
        .ikito port 0x08 (digest ++ leBytes 6 k) ∈ u.out) ∧
    (s.leads = true → Completes (.ikCommit port pos digest (some none)) s (fun u => u = s.heard port) ∧
      Completes (.ikCommit port pos digest (some (some y))) s (fun u => u = s.heard port)) ∧
    (s.leads = false → Completes (.ikCommit port pos digest (some none)) s fun u =>
      u.ik.commit = none ∧ u.ik.reports = [] ∧ u.eventSet Ev.IK_COMMIT_REFUSED = true ∧ EventsKept s u ∧
      OnlyChanges [.nt, .ik, .out] s u) ∧
    (s.leads = false → Completes (.ikCommit port pos digest (some (some y))) s fun u =>
      u.rd Reg.IK_COMMIT_LINE_LO_VALUE = y.toNat % 2 ^ 32 ∧ u.rd Reg.IK_COMMIT_LINE_HI_VALUE = y.toNat / 2 ^ 32 ∧
      (u.ik.commit.map fun c => (c.fields, c.line)) = (s.ik.commit.map fun c => (c.fields, some y.toNat)) ∧
      u.running = s.running)) ∧
  (∀ (s : State), s.alive = true →
    (s.ik.reports = [] ∨ s.leads = false → Completes .ikCommitTimeout s fun u => u = s) ∧
    (s.ik.reports ≠ [] → s.leads = true → Completes .ikCommitTimeout s fun u =>
      u.ik = { s.ik with commit := none, reports := [] } ∧ u.eventSet Ev.IK_COMMIT_REFUSED = true ∧ EventsKept s u ∧
      OnlyChanges [.nt, .ik, .out] s u)) ∧
  (∀ (s : State) (y : BitVec 48) (o : Fin 65) (px : List (List Nat × Nat)), s.alive = true →
    s.on Reg.IKP_STATUS_UP 1 = true →
    (y.toNat < (s.lane 11).next → Completes (.ikJoint y o px) s fun u => u = s.heard 1) ∧
    ((s.lane 11).next ≤ y.toNat → Completes (.ikJoint y o px) s fun u =>
      u = { s.heard 1 with joints := tput y.toNat { overlap := o.val, pixels := px } s.joints })) ∧
  (∀ (s : State) (port : Fin 2) (y : BitVec 48) (cols : List (Bool × Bool)) (runs : List (Nat × Nat × Nat × Nat × Nat)),
    s.alive = true → s.on Reg.IKP_STATUS_UP port = true →
    Completes (.ikDefect port y cols) s (fun u =>
      u = { s.heard port with comp := { s.comp with edges := tput (2 * y.toNat + port.val) cols s.comp.edges } }) ∧
    (s.comp.next ≤ y.toNat → Completes (.ikFragment port y runs) s fun u =>
      ∀ l : List FragRun, l = runs.map (fun r => ⟨r.1, r.2.1, r.2.2.1, r.2.2.2.1, r.2.2.2.2⟩) →
        u = { s.heard port with comp := { s.comp with fragRuns := tput (2 * y.toNat + port.val) l s.comp.fragRuns } })) ∧
  (∀ (s : State) (port : Fin 2) (v : List Nat), s.alive = true → s.on Reg.IKP_STATUS_UP port = true →
    ∀ b rest, s.comp.blobs = b :: rest → rest = [] → b.ghost = false →
    (b.remotes.any fun q => q.side == port.val && q.id == v.getD 0 0) = true →
    (b.remotes.any fun q => !q.done && !(q.side == port.val && q.id == v.getD 0 0)) = true →
    Completes (.ikBlobPart port v) s fun u =>
      (u.comp.blobs.map fun x => (x.area, x.sumDist, x.chain)) = [(b.area + v.getD 1 0,
        if v.getD 1 0 = 0 then b.sumDist else b.sumDist + v.getD 2 0, b.chain)] ∧
      (∀ x ∈ u.comp.blobs, ∀ q ∈ x.remotes, q.side = port.val → q.id = v.getD 0 0 → q.done = true)) ∧
  (∀ (s : State) (p : List Nat), s.alive = true → s.on Reg.IKP_STATUS_UP 1 = true → s.westNeighbour = false →
    (s.comp.items.any (fun e => e.2.id == p.getD 0 0) = false → Completes (.ikItemPart p) s fun u =>
      u = { s.heard 1 with comp := { s.comp with itemParts := s.comp.itemParts ++ [p] } }) ∧
    (s.comp.items.any (fun e => e.2.id == p.getD 0 0) = true → Completes (.ikItemPart p) s fun u =>
      ∀ e ∈ s.comp.items.zip u.comp.items, e.1.1 = e.2.1 ∧
        (e.1.2.id ≠ p.getD 0 0 → e.2 = e.1) ∧
        (e.1.2.id = p.getD 0 0 → e.2.2.compared = e.1.2.compared + p.getD 1 0 ∧
          e.2.2.uninsp = e.1.2.uninsp + p.getD 2 0 ∧ e.2.2.parts = e.1.2.parts + 1 ∧
          e.2.2.worstArea = max e.1.2.worstArea (p.getD 6 0) ∧ e.2.2.worstPeak = max e.1.2.worstPeak (p.getD 7 0)))) ∧
  (∀ (s : State) (port : Fin 2) (y : BitVec 48) (digest : List Nat), s.alive = true → s.on Reg.IKP_STATUS_UP port = false →
    Completes (.ikCommit port 0 digest none) s (fun u => u = s) ∧ Completes (.ikDefect port y []) s (fun u => u = s) ∧
    Completes (.ikFragment port y []) s (fun u => u = s) ∧ Completes (.ikBlobPart port digest) s (fun u => u = s) ∧
    Completes (.ikState port 0 true digest 0 0 false) s (fun u => u = s) ∧
    Completes (.ikEnum port true 0 1 2 1 0 0 0) s (fun u => u = s) ∧
    (port = 1 → Completes (.ikItemPart digest) s (fun u => u = s) ∧ Completes (.ikJoint y 0 []) s (fun u => u = s)))

/-- Group `g` stands open for tenant `t`: it may request its commit, and none is accepted or held (R556). -/
def Sys2Proof.Machine.State.openFor (s : State) (t g : Nat) : Prop :=
  (t = 0 ∨ t = s.rd Reg.GROUP_OWNER 0 g) ∧ s.groupBusy g = false ∧ (s.ik.commit = none ∨ s.groupListed g = false)

/-- The accepted commit that waits for `groups` at line `y` with the shadows that differ, and nothing else (R555). -/
def Sys2Proof.Machine.State.asks (s : State) (groups : List Nat) (y : Nat) : PendingCommit :=
  { groups := groups, line := y, fields := s.capturedFields groups }

/-- R555, R556, R557, R558, R559, R562. PAGE_COMMIT moves a page and requests a commit, COMMIT_MULTI requests several: refused
with a reason, waiting for its line in a run, in force at once without one; a commit takes effect at its line. -/
def Obligations.Commits : Prop :=
  (∀ (s : State) (agent : Agent) (p : Fin 8192) (v : Word), s.alive = true → v.toNat.testBit 8 = false →
    ∀ g, g = v.toNat % 16 → ∀ was, was = s.rd Reg.PAGE_COMMIT_GROUP p →
    (actsAs agent ≠ 0 → Completes (.commitRequest agent p v) s fun u => u = s) ∧
    (actsAs agent = 0 → g ≠ was → s.groupBusy g = false → s.groupBusy was = false →
      Completes (.commitRequest agent p v) s fun u =>
        u.rd Reg.PAGE_COMMIT_GROUP p = g ∧
        (∀ q, q < 8192 → q ≠ p.val → u.rd Reg.PAGE_COMMIT_GROUP q = s.rd Reg.PAGE_COMMIT_GROUP q) ∧
        OnlyChanges [.regs] s u) ∧
    (actsAs agent = 0 → g ≠ was → s.groupBusy g = true ∨ s.groupBusy was = true →
      Completes (.commitRequest agent p v) s fun u =>
        u = { s with commits := { s.commits with moves := tput p.val (g + 1) s.commits.moves } })) ∧
  (∀ (s : State) (agent : Agent) (p : Fin 8192) (v : Word), s.alive = true → v.toNat.testBit 8 = true →
    ∀ t, t = actsAs agent → ∀ g, g = s.rd Reg.PAGE_COMMIT_GROUP p → (t = 0 → v.toNat % 16 = g) →
    (∀ r : Nat, ((t ≠ 0 ∧ t ≠ s.rd Reg.GROUP_OWNER 0 g) ∧ r = 1) ∨
        ((t = 0 ∨ t = s.rd Reg.GROUP_OWNER 0 g) ∧ s.groupBusy g = true ∧ r = 2) ∨
        ((t = 0 ∨ t = s.rd Reg.GROUP_OWNER 0 g) ∧ s.groupBusy g = false ∧ s.ik.commit ≠ none ∧ s.groupListed g = true ∧ r = 3) →
      Completes (.commitRequest agent p v) s fun u =>
        u.rd Reg.COMMIT_LAST_REASON = r ∧ u.rd Reg.COMMIT_LAST_GROUP = g ∧ u.rd Reg.COMMIT_LAST_TENANT = t ∧
        u.eventSet Ev.CMT_COMMIT_REFUSED = true ∧ EventsKept s u ∧ u.commits.waiting = s.commits.waiting ∧
        OnlyChanges [.regs, .nt, .out, .commits] s u) ∧
    (s.openFor t g → s.running = true → s.cascadeRun = false → s.capturing = false →
      Completes (.commitRequest agent p v) s fun u =>
        u.commits.waiting = s.commits.waiting ++ [s.asks [g] (s.lt.line + 64)] ∧
        u.rd Reg.GROUP_BUSY 0 g = 1 ∧ u.rd Reg.GROUP_LINE_LO 0 g = (s.lt.line + 64) % 2 ^ 32 ∧
        u.rd Reg.GROUP_GEN 0 g = (s.rd Reg.DEV_GEN_GEN + s.commits.waiting.length + 1) % 2 ^ 32 ∧
        u.eventSet Ev.CMT_COMMIT_ACCEPTED = true ∧ EventsKept s u ∧ u.rd Reg.DEV_GEN_GEN = s.rd Reg.DEV_GEN_GEN ∧
        OnlyChanges [.regs, .nt, .out, .commits, .opal, .groups, .ref] s u) ∧
    (s.openFor t g → s.running = false → s.cascadeRun = false → s.capturing = false → s.commits = {} → s.ik.commit = none →
      (∀ f ∈ s.capturedFields [g], f.1 / 131072 = 0x1A1) →
      Completes (.commitRequest agent p v) s fun u =>
        (∀ f ∈ s.capturedFields [g], tfind f.1 u.force = f.2) ∧ u.commits.waiting = [] ∧ u.shadow = s.shadow ∧
        u.rd Reg.DEV_GEN_GEN = (s.rd Reg.DEV_GEN_GEN + 1) % 2 ^ 32 ∧ u.rd Reg.GROUP_LINE_LO 0 g = 0 ∧
        u.rd Reg.GROUP_LINE_HI 0 g = 0 ∧ u.rd Reg.GROUP_BUSY 0 g = 0 ∧ u.rd Reg.GROUP_GEN 0 g = u.rd Reg.DEV_GEN_GEN ∧
        (s.capturedFields [g] ≠ [] → u.rd Reg.PAGE_GEN 0x1A1 = u.rd Reg.DEV_GEN_GEN) ∧
        u.eventSet Ev.CMT_COMMIT_ACCEPTED = true ∧ u.eventSet Ev.CMT_COMMIT_DONE = true ∧ EventsKept s u)) ∧
  (∀ (s : State) (v : Word), s.alive = true →
    (v.toNat % 2 ^ 16 = 0 → Completes (.commitMulti v) s fun u => u = s) ∧
    (∀ g, g = 5 → v.toNat % 2 ^ 6 = 2 ^ 5 → s.groupBusy 5 = true → Completes (.commitMulti v) s fun u =>
      u.rd Reg.COMMIT_LAST_REASON = 2 ∧ u.rd Reg.COMMIT_LAST_GROUP = g ∧ u.rd Reg.COMMIT_LAST_TENANT = 0 ∧
      u.eventSet Ev.CMT_COMMIT_REFUSED = true ∧ EventsKept s u ∧ OnlyChanges [.regs, .nt, .out] s u) ∧
    (∀ groups, groups = (List.range 16).filter v.toNat.testBit → groups ≠ [] → (∀ g ∈ groups, s.openFor 0 g) →
      s.running = true → s.cascadeRun = false → s.capturing = false → Completes (.commitMulti v) s fun u =>
        u.commits.waiting = s.commits.waiting ++ [s.asks groups (s.lt.line + 64)] ∧
        (∀ g ∈ groups, u.rd Reg.GROUP_BUSY 0 g = 1 ∧ u.rd Reg.GROUP_LINE_LO 0 g = (s.lt.line + 64) % 2 ^ 32) ∧
        u.eventSet Ev.CMT_COMMIT_ACCEPTED = true ∧ EventsKept s u ∧
        OnlyChanges [.regs, .nt, .out, .commits, .opal, .groups, .ref] s u)) ∧
  (∀ (s : State), s.alive = true → s.ik.commit = none →
    (s.commits.waiting = [] ∨ (s.running = true ∧ ∀ c ∈ s.commits.waiting, s.lt.line < c.line) →
      Completes .commitEffect s fun u => u = s) ∧
    (∀ c l, s.commits.waiting = c :: l → s.running = true → c.line ≤ s.lt.line → (∀ e ∈ l, s.lt.line < e.line) →
      s.commits.moves = [] → (∀ f ∈ c.fields, f.1 / 131072 = 0x1A1) → (c.fields.map (·.1)).Nodup →
      Completes .commitEffect s fun u =>
        (∀ f ∈ c.fields, tfind f.1 u.force = f.2) ∧ u.commits.waiting = l ∧ u.shadow = s.shadow ∧
        u.rd Reg.DEV_GEN_GEN = (s.rd Reg.DEV_GEN_GEN + 1) % 2 ^ 32 ∧ (∀ g ∈ c.groups, g < 16 → u.rd Reg.GROUP_BUSY 0 g = 0) ∧
        (u.epochs.head?.map fun e => (e.line, e.force, e.gen)) = some (c.line, s.force, s.rd Reg.DEV_GEN_GEN) ∧
        u.eventSet Ev.CMT_COMMIT_DONE = true ∧ EventsKept s u ∧ u.running = true))

/-- R550, R551, R552, R553. Discarding the shadows of a page, clearing its event bits, and the entries of the grant table:
outside the table, refused, and in force. -/
def Obligations.PagesAndGrants : Prop :=
  (∀ (s : State) (p : Fin 8192) (v : Word), s.alive = true →
    (v.toNat % 2 = 0 → Completes (.pageDiscard p v) s fun u => u = s) ∧
    (v.toNat % 2 = 1 → Table.rising 0 s.shadow = true → Completes (.pageDiscard p v) s fun u =>
      (∀ k, k / 131072 = p.val → tfind k u.shadow = tfind k s.force) ∧
      (∀ k, k / 131072 ≠ p.val → tfind k u.shadow = tfind k s.shadow) ∧ OnlyChanges [.shadow] s u) ∧
    Completes (.pageEventClear p v) s fun u =>
      (∀ b, b < 32 → (sget u.nt.events p.val).testBit b =
        ((sget s.nt.events p.val).testBit b && !v.toNat.testBit b)) ∧
      (∀ q, q ≠ p.val → sget u.nt.events q = sget s.nt.events q) ∧ OnlyChanges [.nt, .out] s u) ∧
  (∀ (s : State) (t : Tenant) (slot : Fin 256) (v : Word), s.alive = true →
    (t.val = 0 ∨ slot.val < 96 → Completes (.grantWrite t slot v) s fun u => u = s) ∧
    (t.val ≠ 0 → 96 ≤ slot.val → ∀ p, p = v.toNat % 8192 → ∀ k, k = (t.val - 1) / 6 → ∀ i, i = (t.val - 1) % 6 →
      ∀ j, j = slot.val - 96 → ∀ ro, ro = v.toNat / 2 ^ 30 % 2 →
      (v.toNat / 2 ^ 31 = 1 → s.grantRefused t slot p = true → Completes (.grantWrite t slot v) s fun u =>
        u.rd Reg.GRANT_VALID k i j = 0 ∧ u.rd Reg.GRANT_PAGE k i j = p ∧ u.rd Reg.GRANT_RD_ONLY k i j = ro ∧
        u.rd Reg.GRANT_LAST_TENANT = t.val ∧ u.rd Reg.GRANT_LAST_SLOT = slot.val ∧ u.rd Reg.GRANT_LAST_PAGE = p ∧
        u.eventSet Ev.GRANT_GRANT_REFUSED = true) ∧
      (v.toNat / 2 ^ 31 = 0 ∨ s.grantRefused t slot p = false → Completes (.grantWrite t slot v) s fun u =>
        u.rd Reg.GRANT_VALID k i j = v.toNat / 2 ^ 31 ∧ u.rd Reg.GRANT_PAGE k i j = p ∧
        u.rd Reg.GRANT_RD_ONLY k i j = ro ∧ u.rd Reg.GRANT_LAST_TENANT = s.rd Reg.GRANT_LAST_TENANT ∧
        (∀ (q : Tenant) (r : Fin 256), q.val ≠ 0 → 96 ≤ r.val → (q.val, r.val) ≠ (t.val, slot.val) →
          u.rd Reg.GRANT_VALID ((q.val - 1) / 6) ((q.val - 1) % 6) (r.val - 96) =
            s.rd Reg.GRANT_VALID ((q.val - 1) / 6) ((q.val - 1) % 6) (r.val - 96)) ∧ EventsKept s u))) ∧
  (∀ (s : State) (t p : Nat), (pageRow p).any (fun r => r.never || r.lease) = true ∨ (∃ q, pageOwner p = some q ∧ q ≠ t) →
    ∀ slot, s.grantRefused t slot p = true)

/-- No commit is accepted or held, so that nothing takes effect beside what a command does itself. -/
def Sys2Proof.Machine.State.uncommitted (s : State) : Prop := s.commits = {} ∧ s.ik.commit = none

/-- No ground of R561 to refuse a run start stands, but for one that is on its way already. -/
def Sys2Proof.Machine.State.mayRun (s : State) : Prop :=
  s.running = false ∧ s.on Reg.BANK_CAL_BUSY = false ∧ s.domain 2 = 2 ∧ s.domain 3 = 2 ∧ s.cascaded = false

/-- The run has begun in `u`, which was `s` before (R82, R561): the counters of the run are 0, and the first boundary lies at
START, which is crossed at once if it is 0 and the source counts. -/
def Sys2Proof.Machine.State.begins (s u : State) : Prop :=
  u.running = true ∧ u.rd Reg.DEV_RUN_STATUS_ACTIVE = 1 ∧ u.rd Reg.DEV_RUN_STATUS_STARTING = 0 ∧
  u.rd Reg.DEV_RUNS_COUNT = (s.rd Reg.DEV_RUNS_COUNT + 1) % 2 ^ 32 ∧ u.eventSet Ev.DEV_RUN_STARTED = true ∧
  u.rd Reg.LT_DEFERRED_COUNT = 0 ∧ u.rd Reg.LT_SKIPPED_COUNT = 0 ∧ u.rd Reg.LT_MAXDEFER_NS = 0 ∧
  u.rd Reg.THIN_LINES_COUNT = 0 ∧ u.rd Reg.LT_LINE_LO_VALUE = 0 ∧ u.lines = [] ∧ u.lt.pos = 0 ∧
  u.lt.src = s.rd Reg.LT_CTL_SRC ∧
  (s.rd Reg.LT_START_COUNTS ≠ 0 ∨ 11 < s.rd Reg.LT_CTL_SRC →
    u.lt.line = 0 ∧ u.lt.owed = [] ∧ u.lt.next = (s.rd Reg.LT_START_COUNTS * 2 ^ 32 : Nat)) ∧
  (s.rd Reg.LT_START_COUNTS = 0 → s.rd Reg.LT_CTL_SRC ≤ 11 → u.lt.line = 1 ∧ u.lt.owed = [(0, s.tb.ns)] ∧
    u.lt.next = (max (s.rdPair Reg.LT_DIV_FRAC_VALUE Reg.LT_DIV_INT_VALUE) (2 ^ 32) : Nat)) ∧
  EventsKept s u ∧ u.tb = s.tb ∧ u.force = s.force

/-- R561, R82, R558. A run start is refused with the reason of the first ground that stands, waits while Castling aborts, or
begins the run with the line trigger at its start; a run stop. -/
def Obligations.Runs : Prop :=
  (∀ (s : State), s.alive = true → ∀ st, st = s.on Reg.DEV_RUN_STATUS_STARTING →
    ∀ r : Nat, ((s.running = true ∨ st = true) ∧ r = 1) ∨
      (s.running = false ∧ st = false ∧ s.on Reg.BANK_CAL_BUSY = true ∧ r = 2) ∨
      (s.running = false ∧ st = false ∧ s.on Reg.BANK_CAL_BUSY = false ∧ ¬(s.domain 2 = 2 ∧ s.domain 3 = 2) ∧ r = 3) ∨
      (s.running = false ∧ st = false ∧ s.on Reg.BANK_CAL_BUSY = false ∧ s.domain 2 = 2 ∧ s.domain 3 = 2 ∧
        s.cascaded = true ∧ s.leads = false ∧ r = 4) ∨
      (s.running = false ∧ st = false ∧ s.on Reg.BANK_CAL_BUSY = false ∧ s.domain 2 = 2 ∧ s.domain 3 = 2 ∧
        s.cascaded = true ∧ s.leads = true ∧ s.rd Reg.IK_STATUS_STATE ≠ 3 ∧ r = 5) →
    Completes .runStart s fun u => u.rd Reg.DEV_RUN_STATUS_REASON = r ∧ u.eventSet Ev.DEV_RUN_REFUSED = true ∧
      EventsKept s u ∧ u.running = s.running ∧ OnlyChanges [.regs, .nt, .out] s u) ∧
  (∀ (s : State), s.alive = true → s.mayRun →
    (s.on Reg.DEV_RUN_STATUS_STARTING = false → s.cast.aborting = true → Completes .runStart s fun u =>
      u.rd Reg.DEV_RUN_STATUS_STARTING = 1 ∧ u.running = false ∧ OnlyChanges [.regs] s u) ∧
    (s.on Reg.DEV_RUN_STATUS_STARTING = false ∨ s.cast.aborting = true → Completes .runStartDelayed s fun u => u = s) ∧
    (s.cast.aborting = false → s.uncommitted →
      (s.on Reg.DEV_RUN_STATUS_STARTING = false → Completes .runStart s fun u => s.begins u) ∧
      (s.on Reg.DEV_RUN_STATUS_STARTING = true → Completes .runStartDelayed s fun u => s.begins u))) ∧
  (∀ (s : State), s.alive = true → s.running = false → s.on Reg.DEV_RUN_STATUS_STARTING = true →
    s.cast.aborting = false → s.follows = false → s.on Reg.BANK_CAL_BUSY = true →
    Completes .runStartDelayed s fun u => u.rd Reg.DEV_RUN_STATUS_STARTING = 0 ∧ u.rd Reg.DEV_RUN_STATUS_REASON = 2 ∧
      u.running = false ∧ u.eventSet Ev.DEV_RUN_REFUSED = true ∧ EventsKept s u ∧ OnlyChanges [.regs, .nt, .out] s u) ∧
  (∀ (s : State), s.alive = true →
    (s.follows = true → Completes .runStop s fun u => u.rd Reg.DEV_RUN_STATUS_REASON = 4 ∧
      u.eventSet Ev.DEV_RUN_REFUSED = true ∧ EventsKept s u ∧ OnlyChanges [.regs, .nt, .out] s u) ∧
    (s.follows = false → s.running = false → Completes .runStop s fun u => u = s) ∧
    (s.cascaded = false → s.running = true → s.uncommitted → Completes .runStop s fun u =>
      u.running = false ∧ u.rd Reg.DEV_RUN_STATUS_ACTIVE = 0 ∧ u.eventSet Ev.DEV_RUN_STOPPED = true ∧ EventsKept s u ∧
      u.lt = { s.lt with owed := [], predict := none } ∧ u.rd Reg.DEV_RUNS_COUNT = s.rd Reg.DEV_RUNS_COUNT ∧ u.tb = s.tb))

/-- R53, R78, R79, R81, R82, R83, R85, R420, R438. A prediction and a count cross a boundary; a trigger gives its line a
number and time, and its start is sent, deferred, or without REFCLK lost with code 5. -/
def Obligations.LineTriggers : Prop :=
  (∀ (s : State), s.alive = true → ∀ raw, raw = s.rdPair Reg.LT_DIV_FRAC_VALUE Reg.LT_DIV_INT_VALUE →
    (s.lt.predict = none ∨ s.running = false → Completes .triggerPrediction s fun u => u = s) ∧
    (∀ t, s.lt.predict = some t → s.running = true → s.uncommitted → Completes .triggerPrediction s fun u =>
      u.lt = { s.lt with line := s.lt.line + 1, next := s.lt.next + (max raw (2 ^ 32) : Nat), div := max raw (2 ^ 32),
                         raw := some raw, owed := s.lt.owed ++ [(s.lt.line, t)], predict := none } ∧
      (s.lt.raw ≠ some raw → raw < 2 ^ 32 → u.eventSet Ev.LT_DIV_CLAMPED = true) ∧ EventsKept s u ∧
      OnlyChanges [.lt, .nt, .out] s u)) ∧
  (∀ (s : State) (n : Fin 4) (a' b' : Bool) (stoodA stoodB : Nat), ∀ x, x = s.encoder n →
    ∀ a, a = (if s.rd Reg.ENC_CTL_FILT n ≤ stoodA then a' else x.a) →
    ∀ b, b = (if s.rd Reg.ENC_CTL_FILT n ≤ stoodB then b' else x.b) →
    (s.alive = false → Completes (.encoderCount n ⟨a', stoodA⟩ ⟨b', stoodB⟩) s fun u =>
      u = s.putEncoder n { x with a := a', b := b' }) ∧
    (s.alive = true → s.on Reg.ENC_CTL_EN n = false ∨ (a = x.a ∧ b = x.b) →
      Completes (.encoderCount n ⟨a', stoodA⟩ ⟨b', stoodB⟩) s fun u => u = s.putEncoder n { x with a := a, b := b }) ∧
    (s.alive = true → s.on Reg.ENC_CTL_EN n = true → ¬(a = x.a ∧ b = x.b) →
      ∀ dec, dec = decodeSample (s.on Reg.ENC_CTL_MODE n) (s.on Reg.ENC_CTL_INVERT n) x a b →
      (dec = none → Completes (.encoderCount n ⟨a', stoodA⟩ ⟨b', stoodB⟩) s fun u =>
        u.rd Reg.ENC_COUNT_VALUE n = s.rd Reg.ENC_COUNT_VALUE n ∧
        u.rd Reg.ENC_ERR_VALUE n = (s.rd Reg.ENC_ERR_VALUE n + 1) % 2 ^ 32 ∧ u.eventSet Ev.ENC_QUAD_ERR n = true ∧
        u.encoder n = { x with a := a, b := b, lastEdge := some s.tb.ns } ∧ u.lt = s.lt ∧ EventsKept s u ∧
        OnlyChanges [.regs, .nt, .encoders, .out] s u) ∧
      (∀ d, dec = some d → d ≠ 0 →
        Completes (.encoderCount n ⟨a', stoodA⟩ ⟨b', stoodB⟩) s (fun u =>
          u.rd Reg.ENC_COUNT_VALUE n = ((s.rdS Reg.ENC_COUNT_VALUE n + d) % 2 ^ 32).toNat ∧ EventsKept s u ∧
          (u.encoder n).lastDir = d ∧ (u.encoder n).lastTime = s.tb.ns ∧ (u.encoder n).lastEdge = some s.tb.ns ∧
          (∀ e, x.lastEdge = some e → s.tb.ns < e + 40 → u.eventSet Ev.ENC_OVERRATE n = true) ∧
          (∀ m, m < 4 → m ≠ n.val → u.encoder m = s.encoder m)) ∧
        (s.follows? n = false → Completes (.encoderCount n ⟨a', stoodA⟩ ⟨b', stoodB⟩) s fun u => OnlyChanges [.regs, .nt, .encoders, .out] s u) ∧
        (s.follows? n = true → s.uncommitted → ∀ p, p = s.lt.pos + d * 2 ^ 32 →
          (p < s.lt.next → Completes (.encoderCount n ⟨a', stoodA⟩ ⟨b', stoodB⟩) s fun u =>
            u.lt = { s.lt with pos := p, predict := prediction (s.on Reg.LT_CTL_INTERP) d x.lastDir s.tb.ns x.lastTime s.lt.next p } ∧
            (d < 0 → p < s.lt.next - s.lt.div → u.eventSet Ev.LT_REVERSE = true)) ∧
          (s.lt.next ≤ p → Completes (.encoderCount n ⟨a', stoodA⟩ ⟨b', stoodB⟩) s fun u =>
            u.lt.line = s.lt.line + 1 ∧ u.lt.owed = s.lt.owed ++ [(s.lt.line, s.tb.ns)] ∧ u.lt.pos = p ∧
            u.lt.next = s.lt.next + u.lt.div ∧ 2 ^ 32 ≤ u.lt.div))))) ∧
  (∀ (s : State), s.alive = true →
    (s.lt.owed = [] → Completes .lineTrigger s fun u => u = s) ∧
    (∀ e l, s.lt.owed = e :: l → s.cascadeRun = false → ∀ y t, e = (y, t) →
      Completes .lineTrigger s (fun u =>
        u.rd Reg.LT_LINE_LO_VALUE = y % 2 ^ 32 ∧ u.rd Reg.LT_LINE_HI_VALUE = y / 2 ^ 32 % 2 ^ 32 ∧
        u.rd Reg.LT_TIME_LO_VALUE = t % 2 ^ 32 ∧ u.rd Reg.LT_TIME_HI_VALUE = t / 2 ^ 32 % 2 ^ 32 ∧ (u.line y).time = t ∧
        u.lt.owed = l ∧ u.lt.line = s.lt.line ∧ (∀ g ∈ s.groupsOn, (u.group g).triggered = true) ∧ EventsKept s u ∧
        OnlyChanges [.regs, .lt, .lines, .groups, .thin, .nt, .out] s u) ∧
      (s.on Reg.TB_STATUS_LOCKED = false → Completes .lineTrigger s fun u =>
        u.lt.start = s.lt.start ∧ u.lt.deferred = s.lt.deferred ∧ (12, 5) ∈ (u.line y).codes) ∧
      (s.on Reg.TB_STATUS_LOCKED = true → s.groupsBusy = false → s.lt.deferred = none →
        Completes .lineTrigger s fun u => u.lt.start = some (y, t) ∧ u.lt.deferred = none ∧
          u.rd Reg.LT_DEFERRED_COUNT = s.rd Reg.LT_DEFERRED_COUNT) ∧
      (s.on Reg.TB_STATUS_LOCKED = true → s.groupsBusy = true → s.lt.deferred = none →
        Completes .lineTrigger s fun u => u.lt.start = s.lt.start ∧ u.lt.deferred = some (y, t) ∧
          u.rd Reg.LT_DEFERRED_COUNT = (s.rd Reg.LT_DEFERRED_COUNT + 1) % 2 ^ 32 ∧ u.eventSet Ev.LT_DEFERRED = true ∧
          u.rd Reg.LT_SKIPPED_COUNT = s.rd Reg.LT_SKIPPED_COUNT) ∧
      (∀ d, s.lt.deferred = some d → s.on Reg.TB_STATUS_LOCKED = true → d.1 ≠ y →
        Completes .lineTrigger s fun u => u.lt.start = s.lt.start ∧ u.lt.deferred = some (y, t) ∧
          (12, 3) ∈ (u.line d.1).codes ∧ u.rd Reg.LT_SKIPPED_COUNT = (s.rd Reg.LT_SKIPPED_COUNT + 1) % 2 ^ 32 ∧
          u.eventSet Ev.LT_SKIPPED = true ∧ u.eventSet Ev.LT_DEFERRED = true) ∧
      (s.thin.queue = [] → s.thin.cascade = [] → Completes .lineTrigger s fun u =>
        (u.line y).thinned = thinned (s.rd Reg.THIN_STATUS_KEEP) y ∧
        u.rd Reg.THIN_LINES_COUNT = (s.rd Reg.THIN_LINES_COUNT +
          if thinned (s.rd Reg.THIN_STATUS_KEEP) y then 1 else 0) % 2 ^ 32))) ∧
  (∀ keep y : Nat, thinned keep y = true ↔ keep < 0x1000 ∧ ((y + 1) * keep) / 4096 = y * keep / 4096)

/-- R19, R53, R56, R58, R76, R84, R85, R420. A line start reaches the groups, a deferred one is released at the end of the
last minimum line period, a flush line reads an exposure out, and REFCLK is lost and returns. -/
def Obligations.LineStarts : Prop :=
  (∀ (s : State), s.alive = true →
    (s.lt.start = none → s.ik.starts = [] → Completes .lineStart s fun u => u = s) ∧
    (∀ e, s.lt.start = some e → ∀ y t, e = (y, t) → Completes .lineStart s fun u =>
      u.lt = { s.lt with start := none } ∧ EventsKept s u ∧ u.tb = s.tb ∧
      (∀ g, g < 12 → (s.atLine y).groupOn g = true →
        .lineStart g y ∈ u.out ∧ (u.group g).live = true ∧ (u.group g).runs = true ∧ (u.group g).inMin = true ∧
        (u.group g).number = y ∧ (u.group g).reads = (s.group g).unread ∧ (u.group g).unread = some (y, t) ∧
        (u.group g).flush = false ∧ (u.group g).priming = (s.group g).unread.isNone ∧ (u.group g).startNs = s.tb.ns) ∧
      (∀ g, g < 12 → (s.atLine y).groupOn g = false → (s.group g).live = false → (s.group g).swapAt = none →
        u.group g = s.group g))) ∧
  (∀ (s : State) (g : Fin 12), s.alive = true →
    ((s.group g).inMin = false → Completes (.minLinePeriodEnd g) s fun u => u = s) ∧
    ((s.group g).inMin = true → (s.group g).leds = [0, 0] → ∀ late, late = s.tb.ns - ((s.lt.deferred.map (·.2)).getD 0) →
      (s.lt.deferred = none ∨ s.lt.start ≠ none ∨ (∃ h ∈ s.groupsOn, h ≠ g.val ∧ (s.group h).inMin = true) →
        Completes (.minLinePeriodEnd g) s fun u => u = s.putGroup g { s.group g with inMin := false }) ∧
      (∀ e, s.lt.deferred = some e → s.lt.start = none → (∀ h ∈ s.groupsOn, h ≠ g.val → (s.group h).inMin = false) →
        Completes (.minLinePeriodEnd g) s fun u =>
          u.group g = { s.group g with inMin := false } ∧ u.lt = { s.lt with deferred := none, start := some e } ∧
          u.rd Reg.LT_MAXDEFER_NS = max (s.rd Reg.LT_MAXDEFER_NS) (min late (2 ^ 32 - 1)) ∧
          ((s.atLine e.1).rd Reg.LT_DEFER_LIMIT_NS < late → (12, 4) ∈ (u.line e.1).codes) ∧
          (late ≤ (s.atLine e.1).rd Reg.LT_DEFER_LIMIT_NS → u.lines = s.lines) ∧
          OnlyChanges [.regs, .lt, .lines, .groups] s u)) ∧
    (s.flushWanted g = false → Completes (.flushLine g) s fun u => u = s) ∧
    (s.flushWanted g = true → (s.group g).swapAt = none → Completes (.flushLine g) s fun u =>
      (u.group g).live = true ∧ (u.group g).flush = true ∧ (u.group g).inMin = true ∧ (u.group g).unread = none ∧
      (u.group g).reads = (s.group g).unread ∧ (u.group g).priming = false ∧ (u.group g).flushDue = false ∧
      u.rd Reg.SG_FLUSHES_COUNT g = (s.rd Reg.SG_FLUSHES_COUNT g + 1) % 2 ^ 32 ∧ u.eventSet Ev.SG_FLUSH g = true ∧
      u.lt = s.lt ∧ EventsKept s u ∧ ∀ h, h < 12 → h ≠ g.val → u.group h = s.group h)) ∧
  (∀ (s : State), s.alive = true →
    (s.on Reg.TB_STATUS_LOCKED = false → Completes .refclkLoss s fun u => u = s) ∧
    (s.on Reg.TB_STATUS_LOCKED = true → Completes .refclkLoss s fun u =>
      u.rd Reg.TB_STATUS_LOCKED = 0 ∧ u.eventSet Ev.TB_REFCLK_LOSS = true ∧ EventsKept s u ∧
      u.lt = { s.lt with deferred := none, start := none } ∧ u.tb = s.tb ∧ u.running = s.running ∧
      (∀ e ∈ s.lt.deferred, (12, 5) ∈ (u.line e.1).codes) ∧ (∀ e ∈ s.lt.start, (12, 5) ∈ (u.line e.1).codes) ∧
      (∀ g, g < 12 → (u.group g).live = false ∧ ((s.group g).live = true →
        (u.group g).runs = false ∧ (u.group g).inMin = false ∧ (u.group g).unread = (s.group g).unread)) ∧
      (∀ p, p < 4 → s.portState p ≠ 0 → .pin "BR_MCLK" p false ∈ u.out)) ∧
    (s.on Reg.TB_STATUS_LOCKED = true → Completes .synthRelock s fun u => u = s) ∧
    (s.on Reg.TB_STATUS_LOCKED = false → Completes .synthRelock s fun u =>
      u.rd Reg.TB_STATUS_LOCKED = 1 ∧ OnlyChanges [.regs, .groups, .out] s u ∧
      (∀ g, g < 12 → u.group g = if s.groupOn g then
        { s.group g with flushDue := s.running || (s.group g).unread.isSome } else s.group g) ∧
      (∀ p, p < 4 → s.portState p ≠ 0 → .pin "BR_MCLK" p true ∈ u.out)))

/-- Channel `c` of the DMA engine has had one request more in `u` than in `s`, if it follows request line `l` and has room
(R390). -/
def Sys2Proof.Machine.State.pacedBy (s u : State) (l : Nat) : Prop :=
  ∀ c, c < 64 → u.rd Reg.DMA_STATUS_REQ_PEND c = s.rd Reg.DMA_STATUS_REQ_PEND c +
    (if s.on Reg.DMA_CTL_REQ_EN c = true ∧ s.rd Reg.DMA_CTL_REQ_SEL c = l ∧ s.rd Reg.DMA_STATUS_REQ_PEND c ≠ 255 then 1 else 0)

/-- A frame of port `p` has begun in `u` at the FSYNC: it has no rows yet, its time is the FSYNC's, its generation and its
settings are those in force then (R263, R267). -/
def Sys2Proof.Machine.State.FrameBegun (s u : State) (p : Nat) : Prop :=
  (∃ f, (u.port p).frame = some f ∧ f.time = s.tb.ns ∧ f.gen = s.rd Reg.DEV_GEN_GEN ∧ f.rows = [] ∧
    f.inClosed = (u.portState p == 5)) ∧
  (u.port p).silent = false ∧ (u.port p).settings = s.pageForce (0x200 + p) ∧ (u.port p).lsyncs = some 0 ∧
  u.force = s.force ∧ u.shadow = s.shadow ∧ u.tb = s.tb ∧ EventsKept s u

/-- R263, R267, R268, R277, R289, R390. FSYNC ends the frame before, complete or not, and begins a frame under the settings
in force; EN takes effect there: 1 starts the port unless its tables do not fit, 0 takes it OFF. The end of a complete
frame counts it. -/
def Obligations.BerylFrames : Prop :=
  (∀ (s : State) (p : Fin 4), s.alive = true → s.domain 4 ≠ 2 → Completes (.berylFsync p) s fun u => u = s) ∧
  (∀ (s : State) (p : Fin 4), s.alive = true → s.domain 4 = 2 → ∀ st, st = s.portState p → ∀ x, x = s.port p →
    (st ≠ 0 → s.on Reg.BR_CTL_EN p = true → x.en = true → Completes (.berylFsync p) s fun u =>
      s.FrameBegun u p ∧ (u.port p).geom = x.geom) ∧
    (st ≠ 0 → s.on Reg.BR_CTL_EN p = true → x.en = true → s.brComplete p = none → Completes (.berylFsync p) s fun u =>
      u.portState p = st ∧ u.rd Reg.BR_FRAMES_COUNT p = s.rd Reg.BR_FRAMES_COUNT p ∧
      (x.frame ≠ none → u.eventSet Ev.BR_SYNC_ERR p = true ∧
        u.rd Reg.BR_ERR_SYNC_ERRS p = min (2 ^ Reg.BR_ERR_SYNC_ERRS.width - 1) (s.rd Reg.BR_ERR_SYNC_ERRS p + 1)) ∧
      (x.frame = none → u.rd Reg.BR_ERR_SYNC_ERRS p = s.rd Reg.BR_ERR_SYNC_ERRS p) ∧
      (∀ q, q < 4 → q ≠ p.val → u.port q = s.port q ∧ u.portState q = s.portState q)) ∧
    (st ≠ 0 → s.on Reg.BR_CTL_EN p = true → x.en = true → s.brComplete p ≠ none → Completes (.berylFsync p) s fun u =>
      u.rd Reg.BR_FRAMES_COUNT p = (s.rd Reg.BR_FRAMES_COUNT p + 1) % 2 ^ Reg.BR_FRAMES_COUNT.width ∧
      u.rd Reg.BR_ERR_SYNC_ERRS p = s.rd Reg.BR_ERR_SYNC_ERRS p) ∧
    (st = 0 → x.frame = none → s.on Reg.BR_CTL_EN p = true → x.en = false → s.brRefused p = false →
      Completes (.berylFsync p) s fun u =>
        s.FrameBegun u p ∧ u.portState p = 1 ∧ (u.port p).en = true ∧ u.rd Reg.BR_FRAMES_COUNT p = 0 ∧
        u.rd Reg.BR_STATUS_DUE p = 1 ∧ .pin "BR_MCLK" p true ∈ u.out ∧
        (u.port p).geom = [s.rd Reg.BR_GEOM_COLS p, s.rd Reg.BR_GEOM_ROWS p, s.rd Reg.BR_CTL_INTERLEAVE p,
          s.rd Reg.BR_POOL_BASE p, s.rd Reg.BR_POOL_GSETS p]) ∧
    (st = 0 → x.frame = none → s.on Reg.BR_CTL_EN p = true → x.en = false → s.brRefused p = true →
      Completes (.berylFsync p) s fun u =>
        u.portState p = 0 ∧ (u.port p).frame = none ∧ u.eventSet Ev.BR_CFG_REFUSED p = true ∧ EventsKept s u) ∧
    (st ≠ 0 → st ≠ 4 → st ≠ 5 → s.on Reg.BR_CTL_EN p = false → s.on Reg.BR_STATUS_OPEN_CONF p = true →
      s.brComplete p = none → (s.beryl.snapReq.map (·.1)) ≠ some p.val → Completes (.berylFsync p) s fun u =>
        u.portState p = 0 ∧ (u.port p).frame = none ∧ (u.port p).en = false ∧ .pin "BR_MCLK" p false ∈ u.out ∧
        EventsKept s u ∧ (∀ q, q < 4 → q ≠ p.val → u.port q = s.port q ∧ u.portState q = s.portState q))) ∧
  (∀ (s : State) (p : Fin 4), s.alive = true →
    (s.brComplete p = none → Completes (.berylFrameEnd p) s fun u => u = s) ∧
    (s.brComplete p ≠ none → Completes (.berylFrameEnd p) s fun u =>
      u.rd Reg.BR_FRAMES_COUNT p = (s.rd Reg.BR_FRAMES_COUNT p + 1) % 2 ^ Reg.BR_FRAMES_COUNT.width ∧
      (u.port p).frame = none ∧ u.rd Reg.BR_ERR_SYNC_ERRS p = s.rd Reg.BR_ERR_SYNC_ERRS p ∧
      (s.portState p = 1 ∨ s.portState p = 3 → u.portState p = 2) ∧
      (s.portState p = 2 ∨ s.portState p = 4 ∨ s.portState p = 7 → u.portState p = s.portState p) ∧
      s.pacedBy u (p.val + 1) ∧ EventsKept s u ∧ u.tb = s.tb ∧
      (∀ q, q < 4 → q ≠ p.val → u.port q = s.port q))) ∧
  (∀ (s : State) (p : Nat), s.brComplete p = none ↔ ∀ f, (s.port p).frame = some f → f.rows.length ≠ s.brRows p)

/-- R299, R300, R301, R307, R324, R326, R336, R390. The results of a scan are written at its end, those of an Off slot stay,
and a held trigger starts the next; a servo-period boundary emits the set-points, takes the commands that have waited, and
paces the sheets. -/
def Obligations.ScansAndServo : Prop :=
  (∀ (s : State), s.alive = true →
    (s.pfe.check = none → Completes .pfeScanEnd s fun u => u = s) ∧
    (∀ e, s.pfe.check = some e → ∀ ca cb, e = (ca, cb) → ∀ tol : Int, tol = (s.pfe?.rd Reg.PFE_CHECK_TOL : Int) →
      Completes .pfeScanEnd s (fun u =>
        u.rd Reg.PFE_SCANS_COUNT = (s.rd Reg.PFE_SCANS_COUNT + 1) % 2 ^ 32 ∧ u.eventSet Ev.PFE_SCAN_DONE = true ∧
        u.pfe.check = none ∧ u.pfe.codes = [] ∧ u.pfe.held = false ∧ EventsKept s u ∧ s.pacedBy u 5 ∧
        u.rd Reg.PFE_CHK_A_DEV = low Reg.PFE_CHK_A_DEV.width (ca - 4194304) ∧
        u.rd Reg.PFE_CHK_B_DEV = low Reg.PFE_CHK_B_DEV.width (cb - 4194304) ∧
        (tol < (ca - 4194304).natAbs ∨ tol < (cb - 4194304).natAbs ∨ tol < (ca - cb).natAbs →
          u.eventSet Ev.PFE_CHECK_FAIL = true) ∧ u.tb = s.tb ∧
        (∀ i, i < 16 → s.pfe?.rd Reg.SLOT_MODE 0 i = 0 →
          u.rd Reg.RES_VALUE 0 i = s.rd Reg.RES_VALUE 0 i ∧ u.rd Reg.RES_RAW 0 i = s.rd Reg.RES_RAW 0 i ∧
          u.rd Reg.RES_VALID 0 i = s.rd Reg.RES_VALID 0 i ∧ u.rd Reg.RES_SEQ 0 i = s.rd Reg.RES_SEQ 0 i ∧
          u.rd Reg.RES_TIME 0 i = s.rd Reg.RES_TIME 0 i) ∧
        (∀ i, i < 16 → s.pfe?.rd Reg.SLOT_MODE 0 i ≠ 0 →
          u.rd Reg.RES_VALID 0 i = 1 ∧ u.rd Reg.RES_SEQ 0 i = (s.rd Reg.PFE_SCANS_COUNT + 1) % 2 ^ 16 ∧
          (tfind i s.pfe.codes = none → u.rd Reg.RES_CFG 0 i = 1) ∧
          (∀ own, tfind i s.pfe.codes = some own → slotRefused s.pfe? i = false →
            u.rd Reg.RES_RAW 0 i = low Reg.RES_RAW.width own.code ∧ u.rd Reg.RES_TIME 0 i = own.time % 2 ^ 32 ∧
            u.rd Reg.RES_CFG 0 i = 0 ∧
            (s.pfe?.rd Reg.SLOT_MODE 0 i ≠ 2 → u.rd Reg.RES_CHECK 0 i =
              (if tol < ((if i % 2 = 0 then ca else cb) - 4194304).natAbs ∨ tol < (ca - cb).natAbs then 1 else 0))))) ∧
      (s.pfe.held = false ∨ s.pfeReady = false → Completes .pfeScanEnd s fun u =>
        u.rd Reg.PFE_STATUS_BUSY = 0 ∧ u.rd Reg.PFE_STATUS_STEP = 0 ∧ u.pfe.settings = s.pfe.settings) ∧
      (s.pfe.held = true → s.pfeReady = true → Completes .pfeScanEnd s fun u =>
        u.rd Reg.PFE_STATUS_BUSY = 1 ∧ u.pfe.settings = s.pageForce 0x240))) ∧
  (∀ (s : State), s.alive = true → s.domain 6 ≠ 2 → Completes .servoBoundary s fun u => u = s) ∧
  (∀ (s : State), s.alive = true → s.domain 6 = 2 → s.running = false →
    (s.on Reg.SHEET_CTL_EN = false → s.on Reg.SHEET_STATUS_PAUSED = false →
      (∀ p, p < 4 → s.portState p < 4 ∨ s.portState p = 7) → Completes .servoBoundary s fun u =>
      (∀ a, a < 8 → ∀ x, x = s.axis a → ∀ st, st = s.axisState a →
        (u.axis a).emitted = s.tb.ns ∧
        (x.waiting = [] → st ≠ 2 → st ≠ 3 → st ≠ 5 → st ≠ 6 →
          u.rd Reg.MOT_VEL_VALUE a = 0 ∧ (u.axis a).set = x.set ∧ (u.axis a).before = x.set) ∧
        (x.waiting = [] → st = 2 → s.on Reg.MOT_STALL_EN a = false →
          (nearest (x.advance (s.rd Reg.MOT_SERVO_US) true).p).2 = false →
          (u.axis a).before = x.set ∧ (u.axis a).set = (nearest (x.advance (s.rd Reg.MOT_SERVO_US) true).p).1 ∧
          u.rd Reg.MOT_VEL_VALUE a =
            low Reg.MOT_VEL_VALUE.width (nearest (x.advance (s.rd Reg.MOT_SERVO_US) true).v).1) ∧
        ((∀ e ∈ x.waiting, s.tb.ns < e.1 + 2000) → st ≠ 6 → (u.axis a).waiting = x.waiting) ∧
        (x.waiting = [] → st = 0 → u.axisState a = 0)) ∧
      (∀ a, a < 8 → s.axisState a = 0 → ∀ e ∈ (s.axis a).waiting.head?, ∀ t, e.2 = .target t → e.1 + 2000 ≤ s.tb.ns →
        u.eventSet Ev.MOT_CMD_REFUSED a = true) ∧
      u.rd Reg.SHEET_PAUSES_COUNT = s.rd Reg.SHEET_PAUSES_COUNT ∧ s.pacedBy u 6 ∧ EventsKept s u ∧ u.tb = s.tb) ∧
    (s.on Reg.SHEET_CTL_EN = true → s.on Reg.DEV_MODE_MODE = true → s.on Reg.SHEET_CTL_LEAD_EN = true →
      s.on Reg.SHEET_STATUS_PAUSED = false → s.rd Reg.REF_LEAD_VALUE < s.rd Reg.SHEET_LEAD_STOP →
      Completes .servoBoundary s fun u =>
        u.rd Reg.SHEET_STATUS_PAUSED = 1 ∧ u.rd Reg.SHEET_STATUS_LEAD = 1 ∧ u.eventSet Ev.MOTC_PAUSE = true ∧
        u.rd Reg.SHEET_PAUSES_COUNT = (s.rd Reg.SHEET_PAUSES_COUNT + 1) % 2 ^ 32 ∧ EventsKept s u) ∧
    (s.on Reg.SHEET_STATUS_PAUSED = true → s.on Reg.SHEET_CTL_EN = true → s.on Reg.DEV_MODE_MODE = true →
      s.on Reg.SHEET_CTL_LEAD_EN = true → s.rd Reg.REF_LEAD_VALUE < s.rd Reg.SHEET_LEAD_GO →
      Completes .servoBoundary s fun u =>
        u.rd Reg.SHEET_STATUS_PAUSED = 1 ∧ u.rd Reg.SHEET_STATUS_LEAD = 1 ∧
        u.rd Reg.SHEET_PAUSES_COUNT = s.rd Reg.SHEET_PAUSES_COUNT ∧ EventsKept s u) ∧
    (s.on Reg.SHEET_STATUS_PAUSED = true → s.on Reg.SHEET_CTL_EN = true → s.chainPause = false →
      s.on Reg.SHEET_CTL_LEAD_EN = true → s.rd Reg.SHEET_LEAD_GO ≤ s.rd Reg.REF_LEAD_VALUE →
      (∀ q, q < 4 → s.on Reg.SHEET_Q_VALID 0 q = false) →
      Completes .servoBoundary s fun u =>
        u.rd Reg.SHEET_STATUS_PAUSED = 0 ∧ u.rd Reg.SHEET_STATUS_LEAD = 0 ∧ u.rd Reg.SHEET_STATUS_QUEUES = 0 ∧
        u.eventSet Ev.MOTC_RESUME = true ∧ EventsKept s u))

/-- The intake of the log has taken one entry of this kind, tenant, place and value, if it had room (R463). -/
def Sys2Proof.Machine.State.logged (s u : State) (kind tenant page offset be value arg1 arg2 : Nat) : Prop :=
  s.nt.log.lostPending = 0 → s.nt.log.intake.length < 256 →
    u.nt.log.intake = s.nt.log.intake ++ [⟨s.tb.ns, s.nt.log.next, kind, tenant, page, offset, be, value, arg1, arg2⟩] ∧
    u.nt.log.next = (s.nt.log.next + 1) % 2 ^ 32

/-- The registers that a device reset leaves at another value than their reset value: time base, straps, fuses, the record
of the reset itself. -/
def Sys2Proof.Machine.keptRows : List Row :=
  timeBaseRows ++ [Reg.IK_CTL_LEAD, Reg.AVS_CTL_LINK, Reg.TWT_ADDR_BASE, Reg.TWT_ADDR_ALERT_ADDR, Reg.MGMT_SVN_FUSES,
    Reg.DEV_LAST_CAUSE, Reg.DEV_LAST_COUNT]

/-- The blocks are as they are after reset: no field in force, no shadow, no capture of an agent, no run, and
nothing under way. -/
def Sys2Proof.Machine.State.cleared (u : State) : Prop :=
  u.force = [] ∧ u.shadow = [] ∧ u.captures = [] ∧ u.running = false ∧ u.lt = {} ∧ u.lines = [] ∧
  u.groups = [] ∧ u.pawn = [] ∧ u.commits = {} ∧ u.epochs = [] ∧ u.cast = {} ∧ u.opal = {} ∧ u.lanes = [] ∧ u.comp = {} ∧
  u.fr = {} ∧ u.dma = {} ∧ u.beryl = {} ∧ u.pfe = {} ∧ u.ik = {} ∧ u.therm = {} ∧ u.cap = {} ∧ u.mp = {} ∧
  (∀ k, (∀ r ∈ keptRows, k ≠ r.key 0 0 0) → tfind k u.regs = none)

/-- The device has been reset for `cause` in `u`, which was `s` before (R421): the blocks start afresh; the time base, Onyx,
the entries of the log, the revocations and the flash are left, but for a bank that was being received. -/
def Sys2Proof.Machine.State.resetTo (s u : State) (cause : Nat) : Prop :=
  u.cleared ∧ (s.nt.log.lostPending = 0 → s.nt.log.intake.length < 255 → u.nt.events = []) ∧
  u.tb = s.tb ∧ u.onyx = s.onyx ∧ u.mgmt.revoked = s.mgmt.revoked ∧
  u.mgmt.flash = (if s.rd Reg.UPD_STATUS_STATE = 1 ∨ s.rd Reg.UPD_STATUS_STATE = 2 then
    s.mgmt.flash.putBank s.mgmt.target [] else s.mgmt.flash) ∧
  (∀ r ∈ timeBaseRows, u.rd r = s.rd r % 2 ^ r.width) ∧ u.rd Reg.MGMT_SVN_FUSES = s.rd Reg.MGMT_SVN_FUSES % 2 ^ 32 ∧
  u.rd Reg.DEV_LAST_CAUSE = cause ∧ u.rd Reg.DEV_LAST_COUNT = min 65535 (s.rd Reg.DEV_LAST_COUNT + 1) ∧
  u.nt.log.ring = s.nt.log.ring ∧ u.nt.log.mirror = s.nt.log.mirror ∧ u.alive = true ∧ u.pending = s.pending

/-- R421, R422, R455, R463, R465, R476, R580, R582. What resets the device, with its cause, and what survives; a wrong key; the
supplies fall and come back. -/
def Obligations.Resets : Prop :=
  (∀ (s : State) (agent : Agent) (v : Word), s.alive = true →
    ∀ right : Bool, right = (v.toNat % 2 ^ 16 == 0xD3C0 && (agent.val == 0 || agent.val == 17)) →
    (right = true → Completes (.devResetKey agent v) s fun u =>
      s.resetTo u 2 ∧ s.logged u 0x09 16 0 0 0 2 0 0 ∧ .pin "USB_PULLUP" 0 false ∈ u.out) ∧
    (right = false → Completes (.devResetKey agent v) s fun u =>
      u.eventSet Ev.FLT_KEY_REFUSED = true ∧ EventsKept s u ∧ OnlyChanges [.nt, .out] s u ∧
      s.logged u 0x0A agent 0x29 0x24 15 (v.toNat % 2 ^ 16) 0 0)) ∧
  (∀ s : State, s.alive = true →
    Completes .perstNAssert s (fun u => s.resetTo u 1 ∧ s.logged u 0x09 16 0 0 0 1 0 0) ∧
    Completes .coreSupplyFault s (fun u => s.resetTo u 3 ∧ s.logged u 0x09 16 0 0 0 3 0 0)) ∧
  (∀ (s : State) (core : Fin 2), s.alive = true →
    (s.mgmtRuns = false → Completes (.watchdog core) s fun u => u = s) ∧
    (s.mgmtRuns = true → Completes (.watchdog core) s fun u => s.resetTo u 4 ∧
      (s.nt.log.lostPending = 0 → s.nt.log.intake.length < 255 → u.nt.log.intake = s.nt.log.intake ++
        [⟨s.tb.ns, s.nt.log.next, 0x0C, 16, 0, 0, 0, core, 0, 0⟩,
         ⟨s.tb.ns, (s.nt.log.next + 1) % 2 ^ 32, 0x09, 16, 0, 0, 0, 4, 0, 0⟩]))) ∧
  (∀ (s : State) (lead link core : Bool) (addr : Fin 8) (flash : Option FlashContent),
    (s.flt.shutdown = true → core = false → Completes (.powerOnReset lead link core addr flash) s fun u => u = s) ∧
    (s.flt.shutdown = false ∨ core = true → Completes (.powerOnReset lead link core addr flash) s fun u =>
      u.cleared ∧ u.nt.events = [] ∧ u.alive = true ∧ u.tb = {} ∧ u.onyx = s.onyx ∧ u.pending = s.pending ∧
      u.rd Reg.TB_STATUS_LOCKED = 1 ∧ u.rd Reg.TB_RATE_PPB = 0 ∧ u.rd Reg.DEV_LAST_CAUSE = 0 ∧
      u.rd Reg.DEV_LAST_COUNT = 0 ∧ u.rd Reg.IK_CTL_LEAD = lead.toNat ∧ u.rd Reg.AVS_CTL_LINK = link.toNat ∧
      u.rd Reg.TWT_ADDR_BASE = 0x58 + addr.val ∧ u.rd Reg.MGMT_SVN_FUSES = s.rd Reg.MGMT_SVN_FUSES % 2 ^ 32 ∧
      (∀ c ∈ flash, u.mgmt.flash = flashOf c) ∧ (flash = none → u.mgmt.flash = s.flashAfter) ∧ u.nt.log.ring = [] ∧
      u.nt.log.mirror = s.nt.log.mirror ∧
      (∀ next, next = (match s.nt.log.mirror with
          | [] => 0
          | e :: _ => (e.seq + 1) % 2 ^ 32) →
        u.nt.log.intake = [⟨0, next, 0x09, 16, 0, 0, 0, 0, 0, 0⟩]))) ∧
  (∀ s : State, Completes .supplyFall s fun u =>
    u.cleared ∧ u.nt.events = [] ∧ u.alive = false ∧ u.flt.held = true ∧ u.flt.shutdown = s.flt.shutdown ∧ u.tb = {} ∧ u.onyx = s.onyx ∧
    u.pending = s.pending ∧ u.mgmt.flash = s.flashAfter ∧ u.nt.log.ring = [])

/-- R6, R8, R9, R354, R427, R552, R554, R555. A register write: what a page that is not seen, read-only, or off does with it, a
wrong width, two halves of 64 bits, a stored field, a shadow, a read-only field, and a register with an effect of its own. -/
def Obligations.RegisterWrites : Prop :=
  (∀ (s : State) (agent : Agent) (p : Fin 8192) (o : Fin 4096) (v : BitVec 64) (x : Outside), s.alive = true →
    (o.val % 4 = 0 → s.sees agent p = false → Completes (.registerWrite agent p o 4 v x) s fun u => u = s) ∧
    (o.val % 4 = 0 → s.sees agent p = true → s.readOnly agent p = true → Completes (.registerWrite agent p o 4 v x) s fun u =>
      s.logged u 0x02 agent p o 15 (v.toNat % 2 ^ 32) 0 0 ∧ EventsKept s u ∧ Told s u) ∧
    (o.val % 4 = 0 → 0x20 ≤ o.val → s.sees agent p = true → s.readOnly agent p = false →
      s.domain (domainOfPage p) ≠ 2 → Completes (.registerWrite agent p o 4 v x) s fun u =>
        s.logged u 0x05 agent p o 15 (v.toNat % 2 ^ 32) 0 0 ∧ EventsKept s u ∧ Told s u) ∧
    (∀ width : Nat, width < 2 ^ 32 → ¬((width = 4 ∨ width = 8) ∧ o.val % 4 = 0) →
      Completes (.registerWrite agent p o width v x) s fun u =>
        s.logged u 0x02 agent p o 0 (v.toNat % 2 ^ 32) width 0 ∧ EventsKept s u ∧ Told s u) ∧
    (∀ o' : Fin 4096, o'.val = o.val + 4 → o.val % 4 = 0 → ∀ hi : BitVec 64, hi.toNat = v.toNat / 2 ^ 32 →
      Completes (.registerWrite agent p o 4 v x) s fun t => t.alive = true →
        Completes (.registerWrite agent p o' 4 hi x) t fun w =>
          Completes (.registerWrite agent p o 8 v x) s fun u => u = w)) ∧
  (∀ (s : State) (agent : Agent) (v : BitVec 64) (x : Outside), s.alive = true → s.domain 0 = 2 → s.domain 3 = 2 →
    s.domain 5 = 2 → s.domain 6 = 2 →
    (∀ p ∈ [0x000, 0x001, 0x010, 0x029, 0x0FF, 0x1A1, 0x240, 0x268], s.sees agent p = true ∧ s.readOnly agent p = false ∧ s.writeLogged agent p = false) →
    ∀ w, w = v.toNat % 2 ^ 32 →
    Completes (.registerWrite agent 0x1A1 0x14 4 v x) s (fun u => u.rd Reg.PAGE_MASK 0x1A1 = w ∧
      (∀ q, q < 8192 → q ≠ 0x1A1 → u.rd Reg.PAGE_MASK q = s.rd Reg.PAGE_MASK q) ∧ OnlyChanges [.regs, .nt, .out] s u) ∧
    Completes (.registerWrite agent 0x1A1 0x100 4 v x) s (fun u =>
      u.shadowRd Reg.TOL_TH_BASE = w % 2 ^ 16 ∧ OnlyChanges [.shadow] s u) ∧
    Completes (.registerWrite agent 0x1A1 0x10C 4 v x) s (fun u => OnlyChanges [.shadow] s u) ∧
    Completes (.registerWrite agent 0x268 0x20 4 v x) s (fun u => u = motServoWrite w s) ∧
    Completes (.registerWrite agent 0x000 0x20 4 v x) s (fun u => u = s) ∧
    Completes (.registerWrite agent 0x000 0x30 4 v x) s (fun u => u = s) ∧
    Completes (.registerWrite agent 0x1A1 0x1C 4 v x) s (fun u => u = s) ∧
    Completes (.registerWrite agent 0x0FF 0x24 4 v x) s (fun u => u = s) ∧
    Completes (.registerWrite agent 0x000 0x24 4 v x) s (fun u => u = devModeWrite agent w s) ∧
    Completes (.registerWrite agent 0x010 0x34 4 v x) s (fun u => u = tbStep agent w s) ∧
    Completes (.registerWrite agent 0x029 0x24 4 v x) s (fun u => u = devResetKey agent w s) ∧
    Completes (.registerWrite agent 0x1A1 0x10 4 v x) s (fun u => u = pageEventClear 0x1A1 w s) ∧
    Completes (.registerWrite agent 0x1A1 0x18 4 v x) s (fun u => u = commitRequest agent 0x1A1 w s) ∧
    Completes (.registerWrite agent 0x240 0x24 4 v x) s (fun u => u = pfeGo w s) ∧
    Completes (.registerWrite agent 0x001 0x100 4 v x) s (fun u => u = grantWrite 1 96 w s))

/-- The parts of the block that a command may change. -/
def Sys2Proof.Instr.writes : Instr → List Part
  | .registerWrite .. | .regWrite .. | .dmaBurstGrant .. | .dmaReadCompletion .. | .usbRegWrite .. =>
    [.regs, .force, .shadow, .captures, .nt, .tb, .avs, .thin, .groups, .pawn, .encoders, .lt, .lines,
     .epochs, .converters, .buffers, .readouts, .plaus, .cast, .lanes, .opal, .pw, .outLines, .joints, .ref,
     .reg, .comp, .mp, .fr, .dma, .beryl, .pfe, .axes, .ik, .flt, .therm, .cap, .commits, .mgmt, .usb, .twt,
     .twc, .fresh, .out]
  | .pageEventClear .. | .icEvent .. | .icCoalesceTimeout .. | .msixSend .. | .msixVectorUsable .. | .icClaim ..
    | .icComplete .. | .icSet .. | .icClear .. | .logEntry .. | .logMirrorProgram .. | .wakeSent .. |
    .wakeCollided .. | .twtHostAlert .. | .eventMessagePoll .. =>
    [.nt, .out]
  | .pageDiscard .. =>
    [.shadow]
  | .devModeWrite .. | .encoderIndex .. | .pawnDataHiRead .. | .bvcDataRead .. | .aoRefLow .. | .motServoWrite ..
    | .linkChange .. | .dmaPaceRequest .. | .dmaTimer .. | .eccCorr .. | .updVerify .. | .updVerifyDone .. |
    .getInfo .. | .usbUpdStatus .. | .usbEvtMask .. | .usbResume .. | .twtBusTimeout .. | .twtAraDone .. |
    .viewStale .. =>
    [.regs, .force, .nt, .out]
  | .paceWindowEnd .. =>
    [.regs, .force, .nt, .avs, .thin, .out]
  | .avsEvaluation .. =>
    [.regs, .force, .nt, .avs, .twc, .out]
  | .avsReadback .. =>
    [.regs, .force, .nt, .avs, .out]
  | .avsCtlWrite .. =>
    [.regs, .force, .avs, .out]
  | .timeLoRead .. | .ltLineLoRead .. | .ltPosFracRead .. | .castSwapLineLoRead .. | .refPairRead .. |
    .regPairRead .. | .resValueRead .. | .motPairRead .. | .dmaPairRead .. | .thinFromLoRead .. |
    .ikCommitLineLoRead .. | .groupLineLoRead .. =>
    [.captures, .nt, .out]
  | .tbStep .. =>
    [.regs, .force, .nt, .tb, .groups, .out]
  | .refclkLoss .. =>
    [.regs, .force, .nt, .groups, .lt, .lines, .readouts, .comp, .mp, .pfe, .axes, .fresh, .out]
  | .synthRelock .. =>
    [.regs, .force, .groups, .out]
  | .converterWord .. =>
    [.regs, .force, .nt, .groups, .lines, .converters, .buffers, .readouts, .lanes, .out]
  | .lineTrigger .. =>
    [.regs, .force, .shadow, .nt, .thin, .groups, .lt, .lines, .epochs, .converters, .readouts, .cast, .opal,
     .pw, .ref, .reg, .pfe, .ik, .commits, .fresh, .out]
  | .triggerPrediction .. =>
    [.regs, .force, .shadow, .nt, .groups, .lt, .lines, .epochs, .converters, .readouts, .cast, .opal, .ref,
     .reg, .pfe, .ik, .commits, .fresh, .out]
  | .encoderCount .. =>
    [.regs, .force, .shadow, .nt, .groups, .encoders, .lt, .lines, .epochs, .converters, .readouts, .cast,
     .opal, .ref, .reg, .pfe, .ik, .commits, .fresh, .out]
  | .lineStart .. =>
    [.regs, .force, .shadow, .nt, .groups, .lt, .lines, .epochs, .converters, .buffers, .readouts, .plaus,
     .cast, .lanes, .opal, .comp, .mp, .ik, .fresh, .out]
  | .minLinePeriodEnd .. =>
    [.regs, .force, .nt, .groups, .lt, .lines, .converters, .cast, .out]
  | .flushLine .. =>
    [.regs, .force, .shadow, .nt, .groups, .lines, .converters, .buffers, .readouts, .cast, .lanes, .out]
  | .ledStrobe .. =>
    [.force, .nt, .groups, .out]
  | .pawnOut .. | .pawnNop .. | .pawnLdc .. | .pawnDjnz .. | .pawnJmp .. | .pawnJc .. | .pawnEnd .. |
    .pawnLineTimeout .. =>
    [.regs, .force, .groups, .lines, .readouts, .out]
  | .pawnStw .. =>
    [.regs, .force, .groups, .pawn, .lines, .readouts, .out]
  | .pawnDataHiWrite .. =>
    [.regs, .force, .nt, .pawn, .out]
  | .pawnDataLoRead .. =>
    [.regs, .force, .nt, .groups, .out]
  | .diagEntryDone .. =>
    [.regs, .force, .groups, .lines, .converters, .readouts, .plaus, .out]
  | .plausCheck .. =>
    [.regs, .force, .nt, .converters, .plaus, .cast, .out]
  | .forceRequest .. | .bankCalStart .. =>
    [.regs, .force, .nt, .converters, .out]
  | .forceDone .. =>
    [.regs, .force, .nt, .groups, .lines, .converters, .readouts, .cast, .out]
  | .bankCalDone .. | .castReqRelease .. | .castSelect .. | .castMatchWindowEnd .. | .offlineStepBoundary .. =>
    [.regs, .force, .nt, .converters, .cast, .out]
  | .castReqGo .. =>
    [.nt, .cast, .out]
  | .castIntervalDue .. =>
    [.cast]
  | .castOfflineCalEnd .. =>
    [.regs, .force, .nt, .cast, .out]
  | .trimSlotWrite .. | .tenCtxBaseWrite .. =>
    [.regs, .force, .shadow, .nt, .out]
  | .laneOutputLine .. | .jointWaitExpiry .. =>
    [.regs, .force, .nt, .lanes, .outLines, .ref, .fresh, .out]
  | .opalCapGo .. | .opalCapEnd .. =>
    [.regs, .force, .nt, .opal, .out]
  | .xferWindowAccess .. =>
    [.regs, .force, .nt, .opal, .beryl, .out]
  | .xferWriteStored .. =>
    [.opal]
  | .pwWindowEnd .. =>
    [.regs, .force, .nt, .pw, .out]
  | .pwReset .. =>
    [.regs, .force, .shadow, .pw]
  | .refLines .. | .refEarlyFetch .. | .queueEnable .. | .queueDisable .. | .queuePause .. | .queueResume .. |
    .queueReset .. | .queueSync .. | .doorbell .. | .descriptorFetch .. | .dmaXfer .. | .indexWriteback .. |
    .contextLoad .. | .poisonedRequest .. =>
    [.regs, .force, .nt, .comp, .mp, .fr, .dma, .out]
  | .refArrival .. =>
    [.regs, .force, .nt, .ref, .comp, .mp, .fr, .dma, .fresh, .out]
  | .regTileDecide .. =>
    [.regs, .force, .reg]
  | .rowDone .. =>
    [.regs, .force, .nt, .reg, .comp, .mp, .fr, .out]
  | .regReacq .. =>
    [.regs, .force, .nt, .reg, .out]
  | .labelLineDone .. =>
    [.regs, .force, .nt, .comp, .mp, .fresh, .out]
  | .blobRecordStage .. | .verdict .. | .coverageRecordStage .. | .covBacklogResume .. | .patchMeasured .. |
    .markMeasured .. | .previewRecord .. | .cropComplete .. =>
    [.regs, .force, .nt, .comp, .mp, .fr, .out]
  | .recordDelivery .. =>
    [.regs, .force, .nt, .comp, .mp, .fr, .fresh, .out]
  | .cropTokenRefill .. =>
    [.mp]
  | .berylFsync .. | .berylFrameEnd .. =>
    [.regs, .force, .nt, .comp, .mp, .fr, .beryl, .axes, .fresh, .out]
  | .berylLsync .. | .berylSnap .. | .spiDone .. =>
    [.regs, .force, .nt, .beryl, .out]
  | .berylSyncTimeout .. | .berylMoveTimeout .. | .berylAccTake .. | .berylReopen .. =>
    [.regs, .force, .nt, .beryl, .axes, .out]
  | .berylRecalCmd .. | .berylRecalInterval .. =>
    [.regs, .force, .beryl]
  | .berylSpiGo .. =>
    [.regs, .force, .shadow, .beryl, .out]
  | .bvcFreeConvert .. | .reqClear .. | .mbxM2hAck .. =>
    [.regs, .force]
  | .pfeScanTimer .. | .pfeGo .. =>
    [.regs, .force, .nt, .pfe, .fresh, .out]
  | .pfeStepEnd .. =>
    [.regs, .force, .pfe, .out]
  | .pfeScanEnd .. =>
    [.regs, .force, .nt, .beryl, .pfe, .fresh, .out]
  | .aoUpdate .. =>
    [.regs, .force, .nt, .fresh, .out]
  | .servoBoundary .. =>
    [.regs, .force, .shadow, .nt, .groups, .lt, .lines, .epochs, .converters, .readouts, .cast, .opal, .ref,
     .reg, .beryl, .pfe, .axes, .ik, .commits, .fresh, .out]
  | .pwmPeriod .. | .auxIdleScan .. | .motTargetHiWrite .. | .motHomeSwitch .. | .motBridgeFault .. =>
    [.regs, .force, .nt, .axes, .out]
  | .motStandby .. =>
    [.axes, .out]
  | .motCtlWrite .. =>
    [.regs, .force, .shadow, .nt, .axes, .out]
  | .motStop .. | .motHome .. | .motClear .. | .motZero .. | .motAbort .. =>
    [.axes]
  | .motResume .. =>
    [.nt, .axes, .out]
  | .functionLevelReset .. | .d3hotEntry .. | .vfEnableChange .. | .tenReset .. | .hello .. | .linkDown .. |
    .dmaTransferComplete .. =>
    [.regs, .force, .nt, .comp, .mp, .fr, .dma, .mgmt, .out]
  | .fwInfo .. =>
    [.mgmt]
  | .logMark .. =>
    [.nt, .mgmt, .fresh, .out]
  | .leaseGrant .. =>
    [.regs, .force, .nt, .fr, .beryl, .axes, .out]
  | .leaseRevoke .. | .leaseExpiry .. | .leaseRevokeOnFault .. =>
    [.regs, .force, .nt, .fr, .dma, .beryl, .axes, .out]
  | .leaseRenew .. =>
    [.nt, .fr, .out]
  | .qstatARead .. =>
    [.regs, .force, .captures, .nt, .comp, .mp, .fr, .dma, .out]
  | .dmaBusError .. | .dmaAbort .. | .tenantDrainLimit .. =>
    [.regs, .force, .nt, .fr, .dma, .mgmt, .out]
  | .dmaRetry .. =>
    [.dma, .out]
  | .dmaClear .. | .grantWrite .. =>
    [.regs, .force, .nt, .fr, .dma, .out]
  | .laneResetCmd .. =>
    [.lanes]
  | .eccUncorrectable .. =>
    [.regs, .force, .nt, .lines, .lanes, .ref, .comp, .mp, .fr, .dma, .fresh, .out]
  | .devResetKey .. | .perstNAssert .. | .coreSupplyFault .. | .watchdog .. =>
    [.regs, .force, .shadow, .captures, .nt, .avs, .thin, .groups, .pawn, .encoders, .lt, .lines, .epochs,
     .converters, .buffers, .readouts, .plaus, .cast, .lanes, .opal, .pw, .outLines, .joints, .ref, .reg,
     .comp, .mp, .fr, .dma, .beryl, .pfe, .axes, .ik, .flt, .therm, .cap, .commits, .mgmt, .usb, .twt, .twc,
     .out]
  | .domCtlWrite .. | .domOn .. =>
    [.regs, .force, .shadow, .nt, .groups, .lt, .lines, .epochs, .converters, .readouts, .cast, .opal, .pw,
     .ref, .reg, .comp, .mp, .fr, .beryl, .pfe, .axes, .ik, .flt, .commits, .fresh, .out]
  | .domFault .. =>
    [.regs, .force, .shadow, .nt, .groups, .lt, .lines, .epochs, .converters, .buffers, .readouts, .cast,
     .opal, .pw, .outLines, .joints, .ref, .reg, .comp, .mp, .fr, .dma, .beryl, .pfe, .axes, .ik, .flt,
     .commits, .fresh, .out]
  | .domOff .. | .drainTimeout .. =>
    [.regs, .force, .nt, .groups, .lines, .buffers, .readouts, .outLines, .joints, .ref, .reg, .comp, .mp,
     .fr, .dma, .beryl, .axes, .flt, .fresh, .out]
  | .thermalModelStep .. =>
    [.regs, .force, .nt, .groups, .lines, .converters, .readouts, .comp, .mp, .flt, .therm, .mgmt, .fresh,
     .out]
  | .capacityEvaluation .. =>
    [.regs, .force, .nt, .cap, .out]
  | .mailboxGo .. | .mbxFenceRead .. =>
    [.regs, .force, .shadow, .nt, .mgmt, .out]
  | .h2mTaken .. | .logDataRead .. | .updActivate .. | .updConfirm .. | .updCancel .. | .updDataWrite .. |
    .updFlashProgram .. =>
    [.regs, .force, .nt, .mgmt, .out]
  | .m2hReady .. =>
    [.regs, .force, .nt, .comp, .mp, .fr, .dma, .mgmt, .fresh, .out]
  | .monitorSample .. =>
    [.regs, .force, .shadow, .nt, .groups, .lt, .lines, .epochs, .converters, .buffers, .readouts, .cast,
     .opal, .pw, .outLines, .joints, .ref, .reg, .comp, .mp, .fr, .dma, .beryl, .pfe, .axes, .ik, .flt,
     .therm, .commits, .fresh, .out]
  | .logSelWrite .. | .logDataReady .. =>
    [.regs, .force, .mgmt]
  | .boot .. =>
    [.regs, .force, .nt, .therm, .mgmt, .usb, .fresh, .out]
  | .updOpen .. | .usbUpdCmd .. =>
    [.regs, .force, .nt, .mgmt, .fresh, .out]
  | .usbVbusChange .. | .usbBusReset .. | .setConfiguration .. | .setFeature .. | .clearFeature .. | .logStart ..
    | .logStop .. | .usbSuspend .. =>
    [.regs, .force, .nt, .usb, .out]
  | .setAddress .. =>
    [.regs, .force, .nt]
  | .getDescriptor .. | .getConfiguration .. | .getStatus .. | .getInterface .. | .setInterface .. |
    .setDescriptor .. | .synchFrame .. | .ikPortRetry .. | .ikPingSend .. =>
    [.out]
  | .usbRegRead .. =>
    [.regs, .force, .shadow, .captures, .nt, .groups, .opal, .comp, .mp, .fr, .dma, .beryl, .mgmt, .fresh,
     .out]
  | .onyxFrame .. =>
    [.regs, .force, .nt, .usb, .onyx, .out]
  | .usbLogPacket .. =>
    [.regs, .force, .usb, .out]
  | .usbImagePacket .. =>
    [.regs, .force, .nt, .mgmt, .usb, .out]
  | .twtWriteTransaction .. =>
    [.regs, .force, .nt, .twt, .fresh, .out]
  | .twtReadTransaction .. =>
    [.regs, .force, .nt, .twt, .out]
  | .twcXferGo .. | .twcXferDone .. | .twcArbLost .. | .twcTimeout .. | .twcRecover .. =>
    [.regs, .force, .nt, .twc, .out]
  | .onyxWheelCount .. | .sealPress .. | .onyxRetention .. | .powerGap .. | .coldStart .. | .tempStart .. |
    .tempEnd .. | .onyxIdent .. | .onyxReadState .. | .onyxReadAudit .. | .onyxJobMark .. | .onyxStageParam .. |
    .onyxStageRelease .. | .onyxClearStage .. =>
    [.onyx]
  | .onyxPush .. =>
    [.regs, .force, .nt, .onyx, .out]
  | .ikEnum .. | .ikState .. | .ikHalt .. | .ikPortDown .. | .ikFrameCrcError .. | .ikTimeSend .. | .ikClear ..
    | .runStop .. | .ikPortTrained .. =>
    [.regs, .force, .shadow, .nt, .groups, .lt, .lines, .epochs, .converters, .readouts, .cast, .opal, .pw,
     .ref, .reg, .comp, .mp, .fr, .beryl, .pfe, .ik, .commits, .fresh, .out]
  | .ikTime .. =>
    [.regs, .force, .shadow, .nt, .tb, .groups, .lt, .lines, .epochs, .converters, .readouts, .cast, .opal,
     .pw, .ref, .reg, .comp, .mp, .fr, .beryl, .pfe, .ik, .commits, .fresh, .out]
  | .ikPing .. =>
    [.regs, .force, .ik, .out]
  | .ikTrigger .. =>
    [.regs, .force, .shadow, .nt, .thin, .groups, .lt, .lines, .epochs, .converters, .readouts, .cast, .opal,
     .pw, .ref, .reg, .comp, .mp, .fr, .beryl, .pfe, .ik, .commits, .fresh, .out]
  | .ikRun .. =>
    [.regs, .force, .shadow, .nt, .groups, .lt, .lines, .epochs, .converters, .readouts, .plaus, .cast,
     .lanes, .opal, .pw, .outLines, .joints, .ref, .reg, .comp, .mp, .fr, .beryl, .pfe, .ik, .commits, .fresh,
     .out]
  | .ikThin .. =>
    [.thin, .ik, .out]
  | .ikCommit .. | .ikCommitTimeout .. =>
    [.regs, .force, .nt, .ref, .ik, .fresh, .out]
  | .ikJoint .. =>
    [.joints, .ik]
  | .ikDefect .. =>
    [.comp, .ik]
  | .ikFragment .. =>
    [.regs, .force, .comp, .mp, .ik]
  | .ikBlobPart .. =>
    [.regs, .force, .comp, .mp, .ik, .fresh, .out]
  | .ikItemPart .. =>
    [.force, .comp, .ik, .out]
  | .commitRequest .. | .commitMulti .. | .commitEffect .. =>
    [.regs, .force, .shadow, .nt, .groups, .lines, .epochs, .converters, .readouts, .cast, .opal, .ref, .reg,
     .pfe, .ik, .commits, .fresh, .out]
  | .runStart .. | .runStartDelayed .. =>
    [.regs, .force, .shadow, .nt, .groups, .lt, .lines, .epochs, .converters, .readouts, .plaus, .cast,
     .lanes, .opal, .pw, .outLines, .joints, .ref, .reg, .comp, .mp, .fr, .pfe, .ik, .commits, .fresh, .out]
  | .powerOnReset .. | .supplyFall .. =>
    [.regs, .force, .shadow, .captures, .nt, .tb, .avs, .thin, .groups, .pawn, .encoders, .lt, .lines,
     .epochs, .converters, .buffers, .readouts, .plaus, .cast, .lanes, .opal, .pw, .outLines, .joints, .ref,
     .reg, .comp, .mp, .fr, .dma, .beryl, .pfe, .axes, .ik, .flt, .therm, .cap, .commits, .mgmt, .usb, .twt,
     .twc, .out]
  | .arrayTemperatureRead .. =>
    [.regs, .force, .beryl, .out]
  | .logIntakeDrain .. =>
    [.nt]
  | .onyxReplyReady .. =>
    [.nt, .usb, .onyx, .out]
  | .onyxReplyTransfer .. =>
    [.usb, .out]

/-- The commands that come from Onyx's own wheels, seal switch, sensor and supply (R508, R510, R512, R516, R519). -/
def Sys2Proof.Instr.drivesOnyx : Instr → Bool
  | .onyxWheelCount .. | .sealPress | .onyxRetention | .powerGap | .coldStart .. | .tempStart .. | .tempEnd .. => true
  | _ => false

/-- The commands that Onyx works on by itself, on its own supply (R510). -/
def Sys2Proof.Instr.runsOnOnyx : Instr → Bool
  | .onyxIdent | .onyxReadState | .onyxReadAudit | .onyxJobMark | .onyxStageParam | .onyxStageRelease | .onyxClearStage
  | .onyxPush .. | .onyxReplyReady => true
  | c => c.drivesOnyx

/-- The commands that give the device its supplies or take them away (R580). -/
def Sys2Proof.Instr.movesSupply : Instr → Bool
  | .powerOnReset .. | .supplyFall => true
  | _ => false

/-- The commands that say the level of a pin whose level the device holds. -/
def Sys2Proof.Instr.setsPin : Instr → Bool
  | .encoderCount .. | .motHomeSwitch .. | .motBridgeFault .. | .usbVbusChange .. => true
  | _ => false

/-- The entries that Onyx has written between `o` and `t`, oldest first: those of the sequence numbers from HEAD of `o` on
(R521). -/
def Sys2Proof.Machine.Onyx.newEntries (o t : Onyx) : List AuditEntry :=
  (t.audit.take ((t.head + 2 ^ 32 - o.head) % 2 ^ 32)).reverse

/-- The step of a state with a command at the front of its queue is that command's effect, on the state with the queue's
rest: a register access acts as its field's type says when its turn comes (R6); the queue itself is the model's own, assumption log 6. -/
def Obligations.StepRunsTheFront : Prop :=
  ∀ (c : Instr) (l : List Instr) (s : State), s.pending = c :: l → step s = exec c { s with pending := l }

/-- The model's choice, assumption log 6: a step on an empty queue lets one ns pass (R47, R49): Onyx's own clock advances
always; the time base advances by one count, adjusted by TB_RATE, while the device has its supplies, and mailbox writes
become visible; nothing else changes. -/
def Obligations.EmptyQueueIdles : Prop :=
  ∀ (s : State), s.pending = [] → ∃ t, step s = .next t ∧ t.onyx = { s.onyx with clock := s.onyx.clock + 1 } ∧
    t.pending = [] ∧ OnlyChanges [.onyx, .tb, .regs, .mgmt] s t ∧
    (s.alive = false → t = { s with onyx := t.onyx }) ∧
    (s.alive = true → s.rd Reg.TB_RATE_PPB = 0 → s.tb.wf → t.tb = { s.tb with ns := (s.tb.ns + 1) % 2 ^ 64 }) ∧
    (s.mgmt.stores = [] → t.regs = s.regs ∧ t.mgmt = s.mgmt)

/-- The state after reset meets the invariants of the steps (R47, R520, R521): its registers and its time base, and Onyx. -/
def Obligations.ResetIsWellFormed : Prop := State.reset.wf ∧ State.reset.onyx.wf ∧ State.reset.pending = []

/-- Every command runs to a next state, whatever its operands and the state: no command of the model stops in a fault or a
refusal (R6: an access that the block does not perform is discarded, and R526, R359, R556: a request that is turned away is
answered). -/
def Obligations.EveryCommandCompletes : Prop := ∀ (c : Instr) (s : State), Completes c s fun _ => True

/-- Every step keeps the stored registers in their canonical form, each listed once and in order, and the time base a
64-bit counter with a 32-bit fraction (R47, R49). -/
def Obligations.EveryStepKeepsTheForm : Prop := ∀ (s t : State), s.wf → step s = .next t → t.wf

/-- Every step keeps what holds of Onyx (R518, R520, R521, R523): its counters are words, no more than 1,024 entries lie at
or above the released limit, the entries held are numbered without a gap up to the next SEQ, and each CHECK continues the
one before it. -/
def Obligations.OnyxInvariant : Prop := ∀ (s t : State), s.onyx.wf → step s = .next t → t.onyx.wf

/-- What each command leaves alone: every part of the block that its row does not name is the same after it as before;
among them always the queue of commands, so that a write acts on the fields that R6 gives it and no command acts on another that waits. -/
def Obligations.CommandFrames : Prop :=
  (∀ (c : Instr) (s t : State) (p : Part), exec c s = .next t → p ∉ c.writes → p.same s t) ∧
  ∀ c : Instr, Part.pending ∉ c.writes

/-- R18. Data from Onyx flows only outward: no command but those of Onyx's own wheels, seal switch, sensor and supply changes
a parameter in force, H and U and with them TOTAL and the unmetered length, an odometer, the event counter, the audit trail
with its released limit and its losses, the state, or the count of cold starts; a command frame and a job mark are among
those that do not. -/
def Obligations.OnyxIsolation : Prop :=
  ∀ (c : Instr) (s t : State), c.drivesOnyx = false → exec c s = .next t →
    t.onyx.params = s.onyx.params ∧ t.onyx.h = s.onyx.h ∧ t.onyx.u = s.onyx.u ∧ t.onyx.total = s.onyx.total ∧
    t.onyx.unmetered = s.onyx.unmetered ∧ t.onyx.wheel0 = s.onyx.wheel0 ∧ t.onyx.wheel1 = s.onyx.wheel1 ∧
    t.onyx.event = s.onyx.event ∧ t.onyx.audit = s.onyx.audit ∧ t.onyx.head = s.onyx.head ∧
    t.onyx.released = s.onyx.released ∧ t.onyx.overflow = s.onyx.overflow ∧ t.onyx.state = s.onyx.state ∧
    t.onyx.coldStarts = s.onyx.coldStarts ∧ t.onyx.power = s.onyx.power

/-- R520. The event counter increments by one for each parameter change that a press of the seal switch commits, and each
value after an increment stands in the PARAM_CHANGE entry of its change; no other command moves it but a cold start, which
starts it afresh. -/
def Obligations.EventCounter : Prop :=
  (∀ (c : Instr) (s t : State), exec c s = .next t → c ≠ .sealPress → (∀ a b, c ≠ .coldStart a b) →
    t.onyx.event = s.onyx.event) ∧
  (∀ (s t : State), s.onyx.wf → exec .sealPress s = .next t →
    ∀ changes, changes = (s.onyx.newEntries t.onyx).filter (fun e => e.kind == 3) →
      t.onyx.event = (s.onyx.event + changes.length) % 2 ^ 32 ∧
      changes.map (fun e => e.event) = (List.range changes.length).map (fun i => (s.onyx.event + i + 1) % 2 ^ 32) ∧
      (∀ id, id ∈ changes.map (fun e => e.param) ↔ 1 ≤ id ∧ id ≤ 9 ∧ t.onyx.param id ≠ s.onyx.param id))

/-- R524. A job mark that is well formed records TOTAL as the mark, increments the 32-bit JOB_NO and returns the record of
the job just ended, which the next push shows in the view; JOB is TOTAL less the mark; no audit entry is written and the
event counter stays. -/
def Obligations.JobMark : Prop :=
  ∀ (s : State) (b : List Nat), s.onyx.power = .operating → s.onyx.frame = some b → s.onyx.reply = none →
    b = [4, 2] → ∀ total : Int, total = s.onyx.h / 2 → ∀ no, no = s.onyx.jobNo →
    Completes .onyxJobMark s fun u =>
      u.onyx.mark = total ∧ u.onyx.jobNo = (no + 1) % 2 ^ 32 ∧ u.onyx.lastJob = ⟨no, s.onyx.mark, total, s.onyx.sec⟩ ∧
      u.onyx.reply = some ([0x84, 0, 28, 0] ++ leBytes 4 no ++ leBytes 4 (s.onyx.mark % 2 ^ 32).toNat ++
        leBytes 4 (s.onyx.mark / 2 ^ 32 % 2 ^ 32).toNat ++ leBytes 4 (total % 2 ^ 32).toNat ++
        leBytes 4 (total / 2 ^ 32 % 2 ^ 32).toNat ++ leBytes 4 s.onyx.sec) ∧
      u.onyx.audit = s.onyx.audit ∧ u.onyx.event = s.onyx.event ∧ u.onyx.job = u.onyx.total - u.onyx.mark ∧
      u.onyx.job = 0 ∧ u.onyx.total = total ∧ OnlyChanges [.onyx] s u ∧
      ∀ (temp vddMv : BitVec 16) (sw : Bool), u.alive = true → Completes (.onyxPush temp vddMv sw) u fun v =>
        v.rd Reg.LAST_JOB_JOB_NO = no % 2 ^ 32 ∧ v.rd Reg.LAST_JOB_START_LO = (s.onyx.mark % 2 ^ 32).toNat ∧
        v.rd Reg.LAST_JOB_START_HI = (s.onyx.mark / 2 ^ 32 % 2 ^ 32).toNat ∧
        v.rd Reg.LAST_JOB_END_LO = (total % 2 ^ 32).toNat ∧ v.rd Reg.LAST_JOB_END_HI = (total / 2 ^ 32 % 2 ^ 32).toNat ∧
        v.rd Reg.LAST_JOB_SEC = s.onyx.sec ∧ v.rd Reg.ONX_JOB_NO_VALUE = (no + 1) % 2 ^ 32

/-- R422, R510, R580. A device without its supplies does nothing: a command that is neither Onyx's, which has its own supply,
nor the return of the supplies leaves the state as it is, but for the level of the pin that it tells of; a command of Onyx
changes Onyx alone. -/
def Obligations.NoSupplyNoEffect : Prop :=
  ∀ (c : Instr) (s : State), s.alive = false → c.movesSupply = false → c ≠ .onyxReplyReady →
    Completes c s fun t =>
      (c.runsOnOnyx = true → OnlyChanges [.onyx] s t) ∧
      (c.runsOnOnyx = false → c.setsPin = false → t = s) ∧
      (c.setsPin = true → OnlyChanges [.encoders, .axes, .usb] s t)
end

