-- ==== Sys2Proof/Laws/State.lean ====
section
/-!
SUPPORT. The projections of the updates of the state: one lemma for each field and update, so that no proof unfolds a
record update.
-/

namespace Sys2Proof.Machine


/-! ## emit -/

@[simp] theorem State.emit_regs (s : State) (o : Output) : (s.emit o).regs = s.regs := rfl
@[simp] theorem State.emit_force (s : State) (o : Output) : (s.emit o).force = s.force := rfl
@[simp] theorem State.emit_shadow (s : State) (o : Output) : (s.emit o).shadow = s.shadow := rfl
@[simp] theorem State.emit_captures (s : State) (o : Output) : (s.emit o).captures = s.captures := rfl
@[simp] theorem State.emit_nt (s : State) (o : Output) : (s.emit o).nt = s.nt := rfl
@[simp] theorem State.emit_tb (s : State) (o : Output) : (s.emit o).tb = s.tb := rfl
@[simp] theorem State.emit_avs (s : State) (o : Output) : (s.emit o).avs = s.avs := rfl
@[simp] theorem State.emit_thin (s : State) (o : Output) : (s.emit o).thin = s.thin := rfl
@[simp] theorem State.emit_groups (s : State) (o : Output) : (s.emit o).groups = s.groups := rfl
@[simp] theorem State.emit_pawn (s : State) (o : Output) : (s.emit o).pawn = s.pawn := rfl
@[simp] theorem State.emit_encoders (s : State) (o : Output) : (s.emit o).encoders = s.encoders := rfl
@[simp] theorem State.emit_lt (s : State) (o : Output) : (s.emit o).lt = s.lt := rfl
@[simp] theorem State.emit_lines (s : State) (o : Output) : (s.emit o).lines = s.lines := rfl
@[simp] theorem State.emit_epochs (s : State) (o : Output) : (s.emit o).epochs = s.epochs := rfl
@[simp] theorem State.emit_converters (s : State) (o : Output) : (s.emit o).converters = s.converters := rfl
@[simp] theorem State.emit_buffers (s : State) (o : Output) : (s.emit o).buffers = s.buffers := rfl
@[simp] theorem State.emit_readouts (s : State) (o : Output) : (s.emit o).readouts = s.readouts := rfl
@[simp] theorem State.emit_plaus (s : State) (o : Output) : (s.emit o).plaus = s.plaus := rfl
@[simp] theorem State.emit_cast (s : State) (o : Output) : (s.emit o).cast = s.cast := rfl
@[simp] theorem State.emit_lanes (s : State) (o : Output) : (s.emit o).lanes = s.lanes := rfl
@[simp] theorem State.emit_opal (s : State) (o : Output) : (s.emit o).opal = s.opal := rfl
@[simp] theorem State.emit_pw (s : State) (o : Output) : (s.emit o).pw = s.pw := rfl
@[simp] theorem State.emit_outLines (s : State) (o : Output) : (s.emit o).outLines = s.outLines := rfl
@[simp] theorem State.emit_joints (s : State) (o : Output) : (s.emit o).joints = s.joints := rfl
@[simp] theorem State.emit_ref (s : State) (o : Output) : (s.emit o).ref = s.ref := rfl
@[simp] theorem State.emit_reg (s : State) (o : Output) : (s.emit o).reg = s.reg := rfl
@[simp] theorem State.emit_comp (s : State) (o : Output) : (s.emit o).comp = s.comp := rfl
@[simp] theorem State.emit_mp (s : State) (o : Output) : (s.emit o).mp = s.mp := rfl
@[simp] theorem State.emit_fr (s : State) (o : Output) : (s.emit o).fr = s.fr := rfl
@[simp] theorem State.emit_dma (s : State) (o : Output) : (s.emit o).dma = s.dma := rfl
@[simp] theorem State.emit_beryl (s : State) (o : Output) : (s.emit o).beryl = s.beryl := rfl
@[simp] theorem State.emit_pfe (s : State) (o : Output) : (s.emit o).pfe = s.pfe := rfl
@[simp] theorem State.emit_axes (s : State) (o : Output) : (s.emit o).axes = s.axes := rfl
@[simp] theorem State.emit_ik (s : State) (o : Output) : (s.emit o).ik = s.ik := rfl
@[simp] theorem State.emit_flt (s : State) (o : Output) : (s.emit o).flt = s.flt := rfl
@[simp] theorem State.emit_therm (s : State) (o : Output) : (s.emit o).therm = s.therm := rfl
@[simp] theorem State.emit_cap (s : State) (o : Output) : (s.emit o).cap = s.cap := rfl
@[simp] theorem State.emit_commits (s : State) (o : Output) : (s.emit o).commits = s.commits := rfl
@[simp] theorem State.emit_mgmt (s : State) (o : Output) : (s.emit o).mgmt = s.mgmt := rfl
@[simp] theorem State.emit_usb (s : State) (o : Output) : (s.emit o).usb = s.usb := rfl
@[simp] theorem State.emit_twt (s : State) (o : Output) : (s.emit o).twt = s.twt := rfl
@[simp] theorem State.emit_twc (s : State) (o : Output) : (s.emit o).twc = s.twc := rfl
@[simp] theorem State.emit_onyx (s : State) (o : Output) : (s.emit o).onyx = s.onyx := rfl
@[simp] theorem State.emit_fresh (s : State) (o : Output) : (s.emit o).fresh = s.fresh := rfl
@[simp] theorem State.emit_pending (s : State) (o : Output) : (s.emit o).pending = s.pending := rfl
@[simp] theorem State.emit_out (s : State) (o : Output) : (s.emit o).out = o :: s.out := rfl

/-! ## capture -/

@[simp] theorem State.capture_regs (s : State) (a p o v : Nat) : (s.capture a p o v).regs = s.regs := rfl
@[simp] theorem State.capture_force (s : State) (a p o v : Nat) : (s.capture a p o v).force = s.force := rfl
@[simp] theorem State.capture_shadow (s : State) (a p o v : Nat) : (s.capture a p o v).shadow = s.shadow := rfl
@[simp] theorem State.capture_nt (s : State) (a p o v : Nat) : (s.capture a p o v).nt = s.nt := rfl
@[simp] theorem State.capture_tb (s : State) (a p o v : Nat) : (s.capture a p o v).tb = s.tb := rfl
@[simp] theorem State.capture_avs (s : State) (a p o v : Nat) : (s.capture a p o v).avs = s.avs := rfl
@[simp] theorem State.capture_thin (s : State) (a p o v : Nat) : (s.capture a p o v).thin = s.thin := rfl
@[simp] theorem State.capture_groups (s : State) (a p o v : Nat) : (s.capture a p o v).groups = s.groups := rfl
@[simp] theorem State.capture_pawn (s : State) (a p o v : Nat) : (s.capture a p o v).pawn = s.pawn := rfl
@[simp] theorem State.capture_encoders (s : State) (a p o v : Nat) : (s.capture a p o v).encoders = s.encoders := rfl
@[simp] theorem State.capture_lt (s : State) (a p o v : Nat) : (s.capture a p o v).lt = s.lt := rfl
@[simp] theorem State.capture_lines (s : State) (a p o v : Nat) : (s.capture a p o v).lines = s.lines := rfl
@[simp] theorem State.capture_epochs (s : State) (a p o v : Nat) : (s.capture a p o v).epochs = s.epochs := rfl
@[simp] theorem State.capture_converters (s : State) (a p o v : Nat) : (s.capture a p o v).converters = s.converters := rfl
@[simp] theorem State.capture_buffers (s : State) (a p o v : Nat) : (s.capture a p o v).buffers = s.buffers := rfl
@[simp] theorem State.capture_readouts (s : State) (a p o v : Nat) : (s.capture a p o v).readouts = s.readouts := rfl
@[simp] theorem State.capture_plaus (s : State) (a p o v : Nat) : (s.capture a p o v).plaus = s.plaus := rfl
@[simp] theorem State.capture_cast (s : State) (a p o v : Nat) : (s.capture a p o v).cast = s.cast := rfl
@[simp] theorem State.capture_lanes (s : State) (a p o v : Nat) : (s.capture a p o v).lanes = s.lanes := rfl
@[simp] theorem State.capture_opal (s : State) (a p o v : Nat) : (s.capture a p o v).opal = s.opal := rfl
@[simp] theorem State.capture_pw (s : State) (a p o v : Nat) : (s.capture a p o v).pw = s.pw := rfl
@[simp] theorem State.capture_outLines (s : State) (a p o v : Nat) : (s.capture a p o v).outLines = s.outLines := rfl
@[simp] theorem State.capture_joints (s : State) (a p o v : Nat) : (s.capture a p o v).joints = s.joints := rfl
@[simp] theorem State.capture_ref (s : State) (a p o v : Nat) : (s.capture a p o v).ref = s.ref := rfl
@[simp] theorem State.capture_reg (s : State) (a p o v : Nat) : (s.capture a p o v).reg = s.reg := rfl
@[simp] theorem State.capture_comp (s : State) (a p o v : Nat) : (s.capture a p o v).comp = s.comp := rfl
@[simp] theorem State.capture_mp (s : State) (a p o v : Nat) : (s.capture a p o v).mp = s.mp := rfl
@[simp] theorem State.capture_fr (s : State) (a p o v : Nat) : (s.capture a p o v).fr = s.fr := rfl
@[simp] theorem State.capture_dma (s : State) (a p o v : Nat) : (s.capture a p o v).dma = s.dma := rfl
@[simp] theorem State.capture_beryl (s : State) (a p o v : Nat) : (s.capture a p o v).beryl = s.beryl := rfl
@[simp] theorem State.capture_pfe (s : State) (a p o v : Nat) : (s.capture a p o v).pfe = s.pfe := rfl
@[simp] theorem State.capture_axes (s : State) (a p o v : Nat) : (s.capture a p o v).axes = s.axes := rfl
@[simp] theorem State.capture_ik (s : State) (a p o v : Nat) : (s.capture a p o v).ik = s.ik := rfl
@[simp] theorem State.capture_flt (s : State) (a p o v : Nat) : (s.capture a p o v).flt = s.flt := rfl
@[simp] theorem State.capture_therm (s : State) (a p o v : Nat) : (s.capture a p o v).therm = s.therm := rfl
@[simp] theorem State.capture_cap (s : State) (a p o v : Nat) : (s.capture a p o v).cap = s.cap := rfl
@[simp] theorem State.capture_commits (s : State) (a p o v : Nat) : (s.capture a p o v).commits = s.commits := rfl
@[simp] theorem State.capture_mgmt (s : State) (a p o v : Nat) : (s.capture a p o v).mgmt = s.mgmt := rfl
@[simp] theorem State.capture_usb (s : State) (a p o v : Nat) : (s.capture a p o v).usb = s.usb := rfl
@[simp] theorem State.capture_twt (s : State) (a p o v : Nat) : (s.capture a p o v).twt = s.twt := rfl
@[simp] theorem State.capture_twc (s : State) (a p o v : Nat) : (s.capture a p o v).twc = s.twc := rfl
@[simp] theorem State.capture_onyx (s : State) (a p o v : Nat) : (s.capture a p o v).onyx = s.onyx := rfl
@[simp] theorem State.capture_fresh (s : State) (a p o v : Nat) : (s.capture a p o v).fresh = s.fresh := rfl
@[simp] theorem State.capture_out (s : State) (a p o v : Nat) : (s.capture a p o v).out = s.out := rfl
@[simp] theorem State.capture_pending (s : State) (a p o v : Nat) : (s.capture a p o v).pending = s.pending := rfl

/-! ## take -/

@[simp] theorem State.take_regs (s : State) (w : Nat) : (s.take w).1.regs = s.regs := rfl
@[simp] theorem State.take_force (s : State) (w : Nat) : (s.take w).1.force = s.force := rfl
@[simp] theorem State.take_shadow (s : State) (w : Nat) : (s.take w).1.shadow = s.shadow := rfl
@[simp] theorem State.take_captures (s : State) (w : Nat) : (s.take w).1.captures = s.captures := rfl
@[simp] theorem State.take_nt (s : State) (w : Nat) : (s.take w).1.nt = s.nt := rfl
@[simp] theorem State.take_tb (s : State) (w : Nat) : (s.take w).1.tb = s.tb := rfl
@[simp] theorem State.take_avs (s : State) (w : Nat) : (s.take w).1.avs = s.avs := rfl
@[simp] theorem State.take_thin (s : State) (w : Nat) : (s.take w).1.thin = s.thin := rfl
@[simp] theorem State.take_groups (s : State) (w : Nat) : (s.take w).1.groups = s.groups := rfl
@[simp] theorem State.take_pawn (s : State) (w : Nat) : (s.take w).1.pawn = s.pawn := rfl
@[simp] theorem State.take_encoders (s : State) (w : Nat) : (s.take w).1.encoders = s.encoders := rfl
@[simp] theorem State.take_lt (s : State) (w : Nat) : (s.take w).1.lt = s.lt := rfl
@[simp] theorem State.take_lines (s : State) (w : Nat) : (s.take w).1.lines = s.lines := rfl
@[simp] theorem State.take_epochs (s : State) (w : Nat) : (s.take w).1.epochs = s.epochs := rfl
@[simp] theorem State.take_converters (s : State) (w : Nat) : (s.take w).1.converters = s.converters := rfl
@[simp] theorem State.take_buffers (s : State) (w : Nat) : (s.take w).1.buffers = s.buffers := rfl
@[simp] theorem State.take_readouts (s : State) (w : Nat) : (s.take w).1.readouts = s.readouts := rfl
@[simp] theorem State.take_plaus (s : State) (w : Nat) : (s.take w).1.plaus = s.plaus := rfl
@[simp] theorem State.take_cast (s : State) (w : Nat) : (s.take w).1.cast = s.cast := rfl
@[simp] theorem State.take_lanes (s : State) (w : Nat) : (s.take w).1.lanes = s.lanes := rfl
@[simp] theorem State.take_opal (s : State) (w : Nat) : (s.take w).1.opal = s.opal := rfl
@[simp] theorem State.take_pw (s : State) (w : Nat) : (s.take w).1.pw = s.pw := rfl
@[simp] theorem State.take_outLines (s : State) (w : Nat) : (s.take w).1.outLines = s.outLines := rfl
@[simp] theorem State.take_joints (s : State) (w : Nat) : (s.take w).1.joints = s.joints := rfl
@[simp] theorem State.take_ref (s : State) (w : Nat) : (s.take w).1.ref = s.ref := rfl
@[simp] theorem State.take_reg (s : State) (w : Nat) : (s.take w).1.reg = s.reg := rfl
@[simp] theorem State.take_comp (s : State) (w : Nat) : (s.take w).1.comp = s.comp := rfl
@[simp] theorem State.take_mp (s : State) (w : Nat) : (s.take w).1.mp = s.mp := rfl
@[simp] theorem State.take_fr (s : State) (w : Nat) : (s.take w).1.fr = s.fr := rfl
@[simp] theorem State.take_dma (s : State) (w : Nat) : (s.take w).1.dma = s.dma := rfl
@[simp] theorem State.take_beryl (s : State) (w : Nat) : (s.take w).1.beryl = s.beryl := rfl
@[simp] theorem State.take_pfe (s : State) (w : Nat) : (s.take w).1.pfe = s.pfe := rfl
@[simp] theorem State.take_axes (s : State) (w : Nat) : (s.take w).1.axes = s.axes := rfl
@[simp] theorem State.take_ik (s : State) (w : Nat) : (s.take w).1.ik = s.ik := rfl
@[simp] theorem State.take_flt (s : State) (w : Nat) : (s.take w).1.flt = s.flt := rfl
@[simp] theorem State.take_therm (s : State) (w : Nat) : (s.take w).1.therm = s.therm := rfl
@[simp] theorem State.take_cap (s : State) (w : Nat) : (s.take w).1.cap = s.cap := rfl
@[simp] theorem State.take_commits (s : State) (w : Nat) : (s.take w).1.commits = s.commits := rfl
@[simp] theorem State.take_mgmt (s : State) (w : Nat) : (s.take w).1.mgmt = s.mgmt := rfl
@[simp] theorem State.take_usb (s : State) (w : Nat) : (s.take w).1.usb = s.usb := rfl
@[simp] theorem State.take_twt (s : State) (w : Nat) : (s.take w).1.twt = s.twt := rfl
@[simp] theorem State.take_twc (s : State) (w : Nat) : (s.take w).1.twc = s.twc := rfl
@[simp] theorem State.take_onyx (s : State) (w : Nat) : (s.take w).1.onyx = s.onyx := rfl
@[simp] theorem State.take_out (s : State) (w : Nat) : (s.take w).1.out = s.out := rfl
@[simp] theorem State.take_pending (s : State) (w : Nat) : (s.take w).1.pending = s.pending := rfl
@[simp] theorem State.take_fresh (s : State) (w : Nat) : (s.take w).1.fresh = s.fresh + 1 := rfl

/-! ## shadowWr -/

@[simp] theorem State.shadowWr_regs (s : State) (r : Row) (v k i j : Nat) : (s.shadowWr r v k i j).regs = s.regs := rfl
@[simp] theorem State.shadowWr_force (s : State) (r : Row) (v k i j : Nat) : (s.shadowWr r v k i j).force = s.force := rfl
@[simp] theorem State.shadowWr_captures (s : State) (r : Row) (v k i j : Nat) : (s.shadowWr r v k i j).captures = s.captures := rfl
@[simp] theorem State.shadowWr_nt (s : State) (r : Row) (v k i j : Nat) : (s.shadowWr r v k i j).nt = s.nt := rfl
@[simp] theorem State.shadowWr_tb (s : State) (r : Row) (v k i j : Nat) : (s.shadowWr r v k i j).tb = s.tb := rfl
@[simp] theorem State.shadowWr_avs (s : State) (r : Row) (v k i j : Nat) : (s.shadowWr r v k i j).avs = s.avs := rfl
@[simp] theorem State.shadowWr_thin (s : State) (r : Row) (v k i j : Nat) : (s.shadowWr r v k i j).thin = s.thin := rfl
@[simp] theorem State.shadowWr_groups (s : State) (r : Row) (v k i j : Nat) : (s.shadowWr r v k i j).groups = s.groups := rfl
@[simp] theorem State.shadowWr_pawn (s : State) (r : Row) (v k i j : Nat) : (s.shadowWr r v k i j).pawn = s.pawn := rfl
@[simp] theorem State.shadowWr_encoders (s : State) (r : Row) (v k i j : Nat) : (s.shadowWr r v k i j).encoders = s.encoders := rfl
@[simp] theorem State.shadowWr_lt (s : State) (r : Row) (v k i j : Nat) : (s.shadowWr r v k i j).lt = s.lt := rfl
@[simp] theorem State.shadowWr_lines (s : State) (r : Row) (v k i j : Nat) : (s.shadowWr r v k i j).lines = s.lines := rfl
@[simp] theorem State.shadowWr_epochs (s : State) (r : Row) (v k i j : Nat) : (s.shadowWr r v k i j).epochs = s.epochs := rfl
@[simp] theorem State.shadowWr_converters (s : State) (r : Row) (v k i j : Nat) : (s.shadowWr r v k i j).converters = s.converters := rfl
@[simp] theorem State.shadowWr_buffers (s : State) (r : Row) (v k i j : Nat) : (s.shadowWr r v k i j).buffers = s.buffers := rfl
@[simp] theorem State.shadowWr_readouts (s : State) (r : Row) (v k i j : Nat) : (s.shadowWr r v k i j).readouts = s.readouts := rfl
@[simp] theorem State.shadowWr_plaus (s : State) (r : Row) (v k i j : Nat) : (s.shadowWr r v k i j).plaus = s.plaus := rfl
@[simp] theorem State.shadowWr_cast (s : State) (r : Row) (v k i j : Nat) : (s.shadowWr r v k i j).cast = s.cast := rfl
@[simp] theorem State.shadowWr_lanes (s : State) (r : Row) (v k i j : Nat) : (s.shadowWr r v k i j).lanes = s.lanes := rfl
@[simp] theorem State.shadowWr_opal (s : State) (r : Row) (v k i j : Nat) : (s.shadowWr r v k i j).opal = s.opal := rfl
@[simp] theorem State.shadowWr_pw (s : State) (r : Row) (v k i j : Nat) : (s.shadowWr r v k i j).pw = s.pw := rfl
@[simp] theorem State.shadowWr_outLines (s : State) (r : Row) (v k i j : Nat) : (s.shadowWr r v k i j).outLines = s.outLines := rfl
@[simp] theorem State.shadowWr_joints (s : State) (r : Row) (v k i j : Nat) : (s.shadowWr r v k i j).joints = s.joints := rfl
@[simp] theorem State.shadowWr_ref (s : State) (r : Row) (v k i j : Nat) : (s.shadowWr r v k i j).ref = s.ref := rfl
@[simp] theorem State.shadowWr_reg (s : State) (r : Row) (v k i j : Nat) : (s.shadowWr r v k i j).reg = s.reg := rfl
@[simp] theorem State.shadowWr_comp (s : State) (r : Row) (v k i j : Nat) : (s.shadowWr r v k i j).comp = s.comp := rfl
@[simp] theorem State.shadowWr_mp (s : State) (r : Row) (v k i j : Nat) : (s.shadowWr r v k i j).mp = s.mp := rfl
@[simp] theorem State.shadowWr_fr (s : State) (r : Row) (v k i j : Nat) : (s.shadowWr r v k i j).fr = s.fr := rfl
@[simp] theorem State.shadowWr_dma (s : State) (r : Row) (v k i j : Nat) : (s.shadowWr r v k i j).dma = s.dma := rfl
@[simp] theorem State.shadowWr_beryl (s : State) (r : Row) (v k i j : Nat) : (s.shadowWr r v k i j).beryl = s.beryl := rfl
@[simp] theorem State.shadowWr_pfe (s : State) (r : Row) (v k i j : Nat) : (s.shadowWr r v k i j).pfe = s.pfe := rfl
@[simp] theorem State.shadowWr_axes (s : State) (r : Row) (v k i j : Nat) : (s.shadowWr r v k i j).axes = s.axes := rfl
@[simp] theorem State.shadowWr_ik (s : State) (r : Row) (v k i j : Nat) : (s.shadowWr r v k i j).ik = s.ik := rfl
@[simp] theorem State.shadowWr_flt (s : State) (r : Row) (v k i j : Nat) : (s.shadowWr r v k i j).flt = s.flt := rfl
@[simp] theorem State.shadowWr_therm (s : State) (r : Row) (v k i j : Nat) : (s.shadowWr r v k i j).therm = s.therm := rfl
@[simp] theorem State.shadowWr_cap (s : State) (r : Row) (v k i j : Nat) : (s.shadowWr r v k i j).cap = s.cap := rfl
@[simp] theorem State.shadowWr_commits (s : State) (r : Row) (v k i j : Nat) : (s.shadowWr r v k i j).commits = s.commits := rfl
@[simp] theorem State.shadowWr_mgmt (s : State) (r : Row) (v k i j : Nat) : (s.shadowWr r v k i j).mgmt = s.mgmt := rfl
@[simp] theorem State.shadowWr_usb (s : State) (r : Row) (v k i j : Nat) : (s.shadowWr r v k i j).usb = s.usb := rfl
@[simp] theorem State.shadowWr_twt (s : State) (r : Row) (v k i j : Nat) : (s.shadowWr r v k i j).twt = s.twt := rfl
@[simp] theorem State.shadowWr_twc (s : State) (r : Row) (v k i j : Nat) : (s.shadowWr r v k i j).twc = s.twc := rfl
@[simp] theorem State.shadowWr_onyx (s : State) (r : Row) (v k i j : Nat) : (s.shadowWr r v k i j).onyx = s.onyx := rfl
@[simp] theorem State.shadowWr_fresh (s : State) (r : Row) (v k i j : Nat) : (s.shadowWr r v k i j).fresh = s.fresh := rfl
@[simp] theorem State.shadowWr_out (s : State) (r : Row) (v k i j : Nat) : (s.shadowWr r v k i j).out = s.out := rfl
@[simp] theorem State.shadowWr_pending (s : State) (r : Row) (v k i j : Nat) : (s.shadowWr r v k i j).pending = s.pending := rfl

/-! ## wr -/

@[simp] theorem State.wr_shadow (s : State) (r : Row) (v k i j : Nat) : (s.wr r v k i j).shadow = s.shadow := by
  unfold State.wr; split <;> rfl
@[simp] theorem State.wr_captures (s : State) (r : Row) (v k i j : Nat) : (s.wr r v k i j).captures = s.captures := by
  unfold State.wr; split <;> rfl
@[simp] theorem State.wr_nt (s : State) (r : Row) (v k i j : Nat) : (s.wr r v k i j).nt = s.nt := by
  unfold State.wr; split <;> rfl
@[simp] theorem State.wr_tb (s : State) (r : Row) (v k i j : Nat) : (s.wr r v k i j).tb = s.tb := by
  unfold State.wr; split <;> rfl
@[simp] theorem State.wr_avs (s : State) (r : Row) (v k i j : Nat) : (s.wr r v k i j).avs = s.avs := by
  unfold State.wr; split <;> rfl
@[simp] theorem State.wr_thin (s : State) (r : Row) (v k i j : Nat) : (s.wr r v k i j).thin = s.thin := by
  unfold State.wr; split <;> rfl
@[simp] theorem State.wr_groups (s : State) (r : Row) (v k i j : Nat) : (s.wr r v k i j).groups = s.groups := by
  unfold State.wr; split <;> rfl
@[simp] theorem State.wr_pawn (s : State) (r : Row) (v k i j : Nat) : (s.wr r v k i j).pawn = s.pawn := by
  unfold State.wr; split <;> rfl
@[simp] theorem State.wr_encoders (s : State) (r : Row) (v k i j : Nat) : (s.wr r v k i j).encoders = s.encoders := by
  unfold State.wr; split <;> rfl
@[simp] theorem State.wr_lt (s : State) (r : Row) (v k i j : Nat) : (s.wr r v k i j).lt = s.lt := by
  unfold State.wr; split <;> rfl
@[simp] theorem State.wr_lines (s : State) (r : Row) (v k i j : Nat) : (s.wr r v k i j).lines = s.lines := by
  unfold State.wr; split <;> rfl
@[simp] theorem State.wr_epochs (s : State) (r : Row) (v k i j : Nat) : (s.wr r v k i j).epochs = s.epochs := by
  unfold State.wr; split <;> rfl
@[simp] theorem State.wr_converters (s : State) (r : Row) (v k i j : Nat) : (s.wr r v k i j).converters = s.converters := by
  unfold State.wr; split <;> rfl
@[simp] theorem State.wr_buffers (s : State) (r : Row) (v k i j : Nat) : (s.wr r v k i j).buffers = s.buffers := by
  unfold State.wr; split <;> rfl
@[simp] theorem State.wr_readouts (s : State) (r : Row) (v k i j : Nat) : (s.wr r v k i j).readouts = s.readouts := by
  unfold State.wr; split <;> rfl
@[simp] theorem State.wr_plaus (s : State) (r : Row) (v k i j : Nat) : (s.wr r v k i j).plaus = s.plaus := by
  unfold State.wr; split <;> rfl
@[simp] theorem State.wr_cast (s : State) (r : Row) (v k i j : Nat) : (s.wr r v k i j).cast = s.cast := by
  unfold State.wr; split <;> rfl
@[simp] theorem State.wr_lanes (s : State) (r : Row) (v k i j : Nat) : (s.wr r v k i j).lanes = s.lanes := by
  unfold State.wr; split <;> rfl
@[simp] theorem State.wr_opal (s : State) (r : Row) (v k i j : Nat) : (s.wr r v k i j).opal = s.opal := by
  unfold State.wr; split <;> rfl
@[simp] theorem State.wr_pw (s : State) (r : Row) (v k i j : Nat) : (s.wr r v k i j).pw = s.pw := by
  unfold State.wr; split <;> rfl
@[simp] theorem State.wr_outLines (s : State) (r : Row) (v k i j : Nat) : (s.wr r v k i j).outLines = s.outLines := by
  unfold State.wr; split <;> rfl
@[simp] theorem State.wr_joints (s : State) (r : Row) (v k i j : Nat) : (s.wr r v k i j).joints = s.joints := by
  unfold State.wr; split <;> rfl
@[simp] theorem State.wr_ref (s : State) (r : Row) (v k i j : Nat) : (s.wr r v k i j).ref = s.ref := by
  unfold State.wr; split <;> rfl
@[simp] theorem State.wr_reg (s : State) (r : Row) (v k i j : Nat) : (s.wr r v k i j).reg = s.reg := by
  unfold State.wr; split <;> rfl
@[simp] theorem State.wr_comp (s : State) (r : Row) (v k i j : Nat) : (s.wr r v k i j).comp = s.comp := by
  unfold State.wr; split <;> rfl
@[simp] theorem State.wr_mp (s : State) (r : Row) (v k i j : Nat) : (s.wr r v k i j).mp = s.mp := by
  unfold State.wr; split <;> rfl
@[simp] theorem State.wr_fr (s : State) (r : Row) (v k i j : Nat) : (s.wr r v k i j).fr = s.fr := by
  unfold State.wr; split <;> rfl
@[simp] theorem State.wr_dma (s : State) (r : Row) (v k i j : Nat) : (s.wr r v k i j).dma = s.dma := by
  unfold State.wr; split <;> rfl
@[simp] theorem State.wr_beryl (s : State) (r : Row) (v k i j : Nat) : (s.wr r v k i j).beryl = s.beryl := by
  unfold State.wr; split <;> rfl
@[simp] theorem State.wr_pfe (s : State) (r : Row) (v k i j : Nat) : (s.wr r v k i j).pfe = s.pfe := by
  unfold State.wr; split <;> rfl
@[simp] theorem State.wr_axes (s : State) (r : Row) (v k i j : Nat) : (s.wr r v k i j).axes = s.axes := by
  unfold State.wr; split <;> rfl
@[simp] theorem State.wr_ik (s : State) (r : Row) (v k i j : Nat) : (s.wr r v k i j).ik = s.ik := by
  unfold State.wr; split <;> rfl
@[simp] theorem State.wr_flt (s : State) (r : Row) (v k i j : Nat) : (s.wr r v k i j).flt = s.flt := by
  unfold State.wr; split <;> rfl
@[simp] theorem State.wr_therm (s : State) (r : Row) (v k i j : Nat) : (s.wr r v k i j).therm = s.therm := by
  unfold State.wr; split <;> rfl
@[simp] theorem State.wr_cap (s : State) (r : Row) (v k i j : Nat) : (s.wr r v k i j).cap = s.cap := by
  unfold State.wr; split <;> rfl
@[simp] theorem State.wr_commits (s : State) (r : Row) (v k i j : Nat) : (s.wr r v k i j).commits = s.commits := by
  unfold State.wr; split <;> rfl
@[simp] theorem State.wr_mgmt (s : State) (r : Row) (v k i j : Nat) : (s.wr r v k i j).mgmt = s.mgmt := by
  unfold State.wr; split <;> rfl
@[simp] theorem State.wr_usb (s : State) (r : Row) (v k i j : Nat) : (s.wr r v k i j).usb = s.usb := by
  unfold State.wr; split <;> rfl
@[simp] theorem State.wr_twt (s : State) (r : Row) (v k i j : Nat) : (s.wr r v k i j).twt = s.twt := by
  unfold State.wr; split <;> rfl
@[simp] theorem State.wr_twc (s : State) (r : Row) (v k i j : Nat) : (s.wr r v k i j).twc = s.twc := by
  unfold State.wr; split <;> rfl
@[simp] theorem State.wr_onyx (s : State) (r : Row) (v k i j : Nat) : (s.wr r v k i j).onyx = s.onyx := by
  unfold State.wr; split <;> rfl
@[simp] theorem State.wr_fresh (s : State) (r : Row) (v k i j : Nat) : (s.wr r v k i j).fresh = s.fresh := by
  unfold State.wr; split <;> rfl
@[simp] theorem State.wr_out (s : State) (r : Row) (v k i j : Nat) : (s.wr r v k i j).out = s.out := by
  unfold State.wr; split <;> rfl
@[simp] theorem State.wr_pending (s : State) (r : Row) (v k i j : Nat) : (s.wr r v k i j).pending = s.pending := by
  unfold State.wr; split <;> rfl

theorem State.wr_eq (s : State) (r : Row) (v k i j : Nat) :
    s.wr r v k i j = { s with regs := (s.wr r v k i j).regs, force := (s.wr r v k i j).force } := by
  unfold State.wr; split <;> rfl

/-! ## Conditions and loops -/

@[simp] theorem State.when_true (s : State) (f : State → State) : s.when true f = f s := rfl
@[simp] theorem State.when_false (s : State) (f : State → State) : s.when false f = s := rfl

theorem State.when_proj {α : Type} (g : State → α) (s : State) (b : Bool) (f : State → State) (h : g (f s) = g s) :
    g (s.when b f) = g s := by cases b <;> simp [h]

theorem State.each_proj {α β : Type} (g : State → β) (f : State → α → State) (h : ∀ s a, g (f s a) = g s) (l : List α)
    (s : State) : g (s.each l f) = g s := by
  unfold State.each
  induction l generalizing s with
  | nil => rfl
  | cons a l ih => simp [List.foldl_cons, ih, h]

@[simp] theorem State.each_nil {α : Type} (s : State) (f : State → α → State) : s.each [] f = s := rfl
@[simp] theorem State.each_cons {α : Type} (s : State) (a : α) (l : List α) (f : State → α → State) :
    s.each (a :: l) f = (f s a).each l f := rfl

theorem State.powered_alive {s : State} (h : s.alive = true) (f : State → State) : s.powered f = f s := by
  simp [State.powered, h]

theorem State.powered_dead {s : State} (h : s.alive = false) (f : State → State) : s.powered f = s := by
  simp [State.powered, h]

end Sys2Proof.Machine
end

