-- ==== Sys2Proof/Laws/Store.lean ====
section
/-!
SUPPORT. The sparse tables and the fields of the register map: what a read gives after a write, and the canonical form
(indexes strictly rising, no entry equal to what an unlisted index reads as) that every write keeps.
-/

namespace Sys2Proof.Machine

/-! ## Tables -/

@[simp] theorem tfind_tput_self {α : Type} (k : Nat) (v : α) (t : Table α) : tfind k (tput k v t) = some v := by
  induction t with
  | nil => simp [tput, tfind]
  | cons e t ih =>
    obtain ⟨i, w⟩ := e
    unfold tput
    split
    · have : i ≠ k := by omega
      simp [tfind, this, ih]
    · split <;> simp [tfind]

theorem tfind_tput_ne {α : Type} {j k : Nat} (h : j ≠ k) (v : α) (t : Table α) : tfind j (tput k v t) = tfind j t := by
  induction t with
  | nil => simp [tput, tfind, Ne.symm h]
  | cons e t ih =>
    obtain ⟨i, w⟩ := e
    unfold tput
    split
    · simp [tfind, ih]
    · split
      · have : i ≠ j := by omega
        simp [tfind, Ne.symm h, this]
      · simp [tfind, Ne.symm h]

@[simp] theorem tfind_tdel_self {α : Type} (k : Nat) (t : Table α) : tfind k (tdel k t) = none := by
  induction t with
  | nil => rfl
  | cons e t ih =>
    obtain ⟨i, w⟩ := e
    unfold tdel
    split
    · exact ih
    · next h => simp [tfind, h, ih]

theorem tfind_tdel_ne {α : Type} {j k : Nat} (h : j ≠ k) (t : Table α) : tfind j (tdel k t) = tfind j t := by
  induction t with
  | nil => rfl
  | cons e t ih =>
    obtain ⟨i, w⟩ := e
    unfold tdel
    split
    · next hi => subst hi; simp [tfind, Ne.symm h, ih]
    · simp [tfind, ih]

@[simp] theorem sget_sput_self (t : Store) (k v d : Nat) : sget (sput t k v d) k d = v := by
  unfold sget sput
  split
  · next h => simp [h]
  · simp

theorem sget_sput_ne {j k : Nat} (h : j ≠ k) (t : Store) (v d e : Nat) : sget (sput t k v d) j e = sget t j e := by
  unfold sget sput
  split
  · rw [tfind_tdel_ne h]
  · rw [tfind_tput_ne h]

/-! ## Canonical form -/

theorem rising_mono {α : Type} {a b : Nat} (h : a ≤ b) : (t : Table α) → Table.rising b t = true → Table.rising a t = true
  | [], _ => rfl
  | (i, _) :: t, hr => by
    simp only [Table.rising, Bool.and_eq_true, decide_eq_true_eq] at hr ⊢
    exact ⟨by omega, hr.2⟩

theorem rising_tput {α : Type} (k : Nat) (v : α) :
    (lo : Nat) → (t : Table α) → lo ≤ k → Table.rising lo t = true → Table.rising lo (tput k v t) = true
  | lo, [], h, _ => by simp [tput, Table.rising, h]
  | lo, (i, w) :: t, h, hr => by
    simp only [Table.rising, Bool.and_eq_true, decide_eq_true_eq] at hr
    unfold tput
    split
    · next hi =>
      simp only [Table.rising, Bool.and_eq_true, decide_eq_true_eq]
      exact ⟨hr.1, rising_tput k v (i + 1) t (by omega) hr.2⟩
    · split
      · next hi => subst hi; simp [Table.rising, h, hr.2]
      · next h1 h2 =>
        simp only [Table.rising, Bool.and_eq_true, decide_eq_true_eq]
        exact ⟨h, by omega, hr.2⟩

theorem rising_tdel {α : Type} (k : Nat) :
    (lo : Nat) → (t : Table α) → Table.rising lo t = true → Table.rising lo (tdel k t) = true
  | _, [], _ => rfl
  | lo, (i, w) :: t, hr => by
    simp only [Table.rising, Bool.and_eq_true, decide_eq_true_eq] at hr
    unfold tdel
    split
    · exact rising_mono (by omega) _ (rising_tdel k (i + 1) t hr.2)
    · simp only [Table.rising, Bool.and_eq_true, decide_eq_true_eq]
      exact ⟨hr.1, rising_tdel k (i + 1) t hr.2⟩

theorem rising_sput (t : Store) (k v d : Nat) (h : Table.rising 0 t = true) : Table.rising 0 (sput t k v d) = true := by
  unfold sput
  split
  · exact rising_tdel k 0 t h
  · exact rising_tput k v 0 t (Nat.zero_le k) h

/-! ## Fields -/

@[simp] theorem State.rd_wr_self (s : State) (r : Row) (v k i j : Nat) :
    (s.wr r v k i j).rd r k i j = v % 2 ^ r.width := by
  unfold State.wr State.rd State.store
  split <;> simp [regsPut]

theorem State.rd_wr_ne (s : State) (r q : Row) (v k i j a b c : Nat) (h : q.key a b c ≠ r.key k i j) :
    (s.wr r v k i j).rd q a b c = s.rd q a b c := by
  unfold State.wr State.rd State.store
  split <;> split <;> simp [regsPut, sget_sput_ne h]

/-- Two rows of different access class never share a store. -/
theorem State.rd_wr_other (s : State) (r q : Row) (v k i j a b c : Nat) (h : (q.access = .sh) ≠ (r.access = .sh)) :
    (s.wr r v k i j).rd q a b c = s.rd q a b c := by
  unfold State.wr State.rd State.store
  split <;> split <;> simp_all

@[simp] theorem State.shadowRd_wr (s : State) (r q : Row) (v k i j a b c : Nat) :
    (s.wr r v k i j).shadowRd q a b c = s.shadowRd q a b c := by simp [State.shadowRd]

@[simp] theorem State.shadowRd_shadowWr_self (s : State) (r : Row) (v k i j : Nat) :
    (s.shadowWr r v k i j).shadowRd r k i j = v % 2 ^ r.width := by simp [State.shadowRd, State.shadowWr, regsPut]

@[simp] theorem State.rd_shadowWr (s : State) (r q : Row) (v k i j a b c : Nat) :
    (s.shadowWr r v k i j).rd q a b c = s.rd q a b c := by simp [State.rd, State.store]

@[simp] theorem State.rd_emit (s : State) (o : Output) (q : Row) (a b c : Nat) : (s.emit o).rd q a b c = s.rd q a b c := by
  simp [State.rd, State.store]

@[simp] theorem State.rd_capture (s : State) (x p o v : Nat) (q : Row) (a b c : Nat) :
    (s.capture x p o v).rd q a b c = s.rd q a b c := by simp [State.rd, State.store]

@[simp] theorem State.captured_capture_self (s : State) (a p o v : Nat) : (s.capture a p o v).captured a p o = v % 2 ^ 32 := by
  simp [State.captured, State.capture]

/-- Captures of different agents never disturb one another. -/
theorem State.captured_capture_ne (s : State) (a p o v b q u : Nat) (h : (b * 8192 + q) * 4096 + u ≠ (a * 8192 + p) * 4096 + o) :
    (s.capture a p o v).captured b q u = s.captured b q u := by
  simp [State.captured, State.capture, sget_sput_ne h]

end Sys2Proof.Machine
end

