-- ==== Sys2Proof/Laws/Notify.lean ====
section
/-!
SUPPORT. The operations of Notify change `nt` and `out` and nothing else: one equation for each, and what it means for
every other field and for a read of the register map.
-/

namespace Sys2Proof.Machine

theorem Told.refl (s : State) : Told s s := rfl

theorem Told.trans {a b c : State} (h : Told a b) (g : Told b c) : Told a c := by
  unfold Told at *
  rw [g, h]

theorem told_withIc (s : State) (f : IcOut → IcOut) : Told s (s.withIc f) := rfl
theorem told_nt (s : State) (n : Notify) : Told s { s with nt := n } := rfl
theorem told_emit (s : State) (o : Output) : Told s (s.emit o) := rfl

theorem told_when (s : State) (b : Bool) (f : State → State) (h : Told s (f s)) : Told s (s.when b f) := by
  cases b
  · exact Told.refl s
  · exact h

theorem told_foldl {α : Type} (f : State → α → State) (h : ∀ s a, Told s (f s a)) (l : List α) (s : State) :
    Told s (l.foldl f s) := by
  induction l generalizing s with
  | nil => exact Told.refl s
  | cons a l ih => exact (h s a).trans (ih _)

theorem told_icRaise (s : State) (c src : Nat) : Told s (s.icRaise c src) := by
  exact told_withIc _ _

theorem told_mgmtRaise (s : State) (src : Nat) : Told s (s.mgmtRaise src) := by
  exact told_icRaise _ _ _

theorem told_pageSource (s : State) (p : Nat) : Told s (s.pageSource p) := by
  unfold State.pageSource
  refine told_foldl _ (fun s c => ?_) _ _
  split
  · exact told_withIc _ _
  · split
    · exact told_withIc _ _
    · exact Told.refl _

theorem told_putEvents (s : State) (p v : Nat) : Told s (s.putEvents p v) := by
  unfold State.putEvents
  dsimp only
  split
  · exact told_nt _ _
  · exact (told_nt _ _).trans (told_pageSource _ _)

theorem told_raise (s : State) (e : Event) (k : Nat) : Told s (s.raise e k) := by
  exact told_putEvents _ _ _

theorem told_usbMessage (s : State) (kind a b : Nat) : Told s (s.usbMessage kind a b) := by
  unfold State.usbMessage
  dsimp only
  repeat' split
  all_goals first
    | exact Told.refl _
    | exact told_nt _ _
    | exact (told_nt _ _).trans (told_raise _ _ _)

theorem told_logTake (s : State) (b : LogBody) : Told s (s.logTake b) := by
  unfold State.logTake
  dsimp only
  split
  · exact (told_nt _ _).trans (told_usbMessage _ _ _ _)
  · exact told_nt _ _

theorem told_logDrop (s : State) : Told s (s.logDrop) := by
  exact (told_nt _ _).trans (told_raise _ _ _)

theorem told_log (s : State) (b : LogBody) : Told s (s.log b) := by
  unfold State.log
  dsimp only
  split
  · split
    · exact told_logTake _ _
    · exact told_logDrop _
  · split
    · exact ((told_logTake _ _).trans (told_nt _ _)).trans (told_logTake _ _)
    · exact told_logDrop _

theorem told_putAlerts (s : State) (a : Alerts) : Told s (s.putAlerts a) := by
  unfold State.putAlerts
  dsimp only
  split
  · exact ((told_nt _ _).trans (told_emit _ _)).trans (told_raise _ _ _)
  · split
    · exact (told_nt _ _).trans (told_emit _ _)
    · exact told_nt _ _

theorem told_alert (s : State) (n : Nat) : Told s (s.alert n) := by
  unfold State.alert
  dsimp only
  split
  · exact Told.refl _
  · exact told_putAlerts _ _

theorem told_alertClear (s : State) (m : Nat) : Told s (s.alertClear m) := by
  exact told_putAlerts _ _

/-! ## What it means for the fields -/

theorem Told.regs {s t : State} (h : Told s t) : t.regs = s.regs := by rw [h]
theorem Told.force {s t : State} (h : Told s t) : t.force = s.force := by rw [h]
theorem Told.shadow {s t : State} (h : Told s t) : t.shadow = s.shadow := by rw [h]
theorem Told.captures {s t : State} (h : Told s t) : t.captures = s.captures := by rw [h]
theorem Told.tb {s t : State} (h : Told s t) : t.tb = s.tb := by rw [h]
theorem Told.avs {s t : State} (h : Told s t) : t.avs = s.avs := by rw [h]
theorem Told.thin {s t : State} (h : Told s t) : t.thin = s.thin := by rw [h]
theorem Told.groups {s t : State} (h : Told s t) : t.groups = s.groups := by rw [h]
theorem Told.pawn {s t : State} (h : Told s t) : t.pawn = s.pawn := by rw [h]
theorem Told.encoders {s t : State} (h : Told s t) : t.encoders = s.encoders := by rw [h]
theorem Told.lt {s t : State} (h : Told s t) : t.lt = s.lt := by rw [h]
theorem Told.lines {s t : State} (h : Told s t) : t.lines = s.lines := by rw [h]
theorem Told.epochs {s t : State} (h : Told s t) : t.epochs = s.epochs := by rw [h]
theorem Told.converters {s t : State} (h : Told s t) : t.converters = s.converters := by rw [h]
theorem Told.buffers {s t : State} (h : Told s t) : t.buffers = s.buffers := by rw [h]
theorem Told.readouts {s t : State} (h : Told s t) : t.readouts = s.readouts := by rw [h]
theorem Told.plaus {s t : State} (h : Told s t) : t.plaus = s.plaus := by rw [h]
theorem Told.cast {s t : State} (h : Told s t) : t.cast = s.cast := by rw [h]
theorem Told.lanes {s t : State} (h : Told s t) : t.lanes = s.lanes := by rw [h]
theorem Told.opal {s t : State} (h : Told s t) : t.opal = s.opal := by rw [h]
theorem Told.pw {s t : State} (h : Told s t) : t.pw = s.pw := by rw [h]
theorem Told.outLines {s t : State} (h : Told s t) : t.outLines = s.outLines := by rw [h]
theorem Told.joints {s t : State} (h : Told s t) : t.joints = s.joints := by rw [h]
theorem Told.ref {s t : State} (h : Told s t) : t.ref = s.ref := by rw [h]
theorem Told.reg {s t : State} (h : Told s t) : t.reg = s.reg := by rw [h]
theorem Told.comp {s t : State} (h : Told s t) : t.comp = s.comp := by rw [h]
theorem Told.mp {s t : State} (h : Told s t) : t.mp = s.mp := by rw [h]
theorem Told.fr {s t : State} (h : Told s t) : t.fr = s.fr := by rw [h]
theorem Told.dma {s t : State} (h : Told s t) : t.dma = s.dma := by rw [h]
theorem Told.beryl {s t : State} (h : Told s t) : t.beryl = s.beryl := by rw [h]
theorem Told.pfe {s t : State} (h : Told s t) : t.pfe = s.pfe := by rw [h]
theorem Told.axes {s t : State} (h : Told s t) : t.axes = s.axes := by rw [h]
theorem Told.ik {s t : State} (h : Told s t) : t.ik = s.ik := by rw [h]
theorem Told.flt {s t : State} (h : Told s t) : t.flt = s.flt := by rw [h]
theorem Told.therm {s t : State} (h : Told s t) : t.therm = s.therm := by rw [h]
theorem Told.cap {s t : State} (h : Told s t) : t.cap = s.cap := by rw [h]
theorem Told.commits {s t : State} (h : Told s t) : t.commits = s.commits := by rw [h]
theorem Told.mgmt {s t : State} (h : Told s t) : t.mgmt = s.mgmt := by rw [h]
theorem Told.usb {s t : State} (h : Told s t) : t.usb = s.usb := by rw [h]
theorem Told.twt {s t : State} (h : Told s t) : t.twt = s.twt := by rw [h]
theorem Told.twc {s t : State} (h : Told s t) : t.twc = s.twc := by rw [h]
theorem Told.onyx {s t : State} (h : Told s t) : t.onyx = s.onyx := by rw [h]
theorem Told.fresh {s t : State} (h : Told s t) : t.fresh = s.fresh := by rw [h]
theorem Told.pending {s t : State} (h : Told s t) : t.pending = s.pending := by rw [h]
theorem Told.rd {s t : State} (h : Told s t) (q : Row) (a b c : Nat) : t.rd q a b c = s.rd q a b c := by
  simp [State.rd, State.store, h.regs, h.force]
theorem Told.shadowRd {s t : State} (h : Told s t) (q : Row) (a b c : Nat) : t.shadowRd q a b c = s.shadowRd q a b c := by
  simp [State.shadowRd, h.shadow]

@[simp] theorem State.icRaise_regs (s : State) (c src : Nat) : (s.icRaise c src).regs = s.regs := (told_icRaise _ _ _).regs
@[simp] theorem State.icRaise_force (s : State) (c src : Nat) : (s.icRaise c src).force = s.force := (told_icRaise _ _ _).force
@[simp] theorem State.icRaise_shadow (s : State) (c src : Nat) : (s.icRaise c src).shadow = s.shadow := (told_icRaise _ _ _).shadow
@[simp] theorem State.icRaise_captures (s : State) (c src : Nat) : (s.icRaise c src).captures = s.captures := (told_icRaise _ _ _).captures
@[simp] theorem State.icRaise_tb (s : State) (c src : Nat) : (s.icRaise c src).tb = s.tb := (told_icRaise _ _ _).tb
@[simp] theorem State.icRaise_avs (s : State) (c src : Nat) : (s.icRaise c src).avs = s.avs := (told_icRaise _ _ _).avs
@[simp] theorem State.icRaise_thin (s : State) (c src : Nat) : (s.icRaise c src).thin = s.thin := (told_icRaise _ _ _).thin
@[simp] theorem State.icRaise_groups (s : State) (c src : Nat) : (s.icRaise c src).groups = s.groups := (told_icRaise _ _ _).groups
@[simp] theorem State.icRaise_pawn (s : State) (c src : Nat) : (s.icRaise c src).pawn = s.pawn := (told_icRaise _ _ _).pawn
@[simp] theorem State.icRaise_encoders (s : State) (c src : Nat) : (s.icRaise c src).encoders = s.encoders := (told_icRaise _ _ _).encoders
@[simp] theorem State.icRaise_lt (s : State) (c src : Nat) : (s.icRaise c src).lt = s.lt := (told_icRaise _ _ _).lt
@[simp] theorem State.icRaise_lines (s : State) (c src : Nat) : (s.icRaise c src).lines = s.lines := (told_icRaise _ _ _).lines
@[simp] theorem State.icRaise_epochs (s : State) (c src : Nat) : (s.icRaise c src).epochs = s.epochs := (told_icRaise _ _ _).epochs
@[simp] theorem State.icRaise_converters (s : State) (c src : Nat) : (s.icRaise c src).converters = s.converters := (told_icRaise _ _ _).converters
@[simp] theorem State.icRaise_buffers (s : State) (c src : Nat) : (s.icRaise c src).buffers = s.buffers := (told_icRaise _ _ _).buffers
@[simp] theorem State.icRaise_readouts (s : State) (c src : Nat) : (s.icRaise c src).readouts = s.readouts := (told_icRaise _ _ _).readouts
@[simp] theorem State.icRaise_plaus (s : State) (c src : Nat) : (s.icRaise c src).plaus = s.plaus := (told_icRaise _ _ _).plaus
@[simp] theorem State.icRaise_cast (s : State) (c src : Nat) : (s.icRaise c src).cast = s.cast := (told_icRaise _ _ _).cast
@[simp] theorem State.icRaise_lanes (s : State) (c src : Nat) : (s.icRaise c src).lanes = s.lanes := (told_icRaise _ _ _).lanes
@[simp] theorem State.icRaise_opal (s : State) (c src : Nat) : (s.icRaise c src).opal = s.opal := (told_icRaise _ _ _).opal
@[simp] theorem State.icRaise_pw (s : State) (c src : Nat) : (s.icRaise c src).pw = s.pw := (told_icRaise _ _ _).pw
@[simp] theorem State.icRaise_outLines (s : State) (c src : Nat) : (s.icRaise c src).outLines = s.outLines := (told_icRaise _ _ _).outLines
@[simp] theorem State.icRaise_joints (s : State) (c src : Nat) : (s.icRaise c src).joints = s.joints := (told_icRaise _ _ _).joints
@[simp] theorem State.icRaise_ref (s : State) (c src : Nat) : (s.icRaise c src).ref = s.ref := (told_icRaise _ _ _).ref
@[simp] theorem State.icRaise_reg (s : State) (c src : Nat) : (s.icRaise c src).reg = s.reg := (told_icRaise _ _ _).reg
@[simp] theorem State.icRaise_comp (s : State) (c src : Nat) : (s.icRaise c src).comp = s.comp := (told_icRaise _ _ _).comp
@[simp] theorem State.icRaise_mp (s : State) (c src : Nat) : (s.icRaise c src).mp = s.mp := (told_icRaise _ _ _).mp
@[simp] theorem State.icRaise_fr (s : State) (c src : Nat) : (s.icRaise c src).fr = s.fr := (told_icRaise _ _ _).fr
@[simp] theorem State.icRaise_dma (s : State) (c src : Nat) : (s.icRaise c src).dma = s.dma := (told_icRaise _ _ _).dma
@[simp] theorem State.icRaise_beryl (s : State) (c src : Nat) : (s.icRaise c src).beryl = s.beryl := (told_icRaise _ _ _).beryl
@[simp] theorem State.icRaise_pfe (s : State) (c src : Nat) : (s.icRaise c src).pfe = s.pfe := (told_icRaise _ _ _).pfe
@[simp] theorem State.icRaise_axes (s : State) (c src : Nat) : (s.icRaise c src).axes = s.axes := (told_icRaise _ _ _).axes
@[simp] theorem State.icRaise_ik (s : State) (c src : Nat) : (s.icRaise c src).ik = s.ik := (told_icRaise _ _ _).ik
@[simp] theorem State.icRaise_flt (s : State) (c src : Nat) : (s.icRaise c src).flt = s.flt := (told_icRaise _ _ _).flt
@[simp] theorem State.icRaise_therm (s : State) (c src : Nat) : (s.icRaise c src).therm = s.therm := (told_icRaise _ _ _).therm
@[simp] theorem State.icRaise_cap (s : State) (c src : Nat) : (s.icRaise c src).cap = s.cap := (told_icRaise _ _ _).cap
@[simp] theorem State.icRaise_commits (s : State) (c src : Nat) : (s.icRaise c src).commits = s.commits := (told_icRaise _ _ _).commits
@[simp] theorem State.icRaise_mgmt (s : State) (c src : Nat) : (s.icRaise c src).mgmt = s.mgmt := (told_icRaise _ _ _).mgmt
@[simp] theorem State.icRaise_usb (s : State) (c src : Nat) : (s.icRaise c src).usb = s.usb := (told_icRaise _ _ _).usb
@[simp] theorem State.icRaise_twt (s : State) (c src : Nat) : (s.icRaise c src).twt = s.twt := (told_icRaise _ _ _).twt
@[simp] theorem State.icRaise_twc (s : State) (c src : Nat) : (s.icRaise c src).twc = s.twc := (told_icRaise _ _ _).twc
@[simp] theorem State.icRaise_onyx (s : State) (c src : Nat) : (s.icRaise c src).onyx = s.onyx := (told_icRaise _ _ _).onyx
@[simp] theorem State.icRaise_fresh (s : State) (c src : Nat) : (s.icRaise c src).fresh = s.fresh := (told_icRaise _ _ _).fresh
@[simp] theorem State.icRaise_pending (s : State) (c src : Nat) : (s.icRaise c src).pending = s.pending := (told_icRaise _ _ _).pending
@[simp] theorem State.rd_icRaise (s : State) (c src : Nat) (q : Row) (x y z : Nat) : (s.icRaise c src).rd q x y z = s.rd q x y z := (told_icRaise _ _ _).rd _ _ _ _
@[simp] theorem State.mgmtRaise_regs (s : State) (src : Nat) : (s.mgmtRaise src).regs = s.regs := (told_mgmtRaise _ _).regs
@[simp] theorem State.mgmtRaise_force (s : State) (src : Nat) : (s.mgmtRaise src).force = s.force := (told_mgmtRaise _ _).force
@[simp] theorem State.mgmtRaise_shadow (s : State) (src : Nat) : (s.mgmtRaise src).shadow = s.shadow := (told_mgmtRaise _ _).shadow
@[simp] theorem State.mgmtRaise_captures (s : State) (src : Nat) : (s.mgmtRaise src).captures = s.captures := (told_mgmtRaise _ _).captures
@[simp] theorem State.mgmtRaise_tb (s : State) (src : Nat) : (s.mgmtRaise src).tb = s.tb := (told_mgmtRaise _ _).tb
@[simp] theorem State.mgmtRaise_avs (s : State) (src : Nat) : (s.mgmtRaise src).avs = s.avs := (told_mgmtRaise _ _).avs
@[simp] theorem State.mgmtRaise_thin (s : State) (src : Nat) : (s.mgmtRaise src).thin = s.thin := (told_mgmtRaise _ _).thin
@[simp] theorem State.mgmtRaise_groups (s : State) (src : Nat) : (s.mgmtRaise src).groups = s.groups := (told_mgmtRaise _ _).groups
@[simp] theorem State.mgmtRaise_pawn (s : State) (src : Nat) : (s.mgmtRaise src).pawn = s.pawn := (told_mgmtRaise _ _).pawn
@[simp] theorem State.mgmtRaise_encoders (s : State) (src : Nat) : (s.mgmtRaise src).encoders = s.encoders := (told_mgmtRaise _ _).encoders
@[simp] theorem State.mgmtRaise_lt (s : State) (src : Nat) : (s.mgmtRaise src).lt = s.lt := (told_mgmtRaise _ _).lt
@[simp] theorem State.mgmtRaise_lines (s : State) (src : Nat) : (s.mgmtRaise src).lines = s.lines := (told_mgmtRaise _ _).lines
@[simp] theorem State.mgmtRaise_epochs (s : State) (src : Nat) : (s.mgmtRaise src).epochs = s.epochs := (told_mgmtRaise _ _).epochs
@[simp] theorem State.mgmtRaise_converters (s : State) (src : Nat) : (s.mgmtRaise src).converters = s.converters := (told_mgmtRaise _ _).converters
@[simp] theorem State.mgmtRaise_buffers (s : State) (src : Nat) : (s.mgmtRaise src).buffers = s.buffers := (told_mgmtRaise _ _).buffers
@[simp] theorem State.mgmtRaise_readouts (s : State) (src : Nat) : (s.mgmtRaise src).readouts = s.readouts := (told_mgmtRaise _ _).readouts
@[simp] theorem State.mgmtRaise_plaus (s : State) (src : Nat) : (s.mgmtRaise src).plaus = s.plaus := (told_mgmtRaise _ _).plaus
@[simp] theorem State.mgmtRaise_cast (s : State) (src : Nat) : (s.mgmtRaise src).cast = s.cast := (told_mgmtRaise _ _).cast
@[simp] theorem State.mgmtRaise_lanes (s : State) (src : Nat) : (s.mgmtRaise src).lanes = s.lanes := (told_mgmtRaise _ _).lanes
@[simp] theorem State.mgmtRaise_opal (s : State) (src : Nat) : (s.mgmtRaise src).opal = s.opal := (told_mgmtRaise _ _).opal
@[simp] theorem State.mgmtRaise_pw (s : State) (src : Nat) : (s.mgmtRaise src).pw = s.pw := (told_mgmtRaise _ _).pw
@[simp] theorem State.mgmtRaise_outLines (s : State) (src : Nat) : (s.mgmtRaise src).outLines = s.outLines := (told_mgmtRaise _ _).outLines
@[simp] theorem State.mgmtRaise_joints (s : State) (src : Nat) : (s.mgmtRaise src).joints = s.joints := (told_mgmtRaise _ _).joints
@[simp] theorem State.mgmtRaise_ref (s : State) (src : Nat) : (s.mgmtRaise src).ref = s.ref := (told_mgmtRaise _ _).ref
@[simp] theorem State.mgmtRaise_reg (s : State) (src : Nat) : (s.mgmtRaise src).reg = s.reg := (told_mgmtRaise _ _).reg
@[simp] theorem State.mgmtRaise_comp (s : State) (src : Nat) : (s.mgmtRaise src).comp = s.comp := (told_mgmtRaise _ _).comp
@[simp] theorem State.mgmtRaise_mp (s : State) (src : Nat) : (s.mgmtRaise src).mp = s.mp := (told_mgmtRaise _ _).mp
@[simp] theorem State.mgmtRaise_fr (s : State) (src : Nat) : (s.mgmtRaise src).fr = s.fr := (told_mgmtRaise _ _).fr
@[simp] theorem State.mgmtRaise_dma (s : State) (src : Nat) : (s.mgmtRaise src).dma = s.dma := (told_mgmtRaise _ _).dma
@[simp] theorem State.mgmtRaise_beryl (s : State) (src : Nat) : (s.mgmtRaise src).beryl = s.beryl := (told_mgmtRaise _ _).beryl
@[simp] theorem State.mgmtRaise_pfe (s : State) (src : Nat) : (s.mgmtRaise src).pfe = s.pfe := (told_mgmtRaise _ _).pfe
@[simp] theorem State.mgmtRaise_axes (s : State) (src : Nat) : (s.mgmtRaise src).axes = s.axes := (told_mgmtRaise _ _).axes
@[simp] theorem State.mgmtRaise_ik (s : State) (src : Nat) : (s.mgmtRaise src).ik = s.ik := (told_mgmtRaise _ _).ik
@[simp] theorem State.mgmtRaise_flt (s : State) (src : Nat) : (s.mgmtRaise src).flt = s.flt := (told_mgmtRaise _ _).flt
@[simp] theorem State.mgmtRaise_therm (s : State) (src : Nat) : (s.mgmtRaise src).therm = s.therm := (told_mgmtRaise _ _).therm
@[simp] theorem State.mgmtRaise_cap (s : State) (src : Nat) : (s.mgmtRaise src).cap = s.cap := (told_mgmtRaise _ _).cap
@[simp] theorem State.mgmtRaise_commits (s : State) (src : Nat) : (s.mgmtRaise src).commits = s.commits := (told_mgmtRaise _ _).commits
@[simp] theorem State.mgmtRaise_mgmt (s : State) (src : Nat) : (s.mgmtRaise src).mgmt = s.mgmt := (told_mgmtRaise _ _).mgmt
@[simp] theorem State.mgmtRaise_usb (s : State) (src : Nat) : (s.mgmtRaise src).usb = s.usb := (told_mgmtRaise _ _).usb
@[simp] theorem State.mgmtRaise_twt (s : State) (src : Nat) : (s.mgmtRaise src).twt = s.twt := (told_mgmtRaise _ _).twt
@[simp] theorem State.mgmtRaise_twc (s : State) (src : Nat) : (s.mgmtRaise src).twc = s.twc := (told_mgmtRaise _ _).twc
@[simp] theorem State.mgmtRaise_onyx (s : State) (src : Nat) : (s.mgmtRaise src).onyx = s.onyx := (told_mgmtRaise _ _).onyx
@[simp] theorem State.mgmtRaise_fresh (s : State) (src : Nat) : (s.mgmtRaise src).fresh = s.fresh := (told_mgmtRaise _ _).fresh
@[simp] theorem State.mgmtRaise_pending (s : State) (src : Nat) : (s.mgmtRaise src).pending = s.pending := (told_mgmtRaise _ _).pending
@[simp] theorem State.rd_mgmtRaise (s : State) (src : Nat) (q : Row) (x y z : Nat) : (s.mgmtRaise src).rd q x y z = s.rd q x y z := (told_mgmtRaise _ _).rd _ _ _ _
@[simp] theorem State.pageSource_regs (s : State) (p : Nat) : (s.pageSource p).regs = s.regs := (told_pageSource _ _).regs
@[simp] theorem State.pageSource_force (s : State) (p : Nat) : (s.pageSource p).force = s.force := (told_pageSource _ _).force
@[simp] theorem State.pageSource_shadow (s : State) (p : Nat) : (s.pageSource p).shadow = s.shadow := (told_pageSource _ _).shadow
@[simp] theorem State.pageSource_captures (s : State) (p : Nat) : (s.pageSource p).captures = s.captures := (told_pageSource _ _).captures
@[simp] theorem State.pageSource_tb (s : State) (p : Nat) : (s.pageSource p).tb = s.tb := (told_pageSource _ _).tb
@[simp] theorem State.pageSource_avs (s : State) (p : Nat) : (s.pageSource p).avs = s.avs := (told_pageSource _ _).avs
@[simp] theorem State.pageSource_thin (s : State) (p : Nat) : (s.pageSource p).thin = s.thin := (told_pageSource _ _).thin
@[simp] theorem State.pageSource_groups (s : State) (p : Nat) : (s.pageSource p).groups = s.groups := (told_pageSource _ _).groups
@[simp] theorem State.pageSource_pawn (s : State) (p : Nat) : (s.pageSource p).pawn = s.pawn := (told_pageSource _ _).pawn
@[simp] theorem State.pageSource_encoders (s : State) (p : Nat) : (s.pageSource p).encoders = s.encoders := (told_pageSource _ _).encoders
@[simp] theorem State.pageSource_lt (s : State) (p : Nat) : (s.pageSource p).lt = s.lt := (told_pageSource _ _).lt
@[simp] theorem State.pageSource_lines (s : State) (p : Nat) : (s.pageSource p).lines = s.lines := (told_pageSource _ _).lines
@[simp] theorem State.pageSource_epochs (s : State) (p : Nat) : (s.pageSource p).epochs = s.epochs := (told_pageSource _ _).epochs
@[simp] theorem State.pageSource_converters (s : State) (p : Nat) : (s.pageSource p).converters = s.converters := (told_pageSource _ _).converters
@[simp] theorem State.pageSource_buffers (s : State) (p : Nat) : (s.pageSource p).buffers = s.buffers := (told_pageSource _ _).buffers
@[simp] theorem State.pageSource_readouts (s : State) (p : Nat) : (s.pageSource p).readouts = s.readouts := (told_pageSource _ _).readouts
@[simp] theorem State.pageSource_plaus (s : State) (p : Nat) : (s.pageSource p).plaus = s.plaus := (told_pageSource _ _).plaus
@[simp] theorem State.pageSource_cast (s : State) (p : Nat) : (s.pageSource p).cast = s.cast := (told_pageSource _ _).cast
@[simp] theorem State.pageSource_lanes (s : State) (p : Nat) : (s.pageSource p).lanes = s.lanes := (told_pageSource _ _).lanes
@[simp] theorem State.pageSource_opal (s : State) (p : Nat) : (s.pageSource p).opal = s.opal := (told_pageSource _ _).opal
@[simp] theorem State.pageSource_pw (s : State) (p : Nat) : (s.pageSource p).pw = s.pw := (told_pageSource _ _).pw
@[simp] theorem State.pageSource_outLines (s : State) (p : Nat) : (s.pageSource p).outLines = s.outLines := (told_pageSource _ _).outLines
@[simp] theorem State.pageSource_joints (s : State) (p : Nat) : (s.pageSource p).joints = s.joints := (told_pageSource _ _).joints
@[simp] theorem State.pageSource_ref (s : State) (p : Nat) : (s.pageSource p).ref = s.ref := (told_pageSource _ _).ref
@[simp] theorem State.pageSource_reg (s : State) (p : Nat) : (s.pageSource p).reg = s.reg := (told_pageSource _ _).reg
@[simp] theorem State.pageSource_comp (s : State) (p : Nat) : (s.pageSource p).comp = s.comp := (told_pageSource _ _).comp
@[simp] theorem State.pageSource_mp (s : State) (p : Nat) : (s.pageSource p).mp = s.mp := (told_pageSource _ _).mp
@[simp] theorem State.pageSource_fr (s : State) (p : Nat) : (s.pageSource p).fr = s.fr := (told_pageSource _ _).fr
@[simp] theorem State.pageSource_dma (s : State) (p : Nat) : (s.pageSource p).dma = s.dma := (told_pageSource _ _).dma
@[simp] theorem State.pageSource_beryl (s : State) (p : Nat) : (s.pageSource p).beryl = s.beryl := (told_pageSource _ _).beryl
@[simp] theorem State.pageSource_pfe (s : State) (p : Nat) : (s.pageSource p).pfe = s.pfe := (told_pageSource _ _).pfe
@[simp] theorem State.pageSource_axes (s : State) (p : Nat) : (s.pageSource p).axes = s.axes := (told_pageSource _ _).axes
@[simp] theorem State.pageSource_ik (s : State) (p : Nat) : (s.pageSource p).ik = s.ik := (told_pageSource _ _).ik
@[simp] theorem State.pageSource_flt (s : State) (p : Nat) : (s.pageSource p).flt = s.flt := (told_pageSource _ _).flt
@[simp] theorem State.pageSource_therm (s : State) (p : Nat) : (s.pageSource p).therm = s.therm := (told_pageSource _ _).therm
@[simp] theorem State.pageSource_cap (s : State) (p : Nat) : (s.pageSource p).cap = s.cap := (told_pageSource _ _).cap
@[simp] theorem State.pageSource_commits (s : State) (p : Nat) : (s.pageSource p).commits = s.commits := (told_pageSource _ _).commits
@[simp] theorem State.pageSource_mgmt (s : State) (p : Nat) : (s.pageSource p).mgmt = s.mgmt := (told_pageSource _ _).mgmt
@[simp] theorem State.pageSource_usb (s : State) (p : Nat) : (s.pageSource p).usb = s.usb := (told_pageSource _ _).usb
@[simp] theorem State.pageSource_twt (s : State) (p : Nat) : (s.pageSource p).twt = s.twt := (told_pageSource _ _).twt
@[simp] theorem State.pageSource_twc (s : State) (p : Nat) : (s.pageSource p).twc = s.twc := (told_pageSource _ _).twc
@[simp] theorem State.pageSource_onyx (s : State) (p : Nat) : (s.pageSource p).onyx = s.onyx := (told_pageSource _ _).onyx
@[simp] theorem State.pageSource_fresh (s : State) (p : Nat) : (s.pageSource p).fresh = s.fresh := (told_pageSource _ _).fresh
@[simp] theorem State.pageSource_pending (s : State) (p : Nat) : (s.pageSource p).pending = s.pending := (told_pageSource _ _).pending
@[simp] theorem State.rd_pageSource (s : State) (p : Nat) (q : Row) (x y z : Nat) : (s.pageSource p).rd q x y z = s.rd q x y z := (told_pageSource _ _).rd _ _ _ _
@[simp] theorem State.putEvents_regs (s : State) (p v : Nat) : (s.putEvents p v).regs = s.regs := (told_putEvents _ _ _).regs
@[simp] theorem State.putEvents_force (s : State) (p v : Nat) : (s.putEvents p v).force = s.force := (told_putEvents _ _ _).force
@[simp] theorem State.putEvents_shadow (s : State) (p v : Nat) : (s.putEvents p v).shadow = s.shadow := (told_putEvents _ _ _).shadow
@[simp] theorem State.putEvents_captures (s : State) (p v : Nat) : (s.putEvents p v).captures = s.captures := (told_putEvents _ _ _).captures
@[simp] theorem State.putEvents_tb (s : State) (p v : Nat) : (s.putEvents p v).tb = s.tb := (told_putEvents _ _ _).tb
@[simp] theorem State.putEvents_avs (s : State) (p v : Nat) : (s.putEvents p v).avs = s.avs := (told_putEvents _ _ _).avs
@[simp] theorem State.putEvents_thin (s : State) (p v : Nat) : (s.putEvents p v).thin = s.thin := (told_putEvents _ _ _).thin
@[simp] theorem State.putEvents_groups (s : State) (p v : Nat) : (s.putEvents p v).groups = s.groups := (told_putEvents _ _ _).groups
@[simp] theorem State.putEvents_pawn (s : State) (p v : Nat) : (s.putEvents p v).pawn = s.pawn := (told_putEvents _ _ _).pawn
@[simp] theorem State.putEvents_encoders (s : State) (p v : Nat) : (s.putEvents p v).encoders = s.encoders := (told_putEvents _ _ _).encoders
@[simp] theorem State.putEvents_lt (s : State) (p v : Nat) : (s.putEvents p v).lt = s.lt := (told_putEvents _ _ _).lt
@[simp] theorem State.putEvents_lines (s : State) (p v : Nat) : (s.putEvents p v).lines = s.lines := (told_putEvents _ _ _).lines
@[simp] theorem State.putEvents_epochs (s : State) (p v : Nat) : (s.putEvents p v).epochs = s.epochs := (told_putEvents _ _ _).epochs
@[simp] theorem State.putEvents_converters (s : State) (p v : Nat) : (s.putEvents p v).converters = s.converters := (told_putEvents _ _ _).converters
@[simp] theorem State.putEvents_buffers (s : State) (p v : Nat) : (s.putEvents p v).buffers = s.buffers := (told_putEvents _ _ _).buffers
@[simp] theorem State.putEvents_readouts (s : State) (p v : Nat) : (s.putEvents p v).readouts = s.readouts := (told_putEvents _ _ _).readouts
@[simp] theorem State.putEvents_plaus (s : State) (p v : Nat) : (s.putEvents p v).plaus = s.plaus := (told_putEvents _ _ _).plaus
@[simp] theorem State.putEvents_cast (s : State) (p v : Nat) : (s.putEvents p v).cast = s.cast := (told_putEvents _ _ _).cast
@[simp] theorem State.putEvents_lanes (s : State) (p v : Nat) : (s.putEvents p v).lanes = s.lanes := (told_putEvents _ _ _).lanes
@[simp] theorem State.putEvents_opal (s : State) (p v : Nat) : (s.putEvents p v).opal = s.opal := (told_putEvents _ _ _).opal
@[simp] theorem State.putEvents_pw (s : State) (p v : Nat) : (s.putEvents p v).pw = s.pw := (told_putEvents _ _ _).pw
@[simp] theorem State.putEvents_outLines (s : State) (p v : Nat) : (s.putEvents p v).outLines = s.outLines := (told_putEvents _ _ _).outLines
@[simp] theorem State.putEvents_joints (s : State) (p v : Nat) : (s.putEvents p v).joints = s.joints := (told_putEvents _ _ _).joints
@[simp] theorem State.putEvents_ref (s : State) (p v : Nat) : (s.putEvents p v).ref = s.ref := (told_putEvents _ _ _).ref
@[simp] theorem State.putEvents_reg (s : State) (p v : Nat) : (s.putEvents p v).reg = s.reg := (told_putEvents _ _ _).reg
@[simp] theorem State.putEvents_comp (s : State) (p v : Nat) : (s.putEvents p v).comp = s.comp := (told_putEvents _ _ _).comp
@[simp] theorem State.putEvents_mp (s : State) (p v : Nat) : (s.putEvents p v).mp = s.mp := (told_putEvents _ _ _).mp
@[simp] theorem State.putEvents_fr (s : State) (p v : Nat) : (s.putEvents p v).fr = s.fr := (told_putEvents _ _ _).fr
@[simp] theorem State.putEvents_dma (s : State) (p v : Nat) : (s.putEvents p v).dma = s.dma := (told_putEvents _ _ _).dma
@[simp] theorem State.putEvents_beryl (s : State) (p v : Nat) : (s.putEvents p v).beryl = s.beryl := (told_putEvents _ _ _).beryl
@[simp] theorem State.putEvents_pfe (s : State) (p v : Nat) : (s.putEvents p v).pfe = s.pfe := (told_putEvents _ _ _).pfe
@[simp] theorem State.putEvents_axes (s : State) (p v : Nat) : (s.putEvents p v).axes = s.axes := (told_putEvents _ _ _).axes
@[simp] theorem State.putEvents_ik (s : State) (p v : Nat) : (s.putEvents p v).ik = s.ik := (told_putEvents _ _ _).ik
@[simp] theorem State.putEvents_flt (s : State) (p v : Nat) : (s.putEvents p v).flt = s.flt := (told_putEvents _ _ _).flt
@[simp] theorem State.putEvents_therm (s : State) (p v : Nat) : (s.putEvents p v).therm = s.therm := (told_putEvents _ _ _).therm
@[simp] theorem State.putEvents_cap (s : State) (p v : Nat) : (s.putEvents p v).cap = s.cap := (told_putEvents _ _ _).cap
@[simp] theorem State.putEvents_commits (s : State) (p v : Nat) : (s.putEvents p v).commits = s.commits := (told_putEvents _ _ _).commits
@[simp] theorem State.putEvents_mgmt (s : State) (p v : Nat) : (s.putEvents p v).mgmt = s.mgmt := (told_putEvents _ _ _).mgmt
@[simp] theorem State.putEvents_usb (s : State) (p v : Nat) : (s.putEvents p v).usb = s.usb := (told_putEvents _ _ _).usb
@[simp] theorem State.putEvents_twt (s : State) (p v : Nat) : (s.putEvents p v).twt = s.twt := (told_putEvents _ _ _).twt
@[simp] theorem State.putEvents_twc (s : State) (p v : Nat) : (s.putEvents p v).twc = s.twc := (told_putEvents _ _ _).twc
@[simp] theorem State.putEvents_onyx (s : State) (p v : Nat) : (s.putEvents p v).onyx = s.onyx := (told_putEvents _ _ _).onyx
@[simp] theorem State.putEvents_fresh (s : State) (p v : Nat) : (s.putEvents p v).fresh = s.fresh := (told_putEvents _ _ _).fresh
@[simp] theorem State.putEvents_pending (s : State) (p v : Nat) : (s.putEvents p v).pending = s.pending := (told_putEvents _ _ _).pending
@[simp] theorem State.rd_putEvents (s : State) (p v : Nat) (q : Row) (x y z : Nat) : (s.putEvents p v).rd q x y z = s.rd q x y z := (told_putEvents _ _ _).rd _ _ _ _
@[simp] theorem State.raise_regs (s : State) (e : Event) (k : Nat) : (s.raise e k).regs = s.regs := (told_raise _ _ _).regs
@[simp] theorem State.raise_force (s : State) (e : Event) (k : Nat) : (s.raise e k).force = s.force := (told_raise _ _ _).force
@[simp] theorem State.raise_shadow (s : State) (e : Event) (k : Nat) : (s.raise e k).shadow = s.shadow := (told_raise _ _ _).shadow
@[simp] theorem State.raise_captures (s : State) (e : Event) (k : Nat) : (s.raise e k).captures = s.captures := (told_raise _ _ _).captures
@[simp] theorem State.raise_tb (s : State) (e : Event) (k : Nat) : (s.raise e k).tb = s.tb := (told_raise _ _ _).tb
@[simp] theorem State.raise_avs (s : State) (e : Event) (k : Nat) : (s.raise e k).avs = s.avs := (told_raise _ _ _).avs
@[simp] theorem State.raise_thin (s : State) (e : Event) (k : Nat) : (s.raise e k).thin = s.thin := (told_raise _ _ _).thin
@[simp] theorem State.raise_groups (s : State) (e : Event) (k : Nat) : (s.raise e k).groups = s.groups := (told_raise _ _ _).groups
@[simp] theorem State.raise_pawn (s : State) (e : Event) (k : Nat) : (s.raise e k).pawn = s.pawn := (told_raise _ _ _).pawn
@[simp] theorem State.raise_encoders (s : State) (e : Event) (k : Nat) : (s.raise e k).encoders = s.encoders := (told_raise _ _ _).encoders
@[simp] theorem State.raise_lt (s : State) (e : Event) (k : Nat) : (s.raise e k).lt = s.lt := (told_raise _ _ _).lt
@[simp] theorem State.raise_lines (s : State) (e : Event) (k : Nat) : (s.raise e k).lines = s.lines := (told_raise _ _ _).lines
@[simp] theorem State.raise_epochs (s : State) (e : Event) (k : Nat) : (s.raise e k).epochs = s.epochs := (told_raise _ _ _).epochs
@[simp] theorem State.raise_converters (s : State) (e : Event) (k : Nat) : (s.raise e k).converters = s.converters := (told_raise _ _ _).converters
@[simp] theorem State.raise_buffers (s : State) (e : Event) (k : Nat) : (s.raise e k).buffers = s.buffers := (told_raise _ _ _).buffers
@[simp] theorem State.raise_readouts (s : State) (e : Event) (k : Nat) : (s.raise e k).readouts = s.readouts := (told_raise _ _ _).readouts
@[simp] theorem State.raise_plaus (s : State) (e : Event) (k : Nat) : (s.raise e k).plaus = s.plaus := (told_raise _ _ _).plaus
@[simp] theorem State.raise_cast (s : State) (e : Event) (k : Nat) : (s.raise e k).cast = s.cast := (told_raise _ _ _).cast
@[simp] theorem State.raise_lanes (s : State) (e : Event) (k : Nat) : (s.raise e k).lanes = s.lanes := (told_raise _ _ _).lanes
@[simp] theorem State.raise_opal (s : State) (e : Event) (k : Nat) : (s.raise e k).opal = s.opal := (told_raise _ _ _).opal
@[simp] theorem State.raise_pw (s : State) (e : Event) (k : Nat) : (s.raise e k).pw = s.pw := (told_raise _ _ _).pw
@[simp] theorem State.raise_outLines (s : State) (e : Event) (k : Nat) : (s.raise e k).outLines = s.outLines := (told_raise _ _ _).outLines
@[simp] theorem State.raise_joints (s : State) (e : Event) (k : Nat) : (s.raise e k).joints = s.joints := (told_raise _ _ _).joints
@[simp] theorem State.raise_ref (s : State) (e : Event) (k : Nat) : (s.raise e k).ref = s.ref := (told_raise _ _ _).ref
@[simp] theorem State.raise_reg (s : State) (e : Event) (k : Nat) : (s.raise e k).reg = s.reg := (told_raise _ _ _).reg
@[simp] theorem State.raise_comp (s : State) (e : Event) (k : Nat) : (s.raise e k).comp = s.comp := (told_raise _ _ _).comp
@[simp] theorem State.raise_mp (s : State) (e : Event) (k : Nat) : (s.raise e k).mp = s.mp := (told_raise _ _ _).mp
@[simp] theorem State.raise_fr (s : State) (e : Event) (k : Nat) : (s.raise e k).fr = s.fr := (told_raise _ _ _).fr
@[simp] theorem State.raise_dma (s : State) (e : Event) (k : Nat) : (s.raise e k).dma = s.dma := (told_raise _ _ _).dma
@[simp] theorem State.raise_beryl (s : State) (e : Event) (k : Nat) : (s.raise e k).beryl = s.beryl := (told_raise _ _ _).beryl
@[simp] theorem State.raise_pfe (s : State) (e : Event) (k : Nat) : (s.raise e k).pfe = s.pfe := (told_raise _ _ _).pfe
@[simp] theorem State.raise_axes (s : State) (e : Event) (k : Nat) : (s.raise e k).axes = s.axes := (told_raise _ _ _).axes
@[simp] theorem State.raise_ik (s : State) (e : Event) (k : Nat) : (s.raise e k).ik = s.ik := (told_raise _ _ _).ik
@[simp] theorem State.raise_flt (s : State) (e : Event) (k : Nat) : (s.raise e k).flt = s.flt := (told_raise _ _ _).flt
@[simp] theorem State.raise_therm (s : State) (e : Event) (k : Nat) : (s.raise e k).therm = s.therm := (told_raise _ _ _).therm
@[simp] theorem State.raise_cap (s : State) (e : Event) (k : Nat) : (s.raise e k).cap = s.cap := (told_raise _ _ _).cap
@[simp] theorem State.raise_commits (s : State) (e : Event) (k : Nat) : (s.raise e k).commits = s.commits := (told_raise _ _ _).commits
@[simp] theorem State.raise_mgmt (s : State) (e : Event) (k : Nat) : (s.raise e k).mgmt = s.mgmt := (told_raise _ _ _).mgmt
@[simp] theorem State.raise_usb (s : State) (e : Event) (k : Nat) : (s.raise e k).usb = s.usb := (told_raise _ _ _).usb
@[simp] theorem State.raise_twt (s : State) (e : Event) (k : Nat) : (s.raise e k).twt = s.twt := (told_raise _ _ _).twt
@[simp] theorem State.raise_twc (s : State) (e : Event) (k : Nat) : (s.raise e k).twc = s.twc := (told_raise _ _ _).twc
@[simp] theorem State.raise_onyx (s : State) (e : Event) (k : Nat) : (s.raise e k).onyx = s.onyx := (told_raise _ _ _).onyx
@[simp] theorem State.raise_fresh (s : State) (e : Event) (k : Nat) : (s.raise e k).fresh = s.fresh := (told_raise _ _ _).fresh
@[simp] theorem State.raise_pending (s : State) (e : Event) (k : Nat) : (s.raise e k).pending = s.pending := (told_raise _ _ _).pending
@[simp] theorem State.rd_raise (s : State) (e : Event) (k : Nat) (q : Row) (x y z : Nat) : (s.raise e k).rd q x y z = s.rd q x y z := (told_raise _ _ _).rd _ _ _ _
@[simp] theorem State.usbMessage_regs (s : State) (kind a b : Nat) : (s.usbMessage kind a b).regs = s.regs := (told_usbMessage _ _ _ _).regs
@[simp] theorem State.usbMessage_force (s : State) (kind a b : Nat) : (s.usbMessage kind a b).force = s.force := (told_usbMessage _ _ _ _).force
@[simp] theorem State.usbMessage_shadow (s : State) (kind a b : Nat) : (s.usbMessage kind a b).shadow = s.shadow := (told_usbMessage _ _ _ _).shadow
@[simp] theorem State.usbMessage_captures (s : State) (kind a b : Nat) : (s.usbMessage kind a b).captures = s.captures := (told_usbMessage _ _ _ _).captures
@[simp] theorem State.usbMessage_tb (s : State) (kind a b : Nat) : (s.usbMessage kind a b).tb = s.tb := (told_usbMessage _ _ _ _).tb
@[simp] theorem State.usbMessage_avs (s : State) (kind a b : Nat) : (s.usbMessage kind a b).avs = s.avs := (told_usbMessage _ _ _ _).avs
@[simp] theorem State.usbMessage_thin (s : State) (kind a b : Nat) : (s.usbMessage kind a b).thin = s.thin := (told_usbMessage _ _ _ _).thin
@[simp] theorem State.usbMessage_groups (s : State) (kind a b : Nat) : (s.usbMessage kind a b).groups = s.groups := (told_usbMessage _ _ _ _).groups
@[simp] theorem State.usbMessage_pawn (s : State) (kind a b : Nat) : (s.usbMessage kind a b).pawn = s.pawn := (told_usbMessage _ _ _ _).pawn
@[simp] theorem State.usbMessage_encoders (s : State) (kind a b : Nat) : (s.usbMessage kind a b).encoders = s.encoders := (told_usbMessage _ _ _ _).encoders
@[simp] theorem State.usbMessage_lt (s : State) (kind a b : Nat) : (s.usbMessage kind a b).lt = s.lt := (told_usbMessage _ _ _ _).lt
@[simp] theorem State.usbMessage_lines (s : State) (kind a b : Nat) : (s.usbMessage kind a b).lines = s.lines := (told_usbMessage _ _ _ _).lines
@[simp] theorem State.usbMessage_epochs (s : State) (kind a b : Nat) : (s.usbMessage kind a b).epochs = s.epochs := (told_usbMessage _ _ _ _).epochs
@[simp] theorem State.usbMessage_converters (s : State) (kind a b : Nat) : (s.usbMessage kind a b).converters = s.converters := (told_usbMessage _ _ _ _).converters
@[simp] theorem State.usbMessage_buffers (s : State) (kind a b : Nat) : (s.usbMessage kind a b).buffers = s.buffers := (told_usbMessage _ _ _ _).buffers
@[simp] theorem State.usbMessage_readouts (s : State) (kind a b : Nat) : (s.usbMessage kind a b).readouts = s.readouts := (told_usbMessage _ _ _ _).readouts
@[simp] theorem State.usbMessage_plaus (s : State) (kind a b : Nat) : (s.usbMessage kind a b).plaus = s.plaus := (told_usbMessage _ _ _ _).plaus
@[simp] theorem State.usbMessage_cast (s : State) (kind a b : Nat) : (s.usbMessage kind a b).cast = s.cast := (told_usbMessage _ _ _ _).cast
@[simp] theorem State.usbMessage_lanes (s : State) (kind a b : Nat) : (s.usbMessage kind a b).lanes = s.lanes := (told_usbMessage _ _ _ _).lanes
@[simp] theorem State.usbMessage_opal (s : State) (kind a b : Nat) : (s.usbMessage kind a b).opal = s.opal := (told_usbMessage _ _ _ _).opal
@[simp] theorem State.usbMessage_pw (s : State) (kind a b : Nat) : (s.usbMessage kind a b).pw = s.pw := (told_usbMessage _ _ _ _).pw
@[simp] theorem State.usbMessage_outLines (s : State) (kind a b : Nat) : (s.usbMessage kind a b).outLines = s.outLines := (told_usbMessage _ _ _ _).outLines
@[simp] theorem State.usbMessage_joints (s : State) (kind a b : Nat) : (s.usbMessage kind a b).joints = s.joints := (told_usbMessage _ _ _ _).joints
@[simp] theorem State.usbMessage_ref (s : State) (kind a b : Nat) : (s.usbMessage kind a b).ref = s.ref := (told_usbMessage _ _ _ _).ref
@[simp] theorem State.usbMessage_reg (s : State) (kind a b : Nat) : (s.usbMessage kind a b).reg = s.reg := (told_usbMessage _ _ _ _).reg
@[simp] theorem State.usbMessage_comp (s : State) (kind a b : Nat) : (s.usbMessage kind a b).comp = s.comp := (told_usbMessage _ _ _ _).comp
@[simp] theorem State.usbMessage_mp (s : State) (kind a b : Nat) : (s.usbMessage kind a b).mp = s.mp := (told_usbMessage _ _ _ _).mp
@[simp] theorem State.usbMessage_fr (s : State) (kind a b : Nat) : (s.usbMessage kind a b).fr = s.fr := (told_usbMessage _ _ _ _).fr
@[simp] theorem State.usbMessage_dma (s : State) (kind a b : Nat) : (s.usbMessage kind a b).dma = s.dma := (told_usbMessage _ _ _ _).dma
@[simp] theorem State.usbMessage_beryl (s : State) (kind a b : Nat) : (s.usbMessage kind a b).beryl = s.beryl := (told_usbMessage _ _ _ _).beryl
@[simp] theorem State.usbMessage_pfe (s : State) (kind a b : Nat) : (s.usbMessage kind a b).pfe = s.pfe := (told_usbMessage _ _ _ _).pfe
@[simp] theorem State.usbMessage_axes (s : State) (kind a b : Nat) : (s.usbMessage kind a b).axes = s.axes := (told_usbMessage _ _ _ _).axes
@[simp] theorem State.usbMessage_ik (s : State) (kind a b : Nat) : (s.usbMessage kind a b).ik = s.ik := (told_usbMessage _ _ _ _).ik
@[simp] theorem State.usbMessage_flt (s : State) (kind a b : Nat) : (s.usbMessage kind a b).flt = s.flt := (told_usbMessage _ _ _ _).flt
@[simp] theorem State.usbMessage_therm (s : State) (kind a b : Nat) : (s.usbMessage kind a b).therm = s.therm := (told_usbMessage _ _ _ _).therm
@[simp] theorem State.usbMessage_cap (s : State) (kind a b : Nat) : (s.usbMessage kind a b).cap = s.cap := (told_usbMessage _ _ _ _).cap
@[simp] theorem State.usbMessage_commits (s : State) (kind a b : Nat) : (s.usbMessage kind a b).commits = s.commits := (told_usbMessage _ _ _ _).commits
@[simp] theorem State.usbMessage_mgmt (s : State) (kind a b : Nat) : (s.usbMessage kind a b).mgmt = s.mgmt := (told_usbMessage _ _ _ _).mgmt
@[simp] theorem State.usbMessage_usb (s : State) (kind a b : Nat) : (s.usbMessage kind a b).usb = s.usb := (told_usbMessage _ _ _ _).usb
@[simp] theorem State.usbMessage_twt (s : State) (kind a b : Nat) : (s.usbMessage kind a b).twt = s.twt := (told_usbMessage _ _ _ _).twt
@[simp] theorem State.usbMessage_twc (s : State) (kind a b : Nat) : (s.usbMessage kind a b).twc = s.twc := (told_usbMessage _ _ _ _).twc
@[simp] theorem State.usbMessage_onyx (s : State) (kind a b : Nat) : (s.usbMessage kind a b).onyx = s.onyx := (told_usbMessage _ _ _ _).onyx
@[simp] theorem State.usbMessage_fresh (s : State) (kind a b : Nat) : (s.usbMessage kind a b).fresh = s.fresh := (told_usbMessage _ _ _ _).fresh
@[simp] theorem State.usbMessage_pending (s : State) (kind a b : Nat) : (s.usbMessage kind a b).pending = s.pending := (told_usbMessage _ _ _ _).pending
@[simp] theorem State.rd_usbMessage (s : State) (kind a b : Nat) (q : Row) (x y z : Nat) : (s.usbMessage kind a b).rd q x y z = s.rd q x y z := (told_usbMessage _ _ _ _).rd _ _ _ _
@[simp] theorem State.logTake_regs (s : State) (b : LogBody) : (s.logTake b).regs = s.regs := (told_logTake _ _).regs
@[simp] theorem State.logTake_force (s : State) (b : LogBody) : (s.logTake b).force = s.force := (told_logTake _ _).force
@[simp] theorem State.logTake_shadow (s : State) (b : LogBody) : (s.logTake b).shadow = s.shadow := (told_logTake _ _).shadow
@[simp] theorem State.logTake_captures (s : State) (b : LogBody) : (s.logTake b).captures = s.captures := (told_logTake _ _).captures
@[simp] theorem State.logTake_tb (s : State) (b : LogBody) : (s.logTake b).tb = s.tb := (told_logTake _ _).tb
@[simp] theorem State.logTake_avs (s : State) (b : LogBody) : (s.logTake b).avs = s.avs := (told_logTake _ _).avs
@[simp] theorem State.logTake_thin (s : State) (b : LogBody) : (s.logTake b).thin = s.thin := (told_logTake _ _).thin
@[simp] theorem State.logTake_groups (s : State) (b : LogBody) : (s.logTake b).groups = s.groups := (told_logTake _ _).groups
@[simp] theorem State.logTake_pawn (s : State) (b : LogBody) : (s.logTake b).pawn = s.pawn := (told_logTake _ _).pawn
@[simp] theorem State.logTake_encoders (s : State) (b : LogBody) : (s.logTake b).encoders = s.encoders := (told_logTake _ _).encoders
@[simp] theorem State.logTake_lt (s : State) (b : LogBody) : (s.logTake b).lt = s.lt := (told_logTake _ _).lt
@[simp] theorem State.logTake_lines (s : State) (b : LogBody) : (s.logTake b).lines = s.lines := (told_logTake _ _).lines
@[simp] theorem State.logTake_epochs (s : State) (b : LogBody) : (s.logTake b).epochs = s.epochs := (told_logTake _ _).epochs
@[simp] theorem State.logTake_converters (s : State) (b : LogBody) : (s.logTake b).converters = s.converters := (told_logTake _ _).converters
@[simp] theorem State.logTake_buffers (s : State) (b : LogBody) : (s.logTake b).buffers = s.buffers := (told_logTake _ _).buffers
@[simp] theorem State.logTake_readouts (s : State) (b : LogBody) : (s.logTake b).readouts = s.readouts := (told_logTake _ _).readouts
@[simp] theorem State.logTake_plaus (s : State) (b : LogBody) : (s.logTake b).plaus = s.plaus := (told_logTake _ _).plaus
@[simp] theorem State.logTake_cast (s : State) (b : LogBody) : (s.logTake b).cast = s.cast := (told_logTake _ _).cast
@[simp] theorem State.logTake_lanes (s : State) (b : LogBody) : (s.logTake b).lanes = s.lanes := (told_logTake _ _).lanes
@[simp] theorem State.logTake_opal (s : State) (b : LogBody) : (s.logTake b).opal = s.opal := (told_logTake _ _).opal
@[simp] theorem State.logTake_pw (s : State) (b : LogBody) : (s.logTake b).pw = s.pw := (told_logTake _ _).pw
@[simp] theorem State.logTake_outLines (s : State) (b : LogBody) : (s.logTake b).outLines = s.outLines := (told_logTake _ _).outLines
@[simp] theorem State.logTake_joints (s : State) (b : LogBody) : (s.logTake b).joints = s.joints := (told_logTake _ _).joints
@[simp] theorem State.logTake_ref (s : State) (b : LogBody) : (s.logTake b).ref = s.ref := (told_logTake _ _).ref
@[simp] theorem State.logTake_reg (s : State) (b : LogBody) : (s.logTake b).reg = s.reg := (told_logTake _ _).reg
@[simp] theorem State.logTake_comp (s : State) (b : LogBody) : (s.logTake b).comp = s.comp := (told_logTake _ _).comp
@[simp] theorem State.logTake_mp (s : State) (b : LogBody) : (s.logTake b).mp = s.mp := (told_logTake _ _).mp
@[simp] theorem State.logTake_fr (s : State) (b : LogBody) : (s.logTake b).fr = s.fr := (told_logTake _ _).fr
@[simp] theorem State.logTake_dma (s : State) (b : LogBody) : (s.logTake b).dma = s.dma := (told_logTake _ _).dma
@[simp] theorem State.logTake_beryl (s : State) (b : LogBody) : (s.logTake b).beryl = s.beryl := (told_logTake _ _).beryl
@[simp] theorem State.logTake_pfe (s : State) (b : LogBody) : (s.logTake b).pfe = s.pfe := (told_logTake _ _).pfe
@[simp] theorem State.logTake_axes (s : State) (b : LogBody) : (s.logTake b).axes = s.axes := (told_logTake _ _).axes
@[simp] theorem State.logTake_ik (s : State) (b : LogBody) : (s.logTake b).ik = s.ik := (told_logTake _ _).ik
@[simp] theorem State.logTake_flt (s : State) (b : LogBody) : (s.logTake b).flt = s.flt := (told_logTake _ _).flt
@[simp] theorem State.logTake_therm (s : State) (b : LogBody) : (s.logTake b).therm = s.therm := (told_logTake _ _).therm
@[simp] theorem State.logTake_cap (s : State) (b : LogBody) : (s.logTake b).cap = s.cap := (told_logTake _ _).cap
@[simp] theorem State.logTake_commits (s : State) (b : LogBody) : (s.logTake b).commits = s.commits := (told_logTake _ _).commits
@[simp] theorem State.logTake_mgmt (s : State) (b : LogBody) : (s.logTake b).mgmt = s.mgmt := (told_logTake _ _).mgmt
@[simp] theorem State.logTake_usb (s : State) (b : LogBody) : (s.logTake b).usb = s.usb := (told_logTake _ _).usb
@[simp] theorem State.logTake_twt (s : State) (b : LogBody) : (s.logTake b).twt = s.twt := (told_logTake _ _).twt
@[simp] theorem State.logTake_twc (s : State) (b : LogBody) : (s.logTake b).twc = s.twc := (told_logTake _ _).twc
@[simp] theorem State.logTake_onyx (s : State) (b : LogBody) : (s.logTake b).onyx = s.onyx := (told_logTake _ _).onyx
@[simp] theorem State.logTake_fresh (s : State) (b : LogBody) : (s.logTake b).fresh = s.fresh := (told_logTake _ _).fresh
@[simp] theorem State.logTake_pending (s : State) (b : LogBody) : (s.logTake b).pending = s.pending := (told_logTake _ _).pending
@[simp] theorem State.rd_logTake (s : State) (b : LogBody) (q : Row) (x y z : Nat) : (s.logTake b).rd q x y z = s.rd q x y z := (told_logTake _ _).rd _ _ _ _
@[simp] theorem State.logDrop_regs (s : State) : (s.logDrop).regs = s.regs := (told_logDrop _).regs
@[simp] theorem State.logDrop_force (s : State) : (s.logDrop).force = s.force := (told_logDrop _).force
@[simp] theorem State.logDrop_shadow (s : State) : (s.logDrop).shadow = s.shadow := (told_logDrop _).shadow
@[simp] theorem State.logDrop_captures (s : State) : (s.logDrop).captures = s.captures := (told_logDrop _).captures
@[simp] theorem State.logDrop_tb (s : State) : (s.logDrop).tb = s.tb := (told_logDrop _).tb
@[simp] theorem State.logDrop_avs (s : State) : (s.logDrop).avs = s.avs := (told_logDrop _).avs
@[simp] theorem State.logDrop_thin (s : State) : (s.logDrop).thin = s.thin := (told_logDrop _).thin
@[simp] theorem State.logDrop_groups (s : State) : (s.logDrop).groups = s.groups := (told_logDrop _).groups
@[simp] theorem State.logDrop_pawn (s : State) : (s.logDrop).pawn = s.pawn := (told_logDrop _).pawn
@[simp] theorem State.logDrop_encoders (s : State) : (s.logDrop).encoders = s.encoders := (told_logDrop _).encoders
@[simp] theorem State.logDrop_lt (s : State) : (s.logDrop).lt = s.lt := (told_logDrop _).lt
@[simp] theorem State.logDrop_lines (s : State) : (s.logDrop).lines = s.lines := (told_logDrop _).lines
@[simp] theorem State.logDrop_epochs (s : State) : (s.logDrop).epochs = s.epochs := (told_logDrop _).epochs
@[simp] theorem State.logDrop_converters (s : State) : (s.logDrop).converters = s.converters := (told_logDrop _).converters
@[simp] theorem State.logDrop_buffers (s : State) : (s.logDrop).buffers = s.buffers := (told_logDrop _).buffers
@[simp] theorem State.logDrop_readouts (s : State) : (s.logDrop).readouts = s.readouts := (told_logDrop _).readouts
@[simp] theorem State.logDrop_plaus (s : State) : (s.logDrop).plaus = s.plaus := (told_logDrop _).plaus
@[simp] theorem State.logDrop_cast (s : State) : (s.logDrop).cast = s.cast := (told_logDrop _).cast
@[simp] theorem State.logDrop_lanes (s : State) : (s.logDrop).lanes = s.lanes := (told_logDrop _).lanes
@[simp] theorem State.logDrop_opal (s : State) : (s.logDrop).opal = s.opal := (told_logDrop _).opal
@[simp] theorem State.logDrop_pw (s : State) : (s.logDrop).pw = s.pw := (told_logDrop _).pw
@[simp] theorem State.logDrop_outLines (s : State) : (s.logDrop).outLines = s.outLines := (told_logDrop _).outLines
@[simp] theorem State.logDrop_joints (s : State) : (s.logDrop).joints = s.joints := (told_logDrop _).joints
@[simp] theorem State.logDrop_ref (s : State) : (s.logDrop).ref = s.ref := (told_logDrop _).ref
@[simp] theorem State.logDrop_reg (s : State) : (s.logDrop).reg = s.reg := (told_logDrop _).reg
@[simp] theorem State.logDrop_comp (s : State) : (s.logDrop).comp = s.comp := (told_logDrop _).comp
@[simp] theorem State.logDrop_mp (s : State) : (s.logDrop).mp = s.mp := (told_logDrop _).mp
@[simp] theorem State.logDrop_fr (s : State) : (s.logDrop).fr = s.fr := (told_logDrop _).fr
@[simp] theorem State.logDrop_dma (s : State) : (s.logDrop).dma = s.dma := (told_logDrop _).dma
@[simp] theorem State.logDrop_beryl (s : State) : (s.logDrop).beryl = s.beryl := (told_logDrop _).beryl
@[simp] theorem State.logDrop_pfe (s : State) : (s.logDrop).pfe = s.pfe := (told_logDrop _).pfe
@[simp] theorem State.logDrop_axes (s : State) : (s.logDrop).axes = s.axes := (told_logDrop _).axes
@[simp] theorem State.logDrop_ik (s : State) : (s.logDrop).ik = s.ik := (told_logDrop _).ik
@[simp] theorem State.logDrop_flt (s : State) : (s.logDrop).flt = s.flt := (told_logDrop _).flt
@[simp] theorem State.logDrop_therm (s : State) : (s.logDrop).therm = s.therm := (told_logDrop _).therm
@[simp] theorem State.logDrop_cap (s : State) : (s.logDrop).cap = s.cap := (told_logDrop _).cap
@[simp] theorem State.logDrop_commits (s : State) : (s.logDrop).commits = s.commits := (told_logDrop _).commits
@[simp] theorem State.logDrop_mgmt (s : State) : (s.logDrop).mgmt = s.mgmt := (told_logDrop _).mgmt
@[simp] theorem State.logDrop_usb (s : State) : (s.logDrop).usb = s.usb := (told_logDrop _).usb
@[simp] theorem State.logDrop_twt (s : State) : (s.logDrop).twt = s.twt := (told_logDrop _).twt
@[simp] theorem State.logDrop_twc (s : State) : (s.logDrop).twc = s.twc := (told_logDrop _).twc
@[simp] theorem State.logDrop_onyx (s : State) : (s.logDrop).onyx = s.onyx := (told_logDrop _).onyx
@[simp] theorem State.logDrop_fresh (s : State) : (s.logDrop).fresh = s.fresh := (told_logDrop _).fresh
@[simp] theorem State.logDrop_pending (s : State) : (s.logDrop).pending = s.pending := (told_logDrop _).pending
@[simp] theorem State.rd_logDrop (s : State) (q : Row) (x y z : Nat) : (s.logDrop).rd q x y z = s.rd q x y z := (told_logDrop _).rd _ _ _ _
@[simp] theorem State.log_regs (s : State) (b : LogBody) : (s.log b).regs = s.regs := (told_log _ _).regs
@[simp] theorem State.log_force (s : State) (b : LogBody) : (s.log b).force = s.force := (told_log _ _).force
@[simp] theorem State.log_shadow (s : State) (b : LogBody) : (s.log b).shadow = s.shadow := (told_log _ _).shadow
@[simp] theorem State.log_captures (s : State) (b : LogBody) : (s.log b).captures = s.captures := (told_log _ _).captures
@[simp] theorem State.log_tb (s : State) (b : LogBody) : (s.log b).tb = s.tb := (told_log _ _).tb
@[simp] theorem State.log_avs (s : State) (b : LogBody) : (s.log b).avs = s.avs := (told_log _ _).avs
@[simp] theorem State.log_thin (s : State) (b : LogBody) : (s.log b).thin = s.thin := (told_log _ _).thin
@[simp] theorem State.log_groups (s : State) (b : LogBody) : (s.log b).groups = s.groups := (told_log _ _).groups
@[simp] theorem State.log_pawn (s : State) (b : LogBody) : (s.log b).pawn = s.pawn := (told_log _ _).pawn
@[simp] theorem State.log_encoders (s : State) (b : LogBody) : (s.log b).encoders = s.encoders := (told_log _ _).encoders
@[simp] theorem State.log_lt (s : State) (b : LogBody) : (s.log b).lt = s.lt := (told_log _ _).lt
@[simp] theorem State.log_lines (s : State) (b : LogBody) : (s.log b).lines = s.lines := (told_log _ _).lines
@[simp] theorem State.log_epochs (s : State) (b : LogBody) : (s.log b).epochs = s.epochs := (told_log _ _).epochs
@[simp] theorem State.log_converters (s : State) (b : LogBody) : (s.log b).converters = s.converters := (told_log _ _).converters
@[simp] theorem State.log_buffers (s : State) (b : LogBody) : (s.log b).buffers = s.buffers := (told_log _ _).buffers
@[simp] theorem State.log_readouts (s : State) (b : LogBody) : (s.log b).readouts = s.readouts := (told_log _ _).readouts
@[simp] theorem State.log_plaus (s : State) (b : LogBody) : (s.log b).plaus = s.plaus := (told_log _ _).plaus
@[simp] theorem State.log_cast (s : State) (b : LogBody) : (s.log b).cast = s.cast := (told_log _ _).cast
@[simp] theorem State.log_lanes (s : State) (b : LogBody) : (s.log b).lanes = s.lanes := (told_log _ _).lanes
@[simp] theorem State.log_opal (s : State) (b : LogBody) : (s.log b).opal = s.opal := (told_log _ _).opal
@[simp] theorem State.log_pw (s : State) (b : LogBody) : (s.log b).pw = s.pw := (told_log _ _).pw
@[simp] theorem State.log_outLines (s : State) (b : LogBody) : (s.log b).outLines = s.outLines := (told_log _ _).outLines
@[simp] theorem State.log_joints (s : State) (b : LogBody) : (s.log b).joints = s.joints := (told_log _ _).joints
@[simp] theorem State.log_ref (s : State) (b : LogBody) : (s.log b).ref = s.ref := (told_log _ _).ref
@[simp] theorem State.log_reg (s : State) (b : LogBody) : (s.log b).reg = s.reg := (told_log _ _).reg
@[simp] theorem State.log_comp (s : State) (b : LogBody) : (s.log b).comp = s.comp := (told_log _ _).comp
@[simp] theorem State.log_mp (s : State) (b : LogBody) : (s.log b).mp = s.mp := (told_log _ _).mp
@[simp] theorem State.log_fr (s : State) (b : LogBody) : (s.log b).fr = s.fr := (told_log _ _).fr
@[simp] theorem State.log_dma (s : State) (b : LogBody) : (s.log b).dma = s.dma := (told_log _ _).dma
@[simp] theorem State.log_beryl (s : State) (b : LogBody) : (s.log b).beryl = s.beryl := (told_log _ _).beryl
@[simp] theorem State.log_pfe (s : State) (b : LogBody) : (s.log b).pfe = s.pfe := (told_log _ _).pfe
@[simp] theorem State.log_axes (s : State) (b : LogBody) : (s.log b).axes = s.axes := (told_log _ _).axes
@[simp] theorem State.log_ik (s : State) (b : LogBody) : (s.log b).ik = s.ik := (told_log _ _).ik
@[simp] theorem State.log_flt (s : State) (b : LogBody) : (s.log b).flt = s.flt := (told_log _ _).flt
@[simp] theorem State.log_therm (s : State) (b : LogBody) : (s.log b).therm = s.therm := (told_log _ _).therm
@[simp] theorem State.log_cap (s : State) (b : LogBody) : (s.log b).cap = s.cap := (told_log _ _).cap
@[simp] theorem State.log_commits (s : State) (b : LogBody) : (s.log b).commits = s.commits := (told_log _ _).commits
@[simp] theorem State.log_mgmt (s : State) (b : LogBody) : (s.log b).mgmt = s.mgmt := (told_log _ _).mgmt
@[simp] theorem State.log_usb (s : State) (b : LogBody) : (s.log b).usb = s.usb := (told_log _ _).usb
@[simp] theorem State.log_twt (s : State) (b : LogBody) : (s.log b).twt = s.twt := (told_log _ _).twt
@[simp] theorem State.log_twc (s : State) (b : LogBody) : (s.log b).twc = s.twc := (told_log _ _).twc
@[simp] theorem State.log_onyx (s : State) (b : LogBody) : (s.log b).onyx = s.onyx := (told_log _ _).onyx
@[simp] theorem State.log_fresh (s : State) (b : LogBody) : (s.log b).fresh = s.fresh := (told_log _ _).fresh
@[simp] theorem State.log_pending (s : State) (b : LogBody) : (s.log b).pending = s.pending := (told_log _ _).pending
@[simp] theorem State.rd_log (s : State) (b : LogBody) (q : Row) (x y z : Nat) : (s.log b).rd q x y z = s.rd q x y z := (told_log _ _).rd _ _ _ _
@[simp] theorem State.putAlerts_regs (s : State) (a : Alerts) : (s.putAlerts a).regs = s.regs := (told_putAlerts _ _).regs
@[simp] theorem State.putAlerts_force (s : State) (a : Alerts) : (s.putAlerts a).force = s.force := (told_putAlerts _ _).force
@[simp] theorem State.putAlerts_shadow (s : State) (a : Alerts) : (s.putAlerts a).shadow = s.shadow := (told_putAlerts _ _).shadow
@[simp] theorem State.putAlerts_captures (s : State) (a : Alerts) : (s.putAlerts a).captures = s.captures := (told_putAlerts _ _).captures
@[simp] theorem State.putAlerts_tb (s : State) (a : Alerts) : (s.putAlerts a).tb = s.tb := (told_putAlerts _ _).tb
@[simp] theorem State.putAlerts_avs (s : State) (a : Alerts) : (s.putAlerts a).avs = s.avs := (told_putAlerts _ _).avs
@[simp] theorem State.putAlerts_thin (s : State) (a : Alerts) : (s.putAlerts a).thin = s.thin := (told_putAlerts _ _).thin
@[simp] theorem State.putAlerts_groups (s : State) (a : Alerts) : (s.putAlerts a).groups = s.groups := (told_putAlerts _ _).groups
@[simp] theorem State.putAlerts_pawn (s : State) (a : Alerts) : (s.putAlerts a).pawn = s.pawn := (told_putAlerts _ _).pawn
@[simp] theorem State.putAlerts_encoders (s : State) (a : Alerts) : (s.putAlerts a).encoders = s.encoders := (told_putAlerts _ _).encoders
@[simp] theorem State.putAlerts_lt (s : State) (a : Alerts) : (s.putAlerts a).lt = s.lt := (told_putAlerts _ _).lt
@[simp] theorem State.putAlerts_lines (s : State) (a : Alerts) : (s.putAlerts a).lines = s.lines := (told_putAlerts _ _).lines
@[simp] theorem State.putAlerts_epochs (s : State) (a : Alerts) : (s.putAlerts a).epochs = s.epochs := (told_putAlerts _ _).epochs
@[simp] theorem State.putAlerts_converters (s : State) (a : Alerts) : (s.putAlerts a).converters = s.converters := (told_putAlerts _ _).converters
@[simp] theorem State.putAlerts_buffers (s : State) (a : Alerts) : (s.putAlerts a).buffers = s.buffers := (told_putAlerts _ _).buffers
@[simp] theorem State.putAlerts_readouts (s : State) (a : Alerts) : (s.putAlerts a).readouts = s.readouts := (told_putAlerts _ _).readouts
@[simp] theorem State.putAlerts_plaus (s : State) (a : Alerts) : (s.putAlerts a).plaus = s.plaus := (told_putAlerts _ _).plaus
@[simp] theorem State.putAlerts_cast (s : State) (a : Alerts) : (s.putAlerts a).cast = s.cast := (told_putAlerts _ _).cast
@[simp] theorem State.putAlerts_lanes (s : State) (a : Alerts) : (s.putAlerts a).lanes = s.lanes := (told_putAlerts _ _).lanes
@[simp] theorem State.putAlerts_opal (s : State) (a : Alerts) : (s.putAlerts a).opal = s.opal := (told_putAlerts _ _).opal
@[simp] theorem State.putAlerts_pw (s : State) (a : Alerts) : (s.putAlerts a).pw = s.pw := (told_putAlerts _ _).pw
@[simp] theorem State.putAlerts_outLines (s : State) (a : Alerts) : (s.putAlerts a).outLines = s.outLines := (told_putAlerts _ _).outLines
@[simp] theorem State.putAlerts_joints (s : State) (a : Alerts) : (s.putAlerts a).joints = s.joints := (told_putAlerts _ _).joints
@[simp] theorem State.putAlerts_ref (s : State) (a : Alerts) : (s.putAlerts a).ref = s.ref := (told_putAlerts _ _).ref
@[simp] theorem State.putAlerts_reg (s : State) (a : Alerts) : (s.putAlerts a).reg = s.reg := (told_putAlerts _ _).reg
@[simp] theorem State.putAlerts_comp (s : State) (a : Alerts) : (s.putAlerts a).comp = s.comp := (told_putAlerts _ _).comp
@[simp] theorem State.putAlerts_mp (s : State) (a : Alerts) : (s.putAlerts a).mp = s.mp := (told_putAlerts _ _).mp
@[simp] theorem State.putAlerts_fr (s : State) (a : Alerts) : (s.putAlerts a).fr = s.fr := (told_putAlerts _ _).fr
@[simp] theorem State.putAlerts_dma (s : State) (a : Alerts) : (s.putAlerts a).dma = s.dma := (told_putAlerts _ _).dma
@[simp] theorem State.putAlerts_beryl (s : State) (a : Alerts) : (s.putAlerts a).beryl = s.beryl := (told_putAlerts _ _).beryl
@[simp] theorem State.putAlerts_pfe (s : State) (a : Alerts) : (s.putAlerts a).pfe = s.pfe := (told_putAlerts _ _).pfe
@[simp] theorem State.putAlerts_axes (s : State) (a : Alerts) : (s.putAlerts a).axes = s.axes := (told_putAlerts _ _).axes
@[simp] theorem State.putAlerts_ik (s : State) (a : Alerts) : (s.putAlerts a).ik = s.ik := (told_putAlerts _ _).ik
@[simp] theorem State.putAlerts_flt (s : State) (a : Alerts) : (s.putAlerts a).flt = s.flt := (told_putAlerts _ _).flt
@[simp] theorem State.putAlerts_therm (s : State) (a : Alerts) : (s.putAlerts a).therm = s.therm := (told_putAlerts _ _).therm
@[simp] theorem State.putAlerts_cap (s : State) (a : Alerts) : (s.putAlerts a).cap = s.cap := (told_putAlerts _ _).cap
@[simp] theorem State.putAlerts_commits (s : State) (a : Alerts) : (s.putAlerts a).commits = s.commits := (told_putAlerts _ _).commits
@[simp] theorem State.putAlerts_mgmt (s : State) (a : Alerts) : (s.putAlerts a).mgmt = s.mgmt := (told_putAlerts _ _).mgmt
@[simp] theorem State.putAlerts_usb (s : State) (a : Alerts) : (s.putAlerts a).usb = s.usb := (told_putAlerts _ _).usb
@[simp] theorem State.putAlerts_twt (s : State) (a : Alerts) : (s.putAlerts a).twt = s.twt := (told_putAlerts _ _).twt
@[simp] theorem State.putAlerts_twc (s : State) (a : Alerts) : (s.putAlerts a).twc = s.twc := (told_putAlerts _ _).twc
@[simp] theorem State.putAlerts_onyx (s : State) (a : Alerts) : (s.putAlerts a).onyx = s.onyx := (told_putAlerts _ _).onyx
@[simp] theorem State.putAlerts_fresh (s : State) (a : Alerts) : (s.putAlerts a).fresh = s.fresh := (told_putAlerts _ _).fresh
@[simp] theorem State.putAlerts_pending (s : State) (a : Alerts) : (s.putAlerts a).pending = s.pending := (told_putAlerts _ _).pending
@[simp] theorem State.rd_putAlerts (s : State) (a : Alerts) (q : Row) (x y z : Nat) : (s.putAlerts a).rd q x y z = s.rd q x y z := (told_putAlerts _ _).rd _ _ _ _
@[simp] theorem State.alert_regs (s : State) (n : Nat) : (s.alert n).regs = s.regs := (told_alert _ _).regs
@[simp] theorem State.alert_force (s : State) (n : Nat) : (s.alert n).force = s.force := (told_alert _ _).force
@[simp] theorem State.alert_shadow (s : State) (n : Nat) : (s.alert n).shadow = s.shadow := (told_alert _ _).shadow
@[simp] theorem State.alert_captures (s : State) (n : Nat) : (s.alert n).captures = s.captures := (told_alert _ _).captures
@[simp] theorem State.alert_tb (s : State) (n : Nat) : (s.alert n).tb = s.tb := (told_alert _ _).tb
@[simp] theorem State.alert_avs (s : State) (n : Nat) : (s.alert n).avs = s.avs := (told_alert _ _).avs
@[simp] theorem State.alert_thin (s : State) (n : Nat) : (s.alert n).thin = s.thin := (told_alert _ _).thin
@[simp] theorem State.alert_groups (s : State) (n : Nat) : (s.alert n).groups = s.groups := (told_alert _ _).groups
@[simp] theorem State.alert_pawn (s : State) (n : Nat) : (s.alert n).pawn = s.pawn := (told_alert _ _).pawn
@[simp] theorem State.alert_encoders (s : State) (n : Nat) : (s.alert n).encoders = s.encoders := (told_alert _ _).encoders
@[simp] theorem State.alert_lt (s : State) (n : Nat) : (s.alert n).lt = s.lt := (told_alert _ _).lt
@[simp] theorem State.alert_lines (s : State) (n : Nat) : (s.alert n).lines = s.lines := (told_alert _ _).lines
@[simp] theorem State.alert_epochs (s : State) (n : Nat) : (s.alert n).epochs = s.epochs := (told_alert _ _).epochs
@[simp] theorem State.alert_converters (s : State) (n : Nat) : (s.alert n).converters = s.converters := (told_alert _ _).converters
@[simp] theorem State.alert_buffers (s : State) (n : Nat) : (s.alert n).buffers = s.buffers := (told_alert _ _).buffers
@[simp] theorem State.alert_readouts (s : State) (n : Nat) : (s.alert n).readouts = s.readouts := (told_alert _ _).readouts
@[simp] theorem State.alert_plaus (s : State) (n : Nat) : (s.alert n).plaus = s.plaus := (told_alert _ _).plaus
@[simp] theorem State.alert_cast (s : State) (n : Nat) : (s.alert n).cast = s.cast := (told_alert _ _).cast
@[simp] theorem State.alert_lanes (s : State) (n : Nat) : (s.alert n).lanes = s.lanes := (told_alert _ _).lanes
@[simp] theorem State.alert_opal (s : State) (n : Nat) : (s.alert n).opal = s.opal := (told_alert _ _).opal
@[simp] theorem State.alert_pw (s : State) (n : Nat) : (s.alert n).pw = s.pw := (told_alert _ _).pw
@[simp] theorem State.alert_outLines (s : State) (n : Nat) : (s.alert n).outLines = s.outLines := (told_alert _ _).outLines
@[simp] theorem State.alert_joints (s : State) (n : Nat) : (s.alert n).joints = s.joints := (told_alert _ _).joints
@[simp] theorem State.alert_ref (s : State) (n : Nat) : (s.alert n).ref = s.ref := (told_alert _ _).ref
@[simp] theorem State.alert_reg (s : State) (n : Nat) : (s.alert n).reg = s.reg := (told_alert _ _).reg
@[simp] theorem State.alert_comp (s : State) (n : Nat) : (s.alert n).comp = s.comp := (told_alert _ _).comp
@[simp] theorem State.alert_mp (s : State) (n : Nat) : (s.alert n).mp = s.mp := (told_alert _ _).mp
@[simp] theorem State.alert_fr (s : State) (n : Nat) : (s.alert n).fr = s.fr := (told_alert _ _).fr
@[simp] theorem State.alert_dma (s : State) (n : Nat) : (s.alert n).dma = s.dma := (told_alert _ _).dma
@[simp] theorem State.alert_beryl (s : State) (n : Nat) : (s.alert n).beryl = s.beryl := (told_alert _ _).beryl
@[simp] theorem State.alert_pfe (s : State) (n : Nat) : (s.alert n).pfe = s.pfe := (told_alert _ _).pfe
@[simp] theorem State.alert_axes (s : State) (n : Nat) : (s.alert n).axes = s.axes := (told_alert _ _).axes
@[simp] theorem State.alert_ik (s : State) (n : Nat) : (s.alert n).ik = s.ik := (told_alert _ _).ik
@[simp] theorem State.alert_flt (s : State) (n : Nat) : (s.alert n).flt = s.flt := (told_alert _ _).flt
@[simp] theorem State.alert_therm (s : State) (n : Nat) : (s.alert n).therm = s.therm := (told_alert _ _).therm
@[simp] theorem State.alert_cap (s : State) (n : Nat) : (s.alert n).cap = s.cap := (told_alert _ _).cap
@[simp] theorem State.alert_commits (s : State) (n : Nat) : (s.alert n).commits = s.commits := (told_alert _ _).commits
@[simp] theorem State.alert_mgmt (s : State) (n : Nat) : (s.alert n).mgmt = s.mgmt := (told_alert _ _).mgmt
@[simp] theorem State.alert_usb (s : State) (n : Nat) : (s.alert n).usb = s.usb := (told_alert _ _).usb
@[simp] theorem State.alert_twt (s : State) (n : Nat) : (s.alert n).twt = s.twt := (told_alert _ _).twt
@[simp] theorem State.alert_twc (s : State) (n : Nat) : (s.alert n).twc = s.twc := (told_alert _ _).twc
@[simp] theorem State.alert_onyx (s : State) (n : Nat) : (s.alert n).onyx = s.onyx := (told_alert _ _).onyx
@[simp] theorem State.alert_fresh (s : State) (n : Nat) : (s.alert n).fresh = s.fresh := (told_alert _ _).fresh
@[simp] theorem State.alert_pending (s : State) (n : Nat) : (s.alert n).pending = s.pending := (told_alert _ _).pending
@[simp] theorem State.rd_alert (s : State) (n : Nat) (q : Row) (x y z : Nat) : (s.alert n).rd q x y z = s.rd q x y z := (told_alert _ _).rd _ _ _ _
@[simp] theorem State.alertClear_regs (s : State) (m : Nat) : (s.alertClear m).regs = s.regs := (told_alertClear _ _).regs
@[simp] theorem State.alertClear_force (s : State) (m : Nat) : (s.alertClear m).force = s.force := (told_alertClear _ _).force
@[simp] theorem State.alertClear_shadow (s : State) (m : Nat) : (s.alertClear m).shadow = s.shadow := (told_alertClear _ _).shadow
@[simp] theorem State.alertClear_captures (s : State) (m : Nat) : (s.alertClear m).captures = s.captures := (told_alertClear _ _).captures
@[simp] theorem State.alertClear_tb (s : State) (m : Nat) : (s.alertClear m).tb = s.tb := (told_alertClear _ _).tb
@[simp] theorem State.alertClear_avs (s : State) (m : Nat) : (s.alertClear m).avs = s.avs := (told_alertClear _ _).avs
@[simp] theorem State.alertClear_thin (s : State) (m : Nat) : (s.alertClear m).thin = s.thin := (told_alertClear _ _).thin
@[simp] theorem State.alertClear_groups (s : State) (m : Nat) : (s.alertClear m).groups = s.groups := (told_alertClear _ _).groups
@[simp] theorem State.alertClear_pawn (s : State) (m : Nat) : (s.alertClear m).pawn = s.pawn := (told_alertClear _ _).pawn
@[simp] theorem State.alertClear_encoders (s : State) (m : Nat) : (s.alertClear m).encoders = s.encoders := (told_alertClear _ _).encoders
@[simp] theorem State.alertClear_lt (s : State) (m : Nat) : (s.alertClear m).lt = s.lt := (told_alertClear _ _).lt
@[simp] theorem State.alertClear_lines (s : State) (m : Nat) : (s.alertClear m).lines = s.lines := (told_alertClear _ _).lines
@[simp] theorem State.alertClear_epochs (s : State) (m : Nat) : (s.alertClear m).epochs = s.epochs := (told_alertClear _ _).epochs
@[simp] theorem State.alertClear_converters (s : State) (m : Nat) : (s.alertClear m).converters = s.converters := (told_alertClear _ _).converters
@[simp] theorem State.alertClear_buffers (s : State) (m : Nat) : (s.alertClear m).buffers = s.buffers := (told_alertClear _ _).buffers
@[simp] theorem State.alertClear_readouts (s : State) (m : Nat) : (s.alertClear m).readouts = s.readouts := (told_alertClear _ _).readouts
@[simp] theorem State.alertClear_plaus (s : State) (m : Nat) : (s.alertClear m).plaus = s.plaus := (told_alertClear _ _).plaus
@[simp] theorem State.alertClear_cast (s : State) (m : Nat) : (s.alertClear m).cast = s.cast := (told_alertClear _ _).cast
@[simp] theorem State.alertClear_lanes (s : State) (m : Nat) : (s.alertClear m).lanes = s.lanes := (told_alertClear _ _).lanes
@[simp] theorem State.alertClear_opal (s : State) (m : Nat) : (s.alertClear m).opal = s.opal := (told_alertClear _ _).opal
@[simp] theorem State.alertClear_pw (s : State) (m : Nat) : (s.alertClear m).pw = s.pw := (told_alertClear _ _).pw
@[simp] theorem State.alertClear_outLines (s : State) (m : Nat) : (s.alertClear m).outLines = s.outLines := (told_alertClear _ _).outLines
@[simp] theorem State.alertClear_joints (s : State) (m : Nat) : (s.alertClear m).joints = s.joints := (told_alertClear _ _).joints
@[simp] theorem State.alertClear_ref (s : State) (m : Nat) : (s.alertClear m).ref = s.ref := (told_alertClear _ _).ref
@[simp] theorem State.alertClear_reg (s : State) (m : Nat) : (s.alertClear m).reg = s.reg := (told_alertClear _ _).reg
@[simp] theorem State.alertClear_comp (s : State) (m : Nat) : (s.alertClear m).comp = s.comp := (told_alertClear _ _).comp
@[simp] theorem State.alertClear_mp (s : State) (m : Nat) : (s.alertClear m).mp = s.mp := (told_alertClear _ _).mp
@[simp] theorem State.alertClear_fr (s : State) (m : Nat) : (s.alertClear m).fr = s.fr := (told_alertClear _ _).fr
@[simp] theorem State.alertClear_dma (s : State) (m : Nat) : (s.alertClear m).dma = s.dma := (told_alertClear _ _).dma
@[simp] theorem State.alertClear_beryl (s : State) (m : Nat) : (s.alertClear m).beryl = s.beryl := (told_alertClear _ _).beryl
@[simp] theorem State.alertClear_pfe (s : State) (m : Nat) : (s.alertClear m).pfe = s.pfe := (told_alertClear _ _).pfe
@[simp] theorem State.alertClear_axes (s : State) (m : Nat) : (s.alertClear m).axes = s.axes := (told_alertClear _ _).axes
@[simp] theorem State.alertClear_ik (s : State) (m : Nat) : (s.alertClear m).ik = s.ik := (told_alertClear _ _).ik
@[simp] theorem State.alertClear_flt (s : State) (m : Nat) : (s.alertClear m).flt = s.flt := (told_alertClear _ _).flt
@[simp] theorem State.alertClear_therm (s : State) (m : Nat) : (s.alertClear m).therm = s.therm := (told_alertClear _ _).therm
@[simp] theorem State.alertClear_cap (s : State) (m : Nat) : (s.alertClear m).cap = s.cap := (told_alertClear _ _).cap
@[simp] theorem State.alertClear_commits (s : State) (m : Nat) : (s.alertClear m).commits = s.commits := (told_alertClear _ _).commits
@[simp] theorem State.alertClear_mgmt (s : State) (m : Nat) : (s.alertClear m).mgmt = s.mgmt := (told_alertClear _ _).mgmt
@[simp] theorem State.alertClear_usb (s : State) (m : Nat) : (s.alertClear m).usb = s.usb := (told_alertClear _ _).usb
@[simp] theorem State.alertClear_twt (s : State) (m : Nat) : (s.alertClear m).twt = s.twt := (told_alertClear _ _).twt
@[simp] theorem State.alertClear_twc (s : State) (m : Nat) : (s.alertClear m).twc = s.twc := (told_alertClear _ _).twc
@[simp] theorem State.alertClear_onyx (s : State) (m : Nat) : (s.alertClear m).onyx = s.onyx := (told_alertClear _ _).onyx
@[simp] theorem State.alertClear_fresh (s : State) (m : Nat) : (s.alertClear m).fresh = s.fresh := (told_alertClear _ _).fresh
@[simp] theorem State.alertClear_pending (s : State) (m : Nat) : (s.alertClear m).pending = s.pending := (told_alertClear _ _).pending
@[simp] theorem State.rd_alertClear (s : State) (m : Nat) (q : Row) (x y z : Nat) : (s.alertClear m).rd q x y z = s.rd q x y z := (told_alertClear _ _).rd _ _ _ _

end Sys2Proof.Machine
end

