-- ==== Sys2Proof/Laws/Events.lean ====
section
/-!
SUPPORT. PAGE_EVENT bits: what is raised is set, and nothing that tells of an event clears a bit.
-/

namespace Sys2Proof.Machine

theorem EventsKept.refl (s : State) : EventsKept s s := fun _ _ h => h

theorem EventsKept.trans {a b c : State} (h : EventsKept a b) (g : EventsKept b c) : EventsKept a c :=
  fun p b' e => g p b' (h p b' e)

/-- States with the same PAGE_EVENT registers. -/
theorem EventsKept.of_eq {s t : State} (h : t.nt.events = s.nt.events) : EventsKept s t := fun p b e => by rw [h]; exact e

theorem EventsKept.set {s t : State} (h : EventsKept s t) {e : Event} {k : Nat} (g : s.eventSet e k = true) :
    t.eventSet e k = true := h _ _ g

@[simp] theorem State.withIc_events (s : State) (f : IcOut → IcOut) : (s.withIc f).nt.events = s.nt.events := rfl

@[simp] theorem State.icRaise_events (s : State) (c src : Nat) : (s.icRaise c src).nt.events = s.nt.events := rfl

@[simp] theorem State.mgmtRaise_events (s : State) (src : Nat) : (s.mgmtRaise src).nt.events = s.nt.events := rfl

@[simp] theorem State.pageSource_events (s : State) (p : Nat) : (s.pageSource p).nt.events = s.nt.events := by
  unfold State.pageSource
  exact State.each_proj (·.nt.events) _ (fun s c => by split <;> (try split) <;> rfl) (List.range 17) s

@[simp] theorem State.putEvents_events (s : State) (p v : Nat) :
    (s.putEvents p v).nt.events = sput s.nt.events p v := by
  unfold State.putEvents
  dsimp only
  split <;> simp

theorem testBit_setBit (x n m : Nat) : (setBit x n).testBit m = (decide (m = n) || x.testBit m) := by
  unfold setBit
  rw [Nat.testBit_or, Nat.one_shiftLeft, Nat.testBit_two_pow, Bool.or_comm]
  congr 1
  exact decide_eq_decide.2 eq_comm

/-- The bit that is raised is set. -/
@[simp] theorem State.raise_eventSet (s : State) (e : Event) (k : Nat) : (s.raise e k).eventSet e k = true := by
  simp [State.raise, State.eventSet, testBit_setBit]

theorem eventsKept_raise (s : State) (e : Event) (k : Nat) : EventsKept s (s.raise e k) := by
  intro p b h
  unfold State.raise
  rw [State.putEvents_events]
  by_cases hp : p = e.page + e.step * k
  · subst hp
    rw [sget_sput_self, testBit_setBit, h, Bool.or_true]
  · rw [sget_sput_ne hp]
    exact h

theorem EventsKept.raise {a s : State} (h : EventsKept a s) (e : Event) (k : Nat) : EventsKept a (s.raise e k) :=
  h.trans (eventsKept_raise s e k)

theorem EventsKept.emit {a s : State} (h : EventsKept a s) (o : Output) : EventsKept a (s.emit o) := h

theorem EventsKept.nt {a s : State} {n : Notify} (hn : n.events = s.nt.events) (h : EventsKept a s) :
    EventsKept a { s with nt := n } := fun p b e => by rw [hn]; exact h p b e

theorem EventsKept.have {a b : State} (x : State) (hx : EventsKept a x) (hb : EventsKept a x → EventsKept a b) :
    EventsKept a b := hb hx

theorem EventsKept.usbMessage {a s : State} (h : EventsKept a s) (kind x y : Nat) :
    EventsKept a (s.usbMessage kind x y) := by
  unfold State.usbMessage
  extract_lets
  split
  · exact h
  · split
    · with_reducible apply EventsKept.nt
      · rfl
      · exact h
    · with_reducible apply EventsKept.raise
      with_reducible apply EventsKept.nt
      · rfl
      · exact h

theorem EventsKept.logTake {a s : State} (h : EventsKept a s) (b : LogBody) : EventsKept a (s.logTake b) := by
  unfold State.logTake
  extract_lets l e n t
  have ht : EventsKept a t := by
    unfold t
    with_reducible apply EventsKept.nt
    · rfl
    · exact h
  clear_value t
  split
  · exact ht.usbMessage _ _ _
  · exact ht

theorem EventsKept.logDrop {a s : State} (h : EventsKept a s) : EventsKept a s.logDrop := by
  unfold State.logDrop
  extract_lets l n
  with_reducible apply EventsKept.raise
  with_reducible apply EventsKept.nt
  · rfl
  · exact h

theorem EventsKept.log {a s : State} (h : EventsKept a s) (b : LogBody) : EventsKept a (s.log b) := by
  unfold State.log
  extract_lets room t n l
  have ht : EventsKept a t := h.logTake _
  repeat' split
  · exact h.logTake _
  · exact h.logDrop
  · with_reducible apply EventsKept.logTake
    with_reducible apply EventsKept.nt
    · rfl
    · exact ht
  · exact h.logDrop

theorem EventsKept.putAlerts {a s : State} (h : EventsKept a s) (x : Alerts) : EventsKept a (s.putAlerts x) := by
  unfold State.putAlerts
  extract_lets n t
  have ht : EventsKept a t := by
    unfold t
    with_reducible apply EventsKept.nt
    · rfl
    · exact h
  clear_value t
  split
  · exact (ht.emit _).raise _ _
  · split
    · exact ht.emit _
    · exact ht

theorem EventsKept.alert {a s : State} (h : EventsKept a s) (n : Nat) : EventsKept a (s.alert n) := by
  unfold State.alert
  extract_lets x
  split
  · exact h
  · exact h.putAlerts _

theorem EventsKept.alertClear {a s : State} (h : EventsKept a s) (m : Nat) : EventsKept a (s.alertClear m) :=
  h.putAlerts _

/-! ## What is told, with the states told apart by `nt` and `out` alone -/

theorem Told.elim {s t : State} (h : Told s t) : ∃ n o, t = { s with nt := n, out := o } := ⟨t.nt, t.out, h⟩

theorem Told.symm {s t : State} (h : Told s t) : Told t s := by
  obtain ⟨n, o, rfl⟩ := h.elim
  rfl

theorem Told.wr {s t : State} (h : Told s t) (r : Row) (v k i j : Nat) : Told (s.wr r v k i j) (t.wr r v k i j) := by
  obtain ⟨n, o, rfl⟩ := h.elim
  unfold State.wr
  split <;> rfl

theorem EventsKept.wr {s t : State} (h : EventsKept s t) (r : Row) (v k i j : Nat) : EventsKept s (t.wr r v k i j) := by
  unfold State.wr
  split <;> exact h

@[simp] theorem State.wr_eventSet (s : State) (r : Row) (v k i j : Nat) (e : Event) (n : Nat) :
    (s.wr r v k i j).eventSet e n = s.eventSet e n := by
  unfold State.wr
  split <;> rfl

end Sys2Proof.Machine
end

