-- ==== Sys2Proof/Laws/Frame.lean ====
section
/-!
SUPPORT. The frame of a function of the model: a mask names the parts of the block that it may change, and the
invariant of the steps is kept. How frames combine, and how they pass through what the functions are built from.
-/

namespace Sys2Proof.Machine

/-- Every part of the block that the mask `m` does not name is as it was, and the invariant of the steps is kept. -/
def Frame (m : Nat) (s t : State) : Prop := (∀ p : Part, m.testBit p.index = false → p.same s t) ∧ (s.wf → t.wf)

/-- The mask `m` names all that `k` names. -/
abbrev Within (k m : Nat) : Prop := m ||| k = m

theorem Within.trans {a b c : Nat} (h : Within b c) (g : Within a b) : Within a c := by
  unfold Within at *
  rw [← h, Nat.or_assoc, g]

theorem Within.bit {k m i : Nat} (h : Within k m) (g : k.testBit i = true) : m.testBit i = true := by
  unfold Within at h
  rw [← h, Nat.testBit_or, g, Bool.or_true]

theorem Frame.refl {m : Nat} (s : State) : Frame m s s := ⟨fun p _ => by cases p <;> rfl, id⟩

theorem Frame.trans {m : Nat} {a b c : State} (h : Frame m a b) (g : Frame m b c) : Frame m a c :=
  ⟨fun p hp => by cases p <;> exact Eq.trans (g.1 _ hp) (h.1 _ hp), fun w => g.2 (h.2 w)⟩

theorem Frame.mono {k m : Nat} {a b : State} (hc : Within k m) (h : Frame k a b) : Frame m a b :=
  ⟨fun p hp => h.1 p (by
    cases e : k.testBit p.index with
    | false => rfl
    | true => rw [hc.bit e] at hp; exact Bool.noConfusion hp), h.2⟩

theorem Frame.set_force {m : Nat} {a b : State} {v_force : Store}
    (h0 : m.testBit 1 = true) (h : Frame m a b) :
    Frame m a { b with force := v_force } := by
  refine ⟨fun p hp => ?_, h.2⟩
  cases p
  all_goals first
    | exact h.1 _ hp
    | exact (Bool.noConfusion (h0.symm.trans hp))

theorem Frame.set_shadow {m : Nat} {a b : State} {v_shadow : Store}
    (h0 : m.testBit 2 = true) (h : Frame m a b) :
    Frame m a { b with shadow := v_shadow } := by
  refine ⟨fun p hp => ?_, h.2⟩
  cases p
  all_goals first
    | exact h.1 _ hp
    | exact (Bool.noConfusion (h0.symm.trans hp))

theorem Frame.set_captures {m : Nat} {a b : State} {v_captures : Store}
    (h0 : m.testBit 3 = true) (h : Frame m a b) :
    Frame m a { b with captures := v_captures } := by
  refine ⟨fun p hp => ?_, h.2⟩
  cases p
  all_goals first
    | exact h.1 _ hp
    | exact (Bool.noConfusion (h0.symm.trans hp))

theorem Frame.set_nt {m : Nat} {a b : State} {v_nt : Notify}
    (h0 : m.testBit 4 = true) (h : Frame m a b) :
    Frame m a { b with nt := v_nt } := by
  refine ⟨fun p hp => ?_, h.2⟩
  cases p
  all_goals first
    | exact h.1 _ hp
    | exact (Bool.noConfusion (h0.symm.trans hp))

theorem Frame.set_avs {m : Nat} {a b : State} {v_avs : Avs}
    (h0 : m.testBit 6 = true) (h : Frame m a b) :
    Frame m a { b with avs := v_avs } := by
  refine ⟨fun p hp => ?_, h.2⟩
  cases p
  all_goals first
    | exact h.1 _ hp
    | exact (Bool.noConfusion (h0.symm.trans hp))

theorem Frame.set_thin {m : Nat} {a b : State} {v_thin : Thin}
    (h0 : m.testBit 7 = true) (h : Frame m a b) :
    Frame m a { b with thin := v_thin } := by
  refine ⟨fun p hp => ?_, h.2⟩
  cases p
  all_goals first
    | exact h.1 _ hp
    | exact (Bool.noConfusion (h0.symm.trans hp))

theorem Frame.set_groups {m : Nat} {a b : State} {v_groups : Table Group}
    (h0 : m.testBit 8 = true) (h : Frame m a b) :
    Frame m a { b with groups := v_groups } := by
  refine ⟨fun p hp => ?_, h.2⟩
  cases p
  all_goals first
    | exact h.1 _ hp
    | exact (Bool.noConfusion (h0.symm.trans hp))

theorem Frame.set_pawn {m : Nat} {a b : State} {v_pawn : Store}
    (h0 : m.testBit 9 = true) (h : Frame m a b) :
    Frame m a { b with pawn := v_pawn } := by
  refine ⟨fun p hp => ?_, h.2⟩
  cases p
  all_goals first
    | exact h.1 _ hp
    | exact (Bool.noConfusion (h0.symm.trans hp))

theorem Frame.set_encoders {m : Nat} {a b : State} {v_encoders : Table Encoder}
    (h0 : m.testBit 10 = true) (h : Frame m a b) :
    Frame m a { b with encoders := v_encoders } := by
  refine ⟨fun p hp => ?_, h.2⟩
  cases p
  all_goals first
    | exact h.1 _ hp
    | exact (Bool.noConfusion (h0.symm.trans hp))

theorem Frame.set_lt {m : Nat} {a b : State} {v_lt : Trigger}
    (h0 : m.testBit 11 = true) (h : Frame m a b) :
    Frame m a { b with lt := v_lt } := by
  refine ⟨fun p hp => ?_, h.2⟩
  cases p
  all_goals first
    | exact h.1 _ hp
    | exact (Bool.noConfusion (h0.symm.trans hp))

theorem Frame.set_lines {m : Nat} {a b : State} {v_lines : Table LineInfo}
    (h0 : m.testBit 12 = true) (h : Frame m a b) :
    Frame m a { b with lines := v_lines } := by
  refine ⟨fun p hp => ?_, h.2⟩
  cases p
  all_goals first
    | exact h.1 _ hp
    | exact (Bool.noConfusion (h0.symm.trans hp))

theorem Frame.set_converters {m : Nat} {a b : State} {v_converters : Table Converter}
    (h0 : m.testBit 14 = true) (h : Frame m a b) :
    Frame m a { b with converters := v_converters } := by
  refine ⟨fun p hp => ?_, h.2⟩
  cases p
  all_goals first
    | exact h.1 _ hp
    | exact (Bool.noConfusion (h0.symm.trans hp))

theorem Frame.set_buffers {m : Nat} {a b : State} {v_buffers : Table Buffer}
    (h0 : m.testBit 15 = true) (h : Frame m a b) :
    Frame m a { b with buffers := v_buffers } := by
  refine ⟨fun p hp => ?_, h.2⟩
  cases p
  all_goals first
    | exact h.1 _ hp
    | exact (Bool.noConfusion (h0.symm.trans hp))

theorem Frame.set_readouts {m : Nat} {a b : State} {v_readouts : Table Readout}
    (h0 : m.testBit 16 = true) (h : Frame m a b) :
    Frame m a { b with readouts := v_readouts } := by
  refine ⟨fun p hp => ?_, h.2⟩
  cases p
  all_goals first
    | exact h.1 _ hp
    | exact (Bool.noConfusion (h0.symm.trans hp))

theorem Frame.set_plaus {m : Nat} {a b : State} {v_plaus : Plaus}
    (h0 : m.testBit 17 = true) (h : Frame m a b) :
    Frame m a { b with plaus := v_plaus } := by
  refine ⟨fun p hp => ?_, h.2⟩
  cases p
  all_goals first
    | exact h.1 _ hp
    | exact (Bool.noConfusion (h0.symm.trans hp))

theorem Frame.set_cast {m : Nat} {a b : State} {v_cast : Castling}
    (h0 : m.testBit 18 = true) (h : Frame m a b) :
    Frame m a { b with cast := v_cast } := by
  refine ⟨fun p hp => ?_, h.2⟩
  cases p
  all_goals first
    | exact h.1 _ hp
    | exact (Bool.noConfusion (h0.symm.trans hp))

theorem Frame.set_lanes {m : Nat} {a b : State} {v_lanes : Table Lane}
    (h0 : m.testBit 19 = true) (h : Frame m a b) :
    Frame m a { b with lanes := v_lanes } := by
  refine ⟨fun p hp => ?_, h.2⟩
  cases p
  all_goals first
    | exact h.1 _ hp
    | exact (Bool.noConfusion (h0.symm.trans hp))

theorem Frame.set_opal {m : Nat} {a b : State} {v_opal : Opal}
    (h0 : m.testBit 20 = true) (h : Frame m a b) :
    Frame m a { b with opal := v_opal } := by
  refine ⟨fun p hp => ?_, h.2⟩
  cases p
  all_goals first
    | exact h.1 _ hp
    | exact (Bool.noConfusion (h0.symm.trans hp))

theorem Frame.set_pw {m : Nat} {a b : State} {v_pw : PaperWhite}
    (h0 : m.testBit 21 = true) (h : Frame m a b) :
    Frame m a { b with pw := v_pw } := by
  refine ⟨fun p hp => ?_, h.2⟩
  cases p
  all_goals first
    | exact h.1 _ hp
    | exact (Bool.noConfusion (h0.symm.trans hp))

theorem Frame.set_outLines {m : Nat} {a b : State} {v_outLines : Table OutLine}
    (h0 : m.testBit 22 = true) (h : Frame m a b) :
    Frame m a { b with outLines := v_outLines } := by
  refine ⟨fun p hp => ?_, h.2⟩
  cases p
  all_goals first
    | exact h.1 _ hp
    | exact (Bool.noConfusion (h0.symm.trans hp))

theorem Frame.set_joints {m : Nat} {a b : State} {v_joints : Table JointPart}
    (h0 : m.testBit 23 = true) (h : Frame m a b) :
    Frame m a { b with joints := v_joints } := by
  refine ⟨fun p hp => ?_, h.2⟩
  cases p
  all_goals first
    | exact h.1 _ hp
    | exact (Bool.noConfusion (h0.symm.trans hp))

theorem Frame.set_ref {m : Nat} {a b : State} {v_ref : Reference}
    (h0 : m.testBit 24 = true) (h : Frame m a b) :
    Frame m a { b with ref := v_ref } := by
  refine ⟨fun p hp => ?_, h.2⟩
  cases p
  all_goals first
    | exact h.1 _ hp
    | exact (Bool.noConfusion (h0.symm.trans hp))

theorem Frame.set_reg {m : Nat} {a b : State} {v_reg : Registration}
    (h0 : m.testBit 25 = true) (h : Frame m a b) :
    Frame m a { b with reg := v_reg } := by
  refine ⟨fun p hp => ?_, h.2⟩
  cases p
  all_goals first
    | exact h.1 _ hp
    | exact (Bool.noConfusion (h0.symm.trans hp))

theorem Frame.set_comp {m : Nat} {a b : State} {v_comp : Compare}
    (h0 : m.testBit 26 = true) (h : Frame m a b) :
    Frame m a { b with comp := v_comp } := by
  refine ⟨fun p hp => ?_, h.2⟩
  cases p
  all_goals first
    | exact h.1 _ hp
    | exact (Bool.noConfusion (h0.symm.trans hp))

theorem Frame.set_mp {m : Nat} {a b : State} {v_mp : Products}
    (h0 : m.testBit 27 = true) (h : Frame m a b) :
    Frame m a { b with mp := v_mp } := by
  refine ⟨fun p hp => ?_, h.2⟩
  cases p
  all_goals first
    | exact h.1 _ hp
    | exact (Bool.noConfusion (h0.symm.trans hp))

theorem Frame.set_fr {m : Nat} {a b : State} {v_fr : Freuri}
    (h0 : m.testBit 28 = true) (h : Frame m a b) :
    Frame m a { b with fr := v_fr } := by
  refine ⟨fun p hp => ?_, h.2⟩
  cases p
  all_goals first
    | exact h.1 _ hp
    | exact (Bool.noConfusion (h0.symm.trans hp))

theorem Frame.set_dma {m : Nat} {a b : State} {v_dma : Dma}
    (h0 : m.testBit 29 = true) (h : Frame m a b) :
    Frame m a { b with dma := v_dma } := by
  refine ⟨fun p hp => ?_, h.2⟩
  cases p
  all_goals first
    | exact h.1 _ hp
    | exact (Bool.noConfusion (h0.symm.trans hp))

theorem Frame.set_beryl {m : Nat} {a b : State} {v_beryl : Beryl}
    (h0 : m.testBit 30 = true) (h : Frame m a b) :
    Frame m a { b with beryl := v_beryl } := by
  refine ⟨fun p hp => ?_, h.2⟩
  cases p
  all_goals first
    | exact h.1 _ hp
    | exact (Bool.noConfusion (h0.symm.trans hp))

theorem Frame.set_pfe {m : Nat} {a b : State} {v_pfe : Pfe}
    (h0 : m.testBit 31 = true) (h : Frame m a b) :
    Frame m a { b with pfe := v_pfe } := by
  refine ⟨fun p hp => ?_, h.2⟩
  cases p
  all_goals first
    | exact h.1 _ hp
    | exact (Bool.noConfusion (h0.symm.trans hp))

theorem Frame.set_axes {m : Nat} {a b : State} {v_axes : Table Axis}
    (h0 : m.testBit 32 = true) (h : Frame m a b) :
    Frame m a { b with axes := v_axes } := by
  refine ⟨fun p hp => ?_, h.2⟩
  cases p
  all_goals first
    | exact h.1 _ hp
    | exact (Bool.noConfusion (h0.symm.trans hp))

theorem Frame.set_ik {m : Nat} {a b : State} {v_ik : Ikito}
    (h0 : m.testBit 33 = true) (h : Frame m a b) :
    Frame m a { b with ik := v_ik } := by
  refine ⟨fun p hp => ?_, h.2⟩
  cases p
  all_goals first
    | exact h.1 _ hp
    | exact (Bool.noConfusion (h0.symm.trans hp))

theorem Frame.set_flt {m : Nat} {a b : State} {v_flt : Faults}
    (h0 : m.testBit 34 = true) (h : Frame m a b) :
    Frame m a { b with flt := v_flt } := by
  refine ⟨fun p hp => ?_, h.2⟩
  cases p
  all_goals first
    | exact h.1 _ hp
    | exact (Bool.noConfusion (h0.symm.trans hp))

theorem Frame.set_therm {m : Nat} {a b : State} {v_therm : Thermal}
    (h0 : m.testBit 35 = true) (h : Frame m a b) :
    Frame m a { b with therm := v_therm } := by
  refine ⟨fun p hp => ?_, h.2⟩
  cases p
  all_goals first
    | exact h.1 _ hp
    | exact (Bool.noConfusion (h0.symm.trans hp))

theorem Frame.set_cap {m : Nat} {a b : State} {v_cap : Capacity}
    (h0 : m.testBit 36 = true) (h : Frame m a b) :
    Frame m a { b with cap := v_cap } := by
  refine ⟨fun p hp => ?_, h.2⟩
  cases p
  all_goals first
    | exact h.1 _ hp
    | exact (Bool.noConfusion (h0.symm.trans hp))

theorem Frame.set_commits {m : Nat} {a b : State} {v_commits : Commits}
    (h0 : m.testBit 37 = true) (h : Frame m a b) :
    Frame m a { b with commits := v_commits } := by
  refine ⟨fun p hp => ?_, h.2⟩
  cases p
  all_goals first
    | exact h.1 _ hp
    | exact (Bool.noConfusion (h0.symm.trans hp))

theorem Frame.set_mgmt {m : Nat} {a b : State} {v_mgmt : Mgmt}
    (h0 : m.testBit 38 = true) (h : Frame m a b) :
    Frame m a { b with mgmt := v_mgmt } := by
  refine ⟨fun p hp => ?_, h.2⟩
  cases p
  all_goals first
    | exact h.1 _ hp
    | exact (Bool.noConfusion (h0.symm.trans hp))

theorem Frame.set_usb {m : Nat} {a b : State} {v_usb : UsbPort}
    (h0 : m.testBit 39 = true) (h : Frame m a b) :
    Frame m a { b with usb := v_usb } := by
  refine ⟨fun p hp => ?_, h.2⟩
  cases p
  all_goals first
    | exact h.1 _ hp
    | exact (Bool.noConfusion (h0.symm.trans hp))

theorem Frame.set_twt {m : Nat} {a b : State} {v_twt : TwoWireTarget}
    (h0 : m.testBit 40 = true) (h : Frame m a b) :
    Frame m a { b with twt := v_twt } := by
  refine ⟨fun p hp => ?_, h.2⟩
  cases p
  all_goals first
    | exact h.1 _ hp
    | exact (Bool.noConfusion (h0.symm.trans hp))

theorem Frame.set_twc {m : Nat} {a b : State} {v_twc : TwoWireController}
    (h0 : m.testBit 41 = true) (h : Frame m a b) :
    Frame m a { b with twc := v_twc } := by
  refine ⟨fun p hp => ?_, h.2⟩
  cases p
  all_goals first
    | exact h.1 _ hp
    | exact (Bool.noConfusion (h0.symm.trans hp))

theorem Frame.set_onyx {m : Nat} {a b : State} {v_onyx : Onyx}
    (h0 : m.testBit 42 = true) (h : Frame m a b) :
    Frame m a { b with onyx := v_onyx } := by
  refine ⟨fun p hp => ?_, h.2⟩
  cases p
  all_goals first
    | exact h.1 _ hp
    | exact (Bool.noConfusion (h0.symm.trans hp))

theorem Frame.set_fresh {m : Nat} {a b : State} {v_fresh : Nat}
    (h0 : m.testBit 43 = true) (h : Frame m a b) :
    Frame m a { b with fresh := v_fresh } := by
  refine ⟨fun p hp => ?_, h.2⟩
  cases p
  all_goals first
    | exact h.1 _ hp
    | exact (Bool.noConfusion (h0.symm.trans hp))

theorem Frame.set_out {m : Nat} {a b : State} {v_out : List Output}
    (h0 : m.testBit 44 = true) (h : Frame m a b) :
    Frame m a { b with out := v_out } := by
  refine ⟨fun p hp => ?_, h.2⟩
  cases p
  all_goals first
    | exact h.1 _ hp
    | exact (Bool.noConfusion (h0.symm.trans hp))

theorem Frame.set_force_epochs {m : Nat} {a b : State} {v_force : Store} {v_epochs : List Epoch}
    (h0 : m.testBit 1 = true) (h1 : m.testBit 13 = true) (h : Frame m a b) :
    Frame m a { b with force := v_force, epochs := v_epochs } := by
  refine ⟨fun p hp => ?_, h.2⟩
  cases p
  all_goals first
    | exact h.1 _ hp
    | exact (Bool.noConfusion (h0.symm.trans hp))
    | exact (Bool.noConfusion (h1.symm.trans hp))

theorem Frame.set_nt_out {m : Nat} {a b : State} {v_nt : Notify} {v_out : List Output}
    (h0 : m.testBit 4 = true) (h1 : m.testBit 44 = true) (h : Frame m a b) :
    Frame m a { b with nt := v_nt, out := v_out } := by
  refine ⟨fun p hp => ?_, h.2⟩
  cases p
  all_goals first
    | exact h.1 _ hp
    | exact (Bool.noConfusion (h0.symm.trans hp))
    | exact (Bool.noConfusion (h1.symm.trans hp))

theorem Frame.set_epochs_opal {m : Nat} {a b : State} {v_epochs : List Epoch} {v_opal : Opal}
    (h0 : m.testBit 13 = true) (h1 : m.testBit 20 = true) (h : Frame m a b) :
    Frame m a { b with epochs := v_epochs, opal := v_opal } := by
  refine ⟨fun p hp => ?_, h.2⟩
  cases p
  all_goals first
    | exact h.1 _ hp
    | exact (Bool.noConfusion (h0.symm.trans hp))
    | exact (Bool.noConfusion (h1.symm.trans hp))

theorem Frame.set_ik_commits {m : Nat} {a b : State} {v_ik : Ikito} {v_commits : Commits}
    (h0 : m.testBit 33 = true) (h1 : m.testBit 37 = true) (h : Frame m a b) :
    Frame m a { b with ik := v_ik, commits := v_commits } := by
  refine ⟨fun p hp => ?_, h.2⟩
  cases p
  all_goals first
    | exact h.1 _ hp
    | exact (Bool.noConfusion (h0.symm.trans hp))
    | exact (Bool.noConfusion (h1.symm.trans hp))

theorem Frame.set_flt_mgmt {m : Nat} {a b : State} {v_flt : Faults} {v_mgmt : Mgmt}
    (h0 : m.testBit 34 = true) (h1 : m.testBit 38 = true) (h : Frame m a b) :
    Frame m a { b with flt := v_flt, mgmt := v_mgmt } := by
  refine ⟨fun p hp => ?_, h.2⟩
  cases p
  all_goals first
    | exact h.1 _ hp
    | exact (Bool.noConfusion (h0.symm.trans hp))
    | exact (Bool.noConfusion (h1.symm.trans hp))

theorem Frame.set_therm_mgmt {m : Nat} {a b : State} {v_therm : Thermal} {v_mgmt : Mgmt}
    (h0 : m.testBit 35 = true) (h1 : m.testBit 38 = true) (h : Frame m a b) :
    Frame m a { b with therm := v_therm, mgmt := v_mgmt } := by
  refine ⟨fun p hp => ?_, h.2⟩
  cases p
  all_goals first
    | exact h.1 _ hp
    | exact (Bool.noConfusion (h0.symm.trans hp))
    | exact (Bool.noConfusion (h1.symm.trans hp))

theorem Frame.set_usb_onyx {m : Nat} {a b : State} {v_usb : UsbPort} {v_onyx : Onyx}
    (h0 : m.testBit 39 = true) (h1 : m.testBit 42 = true) (h : Frame m a b) :
    Frame m a { b with usb := v_usb, onyx := v_onyx } := by
  refine ⟨fun p hp => ?_, h.2⟩
  cases p
  all_goals first
    | exact h.1 _ hp
    | exact (Bool.noConfusion (h0.symm.trans hp))
    | exact (Bool.noConfusion (h1.symm.trans hp))

theorem Frame.set_buffers_readouts_joints_reg {m : Nat} {a b : State} {v_buffers : Table Buffer} {v_readouts :
    Table Readout} {v_joints : Table JointPart} {v_reg : Registration}
    (h0 : m.testBit 15 = true) (h1 : m.testBit 16 = true) (h2 : m.testBit 23 = true) (h3 : m.testBit 25 = true)
    (h : Frame m a b) :
    Frame m a { b with buffers := v_buffers, readouts := v_readouts, joints := v_joints, reg := v_reg } := by
  refine ⟨fun p hp => ?_, h.2⟩
  cases p
  all_goals first
    | exact h.1 _ hp
    | exact (Bool.noConfusion (h0.symm.trans hp))
    | exact (Bool.noConfusion (h1.symm.trans hp))
    | exact (Bool.noConfusion (h2.symm.trans hp))
    | exact (Bool.noConfusion (h3.symm.trans hp))

theorem Frame.set_lines_epochs_readouts_plaus_opal_outLines_joints_ik {m : Nat} {a b : State} {v_lines : Table
    LineInfo} {v_epochs : List Epoch} {v_readouts : Table Readout} {v_plaus : Plaus} {v_opal : Opal} {v_outLines
    : Table OutLine} {v_joints : Table JointPart} {v_ik : Ikito}
    (h0 : m.testBit 12 = true) (h1 : m.testBit 13 = true) (h2 : m.testBit 16 = true) (h3 : m.testBit 17 = true)
    (h4 : m.testBit 20 = true) (h5 : m.testBit 22 = true) (h6 : m.testBit 23 = true) (h7 : m.testBit 33 = true)
    (h : Frame m a b) :
    Frame m a { b with
      lines := v_lines, epochs := v_epochs, readouts := v_readouts, plaus := v_plaus,
      opal := v_opal, outLines := v_outLines, joints := v_joints, ik := v_ik } := by
  refine ⟨fun p hp => ?_, h.2⟩
  cases p
  all_goals first
    | exact h.1 _ hp
    | exact (Bool.noConfusion (h0.symm.trans hp))
    | exact (Bool.noConfusion (h1.symm.trans hp))
    | exact (Bool.noConfusion (h2.symm.trans hp))
    | exact (Bool.noConfusion (h3.symm.trans hp))
    | exact (Bool.noConfusion (h4.symm.trans hp))
    | exact (Bool.noConfusion (h5.symm.trans hp))
    | exact (Bool.noConfusion (h6.symm.trans hp))
    | exact (Bool.noConfusion (h7.symm.trans hp))

theorem Frame.have {m : Nat} {a b : State} (x : State) (hx : Frame m a x) (hb : Frame m a x → Frame m a b) :
    Frame m a b := hb hx

theorem Frame.have1 {m : Nat} {α : Type} {a b : State} (x : State × α) (hx : Frame m a x.1)
    (hb : Frame m a x.1 → Frame m a b) : Frame m a b := hb hx

theorem Frame.have2 {m : Nat} {a b : State} (x : State → State) (hx : ∀ s, Frame m s (x s))
    (hb : (∀ {a s}, Frame m a s → Frame m a (x s)) → Frame m a b) : Frame m a b := hb fun h => h.trans (hx _)

theorem Frame.have3 {m : Nat} {α : Type} {a b : State} (x : State → α → State) (hx : ∀ s v, Frame m s (x s v))
    (hb : (∀ {a s v}, Frame m a s → Frame m a (x s v)) → Frame m a b) : Frame m a b := hb fun h => h.trans (hx _ _)

theorem Frame.have4 {m : Nat} {α : Type} {a b : State} (x : State → State × α) (hx : ∀ s, Frame m s (x s).1)
    (hb : (∀ {a s}, Frame m a s → Frame m a (x s).1) → Frame m a b) : Frame m a b := hb fun h => h.trans (hx _)

theorem Frame.ite {m : Nat} {a s t : State} {c : Prop} [Decidable c] (hs : Frame m a s) (ht : Frame m a t) :
    Frame m a (if c then s else t) := by
  split
  · exact hs
  · exact ht

theorem Frame.when {m : Nat} {a s : State} {b : Bool} {f : State → State} (h : Frame m a s) (hf : ∀ s, Frame m s
    (f s)) :
    Frame m a (s.when b f) := by
  cases b
  · exact h
  · exact h.trans (hf s)

theorem Frame.foldl {m : Nat} {α : Type} {a s : State} {l : List α} {f : State → α → State} (h : Frame m a s)
    (hf : ∀ s x, Frame m s (f s x)) : Frame m a (l.foldl f s) := by
  induction l generalizing s with
  | nil => exact h
  | cons x r ih => exact ih (h.trans (hf s x))

theorem Frame.each {m : Nat} {α : Type} {a s : State} {l : List α} {f : State → α → State} (h : Frame m a s)
    (hf : ∀ s x, Frame m s (f s x)) : Frame m a (s.each l f) := h.foldl hf

theorem Frame.powered {m : Nat} {a s : State} {f : State → State} (h : Frame m a s) (hf : ∀ s, Frame m s (f s)) :
    Frame m a (s.powered f) := by
  unfold State.powered
  split
  · exact h.trans (hf s)
  · exact h

theorem Frame.foldlFst {m : Nat} {α β : Type} {a : State} {p : State × β} {l : List α} {f : State × β → α → State
    × β}
    (h : Frame m a p.1) (hf : ∀ s b x, Frame m s (f (s, b) x).1) : Frame m a (l.foldl f p).1 := by
  induction l generalizing p with
  | nil => exact h
  | cons x r ih => exact ih (h.trans (hf p.1 p.2 x))

end Sys2Proof.Machine
end

