-- ==== Sys2Proof/Laws/FramesLines.lean ====
section
/-!
SUPPORT. The frame of each function: lines, time, converters and Castling.
-/

namespace Sys2Proof.Machine

/-! ## Ops -/

theorem frame_wr {M : Nat} {base : State} {s : State} (r : Row) (v : Nat) (k : Nat) (i : Nat) (j : Nat)
    (hc : Within 0x3 M) (hk : Frame M base s) : Frame M base (State.wr s r v k i j) := by
  unfold State.wr
  split
  all_goals
    refine ⟨fun p hp => ?_, fun w => ?_⟩
    · cases p
      all_goals first
        | exact hk.1 _ hp
        | exact Bool.noConfusion ((hc.bit (i := 0) (by decide)).symm.trans hp)
        | exact Bool.noConfusion ((hc.bit (i := 1) (by decide)).symm.trans hp)
  · exact hk.2 w
  · exact ⟨rising_sput _ _ _ _ (hk.2 w).1, (hk.2 w).2⟩

theorem frame_wrS {M : Nat} {base : State} {s : State} (r : Row) (v : Int) (k : Nat) (i : Nat) (j : Nat)
    (hc : Within 0x3 M) (hk : Frame M base s) : Frame M base (State.wrS s r v k i j) := by
  unfold State.wrS
  with_reducible repeat' first
      | assumption
      | apply frame_wr | exact hc.trans (by decide)

theorem frame_wrB {M : Nat} {base : State} {s : State} (r : Row) (b : Bool) (k : Nat) (i : Nat) (j : Nat)
    (hc : Within 0x3 M) (hk : Frame M base s) : Frame M base (State.wrB s r b k i j) := by
  unfold State.wrB
  with_reducible repeat' first
      | assumption
      | apply frame_wr | exact hc.trans (by decide)

theorem frame_inc {M : Nat} {base : State} {s : State} (r : Row) (k : Nat) (i : Nat) (n : Nat) (hc : Within 0x3 M)
    (hk : Frame M base s) : Frame M base (State.inc s r k i n) := by
  unfold State.inc
  with_reducible repeat' first
      | assumption
      | apply frame_wr | exact hc.trans (by decide)

theorem frame_incSat {M : Nat} {base : State} {s : State} (r : Row) (k : Nat) (i : Nat) (n : Nat)
    (hc : Within 0x3 M) (hk : Frame M base s) : Frame M base (State.incSat s r k i n) := by
  unfold State.incSat
  with_reducible repeat' first
      | assumption
      | apply frame_wr | exact hc.trans (by decide)

theorem frame_shadowWr {M : Nat} {base : State} {s : State} (r : Row) (v : Nat) (k : Nat) (i : Nat) (j : Nat)
    (hc : Within 0x4 M) (hk : Frame M base s) : Frame M base (State.shadowWr s r v k i j) := by
  unfold State.shadowWr
  with_reducible repeat' first
      | assumption
      | exact hc.trans (by decide) | exact hc.bit (by decide) | apply Frame.set_shadow

theorem frame_wrPair {M : Nat} {base : State} {s : State} (lo : Row) (hi : Row) (v : Nat) (k : Nat) (i : Nat)
    (hc : Within 0x3 M) (hk : Frame M base s) : Frame M base (State.wrPair s lo hi v k i) := by
  unfold State.wrPair
  with_reducible repeat' first
      | assumption
      | apply frame_wr | exact hc.trans (by decide)

theorem frame_emit {M : Nat} {base : State} {s : State} (o : Output) (hc : Within 0x100000000000 M)
    (hk : Frame M base s) : Frame M base (State.emit s o) := by
  unfold State.emit
  with_reducible repeat' first
      | assumption
      | exact hc.trans (by decide) | exact hc.bit (by decide) | apply Frame.set_out

theorem frame_take {M : Nat} {base : State} {s : State} (w : Nat) (hc : Within 0x80000000000 M)
    (hk : Frame M base s) : Frame M base ((State.take s w).1) := by
  unfold State.take
  with_reducible repeat' first
      | assumption
      | exact hc.trans (by decide) | exact hc.bit (by decide) | apply Frame.set_fresh

theorem frame_capture {M : Nat} {base : State} {s : State} (a : Nat) (p : Nat) (o : Nat) (v : Nat)
    (hc : Within 0x8 M) (hk : Frame M base s) : Frame M base (State.capture s a p o v) := by
  unfold State.capture
  with_reducible repeat' first
      | assumption
      | exact hc.trans (by decide) | exact hc.bit (by decide) | apply Frame.set_captures

theorem frame_hostField {M : Nat} {base : State} {s : State} (v : Nat) (f : Row × Nat × Nat × Nat)
    (hc : Within 0x7 M) (hk : Frame M base s) : Frame M base (State.hostField s v f) := by
  unfold State.hostField
  with_reducible repeat' first
      | assumption | apply Frame.refl
      | (extract_lets +onlyGivenNames x; first
        | (apply Frame.have x; unfold x; clear x; rotate_left; intro hx; clear_value x; rotate_right)
        | clear_value x)
      | apply frame_shadowWr | apply frame_wr | exact hc.trans (by decide) | split

theorem frame_hostWord {M : Nat} {base : State} {s : State} (p : Nat) (o : Nat) (v : Nat) (hc : Within 0x7 M)
    (hk : Frame M base s) : Frame M base (State.hostWord s p o v) := by
  unfold State.hostWord
  with_reducible repeat' first
      | assumption | apply Frame.refl | intro _
      | apply Frame.each | apply frame_hostField | exact hc.trans (by decide)

/-! ## Notify -/

theorem frame_withIc {M : Nat} {base : State} {s : State} (f : IcOut → IcOut) (hc : Within 0x100000000010 M)
    (hk : Frame M base s) : Frame M base (State.withIc s f) := by
  unfold State.withIc
  with_reducible repeat' first
      | assumption
      | (extract_lets +onlyGivenNames x; first
        | (apply Frame.have x; unfold x; clear x; rotate_left; intro hx; clear_value x; rotate_right)
        | clear_value x)
      | exact hc.trans (by decide) | exact hc.bit (by decide) | apply Frame.set_nt_out

theorem frame_icRaise {M : Nat} {base : State} {s : State} (c : Nat) (src : Nat) (hc : Within 0x100000000010 M)
    (hk : Frame M base s) : Frame M base (State.icRaise s c src) := by
  unfold State.icRaise
  with_reducible repeat' first
      | assumption
      | apply frame_withIc | exact hc.trans (by decide)

theorem frame_mgmtRaise {M : Nat} {base : State} {s : State} (src : Nat) (hc : Within 0x100000000010 M)
    (hk : Frame M base s) : Frame M base (State.mgmtRaise s src) := by
  unfold State.mgmtRaise
  with_reducible repeat' first
      | assumption
      | apply frame_icRaise | exact hc.trans (by decide)

theorem frame_pageSource {M : Nat} {base : State} {s : State} (p : Nat) (hc : Within 0x100000000010 M)
    (hk : Frame M base s) : Frame M base (State.pageSource s p) := by
  unfold State.pageSource
  with_reducible repeat' first
      | assumption | apply Frame.refl | intro _
      | (extract_lets +onlyGivenNames x; first
        | (apply Frame.have x; unfold x; clear x; rotate_left; intro hx; clear_value x; rotate_right)
        | clear_value x)
      | apply Frame.ite | apply Frame.foldl | apply frame_withIc | exact hc.trans (by decide) | split

theorem frame_putEvents {M : Nat} {base : State} {s : State} (p : Nat) (v : Nat) (hc : Within 0x100000000010 M)
    (hk : Frame M base s) : Frame M base (State.putEvents s p v) := by
  unfold State.putEvents
  with_reducible repeat' first
      | assumption | apply Frame.refl
      | (extract_lets +onlyGivenNames x; first
        | (apply Frame.have x; unfold x; clear x; rotate_left; intro hx; clear_value x; rotate_right)
        | clear_value x)
      | apply Frame.ite | apply frame_pageSource | exact hc.trans (by decide) | exact hc.bit (by decide) | split
      | apply Frame.set_nt

theorem frame_raise {M : Nat} {base : State} {s : State} (e : Event) (k : Nat) (hc : Within 0x100000000010 M)
    (hk : Frame M base s) : Frame M base (State.raise s e k) := by
  unfold State.raise
  with_reducible repeat' first
      | assumption
      | apply frame_putEvents | exact hc.trans (by decide)

theorem frame_usbMessage {M : Nat} {base : State} {s : State} (kind : Nat) (arg2 : Nat) (arg : Nat)
    (hc : Within 0x100000000010 M) (hk : Frame M base s) : Frame M base (State.usbMessage s kind arg2 arg) := by
  unfold State.usbMessage
  with_reducible repeat' first
      | assumption | apply Frame.refl
      | (extract_lets +onlyGivenNames x; first
        | (apply Frame.have x; unfold x; clear x; rotate_left; intro hx; clear_value x; rotate_right)
        | clear_value x)
      | apply Frame.ite | apply frame_log | apply frame_raise | exact hc.trans (by decide) | exact hc.bit (by decide)
      | split | apply Frame.set_nt

theorem frame_logTake {M : Nat} {base : State} {s : State} (b : LogBody) (hc : Within 0x100000000010 M)
    (hk : Frame M base s) : Frame M base (State.logTake s b) := by
  unfold State.logTake
  with_reducible repeat' first
      | assumption | apply Frame.refl
      | (extract_lets +onlyGivenNames x; first
        | (apply Frame.have x; unfold x; clear x; rotate_left; intro hx; clear_value x; rotate_right)
        | clear_value x)
      | apply Frame.ite | apply frame_log | apply frame_usbMessage | exact hc.trans (by decide)
      | exact hc.bit (by decide) | split | apply Frame.set_nt

theorem frame_logDrop {M : Nat} {base : State} {s : State} (hc : Within 0x100000000010 M) (hk : Frame M base s) :
    Frame M base (State.logDrop s) := by
  unfold State.logDrop
  with_reducible repeat' first
      | assumption
      | (extract_lets +onlyGivenNames x; first
        | (apply Frame.have x; unfold x; clear x; rotate_left; intro hx; clear_value x; rotate_right)
        | clear_value x)
      | apply frame_log | apply frame_raise | exact hc.trans (by decide) | exact hc.bit (by decide)
      | apply Frame.set_nt

theorem frame_log {M : Nat} {base : State} {s : State} (b : LogBody) (hc : Within 0x100000000010 M)
    (hk : Frame M base s) : Frame M base (State.log s b) := by
  unfold State.log
  with_reducible repeat' first
      | assumption | apply Frame.refl
      | (extract_lets +onlyGivenNames x; first
        | (apply Frame.have x; unfold x; clear x; rotate_left; intro hx; clear_value x; rotate_right)
        | clear_value x)
      | apply Frame.ite | apply frame_logDrop | apply frame_logTake | exact hc.trans (by decide)
      | exact hc.bit (by decide) | split | apply Frame.set_nt

theorem frame_putAlerts {M : Nat} {base : State} {s : State} (a : Alerts) (hc : Within 0x100000000010 M)
    (hk : Frame M base s) : Frame M base (State.putAlerts s a) := by
  unfold State.putAlerts
  with_reducible repeat' first
      | assumption | apply Frame.refl
      | (extract_lets +onlyGivenNames x; first
        | (apply Frame.have x; unfold x; clear x; rotate_left; intro hx; clear_value x; rotate_right)
        | clear_value x)
      | apply Frame.ite | apply frame_emit | apply frame_raise | exact hc.trans (by decide) | exact hc.bit (by decide)
      | split | apply Frame.set_nt

theorem frame_alert {M : Nat} {base : State} {s : State} (n : Nat) (hc : Within 0x100000000010 M)
    (hk : Frame M base s) : Frame M base (State.alert s n) := by
  unfold State.alert
  with_reducible repeat' first
      | assumption | apply Frame.refl
      | (extract_lets +onlyGivenNames x; first
        | (apply Frame.have x; unfold x; clear x; rotate_left; intro hx; clear_value x; rotate_right)
        | clear_value x)
      | apply Frame.ite | apply frame_putAlerts | exact hc.trans (by decide) | split

theorem frame_alertClear {M : Nat} {base : State} {s : State} (m : Nat) (hc : Within 0x100000000010 M)
    (hk : Frame M base s) : Frame M base (State.alertClear s m) := by
  unfold State.alertClear
  with_reducible repeat' first
      | assumption
      | apply frame_putAlerts | exact hc.trans (by decide)

/-! ## TimePace -/

theorem frame_discardAccess {M : Nat} {base : State} {s : State} (agent : Nat) (page : Nat) (offset : Nat)
    (width : Nat) (value : Nat) (isRead : Bool) (hc : Within 0x100000000010 M) (hk : Frame M base s) :
    Frame M base (State.discardAccess s agent page offset width value isRead) := by
  unfold State.discardAccess
  with_reducible repeat' first
      | assumption | apply Frame.refl
      | (extract_lets +onlyGivenNames x; first
        | (apply Frame.have x; unfold x; clear x; rotate_left; intro hx; clear_value x; rotate_right)
        | clear_value x)
      | apply Frame.ite | apply frame_emit | apply frame_log | exact hc.trans (by decide) | split

theorem frame_readAccess {M : Nat} {base : State} {s : State} (agent : Nat) (page : Nat) (offset : Nat)
    (sub : Nat) (width : Nat) (f : State → State × Nat) (hf : ∀ s, Frame M s (f s).1) (g : State → State × Nat)
    (hg : ∀ s, Frame M s (g s).1) (hc : Within 0x100000000010 M) (hk : Frame M base s) :
    Frame M base (State.readAccess s agent page offset sub width f g) := by
  unfold State.readAccess
  with_reducible repeat' first
      | assumption | apply Frame.refl | intro _
      | (extract_lets +onlyGivenNames x; first
        | (apply Frame.have x; unfold x; clear x; rotate_left; intro hx; clear_value x; rotate_right)
        | (apply Frame.have1 x; unfold x; clear x; rotate_left; intro hx; clear_value x; rotate_right)
        | (apply Frame.have2 x; unfold x; clear x; rotate_left; intro hq; clear_value x; rotate_right)
        | (apply Frame.have3 x; unfold x; clear x; rotate_left; intro hq; clear_value x; rotate_right)
        | (apply Frame.have4 x; unfold x; clear x; rotate_left; intro hq; clear_value x; rotate_right)
        | clear_value x)
      | apply hq | apply Frame.ite | apply Frame.when | apply Frame.each | apply Frame.foldl | apply Frame.foldlFst
      | apply frame_discardAccess | apply frame_emit | refine Frame.trans ?_ (hf ..) | refine Frame.trans ?_ (hg ..)
      | exact hc.trans (by decide) | split

theorem frame_storeAccess {M : Nat} {base : State} {s : State} (agent : Nat) (page : Nat) (o : Nat) (sub : Nat)
    (width : Nat) (v : Nat) (f : Nat → State → State) (hf : ∀ a s, Frame M s (f a s)) (g : Nat → State → State)
    (hg : ∀ a s, Frame M s (g a s)) (hc : Within 0x100000000010 M) (hk : Frame M base s) :
    Frame M base (State.storeAccess s agent page o sub width v f g) := by
  unfold State.storeAccess
  with_reducible repeat' first
      | assumption | apply Frame.refl
      | apply Frame.ite | apply frame_discardAccess | refine Frame.trans ?_ (hf ..) | refine Frame.trans ?_ (hg ..)
      | exact hc.trans (by decide) | split

theorem frame_pairLow {M : Nat} {base : State} {s : State} (agent : Nat) (page : Nat) (offset : Nat) (value : Nat)
    (hc : Within 0x8 M) (hk : Frame M base s) : Frame M base ((State.pairLow s agent page offset value).1) := by
  unfold State.pairLow
  with_reducible repeat' first
      | assumption
      | apply frame_capture | exact hc.trans (by decide)

theorem frame_pairHigh {M : Nat} {base : State} (agent : Nat) (page : Nat) (offset : Nat) {s : State}
    (hc : Within 0x0 M) (hk : Frame M base s) : Frame M base ((State.pairHigh agent page offset s).1) := by
  unfold State.pairHigh
  with_reducible repeat' first
      | assumption
      | exact hc.trans (by decide)

theorem frame_readPair {M : Nat} {base : State} {s : State} (agent : Nat) (page : Nat) (offset : Nat) (sub : Nat)
    (width : Nat) (value : Nat) (hc : Within 0x100000000018 M) (hk : Frame M base s) :
    Frame M base (State.readPair s agent page offset sub width value) := by
  unfold State.readPair
  with_reducible repeat' first
      | assumption | apply Frame.refl | intro _
      | (extract_lets +onlyGivenNames x; first
        | (apply Frame.have x; unfold x; clear x; rotate_left; intro hx; clear_value x; rotate_right)
        | (apply Frame.have1 x; unfold x; clear x; rotate_left; intro hx; clear_value x; rotate_right)
        | (apply Frame.have2 x; unfold x; clear x; rotate_left; intro hq; clear_value x; rotate_right)
        | (apply Frame.have3 x; unfold x; clear x; rotate_left; intro hq; clear_value x; rotate_right)
        | (apply Frame.have4 x; unfold x; clear x; rotate_left; intro hq; clear_value x; rotate_right)
        | clear_value x)
      | apply hq | apply Frame.ite | apply Frame.when | apply Frame.each | apply Frame.foldl | apply Frame.foldlFst
      | apply frame_pairHigh | apply frame_pairLow | apply frame_readAccess | exact hc.trans (by decide) | split

theorem frame_devModeWrite {M : Nat} {base : State} (agent : Nat) (v : Nat) {s : State}
    (hc : Within 0x100000000013 M) (hk : Frame M base s) : Frame M base (devModeWrite agent v s) := by
  unfold devModeWrite
  with_reducible repeat' first
      | assumption | apply Frame.refl
      | (extract_lets +onlyGivenNames x; first
        | (apply Frame.have x; unfold x; clear x; rotate_left; intro hx; clear_value x; rotate_right)
        | clear_value x)
      | apply Frame.ite | apply frame_log | apply frame_raise | apply frame_wr | exact hc.trans (by decide) | split

theorem frame_paceMonitor {M : Nat} {base : State} (window : Nat) {s : State} (x : Nat × Nat) (hc : Within 0x3 M)
    (hk : Frame M base s) : Frame M base (paceMonitor window s x) := by
  unfold paceMonitor
  with_reducible repeat' first
      | assumption
      | (extract_lets +onlyGivenNames x; first
        | (apply Frame.have x; unfold x; clear x; rotate_left; intro hx; clear_value x; rotate_right)
        | clear_value x)
      | apply frame_wr | apply frame_wrB | exact hc.trans (by decide)

theorem frame_spdAdv {M : Nat} {base : State} {s : State} (b : Bool) (hc : Within 0x100000000013 M)
    (hk : Frame M base s) : Frame M base (State.spdAdv s b) := by
  unfold State.spdAdv
  with_reducible repeat' first
      | assumption | apply Frame.refl
      | (extract_lets +onlyGivenNames x; first
        | (apply Frame.have x; unfold x; clear x; rotate_left; intro hx; clear_value x; rotate_right)
        | clear_value x)
      | apply Frame.ite | apply frame_emit | apply frame_raise | apply frame_wrB | exact hc.trans (by decide) | split

theorem frame_paceWindowEnd {M : Nat} {base : State} (tokens : List Nat) {s : State}
    (hc : Within 0x1000000000d3 M) (hk : Frame M base s) : Frame M base (paceWindowEnd tokens s) := by
  unfold paceWindowEnd
  with_reducible repeat' first
      | assumption | apply Frame.refl | intro _
      | (extract_lets +onlyGivenNames x; first
        | (apply Frame.have x; unfold x; clear x; rotate_left; intro hx; clear_value x; rotate_right)
        | clear_value x)
      | apply Frame.ite | apply Frame.when | apply Frame.each | apply Frame.foldl | apply frame_paceMonitor
      | apply frame_raise | apply frame_spdAdv | apply frame_wr | exact hc.trans (by decide)
      | exact hc.bit (by decide) | split | apply Frame.set_thin | apply Frame.set_avs

theorem frame_avsFault {M : Nat} {base : State} {s : State} (hc : Within 0x100000000050 M) (hk : Frame M base s) :
    Frame M base (State.avsFault s) := by
  unfold State.avsFault
  with_reducible repeat' first
      | assumption
      | apply frame_raise | exact hc.trans (by decide) | exact hc.bit (by decide) | apply Frame.set_avs

theorem frame_avsEvaluation {M : Nat} {base : State} {s : State} (hc : Within 0x120000000053 M)
    (hk : Frame M base s) : Frame M base (avsEvaluation s) := by
  unfold avsEvaluation
  with_reducible repeat' first
      | assumption | apply Frame.refl | intro _
      | (extract_lets +onlyGivenNames x; first
        | (apply Frame.have x; unfold x; clear x; rotate_left; intro hx; clear_value x; rotate_right)
        | (apply Frame.have1 x; unfold x; clear x; rotate_left; intro hx; clear_value x; rotate_right)
        | (apply Frame.have2 x; unfold x; clear x; rotate_left; intro hq; clear_value x; rotate_right)
        | (apply Frame.have3 x; unfold x; clear x; rotate_left; intro hq; clear_value x; rotate_right)
        | (apply Frame.have4 x; unfold x; clear x; rotate_left; intro hq; clear_value x; rotate_right)
        | clear_value x)
      | apply hq | apply Frame.ite | apply Frame.when | apply Frame.each | apply Frame.foldl | apply Frame.foldlFst
      | apply frame_avsFault | apply frame_emit | apply frame_raise | apply frame_wr | exact hc.trans (by decide)
      | exact hc.bit (by decide) | split | apply Frame.set_avs | apply Frame.set_twc

theorem frame_avsReadback {M : Nat} {base : State} (error : Bool) (mv : Nat) {s : State}
    (hc : Within 0x100000000053 M) (hk : Frame M base s) : Frame M base (avsReadback error mv s) := by
  unfold avsReadback
  with_reducible repeat' first
      | assumption | apply Frame.refl
      | (extract_lets +onlyGivenNames x; first
        | (apply Frame.have x; unfold x; clear x; rotate_left; intro hx; clear_value x; rotate_right)
        | clear_value x)
      | apply Frame.ite | apply frame_avsFault | apply frame_emit | apply frame_wr | exact hc.trans (by decide)
      | exact hc.bit (by decide) | split | apply Frame.set_avs

theorem frame_linkStart {M : Nat} {base : State} {s : State} (hc : Within 0x100000000000 M) (hk : Frame M base s) :
    Frame M base (State.linkStart s) := by
  unfold State.linkStart
  with_reducible repeat' first
      | assumption | apply Frame.refl | intro _
      | (extract_lets +onlyGivenNames x; first
        | (apply Frame.have x; unfold x; clear x; rotate_left; intro hx; clear_value x; rotate_right)
        | (apply Frame.have1 x; unfold x; clear x; rotate_left; intro hx; clear_value x; rotate_right)
        | (apply Frame.have2 x; unfold x; clear x; rotate_left; intro hq; clear_value x; rotate_right)
        | (apply Frame.have3 x; unfold x; clear x; rotate_left; intro hq; clear_value x; rotate_right)
        | (apply Frame.have4 x; unfold x; clear x; rotate_left; intro hq; clear_value x; rotate_right)
        | clear_value x)
      | apply hq | apply Frame.ite | apply Frame.when | apply Frame.each | apply Frame.foldl | apply Frame.foldlFst
      | apply frame_emit | exact hc.trans (by decide) | split

theorem frame_avsCtlWrite {M : Nat} {base : State} (v : Nat) {s : State} (hc : Within 0x100000000043 M)
    (hk : Frame M base s) : Frame M base (avsCtlWrite v s) := by
  unfold avsCtlWrite
  with_reducible repeat' first
      | assumption | apply Frame.refl | intro _
      | (extract_lets +onlyGivenNames x; first
        | (apply Frame.have x; unfold x; clear x; rotate_left; intro hx; clear_value x; rotate_right)
        | (apply Frame.have1 x; unfold x; clear x; rotate_left; intro hx; clear_value x; rotate_right)
        | (apply Frame.have2 x; unfold x; clear x; rotate_left; intro hq; clear_value x; rotate_right)
        | (apply Frame.have3 x; unfold x; clear x; rotate_left; intro hq; clear_value x; rotate_right)
        | (apply Frame.have4 x; unfold x; clear x; rotate_left; intro hq; clear_value x; rotate_right)
        | clear_value x)
      | apply hq | apply Frame.ite | apply Frame.when | apply Frame.each | apply Frame.foldl | apply Frame.foldlFst
      | apply frame_linkStart | apply frame_wr | apply frame_wrB | exact hc.trans (by decide)
      | exact hc.bit (by decide) | split | apply Frame.set_avs

theorem frame_avsVlimitWrite {M : Nat} {base : State} (v : Nat) {s : State} (hc : Within 0x3 M)
    (hk : Frame M base s) : Frame M base (avsVlimitWrite v s) := by
  unfold avsVlimitWrite
  with_reducible repeat' first
      | assumption
      | (extract_lets +onlyGivenNames x; first
        | (apply Frame.have x; unfold x; clear x; rotate_left; intro hx; clear_value x; rotate_right)
        | clear_value x)
      | apply frame_wr | exact hc.trans (by decide)

theorem frame_timeLoRead {M : Nat} {base : State} (agent : Nat) (sub : Nat) (width : Nat) {s : State}
    (hc : Within 0x100000000018 M) (hk : Frame M base s) : Frame M base (timeLoRead agent sub width s) := by
  unfold timeLoRead
  with_reducible repeat' first
      | assumption
      | apply frame_readPair | exact hc.trans (by decide)

theorem frame_tbRateWrite {M : Nat} {base : State} (v : Nat) {s : State} (hc : Within 0x3 M) (hk : Frame M base s) :
    Frame M base (tbRateWrite v s) := by
  unfold tbRateWrite
  with_reducible repeat' first
      | assumption | apply Frame.refl
      | apply Frame.ite | apply frame_wrS | exact hc.trans (by decide) | split

theorem low_lt (w : Nat) (x : Int) : low w x < 2 ^ w := by
  have h : (0 : Int) < 2 ^ w := Int.pow_pos (by decide)
  have := Int.emod_lt_of_pos x h
  have := Int.emod_nonneg x (Int.ne_of_gt h)
  exact (Int.toNat_lt (by assumption)).2 (by rw [Int.natCast_pow]; assumption)

theorem frame_setTime {M : Nat} {base : State} {s : State} (v : Int) (hc : Within 0x120 M) (hk : Frame M base s) :
    Frame M base (State.setTime s v) := by
  refine ⟨fun p hp => ?_, fun w => ⟨(hk.2 w).1, low_lt 64 _, (hk.2 w).2.2⟩⟩
  cases p
  all_goals first
    | exact hk.1 _ hp
    | exact Bool.noConfusion ((hc.bit (i := 5) (by decide)).symm.trans hp)
    | exact Bool.noConfusion ((hc.bit (i := 8) (by decide)).symm.trans hp)

theorem frame_tbStep {M : Nat} {base : State} (agent : Nat) (hi : Nat) {s : State} (hc : Within 0x100000000133 M)
    (hk : Frame M base s) : Frame M base (tbStep agent hi s) := by
  unfold tbStep
  with_reducible repeat' first
      | assumption | apply Frame.refl
      | (extract_lets +onlyGivenNames x; first
        | (apply Frame.have x; unfold x; clear x; rotate_left; intro hx; clear_value x; rotate_right)
        | clear_value x)
      | apply Frame.ite | apply frame_log | apply frame_raise | apply frame_setTime | apply frame_wr
      | exact hc.trans (by decide) | split

/-! ## Lines -/

theorem frame_atLine {M : Nat} {base : State} {s : State} (y : Nat) (hc : Within 0x2 M) (hk : Frame M base s) :
    Frame M base (State.atLine s y) := by
  unfold State.atLine
  with_reducible repeat' first
      | assumption
      | exact hc.trans (by decide) | exact hc.bit (by decide) | apply Frame.set_force

theorem frame_mark {M : Nat} {base : State} {s : State} (y : Nat) (lane : Nat) (code : Nat) (hc : Within 0x1000 M)
    (hk : Frame M base s) : Frame M base (State.mark s y lane code) := by
  unfold State.mark
  with_reducible repeat' first
      | assumption | apply Frame.refl
      | (extract_lets +onlyGivenNames x; first
        | (apply Frame.have x; unfold x; clear x; rotate_left; intro hx; clear_value x; rotate_right)
        | clear_value x)
      | apply Frame.ite | exact hc.trans (by decide) | exact hc.bit (by decide) | split | apply Frame.set_lines

theorem frame_putGroup {M : Nat} {base : State} {s : State} (g : Nat) (x : Group) (hc : Within 0x100 M)
    (hk : Frame M base s) : Frame M base (State.putGroup s g x) := by
  unfold State.putGroup
  with_reducible repeat' first
      | assumption
      | exact hc.trans (by decide) | exact hc.bit (by decide) | apply Frame.set_groups

theorem frame_groupCfg {M : Nat} {base : State} {s : State} (g : Nat) (hc : Within 0x2 M) (hk : Frame M base s) :
    Frame M base (State.groupCfg s g) := by
  unfold State.groupCfg
  with_reducible repeat' first
      | assumption
      | apply frame_atLine | exact hc.trans (by decide)

theorem frame_tellPhases {M : Nat} {base : State} {s : State} (g : Nat) (n : Nat) (os : List Nat)
    (hc : Within 0x100000000000 M) (hk : Frame M base s) : Frame M base (State.tellPhases s g n os) := by
  unfold State.tellPhases
  with_reducible repeat' first
      | assumption | apply Frame.refl | intro _
      | apply Frame.each | apply frame_emit | exact hc.trans (by decide)

theorem frame_phasesLow {M : Nat} {base : State} {s : State} (g : Nat) (hc : Within 0x100000000100 M)
    (hk : Frame M base s) : Frame M base (State.phasesLow s g) := by
  unfold State.phasesLow
  with_reducible repeat' first
      | assumption | intro _
      | (extract_lets +onlyGivenNames x; first
        | (apply Frame.have x; unfold x; clear x; rotate_left; intro hx; clear_value x; rotate_right)
        | clear_value x)
      | apply frame_putGroup | apply frame_tellPhases | exact hc.trans (by decide)

theorem frame_putBuffer {M : Nat} {base : State} {s : State} (c : Nat) (x : Buffer) (hc : Within 0x8000 M)
    (hk : Frame M base s) : Frame M base (State.putBuffer s c x) := by
  unfold State.putBuffer
  with_reducible repeat' first
      | assumption
      | exact hc.trans (by decide) | exact hc.bit (by decide) | apply Frame.set_buffers

theorem frame_putReadout {M : Nat} {base : State} {s : State} (y : Nat) (c : Nat) (r : Readout)
    (hc : Within 0x10000 M) (hk : Frame M base s) : Frame M base (State.putReadout s y c r) := by
  unfold State.putReadout
  with_reducible repeat' first
      | assumption
      | exact hc.trans (by decide) | exact hc.bit (by decide) | apply Frame.set_readouts

theorem frame_discardReadouts {M : Nat} {base : State} {s : State} (y : Nat) (k : Nat) (hc : Within 0x10000 M)
    (hk : Frame M base s) : Frame M base (State.discardReadouts s y k) := by
  unfold State.discardReadouts
  with_reducible repeat' first
      | assumption | apply Frame.refl | intro _
      | apply Frame.each | apply frame_putReadout | exact hc.trans (by decide)

theorem frame_invalidate {M : Nat} {base : State} {s : State} (g : Nat) (c : Nat) (n : Nat)
    (hc : Within 0x100000011103 M) (hk : Frame M base s) : Frame M base (State.invalidate s g c n) := by
  unfold State.invalidate
  with_reducible repeat' first
      | assumption | apply Frame.refl
      | (extract_lets +onlyGivenNames x; first
        | (apply Frame.have x; unfold x; clear x; rotate_left; intro hx; clear_value x; rotate_right)
        | clear_value x)
      | apply Frame.ite | apply frame_discardReadouts | apply frame_mark | apply frame_phasesLow
      | apply frame_putGroup | apply frame_wr | exact hc.trans (by decide) | split

theorem frame_advance {M : Nat} {base : State} {s : State} (g : Nat) (b : Nat) (hc : Within 0x100000011103 M)
    (hk : Frame M base s) : Frame M base (State.advance s g b) := by
  unfold State.advance
  with_reducible repeat' first
      | assumption | apply Frame.refl
      | (extract_lets +onlyGivenNames x; first
        | (apply Frame.have x; unfold x; clear x; rotate_left; intro hx; clear_value x; rotate_right)
        | clear_value x)
      | apply Frame.ite | apply frame_groupCfg | apply frame_invalidate | apply frame_putGroup
      | exact hc.trans (by decide) | split

theorem frame_reachStrobe {M : Nat} {base : State} {s : State} (g : Nat) (n : Nat) (hc : Within 0x100000011103 M)
    (hk : Frame M base s) : Frame M base (State.reachStrobe s g n) := by
  unfold State.reachStrobe
  with_reducible repeat' first
      | assumption | apply Frame.refl
      | (extract_lets +onlyGivenNames x; first
        | (apply Frame.have x; unfold x; clear x; rotate_left; intro hx; clear_value x; rotate_right)
        | clear_value x)
      | apply Frame.ite | apply frame_advance | exact hc.trans (by decide) | split

theorem frame_putPawnWord {M : Nat} {base : State} {s : State} (g : Nat) (bank : Nat) (addr : Nat) (v : Nat)
    (hc : Within 0x200 M) (hk : Frame M base s) : Frame M base (State.putPawnWord s g bank addr v) := by
  unfold State.putPawnWord
  with_reducible repeat' first
      | assumption
      | exact hc.trans (by decide) | exact hc.bit (by decide) | apply Frame.set_pawn

theorem frame_pawnJump {M : Nat} {base : State} {s : State} (g : Nat) (a : Nat) (hc : Within 0x100 M)
    (hk : Frame M base s) : Frame M base (State.pawnJump s g a) := by
  unfold State.pawnJump
  with_reducible repeat' first
      | assumption
      | apply frame_putGroup | exact hc.trans (by decide)

theorem frame_pawnIssue {M : Nat} {base : State} {s : State} (g : Nat) (op : Nat) (f : State → Nat → State)
    (hf : ∀ s a, Frame M s (f s a)) (hc : Within 0x100000011103 M) (hk : Frame M base s) :
    Frame M base (State.pawnIssue s g op f) := by
  unfold State.pawnIssue
  with_reducible repeat' first
      | assumption | apply Frame.refl
      | (extract_lets +onlyGivenNames x; first
        | (apply Frame.have x; unfold x; clear x; rotate_left; intro hx; clear_value x; rotate_right)
        | clear_value x)
      | apply Frame.ite | apply frame_advance | apply frame_invalidate | apply frame_putGroup | apply frame_wr
      | refine Frame.trans ?_ (hf ..) | exact hc.trans (by decide) | split

theorem frame_pawnOut {M : Nat} {base : State} (g : Nat) {s : State} (w : Nat) (hc : Within 0x100000011103 M)
    (hk : Frame M base s) : Frame M base (pawnOut g s w) := by
  unfold pawnOut
  with_reducible repeat' first
      | assumption | apply Frame.refl | intro _
      | (extract_lets +onlyGivenNames x; first
        | (apply Frame.have x; unfold x; clear x; rotate_left; intro hx; clear_value x; rotate_right)
        | clear_value x)
      | apply Frame.ite | apply frame_advance | apply frame_groupCfg | apply frame_invalidate | apply frame_putGroup
      | apply frame_tellPhases | exact hc.trans (by decide) | split

theorem frame_pawnLdc {M : Nat} {base : State} (g : Nat) {s : State} (w : Nat) (hc : Within 0x100 M)
    (hk : Frame M base s) : Frame M base (pawnLdc g s w) := by
  unfold pawnLdc
  with_reducible repeat' first
      | assumption
      | (extract_lets +onlyGivenNames x; first
        | (apply Frame.have x; unfold x; clear x; rotate_left; intro hx; clear_value x; rotate_right)
        | clear_value x)
      | apply frame_putGroup | exact hc.trans (by decide)

theorem frame_pawnDjnz {M : Nat} {base : State} (g : Nat) {s : State} (w : Nat) (hc : Within 0x100 M)
    (hk : Frame M base s) : Frame M base (pawnDjnz g s w) := by
  unfold pawnDjnz
  with_reducible repeat' first
      | assumption | apply Frame.refl
      | (extract_lets +onlyGivenNames x; first
        | (apply Frame.have x; unfold x; clear x; rotate_left; intro hx; clear_value x; rotate_right)
        | clear_value x)
      | apply Frame.ite | apply frame_pawnJump | apply frame_putGroup | exact hc.trans (by decide) | split

theorem frame_pawnJc {M : Nat} {base : State} (g : Nat) {s : State} (w : Nat) (hc : Within 0x100 M)
    (hk : Frame M base s) : Frame M base (pawnJc g s w) := by
  unfold pawnJc
  with_reducible repeat' first
      | assumption | apply Frame.refl
      | apply Frame.ite | apply frame_pawnJump | exact hc.trans (by decide) | split

theorem frame_pawnStw {M : Nat} {base : State} (g : Nat) {s : State} (w : Nat) (hc : Within 0x200 M)
    (hk : Frame M base s) : Frame M base (pawnStw g s w) := by
  unfold pawnStw
  with_reducible repeat' first
      | assumption | apply Frame.refl
      | (extract_lets +onlyGivenNames x; first
        | (apply Frame.have x; unfold x; clear x; rotate_left; intro hx; clear_value x; rotate_right)
        | clear_value x)
      | apply Frame.ite | apply frame_putPawnWord | exact hc.trans (by decide) | split

theorem frame_pawnEnd {M : Nat} {base : State} (g : Nat) {s : State} (_w : Nat) (hc : Within 0x100000011103 M)
    (hk : Frame M base s) : Frame M base (pawnEnd g s _w) := by
  unfold pawnEnd
  with_reducible repeat' first
      | assumption | apply Frame.refl
      | (extract_lets +onlyGivenNames x; first
        | (apply Frame.have x; unfold x; clear x; rotate_left; intro hx; clear_value x; rotate_right)
        | clear_value x)
      | apply Frame.ite | apply frame_advance | apply frame_groupCfg | apply frame_invalidate | apply frame_putGroup
      | exact hc.trans (by decide) | split

theorem frame_pawnLineTimeout {M : Nat} {base : State} (g : Nat) {s : State} (hc : Within 0x100000011103 M)
    (hk : Frame M base s) : Frame M base (pawnLineTimeout g s) := by
  unfold pawnLineTimeout
  with_reducible repeat' first
      | assumption | apply Frame.refl
      | (extract_lets +onlyGivenNames x; first
        | (apply Frame.have x; unfold x; clear x; rotate_left; intro hx; clear_value x; rotate_right)
        | clear_value x)
      | apply Frame.ite | apply frame_advance | apply frame_groupCfg | apply frame_invalidate
      | exact hc.trans (by decide) | split

theorem frame_pawnDataHiWrite {M : Nat} {base : State} (g : Nat) (v : Nat) {s : State}
    (hc : Within 0x100000000213 M) (hk : Frame M base s) : Frame M base (pawnDataHiWrite g v s) := by
  unfold pawnDataHiWrite
  with_reducible repeat' first
      | assumption | apply Frame.refl
      | (extract_lets +onlyGivenNames x; first
        | (apply Frame.have x; unfold x; clear x; rotate_left; intro hx; clear_value x; rotate_right)
        | clear_value x)
      | apply Frame.ite | apply frame_putPawnWord | apply frame_raise | apply frame_wr | exact hc.trans (by decide)
      | split

theorem frame_pawnDataLo {M : Nat} {base : State} (g : Nat) {s : State} (hc : Within 0x100 M) (hk : Frame M base s) :
    Frame M base ((pawnDataLo g s).1) := by
  unfold pawnDataLo
  with_reducible repeat' first
      | assumption | apply Frame.refl
      | (extract_lets +onlyGivenNames x; first
        | (apply Frame.have x; unfold x; clear x; rotate_left; intro hx; clear_value x; rotate_right)
        | clear_value x)
      | apply Frame.ite | apply frame_capture | apply frame_putGroup | exact hc.trans (by decide) | split

theorem frame_pawnDataHi {M : Nat} {base : State} (g : Nat) {s : State} (hc : Within 0x3 M) (hk : Frame M base s) :
    Frame M base ((pawnDataHi g s).1) := by
  unfold pawnDataHi
  with_reducible repeat' first
      | assumption
      | apply frame_capture | apply frame_wr | exact hc.trans (by decide)

theorem frame_pawnDataLoRead {M : Nat} {base : State} (agent : Nat) (g : Nat) (sub : Nat) (width : Nat)
    {s : State} (hc : Within 0x100000000113 M) (hk : Frame M base s) :
    Frame M base (pawnDataLoRead agent g sub width s) := by
  unfold pawnDataLoRead
  with_reducible repeat' first
      | assumption | apply Frame.refl | intro _
      | (extract_lets +onlyGivenNames x; first
        | (apply Frame.have x; unfold x; clear x; rotate_left; intro hx; clear_value x; rotate_right)
        | (apply Frame.have1 x; unfold x; clear x; rotate_left; intro hx; clear_value x; rotate_right)
        | (apply Frame.have2 x; unfold x; clear x; rotate_left; intro hq; clear_value x; rotate_right)
        | (apply Frame.have3 x; unfold x; clear x; rotate_left; intro hq; clear_value x; rotate_right)
        | (apply Frame.have4 x; unfold x; clear x; rotate_left; intro hq; clear_value x; rotate_right)
        | clear_value x)
      | apply hq | apply Frame.ite | apply Frame.when | apply Frame.each | apply Frame.foldl | apply Frame.foldlFst
      | apply frame_pawnDataHi | apply frame_pawnDataLo | apply frame_readAccess | exact hc.trans (by decide) | split

theorem frame_pawnDataHiRead {M : Nat} {base : State} (agent : Nat) (g : Nat) (sub : Nat) (width : Nat)
    {s : State} (hc : Within 0x100000000013 M) (hk : Frame M base s) :
    Frame M base (pawnDataHiRead agent g sub width s) := by
  unfold pawnDataHiRead
  with_reducible repeat' first
      | assumption | apply Frame.refl | intro _
      | apply Frame.ite | apply frame_discardAccess | apply frame_pawnDataHi | apply frame_readAccess
      | exact hc.trans (by decide) | split

theorem frame_showLed {M : Nat} {base : State} {s : State} (g : Nat) (n : Nat) (hc : Within 0x100000000102 M)
    (hk : Frame M base s) : Frame M base (State.showLed s g n) := by
  unfold State.showLed
  with_reducible repeat' first
      | assumption | apply Frame.refl
      | (extract_lets +onlyGivenNames x; first
        | (apply Frame.have x; unfold x; clear x; rotate_left; intro hx; clear_value x; rotate_right)
        | clear_value x)
      | apply Frame.ite | apply frame_emit | apply frame_groupCfg | apply frame_putGroup | exact hc.trans (by decide)
      | split

theorem frame_showLeds {M : Nat} {base : State} {s : State} (g : Nat) (hc : Within 0x100000000102 M)
    (hk : Frame M base s) : Frame M base (State.showLeds s g) := by
  unfold State.showLeds
  with_reducible repeat' first
      | assumption
      | apply frame_showLed | exact hc.trans (by decide)

theorem frame_putLed {M : Nat} {base : State} {s : State} (g : Nat) (n : Nat) (v : Nat)
    (hc : Within 0x100000000102 M) (hk : Frame M base s) : Frame M base (State.putLed s g n v) := by
  unfold State.putLed
  with_reducible repeat' first
      | assumption
      | apply frame_putGroup | apply frame_showLed | exact hc.trans (by decide)

theorem frame_ledStrobe {M : Nat} {base : State} (g : Nat) (n : Nat) {s : State} (hc : Within 0x100000000112 M)
    (hk : Frame M base s) : Frame M base (ledStrobe g n s) := by
  unfold ledStrobe
  with_reducible repeat' first
      | assumption | apply Frame.refl
      | (extract_lets +onlyGivenNames x; first
        | (apply Frame.have x; unfold x; clear x; rotate_left; intro hx; clear_value x; rotate_right)
        | clear_value x)
      | apply Frame.ite | apply frame_putLed | apply frame_raise | exact hc.trans (by decide) | split

theorem frame_clipLeds {M : Nat} {base : State} {s : State} (g : Nat) (hc : Within 0x100000000112 M)
    (hk : Frame M base s) : Frame M base (State.clipLeds s g) := by
  unfold State.clipLeds
  with_reducible repeat' first
      | assumption | apply Frame.refl | intro _
      | (extract_lets +onlyGivenNames x; first
        | (apply Frame.have x; unfold x; clear x; rotate_left; intro hx; clear_value x; rotate_right)
        | clear_value x)
      | apply Frame.ite | apply Frame.each | apply frame_ledStrobe | exact hc.trans (by decide) | split

theorem frame_cutLeds {M : Nat} {base : State} {s : State} (g : Nat) (hc : Within 0x100000000102 M)
    (hk : Frame M base s) : Frame M base (State.cutLeds s g) := by
  unfold State.cutLeds
  with_reducible repeat' first
      | assumption | apply Frame.refl | intro _
      | apply Frame.each | apply frame_putLed | exact hc.trans (by decide)

theorem frame_setFallback {M : Nat} {base : State} {s : State} (g : Nat) (b : Bool) (y : Nat) (hc : Within 0x3 M)
    (hk : Frame M base s) : Frame M base (State.setFallback s g b y) := by
  unfold State.setFallback
  with_reducible repeat' first
      | assumption | apply Frame.refl
      | apply Frame.ite | apply frame_wr | apply frame_wrB | exact hc.trans (by decide) | split

theorem frame_swapBanks {M : Nat} {base : State} {s : State} (g : Nat) (y : Nat) (hc : Within 0x100000000117 M)
    (hk : Frame M base s) : Frame M base (State.swapBanks s g y) := by
  unfold State.swapBanks
  with_reducible repeat' first
      | assumption | apply Frame.refl | intro _
      | (extract_lets +onlyGivenNames x; first
        | (apply Frame.have x; unfold x; clear x; rotate_left; intro hx; clear_value x; rotate_right)
        | (apply Frame.have1 x; unfold x; clear x; rotate_left; intro hx; clear_value x; rotate_right)
        | (apply Frame.have2 x; unfold x; clear x; rotate_left; intro hq; clear_value x; rotate_right)
        | (apply Frame.have3 x; unfold x; clear x; rotate_left; intro hq; clear_value x; rotate_right)
        | (apply Frame.have4 x; unfold x; clear x; rotate_left; intro hq; clear_value x; rotate_right)
        | clear_value x)
      | apply hq | apply Frame.ite | apply Frame.when | apply Frame.each | apply Frame.foldl | apply Frame.foldlFst
      | apply frame_putGroup | apply frame_raise | apply frame_setFallback | apply frame_shadowWr | apply frame_wr
      | exact hc.trans (by decide) | split

theorem frame_keepUp {M : Nat} {base : State} {s : State} (g : Nat) (hc : Within 0x100000011103 M)
    (hk : Frame M base s) : Frame M base (State.keepUp s g) := by
  unfold State.keepUp
  with_reducible repeat' first
      | assumption | apply Frame.refl
      | (extract_lets +onlyGivenNames x; first
        | (apply Frame.have x; unfold x; clear x; rotate_left; intro hx; clear_value x; rotate_right)
        | clear_value x)
      | apply Frame.ite | apply frame_advance | exact hc.trans (by decide) | split

theorem frame_endPeriod {M : Nat} {base : State} {s : State} (g : Nat) (hc : Within 0x100000011113 M)
    (hk : Frame M base s) : Frame M base (State.endPeriod s g) := by
  unfold State.endPeriod
  with_reducible repeat' first
      | assumption | apply Frame.refl | intro _
      | (extract_lets +onlyGivenNames x; first
        | (apply Frame.have x; unfold x; clear x; rotate_left; intro hx; clear_value x; rotate_right)
        | (apply Frame.have1 x; unfold x; clear x; rotate_left; intro hx; clear_value x; rotate_right)
        | (apply Frame.have2 x; unfold x; clear x; rotate_left; intro hq; clear_value x; rotate_right)
        | (apply Frame.have3 x; unfold x; clear x; rotate_left; intro hq; clear_value x; rotate_right)
        | (apply Frame.have4 x; unfold x; clear x; rotate_left; intro hq; clear_value x; rotate_right)
        | clear_value x)
      | apply hq | apply Frame.ite | apply Frame.when | apply Frame.each | apply Frame.foldl | apply Frame.foldlFst
      | apply frame_advance | apply frame_cutLeds | apply frame_raise | exact hc.trans (by decide) | split

theorem frame_disableGroup {M : Nat} {base : State} {s : State} (g : Nat) (hc : Within 0x100000011113 M)
    (hk : Frame M base s) : Frame M base (State.disableGroup s g) := by
  unfold State.disableGroup
  with_reducible repeat' first
      | assumption | apply Frame.refl
      | (extract_lets +onlyGivenNames x; first
        | (apply Frame.have x; unfold x; clear x; rotate_left; intro hx; clear_value x; rotate_right)
        | clear_value x)
      | apply frame_endPeriod | apply frame_mark | apply frame_phasesLow | apply frame_putGroup | apply frame_showLeds
      | exact hc.trans (by decide) | split

theorem frame_pawnRestart {M : Nat} {base : State} {s : State} (g : Nat) (hc : Within 0x100000000102 M)
    (hk : Frame M base s) : Frame M base (State.pawnRestart s g) := by
  unfold State.pawnRestart
  with_reducible repeat' first
      | assumption | apply Frame.refl | intro _
      | (extract_lets +onlyGivenNames x; first
        | (apply Frame.have x; unfold x; clear x; rotate_left; intro hx; clear_value x; rotate_right)
        | clear_value x)
      | apply Frame.ite | apply frame_groupCfg | apply frame_putGroup | apply frame_tellPhases
      | exact hc.trans (by decide) | split

theorem frame_startPeriod {M : Nat} {base : State} {s : State} (g : Nat) (line : Option (Nat × Nat))
    (hc : Within 0x100000011117 M) (hk : Frame M base s) : Frame M base (State.startPeriod s g line) := by
  unfold State.startPeriod
  with_reducible repeat' first
      | assumption | apply Frame.refl
      | (extract_lets +onlyGivenNames x; first
        | (apply Frame.have x; unfold x; clear x; rotate_left; intro hx; clear_value x; rotate_right)
        | clear_value x)
      | apply Frame.ite | apply frame_endPeriod | apply frame_groupCfg | apply frame_inc | apply frame_pawnRestart
      | apply frame_putGroup | apply frame_raise | apply frame_setFallback | apply frame_showLeds
      | apply frame_swapBanks | apply frame_wr | exact hc.trans (by decide) | split

theorem frame_putEncoder {M : Nat} {base : State} {s : State} (n : Nat) (x : Encoder) (hc : Within 0x400 M)
    (hk : Frame M base s) : Frame M base (State.putEncoder s n x) := by
  unfold State.putEncoder
  with_reducible repeat' first
      | assumption
      | exact hc.trans (by decide) | exact hc.bit (by decide) | apply Frame.set_encoders

theorem frame_sourceLost {M : Nat} {base : State} {s : State} (src : Nat) (hc : Within 0x100000000010 M)
    (hk : Frame M base s) : Frame M base (State.sourceLost s src) := by
  unfold State.sourceLost
  with_reducible repeat' first
      | assumption | apply Frame.refl | intro _
      | (extract_lets +onlyGivenNames x; first
        | (apply Frame.have x; unfold x; clear x; rotate_left; intro hx; clear_value x; rotate_right)
        | (apply Frame.have1 x; unfold x; clear x; rotate_left; intro hx; clear_value x; rotate_right)
        | (apply Frame.have2 x; unfold x; clear x; rotate_left; intro hq; clear_value x; rotate_right)
        | (apply Frame.have3 x; unfold x; clear x; rotate_left; intro hq; clear_value x; rotate_right)
        | (apply Frame.have4 x; unfold x; clear x; rotate_left; intro hq; clear_value x; rotate_right)
        | clear_value x)
      | apply hq | apply Frame.ite | apply Frame.when | apply Frame.each | apply Frame.foldl | apply Frame.foldlFst
      | apply frame_raise | exact hc.trans (by decide) | split

theorem frame_encoderSample {M : Nat} {base : State} {s : State} (n : Nat) (a : Bool) (b : Bool)
    (hc : Within 0x100000000413 M) (hk : Frame M base s) : Frame M base ((State.encoderSample s n a b).1) := by
  unfold State.encoderSample
  with_reducible repeat' first
      | assumption | apply Frame.refl | intro _
      | (extract_lets +onlyGivenNames x; first
        | (apply Frame.have x; unfold x; clear x; rotate_left; intro hx; clear_value x; rotate_right)
        | clear_value x)
      | apply Frame.ite | apply Frame.when | apply frame_inc | apply frame_putEncoder | apply frame_raise
      | apply frame_sourceLost | apply frame_wrS | exact hc.trans (by decide) | split

theorem frame_encoderIndex {M : Nat} {base : State} (n : Nat) (stood : Nat) {s : State}
    (hc : Within 0x100000000013 M) (hk : Frame M base s) : Frame M base (encoderIndex n stood s) := by
  unfold encoderIndex
  with_reducible repeat' first
      | assumption | apply Frame.refl
      | apply Frame.ite | apply frame_raise | apply frame_wr | exact hc.trans (by decide) | split

theorem frame_putLt {M : Nat} {base : State} {s : State} (x : Trigger) (hc : Within 0x800 M) (hk : Frame M base s) :
    Frame M base (State.putLt s x) := by
  unfold State.putLt
  with_reducible repeat' first
      | assumption
      | exact hc.trans (by decide) | exact hc.bit (by decide) | apply Frame.set_lt

theorem frame_takeDiv {M : Nat} {base : State} {s : State} (hc : Within 0x100000000810 M) (hk : Frame M base s) :
    Frame M base (State.takeDiv s) := by
  unfold State.takeDiv
  with_reducible repeat' first
      | assumption | apply Frame.refl | intro _
      | (extract_lets +onlyGivenNames x; first
        | (apply Frame.have x; unfold x; clear x; rotate_left; intro hx; clear_value x; rotate_right)
        | (apply Frame.have1 x; unfold x; clear x; rotate_left; intro hx; clear_value x; rotate_right)
        | (apply Frame.have2 x; unfold x; clear x; rotate_left; intro hq; clear_value x; rotate_right)
        | (apply Frame.have3 x; unfold x; clear x; rotate_left; intro hq; clear_value x; rotate_right)
        | (apply Frame.have4 x; unfold x; clear x; rotate_left; intro hq; clear_value x; rotate_right)
        | clear_value x)
      | apply hq | apply Frame.ite | apply Frame.when | apply Frame.each | apply Frame.foldl | apply Frame.foldlFst
      | apply frame_putLt | apply frame_raise | exact hc.trans (by decide) | split

theorem frame_movePos {M : Nat} {base : State} {s : State} (d : Int) (hc : Within 0x100000000810 M)
    (hk : Frame M base s) : Frame M base (State.movePos s d) := by
  unfold State.movePos
  with_reducible repeat' first
      | assumption | apply Frame.refl | intro _
      | (extract_lets +onlyGivenNames x; first
        | (apply Frame.have x; unfold x; clear x; rotate_left; intro hx; clear_value x; rotate_right)
        | (apply Frame.have1 x; unfold x; clear x; rotate_left; intro hx; clear_value x; rotate_right)
        | (apply Frame.have2 x; unfold x; clear x; rotate_left; intro hq; clear_value x; rotate_right)
        | (apply Frame.have3 x; unfold x; clear x; rotate_left; intro hq; clear_value x; rotate_right)
        | (apply Frame.have4 x; unfold x; clear x; rotate_left; intro hq; clear_value x; rotate_right)
        | clear_value x)
      | apply hq | apply Frame.ite | apply Frame.when | apply Frame.each | apply Frame.foldl | apply Frame.foldlFst
      | apply frame_putLt | apply frame_raise | exact hc.trans (by decide) | split

theorem frame_ltLineLoRead {M : Nat} {base : State} (agent : Nat) (sub : Nat) (width : Nat) {s : State}
    (hc : Within 0x100000000018 M) (hk : Frame M base s) : Frame M base (ltLineLoRead agent sub width s) := by
  unfold ltLineLoRead
  with_reducible repeat' first
      | assumption
      | apply frame_readPair | exact hc.trans (by decide)

theorem frame_ltPosFracRead {M : Nat} {base : State} (agent : Nat) (sub : Nat) (width : Nat) {s : State}
    (hc : Within 0x100000000018 M) (hk : Frame M base s) : Frame M base (ltPosFracRead agent sub width s) := by
  unfold ltPosFracRead
  with_reducible repeat' first
      | assumption
      | apply frame_readPair | exact hc.trans (by decide)

/-! ## Converters -/

theorem frame_putConv {M : Nat} {base : State} {s : State} (c : Nat) (x : Converter) (hc : Within 0x4000 M)
    (hk : Frame M base s) : Frame M base (State.putConv s c x) := by
  unfold State.putConv
  with_reducible repeat' first
      | assumption
      | exact hc.trans (by decide) | exact hc.bit (by decide) | apply Frame.set_converters

theorem frame_putLane {M : Nat} {base : State} {s : State} (k : Nat) (x : Lane) (hc : Within 0x80000 M)
    (hk : Frame M base s) : Frame M base (State.putLane s k x) := by
  unfold State.putLane
  with_reducible repeat' first
      | assumption
      | exact hc.trans (by decide) | exact hc.bit (by decide) | apply Frame.set_lanes

theorem frame_convCfg {M : Nat} {base : State} {s : State} (c : Nat) (hc : Within 0x2 M) (hk : Frame M base s) :
    Frame M base (State.convCfg s c) := by
  unfold State.convCfg
  with_reducible repeat' first
      | assumption | apply Frame.refl
      | apply Frame.ite | apply frame_groupCfg | exact hc.trans (by decide) | split

theorem frame_hold {M : Nat} {base : State} {s : State} (g : Nat) (c : Nat) (mode : Nat)
    (held : Sys2Proof.Colours) (level : Sys2Proof.Colours) (risen : Bool) (fresh : Bool)
    (hc : Within 0x100000004010 M) (hk : Frame M base s) :
    Frame M base (State.hold s g c mode held level risen fresh) := by
  unfold State.hold
  with_reducible repeat' first
      | assumption | apply Frame.refl | intro _
      | (extract_lets +onlyGivenNames x; first
        | (apply Frame.have x; unfold x; clear x; rotate_left; intro hx; clear_value x; rotate_right)
        | (apply Frame.have1 x; unfold x; clear x; rotate_left; intro hx; clear_value x; rotate_right)
        | (apply Frame.have2 x; unfold x; clear x; rotate_left; intro hq; clear_value x; rotate_right)
        | (apply Frame.have3 x; unfold x; clear x; rotate_left; intro hq; clear_value x; rotate_right)
        | (apply Frame.have4 x; unfold x; clear x; rotate_left; intro hq; clear_value x; rotate_right)
        | clear_value x)
      | apply hq | apply Frame.ite | apply Frame.when | apply Frame.each | apply Frame.foldl | apply Frame.foldlFst
      | apply frame_putConv | apply frame_raise | exact hc.trans (by decide) | split

theorem frame_laneFault {M : Nat} {base : State} {s : State} (k : Nat) (cause : Nat)
    (hc : Within 0x100000081013 M) (hk : Frame M base s) : Frame M base (State.laneFault s k cause) := by
  unfold State.laneFault
  with_reducible repeat' first
      | assumption | apply Frame.refl | intro _
      | (extract_lets +onlyGivenNames x; first
        | (apply Frame.have x; unfold x; clear x; rotate_left; intro hx; clear_value x; rotate_right)
        | clear_value x)
      | apply Frame.ite | apply Frame.each | apply frame_alert | apply frame_incSat | apply frame_mark
      | apply frame_putLane | apply frame_raise | apply frame_usbMessage | apply frame_wr | exact hc.trans (by decide)
      | split

theorem frame_laneOverrun {M : Nat} {base : State} {s : State} (k : Nat) (y : Nat) (hc : Within 0x100000091013 M)
    (hk : Frame M base s) : Frame M base (State.laneOverrun s k y) := by
  unfold State.laneOverrun
  with_reducible repeat' first
      | assumption | apply Frame.refl | intro _
      | (extract_lets +onlyGivenNames x; first
        | (apply Frame.have x; unfold x; clear x; rotate_left; intro hx; clear_value x; rotate_right)
        | (apply Frame.have1 x; unfold x; clear x; rotate_left; intro hx; clear_value x; rotate_right)
        | (apply Frame.have2 x; unfold x; clear x; rotate_left; intro hq; clear_value x; rotate_right)
        | (apply Frame.have3 x; unfold x; clear x; rotate_left; intro hq; clear_value x; rotate_right)
        | (apply Frame.have4 x; unfold x; clear x; rotate_left; intro hq; clear_value x; rotate_right)
        | clear_value x)
      | apply hq | apply Frame.ite | apply Frame.when | apply Frame.each | apply Frame.foldl | apply Frame.foldlFst
      | apply frame_discardReadouts | apply frame_inc | apply frame_laneFault | apply frame_mark | apply frame_putLane
      | apply frame_raise | exact hc.trans (by decide) | split

theorem frame_deliver {M : Nat} {base : State} {s : State} (c : Nat) (dest : Nat) (y : Nat) (word : Nat)
    (total : Nat) (hc : Within 0x100000099013 M) (hk : Frame M base s) :
    Frame M base (State.deliver s c dest y word total) := by
  unfold State.deliver
  with_reducible repeat' first
      | assumption | apply Frame.refl
      | (extract_lets +onlyGivenNames x; first
        | (apply Frame.have x; unfold x; clear x; rotate_left; intro hx; clear_value x; rotate_right)
        | clear_value x)
      | apply Frame.ite | apply frame_complete | apply frame_laneOverrun | apply frame_putBuffer
      | apply frame_putReadout | exact hc.trans (by decide) | split

theorem frame_converterWord {M : Nat} {base : State} (c : Nat) (held : Sys2Proof.Colours)
    (level : Sys2Proof.Colours) {s : State} (hc : Within 0x10000009d113 M) (hk : Frame M base s) :
    Frame M base (converterWord c held level s) := by
  unfold converterWord
  with_reducible repeat' first
      | assumption | apply Frame.refl | intro _
      | (extract_lets +onlyGivenNames x; first
        | (apply Frame.have x; unfold x; clear x; rotate_left; intro hx; clear_value x; rotate_right)
        | clear_value x)
      | apply Frame.ite | apply Frame.when | apply Frame.each | apply frame_deliver | apply frame_groupCfg
      | apply frame_hold | apply frame_inc | apply frame_putBuffer | apply frame_raise | apply frame_reachStrobe
      | exact hc.trans (by decide) | split

theorem frame_reachQuiet {M : Nat} {base : State} {s : State} (g : Nat) (hc : Within 0x100000011103 M)
    (hk : Frame M base s) : Frame M base (State.reachQuiet s g) := by
  unfold State.reachQuiet
  with_reducible repeat' first
      | assumption | apply Frame.refl | intro _
      | apply Frame.ite | apply Frame.each | apply frame_groupCfg | apply frame_reachStrobe
      | exact hc.trans (by decide) | split

theorem frame_toQuiet {M : Nat} {base : State} {s : State} (c : Nat) (hc : Within 0x100000011103 M)
    (hk : Frame M base s) : Frame M base (State.toQuiet s c) := by
  unfold State.toQuiet
  with_reducible repeat' first
      | assumption | apply Frame.refl | intro _
      | apply Frame.ite | apply Frame.each | apply frame_reachQuiet | exact hc.trans (by decide) | split

theorem frame_diagResult {M : Nat} {base : State} {s : State} (c : Nat) (entry : Nat) (line : Nat) (xs : List Int)
    (hc : Within 0x24003 M) (hk : Frame M base s) : Frame M base (State.diagResult s c entry line xs) := by
  unfold State.diagResult
  with_reducible repeat' first
      | assumption | apply Frame.refl | intro _
      | (extract_lets +onlyGivenNames x; first
        | (apply Frame.have x; unfold x; clear x; rotate_left; intro hx; clear_value x; rotate_right)
        | clear_value x)
      | apply Frame.ite | apply frame_putConv | apply frame_wr | apply frame_wrB | exact hc.trans (by decide)
      | exact hc.bit (by decide) | split | apply Frame.set_plaus

theorem frame_diagEntryDone {M : Nat} {base : State} (c : Nat) (xs : List Int) {s : State}
    (hc : Within 0x100000035103 M) (hk : Frame M base s) : Frame M base (diagEntryDone c xs s) := by
  unfold diagEntryDone
  with_reducible repeat' first
      | assumption | apply Frame.refl
      | (extract_lets +onlyGivenNames x; first
        | (apply Frame.have x; unfold x; clear x; rotate_left; intro hx; clear_value x; rotate_right)
        | clear_value x)
      | apply Frame.ite | apply frame_diagResult | apply frame_putConv | apply frame_toQuiet
      | exact hc.trans (by decide) | split

theorem frame_diagCut {M : Nat} {base : State} {s : State} (c : Nat) (byLine : Bool) (g : Nat)
    (hc : Within 0x100000004013 M) (hk : Frame M base s) : Frame M base (State.diagCut s c byLine g) := by
  unfold State.diagCut
  with_reducible repeat' first
      | assumption | apply Frame.refl | intro _
      | (extract_lets +onlyGivenNames x; first
        | (apply Frame.have x; unfold x; clear x; rotate_left; intro hx; clear_value x; rotate_right)
        | clear_value x)
      | apply Frame.ite | apply Frame.when | apply frame_inc | apply frame_putConv | apply frame_raise
      | exact hc.trans (by decide) | split

theorem frame_plausStart {M : Nat} {base : State} {s : State} (hc : Within 0x20100 M) (hk : Frame M base s) :
    Frame M base (State.plausStart s) := by
  unfold State.plausStart
  with_reducible repeat' first
      | assumption | apply Frame.refl | intro _
      | (extract_lets +onlyGivenNames x; first
        | (apply Frame.have x; unfold x; clear x; rotate_left; intro hx; clear_value x; rotate_right)
        | clear_value x)
      | apply Frame.each | apply frame_putGroup | exact hc.trans (by decide) | exact hc.bit (by decide) | split
      | apply Frame.set_plaus

theorem frame_setSuspect {M : Nat} {base : State} {s : State} (c : Nat) (b : Bool) (hc : Within 0x3 M)
    (hk : Frame M base s) : Frame M base (State.setSuspect s c b) := by
  unfold State.setSuspect
  with_reducible repeat' first
      | assumption | apply Frame.refl
      | (extract_lets +onlyGivenNames x; first
        | (apply Frame.have x; unfold x; clear x; rotate_left; intro hx; clear_value x; rotate_right)
        | clear_value x)
      | apply Frame.ite | apply frame_wr | apply frame_wrB | exact hc.trans (by decide) | split

theorem frame_plausJudge {M : Nat} {base : State} {s : State} (rs : List (Nat × Nat)) (e : Nat × Nat)
    (hc : Within 0x100000000013 M) (hk : Frame M base s) : Frame M base (State.plausJudge s rs e) := by
  unfold State.plausJudge
  with_reducible repeat' first
      | assumption | apply Frame.refl | intro _
      | (extract_lets +onlyGivenNames x; first
        | (apply Frame.have x; unfold x; clear x; rotate_left; intro hx; clear_value x; rotate_right)
        | clear_value x)
      | apply Frame.ite | apply frame_raise | apply frame_setSuspect | apply frame_wr | apply frame_wrS
      | exact hc.trans (by decide) | split

theorem frame_plausCompare {M : Nat} {base : State} {s : State} (hc : Within 0x100000020013 M) (hk : Frame M base s) :
    Frame M base (State.plausCompare s) := by
  unfold State.plausCompare
  with_reducible repeat' first
      | assumption | apply Frame.refl | intro _
      | (extract_lets +onlyGivenNames x; first
        | (apply Frame.have x; unfold x; clear x; rotate_left; intro hx; clear_value x; rotate_right)
        | clear_value x)
      | apply Frame.ite | apply Frame.each | apply frame_inc | apply frame_plausJudge | exact hc.trans (by decide)
      | exact hc.bit (by decide) | split | apply Frame.set_plaus

theorem frame_plausCheck {M : Nat} {base : State} {s : State} (hc : Within 0x100000020013 M) (hk : Frame M base s) :
    Frame M base (plausCheck s) := by
  unfold plausCheck
  with_reducible repeat' first
      | assumption | apply Frame.refl
      | apply Frame.ite | apply frame_plausCompare | exact hc.trans (by decide) | split

theorem frame_forceRequest {M : Nat} {base : State} (c : Nat) (v : Nat) {s : State} (hc : Within 0x100000004013 M)
    (hk : Frame M base s) : Frame M base (forceRequest c v s) := by
  unfold forceRequest
  with_reducible repeat' first
      | assumption | apply Frame.refl
      | (extract_lets +onlyGivenNames x; first
        | (apply Frame.have x; unfold x; clear x; rotate_left; intro hx; clear_value x; rotate_right)
        | clear_value x)
      | apply Frame.ite | apply frame_convCfg | apply frame_putConv | apply frame_raise | apply frame_wr
      | exact hc.trans (by decide) | split

theorem frame_forceDone {M : Nat} {base : State} (c : Nat) (v : Int) (ref : Int) {s : State}
    (hc : Within 0x100000055113 M) (hk : Frame M base s) : Frame M base (forceDone c v ref s) := by
  unfold forceDone
  with_reducible repeat' first
      | assumption | apply Frame.refl
      | (extract_lets +onlyGivenNames x; first
        | (apply Frame.have x; unfold x; clear x; rotate_left; intro hx; clear_value x; rotate_right)
        | clear_value x)
      | apply Frame.ite | apply frame_putConv | apply frame_raise | apply frame_toQuiet | apply frame_wr
      | apply frame_wrB | exact hc.trans (by decide) | exact hc.bit (by decide) | split | apply Frame.set_cast

theorem frame_bankCalStart {M : Nat} {base : State} (v : Nat) {s : State} (hc : Within 0x100000004013 M)
    (hk : Frame M base s) : Frame M base (bankCalStart v s) := by
  unfold bankCalStart
  with_reducible repeat' first
      | assumption | apply Frame.refl | intro _
      | (extract_lets +onlyGivenNames x; first
        | (apply Frame.have x; unfold x; clear x; rotate_left; intro hx; clear_value x; rotate_right)
        | clear_value x)
      | apply Frame.ite | apply Frame.each | apply frame_putConv | apply frame_raise | apply frame_wr
      | exact hc.trans (by decide) | split

theorem frame_worst {M : Nat} {base : State} {s : State} (c : Nat) (gains : List Nat) (hc : Within 0x3 M)
    (hk : Frame M base s) : Frame M base (State.worst s c gains) := by
  unfold State.worst
  with_reducible repeat' first
      | assumption | apply Frame.refl | intro _
      | (extract_lets +onlyGivenNames x; first
        | (apply Frame.have x; unfold x; clear x; rotate_left; intro hx; clear_value x; rotate_right)
        | clear_value x)
      | apply Frame.ite | apply Frame.foldl | apply frame_wr | exact hc.trans (by decide) | split

theorem frame_clearSlots {M : Nat} {base : State} {s : State} (c : Nat) (hc : Within 0x3 M) (hk : Frame M base s) :
    Frame M base (State.clearSlots s c) := by
  unfold State.clearSlots
  with_reducible repeat' first
      | assumption | apply Frame.refl | intro _
      | apply Frame.each | apply frame_wr | exact hc.trans (by decide)

theorem frame_calEnd {M : Nat} {base : State} {s : State} (x : Nat × Measured) (hc : Within 0x100000044013 M)
    (hk : Frame M base s) : Frame M base (State.calEnd s x) := by
  unfold State.calEnd
  with_reducible repeat' first
      | assumption | apply Frame.refl | intro _
      | (extract_lets +onlyGivenNames x; first
        | (apply Frame.have x; unfold x; clear x; rotate_left; intro hx; clear_value x; rotate_right)
        | clear_value x)
      | apply Frame.ite | apply Frame.each | apply frame_clearSlots | apply frame_putConv | apply frame_raise
      | apply frame_setSuspect | apply frame_worst | apply frame_wr | apply frame_wrS | exact hc.trans (by decide)
      | exact hc.bit (by decide) | split | apply Frame.set_cast

theorem frame_calAbort {M : Nat} {base : State} {s : State} (hc : Within 0x100000000013 M) (hk : Frame M base s) :
    Frame M base (State.calAbort s) := by
  unfold State.calAbort
  with_reducible repeat' first
      | assumption | apply Frame.refl | intro _
      | (extract_lets +onlyGivenNames x; first
        | (apply Frame.have x; unfold x; clear x; rotate_left; intro hx; clear_value x; rotate_right)
        | clear_value x)
      | apply Frame.ite | apply Frame.each | apply frame_raise | apply frame_wr | exact hc.trans (by decide) | split

/-! ## Castling -/

theorem frame_putSlotTrims {M : Nat} {base : State} {s : State} (c : Nat) (j : Nat) (ts : List Trim)
    (hc : Within 0x3 M) (hk : Frame M base s) : Frame M base (State.putSlotTrims s c j ts) := by
  unfold State.putSlotTrims
  with_reducible repeat' first
      | assumption | apply Frame.refl | intro _
      | (extract_lets +onlyGivenNames x; first
        | (apply Frame.have x; unfold x; clear x; rotate_left; intro hx; clear_value x; rotate_right)
        | clear_value x)
      | apply Frame.each | apply frame_wr | apply frame_wrS | exact hc.trans (by decide)

theorem frame_evalTrims {M : Nat} {base : State} {s : State} (hc : Within 0x4000 M) (hk : Frame M base s) :
    Frame M base (State.evalTrims s) := by
  unfold State.evalTrims
  with_reducible repeat' first
      | assumption | apply Frame.refl | intro _
      | apply Frame.ite | apply Frame.each | apply frame_putConv | exact hc.trans (by decide) | split

theorem frame_stepTrims {M : Nat} {base : State} {s : State} (hc : Within 0x4000 M) (hk : Frame M base s) :
    Frame M base (State.stepTrims s) := by
  unfold State.stepTrims
  with_reducible repeat' first
      | assumption | apply Frame.refl | intro _
      | (extract_lets +onlyGivenNames x; first
        | (apply Frame.have x; unfold x; clear x; rotate_left; intro hx; clear_value x; rotate_right)
        | clear_value x)
      | apply Frame.ite | apply Frame.each | apply frame_putConv | exact hc.trans (by decide) | split

theorem frame_swapNow {M : Nat} {base : State} {s : State} (back : Bool) (hc : Within 0x100000044013 M)
    (hk : Frame M base s) : Frame M base (State.swapNow s back) := by
  unfold State.swapNow
  with_reducible repeat' first
      | assumption | apply Frame.refl | intro _
      | (extract_lets +onlyGivenNames x; first
        | (apply Frame.have x; unfold x; clear x; rotate_left; intro hx; clear_value x; rotate_right)
        | (apply Frame.have1 x; unfold x; clear x; rotate_left; intro hx; clear_value x; rotate_right)
        | (apply Frame.have2 x; unfold x; clear x; rotate_left; intro hq; clear_value x; rotate_right)
        | (apply Frame.have3 x; unfold x; clear x; rotate_left; intro hq; clear_value x; rotate_right)
        | (apply Frame.have4 x; unfold x; clear x; rotate_left; intro hq; clear_value x; rotate_right)
        | clear_value x)
      | apply hq | apply Frame.ite | apply Frame.when | apply Frame.each | apply Frame.foldl | apply Frame.foldlFst
      | apply frame_putConv | apply frame_raise | apply frame_wr | apply frame_wrB | exact hc.trans (by decide)
      | exact hc.bit (by decide) | split | apply Frame.set_cast

theorem frame_decideSwap {M : Nat} {base : State} {s : State} (back : Bool) (hc : Within 0x100000044013 M)
    (hk : Frame M base s) : Frame M base (State.decideSwap s back) := by
  unfold State.decideSwap
  with_reducible repeat' first
      | assumption | apply Frame.refl
      | apply Frame.ite | apply frame_swapNow | exact hc.trans (by decide) | exact hc.bit (by decide) | split
      | apply Frame.set_cast

theorem frame_swapWaits {M : Nat} {base : State} {s : State} (g : Nat) (hc : Within 0x100000044013 M)
    (hk : Frame M base s) : Frame M base (State.swapWaits s g) := by
  unfold State.swapWaits
  with_reducible repeat' first
      | assumption | apply Frame.refl
      | apply Frame.ite | apply frame_swapNow | exact hc.trans (by decide) | split

theorem frame_swapAtStop {M : Nat} {base : State} {s : State} (hc : Within 0x100000044013 M) (hk : Frame M base s) :
    Frame M base (State.swapAtStop s) := by
  unfold State.swapAtStop
  with_reducible repeat' first
      | assumption | apply Frame.refl
      | apply frame_decideSwap | exact hc.trans (by decide) | split

theorem frame_castOutcome {M : Nat} {base : State} {s : State} (c : Nat) (outcome : Nat)
    (hc : Within 0x100000000013 M) (hk : Frame M base s) : Frame M base (State.castOutcome s c outcome) := by
  unfold State.castOutcome
  with_reducible repeat' first
      | assumption | apply Frame.refl | intro _
      | (extract_lets +onlyGivenNames x; first
        | (apply Frame.have x; unfold x; clear x; rotate_left; intro hx; clear_value x; rotate_right)
        | (apply Frame.have1 x; unfold x; clear x; rotate_left; intro hx; clear_value x; rotate_right)
        | (apply Frame.have2 x; unfold x; clear x; rotate_left; intro hq; clear_value x; rotate_right)
        | (apply Frame.have3 x; unfold x; clear x; rotate_left; intro hq; clear_value x; rotate_right)
        | (apply Frame.have4 x; unfold x; clear x; rotate_left; intro hq; clear_value x; rotate_right)
        | clear_value x)
      | apply hq | apply Frame.ite | apply Frame.when | apply Frame.each | apply Frame.foldl | apply Frame.foldlFst
      | apply frame_inc | apply frame_raise | apply frame_wr | exact hc.trans (by decide) | split

theorem frame_castServed {M : Nat} {base : State} {s : State} (c : Nat) (hc : Within 0x40000 M)
    (hk : Frame M base s) : Frame M base (State.castServed s c) := by
  unfold State.castServed
  with_reducible repeat' first
      | assumption
      | exact hc.trans (by decide) | exact hc.bit (by decide) | apply Frame.set_cast

theorem frame_castRetry {M : Nat} {base : State} {s : State} (c : Nat) (hc : Within 0x40000 M) (hk : Frame M base s) :
    Frame M base (State.castRetry s c) := by
  unfold State.castRetry
  with_reducible repeat' first
      | assumption | intro _
      | exact hc.trans (by decide) | exact hc.bit (by decide) | apply Frame.set_cast

theorem frame_castGo {M : Nat} {base : State} {s : State} (state : Nat) (hc : Within 0x3 M) (hk : Frame M base s) :
    Frame M base (State.castGo s state) := by
  unfold State.castGo
  with_reducible repeat' first
      | assumption
      | apply frame_wr | exact hc.trans (by decide)

theorem frame_castSettle {M : Nat} {base : State} {s : State} (hc : Within 0x40000 M) (hk : Frame M base s) :
    Frame M base (State.castSettle s) := by
  unfold State.castSettle
  with_reducible repeat' first
      | assumption
      | apply frame_settle | exact hc.trans (by decide) | exact hc.bit (by decide) | apply Frame.set_cast

theorem frame_castNextWindow {M : Nat} {base : State} {s : State} (hc : Within 0x40000 M) (hk : Frame M base s) :
    Frame M base (State.castNextWindow s) := by
  unfold State.castNextWindow
  with_reducible repeat' first
      | assumption
      | exact hc.trans (by decide) | exact hc.bit (by decide) | apply Frame.set_cast

theorem frame_castIdle {M : Nat} {base : State} {s : State} (hc : Within 0x40003 M) (hk : Frame M base s) :
    Frame M base (State.castIdle s) := by
  unfold State.castIdle
  with_reducible repeat' first
      | assumption | apply Frame.refl
      | (extract_lets +onlyGivenNames x; first
        | (apply Frame.have x; unfold x; clear x; rotate_left; intro hx; clear_value x; rotate_right)
        | clear_value x)
      | apply Frame.ite | apply frame_castGo | apply frame_wr | exact hc.trans (by decide) | exact hc.bit (by decide)
      | split | apply Frame.set_cast

theorem frame_castRestore {M : Nat} {base : State} {s : State} (k : Nat) (hc : Within 0x3 M) (hk : Frame M base s) :
    Frame M base (State.castRestore s k) := by
  unfold State.castRestore
  with_reducible repeat' first
      | assumption | apply Frame.refl | intro _
      | (extract_lets +onlyGivenNames x; first
        | (apply Frame.have x; unfold x; clear x; rotate_left; intro hx; clear_value x; rotate_right)
        | clear_value x)
      | apply Frame.each | apply frame_wr | exact hc.trans (by decide)

theorem frame_castAbort {M : Nat} {base : State} {s : State} (outcome : Nat) (hc : Within 0x100000044013 M)
    (hk : Frame M base s) : Frame M base (State.castAbort s outcome) := by
  unfold State.castAbort
  with_reducible repeat' first
      | assumption | apply Frame.refl | intro _
      | (extract_lets +onlyGivenNames x; first
        | (apply Frame.have x; unfold x; clear x; rotate_left; intro hx; clear_value x; rotate_right)
        | (apply Frame.have1 x; unfold x; clear x; rotate_left; intro hx; clear_value x; rotate_right)
        | (apply Frame.have2 x; unfold x; clear x; rotate_left; intro hq; clear_value x; rotate_right)
        | (apply Frame.have3 x; unfold x; clear x; rotate_left; intro hq; clear_value x; rotate_right)
        | (apply Frame.have4 x; unfold x; clear x; rotate_left; intro hq; clear_value x; rotate_right)
        | clear_value x)
      | apply hq | apply Frame.ite | apply Frame.when | apply Frame.each | apply Frame.foldl | apply Frame.foldlFst
      | apply frame_castGo | apply frame_castIdle | apply frame_castOutcome | apply frame_castRestore
      | apply frame_castRetry | apply frame_decideSwap | apply frame_raise | exact hc.trans (by decide)
      | exact hc.bit (by decide) | split | apply Frame.set_cast

theorem frame_castReact {M : Nat} {base : State} {s : State} (hc : Within 0x100000044013 M) (hk : Frame M base s) :
    Frame M base (State.castReact s) := by
  unfold State.castReact
  with_reducible repeat' first
      | assumption | apply Frame.refl
      | (extract_lets +onlyGivenNames x; first
        | (apply Frame.have x; unfold x; clear x; rotate_left; intro hx; clear_value x; rotate_right)
        | clear_value x)
      | apply Frame.ite | apply frame_castAbort | exact hc.trans (by decide) | split

theorem frame_storeTrims {M : Nat} {base : State} {s : State} (k : Nat) (ts : List Trim) (t : Int)
    (hc : Within 0x3 M) (hk : Frame M base s) : Frame M base (State.storeTrims s k ts t) := by
  unfold State.storeTrims
  with_reducible repeat' first
      | assumption | apply Frame.refl | intro _
      | (extract_lets +onlyGivenNames x; first
        | (apply Frame.have x; unfold x; clear x; rotate_left; intro hx; clear_value x; rotate_right)
        | clear_value x)
      | apply Frame.ite | apply Frame.when | apply Frame.each | apply frame_clearSlots | apply frame_putSlotTrims
      | apply frame_wr | apply frame_wrS | exact hc.trans (by decide) | split

theorem frame_shadowAccept {M : Nat} {base : State} {s : State} (k : Nat) (mism : Nat) (ts : List Trim)
    (hc : Within 0x100000044013 M) (hk : Frame M base s) : Frame M base (State.shadowAccept s k mism ts) := by
  unfold State.shadowAccept
  with_reducible repeat' first
      | assumption
      | (extract_lets +onlyGivenNames x; first
        | (apply Frame.have x; unfold x; clear x; rotate_left; intro hx; clear_value x; rotate_right)
        | clear_value x)
      | apply frame_castGo | apply frame_decideSwap | apply frame_putConv | apply frame_putSlotTrims | apply frame_wr
      | exact hc.trans (by decide)

theorem frame_castPass {M : Nat} {base : State} {s : State} (k : Nat) (mism : Nat) (ts : List Trim)
    (hc : Within 0x100000044013 M) (hk : Frame M base s) : Frame M base (State.castPass s k mism ts) := by
  unfold State.castPass
  with_reducible repeat' first
      | assumption
      | (extract_lets +onlyGivenNames x; first
        | (apply Frame.have x; unfold x; clear x; rotate_left; intro hx; clear_value x; rotate_right)
        | clear_value x)
      | apply frame_castGo | apply frame_castOutcome | apply frame_castServed | apply frame_decideSwap
      | apply frame_setSuspect | apply frame_storeTrims | apply frame_wr | apply frame_wrS
      | exact hc.trans (by decide) | exact hc.bit (by decide) | apply Frame.set_cast

theorem frame_castCount {M : Nat} {base : State} {s : State} (k : Nat) (outcome : Nat)
    (hc : Within 0x100000040013 M) (hk : Frame M base s) : Frame M base (State.castCount s k outcome) := by
  unfold State.castCount
  with_reducible repeat' first
      | assumption | apply Frame.refl
      | (extract_lets +onlyGivenNames x; first
        | (apply Frame.have x; unfold x; clear x; rotate_left; intro hx; clear_value x; rotate_right)
        | clear_value x)
      | apply Frame.ite | apply frame_castGo | apply frame_castIdle | apply frame_castNextWindow
      | apply frame_castOutcome | apply frame_castRetry | apply frame_castServed | apply frame_raise | apply frame_wr
      | exact hc.trans (by decide) | split

theorem frame_castMatchWindowEnd {M : Nat} {base : State} {s : State} (hc : Within 0x100000044013 M)
    (hk : Frame M base s) : Frame M base (castMatchWindowEnd s) := by
  unfold castMatchWindowEnd
  with_reducible repeat' first
      | assumption | apply Frame.refl | intro _
      | (extract_lets +onlyGivenNames x; first
        | (apply Frame.have x; unfold x; clear x; rotate_left; intro hx; clear_value x; rotate_right)
        | clear_value x)
      | apply Frame.ite | apply Frame.foldl | apply frame_castCount | apply frame_castNextWindow
      | apply frame_castPass | apply frame_shadowAccept | exact hc.trans (by decide) | split

theorem frame_offlinePass {M : Nat} {base : State} {s : State} (c : Nat) (errors : List (List Nat))
    (gains : List Nat) (hc : Within 0x3 M) (hk : Frame M base s) :
    Frame M base (State.offlinePass s c errors gains) := by
  unfold State.offlinePass
  with_reducible repeat' first
      | assumption | apply Frame.refl | intro _
      | (extract_lets +onlyGivenNames x; first
        | (apply Frame.have x; unfold x; clear x; rotate_left; intro hx; clear_value x; rotate_right)
        | clear_value x)
      | apply Frame.each | apply frame_wr | exact hc.trans (by decide)

theorem frame_castOfflineCalEnd {M : Nat} {base : State} (errors : List (List Nat)) (gains : List Nat) {s : State}
    (hc : Within 0x100000040013 M) (hk : Frame M base s) : Frame M base (castOfflineCalEnd errors gains s) := by
  unfold castOfflineCalEnd
  with_reducible repeat' first
      | assumption | apply Frame.refl
      | (extract_lets +onlyGivenNames x; first
        | (apply Frame.have x; unfold x; clear x; rotate_left; intro hx; clear_value x; rotate_right)
        | clear_value x)
      | apply Frame.ite | apply frame_castGo | apply frame_castIdle | apply frame_castOutcome
      | apply frame_castRestore | apply frame_castServed | apply frame_castSettle | apply frame_offlinePass
      | apply frame_raise | apply frame_setSuspect | apply frame_worst | apply frame_wr | apply frame_wrS
      | exact hc.trans (by decide) | exact hc.bit (by decide) | split | apply Frame.set_cast

theorem frame_offlineStepBoundary {M : Nat} {base : State} {s : State} (hc : Within 0x100000044013 M)
    (hk : Frame M base s) : Frame M base (offlineStepBoundary s) := by
  unfold offlineStepBoundary
  with_reducible repeat' first
      | assumption | apply Frame.refl
      | (extract_lets +onlyGivenNames x; first
        | (apply Frame.have x; unfold x; clear x; rotate_left; intro hx; clear_value x; rotate_right)
        | clear_value x)
      | apply Frame.ite | apply frame_castRestore | apply frame_decideSwap | exact hc.trans (by decide)
      | exact hc.bit (by decide) | split | apply Frame.set_cast

theorem frame_castSelect {M : Nat} {base : State} {s : State} (hc : Within 0x100000044013 M) (hk : Frame M base s) :
    Frame M base (castSelect s) := by
  unfold castSelect
  with_reducible repeat' first
      | assumption | apply Frame.refl | intro _
      | (extract_lets +onlyGivenNames x; first
        | (apply Frame.have x; unfold x; clear x; rotate_left; intro hx; clear_value x; rotate_right)
        | clear_value x)
      | apply Frame.ite | apply frame_castGo | apply frame_castReact | apply frame_castSettle | apply frame_wr
      | exact hc.trans (by decide) | exact hc.bit (by decide) | split | apply Frame.set_cast

theorem frame_castReqGo {M : Nat} {base : State} (v : Nat) {s : State} (hc : Within 0x100000040010 M)
    (hk : Frame M base s) : Frame M base (castReqGo v s) := by
  unfold castReqGo
  with_reducible repeat' first
      | assumption | apply Frame.refl
      | (extract_lets +onlyGivenNames x; first
        | (apply Frame.have x; unfold x; clear x; rotate_left; intro hx; clear_value x; rotate_right)
        | clear_value x)
      | apply Frame.ite | apply frame_raise | exact hc.trans (by decide) | exact hc.bit (by decide) | split
      | apply Frame.set_cast

theorem frame_castReqRelease {M : Nat} {base : State} (v : Nat) {s : State} (hc : Within 0x100000044013 M)
    (hk : Frame M base s) : Frame M base (castReqRelease v s) := by
  unfold castReqRelease
  with_reducible repeat' first
      | assumption | apply Frame.refl
      | (extract_lets +onlyGivenNames x; first
        | (apply Frame.have x; unfold x; clear x; rotate_left; intro hx; clear_value x; rotate_right)
        | clear_value x)
      | apply Frame.ite | apply frame_castGo | apply frame_castOutcome | apply frame_decideSwap | apply frame_raise
      | exact hc.trans (by decide) | split

theorem frame_castIntervalDue {M : Nat} {base : State} (c : Nat) {s : State} (hc : Within 0x40000 M)
    (hk : Frame M base s) : Frame M base (castIntervalDue c s) := by
  unfold castIntervalDue
  with_reducible repeat' first
      | assumption | apply Frame.refl
      | apply Frame.ite | exact hc.trans (by decide) | exact hc.bit (by decide) | split | apply Frame.set_cast

theorem frame_trimSlotWrite {M : Nat} {base : State} (c : Nat) (j : Nat) (w : Nat) (v : Nat) {s : State}
    (hc : Within 0x100000000017 M) (hk : Frame M base s) : Frame M base (trimSlotWrite c j w v s) := by
  unfold trimSlotWrite
  with_reducible repeat' first
      | assumption | apply Frame.refl
      | apply Frame.ite | apply frame_hostWord | apply frame_raise | apply frame_wr | exact hc.trans (by decide)
      | split

theorem frame_castSwapLineLoRead {M : Nat} {base : State} (agent : Nat) (sub : Nat) (width : Nat) {s : State}
    (hc : Within 0x100000000018 M) (hk : Frame M base s) : Frame M base (castSwapLineLoRead agent sub width s) := by
  unfold castSwapLineLoRead
  with_reducible repeat' first
      | assumption
      | apply frame_readPair | exact hc.trans (by decide)

theorem frame_bankCalDone {M : Nat} {base : State} (results : List Measured) {s : State}
    (hc : Within 0x100000044013 M) (hk : Frame M base s) : Frame M base (bankCalDone results s) := by
  unfold bankCalDone
  with_reducible repeat' first
      | assumption | apply Frame.refl | intro _
      | (extract_lets +onlyGivenNames x; first
        | (apply Frame.have x; unfold x; clear x; rotate_left; intro hx; clear_value x; rotate_right)
        | clear_value x)
      | apply Frame.ite | apply Frame.each | apply frame_calEnd | apply frame_castGo | apply frame_castOutcome
      | apply frame_raise | apply frame_swapNow | apply frame_wr | exact hc.trans (by decide) | split

theorem frame_castPeriodEnd {M : Nat} {base : State} {s : State} (g : Nat) (hc : Within 0x40000 M)
    (hk : Frame M base s) : Frame M base (State.castPeriodEnd s g) := by
  unfold State.castPeriodEnd
  with_reducible repeat' first
      | assumption | apply Frame.refl
      | (extract_lets +onlyGivenNames x; first
        | (apply Frame.have x; unfold x; clear x; rotate_left; intro hx; clear_value x; rotate_right)
        | clear_value x)
      | apply Frame.ite | apply frame_complete | apply frame_settle | exact hc.trans (by decide)
      | exact hc.bit (by decide) | split | apply Frame.set_cast

theorem frame_castPeriodStart {M : Nat} {base : State} {s : State} (g : Nat) (hc : Within 0x100000044013 M)
    (hk : Frame M base s) : Frame M base (State.castPeriodStart s g) := by
  unfold State.castPeriodStart
  with_reducible repeat' first
      | assumption | apply Frame.refl
      | (extract_lets +onlyGivenNames x; first
        | (apply Frame.have x; unfold x; clear x; rotate_left; intro hx; clear_value x; rotate_right)
        | clear_value x)
      | apply Frame.ite | apply frame_castSettle | apply frame_swapNow | apply frame_wrPair
      | exact hc.trans (by decide) | exact hc.bit (by decide) | split | apply Frame.set_cast

theorem frame_beginReadouts {M : Nat} {base : State} {s : State} (g : Nat) (hc : Within 0x99002 M)
    (hk : Frame M base s) : Frame M base (State.beginReadouts s g) := by
  unfold State.beginReadouts
  with_reducible repeat' first
      | assumption | apply Frame.refl | intro _
      | (extract_lets +onlyGivenNames x; first
        | (apply Frame.have x; unfold x; clear x; rotate_left; intro hx; clear_value x; rotate_right)
        | clear_value x)
      | apply Frame.ite | apply Frame.each | apply frame_complete | apply frame_groupCfg | apply frame_mark
      | apply frame_putBuffer | apply frame_putLane | apply frame_putReadout | exact hc.trans (by decide) | split

theorem frame_convPeriodEnd {M : Nat} {base : State} {s : State} (g : Nat) (hc : Within 0x100000044013 M)
    (hk : Frame M base s) : Frame M base (State.convPeriodEnd s g) := by
  unfold State.convPeriodEnd
  with_reducible repeat' first
      | assumption | apply Frame.refl | intro _
      | (extract_lets +onlyGivenNames x; first
        | (apply Frame.have x; unfold x; clear x; rotate_left; intro hx; clear_value x; rotate_right)
        | clear_value x)
      | apply Frame.ite | apply Frame.when | apply Frame.each | apply frame_castPeriodEnd | apply frame_diagCut
      | apply frame_groupCfg | apply frame_raise | exact hc.trans (by decide) | split

theorem frame_nextPeriod {M : Nat} {base : State} {s : State} (g : Nat) (line : Option (Nat × Nat))
    (hc : Within 0x1000000dd117 M) (hk : Frame M base s) : Frame M base (State.nextPeriod s g line) := by
  unfold State.nextPeriod
  with_reducible repeat' first
      | assumption
      | (extract_lets +onlyGivenNames x; first
        | (apply Frame.have x; unfold x; clear x; rotate_left; intro hx; clear_value x; rotate_right)
        | clear_value x)
      | apply frame_beginReadouts | apply frame_castPeriodStart | apply frame_convPeriodEnd | apply frame_startPeriod
      | exact hc.trans (by decide)

end Sys2Proof.Machine
end

