-- ==== Sys2Proof/Laws/FramesImage.lean ====
section
/-!
SUPPORT. The frame of each function: the pixel path, the queues, the comparator and the products.
-/

namespace Sys2Proof.Machine

/-! ## Pixel -/

theorem frame_putHalf {M : Nat} {base : State} {s : State} (p : Nat) (i : Nat) (v : Nat) (hc : Within 0x100000 M)
    (hk : Frame M base s) : Frame M base (State.putHalf s p i v) := by
  unfold State.putHalf
  with_reducible repeat' first
      | assumption | apply Frame.refl
      | (extract_lets +onlyGivenNames x; first
        | (apply Frame.have x; unfold x; clear x; rotate_left; intro hx; clear_value x; rotate_right)
        | clear_value x)
      | apply Frame.ite | exact hc.trans (by decide) | exact hc.bit (by decide) | split | apply Frame.set_opal

theorem frame_queueMixes {M : Nat} {base : State} {s : State} (hc : Within 0x100000 M) (hk : Frame M base s) :
    Frame M base (State.queueMixes s) := by
  unfold State.queueMixes
  with_reducible repeat' first
      | assumption
      | exact hc.trans (by decide) | exact hc.bit (by decide) | apply Frame.set_opal

theorem frame_stepMixes {M : Nat} {base : State} {s : State} (hc : Within 0x102000 M) (hk : Frame M base s) :
    Frame M base (State.stepMixes s) := by
  unfold State.stepMixes
  with_reducible repeat' first
      | assumption | intro _
      | (extract_lets +onlyGivenNames x; first
        | (apply Frame.have x; unfold x; clear x; rotate_left; intro hx; clear_value x; rotate_right)
        | clear_value x)
      | exact hc.trans (by decide) | exact hc.bit (by decide) | apply Frame.set_epochs_opal

theorem frame_correct {M : Nat} {base : State} {s : State} (y : Nat) (c : Nat) (hc : Within 0x10002 M)
    (hk : Frame M base s) : Frame M base (State.correct s y c) := by
  unfold State.correct
  with_reducible repeat' first
      | assumption | apply Frame.refl
      | (extract_lets +onlyGivenNames x; first
        | (apply Frame.have x; unfold x; clear x; rotate_left; intro hx; clear_value x; rotate_right)
        | clear_value x)
      | apply Frame.ite | apply frame_atLine | apply frame_putReadout | exact hc.trans (by decide) | split

theorem frame_correctNew {M : Nat} {base : State} {s : State} (c : Nat) (hc : Within 0x10002 M)
    (hk : Frame M base s) : Frame M base (State.correctNew s c) := by
  unfold State.correctNew
  with_reducible repeat' first
      | assumption | apply Frame.refl | intro _
      | apply Frame.ite | apply frame_correct | exact hc.trans (by decide) | split

theorem frame_opalCapGo {M : Nat} {base : State} (v : Nat) {s : State} (hc : Within 0x100000100013 M)
    (hk : Frame M base s) : Frame M base (opalCapGo v s) := by
  unfold opalCapGo
  with_reducible repeat' first
      | assumption | apply Frame.refl | intro _
      | (extract_lets +onlyGivenNames x; first
        | (apply Frame.have x; unfold x; clear x; rotate_left; intro hx; clear_value x; rotate_right)
        | clear_value x)
      | apply Frame.ite | apply frame_raise | apply frame_wr | exact hc.trans (by decide) | exact hc.bit (by decide)
      | split | apply Frame.set_opal

theorem frame_captureChannel {M : Nat} {base : State} {s : State} (c : Nat) (hc : Within 0x100003 M)
    (hk : Frame M base s) : Frame M base (State.captureChannel s c) := by
  unfold State.captureChannel
  with_reducible repeat' first
      | assumption | apply Frame.refl | intro _
      | (extract_lets +onlyGivenNames x; first
        | (apply Frame.have x; unfold x; clear x; rotate_left; intro hx; clear_value x; rotate_right)
        | clear_value x)
      | apply Frame.ite | apply Frame.when | apply Frame.each | apply Frame.foldl | apply frame_inc
      | apply frame_putHalf | apply frame_wr | apply frame_wrS | exact hc.trans (by decide) | split

theorem frame_captureEnd {M : Nat} {base : State} {s : State} (outcome : Nat) (hc : Within 0x100000100013 M)
    (hk : Frame M base s) : Frame M base (State.captureEnd s outcome) := by
  unfold State.captureEnd
  with_reducible repeat' first
      | assumption | apply Frame.refl | intro _
      | (extract_lets +onlyGivenNames x; first
        | (apply Frame.have x; unfold x; clear x; rotate_left; intro hx; clear_value x; rotate_right)
        | clear_value x)
      | apply Frame.ite | apply frame_raise | apply frame_wr | exact hc.trans (by decide) | exact hc.bit (by decide)
      | split | apply Frame.set_opal

theorem frame_opalCapEnd {M : Nat} {base : State} {s : State} (hc : Within 0x100000100013 M) (hk : Frame M base s) :
    Frame M base (opalCapEnd s) := by
  unfold opalCapEnd
  with_reducible repeat' first
      | assumption | apply Frame.refl | intro _
      | (extract_lets +onlyGivenNames x; first
        | (apply Frame.have x; unfold x; clear x; rotate_left; intro hx; clear_value x; rotate_right)
        | clear_value x)
      | apply Frame.ite | apply Frame.when | apply Frame.each | apply frame_captureChannel | apply frame_captureEnd
      | apply frame_wr | exact hc.trans (by decide) | split

theorem frame_captureStop {M : Nat} {base : State} {s : State} (hc : Within 0x100000100013 M) (hk : Frame M base s) :
    Frame M base (State.captureStop s) := by
  unfold State.captureStop
  with_reducible repeat' first
      | assumption | apply Frame.refl
      | apply Frame.ite | apply frame_captureEnd | exact hc.trans (by decide) | split

theorem frame_xferAdvance {M : Nat} {base : State} {s : State} (w : Nat) (hc : Within 0x3 M) (hk : Frame M base s) :
    Frame M base (State.xferAdvance s w) := by
  unfold State.xferAdvance
  with_reducible repeat' first
      | assumption | apply Frame.refl | intro _
      | (extract_lets +onlyGivenNames x; first
        | (apply Frame.have x; unfold x; clear x; rotate_left; intro hx; clear_value x; rotate_right)
        | (apply Frame.have1 x; unfold x; clear x; rotate_left; intro hx; clear_value x; rotate_right)
        | (apply Frame.have2 x; unfold x; clear x; rotate_left; intro hq; clear_value x; rotate_right)
        | (apply Frame.have3 x; unfold x; clear x; rotate_left; intro hq; clear_value x; rotate_right)
        | (apply Frame.have4 x; unfold x; clear x; rotate_left; intro hq; clear_value x; rotate_right)
        | clear_value x)
      | apply hq | apply Frame.ite | apply Frame.when | apply Frame.each | apply Frame.foldl | apply Frame.foldlFst
      | apply frame_wr | exact hc.trans (by decide) | split

theorem frame_xferRead {M : Nat} {base : State} (w : Nat) {s : State} (hc : Within 0x100000000013 M)
    (hk : Frame M base s) : Frame M base ((xferRead w s).1) := by
  unfold xferRead
  with_reducible repeat' first
      | assumption | apply Frame.refl
      | (extract_lets +onlyGivenNames x; first
        | (apply Frame.have x; unfold x; clear x; rotate_left; intro hx; clear_value x; rotate_right)
        | clear_value x)
      | apply Frame.ite | apply frame_raise | apply frame_xferAdvance | exact hc.trans (by decide) | split

theorem frame_xferWrite {M : Nat} {base : State} (w : Nat) (v : Nat) {s : State} (hc : Within 0x100000100013 M)
    (hk : Frame M base s) : Frame M base (xferWrite w v s) := by
  unfold xferWrite
  with_reducible repeat' first
      | assumption | apply Frame.refl
      | (extract_lets +onlyGivenNames x; first
        | (apply Frame.have x; unfold x; clear x; rotate_left; intro hx; clear_value x; rotate_right)
        | clear_value x)
      | apply Frame.ite | apply frame_raise | apply frame_xferAdvance | exact hc.trans (by decide)
      | exact hc.bit (by decide) | split | apply Frame.set_opal

theorem frame_xferWindowAccess {M : Nat} {base : State} (agent : Nat) (w : Nat) (sub : Nat) (width : Nat)
    (value : Option Nat) {s : State} (hc : Within 0x100000100013 M) (hk : Frame M base s) :
    Frame M base (xferWindowAccess agent w sub width value s) := by
  unfold xferWindowAccess
  with_reducible repeat' first
      | assumption | apply Frame.refl | intro _
      | (extract_lets +onlyGivenNames x; first
        | (apply Frame.have x; unfold x; clear x; rotate_left; intro hx; clear_value x; rotate_right)
        | clear_value x)
      | apply Frame.ite | apply frame_readAccess | apply frame_storeAccess | apply frame_xferRead
      | apply frame_xferWrite | exact hc.trans (by decide) | split

theorem frame_xferWriteStored {M : Nat} {base : State} {s : State} (hc : Within 0x100000 M) (hk : Frame M base s) :
    Frame M base (xferWriteStored s) := by
  unfold xferWriteStored
  with_reducible repeat' first
      | assumption | apply Frame.refl
      | (extract_lets +onlyGivenNames x; first
        | (apply Frame.have x; unfold x; clear x; rotate_left; intro hx; clear_value x; rotate_right)
        | clear_value x)
      | apply frame_putHalf | exact hc.trans (by decide) | exact hc.bit (by decide) | split | apply Frame.set_opal

theorem frame_swapHeaders {M : Nat} {base : State} (slot : Nat) {s : State} (c : Nat) (hc : Within 0x3 M)
    (hk : Frame M base s) : Frame M base (State.swapHeaders slot s c) := by
  unfold State.swapHeaders
  with_reducible repeat' first
      | assumption
      | (extract_lets +onlyGivenNames x; first
        | (apply Frame.have x; unfold x; clear x; rotate_left; intro hx; clear_value x; rotate_right)
        | clear_value x)
      | apply frame_wr | exact hc.trans (by decide)

theorem frame_remix {M : Nat} {base : State} {s : State} (hc : Within 0x100000 M) (hk : Frame M base s) :
    Frame M base (State.remix s) := by
  unfold State.remix
  with_reducible repeat' first
      | assumption
      | exact hc.trans (by decide) | exact hc.bit (by decide) | apply Frame.set_opal

theorem frame_opalInstall {M : Nat} {base : State} {s : State} (hc : Within 0x100000100017 M) (hk : Frame M base s) :
    Frame M base (State.opalInstall s) := by
  unfold State.opalInstall
  with_reducible repeat' first
      | assumption | apply Frame.refl | intro _
      | (extract_lets +onlyGivenNames x; first
        | (apply Frame.have x; unfold x; clear x; rotate_left; intro hx; clear_value x; rotate_right)
        | clear_value x)
      | apply Frame.each | apply frame_raise | apply frame_remix | apply frame_shadowWr | apply frame_swapHeaders
      | apply frame_wr | exact hc.trans (by decide) | exact hc.bit (by decide) | apply Frame.set_opal

theorem frame_opalLinSwap {M : Nat} {base : State} {s : State} (hc : Within 0x100000100017 M) (hk : Frame M base s) :
    Frame M base (State.opalLinSwap s) := by
  unfold State.opalLinSwap
  with_reducible repeat' first
      | assumption
      | (extract_lets +onlyGivenNames x; first
        | (apply Frame.have x; unfold x; clear x; rotate_left; intro hx; clear_value x; rotate_right)
        | clear_value x)
      | apply frame_raise | apply frame_shadowWr | apply frame_wr | exact hc.trans (by decide)
      | exact hc.bit (by decide) | apply Frame.set_opal

theorem frame_opalWgtSwap {M : Nat} {base : State} {s : State} (hc : Within 0x100000100017 M) (hk : Frame M base s) :
    Frame M base (State.opalWgtSwap s) := by
  unfold State.opalWgtSwap
  with_reducible repeat' first
      | assumption
      | (extract_lets +onlyGivenNames x; first
        | (apply Frame.have x; unfold x; clear x; rotate_left; intro hx; clear_value x; rotate_right)
        | clear_value x)
      | apply frame_raise | apply frame_shadowWr | apply frame_wr | exact hc.trans (by decide)
      | exact hc.bit (by decide) | apply Frame.set_opal

theorem frame_opalExchange {M : Nat} {base : State} {s : State} (hc : Within 0x100000100017 M) (hk : Frame M base s) :
    Frame M base (State.opalExchange s) := by
  unfold State.opalExchange
  with_reducible repeat' first
      | assumption | apply Frame.refl | intro _
      | (extract_lets +onlyGivenNames x; first
        | (apply Frame.have x; unfold x; clear x; rotate_left; intro hx; clear_value x; rotate_right)
        | (apply Frame.have1 x; unfold x; clear x; rotate_left; intro hx; clear_value x; rotate_right)
        | (apply Frame.have2 x; unfold x; clear x; rotate_left; intro hq; clear_value x; rotate_right)
        | (apply Frame.have3 x; unfold x; clear x; rotate_left; intro hq; clear_value x; rotate_right)
        | (apply Frame.have4 x; unfold x; clear x; rotate_left; intro hq; clear_value x; rotate_right)
        | clear_value x)
      | apply hq | apply Frame.ite | apply Frame.when | apply Frame.each | apply Frame.foldl | apply Frame.foldlFst
      | apply frame_opalInstall | apply frame_opalLinSwap | apply frame_opalWgtSwap | exact hc.trans (by decide)
      | split

theorem frame_followOverlaps {M : Nat} {base : State} {s : State} (hc : Within 0x100000 M) (hk : Frame M base s) :
    Frame M base (State.followOverlaps s) := by
  unfold State.followOverlaps
  with_reducible repeat' first
      | assumption | apply Frame.refl | intro _
      | apply Frame.ite | apply Frame.foldl | exact hc.trans (by decide) | exact hc.bit (by decide) | split
      | apply Frame.set_opal

theorem frame_tellDelays {M : Nat} {base : State} {s : State} (lanes : List Nat) (hc : Within 0x100000000010 M)
    (hk : Frame M base s) : Frame M base (State.tellDelays s lanes) := by
  unfold State.tellDelays
  with_reducible repeat' first
      | assumption | apply Frame.refl | intro _
      | apply Frame.when | apply Frame.each | apply frame_raise | exact hc.trans (by decide)

theorem frame_showGain {M : Nat} {base : State} {s : State} (j : Nat) (g : PwGain) (hc : Within 0x3 M)
    (hk : Frame M base s) : Frame M base (State.showGain s j g) := by
  unfold State.showGain
  with_reducible repeat' first
      | assumption
      | (extract_lets +onlyGivenNames x; first
        | (apply Frame.have x; unfold x; clear x; rotate_left; intro hx; clear_value x; rotate_right)
        | clear_value x)
      | apply frame_wr | apply frame_wrB | exact hc.trans (by decide)

theorem frame_showGains {M : Nat} {base : State} {s : State} (y : Nat) (js : List Nat) (hc : Within 0x3 M)
    (hk : Frame M base s) : Frame M base (State.showGains s y js) := by
  unfold State.showGains
  with_reducible repeat' first
      | assumption | apply Frame.refl | intro _
      | (extract_lets +onlyGivenNames x; first
        | (apply Frame.have x; unfold x; clear x; rotate_left; intro hx; clear_value x; rotate_right)
        | clear_value x)
      | apply Frame.each | apply frame_showGain | exact hc.trans (by decide)

theorem frame_pwClear {M : Nat} {base : State} {s : State} (y : Nat) (hc : Within 0x200000 M) (hk : Frame M base s) :
    Frame M base (State.pwClear s y) := by
  unfold State.pwClear
  with_reducible repeat' first
      | assumption
      | exact hc.trans (by decide) | exact hc.bit (by decide) | apply Frame.set_pw

theorem frame_pwReset {M : Nat} {base : State} (v : Nat) {s : State} (hc : Within 0x200007 M) (hk : Frame M base s) :
    Frame M base (pwReset v s) := by
  unfold pwReset
  with_reducible repeat' first
      | assumption | apply Frame.refl
      | (extract_lets +onlyGivenNames x; first
        | (apply Frame.have x; unfold x; clear x; rotate_left; intro hx; clear_value x; rotate_right)
        | clear_value x)
      | apply Frame.ite | apply frame_hostWord | apply frame_pwClear | apply frame_showGains
      | exact hc.trans (by decide) | exact hc.bit (by decide) | split | apply Frame.set_pw

theorem frame_pwStop {M : Nat} {base : State} {s : State} (hc : Within 0x200003 M) (hk : Frame M base s) :
    Frame M base (State.pwStop s) := by
  unfold State.pwStop
  with_reducible repeat' first
      | assumption | apply Frame.refl | intro _
      | (extract_lets +onlyGivenNames x; first
        | (apply Frame.have x; unfold x; clear x; rotate_left; intro hx; clear_value x; rotate_right)
        | clear_value x)
      | apply Frame.ite | apply Frame.foldl | apply frame_showGains | exact hc.trans (by decide)
      | exact hc.bit (by decide) | split | apply Frame.set_pw

theorem frame_pwStart {M : Nat} {base : State} {s : State} (hc : Within 0x200000 M) (hk : Frame M base s) :
    Frame M base (State.pwStart s) := by
  unfold State.pwStart
  with_reducible repeat' first
      | assumption
      | exact hc.trans (by decide) | exact hc.bit (by decide) | apply Frame.set_pw

theorem frame_pwLine {M : Nat} {base : State} {s : State} (y : Nat) (hc : Within 0x200000 M) (hk : Frame M base s) :
    Frame M base (State.pwLine s y) := by
  unfold State.pwLine
  with_reducible repeat' first
      | assumption | apply Frame.refl
      | (extract_lets +onlyGivenNames x; first
        | (apply Frame.have x; unfold x; clear x; rotate_left; intro hx; clear_value x; rotate_right)
        | clear_value x)
      | apply Frame.ite | exact hc.trans (by decide) | exact hc.bit (by decide) | split | apply Frame.set_pw

/-! ## Queues -/

theorem frame_putTenantState {M : Nat} {base : State} {s : State} (t : Nat) (x : Nat) (hc : Within 0x3 M)
    (hk : Frame M base s) : Frame M base (State.putTenantState s t x) := by
  unfold State.putTenantState
  with_reducible repeat' first
      | assumption
      | apply frame_wr | exact hc.trans (by decide)

theorem frame_putVersion {M : Nat} {base : State} {s : State} (t : Nat) (v : Nat) (hc : Within 0x3 M)
    (hk : Frame M base s) : Frame M base (State.putVersion s t v) := by
  unfold State.putVersion
  with_reducible repeat' first
      | assumption
      | apply frame_wr | exact hc.trans (by decide)

theorem frame_putQueue {M : Nat} {base : State} {s : State} (q : Nat) (x : Queue) (hc : Within 0x10000000 M)
    (hk : Frame M base s) : Frame M base (State.putQueue s q x) := by
  unfold State.putQueue
  with_reducible repeat' first
      | assumption
      | exact hc.trans (by decide) | exact hc.bit (by decide) | apply Frame.set_fr

theorem frame_onQueue {M : Nat} {base : State} {s : State} (q : Nat) (f : Queue → Queue)
    (hc : Within 0x10000000 M) (hk : Frame M base s) : Frame M base (State.onQueue s q f) := by
  unfold State.onQueue
  with_reducible repeat' first
      | assumption | apply Frame.refl
      | apply frame_putQueue | exact hc.trans (by decide) | split

theorem frame_writeFields {M : Nat} {base : State} {s : State} (q : Nat) (hc : Within 0x100000000000 M)
    (hk : Frame M base s) : Frame M base (State.writeFields s q) := by
  unfold State.writeFields
  with_reducible repeat' first
      | assumption | apply Frame.refl
      | apply frame_emit | exact hc.trans (by decide) | split

theorem frame_publish {M : Nat} {base : State} {s : State} (q : Nat) (hc : Within 0x100010000010 M)
    (hk : Frame M base s) : Frame M base (State.publish s q) := by
  unfold State.publish
  with_reducible repeat' first
      | assumption | apply Frame.refl | intro _
      | (extract_lets +onlyGivenNames x; first
        | (apply Frame.have x; unfold x; clear x; rotate_left; intro hx; clear_value x; rotate_right)
        | clear_value x)
      | apply Frame.when | apply Frame.each | apply frame_emit | apply frame_icRaise | apply frame_onQueue
      | apply frame_unpublished | exact hc.trans (by decide) | split

theorem frame_setQueueState {M : Nat} {base : State} {s : State} (q : Nat) (st : Nat)
    (hc : Within 0x100010000010 M) (hk : Frame M base s) : Frame M base (State.setQueueState s q st) := by
  unfold State.setQueueState
  with_reducible repeat' first
      | assumption | intro _
      | apply frame_onQueue | apply frame_publish | exact hc.trans (by decide)

theorem frame_unpublished {M : Nat} {base : State} {s : State} (q : Nat) (n : Nat) (events : Nat)
    (hc : Within 0x100010000010 M) (hk : Frame M base s) : Frame M base (State.unpublished s q n events) := by
  unfold State.unpublished
  with_reducible repeat' first
      | assumption | apply Frame.refl | intro _
      | (extract_lets +onlyGivenNames x; first
        | (apply Frame.have x; unfold x; clear x; rotate_left; intro hx; clear_value x; rotate_right)
        | clear_value x)
      | apply Frame.ite | apply frame_onQueue | apply frame_publish | exact hc.trans (by decide) | split

theorem frame_park {M : Nat} {base : State} {s : State} (q : Nat) (state : Nat) (fault : Nat)
    (hc : Within 0x10000000 M) (hk : Frame M base s) : Frame M base (State.park s q state fault) := by
  unfold State.park
  with_reducible repeat' first
      | assumption
      | exact hc.trans (by decide) | exact hc.bit (by decide) | apply Frame.set_fr

theorem frame_dropContext {M : Nat} {base : State} {s : State} (q : Nat) (hc : Within 0x10000000 M)
    (hk : Frame M base s) : Frame M base (State.dropContext s q) := by
  unfold State.dropContext
  with_reducible repeat' first
      | assumption | apply Frame.refl
      | apply frame_park | exact hc.trans (by decide) | exact hc.bit (by decide) | split | apply Frame.set_fr

theorem frame_freeEntry {m : Nat} {a s t : State} (hc : Within 0x100010000003 m) (h : Frame m a s)
    (e : s.freeEntry = some t) :
    Frame m a t := by
  unfold State.freeEntry at e
  split at e
  · cases e
    exact h
  · split at e
    · cases e
    · cases e
      exact frame_inc (hc := hc.trans (by decide)) (hk := frame_dropContext (hc := hc.trans (by decide))
        (hk := frame_writeFields (hc := hc.trans (by decide)) (hk := h) ..) ..) ..

theorem frame_needContext {M : Nat} {base : State} {s : State} (q : Nat) (hc : Within 0x100010000013 M)
    (hk : Frame M base s) : Frame M base (State.needContext s q) := by
  unfold State.needContext
  with_reducible repeat' first
      | assumption | apply Frame.refl
      | (extract_lets +onlyGivenNames x; first
        | (apply Frame.have x; unfold x; clear x; rotate_left; intro hx; clear_value x; rotate_right)
        | clear_value x)
      | apply Frame.ite | apply frame_emit | apply frame_inc | apply frame_raise
      | refine frame_freeEntry (hc.trans (by decide)) ?_ (by assumption) | exact hc.trans (by decide)
      | exact hc.bit (by decide) | split | apply Frame.set_fr

theorem frame_hit {M : Nat} {base : State} {s : State} (hc : Within 0x3 M) (hk : Frame M base s) :
    Frame M base (State.hit s) := by
  unfold State.hit
  with_reducible repeat' first
      | assumption
      | apply frame_inc | exact hc.trans (by decide)

theorem frame_retryStalled {M : Nat} {base : State} {s : State} (hc : Within 0x100010000003 M) (hk : Frame M base s) :
    Frame M base (State.retryStalled s) := by
  unfold State.retryStalled
  with_reducible repeat' first
      | assumption | apply Frame.refl
      | apply frame_emit | refine frame_freeEntry (hc.trans (by decide)) ?_ (by assumption)
      | exact hc.trans (by decide) | exact hc.bit (by decide) | split | apply Frame.set_fr

theorem frame_writeEntry {M : Nat} {base : State} {s : State} (q : Nat) (words : List Nat) (blocks : Nat)
    (irq : Bool) (hc : Within 0x100010000010 M) (hk : Frame M base s) :
    Frame M base (State.writeEntry s q words blocks irq) := by
  unfold State.writeEntry
  with_reducible repeat' first
      | assumption | apply Frame.refl | intro _
      | (extract_lets +onlyGivenNames x; first
        | (apply Frame.have x; unfold x; clear x; rotate_left; intro hx; clear_value x; rotate_right)
        | clear_value x)
      | apply frame_emit | apply frame_onQueue | apply frame_unpublished | exact hc.trans (by decide) | split

theorem frame_noticeDrop {M : Nat} {base : State} {s : State} (t : Nat) (hc : Within 0x100000000013 M)
    (hk : Frame M base s) : Frame M base (State.noticeDrop s t) := by
  unfold State.noticeDrop
  with_reducible repeat' first
      | assumption
      | apply frame_inc | apply frame_raise | exact hc.trans (by decide)

theorem frame_noticeWrite {M : Nat} {base : State} {s : State} (q : Nat) (words : List Nat)
    (hc : Within 0x100010000013 M) (hk : Frame M base s) : Frame M base (State.noticeWrite s q words) := by
  unfold State.noticeWrite
  with_reducible repeat' first
      | assumption | apply Frame.refl
      | apply Frame.ite | apply frame_noticeDrop | apply frame_writeEntry | exact hc.trans (by decide) | split

theorem frame_notice {M : Nat} {base : State} {s : State} (t : Nat) (kind : Nat) (object : Nat) (code : Nat)
    (holder : Nat) (hc : Within 0x100010000013 M) (hk : Frame M base s) :
    Frame M base (State.notice s t kind object code holder) := by
  unfold State.notice
  with_reducible repeat' first
      | assumption | apply Frame.refl
      | (extract_lets +onlyGivenNames x; first
        | (apply Frame.have x; unfold x; clear x; rotate_left; intro hx; clear_value x; rotate_right)
        | clear_value x)
      | apply Frame.ite | apply frame_hit | apply frame_needContext | apply frame_noticeDrop | apply frame_noticeWrite
      | exact hc.trans (by decide) | exact hc.bit (by decide) | split | apply Frame.set_fr

theorem frame_onItem {M : Nat} {base : State} {s : State} (n : Option Nat) (f : Item → Item)
    (hc : Within 0x4000000 M) (hk : Frame M base s) : Frame M base (State.onItem s n f) := by
  unfold State.onItem
  with_reducible repeat' first
      | assumption | apply Frame.refl
      | exact hc.trans (by decide) | exact hc.bit (by decide) | split | apply Frame.set_comp

theorem frame_recordDropped {M : Nat} {base : State} {s : State} (r : Staged) (hc : Within 0x10000c000013 M)
    (hk : Frame M base s) : Frame M base (State.recordDropped s r) := by
  unfold State.recordDropped
  with_reducible repeat' first
      | assumption | apply Frame.refl | intro _
      | (extract_lets +onlyGivenNames x; first
        | (apply Frame.have x; unfold x; clear x; rotate_left; intro hx; clear_value x; rotate_right)
        | clear_value x)
      | apply frame_inc | apply frame_incSat | apply frame_onItem | apply frame_raise | exact hc.trans (by decide)
      | exact hc.bit (by decide) | split | apply Frame.set_comp | apply Frame.set_mp

theorem frame_recordLost {M : Nat} {base : State} {s : State} (r : Staged) (hc : Within 0x10000c000013 M)
    (hk : Frame M base s) : Frame M base (State.recordLost s r) := by
  unfold State.recordLost
  with_reducible repeat' first
      | assumption | apply Frame.refl | intro _
      | apply Frame.ite | apply frame_onItem | apply frame_recordDropped | exact hc.trans (by decide) | split

theorem frame_takeStaged {M : Nat} {base : State} {s : State} (f : State → Staged → State) (hf : ∀ s a, Frame M s
    (f s a)) (p : Staged → Bool) (hc : Within 0x10000000 M) (hk : Frame M base s) :
    Frame M base (State.takeStaged s f p) := by
  unfold State.takeStaged
  with_reducible repeat' first
      | assumption | apply Frame.refl | intro _
      | (extract_lets +onlyGivenNames x; first
        | (apply Frame.have x; unfold x; clear x; rotate_left; intro hx; clear_value x; rotate_right)
        | clear_value x)
      | apply Frame.each | refine Frame.trans ?_ (hf ..) | exact hc.trans (by decide) | exact hc.bit (by decide)
      | apply Frame.set_fr

theorem frame_dropStaged {M : Nat} {base : State} {s : State} (p : Staged → Bool) (hc : Within 0x10001c000013 M)
    (hk : Frame M base s) : Frame M base (State.dropStaged s p) := by
  unfold State.dropStaged
  with_reducible repeat' first
      | assumption | apply Frame.refl | intro _
      | (extract_lets +onlyGivenNames x; first
        | (apply Frame.have x; unfold x; clear x; rotate_left; intro hx; clear_value x; rotate_right)
        | (apply Frame.have1 x; unfold x; clear x; rotate_left; intro hx; clear_value x; rotate_right)
        | (apply Frame.have2 x; unfold x; clear x; rotate_left; intro hq; clear_value x; rotate_right)
        | (apply Frame.have3 x; unfold x; clear x; rotate_left; intro hq; clear_value x; rotate_right)
        | (apply Frame.have4 x; unfold x; clear x; rotate_left; intro hq; clear_value x; rotate_right)
        | clear_value x)
      | apply hq | apply Frame.ite | apply Frame.when | apply Frame.each | apply Frame.foldl | apply Frame.foldlFst
      | apply frame_recordDropped | apply frame_takeStaged | exact hc.trans (by decide) | split

theorem frame_loseStaged {M : Nat} {base : State} {s : State} (p : Staged → Bool) (hc : Within 0x10001c000013 M)
    (hk : Frame M base s) : Frame M base (State.loseStaged s p) := by
  unfold State.loseStaged
  with_reducible repeat' first
      | assumption | apply Frame.refl | intro _
      | (extract_lets +onlyGivenNames x; first
        | (apply Frame.have x; unfold x; clear x; rotate_left; intro hx; clear_value x; rotate_right)
        | (apply Frame.have1 x; unfold x; clear x; rotate_left; intro hx; clear_value x; rotate_right)
        | (apply Frame.have2 x; unfold x; clear x; rotate_left; intro hq; clear_value x; rotate_right)
        | (apply Frame.have3 x; unfold x; clear x; rotate_left; intro hq; clear_value x; rotate_right)
        | (apply Frame.have4 x; unfold x; clear x; rotate_left; intro hq; clear_value x; rotate_right)
        | clear_value x)
      | apply hq | apply Frame.ite | apply Frame.when | apply Frame.each | apply Frame.foldl | apply Frame.foldlFst
      | apply frame_recordLost | apply frame_takeStaged | exact hc.trans (by decide) | split

theorem frame_stage {M : Nat} {base : State} {s : State} (valid : Bool) (r : Staged)
    (hc : Within 0x10001c000013 M) (hk : Frame M base s) : Frame M base (State.stage s valid r) := by
  unfold State.stage
  with_reducible repeat' first
      | assumption | apply Frame.refl
      | (extract_lets +onlyGivenNames x; first
        | (apply Frame.have x; unfold x; clear x; rotate_left; intro hx; clear_value x; rotate_right)
        | clear_value x)
      | apply Frame.ite | apply frame_hit | apply frame_needContext | apply frame_recordDropped
      | exact hc.trans (by decide) | exact hc.bit (by decide) | split | apply Frame.set_fr

theorem frame_unstage {M : Nat} {base : State} {s : State} (q : Nat) (hc : Within 0x10000000 M)
    (hk : Frame M base s) : Frame M base (State.unstage s q) := by
  unfold State.unstage
  with_reducible repeat' first
      | assumption | intro _
      | exact hc.trans (by decide) | exact hc.bit (by decide) | apply Frame.set_fr

theorem frame_tryCompletion_written {m : Nat} {a s t : State} {q : Nat} {x : Queue} {c : Completion}
    (hc : Within 0x100010000013 m) (h : Frame m a s) (e : s.tryCompletion q x c = .written t) : Frame m a t := by
  simp only [State.tryCompletion] at e
  repeat' split at e
  all_goals cases e
  all_goals
    with_reducible apply frame_writeEntry
    · exact hc.trans (by decide)
    with_reducible apply frame_hit
    · exact hc.trans (by decide)
    exact h

theorem frame_tryCompletion_waits {m : Nat} {a s t : State} {q : Nat} {x : Queue} {c : Completion}
    (hc : Within 0x100010000013 m)
    (h : Frame m a s) (e : s.tryCompletion q x c = .waits t) : Frame m a t := by
  simp only [State.tryCompletion] at e
  repeat' split at e
  all_goals cases e
  · exact frame_needContext (hc := hc.trans (by decide)) (hk := h) ..
  · exact h

theorem frame_completeOrDrop {M : Nat} {base : State} {s : State} (q : Nat) (c : Completion)
    (hc : Within 0x100010000013 M) (hk : Frame M base s) : Frame M base (State.completeOrDrop s q c) := by
  unfold State.completeOrDrop
  with_reducible repeat' first
      | assumption | apply Frame.refl | intro _
      | apply Frame.ite | apply frame_onQueue
      | refine frame_tryCompletion_written (hc.trans (by decide)) ?_ (by assumption)
      | refine frame_tryCompletion_waits (hc.trans (by decide)) ?_ (by assumption) | exact hc.trans (by decide)
      | split

theorem frame_putQfault {M : Nat} {base : State} {s : State} (q : Nat) (b : Bool) (hc : Within 0x3 M)
    (hk : Frame M base s) : Frame M base (State.putQfault s q b) := by
  unfold State.putQfault
  with_reducible repeat' first
      | assumption
      | (extract_lets +onlyGivenNames x; first
        | (apply Frame.have x; unfold x; clear x; rotate_left; intro hx; clear_value x; rotate_right)
        | clear_value x)
      | apply frame_wr | exact hc.trans (by decide)

theorem frame_putChannel {M : Nat} {base : State} {s : State} (c : Nat) (x : Channel) (hc : Within 0x20000000 M)
    (hk : Frame M base s) : Frame M base (State.putChannel s c x) := by
  unfold State.putChannel
  with_reducible repeat' first
      | assumption
      | exact hc.trans (by decide) | exact hc.bit (by decide) | apply Frame.set_dma

theorem frame_refWaiting {M : Nat} {base : State} {s : State} (hc : Within 0x3 M) (hk : Frame M base s) :
    Frame M base (State.refWaiting s) := by
  unfold State.refWaiting
  with_reducible repeat' first
      | assumption | intro _
      | apply frame_wrB | exact hc.trans (by decide)

theorem frame_qadmEnd {M : Nat} {base : State} {s : State} (t : Nat) (result : Nat) (hc : Within 0x100000000013 M)
    (hk : Frame M base s) : Frame M base (State.qadmEnd s t result) := by
  unfold State.qadmEnd
  with_reducible repeat' first
      | assumption
      | apply frame_raise | apply frame_wr | exact hc.trans (by decide)

theorem frame_settle {M : Nat} {base : State} {s : State} (q : Nat) (hc : Within 0x100010000013 M)
    (hk : Frame M base s) : Frame M base (State.settle s q) := by
  unfold State.settle
  with_reducible repeat' first
      | assumption | apply Frame.refl | intro _
      | (extract_lets +onlyGivenNames x; first
        | (apply Frame.have x; unfold x; clear x; rotate_left; intro hx; clear_value x; rotate_right)
        | clear_value x)
      | apply Frame.ite | apply Frame.when | apply frame_dropContext | apply frame_onQueue | apply frame_park
      | apply frame_putQfault | apply frame_qadmEnd | apply frame_retryStalled | apply frame_writeFields
      | exact hc.trans (by decide) | split

theorem frame_finishBegun {M : Nat} {base : State} {s : State} (q : Nat) (index : Nat)
    (hc : Within 0x100010000013 M) (hk : Frame M base s) : Frame M base (State.finishBegun s q index) := by
  unfold State.finishBegun
  with_reducible repeat' first
      | assumption | intro _
      | apply frame_onQueue | apply frame_settle | exact hc.trans (by decide)

theorem frame_xferCompletion {M : Nat} {base : State} {s : State} (c : Nat) (x : Xfer) (status : Nat)
    (hc : Within 0x100010000013 M) (hk : Frame M base s) : Frame M base (State.xferCompletion s c x status) := by
  unfold State.xferCompletion
  with_reducible repeat' first
      | assumption | apply Frame.refl
      | (extract_lets +onlyGivenNames x; first
        | (apply Frame.have x; unfold x; clear x; rotate_left; intro hx; clear_value x; rotate_right)
        | clear_value x)
      | apply Frame.ite | apply frame_completeOrDrop | apply frame_finishBegun | exact hc.trans (by decide) | split

theorem frame_waitingCount {M : Nat} {base : State} {s : State} (c : Nat) (hc : Within 0x3 M) (hk : Frame M base s) :
    Frame M base (State.waitingCount s c) := by
  unfold State.waitingCount
  with_reducible repeat' first
      | assumption
      | apply frame_wr | exact hc.trans (by decide)

theorem frame_beginWaiting {M : Nat} {base : State} (p0 : Nat) {p1 : State} (p2 : Nat)
    (hc : Within 0x100030000013 M) (hk : Frame M base p1) : Frame M base (State.beginWaiting p0 p1 p2) := by
  induction p0 generalizing p1 p2 with
  | zero => exact hk
  | succ _ ih =>
    unfold State.beginWaiting
    with_reducible repeat' first
        | assumption | apply Frame.refl | intro _
        | (extract_lets +onlyGivenNames x; first
          | (apply Frame.have x; unfold x; clear x; rotate_left; intro hx; clear_value x; rotate_right)
          | (apply Frame.have1 x; unfold x; clear x; rotate_left; intro hx; clear_value x; rotate_right)
          | (apply Frame.have2 x; unfold x; clear x; rotate_left; intro hq; clear_value x; rotate_right)
          | (apply Frame.have3 x; unfold x; clear x; rotate_left; intro hq; clear_value x; rotate_right)
          | (apply Frame.have4 x; unfold x; clear x; rotate_left; intro hq; clear_value x; rotate_right)
          | clear_value x)
        | apply hq | apply Frame.ite | apply Frame.when | apply Frame.each | apply Frame.foldl | apply Frame.foldlFst
        | apply frame_putChannel | apply frame_raise | apply frame_waitingCount | apply frame_wr
        | apply frame_xferCompletion | apply ih | exact hc.trans (by decide) | split

theorem frame_beginNext {M : Nat} {base : State} {s : State} (c : Nat) (hc : Within 0x100030000013 M)
    (hk : Frame M base s) : Frame M base (State.beginNext s c) := by
  unfold State.beginNext
  with_reducible repeat' first
      | assumption | apply Frame.refl
      | apply Frame.ite | apply frame_beginWaiting | exact hc.trans (by decide) | split

theorem frame_endXfer {M : Nat} {base : State} {s : State} (c : Nat) (x : Xfer) (status : Nat)
    (hc : Within 0x100030000013 M) (hk : Frame M base s) : Frame M base (State.endXfer s c x status) := by
  unfold State.endXfer
  with_reducible repeat' first
      | assumption
      | apply frame_beginNext | apply frame_putChannel | apply frame_xferCompletion | exact hc.trans (by decide)

theorem frame_stopXfer {M : Nat} {base : State} {s : State} (c : Nat) (status : Nat)
    (hc : Within 0x100030000013 M) (hk : Frame M base s) : Frame M base (State.stopXfer s c status) := by
  unfold State.stopXfer
  with_reducible repeat' first
      | assumption | apply Frame.refl
      | apply Frame.ite | apply frame_endXfer | apply frame_putChannel | exact hc.trans (by decide) | split

theorem frame_dropWaiting {M : Nat} {base : State} {s : State} (c : Nat) (status : Nat) (p : Xfer → Bool)
    (hc : Within 0x100030000013 M) (hk : Frame M base s) : Frame M base (State.dropWaiting s c status p) := by
  unfold State.dropWaiting
  with_reducible repeat' first
      | assumption | apply Frame.refl | intro _
      | (extract_lets +onlyGivenNames x; first
        | (apply Frame.have x; unfold x; clear x; rotate_left; intro hx; clear_value x; rotate_right)
        | clear_value x)
      | apply Frame.each | apply frame_putChannel | apply frame_waitingCount | apply frame_xferCompletion
      | exact hc.trans (by decide)

theorem frame_stopXfers {M : Nat} {base : State} {s : State} (status : Nat) (p : Xfer → Bool)
    (hc : Within 0x100030000013 M) (hk : Frame M base s) : Frame M base (State.stopXfers s status p) := by
  unfold State.stopXfers
  with_reducible repeat' first
      | assumption | apply Frame.refl | intro _
      | (extract_lets +onlyGivenNames x; first
        | (apply Frame.have x; unfold x; clear x; rotate_left; intro hx; clear_value x; rotate_right)
        | clear_value x)
      | apply Frame.ite | apply Frame.each | apply frame_dropWaiting | apply frame_stopXfer
      | exact hc.trans (by decide) | split

theorem frame_discardWork {M : Nat} {base : State} {s : State} (q : Nat) (hc : Within 0x100030000013 M)
    (hk : Frame M base s) : Frame M base (State.discardWork s q) := by
  unfold State.discardWork
  with_reducible repeat' first
      | assumption | apply Frame.refl | intro _
      | (extract_lets +onlyGivenNames x; first
        | (apply Frame.have x; unfold x; clear x; rotate_left; intro hx; clear_value x; rotate_right)
        | clear_value x)
      | apply Frame.each | apply frame_complete | apply frame_completeOrDrop | apply frame_finishBegun
      | apply frame_onQueue | apply frame_refWaiting | apply frame_stopXfers | exact hc.trans (by decide) | split

theorem frame_queueFault {M : Nat} {base : State} {s : State} (q : Nat) (code : Nat)
    (hc : Within 0x10003c000013 M) (hk : Frame M base s) : Frame M base (State.queueFault s q code) := by
  unfold State.queueFault
  with_reducible repeat' first
      | assumption | apply Frame.refl | intro _
      | (extract_lets +onlyGivenNames x; first
        | (apply Frame.have x; unfold x; clear x; rotate_left; intro hx; clear_value x; rotate_right)
        | clear_value x)
      | apply Frame.ite | apply frame_discardWork | apply frame_loseStaged | apply frame_notice | apply frame_onQueue
      | apply frame_park | apply frame_putQfault | apply frame_raise | apply frame_setQueueState
      | exact hc.trans (by decide) | split

theorem frame_complete {M : Nat} {base : State} {s : State} (q : Nat) (words : List Nat) (status : Nat) (d0 : Nat)
    (d1 : Nat) (hc : Within 0x10003c000013 M) (hk : Frame M base s) :
    Frame M base (State.complete s q words status d0 d1) := by
  unfold State.complete
  with_reducible repeat' first
      | assumption | apply Frame.refl | intro _
      | (extract_lets +onlyGivenNames x; first
        | (apply Frame.have x; unfold x; clear x; rotate_left; intro hx; clear_value x; rotate_right)
        | clear_value x)
      | apply Frame.ite | apply frame_onQueue | apply frame_queueFault
      | refine frame_tryCompletion_written (hc.trans (by decide)) ?_ (by assumption)
      | refine frame_tryCompletion_waits (hc.trans (by decide)) ?_ (by assumption) | exact hc.trans (by decide)
      | split

theorem frame_completeBegun {M : Nat} {base : State} {s : State} (q : Nat) (index : Nat) (words : List Nat)
    (status : Nat) (d0 : Nat) (d1 : Nat) (hc : Within 0x10003c000013 M) (hk : Frame M base s) :
    Frame M base (State.completeBegun s q index words status d0 d1) := by
  unfold State.completeBegun
  with_reducible repeat' first
      | assumption
      | apply frame_complete | apply frame_finishBegun | exact hc.trans (by decide)

theorem frame_drainDue {M : Nat} {base : State} (p0 : Nat) {p1 : State} (p2 : Nat) (hc : Within 0x10003c000013 M)
    (hk : Frame M base p1) : Frame M base (State.drainDue p0 p1 p2) := by
  induction p0 generalizing p1 p2 with
  | zero => exact hk
  | succ _ ih =>
    unfold State.drainDue
    with_reducible repeat' first
        | assumption | apply Frame.refl | intro _
        | (extract_lets +onlyGivenNames x; first
          | (apply Frame.have x; unfold x; clear x; rotate_left; intro hx; clear_value x; rotate_right)
          | clear_value x)
        | apply Frame.ite | apply frame_onQueue | apply frame_queueFault
        | refine frame_tryCompletion_written (hc.trans (by decide)) ?_ (by assumption)
        | refine frame_tryCompletion_waits (hc.trans (by decide)) ?_ (by assumption) | apply ih
        | exact hc.trans (by decide) | split

theorem frame_drainAllDue {M : Nat} {base : State} {s : State} (hc : Within 0x10003c000013 M) (hk : Frame M base s) :
    Frame M base (State.drainAllDue s) := by
  unfold State.drainAllDue
  with_reducible repeat' first
      | assumption | apply Frame.refl | intro _
      | apply Frame.each | apply frame_drainDue | apply frame_settle | exact hc.trans (by decide)

theorem frame_faultQueue {M : Nat} {base : State} {s : State} (q : Nat) (code : Nat)
    (hc : Within 0x10003c000013 M) (hk : Frame M base s) : Frame M base (State.faultQueue s q code) := by
  unfold State.faultQueue
  with_reducible repeat' first
      | assumption
      | apply frame_drainAllDue | apply frame_queueFault | exact hc.trans (by decide)

theorem frame_finishXfer {M : Nat} {base : State} {s : State} (c : Nat) (x : Xfer) (status : Nat) (d0 : Nat)
    (d1 : Nat) (hc : Within 0x10003c000013 M) (hk : Frame M base s) :
    Frame M base (State.finishXfer s c x status d0 d1) := by
  unfold State.finishXfer
  with_reducible repeat' first
      | assumption
      | apply frame_beginNext | apply frame_completeBegun | apply frame_putChannel | exact hc.trans (by decide)

theorem frame_haltChannel {M : Nat} {base : State} {s : State} (c : Nat) (cause : Nat) (status : Nat)
    (waitingStatus : Nat) (hc : Within 0x100030000013 M) (hk : Frame M base s) :
    Frame M base (State.haltChannel s c cause status waitingStatus) := by
  unfold State.haltChannel
  with_reducible repeat' first
      | assumption | apply Frame.refl | intro _
      | (extract_lets +onlyGivenNames x; first
        | (apply Frame.have x; unfold x; clear x; rotate_left; intro hx; clear_value x; rotate_right)
        | (apply Frame.have1 x; unfold x; clear x; rotate_left; intro hx; clear_value x; rotate_right)
        | (apply Frame.have2 x; unfold x; clear x; rotate_left; intro hq; clear_value x; rotate_right)
        | (apply Frame.have3 x; unfold x; clear x; rotate_left; intro hq; clear_value x; rotate_right)
        | (apply Frame.have4 x; unfold x; clear x; rotate_left; intro hq; clear_value x; rotate_right)
        | clear_value x)
      | apply hq | apply Frame.ite | apply Frame.when | apply Frame.each | apply Frame.foldl | apply Frame.foldlFst
      | apply frame_dropWaiting | apply frame_raise | apply frame_stopXfer | apply frame_wr
      | exact hc.trans (by decide) | split

theorem frame_applyDoorbell {M : Nat} {base : State} {s : State} (q : Nat) (index : Nat)
    (hc : Within 0x10003c000013 M) (hk : Frame M base s) : Frame M base (State.applyDoorbell s q index) := by
  unfold State.applyDoorbell
  with_reducible repeat' first
      | assumption | apply Frame.refl | intro _
      | (extract_lets +onlyGivenNames x; first
        | (apply Frame.have x; unfold x; clear x; rotate_left; intro hx; clear_value x; rotate_right)
        | (apply Frame.have1 x; unfold x; clear x; rotate_left; intro hx; clear_value x; rotate_right)
        | (apply Frame.have2 x; unfold x; clear x; rotate_left; intro hq; clear_value x; rotate_right)
        | (apply Frame.have3 x; unfold x; clear x; rotate_left; intro hq; clear_value x; rotate_right)
        | (apply Frame.have4 x; unfold x; clear x; rotate_left; intro hq; clear_value x; rotate_right)
        | clear_value x)
      | apply hq | apply Frame.ite | apply Frame.when | apply Frame.each | apply Frame.foldl | apply Frame.foldlFst
      | apply frame_drainAllDue | apply frame_faultQueue | apply frame_inc | apply frame_onQueue | apply frame_raise
      | exact hc.trans (by decide) | split

theorem frame_ringDoorbell {M : Nat} {base : State} (t : Nat) (l : Nat) (lo : Nat) (hi : Nat) {s : State}
    (hc : Within 0x10003c000013 M) (hk : Frame M base s) : Frame M base (State.ringDoorbell t l lo hi s) := by
  unfold State.ringDoorbell
  with_reducible repeat' first
      | assumption | apply Frame.refl
      | (extract_lets +onlyGivenNames x; first
        | (apply Frame.have x; unfold x; clear x; rotate_left; intro hx; clear_value x; rotate_right)
        | clear_value x)
      | apply Frame.ite | apply frame_applyDoorbell | apply frame_hit | apply frame_inc | apply frame_needContext
      | apply frame_raise | exact hc.trans (by decide) | exact hc.bit (by decide) | split | apply Frame.set_fr

theorem frame_discardDoorbell {M : Nat} {base : State} {s : State} (t : Nat) (o : Nat) (width : Nat) (v : Nat)
    (isRead : Bool) (hc : Within 0x100000000010 M) (hk : Frame M base s) :
    Frame M base (State.discardDoorbell s t o width v isRead) := by
  unfold State.discardDoorbell
  with_reducible repeat' first
      | assumption
      | apply frame_log | exact hc.trans (by decide)

theorem frame_doorbell {M : Nat} {base : State} (t : Nat) (o : Nat) (width : Nat) (v : Option Nat) {s : State}
    (hc : Within 0x10003c000013 M) (hk : Frame M base s) : Frame M base (doorbell t o width v s) := by
  unfold doorbell
  with_reducible repeat' first
      | assumption | apply Frame.refl | intro _
      | (extract_lets +onlyGivenNames x; first
        | (apply Frame.have x; unfold x; clear x; rotate_left; intro hx; clear_value x; rotate_right)
        | (apply Frame.have1 x; unfold x; clear x; rotate_left; intro hx; clear_value x; rotate_right)
        | (apply Frame.have2 x; unfold x; clear x; rotate_left; intro hq; clear_value x; rotate_right)
        | (apply Frame.have3 x; unfold x; clear x; rotate_left; intro hq; clear_value x; rotate_right)
        | (apply Frame.have4 x; unfold x; clear x; rotate_left; intro hq; clear_value x; rotate_right)
        | clear_value x)
      | apply hq | apply Frame.ite | apply Frame.when | apply Frame.each | apply Frame.foldl | apply Frame.foldlFst
      | apply frame_discardDoorbell | apply frame_emit | apply frame_ringDoorbell | exact hc.trans (by decide) | split

theorem frame_pinLimit {M : Nat} {base : State} {s : State} (q : Nat) (x : Queue) (hc : Within 0x100000000010 M)
    (hk : Frame M base s) : Frame M base ((State.pinLimit s q x).1) := by
  unfold State.pinLimit
  with_reducible repeat' first
      | assumption | apply Frame.refl
      | apply Frame.ite | apply frame_raise | exact hc.trans (by decide) | split

theorem frame_loaded {M : Nat} {base : State} {s : State} (q : Nat) (w : List Nat) (hc : Within 0x10003c000013 M)
    (hk : Frame M base s) : Frame M base (State.loaded s q w) := by
  unfold State.loaded
  with_reducible repeat' first
      | assumption | apply Frame.refl | intro _
      | (extract_lets +onlyGivenNames x; first
        | (apply Frame.have x; unfold x; clear x; rotate_left; intro hx; clear_value x; rotate_right)
        | (apply Frame.have1 x; unfold x; clear x; rotate_left; intro hx; clear_value x; rotate_right)
        | (apply Frame.have2 x; unfold x; clear x; rotate_left; intro hq; clear_value x; rotate_right)
        | (apply Frame.have3 x; unfold x; clear x; rotate_left; intro hq; clear_value x; rotate_right)
        | (apply Frame.have4 x; unfold x; clear x; rotate_left; intro hq; clear_value x; rotate_right)
        | clear_value x)
      | apply hq | apply Frame.ite | apply Frame.when | apply Frame.each | apply Frame.foldl | apply Frame.foldlFst
      | apply frame_applyDoorbell | apply frame_drainAllDue | apply frame_inc | apply frame_noticeWrite
      | apply frame_park | apply frame_pinLimit | apply frame_putQueue | apply frame_raise
      | exact hc.trans (by decide) | exact hc.bit (by decide) | split | apply Frame.set_fr

theorem frame_indexWriteback {M : Nat} {base : State} (q : Nat) (error : Bool) {s : State}
    (hc : Within 0x10003c000013 M) (hk : Frame M base s) : Frame M base (indexWriteback q error s) := by
  unfold indexWriteback
  with_reducible repeat' first
      | assumption | apply Frame.refl
      | apply Frame.ite | apply frame_faultQueue | apply frame_publish | apply frame_unpublished
      | exact hc.trans (by decide) | split

theorem frame_qadmBegin {M : Nat} {base : State} {s : State} (t : Nat) (l : Nat) (f : State → State)
    (hf : ∀ s, Frame M s (f s)) (hc : Within 0x100000000013 M) (hk : Frame M base s) :
    Frame M base (State.qadmBegin s t l f) := by
  unfold State.qadmBegin
  with_reducible repeat' first
      | assumption | apply Frame.refl
      | (extract_lets +onlyGivenNames x; first
        | (apply Frame.have x; unfold x; clear x; rotate_left; intro hx; clear_value x; rotate_right)
        | clear_value x)
      | apply Frame.ite | apply frame_qadmEnd | apply frame_raise | apply frame_wr | refine Frame.trans ?_ (hf ..)
      | exact hc.trans (by decide) | split

theorem frame_withContext {M : Nat} {base : State} {s : State} (q : Nat) (w : Option (List Nat))
    (hc : Within 0x10003c000013 M) (hk : Frame M base s) : Frame M base (State.withContext s q w) := by
  unfold State.withContext
  with_reducible repeat' first
      | assumption | apply Frame.refl | intro _
      | (extract_lets +onlyGivenNames x; first
        | (apply Frame.have x; unfold x; clear x; rotate_left; intro hx; clear_value x; rotate_right)
        | (apply Frame.have1 x; unfold x; clear x; rotate_left; intro hx; clear_value x; rotate_right)
        | (apply Frame.have2 x; unfold x; clear x; rotate_left; intro hq; clear_value x; rotate_right)
        | (apply Frame.have3 x; unfold x; clear x; rotate_left; intro hq; clear_value x; rotate_right)
        | (apply Frame.have4 x; unfold x; clear x; rotate_left; intro hq; clear_value x; rotate_right)
        | clear_value x)
      | apply hq | apply Frame.ite | apply Frame.when | apply Frame.each | apply Frame.foldl | apply Frame.foldlFst
      | apply frame_hit | apply frame_loaded | apply frame_needContext | exact hc.trans (by decide)
      | exact hc.bit (by decide) | split | apply Frame.set_fr

theorem frame_recordDelivery {M : Nat} {base : State} (q : Nat) {s : State} (hc : Within 0x18001c000013 M)
    (hk : Frame M base s) : Frame M base (recordDelivery q s) := by
  unfold recordDelivery
  with_reducible repeat' first
      | assumption | apply Frame.refl | intro _
      | (extract_lets +onlyGivenNames x; first
        | (apply Frame.have x; unfold x; clear x; rotate_left; intro hx; clear_value x; rotate_right)
        | clear_value x)
      | apply Frame.ite | apply Frame.when | apply frame_hit | apply frame_needContext | apply frame_recordDropped
      | apply frame_unstage | apply frame_writeEntry | exact hc.trans (by decide) | exact hc.bit (by decide) | split
      | apply Frame.set_fresh

/-! ## Reference -/

theorem frame_onJob {M : Nat} {base : State} {s : State} (id : Nat) (f : Job → Job) (hc : Within 0x1000000 M)
    (hk : Frame M base s) : Frame M base (State.onJob s id f) := by
  unfold State.onJob
  with_reducible repeat' first
      | assumption | apply Frame.refl | intro _
      | apply Frame.ite | exact hc.trans (by decide) | exact hc.bit (by decide) | split | apply Frame.set_ref

theorem frame_showPendLimit {M : Nat} {base : State} {s : State} (p : Job) (hc : Within 0x80000000003 M)
    (hk : Frame M base s) : Frame M base (State.showPendLimit s p) := by
  unfold State.showPendLimit
  with_reducible repeat' first
      | assumption | apply Frame.refl | intro _
      | (extract_lets +onlyGivenNames x; first
        | (apply Frame.have x; unfold x; clear x; rotate_left; intro hx; clear_value x; rotate_right)
        | (apply Frame.have1 x; unfold x; clear x; rotate_left; intro hx; clear_value x; rotate_right)
        | (apply Frame.have2 x; unfold x; clear x; rotate_left; intro hq; clear_value x; rotate_right)
        | (apply Frame.have3 x; unfold x; clear x; rotate_left; intro hq; clear_value x; rotate_right)
        | (apply Frame.have4 x; unfold x; clear x; rotate_left; intro hq; clear_value x; rotate_right)
        | clear_value x)
      | apply hq | apply Frame.ite | apply Frame.when | apply Frame.each | apply Frame.foldl | apply Frame.foldlFst
      | apply frame_take | apply frame_wrPair | exact hc.trans (by decide) | split

theorem frame_refPublish {M : Nat} {base : State} {s : State} (hc : Within 0x180000000013 M) (hk : Frame M base s) :
    Frame M base (State.refPublish s) := by
  unfold State.refPublish
  with_reducible repeat' first
      | assumption | apply Frame.refl | intro _
      | (extract_lets +onlyGivenNames x; first
        | (apply Frame.have x; unfold x; clear x; rotate_left; intro hx; clear_value x; rotate_right)
        | (apply Frame.have1 x; unfold x; clear x; rotate_left; intro hx; clear_value x; rotate_right)
        | (apply Frame.have2 x; unfold x; clear x; rotate_left; intro hq; clear_value x; rotate_right)
        | (apply Frame.have3 x; unfold x; clear x; rotate_left; intro hq; clear_value x; rotate_right)
        | (apply Frame.have4 x; unfold x; clear x; rotate_left; intro hq; clear_value x; rotate_right)
        | clear_value x)
      | apply hq | apply Frame.ite | apply Frame.when | apply Frame.each | apply Frame.foldl | apply Frame.foldlFst
      | apply frame_raise | apply frame_showPendLimit | apply frame_wr | apply frame_wrB | apply frame_wrPair
      | exact hc.trans (by decide) | split

theorem frame_judgeJob {M : Nat} {base : State} {s : State} (front : Nat) (j : Job) (hc : Within 0x100001000013 M)
    (hk : Frame M base s) : Frame M base (State.judgeJob s front j) := by
  unfold State.judgeJob
  with_reducible repeat' first
      | assumption | apply Frame.refl | intro _
      | (extract_lets +onlyGivenNames x; first
        | (apply Frame.have x; unfold x; clear x; rotate_left; intro hx; clear_value x; rotate_right)
        | clear_value x)
      | apply Frame.ite | apply Frame.when | apply frame_inc | apply frame_onJob | apply frame_raise
      | exact hc.trans (by decide) | split

theorem frame_refAdvance {M : Nat} {base : State} {s : State} (y : Nat) (hc : Within 0x180001000013 M)
    (hk : Frame M base s) : Frame M base (State.refAdvance s y) := by
  unfold State.refAdvance
  with_reducible repeat' first
      | assumption | apply Frame.refl | intro _
      | (extract_lets +onlyGivenNames x; first
        | (apply Frame.have x; unfold x; clear x; rotate_left; intro hx; clear_value x; rotate_right)
        | clear_value x)
      | apply Frame.ite | apply Frame.each | apply frame_judgeJob | apply frame_refPublish
      | exact hc.trans (by decide) | exact hc.bit (by decide) | split | apply Frame.set_ref

theorem frame_refRequest {M : Nat} {base : State} {s : State} (f : Row → Nat) (y : Nat)
    (hc : Within 0x180001000013 M) (hk : Frame M base s) : Frame M base (State.refRequest s f y) := by
  unfold State.refRequest
  with_reducible repeat' first
      | assumption | apply Frame.refl | intro _
      | (extract_lets +onlyGivenNames x; first
        | (apply Frame.have x; unfold x; clear x; rotate_left; intro hx; clear_value x; rotate_right)
        | clear_value x)
      | apply Frame.ite | apply frame_refPublish | exact hc.trans (by decide) | exact hc.bit (by decide) | split
      | apply Frame.set_ref

theorem frame_refForget {M : Nat} {base : State} {s : State} (hc : Within 0x180001000013 M) (hk : Frame M base s) :
    Frame M base (State.refForget s) := by
  unfold State.refForget
  with_reducible repeat' first
      | assumption | apply Frame.refl
      | apply Frame.ite | apply frame_refPublish | exact hc.trans (by decide) | exact hc.bit (by decide) | split
      | apply Frame.set_ref

theorem frame_newJob {M : Nat} {base : State} {s : State} (start : Nat) (hc : Within 0x1000000 M)
    (hk : Frame M base s) : Frame M base (State.newJob s start) := by
  unfold State.newJob
  with_reducible repeat' first
      | assumption
      | (extract_lets +onlyGivenNames x; first
        | (apply Frame.have x; unfold x; clear x; rotate_left; intro hx; clear_value x; rotate_right)
        | clear_value x)
      | exact hc.trans (by decide) | exact hc.bit (by decide) | apply Frame.set_ref

theorem frame_refEffect {M : Nat} {base : State} {s : State} (old : State) (y : Nat)
    (hc : Within 0x180001000013 M) (hk : Frame M base s) : Frame M base (State.refEffect s old y) := by
  unfold State.refEffect
  with_reducible repeat' first
      | assumption | apply Frame.refl | intro _
      | (extract_lets +onlyGivenNames x; first
        | (apply Frame.have x; unfold x; clear x; rotate_left; intro hx; clear_value x; rotate_right)
        | clear_value x)
      | apply Frame.ite | apply frame_newJob | apply frame_raise | apply frame_refPublish | exact hc.trans (by decide)
      | exact hc.bit (by decide) | split | apply Frame.set_ref

theorem frame_refRunStart {M : Nat} {base : State} {s : State} (hc : Within 0x180001000013 M) (hk : Frame M base s) :
    Frame M base (State.refRunStart s) := by
  unfold State.refRunStart
  with_reducible repeat' first
      | assumption | apply Frame.refl | intro _
      | (extract_lets +onlyGivenNames x; first
        | (apply Frame.have x; unfold x; clear x; rotate_left; intro hx; clear_value x; rotate_right)
        | clear_value x)
      | apply Frame.each | apply frame_judgeJob | apply frame_refPublish | apply frame_wr | exact hc.trans (by decide)
      | exact hc.bit (by decide) | apply Frame.set_ref

theorem frame_refEmpty {M : Nat} {base : State} {s : State} (hc : Within 0x180001000013 M) (hk : Frame M base s) :
    Frame M base (State.refEmpty s) := by
  unfold State.refEmpty
  with_reducible repeat' first
      | assumption | apply Frame.refl | intro _
      | (extract_lets +onlyGivenNames x; first
        | (apply Frame.have x; unfold x; clear x; rotate_left; intro hx; clear_value x; rotate_right)
        | clear_value x)
      | apply frame_refPublish | exact hc.trans (by decide) | exact hc.bit (by decide) | split | apply Frame.set_ref

theorem frame_beginHead {M : Nat} {base : State} {s : State} (q : Nat) (w : List Nat)
    (hc : Within 0x100010000010 M) (hk : Frame M base s) : Frame M base (State.beginHead s q w) := by
  unfold State.beginHead
  with_reducible repeat' first
      | assumption | apply Frame.refl | intro _
      | (extract_lets +onlyGivenNames x; first
        | (apply Frame.have x; unfold x; clear x; rotate_left; intro hx; clear_value x; rotate_right)
        | clear_value x)
      | apply Frame.ite | apply frame_onQueue | apply frame_unpublished | exact hc.trans (by decide) | split

theorem frame_finishHead {M : Nat} {base : State} {s : State} (q : Nat) (w : List Nat) (status : Nat) (d0 : Nat)
    (d1 : Nat) (hc : Within 0x10003c000013 M) (hk : Frame M base s) :
    Frame M base (State.finishHead s q w status d0 d1) := by
  unfold State.finishHead
  with_reducible repeat' first
      | assumption | apply Frame.refl
      | apply frame_beginHead | apply frame_completeBegun | exact hc.trans (by decide) | split

theorem frame_submitXfer {M : Nat} {base : State} {s : State} (c : Nat) (x : Xfer) (hc : Within 0x10003c000013 M)
    (hk : Frame M base s) : Frame M base (State.submitXfer s c x) := by
  unfold State.submitXfer
  with_reducible repeat' first
      | assumption | apply Frame.refl
      | (extract_lets +onlyGivenNames x; first
        | (apply Frame.have x; unfold x; clear x; rotate_left; intro hx; clear_value x; rotate_right)
        | clear_value x)
      | apply Frame.ite | apply frame_beginNext | apply frame_completeBegun | apply frame_putChannel
      | apply frame_waitingCount | exact hc.trans (by decide) | split

theorem frame_refMalformed {M : Nat} {base : State} {s : State} (hc : Within 0x100000000013 M) (hk : Frame M base s) :
    Frame M base (State.refMalformed s) := by
  unfold State.refMalformed
  with_reducible repeat' first
      | assumption
      | apply frame_inc | apply frame_raise | exact hc.trans (by decide)

theorem frame_refTake {M : Nat} {base : State} {s : State} (q : Nat) (x : Queue) (w : List Nat)
    (hc : Within 0x10003c000013 M) (hk : Frame M base s) : Frame M base (State.refTake s q x w) := by
  unfold State.refTake
  with_reducible repeat' first
      | assumption | apply Frame.refl | intro _
      | (extract_lets +onlyGivenNames x; first
        | (apply Frame.have x; unfold x; clear x; rotate_left; intro hx; clear_value x; rotate_right)
        | clear_value x)
      | apply Frame.ite | apply frame_beginHead | apply frame_finishHead | apply frame_onQueue | apply frame_raise
      | apply frame_refMalformed | apply frame_refWaiting | apply frame_submitXfer | exact hc.trans (by decide)
      | split

theorem frame_refLines {M : Nat} {base : State} (q : Nat) {s : State} (hc : Within 0x10003c000013 M)
    (hk : Frame M base s) : Frame M base (refLines q s) := by
  unfold refLines
  with_reducible repeat' first
      | assumption | apply Frame.refl
      | apply Frame.ite | apply frame_refTake | exact hc.trans (by decide) | split

theorem frame_refEarlyFetch {M : Nat} {base : State} (q : Nat) {s : State} (hc : Within 0x10003c000013 M)
    (hk : Frame M base s) : Frame M base (refEarlyFetch q s) := by
  unfold refEarlyFetch
  with_reducible repeat' first
      | assumption | apply Frame.refl
      | apply Frame.ite | apply frame_refTake | exact hc.trans (by decide) | split

theorem frame_arrive {M : Nat} {base : State} {s : State} (c : Nat) (x : Xfer) (hc : Within 0x18003d000013 M)
    (hk : Frame M base s) : Frame M base (State.arrive s c x) := by
  unfold State.arrive
  with_reducible repeat' first
      | assumption | apply Frame.refl | intro _
      | (extract_lets +onlyGivenNames x; first
        | (apply Frame.have x; unfold x; clear x; rotate_left; intro hx; clear_value x; rotate_right)
        | clear_value x)
      | apply Frame.ite | apply Frame.when | apply Frame.foldl | apply frame_finishXfer | apply frame_inc
      | apply frame_onJob | apply frame_raise | apply frame_refPublish | apply frame_take | exact hc.trans (by decide)
      | split

theorem frame_refArrival {M : Nat} {base : State} (c : Nat) {s : State} (hc : Within 0x18003d000013 M)
    (hk : Frame M base s) : Frame M base (refArrival c s) := by
  unfold refArrival
  with_reducible repeat' first
      | assumption | apply Frame.refl
      | (extract_lets +onlyGivenNames x; first
        | (apply Frame.have x; unfold x; clear x; rotate_left; intro hx; clear_value x; rotate_right)
        | clear_value x)
      | apply Frame.ite | apply frame_arrive | apply frame_finishXfer | apply frame_refMalformed
      | exact hc.trans (by decide) | split

theorem frame_refPairRead {M : Nat} {base : State} (agent : Nat) (i : Nat) (sub : Nat) (width : Nat) {s : State}
    (hc : Within 0x100000000018 M) (hk : Frame M base s) : Frame M base (refPairRead agent i sub width s) := by
  unfold refPairRead
  with_reducible repeat' first
      | assumption
      | (extract_lets +onlyGivenNames x; first
        | (apply Frame.have x; unfold x; clear x; rotate_left; intro hx; clear_value x; rotate_right)
        | clear_value x)
      | apply frame_readPair | exact hc.trans (by decide)

theorem frame_refLineLost {M : Nat} {base : State} {s : State} (v : Nat) (hc : Within 0x180001000013 M)
    (hk : Frame M base s) : Frame M base (State.refLineLost s v) := by
  unfold State.refLineLost
  with_reducible repeat' first
      | assumption | apply Frame.refl | intro _
      | apply frame_onJob | apply frame_refPublish | exact hc.trans (by decide) | split

/-! ## Registration -/

theorem frame_countDecision {M : Nat} {base : State} {s : State} (d : Decision) (hc : Within 0x3 M)
    (hk : Frame M base s) : Frame M base (State.countDecision s d) := by
  unfold State.countDecision
  with_reducible repeat' first
      | assumption | apply Frame.refl | intro _
      | (extract_lets +onlyGivenNames x; first
        | (apply Frame.have x; unfold x; clear x; rotate_left; intro hx; clear_value x; rotate_right)
        | (apply Frame.have1 x; unfold x; clear x; rotate_left; intro hx; clear_value x; rotate_right)
        | (apply Frame.have2 x; unfold x; clear x; rotate_left; intro hq; clear_value x; rotate_right)
        | (apply Frame.have3 x; unfold x; clear x; rotate_left; intro hq; clear_value x; rotate_right)
        | (apply Frame.have4 x; unfold x; clear x; rotate_left; intro hq; clear_value x; rotate_right)
        | clear_value x)
      | apply hq | apply Frame.ite | apply Frame.when | apply Frame.each | apply Frame.foldl | apply Frame.foldlFst
      | apply frame_inc | exact hc.trans (by decide) | split

theorem frame_regTileDecide {M : Nat} {base : State} (c : Nat) {s : State} (hc : Within 0x2000003 M)
    (hk : Frame M base s) : Frame M base (regTileDecide c s) := by
  unfold regTileDecide
  with_reducible repeat' first
      | assumption | apply Frame.refl | intro _
      | (extract_lets +onlyGivenNames x; first
        | (apply Frame.have x; unfold x; clear x; rotate_left; intro hx; clear_value x; rotate_right)
        | clear_value x)
      | apply Frame.ite | apply frame_atLine | apply frame_countDecision | exact hc.trans (by decide)
      | exact hc.bit (by decide) | split | apply Frame.set_reg

theorem frame_takeTile {M : Nat} {base : State} {s : State} (hc : Within 0x100000000013 M) (hk : Frame M base s) :
    Frame M base (State.takeTile s) := by
  unfold State.takeTile
  with_reducible repeat' first
      | assumption | apply Frame.refl
      | (extract_lets +onlyGivenNames x; first
        | (apply Frame.have x; unfold x; clear x; rotate_left; intro hx; clear_value x; rotate_right)
        | clear_value x)
      | apply Frame.ite | apply frame_raise | apply frame_wr | exact hc.trans (by decide) | split

theorem frame_acquire {M : Nat} {base : State} {s : State} (line : Nat) (hc : Within 0x100002000013 M)
    (hk : Frame M base s) : Frame M base (State.acquire s line) := by
  unfold State.acquire
  with_reducible repeat' first
      | assumption | apply Frame.refl | intro _
      | (extract_lets +onlyGivenNames x; first
        | (apply Frame.have x; unfold x; clear x; rotate_left; intro hx; clear_value x; rotate_right)
        | clear_value x)
      | apply Frame.ite | apply Frame.foldl | apply frame_inc | apply frame_takeTile | apply frame_wr
      | apply frame_wrPair | exact hc.trans (by decide) | exact hc.bit (by decide) | split | apply Frame.set_reg

theorem frame_regIdle {M : Nat} {base : State} {s : State} (y : Nat) (hc : Within 0x2000003 M) (hk : Frame M base s) :
    Frame M base (State.regIdle s y) := by
  unfold State.regIdle
  with_reducible repeat' first
      | assumption
      | (extract_lets +onlyGivenNames x; first
        | (apply Frame.have x; unfold x; clear x; rotate_left; intro hx; clear_value x; rotate_right)
        | clear_value x)
      | apply frame_wr | exact hc.trans (by decide) | exact hc.bit (by decide) | apply Frame.set_reg

theorem frame_regRunStart {M : Nat} {base : State} {s : State} (hc : Within 0x100002000013 M) (hk : Frame M base s) :
    Frame M base (State.regRunStart s) := by
  unfold State.regRunStart
  with_reducible repeat' first
      | assumption | apply Frame.refl | intro _
      | (extract_lets +onlyGivenNames x; first
        | (apply Frame.have x; unfold x; clear x; rotate_left; intro hx; clear_value x; rotate_right)
        | clear_value x)
      | apply Frame.ite | apply Frame.foldl | apply frame_acquire | apply frame_wr | exact hc.trans (by decide)
      | exact hc.bit (by decide) | split | apply Frame.set_reg

theorem frame_regRunStop {M : Nat} {base : State} {s : State} (hc : Within 0x2000003 M) (hk : Frame M base s) :
    Frame M base (State.regRunStop s) := by
  unfold State.regRunStop
  with_reducible repeat' first
      | assumption
      | apply frame_wr | exact hc.trans (by decide) | exact hc.bit (by decide) | apply Frame.set_reg

theorem frame_regEffect {M : Nat} {base : State} {s : State} (old : State) (y : Nat)
    (hc : Within 0x100002000013 M) (hk : Frame M base s) : Frame M base (State.regEffect s old y) := by
  unfold State.regEffect
  with_reducible repeat' first
      | assumption | apply Frame.refl
      | apply Frame.ite | apply frame_acquire | apply frame_regIdle | exact hc.trans (by decide) | split

theorem frame_regReacq {M : Nat} {base : State} (v : Nat) {s : State} (hc : Within 0x100002000013 M)
    (hk : Frame M base s) : Frame M base (regReacq v s) := by
  unfold regReacq
  with_reducible repeat' first
      | assumption | apply Frame.refl
      | apply Frame.ite | apply frame_acquire | exact hc.trans (by decide) | split

theorem frame_showField {M : Nat} {base : State} {s : State} (x : TileRow) (hc : Within 0x3 M) (hk : Frame M base s) :
    Frame M base (State.showField s x) := by
  unfold State.showField
  with_reducible repeat' first
      | assumption | apply Frame.refl | intro _
      | (extract_lets +onlyGivenNames x; first
        | (apply Frame.have x; unfold x; clear x; rotate_left; intro hx; clear_value x; rotate_right)
        | clear_value x)
      | apply Frame.ite | apply Frame.each | apply frame_wr | exact hc.trans (by decide) | split

theorem frame_rowState {M : Nat} {base : State} {s : State} (j : Job) (x : TileRow) (hc : Within 0x100002000013 M)
    (hk : Frame M base s) : Frame M base (State.rowState s j x) := by
  unfold State.rowState
  with_reducible repeat' first
      | assumption | apply Frame.refl
      | (extract_lets +onlyGivenNames x; first
        | (apply Frame.have x; unfold x; clear x; rotate_left; intro hx; clear_value x; rotate_right)
        | clear_value x)
      | apply Frame.ite | apply frame_acquire | apply frame_atLine | apply frame_raise | apply frame_track
      | apply frame_wr | apply frame_wrPair | exact hc.trans (by decide) | exact hc.bit (by decide) | split
      | apply Frame.set_reg

theorem frame_rowDone {M : Nat} {base : State} {s : State} (hc : Within 0x10001e000013 M) (hk : Frame M base s) :
    Frame M base (rowDone s) := by
  unfold rowDone
  with_reducible repeat' first
      | assumption | apply Frame.refl | intro _
      | (extract_lets +onlyGivenNames x; first
        | (apply Frame.have x; unfold x; clear x; rotate_left; intro hx; clear_value x; rotate_right)
        | clear_value x)
      | apply Frame.ite | apply Frame.when | apply Frame.foldl | apply frame_atLine | apply frame_raise
      | apply frame_rowState | apply frame_showField | apply frame_stage | apply frame_track | apply frame_wr
      | exact hc.trans (by decide) | exact hc.bit (by decide) | split | apply Frame.set_reg

theorem frame_regPairRead {M : Nat} {base : State} (agent : Nat) (track : Bool) (sub : Nat) (width : Nat)
    {s : State} (hc : Within 0x100000000018 M) (hk : Frame M base s) :
    Frame M base (regPairRead agent track sub width s) := by
  unfold regPairRead
  with_reducible repeat' first
      | assumption | apply Frame.refl
      | (extract_lets +onlyGivenNames x; first
        | (apply Frame.have x; unfold x; clear x; rotate_left; intro hx; clear_value x; rotate_right)
        | clear_value x)
      | apply Frame.ite | apply frame_readPair | apply frame_track | exact hc.trans (by decide) | split

/-! ## LaneOut -/

theorem frame_laneEvents {M : Nat} {base : State} {s : State} (k : Nat) (l : OutLine) (clamped : Bool)
    (hc : Within 0x100000000013 M) (hk : Frame M base s) : Frame M base (State.laneEvents s k l clamped) := by
  unfold State.laneEvents
  with_reducible repeat' first
      | assumption | apply Frame.refl | intro _
      | (extract_lets +onlyGivenNames x; first
        | (apply Frame.have x; unfold x; clear x; rotate_left; intro hx; clear_value x; rotate_right)
        | (apply Frame.have1 x; unfold x; clear x; rotate_left; intro hx; clear_value x; rotate_right)
        | (apply Frame.have2 x; unfold x; clear x; rotate_left; intro hq; clear_value x; rotate_right)
        | (apply Frame.have3 x; unfold x; clear x; rotate_left; intro hq; clear_value x; rotate_right)
        | (apply Frame.have4 x; unfold x; clear x; rotate_left; intro hq; clear_value x; rotate_right)
        | clear_value x)
      | apply hq | apply Frame.ite | apply Frame.when | apply Frame.each | apply Frame.foldl | apply Frame.foldlFst
      | apply frame_inc | apply frame_raise | exact hc.trans (by decide) | split

theorem frame_boundarySend {M : Nat} {base : State} {s : State} (k : Nat) (y : Nat) (hc : Within 0x100000000002 M)
    (hk : Frame M base s) : Frame M base (State.boundarySend s k y) := by
  unfold State.boundarySend
  with_reducible repeat' first
      | assumption | apply Frame.refl | intro _
      | (extract_lets +onlyGivenNames x; first
        | (apply Frame.have x; unfold x; clear x; rotate_left; intro hx; clear_value x; rotate_right)
        | (apply Frame.have1 x; unfold x; clear x; rotate_left; intro hx; clear_value x; rotate_right)
        | (apply Frame.have2 x; unfold x; clear x; rotate_left; intro hq; clear_value x; rotate_right)
        | (apply Frame.have3 x; unfold x; clear x; rotate_left; intro hq; clear_value x; rotate_right)
        | (apply Frame.have4 x; unfold x; clear x; rotate_left; intro hq; clear_value x; rotate_right)
        | clear_value x)
      | apply hq | apply Frame.ite | apply Frame.when | apply Frame.each | apply Frame.foldl | apply Frame.foldlFst
      | apply frame_atLine | apply frame_emit | exact hc.trans (by decide) | split

theorem frame_emitLine {M : Nat} {base : State} {s : State} (k : Nat) (hc : Within 0x180001480013 M)
    (hk : Frame M base s) : Frame M base (State.emitLine s k) := by
  unfold State.emitLine
  with_reducible repeat' first
      | assumption | apply Frame.refl | intro _
      | (extract_lets +onlyGivenNames x; first
        | (apply Frame.have x; unfold x; clear x; rotate_left; intro hx; clear_value x; rotate_right)
        | clear_value x)
      | apply Frame.ite | apply frame_boundarySend | apply frame_laneEvents | apply frame_putLane
      | apply frame_refAdvance | apply frame_showGains | exact hc.trans (by decide) | exact hc.bit (by decide) | split
      | apply Frame.set_outLines

theorem frame_laneOutputLine {M : Nat} {base : State} (k : Nat) {s : State} (hc : Within 0x180001480013 M)
    (hk : Frame M base s) : Frame M base (laneOutputLine k s) := by
  unfold laneOutputLine
  with_reducible repeat' first
      | assumption | apply Frame.refl
      | apply Frame.ite | apply frame_emitLine | exact hc.trans (by decide) | split

theorem frame_jointWaitExpiry {M : Nat} {base : State} {s : State} (hc : Within 0x180001480013 M)
    (hk : Frame M base s) : Frame M base (jointWaitExpiry s) := by
  unfold jointWaitExpiry
  with_reducible repeat' first
      | assumption | apply Frame.refl
      | apply Frame.ite | apply frame_emitLine | exact hc.trans (by decide) | split

theorem frame_pwWindowEnd {M : Nat} {base : State} {s : State} (hc : Within 0x100000200013 M) (hk : Frame M base s) :
    Frame M base (pwWindowEnd s) := by
  unfold pwWindowEnd
  with_reducible repeat' first
      | assumption | apply Frame.refl | intro _
      | (extract_lets +onlyGivenNames x; first
        | (apply Frame.have x; unfold x; clear x; rotate_left; intro hx; clear_value x; rotate_right)
        | clear_value x)
      | apply Frame.ite | apply Frame.when | apply Frame.foldl | apply frame_inc | apply frame_raise
      | exact hc.trans (by decide) | exact hc.bit (by decide) | split | apply Frame.set_pw

/-! ## Compare -/

theorem frame_putItem {M : Nat} {base : State} {s : State} (n : Nat) (i : Item) (hc : Within 0x4000000 M)
    (hk : Frame M base s) : Frame M base (State.putItem s n i) := by
  unfold State.putItem
  with_reducible repeat' first
      | assumption
      | exact hc.trans (by decide) | exact hc.bit (by decide) | apply Frame.set_comp

theorem frame_gridChange {M : Nat} {base : State} {s : State} (y : Nat) (hc : Within 0x100004000010 M)
    (hk : Frame M base s) : Frame M base (State.gridChange s y) := by
  unfold State.gridChange
  with_reducible repeat' first
      | assumption | apply Frame.refl | intro _
      | (extract_lets +onlyGivenNames x; first
        | (apply Frame.have x; unfold x; clear x; rotate_left; intro hx; clear_value x; rotate_right)
        | clear_value x)
      | apply Frame.ite | apply Frame.when | apply frame_raise | exact hc.trans (by decide) | exact hc.bit (by decide)
      | split | apply Frame.set_comp

theorem frame_openItem {M : Nat} {base : State} {s : State} (cfg : State) (g : Grid) (y : Nat) (n : Nat) (r : Nat)
    (c : Nat) (hc : Within 0x100004000010 M) (hk : Frame M base s) :
    Frame M base (State.openItem s cfg g y n r c) := by
  unfold State.openItem
  with_reducible repeat' first
      | assumption | apply Frame.refl | intro _
      | (extract_lets +onlyGivenNames x; first
        | (apply Frame.have x; unfold x; clear x; rotate_left; intro hx; clear_value x; rotate_right)
        | clear_value x)
      | apply Frame.ite | apply Frame.when | apply Frame.foldl | apply frame_raise | exact hc.trans (by decide)
      | exact hc.bit (by decide) | split | apply Frame.set_comp

theorem frame_openItems {M : Nat} {base : State} {s : State} (y : Nat) (hc : Within 0x100004000012 M)
    (hk : Frame M base s) : Frame M base (State.openItems s y) := by
  unfold State.openItems
  with_reducible repeat' first
      | assumption | apply Frame.refl | intro _
      | (extract_lets +onlyGivenNames x; first
        | (apply Frame.have x; unfold x; clear x; rotate_left; intro hx; clear_value x; rotate_right)
        | clear_value x)
      | apply Frame.ite | apply Frame.each | apply frame_atLine | apply frame_gridChange | apply frame_openItem
      | exact hc.trans (by decide) | split

theorem frame_tellCrops {M : Nat} {base : State} {s : State} (b : Blob) (v : List Nat) (hc : Within 0x8000000 M)
    (hk : Frame M base s) : Frame M base (State.tellCrops s b v) := by
  unfold State.tellCrops
  with_reducible repeat' first
      | assumption | apply Frame.refl | intro _
      | (extract_lets +onlyGivenNames x; first
        | (apply Frame.have x; unfold x; clear x; rotate_left; intro hx; clear_value x; rotate_right)
        | clear_value x)
      | apply Frame.ite | exact hc.trans (by decide) | exact hc.bit (by decide) | split | apply Frame.set_mp

theorem frame_tellCropsOf {M : Nat} {base : State} {s : State} (b : Blob) (r : Remote)
    (hc : Within 0x80008000000 M) (hk : Frame M base s) : Frame M base (State.tellCropsOf s b r) := by
  unfold State.tellCropsOf
  with_reducible repeat' first
      | assumption | apply Frame.refl | intro _
      | (extract_lets +onlyGivenNames x; first
        | (apply Frame.have x; unfold x; clear x; rotate_left; intro hx; clear_value x; rotate_right)
        | (apply Frame.have1 x; unfold x; clear x; rotate_left; intro hx; clear_value x; rotate_right)
        | (apply Frame.have2 x; unfold x; clear x; rotate_left; intro hq; clear_value x; rotate_right)
        | (apply Frame.have3 x; unfold x; clear x; rotate_left; intro hq; clear_value x; rotate_right)
        | (apply Frame.have4 x; unfold x; clear x; rotate_left; intro hq; clear_value x; rotate_right)
        | clear_value x)
      | apply hq | apply Frame.ite | apply Frame.when | apply Frame.each | apply Frame.foldl | apply Frame.foldlFst
      | apply frame_take | apply frame_tellCrops | exact hc.trans (by decide) | split

theorem frame_closeBlob {M : Nat} {base : State} {s : State} (split : Bool) (cut : Bool) (b : Blob)
    (hc : Within 0x18000c000003 M) (hk : Frame M base s) : Frame M base (State.closeBlob s split cut b) := by
  unfold State.closeBlob
  with_reducible repeat' first
      | assumption | apply Frame.refl | intro _
      | (extract_lets +onlyGivenNames x; first
        | (apply Frame.have x; unfold x; clear x; rotate_left; intro hx; clear_value x; rotate_right)
        | clear_value x)
      | apply Frame.ite | apply Frame.each | apply frame_atLine | apply frame_emit | apply frame_inc
      | apply frame_putItem | apply frame_tellCrops | apply frame_tellCropsOf | exact hc.trans (by decide)
      | exact hc.bit (by decide) | split | apply Frame.set_comp

theorem frame_showBlobs {M : Nat} {base : State} {s : State} (hc : Within 0x3 M) (hk : Frame M base s) :
    Frame M base (State.showBlobs s) := by
  unfold State.showBlobs
  with_reducible repeat' first
      | assumption | intro _
      | apply frame_wr | exact hc.trans (by decide)

theorem frame_closeBlobs {M : Nat} {base : State} {s : State} (split : Bool) (cut : Bool) (p : Blob → Bool)
    (hc : Within 0x18000c000003 M) (hk : Frame M base s) : Frame M base (State.closeBlobs s split cut p) := by
  unfold State.closeBlobs
  with_reducible repeat' first
      | assumption | apply Frame.refl | intro _
      | (extract_lets +onlyGivenNames x; first
        | (apply Frame.have x; unfold x; clear x; rotate_left; intro hx; clear_value x; rotate_right)
        | clear_value x)
      | apply Frame.each | apply frame_closeBlob | apply frame_showBlobs | exact hc.trans (by decide)
      | exact hc.bit (by decide) | apply Frame.set_comp

theorem frame_splitBlobs {M : Nat} {base : State} {s : State} (y : Nat) (hc : Within 0x18000c000013 M)
    (hk : Frame M base s) : Frame M base (State.splitBlobs s y) := by
  unfold State.splitBlobs
  with_reducible repeat' first
      | assumption | apply Frame.refl | intro _
      | (extract_lets +onlyGivenNames x; first
        | (apply Frame.have x; unfold x; clear x; rotate_left; intro hx; clear_value x; rotate_right)
        | (apply Frame.have1 x; unfold x; clear x; rotate_left; intro hx; clear_value x; rotate_right)
        | (apply Frame.have2 x; unfold x; clear x; rotate_left; intro hq; clear_value x; rotate_right)
        | (apply Frame.have3 x; unfold x; clear x; rotate_left; intro hq; clear_value x; rotate_right)
        | (apply Frame.have4 x; unfold x; clear x; rotate_left; intro hq; clear_value x; rotate_right)
        | clear_value x)
      | apply hq | apply Frame.ite | apply Frame.when | apply Frame.each | apply Frame.foldl | apply Frame.foldlFst
      | apply frame_atLine | apply frame_closeBlobs | apply frame_raise | exact hc.trans (by decide)
      | exact hc.bit (by decide) | split | apply Frame.set_comp

theorem frame_dropCrops {M : Nat} {base : State} {s : State} (ns : List Nat) (hc : Within 0x8000000 M)
    (hk : Frame M base s) : Frame M base (State.dropCrops s ns) := by
  unfold State.dropCrops
  with_reducible repeat' first
      | assumption | intro _
      | (extract_lets +onlyGivenNames x; first
        | (apply Frame.have x; unfold x; clear x; rotate_left; intro hx; clear_value x; rotate_right)
        | clear_value x)
      | exact hc.trans (by decide) | exact hc.bit (by decide) | apply Frame.set_mp

theorem frame_joinRemote {M : Nat} {base : State} {s : State} (side : Nat) (y' : Nat) (r : FragRun)
    (hc : Within 0xc000000 M) (hk : Frame M base s) : Frame M base (State.joinRemote s side y' r) := by
  unfold State.joinRemote
  with_reducible repeat' first
      | assumption | apply Frame.refl | intro _
      | (extract_lets +onlyGivenNames x; first
        | (apply Frame.have x; unfold x; clear x; rotate_left; intro hx; clear_value x; rotate_right)
        | clear_value x)
      | apply Frame.ite | apply Frame.foldl | apply frame_dropCrops | exact hc.trans (by decide)
      | exact hc.bit (by decide) | split | apply Frame.set_comp

theorem frame_joinRemotes {M : Nat} {base : State} {s : State} (y : Nat) (hc : Within 0xc000000 M)
    (hk : Frame M base s) : Frame M base (State.joinRemotes s y) := by
  unfold State.joinRemotes
  with_reducible repeat' first
      | assumption | apply Frame.refl | intro _
      | apply Frame.each | apply frame_joinRemote | exact hc.trans (by decide)

theorem frame_sendFragments {M : Nat} {base : State} {s : State} (y : Nat) (hc : Within 0x100004000002 M)
    (hk : Frame M base s) : Frame M base (State.sendFragments s y) := by
  unfold State.sendFragments
  with_reducible repeat' first
      | assumption | apply Frame.refl | intro _
      | (extract_lets +onlyGivenNames x; first
        | (apply Frame.have x; unfold x; clear x; rotate_left; intro hx; clear_value x; rotate_right)
        | clear_value x)
      | apply Frame.ite | apply Frame.each | apply frame_atLine | apply frame_emit | exact hc.trans (by decide)
      | exact hc.bit (by decide) | split | apply Frame.set_comp

theorem frame_closeCover {M : Nat} {base : State} {s : State} (cs : List CovRecord) (hc : Within 0x4000002 M)
    (hk : Frame M base s) : Frame M base (State.closeCover s cs) := by
  unfold State.closeCover
  with_reducible repeat' first
      | assumption | intro _
      | apply frame_atLine | exact hc.trans (by decide) | exact hc.bit (by decide) | apply Frame.set_comp

theorem frame_coverLine {M : Nat} {base : State} {s : State} (y : Nat) (spans : List (Nat × Nat × Nat × Bool))
    (hc : Within 0x4000002 M) (hk : Frame M base s) : Frame M base (State.coverLine s y spans) := by
  unfold State.coverLine
  with_reducible repeat' first
      | assumption | apply Frame.refl | intro _
      | (extract_lets +onlyGivenNames x; first
        | (apply Frame.have x; unfold x; clear x; rotate_left; intro hx; clear_value x; rotate_right)
        | clear_value x)
      | apply Frame.ite | apply frame_atLine | apply frame_closeCover | exact hc.trans (by decide)
      | exact hc.bit (by decide) | split | apply Frame.set_comp

theorem frame_openCrop {M : Nat} {base : State} {s : State} (y : Nat) (b : Blob) (hc : Within 0x100008000013 M)
    (hk : Frame M base s) : Frame M base ((State.openCrop s y b).1) := by
  unfold State.openCrop
  with_reducible repeat' first
      | assumption | apply Frame.refl | intro _
      | (extract_lets +onlyGivenNames x; first
        | (apply Frame.have x; unfold x; clear x; rotate_left; intro hx; clear_value x; rotate_right)
        | clear_value x)
      | apply Frame.ite | apply frame_atLine | apply frame_inc | apply frame_incSat | apply frame_raise
      | exact hc.trans (by decide) | exact hc.bit (by decide) | split | apply Frame.set_mp

theorem frame_openCrops {M : Nat} {base : State} {s : State} (y : Nat) (hc : Within 0x10000c000013 M)
    (hk : Frame M base s) : Frame M base (State.openCrops s y) := by
  unfold State.openCrops
  with_reducible repeat' first
      | assumption | apply Frame.refl | intro _
      | (extract_lets +onlyGivenNames x; first
        | (apply Frame.have x; unfold x; clear x; rotate_left; intro hx; clear_value x; rotate_right)
        | (apply Frame.have1 x; unfold x; clear x; rotate_left; intro hx; clear_value x; rotate_right)
        | (apply Frame.have2 x; unfold x; clear x; rotate_left; intro hq; clear_value x; rotate_right)
        | (apply Frame.have3 x; unfold x; clear x; rotate_left; intro hq; clear_value x; rotate_right)
        | (apply Frame.have4 x; unfold x; clear x; rotate_left; intro hq; clear_value x; rotate_right)
        | clear_value x)
      | apply hq | apply Frame.ite | apply Frame.when | apply Frame.each | apply Frame.foldl | apply Frame.foldlFst
      | apply frame_openCrop | exact hc.trans (by decide) | exact hc.bit (by decide) | split | apply Frame.set_comp

theorem frame_labelRuns {M : Nat} {base : State} {s : State} (y : Nat) (hc : Within 0x4000002 M)
    (hk : Frame M base s) : Frame M base ((State.labelRuns s y).1) := by
  unfold State.labelRuns
  with_reducible repeat' first
      | assumption | intro _
      | (extract_lets +onlyGivenNames x; first
        | (apply Frame.have x; unfold x; clear x; rotate_left; intro hx; clear_value x; rotate_right)
        | clear_value x)
      | apply Frame.foldl | apply frame_atLine | exact hc.trans (by decide) | exact hc.bit (by decide)
      | apply Frame.set_comp

theorem frame_countLine {M : Nat} {base : State} {s : State} (y : Nat) (excess : List (Nat × Nat))
    (hc : Within 0x4000002 M) (hk : Frame M base s) : Frame M base (State.countLine s y excess) := by
  unfold State.countLine
  with_reducible repeat' first
      | assumption | intro _
      | (extract_lets +onlyGivenNames x; first
        | (apply Frame.have x; unfold x; clear x; rotate_left; intro hx; clear_value x; rotate_right)
        | clear_value x)
      | apply frame_coverLine | exact hc.trans (by decide) | exact hc.bit (by decide) | apply Frame.set_comp

theorem frame_countLost {M : Nat} {base : State} {s : State} (y : Nat) (hc : Within 0x4000002 M)
    (hk : Frame M base s) : Frame M base (State.countLost s y) := by
  unfold State.countLost
  with_reducible repeat' first
      | assumption | intro _
      | (extract_lets +onlyGivenNames x; first
        | (apply Frame.have x; unfold x; clear x; rotate_left; intro hx; clear_value x; rotate_right)
        | clear_value x)
      | apply frame_atLine | apply frame_coverLine | exact hc.trans (by decide) | exact hc.bit (by decide)
      | apply Frame.set_comp

theorem frame_dropSilentItems {M : Nat} {base : State} {s : State} (hc : Within 0x4000000 M) (hk : Frame M base s) :
    Frame M base (State.dropSilentItems s) := by
  unfold State.dropSilentItems
  with_reducible repeat' first
      | assumption | intro _
      | exact hc.trans (by decide) | exact hc.bit (by decide) | apply Frame.set_comp

theorem frame_labelLineDone {M : Nat} {base : State} {s : State} (hc : Within 0x18000c000013 M)
    (hk : Frame M base s) : Frame M base (labelLineDone s) := by
  unfold labelLineDone
  with_reducible repeat' first
      | assumption | apply Frame.refl | intro _
      | (extract_lets +onlyGivenNames x; first
        | (apply Frame.have x; unfold x; clear x; rotate_left; intro hx; clear_value x; rotate_right)
        | (apply Frame.have1 x; unfold x; clear x; rotate_left; intro hx; clear_value x; rotate_right)
        | (apply Frame.have2 x; unfold x; clear x; rotate_left; intro hq; clear_value x; rotate_right)
        | (apply Frame.have3 x; unfold x; clear x; rotate_left; intro hq; clear_value x; rotate_right)
        | (apply Frame.have4 x; unfold x; clear x; rotate_left; intro hq; clear_value x; rotate_right)
        | clear_value x)
      | apply hq | apply Frame.ite | apply Frame.when | apply Frame.each | apply Frame.foldl | apply Frame.foldlFst
      | apply frame_closeBlobs | apply frame_countLine | apply frame_dropSilentItems | apply frame_inc
      | apply frame_joinRemotes | apply frame_labelRuns | apply frame_openCrops | apply frame_openItems
      | apply frame_raise | apply frame_sendFragments | apply frame_showBlobs | apply frame_splitBlobs
      | exact hc.trans (by decide) | exact hc.bit (by decide) | split | apply Frame.set_comp

theorem frame_stagedOk {M : Nat} {base : State} {s : State} (r : Staged) (hc : Within 0x10001c000013 M)
    (hk : Frame M base s) : Frame M base ((State.stagedOk s r).1) := by
  unfold State.stagedOk
  with_reducible repeat' first
      | assumption
      | (extract_lets +onlyGivenNames x; first
        | (apply Frame.have x; unfold x; clear x; rotate_left; intro hx; clear_value x; rotate_right)
        | clear_value x)
      | apply frame_stage | exact hc.trans (by decide)

theorem frame_blobRecordStage {M : Nat} {base : State} {s : State} (hc : Within 0x10001c000013 M)
    (hk : Frame M base s) : Frame M base (blobRecordStage s) := by
  unfold blobRecordStage
  with_reducible repeat' first
      | assumption | apply Frame.refl
      | (extract_lets +onlyGivenNames x; first
        | (apply Frame.have x; unfold x; clear x; rotate_left; intro hx; clear_value x; rotate_right)
        | clear_value x)
      | apply frame_stage | exact hc.trans (by decide) | exact hc.bit (by decide) | split | apply Frame.set_comp

theorem frame_verdict {M : Nat} {base : State} {s : State} (hc : Within 0x10001c000013 M) (hk : Frame M base s) :
    Frame M base (verdict s) := by
  unfold verdict
  with_reducible repeat' first
      | assumption | apply Frame.refl | intro _
      | (extract_lets +onlyGivenNames x; first
        | (apply Frame.have x; unfold x; clear x; rotate_left; intro hx; clear_value x; rotate_right)
        | (apply Frame.have1 x; unfold x; clear x; rotate_left; intro hx; clear_value x; rotate_right)
        | (apply Frame.have2 x; unfold x; clear x; rotate_left; intro hq; clear_value x; rotate_right)
        | (apply Frame.have3 x; unfold x; clear x; rotate_left; intro hq; clear_value x; rotate_right)
        | (apply Frame.have4 x; unfold x; clear x; rotate_left; intro hq; clear_value x; rotate_right)
        | clear_value x)
      | apply hq | apply Frame.ite | apply Frame.when | apply Frame.each | apply Frame.foldl | apply Frame.foldlFst
      | apply frame_emit | apply frame_inc | apply frame_stagedOk | exact hc.trans (by decide)
      | exact hc.bit (by decide) | split | apply Frame.set_comp

theorem frame_stageCover {M : Nat} {base : State} {s : State} (c : CovRecord) (hc : Within 0x10001c000013 M)
    (hk : Frame M base s) : Frame M base (State.stageCover s c) := by
  unfold State.stageCover
  with_reducible repeat' first
      | assumption | apply Frame.refl | intro _
      | (extract_lets +onlyGivenNames x; first
        | (apply Frame.have x; unfold x; clear x; rotate_left; intro hx; clear_value x; rotate_right)
        | (apply Frame.have1 x; unfold x; clear x; rotate_left; intro hx; clear_value x; rotate_right)
        | (apply Frame.have2 x; unfold x; clear x; rotate_left; intro hq; clear_value x; rotate_right)
        | (apply Frame.have3 x; unfold x; clear x; rotate_left; intro hq; clear_value x; rotate_right)
        | (apply Frame.have4 x; unfold x; clear x; rotate_left; intro hq; clear_value x; rotate_right)
        | clear_value x)
      | apply hq | apply Frame.ite | apply Frame.when | apply Frame.each | apply Frame.foldl | apply Frame.foldlFst
      | apply frame_inc | apply frame_stagedOk | exact hc.trans (by decide) | split

theorem frame_enterBacklog {M : Nat} {base : State} {s : State} (hc : Within 0x100004000013 M) (hk : Frame M base s) :
    Frame M base (State.enterBacklog s) := by
  unfold State.enterBacklog
  with_reducible repeat' first
      | assumption | intro _
      | (extract_lets +onlyGivenNames x; first
        | (apply Frame.have x; unfold x; clear x; rotate_left; intro hx; clear_value x; rotate_right)
        | clear_value x)
      | apply Frame.foldl | apply frame_raise | apply frame_wr | exact hc.trans (by decide) | exact hc.bit (by decide)
      | apply Frame.set_comp

theorem frame_coverageRecordStage {M : Nat} {base : State} {s : State} (hc : Within 0x10001c000013 M)
    (hk : Frame M base s) : Frame M base (coverageRecordStage s) := by
  unfold coverageRecordStage
  with_reducible repeat' first
      | assumption | apply Frame.refl
      | apply Frame.ite | apply frame_enterBacklog | apply frame_stageCover | exact hc.trans (by decide)
      | exact hc.bit (by decide) | split | apply Frame.set_comp

theorem frame_covBacklogResume {M : Nat} {base : State} {s : State} (hc : Within 0x10001c000013 M)
    (hk : Frame M base s) : Frame M base (covBacklogResume s) := by
  unfold covBacklogResume
  with_reducible repeat' first
      | assumption | apply Frame.refl
      | (extract_lets +onlyGivenNames x; first
        | (apply Frame.have x; unfold x; clear x; rotate_left; intro hx; clear_value x; rotate_right)
        | clear_value x)
      | apply Frame.ite | apply frame_stageCover | apply frame_wrB | exact hc.trans (by decide)
      | exact hc.bit (by decide) | split | apply Frame.set_comp

theorem frame_compSettle {M : Nat} {base : State} {s : State} (hc : Within 0x10001c000013 M) (hk : Frame M base s) :
    Frame M base (State.compSettle s) := by
  unfold State.compSettle
  with_reducible repeat' first
      | assumption | apply Frame.refl | intro _
      | (extract_lets +onlyGivenNames x; first
        | (apply Frame.have x; unfold x; clear x; rotate_left; intro hx; clear_value x; rotate_right)
        | (apply Frame.have1 x; unfold x; clear x; rotate_left; intro hx; clear_value x; rotate_right)
        | (apply Frame.have2 x; unfold x; clear x; rotate_left; intro hq; clear_value x; rotate_right)
        | (apply Frame.have3 x; unfold x; clear x; rotate_left; intro hq; clear_value x; rotate_right)
        | (apply Frame.have4 x; unfold x; clear x; rotate_left; intro hq; clear_value x; rotate_right)
        | clear_value x)
      | apply hq | apply Frame.ite | apply Frame.when | apply Frame.each | apply Frame.foldl | apply Frame.foldlFst
      | apply frame_blobRecordStage | apply frame_coverageRecordStage | apply frame_verdict
      | exact hc.trans (by decide) | exact hc.bit (by decide) | split | apply Frame.set_comp

theorem frame_compStart {M : Nat} {base : State} {s : State} (hc : Within 0x4000003 M) (hk : Frame M base s) :
    Frame M base (State.compStart s) := by
  unfold State.compStart
  with_reducible repeat' first
      | assumption | apply Frame.refl | intro _
      | (extract_lets +onlyGivenNames x; first
        | (apply Frame.have x; unfold x; clear x; rotate_left; intro hx; clear_value x; rotate_right)
        | (apply Frame.have1 x; unfold x; clear x; rotate_left; intro hx; clear_value x; rotate_right)
        | (apply Frame.have2 x; unfold x; clear x; rotate_left; intro hq; clear_value x; rotate_right)
        | (apply Frame.have3 x; unfold x; clear x; rotate_left; intro hq; clear_value x; rotate_right)
        | (apply Frame.have4 x; unfold x; clear x; rotate_left; intro hq; clear_value x; rotate_right)
        | clear_value x)
      | apply hq | apply Frame.ite | apply Frame.when | apply Frame.each | apply Frame.foldl | apply Frame.foldlFst
      | apply frame_wr | exact hc.trans (by decide) | exact hc.bit (by decide) | split | apply Frame.set_comp

theorem frame_countRest {M : Nat} {base : State} {s : State} (p1 : Nat) (hc : Within 0x100004000012 M)
    (hk : Frame M base s) : Frame M base (State.countRest s p1) := by
  induction p1 generalizing s with
  | zero => exact hk
  | succ _ ih =>
    unfold State.countRest
    with_reducible repeat' first
        | assumption | apply Frame.refl
        | (extract_lets +onlyGivenNames x; first
          | (apply Frame.have x; unfold x; clear x; rotate_left; intro hx; clear_value x; rotate_right)
          | clear_value x)
        | apply Frame.ite | apply frame_countLine | apply frame_countLost | apply frame_openItems | apply ih
        | exact hc.trans (by decide) | exact hc.bit (by decide) | split | apply Frame.set_comp

theorem frame_compStop {M : Nat} {base : State} {s : State} (hc : Within 0x18000c000013 M) (hk : Frame M base s) :
    Frame M base (State.compStop s) := by
  unfold State.compStop
  with_reducible repeat' first
      | assumption | apply Frame.refl | intro _
      | (extract_lets +onlyGivenNames x; first
        | (apply Frame.have x; unfold x; clear x; rotate_left; intro hx; clear_value x; rotate_right)
        | clear_value x)
      | apply Frame.ite | apply Frame.when | apply frame_closeBlobs | apply frame_closeCover | apply frame_countRest
      | apply frame_dropSilentItems | apply frame_raise | exact hc.trans (by decide) | exact hc.bit (by decide)
      | split | apply Frame.set_comp

theorem frame_compFault {M : Nat} {base : State} {s : State} (ks : List Nat) (hc : Within 0x18000c000003 M)
    (hk : Frame M base s) : Frame M base (State.compFault s ks) := by
  unfold State.compFault
  with_reducible repeat' first
      | assumption | apply Frame.refl | intro _
      | (extract_lets +onlyGivenNames x; first
        | (apply Frame.have x; unfold x; clear x; rotate_left; intro hx; clear_value x; rotate_right)
        | clear_value x)
      | apply Frame.ite | apply frame_atLine | apply frame_closeBlobs | exact hc.trans (by decide)
      | exact hc.bit (by decide) | split | apply Frame.set_comp

theorem frame_linesLost {M : Nat} {base : State} {s : State} (hc : Within 0x18000c401003 M) (hk : Frame M base s) :
    Frame M base (State.linesLost s) := by
  unfold State.linesLost
  with_reducible repeat' first
      | assumption | apply Frame.refl | intro _
      | (extract_lets +onlyGivenNames x; first
        | (apply Frame.have x; unfold x; clear x; rotate_left; intro hx; clear_value x; rotate_right)
        | clear_value x)
      | apply Frame.ite | apply Frame.each | apply Frame.foldl | apply frame_compFault | apply frame_mark
      | exact hc.trans (by decide) | exact hc.bit (by decide) | split | apply Frame.set_outLines

theorem frame_ikDefect {M : Nat} {base : State} (side : Nat) (y : Nat) (cols : List (Bool × Bool)) {s : State}
    (hc : Within 0x4000000 M) (hk : Frame M base s) : Frame M base (ikDefect side y cols s) := by
  unfold ikDefect
  with_reducible repeat' first
      | assumption
      | exact hc.trans (by decide) | exact hc.bit (by decide) | apply Frame.set_comp

theorem frame_ikFragment {M : Nat} {base : State} (side : Nat) (y : Nat) (runs : List FragRun) {s : State}
    (hc : Within 0xc000003 M) (hk : Frame M base s) : Frame M base (ikFragment side y runs s) := by
  unfold ikFragment
  with_reducible repeat' first
      | assumption | apply Frame.refl | intro _
      | (extract_lets +onlyGivenNames x; first
        | (apply Frame.have x; unfold x; clear x; rotate_left; intro hx; clear_value x; rotate_right)
        | clear_value x)
      | apply Frame.ite | apply Frame.each | apply frame_joinRemote | apply frame_showBlobs
      | exact hc.trans (by decide) | exact hc.bit (by decide) | split | apply Frame.set_comp

theorem frame_ikBlobPart {M : Nat} {base : State} (side : Nat) (v : List Nat) {s : State}
    (hc : Within 0x18000c000003 M) (hk : Frame M base s) : Frame M base (ikBlobPart side v s) := by
  unfold ikBlobPart
  with_reducible repeat' first
      | assumption | apply Frame.refl | intro _
      | (extract_lets +onlyGivenNames x; first
        | (apply Frame.have x; unfold x; clear x; rotate_left; intro hx; clear_value x; rotate_right)
        | clear_value x)
      | apply Frame.ite | apply frame_closeBlobs | exact hc.trans (by decide) | exact hc.bit (by decide) | split
      | apply Frame.set_comp

theorem frame_ikItemPart {M : Nat} {base : State} (p : List Nat) {s : State} (hc : Within 0x4000000 M)
    (hk : Frame M base s) : Frame M base (ikItemPart p s) := by
  unfold ikItemPart
  with_reducible repeat' first
      | assumption | apply Frame.refl | intro _
      | (extract_lets +onlyGivenNames x; first
        | (apply Frame.have x; unfold x; clear x; rotate_left; intro hx; clear_value x; rotate_right)
        | clear_value x)
      | apply Frame.ite | exact hc.trans (by decide) | exact hc.bit (by decide) | split | apply Frame.set_comp

/-! ## Products -/

theorem frame_stageProduct {M : Nat} {base : State} {s : State} (q : Nat) (kind : Nat) (words : List Nat)
    (hc : Within 0x10001c000013 M) (hk : Frame M base s) : Frame M base (State.stageProduct s q kind words) := by
  unfold State.stageProduct
  with_reducible repeat' first
      | assumption
      | apply frame_stage | exact hc.trans (by decide)

theorem frame_patchMeasured {M : Nat} {base : State} (n : Nat) {s : State} (hc : Within 0x10001c000013 M)
    (hk : Frame M base s) : Frame M base (patchMeasured n s) := by
  unfold patchMeasured
  with_reducible repeat' first
      | assumption | apply Frame.refl | intro _
      | (extract_lets +onlyGivenNames x; first
        | (apply Frame.have x; unfold x; clear x; rotate_left; intro hx; clear_value x; rotate_right)
        | (apply Frame.have1 x; unfold x; clear x; rotate_left; intro hx; clear_value x; rotate_right)
        | (apply Frame.have2 x; unfold x; clear x; rotate_left; intro hq; clear_value x; rotate_right)
        | (apply Frame.have3 x; unfold x; clear x; rotate_left; intro hq; clear_value x; rotate_right)
        | (apply Frame.have4 x; unfold x; clear x; rotate_left; intro hq; clear_value x; rotate_right)
        | clear_value x)
      | apply hq | apply Frame.ite | apply Frame.when | apply Frame.each | apply Frame.foldl | apply Frame.foldlFst
      | apply frame_raise | apply frame_stageProduct | exact hc.trans (by decide) | exact hc.bit (by decide) | split
      | apply Frame.set_mp

theorem frame_markMeasured {M : Nat} {base : State} (n : Nat) {s : State} (hc : Within 0x10001c000013 M)
    (hk : Frame M base s) : Frame M base (markMeasured n s) := by
  unfold markMeasured
  with_reducible repeat' first
      | assumption | apply Frame.refl | intro _
      | (extract_lets +onlyGivenNames x; first
        | (apply Frame.have x; unfold x; clear x; rotate_left; intro hx; clear_value x; rotate_right)
        | (apply Frame.have1 x; unfold x; clear x; rotate_left; intro hx; clear_value x; rotate_right)
        | (apply Frame.have2 x; unfold x; clear x; rotate_left; intro hq; clear_value x; rotate_right)
        | (apply Frame.have3 x; unfold x; clear x; rotate_left; intro hq; clear_value x; rotate_right)
        | (apply Frame.have4 x; unfold x; clear x; rotate_left; intro hq; clear_value x; rotate_right)
        | clear_value x)
      | apply hq | apply Frame.ite | apply Frame.when | apply Frame.each | apply Frame.foldl | apply Frame.foldlFst
      | apply frame_raise | apply frame_stageProduct | exact hc.trans (by decide) | exact hc.bit (by decide) | split
      | apply Frame.set_mp

theorem frame_prevShed {M : Nat} {base : State} {s : State} (hc : Within 0x100008000013 M) (hk : Frame M base s) :
    Frame M base (State.prevShed s) := by
  unfold State.prevShed
  with_reducible repeat' first
      | assumption
      | apply frame_inc | apply frame_raise | exact hc.trans (by decide) | exact hc.bit (by decide)
      | apply Frame.set_mp

theorem frame_previewRecord {M : Nat} {base : State} {s : State} (hc : Within 0x10001c000013 M)
    (hk : Frame M base s) : Frame M base (previewRecord s) := by
  unfold previewRecord
  with_reducible repeat' first
      | assumption | apply Frame.refl
      | (extract_lets +onlyGivenNames x; first
        | (apply Frame.have x; unfold x; clear x; rotate_left; intro hx; clear_value x; rotate_right)
        | clear_value x)
      | apply Frame.ite | apply frame_atLine | apply frame_prevShed | apply frame_stageProduct
      | exact hc.trans (by decide) | exact hc.bit (by decide) | split | apply Frame.set_mp

theorem frame_cropTokenRefill {M : Nat} {base : State} {s : State} (hc : Within 0x8000000 M) (hk : Frame M base s) :
    Frame M base (cropTokenRefill s) := by
  unfold cropTokenRefill
  with_reducible repeat' first
      | assumption | apply Frame.refl
      | apply Frame.ite | exact hc.trans (by decide) | exact hc.bit (by decide) | split | apply Frame.set_mp

theorem frame_cropComplete {M : Nat} {base : State} (n : Nat) {s : State} (hc : Within 0x10001c000013 M)
    (hk : Frame M base s) : Frame M base (cropComplete n s) := by
  unfold cropComplete
  with_reducible repeat' first
      | assumption | apply Frame.refl
      | (extract_lets +onlyGivenNames x; first
        | (apply Frame.have x; unfold x; clear x; rotate_left; intro hx; clear_value x; rotate_right)
        | clear_value x)
      | apply Frame.ite | apply frame_inc | apply frame_stageProduct | exact hc.trans (by decide)
      | exact hc.bit (by decide) | split | apply Frame.set_mp

theorem frame_prodStart {M : Nat} {base : State} {s : State} (hc : Within 0x8000003 M) (hk : Frame M base s) :
    Frame M base (State.prodStart s) := by
  unfold State.prodStart
  with_reducible repeat' first
      | assumption | apply Frame.refl | intro _
      | (extract_lets +onlyGivenNames x; first
        | (apply Frame.have x; unfold x; clear x; rotate_left; intro hx; clear_value x; rotate_right)
        | (apply Frame.have1 x; unfold x; clear x; rotate_left; intro hx; clear_value x; rotate_right)
        | (apply Frame.have2 x; unfold x; clear x; rotate_left; intro hq; clear_value x; rotate_right)
        | (apply Frame.have3 x; unfold x; clear x; rotate_left; intro hq; clear_value x; rotate_right)
        | (apply Frame.have4 x; unfold x; clear x; rotate_left; intro hq; clear_value x; rotate_right)
        | clear_value x)
      | apply hq | apply Frame.ite | apply Frame.when | apply Frame.each | apply Frame.foldl | apply Frame.foldlFst
      | apply frame_wr | exact hc.trans (by decide) | exact hc.bit (by decide) | split | apply Frame.set_mp

theorem frame_prodStop {M : Nat} {base : State} {s : State} (hc : Within 0x10001c000013 M) (hk : Frame M base s) :
    Frame M base (State.prodStop s) := by
  unfold State.prodStop
  with_reducible repeat' first
      | assumption | apply Frame.refl | intro _
      | (extract_lets +onlyGivenNames x; first
        | (apply Frame.have x; unfold x; clear x; rotate_left; intro hx; clear_value x; rotate_right)
        | clear_value x)
      | apply Frame.each | apply Frame.foldl | apply frame_cropComplete | apply frame_markMeasured
      | apply frame_patchMeasured | apply frame_previewRecord | exact hc.trans (by decide) | exact hc.bit (by decide)
      | apply Frame.set_mp

end Sys2Proof.Machine
end

