-- ==== Sys2Proof/Laws/FramesUnits.lean ====
section
/-!
SUPPORT. The frame of each function: the peripheral units and capacity.
-/

namespace Sys2Proof.Machine

/-! ## Pfe -/

theorem frame_pfe? {M : Nat} {base : State} {s : State} (hc : Within 0x2 M) (hk : Frame M base s) :
    Frame M base (State.pfe? s) := by
  unfold State.pfe?
  with_reducible repeat' first
      | assumption
      | exact hc.trans (by decide) | exact hc.bit (by decide) | apply Frame.set_force

theorem frame_pfeExcite {M : Nat} {base : State} {s : State} (l : List PfeDrive) (hc : Within 0x100080000000 M)
    (hk : Frame M base s) : Frame M base (State.pfeExcite s l) := by
  unfold State.pfeExcite
  with_reducible repeat' first
      | assumption | apply Frame.refl | intro _
      | (extract_lets +onlyGivenNames x; first
        | (apply Frame.have x; unfold x; clear x; rotate_left; intro hx; clear_value x; rotate_right)
        | clear_value x)
      | apply Frame.each | apply frame_emit | exact hc.trans (by decide) | exact hc.bit (by decide)
      | apply Frame.set_pfe

theorem frame_putAo {M : Nat} {base : State} {s : State} (n : Nat) (code : Nat) (fault : Bool)
    (hc : Within 0x100000000013 M) (hk : Frame M base s) : Frame M base (State.putAo s n code fault) := by
  unfold State.putAo
  with_reducible repeat' first
      | assumption | apply Frame.refl | intro _
      | (extract_lets +onlyGivenNames x; first
        | (apply Frame.have x; unfold x; clear x; rotate_left; intro hx; clear_value x; rotate_right)
        | (apply Frame.have1 x; unfold x; clear x; rotate_left; intro hx; clear_value x; rotate_right)
        | (apply Frame.have2 x; unfold x; clear x; rotate_left; intro hq; clear_value x; rotate_right)
        | (apply Frame.have3 x; unfold x; clear x; rotate_left; intro hq; clear_value x; rotate_right)
        | (apply Frame.have4 x; unfold x; clear x; rotate_left; intro hq; clear_value x; rotate_right)
        | clear_value x)
      | apply hq | apply Frame.ite | apply Frame.when | apply Frame.each | apply Frame.foldl | apply Frame.foldlFst
      | apply frame_emit | apply frame_raise | apply frame_wr | apply frame_wrB | exact hc.trans (by decide) | split

theorem frame_aoEval {M : Nat} {base : State} {s : State} (n : Nat) (hc : Within 0x180000000013 M)
    (hk : Frame M base s) : Frame M base (State.aoEval s n) := by
  unfold State.aoEval
  with_reducible repeat' first
      | assumption | apply Frame.refl | intro _
      | (extract_lets +onlyGivenNames x; first
        | (apply Frame.have x; unfold x; clear x; rotate_left; intro hx; clear_value x; rotate_right)
        | (apply Frame.have1 x; unfold x; clear x; rotate_left; intro hx; clear_value x; rotate_right)
        | (apply Frame.have2 x; unfold x; clear x; rotate_left; intro hq; clear_value x; rotate_right)
        | (apply Frame.have3 x; unfold x; clear x; rotate_left; intro hq; clear_value x; rotate_right)
        | (apply Frame.have4 x; unfold x; clear x; rotate_left; intro hq; clear_value x; rotate_right)
        | clear_value x)
      | apply hq | apply Frame.ite | apply Frame.when | apply Frame.each | apply Frame.foldl | apply Frame.foldlFst
      | apply frame_pfe? | apply frame_putAo | apply frame_take | exact hc.trans (by decide) | split

theorem frame_pfeStart {M : Nat} {base : State} {s : State} (hc : Within 0x180080000013 M) (hk : Frame M base s) :
    Frame M base (State.pfeStart s) := by
  unfold State.pfeStart
  with_reducible repeat' first
      | assumption | apply Frame.refl | intro _
      | (extract_lets +onlyGivenNames x; first
        | (apply Frame.have x; unfold x; clear x; rotate_left; intro hx; clear_value x; rotate_right)
        | clear_value x)
      | apply Frame.each | apply frame_aoEval | apply frame_pfe? | apply frame_pfeExcite | apply frame_wr
      | exact hc.trans (by decide) | exact hc.bit (by decide) | apply Frame.set_pfe

theorem frame_pfeTrigger {M : Nat} {base : State} {s : State} (hc : Within 0x180080000013 M) (hk : Frame M base s) :
    Frame M base (State.pfeTrigger s) := by
  unfold State.pfeTrigger
  with_reducible repeat' first
      | assumption | apply Frame.refl
      | apply Frame.ite | apply frame_pfeStart | apply frame_raise | exact hc.trans (by decide)
      | exact hc.bit (by decide) | split | apply Frame.set_pfe

theorem frame_pfeAbandon {M : Nat} {base : State} {s : State} (hc : Within 0x100080000003 M) (hk : Frame M base s) :
    Frame M base (State.pfeAbandon s) := by
  unfold State.pfeAbandon
  with_reducible repeat' first
      | assumption
      | (extract_lets +onlyGivenNames x; first
        | (apply Frame.have x; unfold x; clear x; rotate_left; intro hx; clear_value x; rotate_right)
        | clear_value x)
      | apply frame_pfeExcite | apply frame_wr | exact hc.trans (by decide) | exact hc.bit (by decide)
      | apply Frame.set_pfe

theorem frame_pfeScanTimer {M : Nat} {base : State} {s : State} (hc : Within 0x180080000013 M) (hk : Frame M base s) :
    Frame M base (pfeScanTimer s) := by
  unfold pfeScanTimer
  with_reducible repeat' first
      | assumption | apply Frame.refl
      | apply Frame.ite | apply frame_pfeTrigger | exact hc.trans (by decide) | split

theorem frame_pfeGo {M : Nat} {base : State} (v : Nat) {s : State} (hc : Within 0x180080000013 M)
    (hk : Frame M base s) : Frame M base (pfeGo v s) := by
  unfold pfeGo
  with_reducible repeat' first
      | assumption | apply Frame.refl
      | apply Frame.ite | apply frame_pfeTrigger | exact hc.trans (by decide) | split

theorem frame_pfeStepEnd {M : Nat} {base : State} (va : Int) (vb : Int) {s : State} (hc : Within 0x100080000003 M)
    (hk : Frame M base s) : Frame M base (pfeStepEnd va vb s) := by
  unfold pfeStepEnd
  with_reducible repeat' first
      | assumption | apply Frame.refl | intro _
      | (extract_lets +onlyGivenNames x; first
        | (apply Frame.have x; unfold x; clear x; rotate_left; intro hx; clear_value x; rotate_right)
        | (apply Frame.have1 x; unfold x; clear x; rotate_left; intro hx; clear_value x; rotate_right)
        | (apply Frame.have2 x; unfold x; clear x; rotate_left; intro hq; clear_value x; rotate_right)
        | (apply Frame.have3 x; unfold x; clear x; rotate_left; intro hq; clear_value x; rotate_right)
        | (apply Frame.have4 x; unfold x; clear x; rotate_left; intro hq; clear_value x; rotate_right)
        | clear_value x)
      | apply hq | apply Frame.ite | apply Frame.when | apply Frame.each | apply Frame.foldl | apply Frame.foldlFst
      | apply frame_pfe? | apply frame_pfeExcite | apply frame_wr | exact hc.trans (by decide)
      | exact hc.bit (by decide) | split | apply Frame.set_pfe

theorem frame_putQuantity {M : Nat} {base : State} {s : State} (i : Nat) (q : Quantity)
    (hc : Within 0x80000000003 M) (hk : Frame M base s) : Frame M base (State.putQuantity s i q) := by
  unfold State.putQuantity
  with_reducible repeat' first
      | assumption | apply Frame.refl | intro _
      | (extract_lets +onlyGivenNames x; first
        | (apply Frame.have x; unfold x; clear x; rotate_left; intro hx; clear_value x; rotate_right)
        | (apply Frame.have1 x; unfold x; clear x; rotate_left; intro hx; clear_value x; rotate_right)
        | (apply Frame.have2 x; unfold x; clear x; rotate_left; intro hq; clear_value x; rotate_right)
        | (apply Frame.have3 x; unfold x; clear x; rotate_left; intro hq; clear_value x; rotate_right)
        | (apply Frame.have4 x; unfold x; clear x; rotate_left; intro hq; clear_value x; rotate_right)
        | clear_value x)
      | apply hq | apply Frame.ite | apply Frame.when | apply Frame.each | apply Frame.foldl | apply Frame.foldlFst
      | apply frame_take | apply frame_wrB | apply frame_wrS | exact hc.trans (by decide) | split

theorem frame_slotResult {M : Nat} {base : State} (failA : Bool) (failB : Bool) {s : State} (i : Nat)
    (hc : Within 0x80080000003 M) (hk : Frame M base s) : Frame M base (State.slotResult failA failB s i) := by
  unfold State.slotResult
  with_reducible repeat' first
      | assumption | apply Frame.refl | intro _
      | (extract_lets +onlyGivenNames x; first
        | (apply Frame.have x; unfold x; clear x; rotate_left; intro hx; clear_value x; rotate_right)
        | (apply Frame.have1 x; unfold x; clear x; rotate_left; intro hx; clear_value x; rotate_right)
        | (apply Frame.have2 x; unfold x; clear x; rotate_left; intro hq; clear_value x; rotate_right)
        | (apply Frame.have3 x; unfold x; clear x; rotate_left; intro hq; clear_value x; rotate_right)
        | (apply Frame.have4 x; unfold x; clear x; rotate_left; intro hq; clear_value x; rotate_right)
        | clear_value x)
      | apply hq | apply Frame.ite | apply Frame.when | apply Frame.each | apply Frame.foldl | apply Frame.foldlFst
      | apply frame_pfe? | apply frame_putQuantity | apply frame_wr | apply frame_wrB | apply frame_wrS
      | exact hc.trans (by decide) | exact hc.bit (by decide) | split | apply Frame.set_pfe

theorem frame_pairEval {M : Nat} {base : State} {s : State} (x : Nat × Nat × Nat) (hc : Within 0x100080000013 M)
    (hk : Frame M base s) : Frame M base (State.pairEval s x) := by
  unfold State.pairEval
  with_reducible repeat' first
      | assumption | apply Frame.refl | intro _
      | (extract_lets +onlyGivenNames x; first
        | (apply Frame.have x; unfold x; clear x; rotate_left; intro hx; clear_value x; rotate_right)
        | (apply Frame.have1 x; unfold x; clear x; rotate_left; intro hx; clear_value x; rotate_right)
        | (apply Frame.have2 x; unfold x; clear x; rotate_left; intro hq; clear_value x; rotate_right)
        | (apply Frame.have3 x; unfold x; clear x; rotate_left; intro hq; clear_value x; rotate_right)
        | (apply Frame.have4 x; unfold x; clear x; rotate_left; intro hq; clear_value x; rotate_right)
        | clear_value x)
      | apply hq | apply Frame.ite | apply Frame.when | apply Frame.each | apply Frame.foldl | apply Frame.foldlFst
      | apply frame_mark | apply frame_pfe? | apply frame_raise | apply frame_wr | apply frame_wrB | apply frame_wrS
      | exact hc.trans (by decide) | exact hc.bit (by decide) | split | apply Frame.set_pfe

theorem frame_pfeResults {M : Nat} {base : State} {s : State} (ca : Int) (cb : Int) (hc : Within 0x180080000013 M)
    (hk : Frame M base s) : Frame M base (State.pfeResults s ca cb) := by
  unfold State.pfeResults
  with_reducible repeat' first
      | assumption | apply Frame.refl | intro _
      | (extract_lets +onlyGivenNames x; first
        | (apply Frame.have x; unfold x; clear x; rotate_left; intro hx; clear_value x; rotate_right)
        | (apply Frame.have1 x; unfold x; clear x; rotate_left; intro hx; clear_value x; rotate_right)
        | (apply Frame.have2 x; unfold x; clear x; rotate_left; intro hq; clear_value x; rotate_right)
        | (apply Frame.have3 x; unfold x; clear x; rotate_left; intro hq; clear_value x; rotate_right)
        | (apply Frame.have4 x; unfold x; clear x; rotate_left; intro hq; clear_value x; rotate_right)
        | clear_value x)
      | apply hq | apply Frame.ite | apply Frame.when | apply Frame.each | apply Frame.foldl | apply Frame.foldlFst
      | apply frame_inc | apply frame_pairEval | apply frame_pfe? | apply frame_raise | apply frame_slotResult
      | apply frame_wr | apply frame_wrS | exact hc.trans (by decide) | exact hc.bit (by decide) | split
      | apply Frame.set_pfe

theorem frame_pfeScanEnd {M : Nat} {base : State} {s : State} (hc : Within 0x180080000013 M) (hk : Frame M base s) :
    Frame M base (State.pfeScanEnd s) := by
  unfold State.pfeScanEnd
  with_reducible repeat' first
      | assumption | apply Frame.refl
      | (extract_lets +onlyGivenNames x; first
        | (apply Frame.have x; unfold x; clear x; rotate_left; intro hx; clear_value x; rotate_right)
        | clear_value x)
      | apply Frame.ite | apply frame_pfeAbandon | apply frame_pfeResults | apply frame_pfeStart
      | exact hc.trans (by decide) | split

theorem frame_aoUpdate {M : Nat} {base : State} (n : Nat) {s : State} (hc : Within 0x180000000013 M)
    (hk : Frame M base s) : Frame M base (aoUpdate n s) := by
  unfold aoUpdate
  with_reducible repeat' first
      | assumption | apply Frame.refl
      | apply Frame.ite | apply frame_aoEval | exact hc.trans (by decide) | split

theorem frame_aoHost {M : Nat} {base : State} {s : State} (n : Nat) (v : Nat) (hc : Within 0x180000000013 M)
    (hk : Frame M base s) : Frame M base (State.aoHost s n v) := by
  unfold State.aoHost
  with_reducible repeat' first
      | assumption | apply Frame.refl
      | (extract_lets +onlyGivenNames x; first
        | (apply Frame.have x; unfold x; clear x; rotate_left; intro hx; clear_value x; rotate_right)
        | clear_value x)
      | apply Frame.ite | apply frame_aoEval | apply frame_pfe? | apply frame_wr | exact hc.trans (by decide) | split

theorem frame_aoRefLow {M : Nat} {base : State} (n : Nat) {s : State} (hc : Within 0x100000000013 M)
    (hk : Frame M base s) : Frame M base (aoRefLow n s) := by
  unfold aoRefLow
  with_reducible repeat' first
      | assumption
      | apply frame_raise | apply frame_wr | exact hc.trans (by decide)

theorem frame_resValueRead {M : Nat} {base : State} (agent : Nat) (i : Nat) (sub : Nat) (width : Nat) {s : State}
    (hc : Within 0x100000000018 M) (hk : Frame M base s) : Frame M base (resValueRead agent i sub width s) := by
  unfold resValueRead
  with_reducible repeat' first
      | assumption | apply Frame.refl | intro _
      | (extract_lets +onlyGivenNames x; first
        | (apply Frame.have x; unfold x; clear x; rotate_left; intro hx; clear_value x; rotate_right)
        | (apply Frame.have1 x; unfold x; clear x; rotate_left; intro hx; clear_value x; rotate_right)
        | (apply Frame.have2 x; unfold x; clear x; rotate_left; intro hq; clear_value x; rotate_right)
        | (apply Frame.have3 x; unfold x; clear x; rotate_left; intro hq; clear_value x; rotate_right)
        | (apply Frame.have4 x; unfold x; clear x; rotate_left; intro hq; clear_value x; rotate_right)
        | clear_value x)
      | apply hq | apply Frame.ite | apply Frame.when | apply Frame.each | apply Frame.foldl | apply Frame.foldlFst
      | apply frame_capture | apply frame_readAccess | exact hc.trans (by decide) | split

/-! ## Motion -/

theorem frame_putAxis {M : Nat} {base : State} {s : State} (a : Nat) (x : Axis) (hc : Within 0x100000000 M)
    (hk : Frame M base s) : Frame M base (State.putAxis s a x) := by
  unfold State.putAxis
  with_reducible repeat' first
      | assumption
      | exact hc.trans (by decide) | exact hc.bit (by decide) | apply Frame.set_axes

theorem frame_onAxis {M : Nat} {base : State} {s : State} (a : Nat) (f : Axis → Axis) (hc : Within 0x100000000 M)
    (hk : Frame M base s) : Frame M base (State.onAxis s a f) := by
  unfold State.onAxis
  with_reducible repeat' first
      | assumption
      | apply frame_putAxis | exact hc.trans (by decide)

theorem frame_putAxisState {M : Nat} {base : State} {s : State} (a : Nat) (st : Nat) (hc : Within 0x3 M)
    (hk : Frame M base s) : Frame M base (State.putAxisState s a st) := by
  unfold State.putAxisState
  with_reducible repeat' first
      | assumption
      | apply frame_wr | exact hc.trans (by decide)

theorem frame_putPos {M : Nat} {base : State} {s : State} (a : Nat) (hc : Within 0x3 M) (hk : Frame M base s) :
    Frame M base (State.putPos s a) := by
  unfold State.putPos
  with_reducible repeat' first
      | assumption
      | apply frame_wrPair | exact hc.trans (by decide)

theorem frame_putRemain {M : Nat} {base : State} {s : State} (a : Nat) (r : Int) (hc : Within 0x3 M)
    (hk : Frame M base s) : Frame M base (State.putRemain s a r) := by
  unfold State.putRemain
  with_reducible repeat' first
      | assumption
      | apply frame_wrPair | exact hc.trans (by decide)

theorem frame_remainNow {M : Nat} {base : State} {s : State} (a : Nat) (hc : Within 0x3 M) (hk : Frame M base s) :
    Frame M base (State.remainNow s a) := by
  unfold State.remainNow
  with_reducible repeat' first
      | assumption
      | apply frame_putRemain | exact hc.trans (by decide)

theorem frame_bridge {M : Nat} {base : State} {s : State} (a : Nat) (b : Bool) (hc : Within 0x100000000000 M)
    (hk : Frame M base s) : Frame M base (State.bridge s a b) := by
  unfold State.bridge
  with_reducible repeat' first
      | assumption
      | apply frame_emit | exact hc.trans (by decide)

theorem frame_standbyNow {M : Nat} {base : State} {s : State} (a : Nat) (hc : Within 0x100100000000 M)
    (hk : Frame M base s) : Frame M base (State.standbyNow s a) := by
  unfold State.standbyNow
  with_reducible repeat' first
      | assumption | apply Frame.refl | intro _
      | (extract_lets +onlyGivenNames x; first
        | (apply Frame.have x; unfold x; clear x; rotate_left; intro hx; clear_value x; rotate_right)
        | clear_value x)
      | apply frame_bridge | apply frame_emit | apply frame_onAxis | exact hc.trans (by decide) | split

theorem frame_axisFault {M : Nat} {base : State} {s : State} (a : Nat) (code : Nat) (hc : Within 0x100100000013 M)
    (hk : Frame M base s) : Frame M base (State.axisFault s a code) := by
  unfold State.axisFault
  with_reducible repeat' first
      | assumption | apply Frame.refl | intro _
      | (extract_lets +onlyGivenNames x; first
        | (apply Frame.have x; unfold x; clear x; rotate_left; intro hx; clear_value x; rotate_right)
        | clear_value x)
      | apply Frame.ite | apply Frame.when | apply frame_onAxis | apply frame_putAxisState | apply frame_raise
      | apply frame_remainNow | apply frame_standbyNow | apply frame_wr | exact hc.trans (by decide) | split

theorem frame_axisFaultIf {M : Nat} {base : State} {s : State} (a : Nat) (code : Nat)
    (hc : Within 0x100100000013 M) (hk : Frame M base s) : Frame M base (State.axisFaultIf s a code) := by
  unfold State.axisFaultIf
  with_reducible repeat' first
      | assumption | apply Frame.refl
      | apply Frame.ite | apply frame_axisFault | exact hc.trans (by decide) | split

theorem frame_axisRefused {M : Nat} {base : State} {s : State} (a : Nat) (hc : Within 0x100000000010 M)
    (hk : Frame M base s) : Frame M base (State.axisRefused s a) := by
  unfold State.axisRefused
  with_reducible repeat' first
      | assumption
      | apply frame_raise | exact hc.trans (by decide)

theorem frame_moveOn {M : Nat} {base : State} {s : State} (a : Nat) (st : Nat) (f : Axis → Axis)
    (hc : Within 0x100100000003 M) (hk : Frame M base s) : Frame M base (State.moveOn s a st f) := by
  unfold State.moveOn
  with_reducible repeat' first
      | assumption | apply Frame.refl | intro _
      | (extract_lets +onlyGivenNames x; first
        | (apply Frame.have x; unfold x; clear x; rotate_left; intro hx; clear_value x; rotate_right)
        | (apply Frame.have1 x; unfold x; clear x; rotate_left; intro hx; clear_value x; rotate_right)
        | (apply Frame.have2 x; unfold x; clear x; rotate_left; intro hq; clear_value x; rotate_right)
        | (apply Frame.have3 x; unfold x; clear x; rotate_left; intro hq; clear_value x; rotate_right)
        | (apply Frame.have4 x; unfold x; clear x; rotate_left; intro hq; clear_value x; rotate_right)
        | clear_value x)
      | apply hq | apply Frame.ite | apply Frame.when | apply Frame.each | apply Frame.foldl | apply Frame.foldlFst
      | apply frame_bridge | apply frame_onAxis | apply frame_putAxisState | exact hc.trans (by decide) | split

theorem frame_axisStop {M : Nat} {base : State} {s : State} (a : Nat) (after : AfterStop)
    (hc : Within 0x100100000003 M) (hk : Frame M base s) : Frame M base (State.axisStop s a after) := by
  unfold State.axisStop
  with_reducible repeat' first
      | assumption | intro _
      | apply frame_moveOn | exact hc.trans (by decide)

theorem frame_axisResume {M : Nat} {base : State} {s : State} (a : Nat) (hc : Within 0x100100000003 M)
    (hk : Frame M base s) : Frame M base (State.axisResume s a) := by
  unfold State.axisResume
  with_reducible repeat' first
      | assumption | apply Frame.refl | intro _
      | (extract_lets +onlyGivenNames x; first
        | (apply Frame.have x; unfold x; clear x; rotate_left; intro hx; clear_value x; rotate_right)
        | clear_value x)
      | apply Frame.ite | apply frame_moveOn | apply frame_wr | exact hc.trans (by decide) | split

theorem frame_homeCruise {M : Nat} {base : State} {s : State} (a : Nat) (hc : Within 0x100000000 M)
    (hk : Frame M base s) : Frame M base (State.homeCruise s a) := by
  unfold State.homeCruise
  with_reducible repeat' first
      | assumption | apply Frame.refl | intro _
      | (extract_lets +onlyGivenNames x; first
        | (apply Frame.have x; unfold x; clear x; rotate_left; intro hx; clear_value x; rotate_right)
        | clear_value x)
      | apply Frame.ite | apply frame_onAxis | exact hc.trans (by decide) | split

theorem frame_homeFound {M : Nat} {base : State} {s : State} (a : Nat) (hc : Within 0x100100000013 M)
    (hk : Frame M base s) : Frame M base (State.homeFound s a) := by
  unfold State.homeFound
  with_reducible repeat' first
      | assumption | intro _
      | (extract_lets +onlyGivenNames x; first
        | (apply Frame.have x; unfold x; clear x; rotate_left; intro hx; clear_value x; rotate_right)
        | clear_value x)
      | apply frame_onAxis | apply frame_putPos | apply frame_raise | exact hc.trans (by decide)

theorem frame_pauseStop {M : Nat} {base : State} {s : State} (a : Nat) (hc : Within 0x100100000003 M)
    (hk : Frame M base s) : Frame M base (State.pauseStop s a) := by
  unfold State.pauseStop
  with_reducible repeat' first
      | assumption
      | apply frame_axisStop | apply frame_wr | exact hc.trans (by decide)

theorem frame_axisCommand {M : Nat} {base : State} {s : State} (a : Nat) (c : AxisCommand)
    (hc : Within 0x100100000013 M) (hk : Frame M base s) : Frame M base (State.axisCommand s a c) := by
  unfold State.axisCommand
  with_reducible repeat' first
      | assumption | apply Frame.refl | intro _
      | (extract_lets +onlyGivenNames x; first
        | (apply Frame.have x; unfold x; clear x; rotate_left; intro hx; clear_value x; rotate_right)
        | clear_value x)
      | apply Frame.ite | apply Frame.when | apply frame_axisFault | apply frame_axisRefused | apply frame_axisResume
      | apply frame_axisStop | apply frame_homeCruise | apply frame_homeFound | apply frame_moveOn
      | apply frame_onAxis | apply frame_putAxisState | apply frame_putPos | apply frame_putRemain
      | apply frame_standbyNow | apply frame_wr | exact hc.trans (by decide) | split

theorem frame_axisSettings {M : Nat} {base : State} {s : State} (a : Nat) (l : List AxisCommand)
    (hc : Within 0x100000003 M) (hk : Frame M base s) : Frame M base (State.axisSettings s a l) := by
  unfold State.axisSettings
  with_reducible repeat' first
      | assumption | apply Frame.refl | intro _
      | (extract_lets +onlyGivenNames x; first
        | (apply Frame.have x; unfold x; clear x; rotate_left; intro hx; clear_value x; rotate_right)
        | clear_value x)
      | apply Frame.ite | apply Frame.when | apply Frame.foldl | apply frame_homeCruise | apply frame_onAxis
      | apply frame_putAxis | apply frame_remainNow | exact hc.trans (by decide) | split

theorem frame_stopEnds {M : Nat} {base : State} {s : State} (a : Nat) (hc : Within 0x100100000013 M)
    (hk : Frame M base s) : Frame M base (State.stopEnds s a) := by
  unfold State.stopEnds
  with_reducible repeat' first
      | assumption | apply Frame.refl | intro _
      | apply frame_axisFault | apply frame_onAxis | apply frame_putAxisState | apply frame_raise
      | apply frame_remainNow | apply frame_wr | exact hc.trans (by decide) | split

theorem frame_axisProceed {M : Nat} {base : State} {s : State} (a : Nat) (hc : Within 0x100100000013 M)
    (hk : Frame M base s) : Frame M base (State.axisProceed s a) := by
  unfold State.axisProceed
  with_reducible repeat' first
      | assumption | apply Frame.refl | intro _
      | (extract_lets +onlyGivenNames x; first
        | (apply Frame.have x; unfold x; clear x; rotate_left; intro hx; clear_value x; rotate_right)
        | clear_value x)
      | apply Frame.ite | apply frame_axisResume | apply frame_axisStop | apply frame_moveOn | apply frame_pauseStop
      | apply frame_putAxisState | apply frame_putRemain | apply frame_raise | apply frame_stopEnds | apply frame_wr
      | exact hc.trans (by decide) | split

theorem frame_stallTest {M : Nat} {base : State} {s : State} (a : Nat) (hc : Within 0x100100000013 M)
    (hk : Frame M base s) : Frame M base (State.stallTest s a) := by
  unfold State.stallTest
  with_reducible repeat' first
      | assumption | apply Frame.refl | intro _
      | (extract_lets +onlyGivenNames x; first
        | (apply Frame.have x; unfold x; clear x; rotate_left; intro hx; clear_value x; rotate_right)
        | clear_value x)
      | apply Frame.ite | apply frame_axisFaultIf | apply frame_onAxis | apply frame_putAxis | apply frame_wr
      | apply frame_wrS | exact hc.trans (by decide) | split

theorem frame_emitSetPoint {M : Nat} {base : State} {s : State} (a : Nat) (hc : Within 0x80100000003 M)
    (hk : Frame M base s) : Frame M base (State.emitSetPoint s a) := by
  unfold State.emitSetPoint
  with_reducible repeat' first
      | assumption | apply Frame.refl | intro _
      | (extract_lets +onlyGivenNames x; first
        | (apply Frame.have x; unfold x; clear x; rotate_left; intro hx; clear_value x; rotate_right)
        | (apply Frame.have1 x; unfold x; clear x; rotate_left; intro hx; clear_value x; rotate_right)
        | (apply Frame.have2 x; unfold x; clear x; rotate_left; intro hq; clear_value x; rotate_right)
        | (apply Frame.have3 x; unfold x; clear x; rotate_left; intro hq; clear_value x; rotate_right)
        | (apply Frame.have4 x; unfold x; clear x; rotate_left; intro hq; clear_value x; rotate_right)
        | clear_value x)
      | apply hq | apply Frame.ite | apply Frame.when | apply Frame.each | apply Frame.foldl | apply Frame.foldlFst
      | apply frame_advance | apply frame_putAxis | apply frame_putPos | apply frame_take | apply frame_wr
      | apply frame_wrS | exact hc.trans (by decide) | split

theorem frame_axisTake {M : Nat} {base : State} {s : State} (a : Nat) (hc : Within 0x100100000000 M)
    (hk : Frame M base s) : Frame M base (State.axisTake s a) := by
  unfold State.axisTake
  with_reducible repeat' first
      | assumption | apply Frame.refl | intro _
      | (extract_lets +onlyGivenNames x; first
        | (apply Frame.have x; unfold x; clear x; rotate_left; intro hx; clear_value x; rotate_right)
        | (apply Frame.have1 x; unfold x; clear x; rotate_left; intro hx; clear_value x; rotate_right)
        | (apply Frame.have2 x; unfold x; clear x; rotate_left; intro hq; clear_value x; rotate_right)
        | (apply Frame.have3 x; unfold x; clear x; rotate_left; intro hq; clear_value x; rotate_right)
        | (apply Frame.have4 x; unfold x; clear x; rotate_left; intro hq; clear_value x; rotate_right)
        | clear_value x)
      | apply hq | apply Frame.ite | apply Frame.when | apply Frame.each | apply Frame.foldl | apply Frame.foldlFst
      | apply frame_hold | apply frame_putAxis | apply frame_standbyNow | exact hc.trans (by decide) | split

theorem frame_axisBoundary {M : Nat} {base : State} {s : State} (a : Nat) (hc : Within 0x180100000013 M)
    (hk : Frame M base s) : Frame M base (State.axisBoundary s a) := by
  unfold State.axisBoundary
  with_reducible repeat' first
      | assumption | apply Frame.refl | intro _
      | (extract_lets +onlyGivenNames x; first
        | (apply Frame.have x; unfold x; clear x; rotate_left; intro hx; clear_value x; rotate_right)
        | clear_value x)
      | apply Frame.ite | apply Frame.each | apply frame_axisCommand | apply frame_axisProceed
      | apply frame_axisRefused | apply frame_axisSettings | apply frame_axisTake | apply frame_emitSetPoint
      | apply frame_putAxis | apply frame_stallTest | exact hc.trans (by decide) | split

theorem frame_sheetPace {M : Nat} {base : State} {s : State} (hc : Within 0x100000000013 M) (hk : Frame M base s) :
    Frame M base (State.sheetPace s) := by
  unfold State.sheetPace
  with_reducible repeat' first
      | assumption | apply Frame.refl | intro _
      | (extract_lets +onlyGivenNames x; first
        | (apply Frame.have x; unfold x; clear x; rotate_left; intro hx; clear_value x; rotate_right)
        | clear_value x)
      | apply Frame.ite | apply Frame.foldl | apply frame_inc | apply frame_raise | apply frame_wr | apply frame_wrB
      | exact hc.trans (by decide) | split

theorem frame_servoBoundary {M : Nat} {base : State} {s : State} (hc : Within 0x180100000013 M)
    (hk : Frame M base s) : Frame M base (State.servoBoundary s) := by
  unfold State.servoBoundary
  with_reducible repeat' first
      | assumption | apply Frame.refl | intro _
      | apply Frame.each | apply frame_axisBoundary | apply frame_sheetPace | exact hc.trans (by decide)

theorem frame_auxWrite {M : Nat} {base : State} {s : State} (n : Nat) (codes : List (Nat × Bool))
    (hc : Within 0x100100000013 M) (hk : Frame M base s) : Frame M base (State.auxWrite s n codes) := by
  unfold State.auxWrite
  with_reducible repeat' first
      | assumption | apply Frame.refl | intro _
      | (extract_lets +onlyGivenNames x; first
        | (apply Frame.have x; unfold x; clear x; rotate_left; intro hx; clear_value x; rotate_right)
        | clear_value x)
      | apply Frame.ite | apply Frame.when | apply Frame.each | apply frame_onAxis | apply frame_raise
      | apply frame_wr | apply frame_wrB | exact hc.trans (by decide) | split

theorem frame_pwmPeriod {M : Nat} {base : State} (a : Nat) (codes : List (Nat × Bool)) {s : State}
    (hc : Within 0x100100000013 M) (hk : Frame M base s) : Frame M base (pwmPeriod a codes s) := by
  unfold pwmPeriod
  with_reducible repeat' first
      | assumption | apply Frame.refl | intro _
      | (extract_lets +onlyGivenNames x; first
        | (apply Frame.have x; unfold x; clear x; rotate_left; intro hx; clear_value x; rotate_right)
        | clear_value x)
      | apply Frame.ite | apply frame_auxWrite | apply frame_axisFaultIf | apply frame_emit | apply frame_putAxis
      | exact hc.trans (by decide) | split

theorem frame_auxIdleScan {M : Nat} {base : State} (n : Nat) (codes : List (Nat × Bool)) {s : State}
    (hc : Within 0x100100000013 M) (hk : Frame M base s) : Frame M base (auxIdleScan n codes s) := by
  unfold auxIdleScan
  with_reducible repeat' first
      | assumption | apply Frame.refl | intro _
      | apply Frame.ite | apply frame_auxWrite | apply frame_onAxis | exact hc.trans (by decide) | split

theorem frame_auxCtl {M : Nat} {base : State} {s : State} (n : Nat) (v : Nat) (hc : Within 0x100100000013 M)
    (hk : Frame M base s) : Frame M base (State.auxCtl s n v) := by
  unfold State.auxCtl
  with_reducible repeat' first
      | assumption | apply Frame.refl | intro _
      | (extract_lets +onlyGivenNames x; first
        | (apply Frame.have x; unfold x; clear x; rotate_left; intro hx; clear_value x; rotate_right)
        | clear_value x)
      | apply Frame.ite | apply frame_axisFaultIf | apply frame_onAxis | apply frame_wr | exact hc.trans (by decide)
      | split

theorem frame_axisWait {M : Nat} {base : State} {s : State} (a : Nat) (c : AxisCommand)
    (hc : Within 0x100000000 M) (hk : Frame M base s) : Frame M base (State.axisWait s a c) := by
  unfold State.axisWait
  with_reducible repeat' first
      | assumption | intro _
      | apply frame_onAxis | exact hc.trans (by decide)

theorem frame_axisTarget {M : Nat} {base : State} {s : State} (a : Nat) (v : Int) (hc : Within 0x100100000010 M)
    (hk : Frame M base s) : Frame M base (State.axisTarget s a v) := by
  unfold State.axisTarget
  with_reducible repeat' first
      | assumption | apply Frame.refl | intro _
      | (extract_lets +onlyGivenNames x; first
        | (apply Frame.have x; unfold x; clear x; rotate_left; intro hx; clear_value x; rotate_right)
        | (apply Frame.have1 x; unfold x; clear x; rotate_left; intro hx; clear_value x; rotate_right)
        | (apply Frame.have2 x; unfold x; clear x; rotate_left; intro hq; clear_value x; rotate_right)
        | (apply Frame.have3 x; unfold x; clear x; rotate_left; intro hq; clear_value x; rotate_right)
        | (apply Frame.have4 x; unfold x; clear x; rotate_left; intro hq; clear_value x; rotate_right)
        | clear_value x)
      | apply hq | apply Frame.ite | apply Frame.when | apply Frame.each | apply Frame.foldl | apply Frame.foldlFst
      | apply frame_axisWait | apply frame_raise | exact hc.trans (by decide) | split

theorem frame_motTargetHiWrite {M : Nat} {base : State} (a : Nat) (v : Nat) {s : State}
    (hc : Within 0x100100000013 M) (hk : Frame M base s) : Frame M base (motTargetHiWrite a v s) := by
  unfold motTargetHiWrite
  with_reducible repeat' first
      | assumption | apply Frame.refl
      | (extract_lets +onlyGivenNames x; first
        | (apply Frame.have x; unfold x; clear x; rotate_left; intro hx; clear_value x; rotate_right)
        | clear_value x)
      | apply Frame.ite | apply frame_axisRefused | apply frame_axisTarget | apply frame_wr
      | exact hc.trans (by decide) | split

theorem frame_axisLimits {M : Nat} {base : State} {s : State} (a : Nat) (hc : Within 0x100000000 M)
    (hk : Frame M base s) : Frame M base (State.axisLimits s a) := by
  unfold State.axisLimits
  with_reducible repeat' first
      | assumption | intro _
      | apply frame_axisWait | exact hc.trans (by decide)

theorem frame_motCtlWrite {M : Nat} {base : State} (a : Nat) (v : Nat) {s : State} (hc : Within 0x100100000017 M)
    (hk : Frame M base s) : Frame M base (motCtlWrite a v s) := by
  unfold motCtlWrite
  with_reducible repeat' first
      | assumption | apply Frame.refl | intro _
      | (extract_lets +onlyGivenNames x; first
        | (apply Frame.have x; unfold x; clear x; rotate_left; intro hx; clear_value x; rotate_right)
        | clear_value x)
      | apply Frame.ite | apply Frame.foldl | apply frame_axisFault | apply frame_bridge | apply frame_hostWord
      | apply frame_onAxis | apply frame_putAxisState | apply frame_putRemain | apply frame_sourceLost
      | apply frame_wr | exact hc.trans (by decide) | split

theorem frame_motStop {M : Nat} {base : State} (a : Nat) {s : State} (hc : Within 0x100000000 M)
    (hk : Frame M base s) : Frame M base (motStop a s) := by
  unfold motStop
  with_reducible repeat' first
      | assumption
      | apply frame_axisWait | exact hc.trans (by decide)

theorem frame_motResume {M : Nat} {base : State} (a : Nat) {s : State} (hc : Within 0x100100000010 M)
    (hk : Frame M base s) : Frame M base (motResume a s) := by
  unfold motResume
  with_reducible repeat' first
      | assumption | apply Frame.refl
      | apply Frame.ite | apply frame_axisRefused | apply frame_axisWait | exact hc.trans (by decide) | split

theorem frame_motHome {M : Nat} {base : State} (a : Nat) {s : State} (hc : Within 0x100000000 M)
    (hk : Frame M base s) : Frame M base (motHome a s) := by
  unfold motHome
  with_reducible repeat' first
      | assumption
      | apply frame_axisWait | exact hc.trans (by decide)

theorem frame_motClear {M : Nat} {base : State} (agent : Nat) (a : Nat) {s : State} (hc : Within 0x100000000 M)
    (hk : Frame M base s) : Frame M base (motClear agent a s) := by
  unfold motClear
  with_reducible repeat' first
      | assumption
      | apply frame_axisWait | exact hc.trans (by decide)

theorem frame_motZero {M : Nat} {base : State} (a : Nat) {s : State} (hc : Within 0x100000000 M)
    (hk : Frame M base s) : Frame M base (motZero a s) := by
  unfold motZero
  with_reducible repeat' first
      | assumption
      | apply frame_axisWait | exact hc.trans (by decide)

theorem frame_motAbort {M : Nat} {base : State} (a : Nat) {s : State} (hc : Within 0x100000000 M)
    (hk : Frame M base s) : Frame M base (motAbort a s) := by
  unfold motAbort
  with_reducible repeat' first
      | assumption
      | apply frame_axisWait | exact hc.trans (by decide)

theorem frame_motStandby {M : Nat} {base : State} (a : Nat) {s : State} (hc : Within 0x100100000000 M)
    (hk : Frame M base s) : Frame M base (motStandby a s) := by
  unfold motStandby
  with_reducible repeat' first
      | assumption | apply Frame.refl
      | (extract_lets +onlyGivenNames x; first
        | (apply Frame.have x; unfold x; clear x; rotate_left; intro hx; clear_value x; rotate_right)
        | clear_value x)
      | apply Frame.ite | apply frame_standbyNow | exact hc.trans (by decide) | split

theorem frame_motHomeSwitch {M : Nat} {base : State} (a : Nat) (high : Bool) {s : State}
    (hc : Within 0x100100000013 M) (hk : Frame M base s) : Frame M base (motHomeSwitch a high s) := by
  unfold motHomeSwitch
  with_reducible repeat' first
      | assumption | apply Frame.refl | intro _
      | (extract_lets +onlyGivenNames x; first
        | (apply Frame.have x; unfold x; clear x; rotate_left; intro hx; clear_value x; rotate_right)
        | clear_value x)
      | apply Frame.ite | apply frame_homeFound | apply frame_onAxis | exact hc.trans (by decide) | split

theorem frame_motBridgeFault {M : Nat} {base : State} (a : Nat) (high : Bool) {s : State}
    (hc : Within 0x100100000013 M) (hk : Frame M base s) : Frame M base (motBridgeFault a high s) := by
  unfold motBridgeFault
  with_reducible repeat' first
      | assumption | apply Frame.refl | intro _
      | (extract_lets +onlyGivenNames x; first
        | (apply Frame.have x; unfold x; clear x; rotate_left; intro hx; clear_value x; rotate_right)
        | clear_value x)
      | apply Frame.ite | apply frame_axisFaultIf | apply frame_onAxis | exact hc.trans (by decide) | split

theorem frame_motServoWrite {M : Nat} {base : State} (v : Nat) {s : State} (hc : Within 0x100000000013 M)
    (hk : Frame M base s) : Frame M base (motServoWrite v s) := by
  unfold motServoWrite
  with_reducible repeat' first
      | assumption | apply Frame.refl | intro _
      | apply Frame.ite | apply frame_raise | apply frame_wr | exact hc.trans (by decide) | split

theorem frame_motPairRead {M : Nat} {base : State} (agent : Nat) (a : Nat) (remaining : Bool) (sub : Nat)
    (width : Nat) {s : State} (hc : Within 0x100000000018 M) (hk : Frame M base s) :
    Frame M base (motPairRead agent a remaining sub width s) := by
  unfold motPairRead
  with_reducible repeat' first
      | assumption | apply Frame.refl
      | apply Frame.ite | apply frame_readPair | exact hc.trans (by decide) | split

theorem frame_motRefclkLost {M : Nat} {base : State} {s : State} (hc : Within 0x100100000013 M)
    (hk : Frame M base s) : Frame M base (State.motRefclkLost s) := by
  unfold State.motRefclkLost
  with_reducible repeat' first
      | assumption | apply Frame.refl | intro _
      | apply Frame.each | apply frame_axisFaultIf | exact hc.trans (by decide)

theorem frame_motDomainOff {M : Nat} {base : State} {s : State} (hc : Within 0x100100000013 M) (hk : Frame M base s) :
    Frame M base (State.motDomainOff s) := by
  unfold State.motDomainOff
  with_reducible repeat' first
      | assumption | apply Frame.refl | intro _
      | apply Frame.each | apply frame_axisFaultIf | exact hc.trans (by decide)

/-! ## Beryl -/

theorem frame_putPort {M : Nat} {base : State} {s : State} (p : Nat) (x : BrPort) (hc : Within 0x40000000 M)
    (hk : Frame M base s) : Frame M base (State.putPort s p x) := by
  unfold State.putPort
  with_reducible repeat' first
      | assumption
      | exact hc.trans (by decide) | exact hc.bit (by decide) | apply Frame.set_beryl

theorem frame_onPort {M : Nat} {base : State} {s : State} (p : Nat) (f : BrPort → BrPort)
    (hc : Within 0x40000000 M) (hk : Frame M base s) : Frame M base (State.onPort s p f) := by
  unfold State.onPort
  with_reducible repeat' first
      | assumption
      | apply frame_putPort | exact hc.trans (by decide)

theorem frame_br? {M : Nat} {base : State} {s : State} (p : Nat) (hc : Within 0x2 M) (hk : Frame M base s) :
    Frame M base (State.br? s p) := by
  unfold State.br?
  with_reducible repeat' first
      | assumption
      | exact hc.trans (by decide) | exact hc.bit (by decide) | apply Frame.set_force

theorem frame_brShow {M : Nat} {base : State} {s : State} (p : Nat) (hc : Within 0x3 M) (hk : Frame M base s) :
    Frame M base (State.brShow s p) := by
  unfold State.brShow
  with_reducible repeat' first
      | assumption | intro _
      | (extract_lets +onlyGivenNames x; first
        | (apply Frame.have x; unfold x; clear x; rotate_left; intro hx; clear_value x; rotate_right)
        | clear_value x)
      | apply Frame.foldl | apply frame_br? | apply frame_wr | apply frame_wrB | exact hc.trans (by decide)

theorem frame_putPortState {M : Nat} {base : State} {s : State} (p : Nat) (st : Nat) (hc : Within 0x3 M)
    (hk : Frame M base s) : Frame M base (State.putPortState s p st) := by
  unfold State.putPortState
  with_reducible repeat' first
      | assumption
      | apply frame_wr | exact hc.trans (by decide)

theorem frame_brCommand {M : Nat} {base : State} {s : State} (p : Nat) (closed : Bool)
    (hc : Within 0x100140000012 M) (hk : Frame M base s) : Frame M base (State.brCommand s p closed) := by
  unfold State.brCommand
  with_reducible repeat' first
      | assumption | apply Frame.refl | intro _
      | (extract_lets +onlyGivenNames x; first
        | (apply Frame.have x; unfold x; clear x; rotate_left; intro hx; clear_value x; rotate_right)
        | clear_value x)
      | apply Frame.ite | apply frame_axisTarget | apply frame_br? | apply frame_onPort | exact hc.trans (by decide)
      | split

theorem frame_recalEnd {M : Nat} {base : State} {s : State} (p : Nat) (outcome : Nat)
    (hc : Within 0x100040000013 M) (hk : Frame M base s) : Frame M base (State.recalEnd s p outcome) := by
  unfold State.recalEnd
  with_reducible repeat' first
      | assumption | apply Frame.refl | intro _
      | (extract_lets +onlyGivenNames x; first
        | (apply Frame.have x; unfold x; clear x; rotate_left; intro hx; clear_value x; rotate_right)
        | clear_value x)
      | apply Frame.ite | apply frame_brShow | apply frame_onPort | apply frame_raise | apply frame_wr
      | exact hc.trans (by decide) | split

theorem frame_brOpening {M : Nat} {base : State} {s : State} (p : Nat) (hc : Within 0x100140000013 M)
    (hk : Frame M base s) : Frame M base (State.brOpening s p) := by
  unfold State.brOpening
  with_reducible repeat' first
      | assumption | apply Frame.refl
      | (extract_lets +onlyGivenNames x; first
        | (apply Frame.have x; unfold x; clear x; rotate_left; intro hx; clear_value x; rotate_right)
        | clear_value x)
      | apply Frame.ite | apply frame_brCommand | apply frame_putPortState | apply frame_raise | apply frame_recalEnd
      | exact hc.trans (by decide) | split

theorem frame_brAxisFailure {M : Nat} {base : State} {s : State} (p : Nat) (hc : Within 0x100140000013 M)
    (hk : Frame M base s) : Frame M base (State.brAxisFailure s p) := by
  unfold State.brAxisFailure
  with_reducible repeat' first
      | assumption | apply Frame.refl
      | apply frame_brOpening | apply frame_putPortState | apply frame_raise | apply frame_recalEnd
      | exact hc.trans (by decide) | split

theorem frame_brConfirm {M : Nat} {base : State} {s : State} (p : Nat) (hc : Within 0x40000003 M)
    (hk : Frame M base s) : Frame M base (State.brConfirm s p) := by
  unfold State.brConfirm
  with_reducible repeat' first
      | assumption | intro _
      | apply frame_onPort | apply frame_wr | exact hc.trans (by decide)

theorem frame_brOpenSettled {M : Nat} {base : State} {s : State} (p : Nat) (hc : Within 0x40000003 M)
    (hk : Frame M base s) : Frame M base (State.brOpenSettled s p) := by
  unfold State.brOpenSettled
  with_reducible repeat' first
      | assumption | apply Frame.refl | intro _
      | apply Frame.ite | apply frame_br? | apply frame_brConfirm | apply frame_onPort | apply frame_putPortState
      | exact hc.trans (by decide) | split

theorem frame_brAxisStep {M : Nat} {base : State} {s : State} (p : Nat) (hc : Within 0x100140000013 M)
    (hk : Frame M base s) : Frame M base (State.brAxisStep s p) := by
  unfold State.brAxisStep
  with_reducible repeat' first
      | assumption | apply Frame.refl | intro _
      | (extract_lets +onlyGivenNames x; first
        | (apply Frame.have x; unfold x; clear x; rotate_left; intro hx; clear_value x; rotate_right)
        | clear_value x)
      | apply Frame.ite | apply frame_brAxisFailure | apply frame_brConfirm | apply frame_brOpenSettled
      | apply frame_onPort | apply frame_putPortState | apply frame_raise | exact hc.trans (by decide) | split

theorem frame_brAxes {M : Nat} {base : State} {s : State} (hc : Within 0x100140000013 M) (hk : Frame M base s) :
    Frame M base (State.brAxes s) := by
  unfold State.brAxes
  with_reducible repeat' first
      | assumption | apply Frame.refl | intro _
      | apply Frame.each | apply frame_brAxisStep | exact hc.trans (by decide)

theorem frame_brDue {M : Nat} {base : State} {s : State} (p : Nat) (hc : Within 0x40000003 M) (hk : Frame M base s) :
    Frame M base (State.brDue s p) := by
  unfold State.brDue
  with_reducible repeat' first
      | assumption | intro _
      | apply frame_brShow | apply frame_onPort | exact hc.trans (by decide)

theorem frame_brEnable {M : Nat} {base : State} {s : State} (p : Nat) (hc : Within 0x100040000013 M)
    (hk : Frame M base s) : Frame M base (State.brEnable s p) := by
  unfold State.brEnable
  with_reducible repeat' first
      | assumption | apply Frame.refl | intro _
      | (extract_lets +onlyGivenNames x; first
        | (apply Frame.have x; unfold x; clear x; rotate_left; intro hx; clear_value x; rotate_right)
        | clear_value x)
      | apply Frame.ite | apply frame_brDue | apply frame_emit | apply frame_frame | apply frame_onPort
      | apply frame_putPortState | apply frame_raise | apply frame_wr | exact hc.trans (by decide) | split

theorem frame_brDisable {M : Nat} {base : State} {s : State} (p : Nat) (hc : Within 0x100140000013 M)
    (hk : Frame M base s) : Frame M base (State.brDisable s p) := by
  unfold State.brDisable
  with_reducible repeat' first
      | assumption | apply Frame.refl | intro _
      | (extract_lets +onlyGivenNames x; first
        | (apply Frame.have x; unfold x; clear x; rotate_left; intro hx; clear_value x; rotate_right)
        | clear_value x)
      | apply Frame.ite | apply frame_br? | apply frame_brCommand | apply frame_brShow | apply frame_emit
      | apply frame_frame | apply frame_onPort | apply frame_putPortState | apply frame_recalEnd | apply frame_wr
      | exact hc.trans (by decide) | exact hc.bit (by decide) | split | apply Frame.set_beryl

theorem frame_brTakeEn {M : Nat} {base : State} {s : State} (p : Nat) (hc : Within 0x100140000013 M)
    (hk : Frame M base s) : Frame M base (State.brTakeEn s p) := by
  unfold State.brTakeEn
  with_reducible repeat' first
      | assumption | apply Frame.refl | intro _
      | apply Frame.ite | apply frame_brDisable | apply frame_brEnable | apply frame_onPort
      | exact hc.trans (by decide) | split

theorem frame_brLit {M : Nat} {base : State} {s : State} (hc : Within 0x100040000013 M) (hk : Frame M base s) :
    Frame M base (State.brLit s) := by
  unfold State.brLit
  with_reducible repeat' first
      | assumption | apply Frame.refl | intro _
      | apply Frame.ite | apply Frame.each | apply frame_brEnable | exact hc.trans (by decide) | split

theorem frame_putBrEntry {M : Nat} {base : State} {s : State} (p : Nat) (plane : Nat) (i : Nat) (v : Nat)
    (hc : Within 0x40000000 M) (hk : Frame M base s) : Frame M base (State.putBrEntry s p plane i v) := by
  unfold State.putBrEntry
  with_reducible repeat' first
      | assumption
      | exact hc.trans (by decide) | exact hc.bit (by decide) | apply Frame.set_beryl

theorem frame_brXferAdvance {M : Nat} {base : State} {s : State} (p : Nat) (w : Nat) (hc : Within 0x3 M)
    (hk : Frame M base s) : Frame M base (State.brXferAdvance s p w) := by
  unfold State.brXferAdvance
  with_reducible repeat' first
      | assumption | apply Frame.refl | intro _
      | (extract_lets +onlyGivenNames x; first
        | (apply Frame.have x; unfold x; clear x; rotate_left; intro hx; clear_value x; rotate_right)
        | (apply Frame.have1 x; unfold x; clear x; rotate_left; intro hx; clear_value x; rotate_right)
        | (apply Frame.have2 x; unfold x; clear x; rotate_left; intro hq; clear_value x; rotate_right)
        | (apply Frame.have3 x; unfold x; clear x; rotate_left; intro hq; clear_value x; rotate_right)
        | (apply Frame.have4 x; unfold x; clear x; rotate_left; intro hq; clear_value x; rotate_right)
        | clear_value x)
      | apply hq | apply Frame.ite | apply Frame.when | apply Frame.each | apply Frame.foldl | apply Frame.foldlFst
      | apply frame_wr | exact hc.trans (by decide) | split

theorem frame_brXferRead {M : Nat} {base : State} (p : Nat) (w : Nat) {s : State} (hc : Within 0x100000000013 M)
    (hk : Frame M base s) : Frame M base ((brXferRead p w s).1) := by
  unfold brXferRead
  with_reducible repeat' first
      | assumption | apply Frame.refl
      | (extract_lets +onlyGivenNames x; first
        | (apply Frame.have x; unfold x; clear x; rotate_left; intro hx; clear_value x; rotate_right)
        | clear_value x)
      | apply Frame.ite | apply frame_brXferAdvance | apply frame_raise | exact hc.trans (by decide) | split

theorem frame_brXferWrite {M : Nat} {base : State} (p : Nat) (w : Nat) (v : Nat) {s : State}
    (hc : Within 0x100040000013 M) (hk : Frame M base s) : Frame M base (brXferWrite p w v s) := by
  unfold brXferWrite
  with_reducible repeat' first
      | assumption | apply Frame.refl | intro _
      | (extract_lets +onlyGivenNames x; first
        | (apply Frame.have x; unfold x; clear x; rotate_left; intro hx; clear_value x; rotate_right)
        | clear_value x)
      | apply Frame.ite | apply frame_brXferAdvance | apply frame_onPort | apply frame_putBrEntry | apply frame_raise
      | exact hc.trans (by decide) | split

theorem frame_windowAccess {M : Nat} {base : State} (agent : Nat) (port : Option Nat) (w : Nat) (sub : Nat)
    (width : Nat) (value : Option Nat) {s : State} (hc : Within 0x100040100013 M) (hk : Frame M base s) :
    Frame M base (windowAccess agent port w sub width value s) := by
  unfold windowAccess
  with_reducible repeat' first
      | assumption | apply Frame.refl | intro _
      | (extract_lets +onlyGivenNames x; first
        | (apply Frame.have x; unfold x; clear x; rotate_left; intro hx; clear_value x; rotate_right)
        | clear_value x)
      | apply Frame.ite | apply frame_brXferRead | apply frame_brXferWrite | apply frame_readAccess
      | apply frame_storeAccess | apply frame_xferWindowAccess | exact hc.trans (by decide) | split

theorem frame_brSend {M : Nat} {base : State} {s : State} (p : Nat) (word : Nat) (hc : Within 0x100000000000 M)
    (hk : Frame M base s) : Frame M base (State.brSend s p word) := by
  unfold State.brSend
  with_reducible repeat' first
      | assumption
      | (extract_lets +onlyGivenNames x; first
        | (apply Frame.have x; unfold x; clear x; rotate_left; intro hx; clear_value x; rotate_right)
        | clear_value x)
      | apply frame_emit | exact hc.trans (by decide)

theorem frame_brThermal {M : Nat} {base : State} {s : State} (p : Nat) (hc : Within 0x40000003 M)
    (hk : Frame M base s) : Frame M base (State.brThermal s p) := by
  unfold State.brThermal
  with_reducible repeat' first
      | assumption | apply Frame.refl
      | (extract_lets +onlyGivenNames x; first
        | (apply Frame.have x; unfold x; clear x; rotate_left; intro hx; clear_value x; rotate_right)
        | clear_value x)
      | apply Frame.ite | apply frame_br? | apply frame_brDue | exact hc.trans (by decide) | split

theorem frame_brTa {M : Nat} {base : State} {s : State} (p : Nat) (ta : Int) (hc : Within 0x40000003 M)
    (hk : Frame M base s) : Frame M base (State.brTa s p ta) := by
  unfold State.brTa
  with_reducible repeat' first
      | assumption | intro _
      | (extract_lets +onlyGivenNames x; first
        | (apply Frame.have x; unfold x; clear x; rotate_left; intro hx; clear_value x; rotate_right)
        | clear_value x)
      | apply frame_brThermal | apply frame_onPort | apply frame_wr | apply frame_wrS | exact hc.trans (by decide)

theorem frame_brAskTa {M : Nat} {base : State} {s : State} (p : Nat) (hc : Within 0x100040000003 M)
    (hk : Frame M base s) : Frame M base (State.brAskTa s p) := by
  unfold State.brAskTa
  with_reducible repeat' first
      | assumption | apply Frame.refl | intro _
      | (extract_lets +onlyGivenNames x; first
        | (apply Frame.have x; unfold x; clear x; rotate_left; intro hx; clear_value x; rotate_right)
        | clear_value x)
      | apply Frame.ite | apply frame_br? | apply frame_brSend | apply frame_brTa | apply frame_onPort
      | exact hc.trans (by decide) | split

theorem frame_arrayTemperatureRead {M : Nat} {base : State} (p : Nat) (w : Nat) {s : State}
    (hc : Within 0x100040000003 M) (hk : Frame M base s) : Frame M base (arrayTemperatureRead p w s) := by
  unfold arrayTemperatureRead
  with_reducible repeat' first
      | assumption | apply Frame.refl | intro _
      | (extract_lets +onlyGivenNames x; first
        | (apply Frame.have x; unfold x; clear x; rotate_left; intro hx; clear_value x; rotate_right)
        | clear_value x)
      | apply Frame.ite | apply frame_br? | apply frame_brSend | apply frame_brTa | apply frame_onPort
      | exact hc.trans (by decide) | split

theorem frame_berylSpiGo {M : Nat} {base : State} (p : Nat) (v : Nat) {s : State} (hc : Within 0x100040000007 M)
    (hk : Frame M base s) : Frame M base (berylSpiGo p v s) := by
  unfold berylSpiGo
  with_reducible repeat' first
      | assumption | apply Frame.refl | intro _
      | (extract_lets +onlyGivenNames x; first
        | (apply Frame.have x; unfold x; clear x; rotate_left; intro hx; clear_value x; rotate_right)
        | clear_value x)
      | apply Frame.ite | apply frame_brSend | apply frame_hostWord | apply frame_onPort | apply frame_wr
      | exact hc.trans (by decide) | split

theorem frame_spiDone {M : Nat} {base : State} (p : Nat) (rx : Nat) {s : State} (hc : Within 0x100040000013 M)
    (hk : Frame M base s) : Frame M base (spiDone p rx s) := by
  unfold spiDone
  with_reducible repeat' first
      | assumption | apply Frame.refl | intro _
      | (extract_lets +onlyGivenNames x; first
        | (apply Frame.have x; unfold x; clear x; rotate_left; intro hx; clear_value x; rotate_right)
        | clear_value x)
      | apply Frame.ite | apply frame_br? | apply frame_brSend | apply frame_onPort | apply frame_raise
      | apply frame_wr | exact hc.trans (by decide) | split

theorem frame_brFrontEnd {M : Nat} {base : State} {s : State} (hc : Within 0x100040000003 M) (hk : Frame M base s) :
    Frame M base (State.brFrontEnd s) := by
  unfold State.brFrontEnd
  with_reducible repeat' first
      | assumption | apply Frame.refl | intro _
      | apply Frame.ite | apply Frame.each | apply frame_br? | apply frame_brAskTa | exact hc.trans (by decide)
      | split

theorem frame_brCloseItem {M : Nat} {base : State} {s : State} (p : Nat) (time : Nat) (i : BrItem)
    (hc : Within 0x10001c000013 M) (hk : Frame M base s) : Frame M base (State.brCloseItem s p time i) := by
  unfold State.brCloseItem
  with_reducible repeat' first
      | assumption
      | apply frame_stage | exact hc.trans (by decide)

theorem frame_brTruncate {M : Nat} {base : State} {s : State} (p : Nat) (hc : Within 0x18005c000013 M)
    (hk : Frame M base s) : Frame M base (State.brTruncate s p) := by
  unfold State.brTruncate
  with_reducible repeat' first
      | assumption | apply Frame.refl | intro _
      | (extract_lets +onlyGivenNames x; first
        | (apply Frame.have x; unfold x; clear x; rotate_left; intro hx; clear_value x; rotate_right)
        | (apply Frame.have1 x; unfold x; clear x; rotate_left; intro hx; clear_value x; rotate_right)
        | (apply Frame.have2 x; unfold x; clear x; rotate_left; intro hq; clear_value x; rotate_right)
        | (apply Frame.have3 x; unfold x; clear x; rotate_left; intro hq; clear_value x; rotate_right)
        | (apply Frame.have4 x; unfold x; clear x; rotate_left; intro hq; clear_value x; rotate_right)
        | clear_value x)
      | apply hq | apply Frame.ite | apply Frame.when | apply Frame.each | apply Frame.foldl | apply Frame.foldlFst
      | apply frame_brCloseItem | apply frame_onPort | apply frame_take | exact hc.trans (by decide) | split

theorem frame_brRunStop {M : Nat} {base : State} {s : State} (hc : Within 0x18005c000013 M) (hk : Frame M base s) :
    Frame M base (State.brRunStop s) := by
  unfold State.brRunStop
  with_reducible repeat' first
      | assumption | apply Frame.refl | intro _
      | apply Frame.each | apply frame_brTruncate | apply frame_frame | apply frame_onPort
      | exact hc.trans (by decide)

theorem frame_brCommitItems {M : Nat} {base : State} {s : State} (p : Nat) (l : List BrItem)
    (hc : Within 0x100040000013 M) (hk : Frame M base s) : Frame M base (State.brCommitItems s p l) := by
  unfold State.brCommitItems
  with_reducible repeat' first
      | assumption | apply Frame.refl | intro _
      | (extract_lets +onlyGivenNames x; first
        | (apply Frame.have x; unfold x; clear x; rotate_left; intro hx; clear_value x; rotate_right)
        | clear_value x)
      | apply Frame.ite | apply Frame.each | apply frame_incSat | apply frame_onPort | apply frame_raise
      | exact hc.trans (by decide) | split

theorem frame_brCloseItems {M : Nat} {base : State} {s : State} (p : Nat) (time : Nat) (least : Option Int)
    (hc : Within 0x10005c000013 M) (hk : Frame M base s) : Frame M base (State.brCloseItems s p time least) := by
  unfold State.brCloseItems
  with_reducible repeat' first
      | assumption | apply Frame.refl | intro _
      | (extract_lets +onlyGivenNames x; first
        | (apply Frame.have x; unfold x; clear x; rotate_left; intro hx; clear_value x; rotate_right)
        | clear_value x)
      | apply Frame.ite | apply Frame.each | apply Frame.foldl | apply frame_brCloseItem | apply frame_onPort
      | exact hc.trans (by decide) | split

theorem frame_brRegions {M : Nat} {base : State} {s : State} (p : Nat) (f : BrFrame) (px : List (List BrPixel))
    (hc : Within 0x18001c000013 M) (hk : Frame M base s) : Frame M base (State.brRegions s p f px) := by
  unfold State.brRegions
  with_reducible repeat' first
      | assumption | apply Frame.refl | intro _
      | (extract_lets +onlyGivenNames x; first
        | (apply Frame.have x; unfold x; clear x; rotate_left; intro hx; clear_value x; rotate_right)
        | (apply Frame.have1 x; unfold x; clear x; rotate_left; intro hx; clear_value x; rotate_right)
        | (apply Frame.have2 x; unfold x; clear x; rotate_left; intro hq; clear_value x; rotate_right)
        | (apply Frame.have3 x; unfold x; clear x; rotate_left; intro hq; clear_value x; rotate_right)
        | (apply Frame.have4 x; unfold x; clear x; rotate_left; intro hq; clear_value x; rotate_right)
        | clear_value x)
      | apply hq | apply Frame.ite | apply Frame.when | apply Frame.each | apply Frame.foldl | apply Frame.foldlFst
      | apply frame_br? | apply frame_frame | apply frame_stage | apply frame_take | exact hc.trans (by decide)
      | split

theorem frame_brPass {M : Nat} {base : State} {s : State} (p : Nat) (log : Nat) (hc : Within 0x100140000013 M)
    (hk : Frame M base s) : Frame M base (State.brPass s p log) := by
  unfold State.brPass
  with_reducible repeat' first
      | assumption | apply Frame.refl | intro _
      | (extract_lets +onlyGivenNames x; first
        | (apply Frame.have x; unfold x; clear x; rotate_left; intro hx; clear_value x; rotate_right)
        | clear_value x)
      | apply Frame.ite | apply Frame.when | apply Frame.each | apply frame_br? | apply frame_brOpening
      | apply frame_log | apply frame_onPort | apply frame_putBrEntry | apply frame_raise | apply frame_recalEnd
      | apply frame_wr | apply frame_wrB | apply frame_wrS | exact hc.trans (by decide) | split

theorem frame_brClosedFrame {M : Nat} {base : State} {s : State} (p : Nat) (f : BrFrame)
    (hc : Within 0x100140000013 M) (hk : Frame M base s) : Frame M base (State.brClosedFrame s p f) := by
  unfold State.brClosedFrame
  with_reducible repeat' first
      | assumption | apply Frame.refl | intro _
      | (extract_lets +onlyGivenNames x; first
        | (apply Frame.have x; unfold x; clear x; rotate_left; intro hx; clear_value x; rotate_right)
        | clear_value x)
      | apply Frame.ite | apply Frame.when | apply frame_br? | apply frame_brPass | apply frame_log
      | apply frame_onPort | apply frame_raise | exact hc.trans (by decide) | split

theorem frame_brDiscard {M : Nat} {base : State} {s : State} (p : Nat) (lost : Bool)
    (hc : Within 0x100040000013 M) (hk : Frame M base s) : Frame M base (State.brDiscard s p lost) := by
  unfold State.brDiscard
  with_reducible repeat' first
      | assumption | apply Frame.refl | intro _
      | (extract_lets +onlyGivenNames x; first
        | (apply Frame.have x; unfold x; clear x; rotate_left; intro hx; clear_value x; rotate_right)
        | clear_value x)
      | apply Frame.ite | apply frame_frame | apply frame_incSat | apply frame_onPort | apply frame_raise
      | exact hc.trans (by decide) | split

theorem frame_brSnapshot {M : Nat} {base : State} {s : State} (p : Nat) (px : List (List BrPixel))
    (hc : Within 0x100040000013 M) (hk : Frame M base s) : Frame M base (State.brSnapshot s p px) := by
  unfold State.brSnapshot
  with_reducible repeat' first
      | assumption | apply Frame.refl | intro _
      | (extract_lets +onlyGivenNames x; first
        | (apply Frame.have x; unfold x; clear x; rotate_left; intro hx; clear_value x; rotate_right)
        | clear_value x)
      | apply Frame.ite | apply frame_raise | apply frame_wr | exact hc.trans (by decide) | exact hc.bit (by decide)
      | split | apply Frame.set_beryl

theorem frame_brFrameEnd {M : Nat} {base : State} {s : State} (p : Nat) (f : BrFrame)
    (hc : Within 0x18015c000013 M) (hk : Frame M base s) : Frame M base (State.brFrameEnd s p f) := by
  unfold State.brFrameEnd
  with_reducible repeat' first
      | assumption | apply Frame.refl | intro _
      | (extract_lets +onlyGivenNames x; first
        | (apply Frame.have x; unfold x; clear x; rotate_left; intro hx; clear_value x; rotate_right)
        | clear_value x)
      | apply Frame.ite | apply Frame.foldl | apply frame_br? | apply frame_brCloseItems | apply frame_brClosedFrame
      | apply frame_brCommitItems | apply frame_brOpenSettled | apply frame_brRegions | apply frame_brSnapshot
      | apply frame_frame | apply frame_inc | apply frame_onPort | apply frame_putPortState | apply frame_unmapped
      | exact hc.trans (by decide) | split

theorem frame_brEndFrame {M : Nat} {base : State} {s : State} (p : Nat) (hc : Within 0x18015c000013 M)
    (hk : Frame M base s) : Frame M base (State.brEndFrame s p) := by
  unfold State.brEndFrame
  with_reducible repeat' first
      | assumption | apply Frame.refl
      | apply frame_brFrameEnd | exact hc.trans (by decide) | split

theorem frame_brSettle {M : Nat} {base : State} {s : State} (p : Nat) (hc : Within 0x40000003 M)
    (hk : Frame M base s) : Frame M base (State.brSettle s p) := by
  unfold State.brSettle
  with_reducible repeat' first
      | assumption | apply Frame.refl | intro _
      | (extract_lets +onlyGivenNames x; first
        | (apply Frame.have x; unfold x; clear x; rotate_left; intro hx; clear_value x; rotate_right)
        | clear_value x)
      | apply Frame.ite | apply frame_brShow | apply frame_onPort | exact hc.trans (by decide) | split

theorem frame_brFsync {M : Nat} {base : State} {s : State} (p : Nat) (hc : Within 0x18015c000013 M)
    (hk : Frame M base s) : Frame M base (State.brFsync s p) := by
  unfold State.brFsync
  with_reducible repeat' first
      | assumption | apply Frame.refl | intro _
      | (extract_lets +onlyGivenNames x; first
        | (apply Frame.have x; unfold x; clear x; rotate_left; intro hx; clear_value x; rotate_right)
        | clear_value x)
      | apply Frame.ite | apply Frame.each | apply frame_brAskTa | apply frame_brDiscard | apply frame_brEndFrame
      | apply frame_brSettle | apply frame_brTakeEn | apply frame_frame | apply frame_onPort
      | exact hc.trans (by decide) | exact hc.bit (by decide) | split | apply Frame.set_beryl

theorem frame_berylFsync {M : Nat} {base : State} (p : Nat) {s : State} (hc : Within 0x18015c000013 M)
    (hk : Frame M base s) : Frame M base (berylFsync p s) := by
  unfold berylFsync
  with_reducible repeat' first
      | assumption
      | apply frame_brFsync | exact hc.trans (by decide)

theorem frame_bvcCapture {M : Nat} {base : State} {s : State} (n : Nat) (c : Nat × Bool) (hc : Within 0x3 M)
    (hk : Frame M base s) : Frame M base (State.bvcCapture s n c) := by
  unfold State.bvcCapture
  with_reducible repeat' first
      | assumption
      | (extract_lets +onlyGivenNames x; first
        | (apply Frame.have x; unfold x; clear x; rotate_left; intro hx; clear_value x; rotate_right)
        | clear_value x)
      | apply frame_wr | apply frame_wrB | exact hc.trans (by decide)

theorem frame_bvcRow {M : Nat} {base : State} {s : State} (n : Nat) (v : Option Nat) (l : List (Nat × Bool))
    (hc : Within 0x40000003 M) (hk : Frame M base s) : Frame M base (State.bvcRow s n v l) := by
  unfold State.bvcRow
  with_reducible repeat' first
      | assumption | apply Frame.refl | intro _
      | apply Frame.ite | apply Frame.each | apply frame_bvcCapture | exact hc.trans (by decide)
      | exact hc.bit (by decide) | split | apply Frame.set_beryl

theorem frame_bvcCtl {M : Nat} {base : State} {s : State} (n : Nat) (v : Nat) (hc : Within 0x40000003 M)
    (hk : Frame M base s) : Frame M base (State.bvcCtl s n v) := by
  unfold State.bvcCtl
  with_reducible repeat' first
      | assumption | apply Frame.refl
      | apply Frame.ite | apply frame_wr | exact hc.trans (by decide) | exact hc.bit (by decide) | split
      | apply Frame.set_beryl

theorem frame_bvcFreeConvert {M : Nat} {base : State} (n : Nat) (c : Nat × Bool) {s : State} (hc : Within 0x3 M)
    (hk : Frame M base s) : Frame M base (bvcFreeConvert n c s) := by
  unfold bvcFreeConvert
  with_reducible repeat' first
      | assumption | apply Frame.refl
      | apply Frame.ite | apply frame_bvcCapture | exact hc.trans (by decide) | split

theorem frame_bvcDataRead {M : Nat} {base : State} (agent : Nat) (n : Nat) (sub : Nat) (width : Nat) {s : State}
    (hc : Within 0x100000000013 M) (hk : Frame M base s) : Frame M base (bvcDataRead agent n sub width s) := by
  unfold bvcDataRead
  with_reducible repeat' first
      | assumption | apply Frame.refl | intro _
      | (extract_lets +onlyGivenNames x; first
        | (apply Frame.have x; unfold x; clear x; rotate_left; intro hx; clear_value x; rotate_right)
        | (apply Frame.have1 x; unfold x; clear x; rotate_left; intro hx; clear_value x; rotate_right)
        | (apply Frame.have2 x; unfold x; clear x; rotate_left; intro hq; clear_value x; rotate_right)
        | (apply Frame.have3 x; unfold x; clear x; rotate_left; intro hq; clear_value x; rotate_right)
        | (apply Frame.have4 x; unfold x; clear x; rotate_left; intro hq; clear_value x; rotate_right)
        | clear_value x)
      | apply hq | apply Frame.ite | apply Frame.when | apply Frame.each | apply Frame.foldl | apply Frame.foldlFst
      | apply frame_readAccess | apply frame_wr | exact hc.trans (by decide) | split

theorem frame_bvcRows {M : Nat} {base : State} {s : State} (p : Nat) (a : List (Nat × Bool)) (b : List
    (Nat × Bool)) (hc : Within 0x40000003 M) (hk : Frame M base s) : Frame M base (State.bvcRows s p a b) := by
  unfold State.bvcRows
  with_reducible repeat' first
      | assumption | intro _
      | (extract_lets +onlyGivenNames x; first
        | (apply Frame.have x; unfold x; clear x; rotate_left; intro hx; clear_value x; rotate_right)
        | clear_value x)
      | apply frame_bvcRow | apply frame_onPort | exact hc.trans (by decide)

theorem frame_berylLsync {M : Nat} {base : State} (p : Nat) (a : List (Nat × Bool)) (b : List (Nat × Bool))
    (full : Bool) {s : State} (hc : Within 0x100040000013 M) (hk : Frame M base s) :
    Frame M base (berylLsync p a b full s) := by
  unfold berylLsync
  with_reducible repeat' first
      | assumption | apply Frame.refl | intro _
      | (extract_lets +onlyGivenNames x; first
        | (apply Frame.have x; unfold x; clear x; rotate_left; intro hx; clear_value x; rotate_right)
        | clear_value x)
      | apply Frame.ite | apply Frame.when | apply frame_br? | apply frame_brDiscard | apply frame_bvcRows
      | apply frame_frame | apply frame_onPort | apply frame_raise | exact hc.trans (by decide) | split

theorem frame_berylSyncTimeout {M : Nat} {base : State} (p : Nat) {s : State} (hc : Within 0x100140000013 M)
    (hk : Frame M base s) : Frame M base (berylSyncTimeout p s) := by
  unfold berylSyncTimeout
  with_reducible repeat' first
      | assumption | apply Frame.refl | intro _
      | (extract_lets +onlyGivenNames x; first
        | (apply Frame.have x; unfold x; clear x; rotate_left; intro hx; clear_value x; rotate_right)
        | clear_value x)
      | apply Frame.ite | apply frame_brConfirm | apply frame_brOpening | apply frame_onPort
      | apply frame_putPortState | apply frame_raise | apply frame_recalEnd | exact hc.trans (by decide) | split

theorem frame_berylMoveTimeout {M : Nat} {base : State} (p : Nat) {s : State} (hc : Within 0x100140000013 M)
    (hk : Frame M base s) : Frame M base (berylMoveTimeout p s) := by
  unfold berylMoveTimeout
  with_reducible repeat' first
      | assumption | apply Frame.refl
      | (extract_lets +onlyGivenNames x; first
        | (apply Frame.have x; unfold x; clear x; rotate_left; intro hx; clear_value x; rotate_right)
        | clear_value x)
      | apply Frame.ite | apply frame_brAxisFailure | exact hc.trans (by decide) | split

theorem frame_berylRecalCmd {M : Nat} {base : State} (p : Nat) (v : Nat) {s : State} (hc : Within 0x40000003 M)
    (hk : Frame M base s) : Frame M base (berylRecalCmd p v s) := by
  unfold berylRecalCmd
  with_reducible repeat' first
      | assumption | apply Frame.refl
      | apply Frame.ite | apply frame_brDue | exact hc.trans (by decide) | split

theorem frame_berylRecalInterval {M : Nat} {base : State} (p : Nat) {s : State} (hc : Within 0x40000003 M)
    (hk : Frame M base s) : Frame M base (berylRecalInterval p s) := by
  unfold berylRecalInterval
  with_reducible repeat' first
      | assumption | apply Frame.refl
      | apply Frame.ite | apply frame_brDue | exact hc.trans (by decide) | split

theorem frame_berylAccTake {M : Nat} {base : State} {s : State} (hc : Within 0x100140000013 M) (hk : Frame M base s) :
    Frame M base (berylAccTake s) := by
  unfold berylAccTake
  with_reducible repeat' first
      | assumption | apply Frame.refl | intro _
      | (extract_lets +onlyGivenNames x; first
        | (apply Frame.have x; unfold x; clear x; rotate_left; intro hx; clear_value x; rotate_right)
        | clear_value x)
      | apply Frame.ite | apply frame_brAxisFailure | apply frame_brCommand | apply frame_brShow | apply frame_frame
      | apply frame_onPort | apply frame_putPortState | apply frame_wr | exact hc.trans (by decide) | split

theorem frame_berylReopen {M : Nat} {base : State} (p : Nat) (v : Nat) {s : State} (hc : Within 0x100140000013 M)
    (hk : Frame M base s) : Frame M base (berylReopen p v s) := by
  unfold berylReopen
  with_reducible repeat' first
      | assumption | apply Frame.refl
      | apply Frame.ite | apply frame_brOpening | exact hc.trans (by decide) | split

theorem frame_berylSnap {M : Nat} {base : State} (p : Nat) (v : Nat) {s : State} (hc : Within 0x100040000013 M)
    (hk : Frame M base s) : Frame M base (berylSnap p v s) := by
  unfold berylSnap
  with_reducible repeat' first
      | assumption | apply Frame.refl
      | apply Frame.ite | apply frame_raise | apply frame_wr | exact hc.trans (by decide) | exact hc.bit (by decide)
      | split | apply Frame.set_beryl

theorem frame_brDrain {M : Nat} {base : State} {s : State} (hc : Within 0x100140000013 M) (hk : Frame M base s) :
    Frame M base (State.brDrain s) := by
  unfold State.brDrain
  with_reducible repeat' first
      | assumption | apply Frame.refl | intro _
      | (extract_lets +onlyGivenNames x; first
        | (apply Frame.have x; unfold x; clear x; rotate_left; intro hx; clear_value x; rotate_right)
        | clear_value x)
      | apply Frame.ite | apply Frame.each | apply frame_brOpening | apply frame_recalEnd | exact hc.trans (by decide)
      | split

theorem frame_brOff {M : Nat} {base : State} {s : State} (hc : Within 0x18015c000013 M) (hk : Frame M base s) :
    Frame M base (State.brOff s) := by
  unfold State.brOff
  with_reducible repeat' first
      | assumption | apply Frame.refl | intro _
      | apply Frame.each | apply frame_brDisable | apply frame_brTruncate | apply frame_onPort
      | exact hc.trans (by decide)

/-! ## Capacity -/

theorem frame_capDeliver {M : Nat} {base : State} {s : State} (hc : Within 0x3 M) (hk : Frame M base s) :
    Frame M base (State.capDeliver s) := by
  unfold State.capDeliver
  with_reducible repeat' first
      | assumption | apply Frame.refl
      | (extract_lets +onlyGivenNames x; first
        | (apply Frame.have x; unfold x; clear x; rotate_left; intro hx; clear_value x; rotate_right)
        | clear_value x)
      | apply Frame.ite | apply frame_wr | exact hc.trans (by decide) | split

theorem frame_capAdmit {M : Nat} {base : State} {s : State} (hc : Within 0x3 M) (hk : Frame M base s) :
    Frame M base (State.capAdmit s) := by
  unfold State.capAdmit
  with_reducible repeat' first
      | assumption | apply Frame.refl | intro _
      | apply Frame.each | apply frame_wr | exact hc.trans (by decide)

theorem frame_capacityEvaluation {M : Nat} {base : State} {s : State} (hc : Within 0x101000000013 M)
    (hk : Frame M base s) : Frame M base (capacityEvaluation s) := by
  unfold capacityEvaluation
  with_reducible repeat' first
      | assumption | apply Frame.refl | intro _
      | (extract_lets +onlyGivenNames x; first
        | (apply Frame.have x; unfold x; clear x; rotate_left; intro hx; clear_value x; rotate_right)
        | clear_value x)
      | apply Frame.ite | apply Frame.when | apply Frame.each | apply Frame.foldl | apply frame_raise | apply frame_wr
      | apply frame_wrB | exact hc.trans (by decide) | exact hc.bit (by decide) | split | apply Frame.set_cap

theorem frame_thinFromLoRead {M : Nat} {base : State} (agent : Nat) (sub : Nat) (width : Nat) {s : State}
    (hc : Within 0x100000000018 M) (hk : Frame M base s) : Frame M base (thinFromLoRead agent sub width s) := by
  unfold thinFromLoRead
  with_reducible repeat' first
      | assumption
      | apply frame_readPair | exact hc.trans (by decide)

end Sys2Proof.Machine
end

