-- ==== Sys2Proof/Laws/FramesHost.lean ====
section
/-!
SUPPORT. The frame of each function: tenants, transfers, interrupts and pages.
-/

namespace Sys2Proof.Machine

/-! ## Tenants -/

theorem frame_unmapped {M : Nat} {base : State} {s : State} (t : Nat) (p : Nat) (hc : Within 0x100030000013 M)
    (hk : Frame M base s) : Frame M base (State.unmapped s t p) := by
  unfold State.unmapped
  with_reducible repeat' first
      | assumption | apply Frame.refl | intro _
      | apply Frame.ite | apply Frame.each | apply frame_haltChannel | exact hc.trans (by decide) | split

theorem frame_putLeaseBit {M : Nat} {base : State} {s : State} (t : Nat) (r : Nat) (b : Bool) (hc : Within 0x3 M)
    (hk : Frame M base s) : Frame M base (State.putLeaseBit s t r b) := by
  unfold State.putLeaseBit
  with_reducible repeat' first
      | assumption
      | apply frame_wr | exact hc.trans (by decide)

theorem frame_safeState {M : Nat} {base : State} {s : State} (r : Nat) (hc : Within 0x100130000013 M)
    (hk : Frame M base s) : Frame M base (State.safeState s r) := by
  unfold State.safeState
  with_reducible repeat' first
      | assumption | apply Frame.refl
      | apply Frame.ite | apply frame_axisWait | apply frame_haltChannel | exact hc.trans (by decide) | split

theorem frame_endLease {M : Nat} {base : State} {s : State} (r : Nat) (code : Nat) (agent : Nat)
    (hc : Within 0x100170000013 M) (hk : Frame M base s) : Frame M base (State.endLease s r code agent) := by
  unfold State.endLease
  with_reducible repeat' first
      | assumption | apply Frame.refl
      | (extract_lets +onlyGivenNames x; first
        | (apply Frame.have x; unfold x; clear x; rotate_left; intro hx; clear_value x; rotate_right)
        | clear_value x)
      | apply frame_brAxes | apply frame_log | apply frame_notice | apply frame_putLeaseBit | apply frame_raise
      | apply frame_safeState | apply frame_unmapped | apply frame_withIc | apply frame_wr
      | exact hc.trans (by decide) | exact hc.bit (by decide) | split | apply Frame.set_fr

theorem frame_armLease {M : Nat} {base : State} {s : State} (r : Nat) (ms : Nat) (hc : Within 0x10000000 M)
    (hk : Frame M base s) : Frame M base (State.armLease s r ms) := by
  unfold State.armLease
  with_reducible repeat' first
      | assumption
      | exact hc.trans (by decide) | exact hc.bit (by decide) | apply Frame.set_fr

theorem frame_leaseGrant {M : Nat} {base : State} (r : Nat) (t : Nat) (ms : Nat) {s : State}
    (hc : Within 0x100150000013 M) (hk : Frame M base s) : Frame M base (leaseGrant r t ms s) := by
  unfold leaseGrant
  with_reducible repeat' first
      | assumption | apply Frame.refl
      | (extract_lets +onlyGivenNames x; first
        | (apply Frame.have x; unfold x; clear x; rotate_left; intro hx; clear_value x; rotate_right)
        | clear_value x)
      | apply Frame.ite | apply frame_armLease | apply frame_brAxes | apply frame_log | apply frame_notice
      | apply frame_putLeaseBit | apply frame_raise | apply frame_withIc | apply frame_wr | exact hc.trans (by decide)
      | split

theorem frame_leaseRevoke {M : Nat} {base : State} (r : Nat) {s : State} (hc : Within 0x100170000013 M)
    (hk : Frame M base s) : Frame M base (leaseRevoke r s) := by
  unfold leaseRevoke
  with_reducible repeat' first
      | assumption
      | apply frame_endLease | exact hc.trans (by decide)

theorem frame_leaseExpiry {M : Nat} {base : State} (r : Nat) {s : State} (hc : Within 0x100170000013 M)
    (hk : Frame M base s) : Frame M base (leaseExpiry r s) := by
  unfold leaseExpiry
  with_reducible repeat' first
      | assumption | apply Frame.refl
      | (extract_lets +onlyGivenNames x; first
        | (apply Frame.have x; unfold x; clear x; rotate_left; intro hx; clear_value x; rotate_right)
        | clear_value x)
      | apply frame_endLease | apply frame_mgmtRaise | exact hc.trans (by decide) | exact hc.bit (by decide) | split
      | apply Frame.set_fr

theorem frame_leaseRenew {M : Nat} {base : State} (t : Nat) {s : State} (hc : Within 0x100010000010 M)
    (hk : Frame M base s) : Frame M base (leaseRenew t s) := by
  unfold leaseRenew
  with_reducible repeat' first
      | assumption | apply Frame.refl | intro _
      | (extract_lets +onlyGivenNames x; first
        | (apply Frame.have x; unfold x; clear x; rotate_left; intro hx; clear_value x; rotate_right)
        | clear_value x)
      | apply Frame.ite | apply Frame.when | apply Frame.each | apply frame_armLease | apply frame_raise
      | exact hc.trans (by decide) | split

theorem frame_leaseRevokeOnFault {M : Nat} {base : State} (t : Nat) {s : State} (hc : Within 0x100170000013 M)
    (hk : Frame M base s) : Frame M base (leaseRevokeOnFault t s) := by
  unfold leaseRevokeOnFault
  with_reducible repeat' first
      | assumption | apply Frame.refl | intro _
      | apply Frame.ite | apply Frame.each | apply frame_endLease | exact hc.trans (by decide) | split

theorem frame_markLeases {M : Nat} {base : State} {s : State} (t : Nat) (hc : Within 0x10000000 M)
    (hk : Frame M base s) : Frame M base (State.markLeases s t) := by
  unfold State.markLeases
  with_reducible repeat' first
      | assumption | intro _
      | (extract_lets +onlyGivenNames x; first
        | (apply Frame.have x; unfold x; clear x; rotate_left; intro hx; clear_value x; rotate_right)
        | clear_value x)
      | exact hc.trans (by decide) | exact hc.bit (by decide) | apply Frame.set_fr

theorem frame_reply {M : Nat} {base : State} {s : State} (t : Nat) (words : List Nat) (hc : Within 0x4000000000 M)
    (hk : Frame M base s) : Frame M base (State.reply s t words) := by
  unfold State.reply
  with_reducible repeat' first
      | assumption
      | exact hc.trans (by decide) | exact hc.bit (by decide) | apply Frame.set_mgmt

theorem frame_reject {M : Nat} {base : State} {s : State} (t : Nat) (reason : Nat) (hc : Within 0x4000000000 M)
    (hk : Frame M base s) : Frame M base (State.reject s t reason) := by
  unfold State.reject
  with_reducible repeat' first
      | assumption
      | apply frame_reply | exact hc.trans (by decide)

theorem frame_mailboxClear {M : Nat} {base : State} {s : State} (t : Nat) (hc : Within 0x4000000003 M)
    (hk : Frame M base s) : Frame M base (State.mailboxClear s t) := by
  unfold State.mailboxClear
  with_reducible repeat' first
      | assumption
      | (extract_lets +onlyGivenNames x; first
        | (apply Frame.have x; unfold x; clear x; rotate_left; intro hx; clear_value x; rotate_right)
        | clear_value x)
      | apply frame_wr | exact hc.trans (by decide) | exact hc.bit (by decide) | apply Frame.set_mgmt

theorem frame_negotiate {M : Nat} {base : State} {s : State} (t : Nat) (w : List Nat) (hc : Within 0x4000000000 M)
    (hk : Frame M base s) : Frame M base (State.negotiate s t w) := by
  unfold State.negotiate
  with_reducible repeat' first
      | assumption | apply Frame.refl
      | (extract_lets +onlyGivenNames x; first
        | (apply Frame.have x; unfold x; clear x; rotate_left; intro hx; clear_value x; rotate_right)
        | clear_value x)
      | apply Frame.ite | apply frame_reject | apply frame_reply | exact hc.trans (by decide) | split

theorem frame_moveTenant {M : Nat} {base : State} {s : State} (t : Nat) (x : Nat) (cause : Nat)
    (hc : Within 0x100000000013 M) (hk : Frame M base s) : Frame M base (State.moveTenant s t x cause) := by
  unfold State.moveTenant
  with_reducible repeat' first
      | assumption | apply Frame.refl | intro _
      | (extract_lets +onlyGivenNames x; first
        | (apply Frame.have x; unfold x; clear x; rotate_left; intro hx; clear_value x; rotate_right)
        | (apply Frame.have1 x; unfold x; clear x; rotate_left; intro hx; clear_value x; rotate_right)
        | (apply Frame.have2 x; unfold x; clear x; rotate_left; intro hq; clear_value x; rotate_right)
        | (apply Frame.have3 x; unfold x; clear x; rotate_left; intro hq; clear_value x; rotate_right)
        | (apply Frame.have4 x; unfold x; clear x; rotate_left; intro hq; clear_value x; rotate_right)
        | clear_value x)
      | apply hq | apply Frame.ite | apply Frame.when | apply Frame.each | apply Frame.foldl | apply Frame.foldlFst
      | apply frame_log | apply frame_putTenantState | exact hc.trans (by decide) | split

theorem frame_dropTenant {M : Nat} {base : State} {s : State} (t : Nat) (hc : Within 0x10003c000013 M)
    (hk : Frame M base s) : Frame M base (State.dropTenant s t) := by
  unfold State.dropTenant
  with_reducible repeat' first
      | assumption | apply Frame.refl | intro _
      | (extract_lets +onlyGivenNames x; first
        | (apply Frame.have x; unfold x; clear x; rotate_left; intro hx; clear_value x; rotate_right)
        | clear_value x)
      | apply Frame.each | apply frame_discardWork | apply frame_dropStaged | exact hc.trans (by decide)
      | exact hc.bit (by decide) | apply Frame.set_fr

theorem rising_filter {α : Type} (f : Nat × α → Bool) :
    (lo : Nat) → (t : Table α) → Table.rising lo t = true → Table.rising lo (t.filter f) = true
  | _, [], _ => rfl
  | lo, (i, w) :: t, h => by
    simp only [Table.rising, Bool.and_eq_true, decide_eq_true_eq] at h
    rw [List.filter_cons]
    split
    · simp only [Table.rising, Bool.and_eq_true, decide_eq_true_eq]
      exact ⟨h.1, rising_filter f (i + 1) t h.2⟩
    · exact rising_mono (by omega) _ (rising_filter f (i + 1) t h.2)

theorem frame_filterRegs {M : Nat} {base : State} {s : State} (f : Nat × Nat → Bool) (hc : Within 0x1 M)
    (hk : Frame M base s) : Frame M base (State.filterRegs s f) := by
  refine ⟨fun p hp => ?_, fun w => ⟨rising_filter f 0 _ (hk.2 w).1, (hk.2 w).2⟩⟩
  cases p
  all_goals first
    | exact hk.1 _ hp
    | exact Bool.noConfusion ((hc.bit (i := 0) (by decide)).symm.trans hp)

theorem frame_tenantRegisters {M : Nat} {base : State} {s : State} (t : Nat) (hc : Within 0x100000000013 M)
    (hk : Frame M base s) : Frame M base (State.tenantRegisters s t) := by
  unfold State.tenantRegisters
  with_reducible repeat' first
      | assumption | apply Frame.refl | intro _
      | (extract_lets +onlyGivenNames x; first
        | (apply Frame.have x; unfold x; clear x; rotate_left; intro hx; clear_value x; rotate_right)
        | clear_value x)
      | apply Frame.each | apply frame_filterRegs | apply frame_putEvents | apply frame_putLeaseBit
      | apply frame_withIc | exact hc.trans (by decide)

theorem frame_finishReset {M : Nat} {base : State} {s : State} (t : Nat) (hc : Within 0x104010000013 M)
    (hk : Frame M base s) : Frame M base (State.finishReset s t) := by
  unfold State.finishReset
  with_reducible repeat' first
      | assumption | apply Frame.refl | intro _
      | (extract_lets +onlyGivenNames x; first
        | (apply Frame.have x; unfold x; clear x; rotate_left; intro hx; clear_value x; rotate_right)
        | clear_value x)
      | apply Frame.ite | apply Frame.when | apply frame_hello | apply frame_markLeases | apply frame_moveTenant
      | apply frame_negotiate | apply frame_putTenantState | apply frame_putVersion | apply frame_raise
      | apply frame_retryStalled | apply frame_tenantRegisters | exact hc.trans (by decide) | exact hc.bit (by decide)
      | split | apply Frame.set_fr

theorem frame_drainResets {M : Nat} {base : State} {s : State} (hc : Within 0x104010000013 M) (hk : Frame M base s) :
    Frame M base (State.drainResets s) := by
  unfold State.drainResets
  with_reducible repeat' first
      | assumption | apply Frame.refl | intro _
      | apply Frame.ite | apply Frame.each | apply frame_finishReset | exact hc.trans (by decide) | split

theorem frame_resetTenant {M : Nat} {base : State} {s : State} (t : Nat) (g : TenantReset)
    (hc : Within 0x10403c000013 M) (hk : Frame M base s) : Frame M base (State.resetTenant s t g) := by
  unfold State.resetTenant
  with_reducible repeat' first
      | assumption | apply Frame.refl | intro _
      | (extract_lets +onlyGivenNames x; first
        | (apply Frame.have x; unfold x; clear x; rotate_left; intro hx; clear_value x; rotate_right)
        | (apply Frame.have1 x; unfold x; clear x; rotate_left; intro hx; clear_value x; rotate_right)
        | (apply Frame.have2 x; unfold x; clear x; rotate_left; intro hq; clear_value x; rotate_right)
        | (apply Frame.have3 x; unfold x; clear x; rotate_left; intro hq; clear_value x; rotate_right)
        | (apply Frame.have4 x; unfold x; clear x; rotate_left; intro hq; clear_value x; rotate_right)
        | clear_value x)
      | apply hq | apply Frame.ite | apply Frame.when | apply Frame.each | apply Frame.foldl | apply Frame.foldlFst
      | apply frame_drainResets | apply frame_dropTenant | apply frame_hello | apply frame_mailboxClear
      | exact hc.trans (by decide) | exact hc.bit (by decide) | split | apply Frame.set_fr

theorem frame_tenantDrainLimit {M : Nat} {base : State} (t : Nat) {s : State} (hc : Within 0x104030000013 M)
    (hk : Frame M base s) : Frame M base (tenantDrainLimit t s) := by
  unfold tenantDrainLimit
  with_reducible repeat' first
      | assumption | apply Frame.refl | intro _
      | (extract_lets +onlyGivenNames x; first
        | (apply Frame.have x; unfold x; clear x; rotate_left; intro hx; clear_value x; rotate_right)
        | clear_value x)
      | apply Frame.ite | apply Frame.each | apply frame_beginNext | apply frame_finishReset | apply frame_putChannel
      | exact hc.trans (by decide) | split

theorem frame_vfEnableChange {M : Nat} {base : State} (n : Nat) (enable : Bool) {s : State}
    (hc : Within 0x10403c000013 M) (hk : Frame M base s) : Frame M base (vfEnableChange n enable s) := by
  unfold vfEnableChange
  with_reducible repeat' first
      | assumption | apply Frame.refl | intro _
      | (extract_lets +onlyGivenNames x; first
        | (apply Frame.have x; unfold x; clear x; rotate_left; intro hx; clear_value x; rotate_right)
        | clear_value x)
      | apply Frame.ite | apply Frame.each | apply frame_moveTenant | apply frame_resetTenant | apply frame_wr
      | apply frame_wrB | exact hc.trans (by decide) | split

theorem frame_msixReset {M : Nat} {base : State} {s : State} (f : Nat) (hc : Within 0x10 M) (hk : Frame M base s) :
    Frame M base (State.msixReset s f) := by
  unfold State.msixReset
  with_reducible repeat' first
      | assumption
      | exact hc.trans (by decide) | exact hc.bit (by decide) | apply Frame.set_nt

theorem frame_downTenant {M : Nat} {base : State} {s : State} (t : Nat) (hc : Within 0x10403c000013 M)
    (hk : Frame M base s) : Frame M base (State.downTenant s t) := by
  unfold State.downTenant
  with_reducible repeat' first
      | assumption | apply Frame.refl
      | apply Frame.ite | apply frame_resetTenant | exact hc.trans (by decide) | split

theorem frame_flrPf0 {M : Nat} {base : State} {s : State} (hc : Within 0x10403c000013 M) (hk : Frame M base s) :
    Frame M base (State.flrPf0 s) := by
  unfold State.flrPf0
  with_reducible repeat' first
      | assumption
      | apply frame_downTenant | apply frame_msixReset | apply frame_vfEnableChange | exact hc.trans (by decide)

theorem frame_functionLevelReset {M : Nat} {base : State} (f : Nat) {s : State} (hc : Within 0x10403c000013 M)
    (hk : Frame M base s) : Frame M base (functionLevelReset f s) := by
  unfold functionLevelReset
  with_reducible repeat' first
      | assumption | apply Frame.refl
      | apply Frame.ite | apply frame_downTenant | apply frame_flrPf0 | apply frame_msixReset
      | exact hc.trans (by decide) | split

theorem frame_d3hotEntry {M : Nat} {base : State} (f : Nat) {s : State} (hc : Within 0x10403c000013 M)
    (hk : Frame M base s) : Frame M base (d3hotEntry f s) := by
  unfold d3hotEntry
  with_reducible repeat' first
      | assumption
      | apply frame_downTenant | exact hc.trans (by decide)

theorem frame_tenReset {M : Nat} {base : State} (mask : Nat) {s : State} (hc : Within 0x10403c000013 M)
    (hk : Frame M base s) : Frame M base (tenReset mask s) := by
  unfold tenReset
  with_reducible repeat' first
      | assumption | apply Frame.refl | intro _
      | apply Frame.ite | apply Frame.each | apply frame_downTenant | exact hc.trans (by decide) | split

theorem frame_linkChange {M : Nat} {base : State} (speed : Nat) (width : Nat) (up : Bool) {s : State}
    (hc : Within 0x100000000013 M) (hk : Frame M base s) : Frame M base (linkChange speed width up s) := by
  unfold linkChange
  with_reducible repeat' first
      | assumption | apply Frame.refl
      | apply Frame.ite | apply frame_capDeliver | apply frame_raise | apply frame_wr | apply frame_wrB
      | exact hc.trans (by decide) | split

theorem frame_linkDown {M : Nat} {base : State} (hotReset : Bool) {s : State} (hc : Within 0x10403c000013 M)
    (hk : Frame M base s) : Frame M base (linkDown hotReset s) := by
  unfold linkDown
  with_reducible repeat' first
      | assumption | apply Frame.refl | intro _
      | (extract_lets +onlyGivenNames x; first
        | (apply Frame.have x; unfold x; clear x; rotate_left; intro hx; clear_value x; rotate_right)
        | clear_value x)
      | apply Frame.ite | apply Frame.each | apply frame_flrPf0 | apply frame_linkChange | apply frame_msixReset
      | apply frame_raise | exact hc.trans (by decide) | split

theorem frame_tenantFault {M : Nat} {base : State} {s : State} (t : Nat) (cause : Nat)
    (hc : Within 0x10003c000013 M) (hk : Frame M base s) : Frame M base (State.tenantFault s t cause) := by
  unfold State.tenantFault
  with_reducible repeat' first
      | assumption | apply Frame.refl | intro _
      | (extract_lets +onlyGivenNames x; first
        | (apply Frame.have x; unfold x; clear x; rotate_left; intro hx; clear_value x; rotate_right)
        | clear_value x)
      | apply Frame.ite | apply Frame.each | apply frame_alert | apply frame_discardWork | apply frame_incSat
      | apply frame_loseStaged | apply frame_markLeases | apply frame_moveTenant | apply frame_notice
      | apply frame_onQueue | apply frame_park | apply frame_putQfault | apply frame_raise | apply frame_setQueueState
      | apply frame_usbMessage | apply frame_wr | exact hc.trans (by decide) | split

theorem frame_poisonedRequest {M : Nat} {base : State} (t : Nat) {s : State} (hc : Within 0x10003c000013 M)
    (hk : Frame M base s) : Frame M base (poisonedRequest t s) := by
  unfold poisonedRequest
  with_reducible repeat' first
      | assumption
      | apply frame_tenantFault | exact hc.trans (by decide)

theorem frame_contextHalted {M : Nat} {base : State} {s : State} (t : Nat) (hc : Within 0x10003c000013 M)
    (hk : Frame M base s) : Frame M base (State.contextHalted s t) := by
  unfold State.contextHalted
  with_reducible repeat' first
      | assumption
      | apply frame_qadmEnd | apply frame_tenantFault | exact hc.trans (by decide)

theorem frame_disableOp {M : Nat} {base : State} (t : Nat) (l : Nat) (w : Option (List Nat)) {s : State}
    (hc : Within 0x10003c000013 M) (hk : Frame M base s) : Frame M base (State.disableOp t l w s) := by
  unfold State.disableOp
  with_reducible repeat' first
      | assumption | apply Frame.refl | intro _
      | (extract_lets +onlyGivenNames x; first
        | (apply Frame.have x; unfold x; clear x; rotate_left; intro hx; clear_value x; rotate_right)
        | clear_value x)
      | apply Frame.ite | apply frame_contextHalted | apply frame_drainAllDue | apply frame_dropStaged
      | apply frame_onQueue | apply frame_qadmEnd | apply frame_refWaiting | apply frame_setQueueState
      | apply frame_settle | apply frame_withContext | exact hc.trans (by decide) | split

theorem frame_queueDisable {M : Nat} {base : State} (t : Nat) (l : Nat) (w : Option (List Nat)) {s : State}
    (hc : Within 0x10003c000013 M) (hk : Frame M base s) : Frame M base (queueDisable t l w s) := by
  unfold queueDisable
  with_reducible repeat' first
      | assumption | apply Frame.refl | intro _
      | (extract_lets +onlyGivenNames x; first
        | (apply Frame.have x; unfold x; clear x; rotate_left; intro hx; clear_value x; rotate_right)
        | (apply Frame.have1 x; unfold x; clear x; rotate_left; intro hx; clear_value x; rotate_right)
        | (apply Frame.have2 x; unfold x; clear x; rotate_left; intro hq; clear_value x; rotate_right)
        | (apply Frame.have3 x; unfold x; clear x; rotate_left; intro hq; clear_value x; rotate_right)
        | (apply Frame.have4 x; unfold x; clear x; rotate_left; intro hq; clear_value x; rotate_right)
        | clear_value x)
      | apply hq | apply Frame.ite | apply Frame.when | apply Frame.each | apply Frame.foldl | apply Frame.foldlFst
      | apply frame_disableOp | apply frame_qadmBegin | exact hc.trans (by decide) | split

theorem frame_pauseOp {M : Nat} {base : State} (t : Nat) (l : Nat) (w : Option (List Nat)) {s : State}
    (hc : Within 0x10003c000013 M) (hk : Frame M base s) : Frame M base (State.pauseOp t l w s) := by
  unfold State.pauseOp
  with_reducible repeat' first
      | assumption | apply Frame.refl | intro _
      | (extract_lets +onlyGivenNames x; first
        | (apply Frame.have x; unfold x; clear x; rotate_left; intro hx; clear_value x; rotate_right)
        | clear_value x)
      | apply Frame.ite | apply frame_contextHalted | apply frame_dropStaged | apply frame_qadmEnd
      | apply frame_setQueueState | apply frame_withContext | exact hc.trans (by decide) | split

theorem frame_queuePause {M : Nat} {base : State} (t : Nat) (l : Nat) (w : Option (List Nat)) {s : State}
    (hc : Within 0x10003c000013 M) (hk : Frame M base s) : Frame M base (queuePause t l w s) := by
  unfold queuePause
  with_reducible repeat' first
      | assumption | apply Frame.refl | intro _
      | (extract_lets +onlyGivenNames x; first
        | (apply Frame.have x; unfold x; clear x; rotate_left; intro hx; clear_value x; rotate_right)
        | (apply Frame.have1 x; unfold x; clear x; rotate_left; intro hx; clear_value x; rotate_right)
        | (apply Frame.have2 x; unfold x; clear x; rotate_left; intro hq; clear_value x; rotate_right)
        | (apply Frame.have3 x; unfold x; clear x; rotate_left; intro hq; clear_value x; rotate_right)
        | (apply Frame.have4 x; unfold x; clear x; rotate_left; intro hq; clear_value x; rotate_right)
        | clear_value x)
      | apply hq | apply Frame.ite | apply Frame.when | apply Frame.each | apply Frame.foldl | apply Frame.foldlFst
      | apply frame_pauseOp | apply frame_qadmBegin | exact hc.trans (by decide) | split

theorem frame_resumeOp {M : Nat} {base : State} (t : Nat) (l : Nat) (w : Option (List Nat)) {s : State}
    (hc : Within 0x10003c000013 M) (hk : Frame M base s) : Frame M base (State.resumeOp t l w s) := by
  unfold State.resumeOp
  with_reducible repeat' first
      | assumption | apply Frame.refl
      | (extract_lets +onlyGivenNames x; first
        | (apply Frame.have x; unfold x; clear x; rotate_left; intro hx; clear_value x; rotate_right)
        | clear_value x)
      | apply Frame.ite | apply frame_contextHalted | apply frame_drainAllDue | apply frame_qadmEnd
      | apply frame_setQueueState | apply frame_withContext | exact hc.trans (by decide) | split

theorem frame_queueResume {M : Nat} {base : State} (t : Nat) (l : Nat) (w : Option (List Nat)) {s : State}
    (hc : Within 0x10003c000013 M) (hk : Frame M base s) : Frame M base (queueResume t l w s) := by
  unfold queueResume
  with_reducible repeat' first
      | assumption | apply Frame.refl | intro _
      | (extract_lets +onlyGivenNames x; first
        | (apply Frame.have x; unfold x; clear x; rotate_left; intro hx; clear_value x; rotate_right)
        | (apply Frame.have1 x; unfold x; clear x; rotate_left; intro hx; clear_value x; rotate_right)
        | (apply Frame.have2 x; unfold x; clear x; rotate_left; intro hq; clear_value x; rotate_right)
        | (apply Frame.have3 x; unfold x; clear x; rotate_left; intro hq; clear_value x; rotate_right)
        | (apply Frame.have4 x; unfold x; clear x; rotate_left; intro hq; clear_value x; rotate_right)
        | clear_value x)
      | apply hq | apply Frame.ite | apply Frame.when | apply Frame.each | apply Frame.foldl | apply Frame.foldlFst
      | apply frame_qadmBegin | apply frame_resumeOp | exact hc.trans (by decide) | split

theorem frame_resetOp {M : Nat} {base : State} (t : Nat) (l : Nat) (w : Option (List Nat)) {s : State}
    (hc : Within 0x10003c000013 M) (hk : Frame M base s) : Frame M base (State.resetOp t l w s) := by
  unfold State.resetOp
  with_reducible repeat' first
      | assumption | apply Frame.refl | intro _
      | (extract_lets +onlyGivenNames x; first
        | (apply Frame.have x; unfold x; clear x; rotate_left; intro hx; clear_value x; rotate_right)
        | clear_value x)
      | apply Frame.ite | apply frame_contextHalted | apply frame_discardWork | apply frame_drainAllDue
      | apply frame_dropStaged | apply frame_onQueue | apply frame_qadmEnd | apply frame_setQueueState
      | apply frame_settle | apply frame_withContext | exact hc.trans (by decide) | split

theorem frame_queueReset {M : Nat} {base : State} (t : Nat) (l : Nat) (w : Option (List Nat)) {s : State}
    (hc : Within 0x10003c000013 M) (hk : Frame M base s) : Frame M base (queueReset t l w s) := by
  unfold queueReset
  with_reducible repeat' first
      | assumption | apply Frame.refl | intro _
      | (extract_lets +onlyGivenNames x; first
        | (apply Frame.have x; unfold x; clear x; rotate_left; intro hx; clear_value x; rotate_right)
        | (apply Frame.have1 x; unfold x; clear x; rotate_left; intro hx; clear_value x; rotate_right)
        | (apply Frame.have2 x; unfold x; clear x; rotate_left; intro hq; clear_value x; rotate_right)
        | (apply Frame.have3 x; unfold x; clear x; rotate_left; intro hq; clear_value x; rotate_right)
        | (apply Frame.have4 x; unfold x; clear x; rotate_left; intro hq; clear_value x; rotate_right)
        | clear_value x)
      | apply hq | apply Frame.ite | apply Frame.when | apply Frame.each | apply Frame.foldl | apply Frame.foldlFst
      | apply frame_qadmBegin | apply frame_resetOp | exact hc.trans (by decide) | split

theorem frame_syncOp {M : Nat} {base : State} (t : Nat) (l : Nat) (w : Option (List Nat)) {s : State}
    (hc : Within 0x10003c000013 M) (hk : Frame M base s) : Frame M base (State.syncOp t l w s) := by
  unfold State.syncOp
  with_reducible repeat' first
      | assumption | apply Frame.refl
      | (extract_lets +onlyGivenNames x; first
        | (apply Frame.have x; unfold x; clear x; rotate_left; intro hx; clear_value x; rotate_right)
        | clear_value x)
      | apply Frame.ite | apply frame_contextHalted | apply frame_qadmEnd | apply frame_withContext
      | apply frame_writeFields | exact hc.trans (by decide) | split

theorem frame_queueSync {M : Nat} {base : State} (t : Nat) (l : Nat) (w : Option (List Nat)) {s : State}
    (hc : Within 0x10003c000013 M) (hk : Frame M base s) : Frame M base (queueSync t l w s) := by
  unfold queueSync
  with_reducible repeat' first
      | assumption | apply Frame.refl | intro _
      | (extract_lets +onlyGivenNames x; first
        | (apply Frame.have x; unfold x; clear x; rotate_left; intro hx; clear_value x; rotate_right)
        | (apply Frame.have1 x; unfold x; clear x; rotate_left; intro hx; clear_value x; rotate_right)
        | (apply Frame.have2 x; unfold x; clear x; rotate_left; intro hq; clear_value x; rotate_right)
        | (apply Frame.have3 x; unfold x; clear x; rotate_left; intro hq; clear_value x; rotate_right)
        | (apply Frame.have4 x; unfold x; clear x; rotate_left; intro hq; clear_value x; rotate_right)
        | clear_value x)
      | apply hq | apply Frame.ite | apply Frame.when | apply Frame.each | apply Frame.foldl | apply Frame.foldlFst
      | apply frame_qadmBegin | apply frame_syncOp | exact hc.trans (by decide) | split

theorem frame_helloArrives {M : Nat} {base : State} {s : State} (t : Nat) (w : List Nat)
    (hc : Within 0x10403c000013 M) (hk : Frame M base s) : Frame M base (State.helloArrives s t w) := by
  unfold State.helloArrives
  with_reducible repeat' first
      | assumption | apply Frame.refl | intro _
      | (extract_lets +onlyGivenNames x; first
        | (apply Frame.have x; unfold x; clear x; rotate_left; intro hx; clear_value x; rotate_right)
        | (apply Frame.have1 x; unfold x; clear x; rotate_left; intro hx; clear_value x; rotate_right)
        | (apply Frame.have2 x; unfold x; clear x; rotate_left; intro hq; clear_value x; rotate_right)
        | (apply Frame.have3 x; unfold x; clear x; rotate_left; intro hq; clear_value x; rotate_right)
        | (apply Frame.have4 x; unfold x; clear x; rotate_left; intro hq; clear_value x; rotate_right)
        | clear_value x)
      | apply hq | apply Frame.ite | apply Frame.when | apply Frame.each | apply Frame.foldl | apply Frame.foldlFst
      | apply frame_hello | apply frame_log | apply frame_negotiate | apply frame_reject | apply frame_resetTenant
      | exact hc.trans (by decide) | split

theorem frame_hello {M : Nat} {base : State} (t : Nat) {s : State} (hc : Within 0x10403c000013 M)
    (hk : Frame M base s) : Frame M base (hello t s) := by
  unfold hello
  with_reducible repeat' first
      | assumption | apply Frame.refl
      | (extract_lets +onlyGivenNames x; first
        | (apply Frame.have x; unfold x; clear x; rotate_left; intro hx; clear_value x; rotate_right)
        | clear_value x)
      | apply Frame.ite | apply frame_helloArrives | exact hc.trans (by decide) | split

theorem frame_enableWith {M : Nat} {base : State} {s : State} (q : Nat) (w : List Nat) (cqType : Nat)
    (hc : Within 0x10003c000013 M) (hk : Frame M base s) : Frame M base (State.enableWith s q w cqType) := by
  unfold State.enableWith
  with_reducible repeat' first
      | assumption | apply Frame.refl | intro _
      | (extract_lets +onlyGivenNames x; first
        | (apply Frame.have x; unfold x; clear x; rotate_left; intro hx; clear_value x; rotate_right)
        | (apply Frame.have1 x; unfold x; clear x; rotate_left; intro hx; clear_value x; rotate_right)
        | (apply Frame.have2 x; unfold x; clear x; rotate_left; intro hq; clear_value x; rotate_right)
        | (apply Frame.have3 x; unfold x; clear x; rotate_left; intro hq; clear_value x; rotate_right)
        | (apply Frame.have4 x; unfold x; clear x; rotate_left; intro hq; clear_value x; rotate_right)
        | clear_value x)
      | apply hq | apply Frame.ite | apply Frame.when | apply Frame.each | apply Frame.foldl | apply Frame.foldlFst
      | apply frame_drainAllDue | apply frame_faultQueue | apply frame_park | apply frame_pinLimit
      | apply frame_putQueue | apply frame_qadmEnd | apply frame_setQueueState | exact hc.trans (by decide) | split

theorem frame_enableOp {M : Nat} {base : State} (t : Nat) (l : Nat) (w : Option (List Nat)) (cqType : Nat)
    {s : State} (hc : Within 0x10003c000013 M) (hk : Frame M base s) :
    Frame M base (State.enableOp t l w cqType s) := by
  unfold State.enableOp
  with_reducible repeat' first
      | assumption | apply Frame.refl | intro _
      | (extract_lets +onlyGivenNames x; first
        | (apply Frame.have x; unfold x; clear x; rotate_left; intro hx; clear_value x; rotate_right)
        | (apply Frame.have1 x; unfold x; clear x; rotate_left; intro hx; clear_value x; rotate_right)
        | (apply Frame.have2 x; unfold x; clear x; rotate_left; intro hq; clear_value x; rotate_right)
        | (apply Frame.have3 x; unfold x; clear x; rotate_left; intro hq; clear_value x; rotate_right)
        | (apply Frame.have4 x; unfold x; clear x; rotate_left; intro hq; clear_value x; rotate_right)
        | clear_value x)
      | apply hq | apply Frame.ite | apply Frame.when | apply Frame.each | apply Frame.foldl | apply Frame.foldlFst
      | apply frame_contextHalted | apply frame_emit | apply frame_enableWith | apply frame_inc | apply frame_qadmEnd
      | apply frame_raise | refine frame_freeEntry (hc.trans (by decide)) ?_ (by assumption)
      | exact hc.trans (by decide) | exact hc.bit (by decide) | split | apply Frame.set_fr

theorem frame_queueEnable {M : Nat} {base : State} (t : Nat) (l : Nat) (w : Option (List Nat)) (cqType : Nat)
    {s : State} (hc : Within 0x10003c000013 M) (hk : Frame M base s) : Frame M base (queueEnable t l w cqType s) := by
  unfold queueEnable
  with_reducible repeat' first
      | assumption | apply Frame.refl | intro _
      | (extract_lets +onlyGivenNames x; first
        | (apply Frame.have x; unfold x; clear x; rotate_left; intro hx; clear_value x; rotate_right)
        | (apply Frame.have1 x; unfold x; clear x; rotate_left; intro hx; clear_value x; rotate_right)
        | (apply Frame.have2 x; unfold x; clear x; rotate_left; intro hq; clear_value x; rotate_right)
        | (apply Frame.have3 x; unfold x; clear x; rotate_left; intro hq; clear_value x; rotate_right)
        | (apply Frame.have4 x; unfold x; clear x; rotate_left; intro hq; clear_value x; rotate_right)
        | clear_value x)
      | apply hq | apply Frame.ite | apply Frame.when | apply Frame.each | apply Frame.foldl | apply Frame.foldlFst
      | apply frame_enableOp | apply frame_qadmBegin | exact hc.trans (by decide) | split

theorem frame_contextLoad {M : Nat} {base : State} (q : Nat) (w : Option (List Nat)) (cqType : Nat) {s : State}
    (hc : Within 0x10003c000013 M) (hk : Frame M base s) : Frame M base (contextLoad q w cqType s) := by
  unfold contextLoad
  with_reducible repeat' first
      | assumption | apply Frame.refl | intro _
      | (extract_lets +onlyGivenNames x; first
        | (apply Frame.have x; unfold x; clear x; rotate_left; intro hx; clear_value x; rotate_right)
        | (apply Frame.have1 x; unfold x; clear x; rotate_left; intro hx; clear_value x; rotate_right)
        | (apply Frame.have2 x; unfold x; clear x; rotate_left; intro hq; clear_value x; rotate_right)
        | (apply Frame.have3 x; unfold x; clear x; rotate_left; intro hq; clear_value x; rotate_right)
        | (apply Frame.have4 x; unfold x; clear x; rotate_left; intro hq; clear_value x; rotate_right)
        | clear_value x)
      | apply hq | apply Frame.ite | apply Frame.when | apply Frame.each | apply Frame.foldl | apply Frame.foldlFst
      | apply frame_enableWith | apply frame_loaded | apply frame_qadmEnd | apply frame_tenantFault
      | exact hc.trans (by decide) | exact hc.bit (by decide) | split | apply Frame.set_fr

theorem frame_tenCtxBaseWrite {M : Nat} {base : State} (t : Nat) (high : Bool) (v : Nat) {s : State}
    (hc : Within 0x100000000017 M) (hk : Frame M base s) : Frame M base (tenCtxBaseWrite t high v s) := by
  unfold tenCtxBaseWrite
  with_reducible repeat' first
      | assumption | apply Frame.refl
      | apply Frame.ite | apply frame_hostWord | apply frame_raise | exact hc.trans (by decide) | split

theorem frame_qstat {M : Nat} {base : State} {s : State} (agent : Nat) (t : Nat) (ctx : Option (List Nat))
    (hc : Within 0x10003c00001b M) (hk : Frame M base s) : Frame M base ((State.qstat s agent t ctx).1) := by
  unfold State.qstat
  with_reducible repeat' first
      | assumption | apply Frame.refl | intro _
      | (extract_lets +onlyGivenNames x; first
        | (apply Frame.have x; unfold x; clear x; rotate_left; intro hx; clear_value x; rotate_right)
        | clear_value x)
      | apply Frame.ite | apply frame_capture | apply frame_tenantFault | apply frame_withContext
      | exact hc.trans (by decide) | split

theorem frame_qstatARead {M : Nat} {base : State} (agent : Nat) (t : Nat) (sub : Nat) (width : Nat) (ctx : Option
    (List Nat)) {s : State} (hc : Within 0x10003c00001b M) (hk : Frame M base s) :
    Frame M base (qstatARead agent t sub width ctx s) := by
  unfold qstatARead
  with_reducible repeat' first
      | assumption | apply Frame.refl | intro _
      | (extract_lets +onlyGivenNames x; first
        | (apply Frame.have x; unfold x; clear x; rotate_left; intro hx; clear_value x; rotate_right)
        | (apply Frame.have1 x; unfold x; clear x; rotate_left; intro hx; clear_value x; rotate_right)
        | (apply Frame.have2 x; unfold x; clear x; rotate_left; intro hq; clear_value x; rotate_right)
        | (apply Frame.have3 x; unfold x; clear x; rotate_left; intro hq; clear_value x; rotate_right)
        | (apply Frame.have4 x; unfold x; clear x; rotate_left; intro hq; clear_value x; rotate_right)
        | clear_value x)
      | apply hq | apply Frame.ite | apply Frame.when | apply Frame.each | apply Frame.foldl | apply Frame.foldlFst
      | apply frame_qstat | apply frame_readAccess | exact hc.trans (by decide) | split

theorem frame_skipDescriptor {M : Nat} {base : State} {s : State} (q : Nat) (f : Queue → Queue)
    (hc : Within 0x100010000010 M) (hk : Frame M base s) : Frame M base (State.skipDescriptor s q f) := by
  unfold State.skipDescriptor
  with_reducible repeat' first
      | assumption | intro _
      | apply frame_onQueue | apply frame_unpublished | exact hc.trans (by decide)

theorem frame_takeDescriptor {M : Nat} {base : State} {s : State} (q : Nat) (x : Queue) (w : List Nat)
    (hc : Within 0x10003c000013 M) (hk : Frame M base s) : Frame M base (State.takeDescriptor s q x w) := by
  unfold State.takeDescriptor
  with_reducible repeat' first
      | assumption | apply Frame.refl | intro _
      | apply Frame.ite | apply frame_finishHead | apply frame_onQueue | exact hc.trans (by decide) | split

theorem frame_checkDescriptor {M : Nat} {base : State} {s : State} (q : Nat) (x : Queue) (w : List Nat)
    (hc : Within 0x10003c000013 M) (hk : Frame M base s) : Frame M base (State.checkDescriptor s q x w) := by
  unfold State.checkDescriptor
  with_reducible repeat' first
      | assumption | apply Frame.refl | intro _
      | (extract_lets +onlyGivenNames x; first
        | (apply Frame.have x; unfold x; clear x; rotate_left; intro hx; clear_value x; rotate_right)
        | clear_value x)
      | apply Frame.ite | apply frame_complete | apply frame_faultQueue | apply frame_inc | apply frame_raise
      | apply frame_skipDescriptor | apply frame_takeDescriptor | exact hc.trans (by decide) | split

theorem frame_descriptorFetch {M : Nat} {base : State} (q : Nat) (w : Option (List Nat)) {s : State}
    (hc : Within 0x10003c000013 M) (hk : Frame M base s) : Frame M base (descriptorFetch q w s) := by
  unfold descriptorFetch
  with_reducible repeat' first
      | assumption | apply Frame.refl
      | apply Frame.ite | apply frame_checkDescriptor | apply frame_faultQueue | apply frame_needContext
      | exact hc.trans (by decide) | split

theorem frame_dmaTake {M : Nat} {base : State} {s : State} (q : Nat) (x : Queue) (w : List Nat)
    (hc : Within 0x10003c000013 M) (hk : Frame M base s) : Frame M base (State.dmaTake s q x w) := by
  unfold State.dmaTake
  with_reducible repeat' first
      | assumption | apply Frame.refl | intro _
      | (extract_lets +onlyGivenNames x; first
        | (apply Frame.have x; unfold x; clear x; rotate_left; intro hx; clear_value x; rotate_right)
        | clear_value x)
      | apply Frame.ite | apply frame_beginHead | apply frame_finishHead | apply frame_submitXfer
      | exact hc.trans (by decide) | split

theorem frame_dmaXfer {M : Nat} {base : State} (q : Nat) {s : State} (hc : Within 0x10003c000013 M)
    (hk : Frame M base s) : Frame M base (dmaXfer q s) := by
  unfold dmaXfer
  with_reducible repeat' first
      | assumption | apply Frame.refl
      | apply Frame.ite | apply frame_dmaTake | exact hc.trans (by decide) | split

/-! ## Dma -/

theorem frame_onXfer {M : Nat} {base : State} {s : State} (c : Nat) (f : Xfer → Xfer) (hc : Within 0x20000000 M)
    (hk : Frame M base s) : Frame M base (State.onXfer s c f) := by
  unfold State.onXfer
  with_reducible repeat' first
      | assumption | apply Frame.refl
      | apply frame_putChannel | exact hc.trans (by decide) | split

theorem frame_readBurst {M : Nat} {base : State} {s : State} (x : Xfer) (b : Burst) (hc : Within 0x100000000000 M)
    (hk : Frame M base s) : Frame M base (State.readBurst s x b) := by
  unfold State.readBurst
  with_reducible repeat' first
      | assumption
      | (extract_lets +onlyGivenNames x; first
        | (apply Frame.have x; unfold x; clear x; rotate_left; intro hx; clear_value x; rotate_right)
        | clear_value x)
      | apply frame_emit | apply frame_hostRead | exact hc.trans (by decide)

theorem frame_readTrailing {M : Nat} {base : State} {s : State} (x : Xfer) (hc : Within 0x100000000000 M)
    (hk : Frame M base s) : Frame M base (State.readTrailing s x) := by
  unfold State.readTrailing
  with_reducible repeat' first
      | assumption
      | apply frame_emit | apply frame_hostRead | exact hc.trans (by decide)

theorem frame_paceChannel {M : Nat} {base : State} {s : State} (c : Nat) (hc : Within 0x100000000013 M)
    (hk : Frame M base s) : Frame M base (State.paceChannel s c) := by
  unfold State.paceChannel
  with_reducible repeat' first
      | assumption | apply Frame.refl
      | apply Frame.ite | apply frame_inc | apply frame_raise | exact hc.trans (by decide) | split

theorem frame_paceRequest {M : Nat} {base : State} {s : State} (l : Nat) (hc : Within 0x100000000013 M)
    (hk : Frame M base s) : Frame M base (State.paceRequest s l) := by
  unfold State.paceRequest
  with_reducible repeat' first
      | assumption | apply Frame.refl | intro _
      | apply Frame.ite | apply Frame.each | apply frame_paceChannel | exact hc.trans (by decide) | split

theorem frame_dmaPaceRequest {M : Nat} {base : State} (l : Nat) {s : State} (hc : Within 0x100000000013 M)
    (hk : Frame M base s) : Frame M base (dmaPaceRequest l s) := by
  unfold dmaPaceRequest
  with_reducible repeat' first
      | assumption | apply Frame.refl
      | apply Frame.ite | apply frame_paceRequest | exact hc.trans (by decide) | split

theorem frame_dmaTimer {M : Nat} {base : State} (c : Nat) {s : State} (hc : Within 0x100000000013 M)
    (hk : Frame M base s) : Frame M base (dmaTimer c s) := by
  unfold dmaTimer
  with_reducible repeat' first
      | assumption | apply Frame.refl
      | apply Frame.ite | apply frame_paceChannel | exact hc.trans (by decide) | split

theorem frame_reqClear {M : Nat} {base : State} (c : Nat) {s : State} (hc : Within 0x3 M) (hk : Frame M base s) :
    Frame M base (reqClear c s) := by
  unfold reqClear
  with_reducible repeat' first
      | assumption
      | apply frame_wr | exact hc.trans (by decide)

theorem frame_countRetry {M : Nat} {base : State} {s : State} (c : Nat) (hc : Within 0x100020000013 M)
    (hk : Frame M base s) : Frame M base (State.countRetry s c) := by
  unfold State.countRetry
  with_reducible repeat' first
      | assumption | intro _
      | apply frame_onXfer | apply frame_raise | apply frame_wr | exact hc.trans (by decide)

theorem frame_stopIfDrained {M : Nat} {base : State} {s : State} (c : Nat) (hc : Within 0x104030000013 M)
    (hk : Frame M base s) : Frame M base (State.stopIfDrained s c) := by
  unfold State.stopIfDrained
  with_reducible repeat' first
      | assumption | apply Frame.refl
      | apply Frame.ite | apply frame_drainResets | apply frame_endXfer | exact hc.trans (by decide) | split

theorem frame_busHalt {M : Nat} {base : State} {s : State} (c : Nat) (hc : Within 0x104030000013 M)
    (hk : Frame M base s) : Frame M base (State.busHalt s c) := by
  unfold State.busHalt
  with_reducible repeat' first
      | assumption
      | apply frame_drainResets | apply frame_haltChannel | exact hc.trans (by decide)

theorem frame_trailError {M : Nat} {base : State} {s : State} (c : Nat) (x : Xfer) (hc : Within 0x104030000013 M)
    (hk : Frame M base s) : Frame M base (State.trailError s c x) := by
  unfold State.trailError
  with_reducible repeat' first
      | assumption | apply Frame.refl | intro _
      | (extract_lets +onlyGivenNames x; first
        | (apply Frame.have x; unfold x; clear x; rotate_left; intro hx; clear_value x; rotate_right)
        | clear_value x)
      | apply Frame.ite | apply frame_busHalt | apply frame_countRetry | apply frame_onXfer | apply frame_wrPair
      | exact hc.trans (by decide) | split

theorem frame_burstError {M : Nat} {base : State} {s : State} (c : Nat) (x : Xfer) (b : Nat) (u : Burst)
    (hc : Within 0x104030000013 M) (hk : Frame M base s) : Frame M base (State.burstError s c x b u) := by
  unfold State.burstError
  with_reducible repeat' first
      | assumption | apply Frame.refl | intro _
      | (extract_lets +onlyGivenNames x; first
        | (apply Frame.have x; unfold x; clear x; rotate_left; intro hx; clear_value x; rotate_right)
        | clear_value x)
      | apply Frame.ite | apply frame_busHalt | apply frame_countRetry | apply frame_onXfer
      | apply frame_stopIfDrained | apply frame_wrPair | exact hc.trans (by decide) | split

theorem frame_dmaBusError {M : Nat} {base : State} (c : Nat) (b : Nat) {s : State} (hc : Within 0x104030000013 M)
    (hk : Frame M base s) : Frame M base (dmaBusError c b s) := by
  unfold dmaBusError
  with_reducible repeat' first
      | assumption | apply Frame.refl
      | apply Frame.ite | apply frame_burstError | apply frame_trailError | exact hc.trans (by decide) | split

theorem frame_dmaRetry {M : Nat} {base : State} (c : Nat) (b : Nat) {s : State} (hc : Within 0x100020000000 M)
    (hk : Frame M base s) : Frame M base (dmaRetry c b s) := by
  unfold dmaRetry
  with_reducible repeat' first
      | assumption | apply Frame.refl | intro _
      | (extract_lets +onlyGivenNames x; first
        | (apply Frame.have x; unfold x; clear x; rotate_left; intro hx; clear_value x; rotate_right)
        | clear_value x)
      | apply Frame.ite | apply Frame.each | apply frame_emit | apply frame_hostWrite | apply frame_onXfer
      | apply frame_readBurst | apply frame_readTrailing | exact hc.trans (by decide) | split

theorem frame_dmaTransferComplete {M : Nat} {base : State} (c : Nat) {s : State} (hc : Within 0x10403c000013 M)
    (hk : Frame M base s) : Frame M base (dmaTransferComplete c s) := by
  unfold dmaTransferComplete
  with_reducible repeat' first
      | assumption | apply Frame.refl
      | apply Frame.ite | apply frame_drainResets | apply frame_finishXfer | exact hc.trans (by decide) | split

theorem frame_dmaClear {M : Nat} {base : State} (agent : Nat) (c : Nat) {s : State} (hc : Within 0x100030000013 M)
    (hk : Frame M base s) : Frame M base (dmaClear agent c s) := by
  unfold dmaClear
  with_reducible repeat' first
      | assumption | apply Frame.refl
      | apply Frame.ite | apply frame_beginNext | apply frame_wr | exact hc.trans (by decide) | split

theorem frame_dmaAbort {M : Nat} {base : State} (c : Nat) {s : State} (hc : Within 0x104030000013 M)
    (hk : Frame M base s) : Frame M base (dmaAbort c s) := by
  unfold dmaAbort
  with_reducible repeat' first
      | assumption | apply Frame.refl | intro _
      | apply Frame.ite | apply frame_drainResets | apply frame_dropWaiting | apply frame_stopXfer | apply frame_wr
      | exact hc.trans (by decide) | split

theorem frame_dmaPairRead {M : Nat} {base : State} (agent : Nat) (c : Nat) (sub : Nat) (width : Nat) {s : State}
    (hc : Within 0x100000000018 M) (hk : Frame M base s) : Frame M base (dmaPairRead agent c sub width s) := by
  unfold dmaPairRead
  with_reducible repeat' first
      | assumption
      | apply frame_readPair | exact hc.trans (by decide)

/-! ## Interrupts -/

theorem frame_icEventCmd {M : Nat} {base : State} (c : Nat) (src : Nat) {s : State} (hc : Within 0x100000000010 M)
    (hk : Frame M base s) : Frame M base (icEventCmd c src s) := by
  unfold icEventCmd
  with_reducible repeat' first
      | assumption
      | apply frame_icRaise | exact hc.trans (by decide)

theorem frame_icCoalesceTimeout {M : Nat} {base : State} (c : Nat) (src : Nat) {s : State}
    (hc : Within 0x100000000010 M) (hk : Frame M base s) : Frame M base (icCoalesceTimeout c src s) := by
  unfold icCoalesceTimeout
  with_reducible repeat' first
      | assumption
      | apply frame_withIc | exact hc.trans (by decide)

theorem frame_msixSend {M : Nat} {base : State} (c : Nat) {s : State} (hc : Within 0x100000000010 M)
    (hk : Frame M base s) : Frame M base (msixSend c s) := by
  unfold msixSend
  with_reducible repeat' first
      | assumption
      | apply frame_withIc | exact hc.trans (by decide)

theorem frame_msixVectorUsable {M : Nat} {base : State} (c : Nat) (m : Msix) {s : State}
    (hc : Within 0x100000000010 M) (hk : Frame M base s) : Frame M base (msixVectorUsable c m s) := by
  unfold msixVectorUsable
  with_reducible repeat' first
      | assumption
      | apply frame_withIc | exact hc.trans (by decide)

theorem frame_claim {M : Nat} {base : State} {s : State} (c : Nat) (hc : Within 0x100000000010 M)
    (hk : Frame M base s) : Frame M base ((State.claim s c).1) := by
  unfold State.claim
  with_reducible repeat' first
      | assumption | apply Frame.refl | intro _
      | apply Frame.ite | apply frame_raise | apply frame_withIc | apply frame_wr | exact hc.trans (by decide) | split

theorem frame_icClaimRead {M : Nat} {base : State} (agent : Nat) (c : Nat) (sub : Nat) (width : Nat) {s : State}
    (hc : Within 0x100000000010 M) (hk : Frame M base s) : Frame M base (icClaimRead agent c sub width s) := by
  unfold icClaimRead
  with_reducible repeat' first
      | assumption | apply Frame.refl | intro _
      | (extract_lets +onlyGivenNames x; first
        | (apply Frame.have x; unfold x; clear x; rotate_left; intro hx; clear_value x; rotate_right)
        | (apply Frame.have1 x; unfold x; clear x; rotate_left; intro hx; clear_value x; rotate_right)
        | (apply Frame.have2 x; unfold x; clear x; rotate_left; intro hq; clear_value x; rotate_right)
        | (apply Frame.have3 x; unfold x; clear x; rotate_left; intro hq; clear_value x; rotate_right)
        | (apply Frame.have4 x; unfold x; clear x; rotate_left; intro hq; clear_value x; rotate_right)
        | clear_value x)
      | apply hq | apply Frame.ite | apply Frame.when | apply Frame.each | apply Frame.foldl | apply Frame.foldlFst
      | apply frame_claim | apply frame_readAccess | exact hc.trans (by decide) | split

theorem frame_icCompleteWrite {M : Nat} {base : State} (c : Nat) (src : Nat) {s : State}
    (hc : Within 0x100000000010 M) (hk : Frame M base s) : Frame M base (icCompleteWrite c src s) := by
  unfold icCompleteWrite
  with_reducible repeat' first
      | assumption | apply Frame.refl
      | apply Frame.ite | apply frame_raise | apply frame_withIc | exact hc.trans (by decide) | split

theorem frame_icSetWrite {M : Nat} {base : State} (c : Nat) (src : Nat) {s : State} (hc : Within 0x100000000010 M)
    (hk : Frame M base s) : Frame M base (icSetWrite c src s) := by
  unfold icSetWrite
  with_reducible repeat' first
      | assumption | apply Frame.refl
      | apply Frame.ite | apply frame_icRaise | exact hc.trans (by decide) | split

theorem frame_icClearWrite {M : Nat} {base : State} (c : Nat) (src : Nat) {s : State}
    (hc : Within 0x100000000010 M) (hk : Frame M base s) : Frame M base (icClearWrite c src s) := by
  unfold icClearWrite
  with_reducible repeat' first
      | assumption | apply Frame.refl
      | apply Frame.ite | apply frame_withIc | exact hc.trans (by decide) | split

theorem frame_icRegister {M : Nat} {base : State} {s : State} (p : Nat) (o : Nat) (v : Nat)
    (hc : Within 0x100000000010 M) (hk : Frame M base s) : Frame M base (State.icRegister s p o v) := by
  unfold State.icRegister
  with_reducible repeat' first
      | assumption | apply Frame.refl | intro _
      | (extract_lets +onlyGivenNames x; first
        | (apply Frame.have x; unfold x; clear x; rotate_left; intro hx; clear_value x; rotate_right)
        | clear_value x)
      | apply Frame.ite | apply Frame.foldl | apply frame_withIc | apply frame_wr | exact hc.trans (by decide) | split

/-! ## Pages -/

theorem frame_freshDigest {M : Nat} {base : State} {s : State} (hc : Within 0x200000000 M) (hk : Frame M base s) :
    Frame M base (State.freshDigest s) := by
  unfold State.freshDigest
  with_reducible repeat' first
      | assumption
      | exact hc.trans (by decide) | exact hc.bit (by decide) | apply Frame.set_ik

theorem frame_withFields {M : Nat} {base : State} {s : State} (fs : List (Nat × Option Nat)) (hc : Within 0x2 M)
    (hk : Frame M base s) : Frame M base (State.withFields s fs) := by
  unfold State.withFields
  with_reducible repeat' first
      | assumption
      | apply Frame.foldl | exact hc.trans (by decide) | exact hc.bit (by decide) | apply Frame.set_force

theorem frame_refuseFields {M : Nat} {base : State} {s : State} (fs : List (Nat × Option Nat))
    (hc : Within 0x100000000012 M) (hk : Frame M base s) : Frame M base ((State.refuseFields s fs).1) := by
  unfold State.refuseFields
  with_reducible repeat' first
      | assumption | apply Frame.refl | intro _
      | (extract_lets +onlyGivenNames x; first
        | (apply Frame.have x; unfold x; clear x; rotate_left; intro hx; clear_value x; rotate_right)
        | (apply Frame.have1 x; unfold x; clear x; rotate_left; intro hx; clear_value x; rotate_right)
        | (apply Frame.have2 x; unfold x; clear x; rotate_left; intro hq; clear_value x; rotate_right)
        | (apply Frame.have3 x; unfold x; clear x; rotate_left; intro hq; clear_value x; rotate_right)
        | (apply Frame.have4 x; unfold x; clear x; rotate_left; intro hq; clear_value x; rotate_right)
        | clear_value x)
      | apply hq | apply Frame.ite | apply Frame.when | apply Frame.each | apply Frame.foldl | apply Frame.foldlFst
      | apply frame_raise | apply frame_withFields | exact hc.trans (by decide) | split

theorem frame_settingsTaken {M : Nat} {base : State} {s : State} (old : State) (y : Nat) (fs : List
    (Nat × Option Nat)) (hc : Within 0x180083155117 M) (hk : Frame M base s) :
    Frame M base (State.settingsTaken s old y fs) := by
  unfold State.settingsTaken
  with_reducible repeat' first
      | assumption | apply Frame.refl | intro _
      | (extract_lets +onlyGivenNames x; first
        | (apply Frame.have x; unfold x; clear x; rotate_left; intro hx; clear_value x; rotate_right)
        | clear_value x)
      | apply Frame.ite | apply Frame.when | apply Frame.each | apply frame_capAdmit | apply frame_castReact
      | apply frame_disableGroup | apply frame_followOverlaps | apply frame_opalExchange | apply frame_pfeAbandon
      | apply frame_putGroup | apply frame_refEffect | apply frame_regEffect | apply frame_showLeds
      | apply frame_swapBanks | apply frame_tellDelays | exact hc.trans (by decide) | split

theorem frame_applyFields {M : Nat} {base : State} {s : State} (fs : List (Nat × Option Nat)) (y : Nat)
    (hc : Within 0x180283157117 M) (hk : Frame M base s) : Frame M base (State.applyFields s fs y) := by
  unfold State.applyFields
  with_reducible repeat' first
      | assumption | apply Frame.refl | intro _
      | (extract_lets +onlyGivenNames x; first
        | (apply Frame.have x; unfold x; clear x; rotate_left; intro hx; clear_value x; rotate_right)
        | (apply Frame.have1 x; unfold x; clear x; rotate_left; intro hx; clear_value x; rotate_right)
        | (apply Frame.have2 x; unfold x; clear x; rotate_left; intro hq; clear_value x; rotate_right)
        | (apply Frame.have3 x; unfold x; clear x; rotate_left; intro hq; clear_value x; rotate_right)
        | (apply Frame.have4 x; unfold x; clear x; rotate_left; intro hq; clear_value x; rotate_right)
        | clear_value x)
      | apply hq | apply Frame.ite | apply Frame.when | apply Frame.each | apply Frame.foldl | apply Frame.foldlFst
      | apply frame_freshDigest | apply frame_refuseFields | apply frame_settingsTaken | apply frame_wr
      | exact hc.trans (by decide) | exact hc.bit (by decide) | split | apply Frame.set_force_epochs

theorem frame_movePages {M : Nat} {base : State} {s : State} (hc : Within 0x2000000003 M) (hk : Frame M base s) :
    Frame M base (State.movePages s) := by
  unfold State.movePages
  with_reducible repeat' first
      | assumption | apply Frame.refl | intro _
      | apply Frame.ite | apply Frame.each | apply frame_wr | exact hc.trans (by decide) | exact hc.bit (by decide)
      | split | apply Frame.set_commits

theorem frame_commitFirst {M : Nat} {base : State} {s : State} (y : Nat) (hc : Within 0x182283157117 M)
    (hk : Frame M base s) : Frame M base (State.commitFirst s y) := by
  unfold State.commitFirst
  with_reducible repeat' first
      | assumption | apply Frame.refl | intro _
      | (extract_lets +onlyGivenNames x; first
        | (apply Frame.have x; unfold x; clear x; rotate_left; intro hx; clear_value x; rotate_right)
        | (apply Frame.have1 x; unfold x; clear x; rotate_left; intro hx; clear_value x; rotate_right)
        | (apply Frame.have2 x; unfold x; clear x; rotate_left; intro hq; clear_value x; rotate_right)
        | (apply Frame.have3 x; unfold x; clear x; rotate_left; intro hq; clear_value x; rotate_right)
        | (apply Frame.have4 x; unfold x; clear x; rotate_left; intro hq; clear_value x; rotate_right)
        | clear_value x)
      | apply hq | apply Frame.ite | apply Frame.when | apply Frame.each | apply Frame.foldl | apply Frame.foldlFst
      | apply frame_applyFields | apply frame_movePages | apply frame_raise | apply frame_wr
      | exact hc.trans (by decide) | exact hc.bit (by decide) | split | apply Frame.set_commits

theorem frame_cascadeEffect {M : Nat} {base : State} {s : State} (y : Nat) (hc : Within 0x180283157117 M)
    (hk : Frame M base s) : Frame M base (State.cascadeEffect s y) := by
  unfold State.cascadeEffect
  with_reducible repeat' first
      | assumption | apply Frame.refl | intro _
      | (extract_lets +onlyGivenNames x; first
        | (apply Frame.have x; unfold x; clear x; rotate_left; intro hx; clear_value x; rotate_right)
        | (apply Frame.have1 x; unfold x; clear x; rotate_left; intro hx; clear_value x; rotate_right)
        | (apply Frame.have2 x; unfold x; clear x; rotate_left; intro hq; clear_value x; rotate_right)
        | (apply Frame.have3 x; unfold x; clear x; rotate_left; intro hq; clear_value x; rotate_right)
        | (apply Frame.have4 x; unfold x; clear x; rotate_left; intro hq; clear_value x; rotate_right)
        | clear_value x)
      | apply hq | apply Frame.ite | apply Frame.when | apply Frame.each | apply Frame.foldl | apply Frame.foldlFst
      | apply frame_applyFields | exact hc.trans (by decide) | exact hc.bit (by decide) | split | apply Frame.set_ik

theorem frame_commitStep {m : Nat} {a s t : State} {b : Bool} (hc : Within 0x182283157117 m) (h : Frame m a s)
    (e : s.commitStep b = some t) : Frame m a t := by
  simp only [State.commitStep] at e
  repeat' split at e
  all_goals cases e
  all_goals first
    | exact frame_commitFirst (hc := hc.trans (by decide)) (hk := h) ..
    | exact frame_cascadeEffect (hc := hc.trans (by decide)) (hk := h) ..

theorem frame_commitsDue {M : Nat} {base : State} (stop : Bool) (p1 : Nat) {p2 : State}
    (hc : Within 0x182283157117 M) (hk : Frame M base p2) : Frame M base (State.commitsDue stop p1 p2) := by
  induction p1 generalizing p2 with
  | zero => exact hk
  | succ _ ih =>
    unfold State.commitsDue
    with_reducible repeat' first
        | assumption | apply Frame.refl
        | refine frame_commitStep (hc.trans (by decide)) ?_ (by assumption) | apply ih | exact hc.trans (by decide)
        | split

theorem frame_commitEffect {M : Nat} {base : State} {s : State} (hc : Within 0x182283157117 M) (hk : Frame M base s) :
    Frame M base (commitEffect s) := by
  unfold commitEffect
  with_reducible repeat' first
      | assumption
      | apply frame_commitsDue | exact hc.trans (by decide)

theorem frame_refuseCommit {M : Nat} {base : State} {s : State} (tenant : Nat) (r : Nat × Nat)
    (hc : Within 0x100000000013 M) (hk : Frame M base s) : Frame M base (State.refuseCommit s tenant r) := by
  unfold State.refuseCommit
  with_reducible repeat' first
      | assumption
      | apply frame_raise | apply frame_wr | exact hc.trans (by decide)

theorem frame_announce {M : Nat} {base : State} {s : State} (fs : List (Nat × Option Nat)) (y : Nat)
    (hc : Within 0x180001100113 M) (hk : Frame M base s) : Frame M base (State.announce s fs y) := by
  unfold State.announce
  with_reducible repeat' first
      | assumption | apply Frame.refl | intro _
      | (extract_lets +onlyGivenNames x; first
        | (apply Frame.have x; unfold x; clear x; rotate_left; intro hx; clear_value x; rotate_right)
        | clear_value x)
      | apply Frame.ite | apply Frame.each | apply frame_putGroup | apply frame_refRequest | apply frame_withFields
      | apply frame_wr | exact hc.trans (by decide) | exact hc.bit (by decide) | split | apply Frame.set_opal

theorem frame_tellAll {M : Nat} {base : State} {s : State} (type : Nat) (payload : List Nat)
    (hc : Within 0x100000000000 M) (hk : Frame M base s) : Frame M base (State.tellAll s type payload) := by
  unfold State.tellAll
  with_reducible repeat' first
      | assumption | apply Frame.refl | intro _
      | (extract_lets +onlyGivenNames x; first
        | (apply Frame.have x; unfold x; clear x; rotate_left; intro hx; clear_value x; rotate_right)
        | (apply Frame.have1 x; unfold x; clear x; rotate_left; intro hx; clear_value x; rotate_right)
        | (apply Frame.have2 x; unfold x; clear x; rotate_left; intro hq; clear_value x; rotate_right)
        | (apply Frame.have3 x; unfold x; clear x; rotate_left; intro hq; clear_value x; rotate_right)
        | (apply Frame.have4 x; unfold x; clear x; rotate_left; intro hq; clear_value x; rotate_right)
        | clear_value x)
      | apply hq | apply Frame.ite | apply Frame.when | apply Frame.each | apply Frame.foldl | apply Frame.foldlFst
      | apply frame_emit | exact hc.trans (by decide) | split

theorem frame_cascadeRefused {M : Nat} {base : State} {s : State} (hc : Within 0x180201000013 M)
    (hk : Frame M base s) : Frame M base (State.cascadeRefused s) := by
  unfold State.cascadeRefused
  with_reducible repeat' first
      | assumption | apply Frame.refl | intro _
      | (extract_lets +onlyGivenNames x; first
        | (apply Frame.have x; unfold x; clear x; rotate_left; intro hx; clear_value x; rotate_right)
        | (apply Frame.have1 x; unfold x; clear x; rotate_left; intro hx; clear_value x; rotate_right)
        | (apply Frame.have2 x; unfold x; clear x; rotate_left; intro hq; clear_value x; rotate_right)
        | (apply Frame.have3 x; unfold x; clear x; rotate_left; intro hq; clear_value x; rotate_right)
        | (apply Frame.have4 x; unfold x; clear x; rotate_left; intro hq; clear_value x; rotate_right)
        | clear_value x)
      | apply hq | apply Frame.ite | apply Frame.when | apply Frame.each | apply Frame.foldl | apply Frame.foldlFst
      | apply frame_raise | apply frame_refForget | exact hc.trans (by decide) | exact hc.bit (by decide) | split
      | apply Frame.set_ik

theorem frame_cascadeLine {M : Nat} {base : State} {s : State} (y : Nat) (hc : Within 0x180201000013 M)
    (hk : Frame M base s) : Frame M base (State.cascadeLine s y) := by
  unfold State.cascadeLine
  with_reducible repeat' first
      | assumption | apply Frame.refl
      | (extract_lets +onlyGivenNames x; first
        | (apply Frame.have x; unfold x; clear x; rotate_left; intro hx; clear_value x; rotate_right)
        | clear_value x)
      | apply frame_refRequest | apply frame_withFields | apply frame_wrPair | exact hc.trans (by decide)
      | exact hc.bit (by decide) | split | apply Frame.set_ik

theorem frame_judgeReports {M : Nat} {base : State} {s : State} (hc : Within 0x180201000013 M) (hk : Frame M base s) :
    Frame M base (State.judgeReports s) := by
  unfold State.judgeReports
  with_reducible repeat' first
      | assumption | apply Frame.refl | intro _
      | (extract_lets +onlyGivenNames x; first
        | (apply Frame.have x; unfold x; clear x; rotate_left; intro hx; clear_value x; rotate_right)
        | clear_value x)
      | apply Frame.ite | apply frame_cascadeLine | apply frame_cascadeRefused | apply frame_tellAll
      | exact hc.trans (by decide) | exact hc.bit (by decide) | split | apply Frame.set_ik

theorem frame_sendReport {M : Nat} {base : State} {s : State} (digest : List Nat) (hc : Within 0x180201000013 M)
    (hk : Frame M base s) : Frame M base (State.sendReport s digest) := by
  unfold State.sendReport
  with_reducible repeat' first
      | assumption | apply Frame.refl
      | (extract_lets +onlyGivenNames x; first
        | (apply Frame.have x; unfold x; clear x; rotate_left; intro hx; clear_value x; rotate_right)
        | clear_value x)
      | apply Frame.ite | apply frame_emit | apply frame_judgeReports | exact hc.trans (by decide)
      | exact hc.bit (by decide) | split | apply Frame.set_ik

theorem frame_holdFields {M : Nat} {base : State} {s : State} (fs : List (Nat × Option Nat))
    (hc : Within 0x180201000013 M) (hk : Frame M base s) : Frame M base (State.holdFields s fs) := by
  unfold State.holdFields
  with_reducible repeat' first
      | assumption | apply Frame.refl
      | (extract_lets +onlyGivenNames x; first
        | (apply Frame.have x; unfold x; clear x; rotate_left; intro hx; clear_value x; rotate_right)
        | clear_value x)
      | apply Frame.ite | apply Frame.foldl | apply frame_sendReport | exact hc.trans (by decide)
      | exact hc.bit (by decide) | split | apply Frame.set_ik

theorem frame_refuseInstall {M : Nat} {base : State} {s : State} (fs : List (Nat × Option Nat))
    (hc : Within 0x100000000010 M) (hk : Frame M base s) : Frame M base ((State.refuseInstall s fs).1) := by
  unfold State.refuseInstall
  with_reducible repeat' first
      | assumption | apply Frame.refl
      | apply Frame.ite | apply frame_raise | exact hc.trans (by decide) | split

theorem frame_acceptCommit {M : Nat} {base : State} {s : State} (groups : List Nat) (hc : Within 0x182283157117 M)
    (hk : Frame M base s) : Frame M base (State.acceptCommit s groups) := by
  unfold State.acceptCommit
  with_reducible repeat' first
      | assumption | apply Frame.refl | intro _
      | (extract_lets +onlyGivenNames x; first
        | (apply Frame.have x; unfold x; clear x; rotate_left; intro hx; clear_value x; rotate_right)
        | (apply Frame.have1 x; unfold x; clear x; rotate_left; intro hx; clear_value x; rotate_right)
        | (apply Frame.have2 x; unfold x; clear x; rotate_left; intro hq; clear_value x; rotate_right)
        | (apply Frame.have3 x; unfold x; clear x; rotate_left; intro hq; clear_value x; rotate_right)
        | (apply Frame.have4 x; unfold x; clear x; rotate_left; intro hq; clear_value x; rotate_right)
        | clear_value x)
      | apply hq | apply Frame.ite | apply Frame.when | apply Frame.each | apply Frame.foldl | apply Frame.foldlFst
      | apply frame_announce | apply frame_commitsDue | apply frame_holdFields | apply frame_raise
      | apply frame_refuseInstall | apply frame_wr | exact hc.trans (by decide) | exact hc.bit (by decide) | split
      | apply Frame.set_commits

theorem frame_requestCommit {M : Nat} {base : State} {s : State} (tenant : Nat) (groups : List Nat)
    (hc : Within 0x182283157117 M) (hk : Frame M base s) : Frame M base (State.requestCommit s tenant groups) := by
  unfold State.requestCommit
  with_reducible repeat' first
      | assumption | apply Frame.refl | intro _
      | (extract_lets +onlyGivenNames x; first
        | (apply Frame.have x; unfold x; clear x; rotate_left; intro hx; clear_value x; rotate_right)
        | (apply Frame.have1 x; unfold x; clear x; rotate_left; intro hx; clear_value x; rotate_right)
        | (apply Frame.have2 x; unfold x; clear x; rotate_left; intro hq; clear_value x; rotate_right)
        | (apply Frame.have3 x; unfold x; clear x; rotate_left; intro hq; clear_value x; rotate_right)
        | (apply Frame.have4 x; unfold x; clear x; rotate_left; intro hq; clear_value x; rotate_right)
        | clear_value x)
      | apply hq | apply Frame.ite | apply Frame.when | apply Frame.each | apply Frame.foldl | apply Frame.foldlFst
      | apply frame_acceptCommit | apply frame_refuseCommit | exact hc.trans (by decide) | split

theorem frame_moveGroup {M : Nat} {base : State} {s : State} (p : Nat) (g : Nat) (hc : Within 0x2000000003 M)
    (hk : Frame M base s) : Frame M base (State.moveGroup s p g) := by
  unfold State.moveGroup
  with_reducible repeat' first
      | assumption | apply Frame.refl
      | (extract_lets +onlyGivenNames x; first
        | (apply Frame.have x; unfold x; clear x; rotate_left; intro hx; clear_value x; rotate_right)
        | clear_value x)
      | apply Frame.ite | apply frame_wr | exact hc.trans (by decide) | exact hc.bit (by decide) | split
      | apply Frame.set_commits

theorem frame_commitRequest {M : Nat} {base : State} (agent : Nat) (p : Nat) (v : Nat) {s : State}
    (hc : Within 0x182283157117 M) (hk : Frame M base s) : Frame M base (commitRequest agent p v s) := by
  unfold commitRequest
  with_reducible repeat' first
      | assumption | apply Frame.refl
      | (extract_lets +onlyGivenNames x; first
        | (apply Frame.have x; unfold x; clear x; rotate_left; intro hx; clear_value x; rotate_right)
        | clear_value x)
      | apply Frame.ite | apply frame_moveGroup | apply frame_requestCommit | exact hc.trans (by decide) | split

theorem frame_commitMulti {M : Nat} {base : State} (v : Nat) {s : State} (hc : Within 0x182283157117 M)
    (hk : Frame M base s) : Frame M base (commitMulti v s) := by
  unfold commitMulti
  with_reducible repeat' first
      | assumption
      | apply frame_requestCommit | exact hc.trans (by decide)

theorem frame_groupLineLoRead {M : Nat} {base : State} (agent : Nat) (g : Nat) (sub : Nat) (width : Nat)
    {s : State} (hc : Within 0x100000000018 M) (hk : Frame M base s) :
    Frame M base (groupLineLoRead agent g sub width s) := by
  unfold groupLineLoRead
  with_reducible repeat' first
      | assumption
      | apply frame_readPair | exact hc.trans (by decide)

theorem frame_dropCaptured {M : Nat} {base : State} {s : State} (d : Nat) (hc : Within 0x182201000013 M)
    (hk : Frame M base s) : Frame M base (State.dropCaptured s d) := by
  unfold State.dropCaptured
  with_reducible repeat' first
      | assumption | apply Frame.refl | intro _
      | (extract_lets +onlyGivenNames x; first
        | (apply Frame.have x; unfold x; clear x; rotate_left; intro hx; clear_value x; rotate_right)
        | (apply Frame.have1 x; unfold x; clear x; rotate_left; intro hx; clear_value x; rotate_right)
        | (apply Frame.have2 x; unfold x; clear x; rotate_left; intro hq; clear_value x; rotate_right)
        | (apply Frame.have3 x; unfold x; clear x; rotate_left; intro hq; clear_value x; rotate_right)
        | (apply Frame.have4 x; unfold x; clear x; rotate_left; intro hq; clear_value x; rotate_right)
        | clear_value x)
      | apply hq | apply Frame.ite | apply Frame.when | apply Frame.each | apply Frame.foldl | apply Frame.foldlFst
      | apply frame_refForget | exact hc.trans (by decide) | exact hc.bit (by decide) | split
      | apply Frame.set_ik_commits

theorem frame_slotSource {M : Nat} {base : State} {s : State} (t : Nat) (slot : Nat) (b : Bool)
    (hc : Within 0x100000000010 M) (hk : Frame M base s) : Frame M base (State.slotSource s t slot b) := by
  unfold State.slotSource
  with_reducible repeat' first
      | assumption
      | apply frame_withIc | exact hc.trans (by decide)

theorem frame_grantWrite {M : Nat} {base : State} (t : Nat) (slot : Nat) (v : Nat) {s : State}
    (hc : Within 0x100030000013 M) (hk : Frame M base s) : Frame M base (grantWrite t slot v s) := by
  unfold grantWrite
  with_reducible repeat' first
      | assumption | apply Frame.refl | intro _
      | (extract_lets +onlyGivenNames x; first
        | (apply Frame.have x; unfold x; clear x; rotate_left; intro hx; clear_value x; rotate_right)
        | clear_value x)
      | apply Frame.ite | apply Frame.when | apply frame_raise | apply frame_slotSource | apply frame_unmapped
      | apply frame_wr | apply frame_wrB | exact hc.trans (by decide) | split

theorem frame_pageDiscard {M : Nat} {base : State} (p : Nat) (v : Nat) {s : State} (hc : Within 0x4 M)
    (hk : Frame M base s) : Frame M base (pageDiscard p v s) := by
  unfold pageDiscard
  with_reducible repeat' first
      | assumption | apply Frame.refl | intro _
      | (extract_lets +onlyGivenNames x; first
        | (apply Frame.have x; unfold x; clear x; rotate_left; intro hx; clear_value x; rotate_right)
        | clear_value x)
      | apply Frame.ite | apply Frame.foldl | exact hc.trans (by decide) | exact hc.bit (by decide) | split
      | apply Frame.set_shadow

theorem frame_pageEventClear {M : Nat} {base : State} (p : Nat) (v : Nat) {s : State}
    (hc : Within 0x100000000010 M) (hk : Frame M base s) : Frame M base (pageEventClear p v s) := by
  unfold pageEventClear
  with_reducible repeat' first
      | assumption
      | apply frame_putEvents | exact hc.trans (by decide)

end Sys2Proof.Machine
end

