-- ==== Sys2Proof/Laws/FramesSystem.lean ====
section
/-!
SUPPORT. The frame of each function: runs, the cascade, domains, the log, the thermal model and management.
-/

namespace Sys2Proof.Machine

/-! ## LineFlow -/

theorem frame_cross {M : Nat} {base : State} {s : State} (t : Nat) (hc : Within 0x182283157917 M)
    (hk : Frame M base s) : Frame M base (State.cross s t) := by
  unfold State.cross
  with_reducible repeat' first
      | assumption
      | (extract_lets +onlyGivenNames x; first
        | (apply Frame.have x; unfold x; clear x; rotate_left; intro hx; clear_value x; rotate_right)
        | clear_value x)
      | apply frame_commitsDue | apply frame_putLt | apply frame_takeDiv | exact hc.trans (by decide)

theorem frame_countLine1 {M : Nat} {base : State} {s : State} (d : Int) (t : Nat) (dir : Int) (last : Nat)
    (hc : Within 0x182283157917 M) (hk : Frame M base s) : Frame M base (State.countLine1 s d t dir last) := by
  unfold State.countLine1
  with_reducible repeat' first
      | assumption | apply Frame.refl
      | (extract_lets +onlyGivenNames x; first
        | (apply Frame.have x; unfold x; clear x; rotate_left; intro hx; clear_value x; rotate_right)
        | clear_value x)
      | apply Frame.ite | apply frame_cross | apply frame_movePos | apply frame_putLt | exact hc.trans (by decide)
      | split

theorem frame_encoderCount {M : Nat} {base : State} (n : Nat) (a : Bool) (b : Bool) (stoodA : Nat) (stoodB : Nat)
    {s : State} (hc : Within 0x182283157d17 M) (hk : Frame M base s) :
    Frame M base (encoderCount n a b stoodA stoodB s) := by
  unfold encoderCount
  with_reducible repeat' first
      | assumption | apply Frame.refl | intro _
      | (extract_lets +onlyGivenNames x; first
        | (apply Frame.have x; unfold x; clear x; rotate_left; intro hx; clear_value x; rotate_right)
        | (apply Frame.have1 x; unfold x; clear x; rotate_left; intro hx; clear_value x; rotate_right)
        | (apply Frame.have2 x; unfold x; clear x; rotate_left; intro hq; clear_value x; rotate_right)
        | (apply Frame.have3 x; unfold x; clear x; rotate_left; intro hq; clear_value x; rotate_right)
        | (apply Frame.have4 x; unfold x; clear x; rotate_left; intro hq; clear_value x; rotate_right)
        | clear_value x)
      | apply hq | apply Frame.ite | apply Frame.when | apply Frame.each | apply Frame.foldl | apply Frame.foldlFst
      | apply frame_countLine1 | apply frame_encoderSample | apply frame_putEncoder | exact hc.trans (by decide)
      | split

theorem frame_triggerPrediction {M : Nat} {base : State} {s : State} (hc : Within 0x182283157917 M)
    (hk : Frame M base s) : Frame M base (triggerPrediction s) := by
  unfold triggerPrediction
  with_reducible repeat' first
      | assumption | apply Frame.refl
      | apply Frame.ite | apply frame_cross | exact hc.trans (by decide) | split

theorem frame_axisTrigger {M : Nat} {base : State} {s : State} (hc : Within 0x182283157917 M) (hk : Frame M base s) :
    Frame M base (State.axisTrigger s) := by
  unfold State.axisTrigger
  with_reducible repeat' first
      | assumption | apply Frame.refl
      | apply Frame.ite | apply frame_cross | exact hc.trans (by decide) | split

theorem frame_axisCross {M : Nat} {base : State} (p0 : Nat) {p1 : State} (hc : Within 0x182283157917 M)
    (hk : Frame M base p1) : Frame M base (State.axisCross p0 p1) := by
  induction p0 generalizing p1 with
  | zero => exact hk
  | succ _ ih =>
    unfold State.axisCross
    with_reducible repeat' first
        | assumption | apply Frame.refl
        | apply Frame.ite | apply frame_axisTrigger | apply ih | exact hc.trans (by decide) | split

theorem frame_axisEnd {M : Nat} {base : State} {s : State} (hc : Within 0x182283157917 M) (hk : Frame M base s) :
    Frame M base (State.axisEnd s) := by
  unfold State.axisEnd
  with_reducible repeat' first
      | assumption | apply Frame.refl | intro _
      | (extract_lets +onlyGivenNames x; first
        | (apply Frame.have x; unfold x; clear x; rotate_left; intro hx; clear_value x; rotate_right)
        | (apply Frame.have1 x; unfold x; clear x; rotate_left; intro hx; clear_value x; rotate_right)
        | (apply Frame.have2 x; unfold x; clear x; rotate_left; intro hq; clear_value x; rotate_right)
        | (apply Frame.have3 x; unfold x; clear x; rotate_left; intro hq; clear_value x; rotate_right)
        | (apply Frame.have4 x; unfold x; clear x; rotate_left; intro hq; clear_value x; rotate_right)
        | clear_value x)
      | apply hq | apply Frame.ite | apply Frame.when | apply Frame.each | apply Frame.foldl | apply Frame.foldlFst
      | apply frame_axisCross | apply frame_putLt | apply frame_raise | exact hc.trans (by decide) | split

theorem frame_axisLine {M : Nat} {base : State} {s : State} (hc : Within 0x182283157917 M) (hk : Frame M base s) :
    Frame M base (State.axisLine s) := by
  unfold State.axisLine
  with_reducible repeat' first
      | assumption | apply Frame.refl
      | (extract_lets +onlyGivenNames x; first
        | (apply Frame.have x; unfold x; clear x; rotate_left; intro hx; clear_value x; rotate_right)
        | clear_value x)
      | apply Frame.ite | apply frame_axisEnd | apply frame_putLt | exact hc.trans (by decide) | split

theorem frame_putKeep {M : Nat} {base : State} {s : State} (keep : Nat) (y : Nat) (hc : Within 0x100000000013 M)
    (hk : Frame M base s) : Frame M base (State.putKeep s keep y) := by
  unfold State.putKeep
  with_reducible repeat' first
      | assumption | apply Frame.refl | intro _
      | (extract_lets +onlyGivenNames x; first
        | (apply Frame.have x; unfold x; clear x; rotate_left; intro hx; clear_value x; rotate_right)
        | (apply Frame.have1 x; unfold x; clear x; rotate_left; intro hx; clear_value x; rotate_right)
        | (apply Frame.have2 x; unfold x; clear x; rotate_left; intro hq; clear_value x; rotate_right)
        | (apply Frame.have3 x; unfold x; clear x; rotate_left; intro hq; clear_value x; rotate_right)
        | (apply Frame.have4 x; unfold x; clear x; rotate_left; intro hq; clear_value x; rotate_right)
        | clear_value x)
      | apply hq | apply Frame.ite | apply Frame.when | apply Frame.each | apply Frame.foldl | apply Frame.foldlFst
      | apply frame_raise | apply frame_wr | apply frame_wrB | apply frame_wrPair | exact hc.trans (by decide) | split

theorem frame_keepTrigger {M : Nat} {base : State} {s : State} (y : Nat) (hc : Within 0x100000000093 M)
    (hk : Frame M base s) : Frame M base (State.keepTrigger s y) := by
  unfold State.keepTrigger
  with_reducible repeat' first
      | assumption | apply Frame.refl | intro _
      | (extract_lets +onlyGivenNames x; first
        | (apply Frame.have x; unfold x; clear x; rotate_left; intro hx; clear_value x; rotate_right)
        | clear_value x)
      | apply frame_putKeep | exact hc.trans (by decide) | exact hc.bit (by decide) | split | apply Frame.set_thin

theorem frame_assignLine {M : Nat} {base : State} {s : State} (y : Nat) (t : Nat) (hc : Within 0x100000201193 M)
    (hk : Frame M base s) : Frame M base (State.assignLine s y t) := by
  unfold State.assignLine
  with_reducible repeat' first
      | assumption | apply Frame.refl | intro _
      | (extract_lets +onlyGivenNames x; first
        | (apply Frame.have x; unfold x; clear x; rotate_left; intro hx; clear_value x; rotate_right)
        | clear_value x)
      | apply Frame.ite | apply Frame.when | apply Frame.each | apply frame_inc | apply frame_keepTrigger
      | apply frame_mark | apply frame_putGroup | apply frame_pwLine | apply frame_wr | apply frame_wrPair
      | exact hc.trans (by decide) | exact hc.bit (by decide) | split | apply Frame.set_lines

theorem frame_wantStart {M : Nat} {base : State} {s : State} (y : Nat) (t : Nat) (hc : Within 0x100000001813 M)
    (hk : Frame M base s) : Frame M base (State.wantStart s y t) := by
  unfold State.wantStart
  with_reducible repeat' first
      | assumption | apply Frame.refl
      | (extract_lets +onlyGivenNames x; first
        | (apply Frame.have x; unfold x; clear x; rotate_left; intro hx; clear_value x; rotate_right)
        | clear_value x)
      | apply Frame.ite | apply frame_inc | apply frame_mark | apply frame_putLt | apply frame_raise
      | exact hc.trans (by decide) | split

theorem frame_lineTrigger {M : Nat} {base : State} {s : State} (hc : Within 0x182283357997 M) (hk : Frame M base s) :
    Frame M base (lineTrigger s) := by
  unfold lineTrigger
  with_reducible repeat' first
      | assumption | apply Frame.refl
      | (extract_lets +onlyGivenNames x; first
        | (apply Frame.have x; unfold x; clear x; rotate_left; intro hx; clear_value x; rotate_right)
        | clear_value x)
      | apply Frame.ite | apply frame_assignLine | apply frame_axisTrigger | apply frame_putLt | apply frame_tellAll
      | apply frame_wantStart | exact hc.trans (by decide) | split

theorem frame_release {M : Nat} {base : State} {s : State} (hc : Within 0x1803 M) (hk : Frame M base s) :
    Frame M base (State.release s) := by
  unfold State.release
  with_reducible repeat' first
      | assumption | apply Frame.refl | intro _
      | (extract_lets +onlyGivenNames x; first
        | (apply Frame.have x; unfold x; clear x; rotate_left; intro hx; clear_value x; rotate_right)
        | (apply Frame.have1 x; unfold x; clear x; rotate_left; intro hx; clear_value x; rotate_right)
        | (apply Frame.have2 x; unfold x; clear x; rotate_left; intro hq; clear_value x; rotate_right)
        | (apply Frame.have3 x; unfold x; clear x; rotate_left; intro hq; clear_value x; rotate_right)
        | (apply Frame.have4 x; unfold x; clear x; rotate_left; intro hq; clear_value x; rotate_right)
        | clear_value x)
      | apply hq | apply Frame.ite | apply Frame.when | apply Frame.each | apply Frame.foldl | apply Frame.foldlFst
      | apply frame_atLine | apply frame_mark | apply frame_putLt | apply frame_wr | exact hc.trans (by decide)
      | split

theorem frame_minLinePeriodEnd {M : Nat} {base : State} (g : Nat) {s : State} (hc : Within 0x100000045913 M)
    (hk : Frame M base s) : Frame M base (minLinePeriodEnd g s) := by
  unfold minLinePeriodEnd
  with_reducible repeat' first
      | assumption | apply Frame.refl
      | (extract_lets +onlyGivenNames x; first
        | (apply Frame.have x; unfold x; clear x; rotate_left; intro hx; clear_value x; rotate_right)
        | clear_value x)
      | apply Frame.ite | apply frame_clipLeds | apply frame_putGroup | apply frame_release | apply frame_swapWaits
      | exact hc.trans (by decide) | split

theorem frame_flushLine {M : Nat} {base : State} (g : Nat) {s : State} (hc : Within 0x1000000dd117 M)
    (hk : Frame M base s) : Frame M base (flushLine g s) := by
  unfold flushLine
  with_reducible repeat' first
      | assumption | apply Frame.refl
      | apply Frame.ite | apply frame_nextPeriod | exact hc.trans (by decide) | split

theorem frame_laneStart {M : Nat} {base : State} {s : State} (y : Nat) (k : Nat) (hc : Within 0x18000c081003 M)
    (hk : Frame M base s) : Frame M base (State.laneStart s y k) := by
  unfold State.laneStart
  with_reducible repeat' first
      | assumption | apply Frame.refl
      | (extract_lets +onlyGivenNames x; first
        | (apply Frame.have x; unfold x; clear x; rotate_left; intro hx; clear_value x; rotate_right)
        | clear_value x)
      | apply Frame.ite | apply frame_compFault | apply frame_mark | apply frame_putLane | apply frame_wr
      | exact hc.trans (by decide) | split

theorem frame_groupStart {M : Nat} {base : State} {s : State} (y : Nat) (t : Nat) (g : Nat)
    (hc : Within 0x1000000dd117 M) (hk : Frame M base s) : Frame M base (State.groupStart s y t g) := by
  unfold State.groupStart
  with_reducible repeat' first
      | assumption | apply Frame.refl
      | (extract_lets +onlyGivenNames x; first
        | (apply Frame.have x; unfold x; clear x; rotate_left; intro hx; clear_value x; rotate_right)
        | clear_value x)
      | apply Frame.ite | apply frame_atLine | apply frame_disableGroup | apply frame_emit | apply frame_lineStart
      | apply frame_nextPeriod | apply frame_swapBanks | exact hc.trans (by decide) | split

theorem frame_plausLine {M : Nat} {base : State} {s : State} (y : Nat) (hc : Within 0x100000064113 M)
    (hk : Frame M base s) : Frame M base (State.plausLine s y) := by
  unfold State.plausLine
  with_reducible repeat' first
      | assumption | apply Frame.refl | intro _
      | (extract_lets +onlyGivenNames x; first
        | (apply Frame.have x; unfold x; clear x; rotate_left; intro hx; clear_value x; rotate_right)
        | clear_value x)
      | apply Frame.ite | apply Frame.when | apply frame_atLine | apply frame_castReact | apply frame_plausCompare
      | apply frame_plausStart | exact hc.trans (by decide) | exact hc.bit (by decide) | split | apply Frame.set_plaus
      | apply Frame.set_force

theorem frame_startLine {M : Nat} {base : State} {s : State} (y : Nat) (t : Nat) (hc : Within 0x18000c1ff117 M)
    (hk : Frame M base s) : Frame M base (State.startLine s y t) := by
  unfold State.startLine
  with_reducible repeat' first
      | assumption | apply Frame.refl | intro _
      | (extract_lets +onlyGivenNames x; first
        | (apply Frame.have x; unfold x; clear x; rotate_left; intro hx; clear_value x; rotate_right)
        | clear_value x)
      | apply Frame.ite | apply Frame.each | apply frame_evalTrims | apply frame_groupStart | apply frame_laneStart
      | apply frame_paceRequest | apply frame_plausLine | apply frame_queueMixes | apply frame_stepMixes
      | apply frame_stepTrims | exact hc.trans (by decide) | split

theorem frame_followStarts {M : Nat} {base : State} {s : State} (hc : Within 0x100200001813 M) (hk : Frame M base s) :
    Frame M base (State.followStarts s) := by
  unfold State.followStarts
  with_reducible repeat' first
      | assumption | apply Frame.refl
      | apply Frame.ite | apply frame_wantStart | exact hc.trans (by decide) | exact hc.bit (by decide) | split
      | apply Frame.set_ik

theorem frame_lineStart {M : Nat} {base : State} {s : State} (hc : Within 0x18020c1ff917 M) (hk : Frame M base s) :
    Frame M base (lineStart s) := by
  unfold lineStart
  with_reducible repeat' first
      | assumption | apply Frame.refl
      | (extract_lets +onlyGivenNames x; first
        | (apply Frame.have x; unfold x; clear x; rotate_left; intro hx; clear_value x; rotate_right)
        | clear_value x)
      | apply Frame.ite | apply frame_followStarts | apply frame_putLt | apply frame_startLine
      | exact hc.trans (by decide) | split

theorem frame_putIkState {M : Nat} {base : State} {s : State} (st : Nat) (why : Nat)
    (hc : Within 0x100000000013 M) (hk : Frame M base s) : Frame M base (State.putIkState s st why) := by
  unfold State.putIkState
  with_reducible repeat' first
      | assumption | apply Frame.refl | intro _
      | (extract_lets +onlyGivenNames x; first
        | (apply Frame.have x; unfold x; clear x; rotate_left; intro hx; clear_value x; rotate_right)
        | (apply Frame.have1 x; unfold x; clear x; rotate_left; intro hx; clear_value x; rotate_right)
        | (apply Frame.have2 x; unfold x; clear x; rotate_left; intro hq; clear_value x; rotate_right)
        | (apply Frame.have3 x; unfold x; clear x; rotate_left; intro hq; clear_value x; rotate_right)
        | (apply Frame.have4 x; unfold x; clear x; rotate_left; intro hq; clear_value x; rotate_right)
        | clear_value x)
      | apply hq | apply Frame.ite | apply Frame.when | apply Frame.each | apply Frame.foldl | apply Frame.foldlFst
      | apply frame_mgmtRaise | apply frame_raise | apply frame_wr | exact hc.trans (by decide) | split

theorem frame_beginRun {M : Nat} {base : State} {s : State} (hc : Within 0x18229fff7917 M) (hk : Frame M base s) :
    Frame M base (State.beginRun s) := by
  unfold State.beginRun
  with_reducible repeat' first
      | assumption | apply Frame.refl | intro _
      | (extract_lets +onlyGivenNames x; first
        | (apply Frame.have x; unfold x; clear x; rotate_left; intro hx; clear_value x; rotate_right)
        | clear_value x)
      | apply Frame.ite | apply Frame.each | apply Frame.foldl | apply frame_commitsDue | apply frame_compSettle
      | apply frame_compStart | apply frame_cross | apply frame_inc | apply frame_prodStart | apply frame_putGroup
      | apply frame_putLane | apply frame_putLt | apply frame_pwStart | apply frame_raise | apply frame_refRunStart
      | apply frame_regRunStart | apply frame_takeDiv | apply frame_wr | exact hc.trans (by decide)
      | exact hc.bit (by decide) | split | apply Frame.set_lines_epochs_readouts_plaus_opal_outLines_joints_ik

theorem frame_refuseRun {M : Nat} {base : State} {s : State} (why : Nat) (hc : Within 0x100000000013 M)
    (hk : Frame M base s) : Frame M base (State.refuseRun s why) := by
  unfold State.refuseRun
  with_reducible repeat' first
      | assumption
      | apply frame_raise | apply frame_wr | exact hc.trans (by decide)

theorem frame_startRun {M : Nat} {base : State} {s : State} (hc : Within 0x18229fff7917 M) (hk : Frame M base s) :
    Frame M base (State.startRun s) := by
  unfold State.startRun
  with_reducible repeat' first
      | assumption | apply Frame.refl
      | (extract_lets +onlyGivenNames x; first
        | (apply Frame.have x; unfold x; clear x; rotate_left; intro hx; clear_value x; rotate_right)
        | clear_value x)
      | apply Frame.ite | apply frame_beginRun | apply frame_putIkState | apply frame_tellAll
      | exact hc.trans (by decide) | split

theorem frame_runStart {M : Nat} {base : State} {s : State} (hc : Within 0x18229fff7917 M) (hk : Frame M base s) :
    Frame M base (runStart s) := by
  unfold runStart
  with_reducible repeat' first
      | assumption | apply Frame.refl
      | apply Frame.ite | apply frame_refuseRun | apply frame_startRun | apply frame_wr | exact hc.trans (by decide)
      | split

theorem frame_followRun {M : Nat} {base : State} {s : State} (hc : Within 0x18229fff7917 M) (hk : Frame M base s) :
    Frame M base (State.followRun s) := by
  unfold State.followRun
  with_reducible repeat' first
      | assumption | apply Frame.refl
      | (extract_lets +onlyGivenNames x; first
        | (apply Frame.have x; unfold x; clear x; rotate_left; intro hx; clear_value x; rotate_right)
        | clear_value x)
      | apply Frame.ite | apply frame_beginRun | apply frame_putIkState | apply frame_wr | exact hc.trans (by decide)
      | exact hc.bit (by decide) | split | apply Frame.set_ik

theorem frame_runStartDelayed {M : Nat} {base : State} {s : State} (hc : Within 0x18229fff7917 M)
    (hk : Frame M base s) : Frame M base (runStartDelayed s) := by
  unfold runStartDelayed
  with_reducible repeat' first
      | assumption | apply Frame.refl
      | (extract_lets +onlyGivenNames x; first
        | (apply Frame.have x; unfold x; clear x; rotate_left; intro hx; clear_value x; rotate_right)
        | clear_value x)
      | apply Frame.ite | apply frame_followRun | apply frame_refuseRun | apply frame_startRun | apply frame_wr
      | exact hc.trans (by decide) | split

theorem frame_endRun {M : Nat} {base : State} {s : State} (hc : Within 0x1822df357917 M) (hk : Frame M base s) :
    Frame M base (State.endRun s) := by
  unfold State.endRun
  with_reducible repeat' first
      | assumption | apply Frame.refl | intro _
      | (extract_lets +onlyGivenNames x; first
        | (apply Frame.have x; unfold x; clear x; rotate_left; intro hx; clear_value x; rotate_right)
        | clear_value x)
      | apply Frame.ite | apply Frame.each | apply frame_brRunStop | apply frame_captureStop | apply frame_castReact
      | apply frame_commitsDue | apply frame_compStop | apply frame_prodStop | apply frame_putConv
      | apply frame_putGroup | apply frame_putLt | apply frame_pwStop | apply frame_raise | apply frame_refEmpty
      | apply frame_regRunStop | apply frame_swapAtStop | apply frame_wr | exact hc.trans (by decide) | split

theorem frame_runStop {M : Nat} {base : State} {s : State} (hc : Within 0x1822df357917 M) (hk : Frame M base s) :
    Frame M base (runStop s) := by
  unfold runStop
  with_reducible repeat' first
      | assumption | apply Frame.refl
      | (extract_lets +onlyGivenNames x; first
        | (apply Frame.have x; unfold x; clear x; rotate_left; intro hx; clear_value x; rotate_right)
        | clear_value x)
      | apply Frame.ite | apply frame_endRun | apply frame_putIkState | apply frame_refuseRun | apply frame_tellAll
      | exact hc.trans (by decide) | split

theorem frame_cutGroup {M : Nat} {base : State} {s : State} (g : Nat) (hc : Within 0x18000c011113 M)
    (hk : Frame M base s) : Frame M base (State.cutGroup s g) := by
  unfold State.cutGroup
  with_reducible repeat' first
      | assumption | apply Frame.refl
      | (extract_lets +onlyGivenNames x; first
        | (apply Frame.have x; unfold x; clear x; rotate_left; intro hx; clear_value x; rotate_right)
        | clear_value x)
      | apply Frame.ite | apply frame_compFault | apply frame_discardReadouts | apply frame_endPeriod
      | apply frame_mark | apply frame_putGroup | exact hc.trans (by decide) | split

theorem frame_refclkLoss {M : Nat} {base : State} {s : State} (hc : Within 0x18018c011913 M) (hk : Frame M base s) :
    Frame M base (refclkLoss s) := by
  unfold refclkLoss
  with_reducible repeat' first
      | assumption | apply Frame.refl | intro _
      | (extract_lets +onlyGivenNames x; first
        | (apply Frame.have x; unfold x; clear x; rotate_left; intro hx; clear_value x; rotate_right)
        | clear_value x)
      | apply Frame.ite | apply Frame.when | apply Frame.each | apply frame_calAbort | apply frame_cutGroup
      | apply frame_emit | apply frame_mark | apply frame_motRefclkLost | apply frame_pfeAbandon | apply frame_putLt
      | apply frame_raise | apply frame_wr | exact hc.trans (by decide) | split

theorem frame_synthRelock {M : Nat} {base : State} {s : State} (hc : Within 0x100000000103 M) (hk : Frame M base s) :
    Frame M base (synthRelock s) := by
  unfold synthRelock
  with_reducible repeat' first
      | assumption | apply Frame.refl | intro _
      | (extract_lets +onlyGivenNames x; first
        | (apply Frame.have x; unfold x; clear x; rotate_left; intro hx; clear_value x; rotate_right)
        | clear_value x)
      | apply Frame.ite | apply Frame.each | apply frame_emit | apply frame_putGroup | apply frame_wr
      | exact hc.trans (by decide) | split

theorem frame_pfeScanEndCmd {M : Nat} {base : State} {s : State} (hc : Within 0x1800c0000013 M)
    (hk : Frame M base s) : Frame M base (pfeScanEndCmd s) := by
  unfold pfeScanEndCmd
  with_reducible repeat' first
      | assumption | apply Frame.refl
      | apply Frame.ite | apply frame_brFrontEnd | apply frame_paceRequest | apply frame_pfeScanEnd
      | exact hc.trans (by decide) | split

theorem frame_berylFrameEnd {M : Nat} {base : State} (p : Nat) {s : State} (hc : Within 0x18015c000013 M)
    (hk : Frame M base s) : Frame M base (berylFrameEnd p s) := by
  unfold berylFrameEnd
  with_reducible repeat' first
      | assumption | apply Frame.refl
      | apply Frame.ite | apply frame_brEndFrame | apply frame_paceRequest | exact hc.trans (by decide) | split

theorem frame_servoBoundaryCmd {M : Nat} {base : State} {s : State} (hc : Within 0x1823c3157917 M)
    (hk : Frame M base s) : Frame M base (servoBoundaryCmd s) := by
  unfold servoBoundaryCmd
  with_reducible repeat' first
      | assumption | apply Frame.refl
      | apply Frame.ite | apply frame_axisLine | apply frame_brAxes | apply frame_paceRequest
      | apply frame_servoBoundary | exact hc.trans (by decide) | split

/-! ## Ikito -/

theorem frame_tell {M : Nat} {base : State} {s : State} (p : Nat) (type : Nat) (payload : List Nat)
    (hc : Within 0x100000000000 M) (hk : Frame M base s) : Frame M base (State.tell s p type payload) := by
  unfold State.tell
  with_reducible repeat' first
      | assumption | apply Frame.refl | intro _
      | (extract_lets +onlyGivenNames x; first
        | (apply Frame.have x; unfold x; clear x; rotate_left; intro hx; clear_value x; rotate_right)
        | (apply Frame.have1 x; unfold x; clear x; rotate_left; intro hx; clear_value x; rotate_right)
        | (apply Frame.have2 x; unfold x; clear x; rotate_left; intro hq; clear_value x; rotate_right)
        | (apply Frame.have3 x; unfold x; clear x; rotate_left; intro hq; clear_value x; rotate_right)
        | (apply Frame.have4 x; unfold x; clear x; rotate_left; intro hq; clear_value x; rotate_right)
        | clear_value x)
      | apply hq | apply Frame.ite | apply Frame.when | apply Frame.each | apply Frame.foldl | apply Frame.foldlFst
      | apply frame_emit | exact hc.trans (by decide) | split

theorem frame_relay {M : Nat} {base : State} {s : State} (p : Nat) (type : Nat) (payload : List Nat)
    (hc : Within 0x100000000000 M) (hk : Frame M base s) : Frame M base (State.relay s p type payload) := by
  unfold State.relay
  with_reducible repeat' first
      | assumption
      | apply frame_tell | exact hc.trans (by decide)

theorem frame_frame {M : Nat} {base : State} {s : State} (p : Nat) (f : State → State) (hf : ∀ s, Frame M s (f s))
    (hc : Within 0x200000000 M) (hk : Frame M base s) : Frame M base (State.frame s p f) := by
  unfold State.frame
  with_reducible repeat' first
      | assumption | apply Frame.refl
      | apply Frame.ite | refine Frame.trans ?_ (hf ..) | exact hc.trans (by decide) | exact hc.bit (by decide)
      | split | apply Frame.set_ik

theorem frame_linkEvent {M : Nat} {base : State} {s : State} (hc : Within 0x100000000010 M) (hk : Frame M base s) :
    Frame M base (State.linkEvent s) := by
  unfold State.linkEvent
  with_reducible repeat' first
      | assumption
      | apply frame_mgmtRaise | apply frame_raise | exact hc.trans (by decide)

theorem frame_sendState {M : Nat} {base : State} {s : State} (hc : Within 0x100000000000 M) (hk : Frame M base s) :
    Frame M base (State.sendState s) := by
  unfold State.sendState
  with_reducible repeat' first
      | assumption | apply Frame.refl
      | apply Frame.ite | apply frame_tell | apply frame_tellAll | exact hc.trans (by decide) | split

theorem frame_sendEnum {M : Nat} {base : State} {s : State} (hc : Within 0x100000000000 M) (hk : Frame M base s) :
    Frame M base (State.sendEnum s) := by
  unfold State.sendEnum
  with_reducible repeat' first
      | assumption | apply Frame.refl | intro _
      | (extract_lets +onlyGivenNames x; first
        | (apply Frame.have x; unfold x; clear x; rotate_left; intro hx; clear_value x; rotate_right)
        | (apply Frame.have1 x; unfold x; clear x; rotate_left; intro hx; clear_value x; rotate_right)
        | (apply Frame.have2 x; unfold x; clear x; rotate_left; intro hq; clear_value x; rotate_right)
        | (apply Frame.have3 x; unfold x; clear x; rotate_left; intro hq; clear_value x; rotate_right)
        | (apply Frame.have4 x; unfold x; clear x; rotate_left; intro hq; clear_value x; rotate_right)
        | clear_value x)
      | apply hq | apply Frame.ite | apply Frame.when | apply Frame.each | apply Frame.foldl | apply Frame.foldlFst
      | apply frame_tellAll | exact hc.trans (by decide) | split

theorem frame_dropRun {M : Nat} {base : State} {s : State} (hc : Within 0x1822df357917 M) (hk : Frame M base s) :
    Frame M base (State.dropRun s) := by
  unfold State.dropRun
  with_reducible repeat' first
      | assumption | apply Frame.refl | intro _
      | (extract_lets +onlyGivenNames x; first
        | (apply Frame.have x; unfold x; clear x; rotate_left; intro hx; clear_value x; rotate_right)
        | clear_value x)
      | apply Frame.ite | apply Frame.each | apply Frame.foldl | apply frame_endRun | apply frame_mark
      | exact hc.trans (by decide) | split

theorem frame_haltRun {M : Nat} {base : State} {s : State} (cause : Nat) (hc : Within 0x1822df357917 M)
    (hk : Frame M base s) : Frame M base (State.haltRun s cause) := by
  unfold State.haltRun
  with_reducible repeat' first
      | assumption | apply Frame.refl
      | (extract_lets +onlyGivenNames x; first
        | (apply Frame.have x; unfold x; clear x; rotate_left; intro hx; clear_value x; rotate_right)
        | clear_value x)
      | apply Frame.ite | apply frame_dropRun | apply frame_putIkState | apply frame_tellAll | apply frame_wr
      | exact hc.trans (by decide) | split

theorem frame_portDown {M : Nat} {base : State} {s : State} (p : Nat) (hc : Within 0x1822df357917 M)
    (hk : Frame M base s) : Frame M base (State.portDown s p) := by
  unfold State.portDown
  with_reducible repeat' first
      | assumption | apply Frame.refl | intro _
      | (extract_lets +onlyGivenNames x; first
        | (apply Frame.have x; unfold x; clear x; rotate_left; intro hx; clear_value x; rotate_right)
        | clear_value x)
      | apply Frame.ite | apply Frame.when | apply frame_haltRun | apply frame_inc | apply frame_linkEvent
      | apply frame_sourceLost | apply frame_wr | exact hc.trans (by decide) | exact hc.bit (by decide) | split
      | apply Frame.set_ik

theorem frame_ikOff {M : Nat} {base : State} {s : State} (hc : Within 0x1822df357917 M) (hk : Frame M base s) :
    Frame M base (State.ikOff s) := by
  unfold State.ikOff
  with_reducible repeat' first
      | assumption
      | (extract_lets +onlyGivenNames x; first
        | (apply Frame.have x; unfold x; clear x; rotate_left; intro hx; clear_value x; rotate_right)
        | clear_value x)
      | apply frame_dropRun | apply frame_portDown | apply frame_putIkState | exact hc.trans (by decide)
      | exact hc.bit (by decide) | apply Frame.set_ik

theorem frame_ikLink {M : Nat} {base : State} {s : State} (hc : Within 0x1822df357917 M) (hk : Frame M base s) :
    Frame M base (State.ikLink s) := by
  unfold State.ikLink
  with_reducible repeat' first
      | assumption | apply Frame.refl | intro _
      | (extract_lets +onlyGivenNames x; first
        | (apply Frame.have x; unfold x; clear x; rotate_left; intro hx; clear_value x; rotate_right)
        | (apply Frame.have1 x; unfold x; clear x; rotate_left; intro hx; clear_value x; rotate_right)
        | (apply Frame.have2 x; unfold x; clear x; rotate_left; intro hq; clear_value x; rotate_right)
        | (apply Frame.have3 x; unfold x; clear x; rotate_left; intro hq; clear_value x; rotate_right)
        | (apply Frame.have4 x; unfold x; clear x; rotate_left; intro hq; clear_value x; rotate_right)
        | clear_value x)
      | apply hq | apply Frame.ite | apply Frame.when | apply Frame.each | apply Frame.foldl | apply Frame.foldlFst
      | apply frame_endRun | apply frame_putIkState | apply frame_sendEnum | exact hc.trans (by decide)
      | exact hc.bit (by decide) | split | apply Frame.set_ik

theorem frame_setDelay {M : Nat} {base : State} {s : State} (hc : Within 0x200000003 M) (hk : Frame M base s) :
    Frame M base (State.setDelay s) := by
  unfold State.setDelay
  with_reducible repeat' first
      | assumption | apply Frame.refl | intro _
      | (extract_lets +onlyGivenNames x; first
        | (apply Frame.have x; unfold x; clear x; rotate_left; intro hx; clear_value x; rotate_right)
        | clear_value x)
      | apply Frame.ite | apply Frame.foldl | apply frame_wr | exact hc.trans (by decide) | exact hc.bit (by decide)
      | split | apply Frame.set_ik

theorem frame_ikEvaluate {M : Nat} {base : State} {s : State} (hc : Within 0x1822df357917 M) (hk : Frame M base s) :
    Frame M base (State.ikEvaluate s) := by
  unfold State.ikEvaluate
  with_reducible repeat' first
      | assumption | apply Frame.refl | intro _
      | (extract_lets +onlyGivenNames x; first
        | (apply Frame.have x; unfold x; clear x; rotate_left; intro hx; clear_value x; rotate_right)
        | (apply Frame.have1 x; unfold x; clear x; rotate_left; intro hx; clear_value x; rotate_right)
        | (apply Frame.have2 x; unfold x; clear x; rotate_left; intro hq; clear_value x; rotate_right)
        | (apply Frame.have3 x; unfold x; clear x; rotate_left; intro hq; clear_value x; rotate_right)
        | (apply Frame.have4 x; unfold x; clear x; rotate_left; intro hq; clear_value x; rotate_right)
        | clear_value x)
      | apply hq | apply Frame.ite | apply Frame.when | apply Frame.each | apply Frame.foldl | apply Frame.foldlFst
      | apply frame_ikLink | apply frame_ikOff | apply frame_putIkState | apply frame_setDelay | apply frame_wr
      | exact hc.trans (by decide) | split

theorem frame_ikCtlWrite {M : Nat} {base : State} {s : State} (v : Nat) (hc : Within 0x1822df357917 M)
    (hk : Frame M base s) : Frame M base (State.ikCtlWrite s v) := by
  unfold State.ikCtlWrite
  with_reducible repeat' first
      | assumption
      | apply frame_hostWord | apply frame_ikEvaluate | exact hc.trans (by decide)

theorem frame_ikEnum {M : Nat} {base : State} (port : Nat) (lead : Bool) (sender : Nat) (mine : Nat) (count : Nat)
    (offer : Nat) (w : Nat) (o : Nat) (src : Nat) {s : State} (hc : Within 0x1822df357917 M) (hk : Frame M base s) :
    Frame M base (ikEnum port lead sender mine count offer w o src s) := by
  unfold ikEnum
  with_reducible repeat' first
      | assumption | apply Frame.refl | intro _
      | (extract_lets +onlyGivenNames x; first
        | (apply Frame.have x; unfold x; clear x; rotate_left; intro hx; clear_value x; rotate_right)
        | clear_value x)
      | apply Frame.ite | apply Frame.when | apply frame_frame | apply frame_ikEvaluate | apply frame_ikLink
      | apply frame_relay | apply frame_tell | apply frame_wr | exact hc.trans (by decide) | exact hc.bit (by decide)
      | split | apply Frame.set_ik

theorem frame_ikPortTrained {M : Nat} {base : State} (p : Nat) (width : Nat) {s : State}
    (hc : Within 0x1822df357917 M) (hk : Frame M base s) : Frame M base (ikPortTrained p width s) := by
  unfold ikPortTrained
  with_reducible repeat' first
      | assumption | apply Frame.refl
      | apply Frame.ite | apply frame_ikEvaluate | apply frame_linkEvent | apply frame_sendEnum | apply frame_wr
      | exact hc.trans (by decide) | split

theorem frame_ikPortDown {M : Nat} {base : State} (p : Nat) {s : State} (hc : Within 0x1822df357917 M)
    (hk : Frame M base s) : Frame M base (ikPortDown p s) := by
  unfold ikPortDown
  with_reducible repeat' first
      | assumption | apply Frame.refl
      | apply Frame.ite | apply frame_ikEvaluate | apply frame_portDown | exact hc.trans (by decide) | split

theorem frame_ikPortRetry {M : Nat} {base : State} (p : Nat) {s : State} (hc : Within 0x100000000000 M)
    (hk : Frame M base s) : Frame M base (ikPortRetry p s) := by
  unfold ikPortRetry
  with_reducible repeat' first
      | assumption | apply Frame.refl | intro _
      | (extract_lets +onlyGivenNames x; first
        | (apply Frame.have x; unfold x; clear x; rotate_left; intro hx; clear_value x; rotate_right)
        | (apply Frame.have1 x; unfold x; clear x; rotate_left; intro hx; clear_value x; rotate_right)
        | (apply Frame.have2 x; unfold x; clear x; rotate_left; intro hq; clear_value x; rotate_right)
        | (apply Frame.have3 x; unfold x; clear x; rotate_left; intro hq; clear_value x; rotate_right)
        | (apply Frame.have4 x; unfold x; clear x; rotate_left; intro hq; clear_value x; rotate_right)
        | clear_value x)
      | apply hq | apply Frame.ite | apply Frame.when | apply Frame.each | apply Frame.foldl | apply Frame.foldlFst
      | apply frame_emit | exact hc.trans (by decide) | split

theorem frame_ikFrameCrcError {M : Nat} {base : State} (p : Nat) {s : State} (hc : Within 0x1822df357917 M)
    (hk : Frame M base s) : Frame M base (ikFrameCrcError p s) := by
  unfold ikFrameCrcError
  with_reducible repeat' first
      | assumption | apply Frame.refl
      | (extract_lets +onlyGivenNames x; first
        | (apply Frame.have x; unfold x; clear x; rotate_left; intro hx; clear_value x; rotate_right)
        | clear_value x)
      | apply Frame.ite | apply frame_ikEvaluate | apply frame_inc | apply frame_portDown | exact hc.trans (by decide)
      | exact hc.bit (by decide) | split | apply Frame.set_ik

theorem frame_resynced {M : Nat} {base : State} {s : State} (hc : Within 0x100000000013 M) (hk : Frame M base s) :
    Frame M base (State.resynced s) := by
  unfold State.resynced
  with_reducible repeat' first
      | assumption
      | apply frame_inc | apply frame_raise | exact hc.trans (by decide)

theorem frame_track {M : Nat} {base : State} {s : State} (offset : Int) (hc : Within 0x100200000133 M)
    (hk : Frame M base s) : Frame M base (State.track s offset) := by
  unfold State.track
  with_reducible repeat' first
      | assumption | apply Frame.refl
      | (extract_lets +onlyGivenNames x; first
        | (apply Frame.have x; unfold x; clear x; rotate_left; intro hx; clear_value x; rotate_right)
        | clear_value x)
      | apply Frame.ite | apply frame_resynced | apply frame_setTime | apply frame_wrS | exact hc.trans (by decide)
      | exact hc.bit (by decide) | split | apply Frame.set_ik

theorem frame_ikTime {M : Nat} {base : State} (port : Nat) (time : Nat) {s : State} (hc : Within 0x1822df357937 M)
    (hk : Frame M base s) : Frame M base (ikTime port time s) := by
  unfold ikTime
  with_reducible repeat' first
      | assumption | apply Frame.refl | intro _
      | apply Frame.ite | apply frame_frame | apply frame_ikEvaluate | apply frame_relay | apply frame_track
      | exact hc.trans (by decide) | split

theorem frame_ikPing {M : Nat} {base : State} (port : Nat) (pos : Nat) (t0 : Nat) (rx : Nat) (tx : Nat) (l : Nat)
    {s : State} (hc : Within 0x100200000003 M) (hk : Frame M base s) :
    Frame M base (ikPing port pos t0 rx tx l s) := by
  unfold ikPing
  with_reducible repeat' first
      | assumption | apply Frame.refl | intro _
      | (extract_lets +onlyGivenNames x; first
        | (apply Frame.have x; unfold x; clear x; rotate_left; intro hx; clear_value x; rotate_right)
        | clear_value x)
      | apply Frame.ite | apply Frame.when | apply frame_frame | apply frame_relay | apply frame_tell | apply frame_wr
      | exact hc.trans (by decide) | exact hc.bit (by decide) | split | apply Frame.set_ik

theorem frame_ikTimeSend {M : Nat} {base : State} {s : State} (hc : Within 0x1822df357917 M) (hk : Frame M base s) :
    Frame M base (ikTimeSend s) := by
  unfold ikTimeSend
  with_reducible repeat' first
      | assumption | apply Frame.refl | intro _
      | (extract_lets +onlyGivenNames x; first
        | (apply Frame.have x; unfold x; clear x; rotate_left; intro hx; clear_value x; rotate_right)
        | (apply Frame.have1 x; unfold x; clear x; rotate_left; intro hx; clear_value x; rotate_right)
        | (apply Frame.have2 x; unfold x; clear x; rotate_left; intro hq; clear_value x; rotate_right)
        | (apply Frame.have3 x; unfold x; clear x; rotate_left; intro hq; clear_value x; rotate_right)
        | (apply Frame.have4 x; unfold x; clear x; rotate_left; intro hq; clear_value x; rotate_right)
        | clear_value x)
      | apply hq | apply Frame.ite | apply Frame.when | apply Frame.each | apply Frame.foldl | apply Frame.foldlFst
      | apply frame_ikEvaluate | apply frame_sendState | apply frame_tellAll | exact hc.trans (by decide) | split

theorem frame_ikPingSend {M : Nat} {base : State} {s : State} (hc : Within 0x100000000000 M) (hk : Frame M base s) :
    Frame M base (ikPingSend s) := by
  unfold ikPingSend
  with_reducible repeat' first
      | assumption | apply Frame.refl | intro _
      | (extract_lets +onlyGivenNames x; first
        | (apply Frame.have x; unfold x; clear x; rotate_left; intro hx; clear_value x; rotate_right)
        | (apply Frame.have1 x; unfold x; clear x; rotate_left; intro hx; clear_value x; rotate_right)
        | (apply Frame.have2 x; unfold x; clear x; rotate_left; intro hq; clear_value x; rotate_right)
        | (apply Frame.have3 x; unfold x; clear x; rotate_left; intro hq; clear_value x; rotate_right)
        | (apply Frame.have4 x; unfold x; clear x; rotate_left; intro hq; clear_value x; rotate_right)
        | clear_value x)
      | apply hq | apply Frame.ite | apply Frame.when | apply Frame.each | apply Frame.foldl | apply Frame.foldlFst
      | apply frame_tellAll | exact hc.trans (by decide) | split

theorem frame_orderedStop {M : Nat} {base : State} {s : State} (hc : Within 0x1822df357917 M) (hk : Frame M base s) :
    Frame M base (State.orderedStop s) := by
  unfold State.orderedStop
  with_reducible repeat' first
      | assumption | apply Frame.refl
      | apply Frame.ite | apply frame_endRun | apply frame_putIkState | exact hc.trans (by decide)
      | exact hc.bit (by decide) | split | apply Frame.set_ik

theorem frame_ikTrigger {M : Nat} {base : State} (port : Nat) (y : Nat) (t : Nat) (d : Nat) {s : State}
    (hc : Within 0x1822df357997 M) (hk : Frame M base s) : Frame M base (ikTrigger port y t d s) := by
  unfold ikTrigger
  with_reducible repeat' first
      | assumption | apply Frame.refl | intro _
      | (extract_lets +onlyGivenNames x; first
        | (apply Frame.have x; unfold x; clear x; rotate_left; intro hx; clear_value x; rotate_right)
        | clear_value x)
      | apply Frame.ite | apply frame_assignLine | apply frame_commitsDue | apply frame_frame
      | apply frame_orderedStop | apply frame_putLt | apply frame_relay | exact hc.trans (by decide)
      | exact hc.bit (by decide) | split | apply Frame.set_ik

theorem frame_ikState {M : Nat} {base : State} (port : Nat) (pos : Nat) (run : Bool) (digest : List Nat)
    (gen : Nat) (keep : Nat) (pause : Bool) {s : State} (hc : Within 0x1822df357917 M) (hk : Frame M base s) :
    Frame M base (ikState port pos run digest gen keep pause s) := by
  unfold ikState
  with_reducible repeat' first
      | assumption | apply Frame.refl | intro _
      | (extract_lets +onlyGivenNames x; first
        | (apply Frame.have x; unfold x; clear x; rotate_left; intro hx; clear_value x; rotate_right)
        | clear_value x)
      | apply Frame.ite | apply Frame.when | apply Frame.each | apply frame_frame | apply frame_haltRun
      | apply frame_ikEvaluate | apply frame_relay | apply frame_wr | exact hc.trans (by decide)
      | exact hc.bit (by decide) | split | apply Frame.set_ik

theorem frame_ikRun {M : Nat} {base : State} (port : Nat) (start : Bool) (y : Nat) (t : Nat) {s : State}
    (hc : Within 0x1822dfff7917 M) (hk : Frame M base s) : Frame M base (ikRun port start y t s) := by
  unfold ikRun
  with_reducible repeat' first
      | assumption | apply Frame.refl | intro _
      | (extract_lets +onlyGivenNames x; first
        | (apply Frame.have x; unfold x; clear x; rotate_left; intro hx; clear_value x; rotate_right)
        | clear_value x)
      | apply Frame.ite | apply frame_followRun | apply frame_frame | apply frame_orderedStop | apply frame_relay
      | apply frame_wr | exact hc.trans (by decide) | exact hc.bit (by decide) | split | apply Frame.set_ik

theorem frame_ikHalt {M : Nat} {base : State} (port : Nat) (cause : Nat) (y : Nat) {s : State}
    (hc : Within 0x1822df357917 M) (hk : Frame M base s) : Frame M base (ikHalt port cause y s) := by
  unfold ikHalt
  with_reducible repeat' first
      | assumption | apply Frame.refl | intro _
      | apply Frame.ite | apply frame_frame | apply frame_haltRun | apply frame_relay | exact hc.trans (by decide)
      | split

theorem frame_ikClear {M : Nat} {base : State} (v : Nat) {s : State} (hc : Within 0x1822df357917 M)
    (hk : Frame M base s) : Frame M base (ikClear v s) := by
  unfold ikClear
  with_reducible repeat' first
      | assumption | apply Frame.refl
      | (extract_lets +onlyGivenNames x; first
        | (apply Frame.have x; unfold x; clear x; rotate_left; intro hx; clear_value x; rotate_right)
        | clear_value x)
      | apply Frame.ite | apply frame_ikLink | exact hc.trans (by decide) | split

theorem frame_takeThin {M : Nat} {base : State} {s : State} (keep : Nat) (y : Nat) (hc : Within 0x80 M)
    (hk : Frame M base s) : Frame M base (State.takeThin s keep y) := by
  unfold State.takeThin
  with_reducible repeat' first
      | assumption | intro _
      | exact hc.trans (by decide) | exact hc.bit (by decide) | apply Frame.set_thin

theorem frame_sendThin {M : Nat} {base : State} {s : State} (hc : Within 0x100000000080 M) (hk : Frame M base s) :
    Frame M base (State.sendThin s) := by
  unfold State.sendThin
  with_reducible repeat' first
      | assumption | apply Frame.refl | intro _
      | (extract_lets +onlyGivenNames x; first
        | (apply Frame.have x; unfold x; clear x; rotate_left; intro hx; clear_value x; rotate_right)
        | clear_value x)
      | apply Frame.ite | apply Frame.foldl | apply frame_takeThin | apply frame_tellAll | exact hc.trans (by decide)
      | split

theorem frame_ikThin {M : Nat} {base : State} (port : Nat) (keep : Nat) (y : Nat) {s : State}
    (hc : Within 0x100200000080 M) (hk : Frame M base s) : Frame M base (ikThin port keep y s) := by
  unfold ikThin
  with_reducible repeat' first
      | assumption | apply Frame.refl | intro _
      | apply Frame.ite | apply frame_frame | apply frame_relay | apply frame_takeThin | exact hc.trans (by decide)
      | split

theorem frame_paceWindowEndCmd {M : Nat} {base : State} (tokens : List Nat) {s : State}
    (hc : Within 0x1000000000d3 M) (hk : Frame M base s) : Frame M base (paceWindowEndCmd tokens s) := by
  unfold paceWindowEndCmd
  with_reducible repeat' first
      | assumption | apply Frame.refl | intro _
      | (extract_lets +onlyGivenNames x; first
        | (apply Frame.have x; unfold x; clear x; rotate_left; intro hx; clear_value x; rotate_right)
        | (apply Frame.have1 x; unfold x; clear x; rotate_left; intro hx; clear_value x; rotate_right)
        | (apply Frame.have2 x; unfold x; clear x; rotate_left; intro hq; clear_value x; rotate_right)
        | (apply Frame.have3 x; unfold x; clear x; rotate_left; intro hq; clear_value x; rotate_right)
        | (apply Frame.have4 x; unfold x; clear x; rotate_left; intro hq; clear_value x; rotate_right)
        | clear_value x)
      | apply hq | apply Frame.ite | apply Frame.when | apply Frame.each | apply Frame.foldl | apply Frame.foldlFst
      | apply frame_paceWindowEnd | apply frame_sendState | apply frame_sendThin | exact hc.trans (by decide) | split

theorem frame_ikCommit {M : Nat} {base : State} (port : Nat) (pos : Nat) (digest : List Nat) (result : Option
    (Option Nat)) {s : State} (hc : Within 0x180201000013 M) (hk : Frame M base s) :
    Frame M base (ikCommit port pos digest result s) := by
  unfold ikCommit
  with_reducible repeat' first
      | assumption | apply Frame.refl | intro _
      | (extract_lets +onlyGivenNames x; first
        | (apply Frame.have x; unfold x; clear x; rotate_left; intro hx; clear_value x; rotate_right)
        | clear_value x)
      | apply Frame.ite | apply frame_cascadeLine | apply frame_cascadeRefused | apply frame_frame
      | apply frame_judgeReports | apply frame_relay | exact hc.trans (by decide) | exact hc.bit (by decide) | split
      | apply Frame.set_ik

theorem frame_ikCommitTimeout {M : Nat} {base : State} {s : State} (hc : Within 0x180201000013 M)
    (hk : Frame M base s) : Frame M base (ikCommitTimeout s) := by
  unfold ikCommitTimeout
  with_reducible repeat' first
      | assumption | apply Frame.refl
      | apply Frame.ite | apply frame_cascadeRefused | apply frame_tellAll | exact hc.trans (by decide) | split

theorem frame_ikCommitLineLoRead {M : Nat} {base : State} (agent : Nat) (sub : Nat) (width : Nat) {s : State}
    (hc : Within 0x100000000018 M) (hk : Frame M base s) : Frame M base (ikCommitLineLoRead agent sub width s) := by
  unfold ikCommitLineLoRead
  with_reducible repeat' first
      | assumption
      | apply frame_readPair | exact hc.trans (by decide)

theorem frame_ikJoint {M : Nat} {base : State} (y : Nat) (o : Nat) (pixels : List (List Nat × Nat)) {s : State}
    (hc : Within 0x200800000 M) (hk : Frame M base s) : Frame M base (ikJoint y o pixels s) := by
  unfold ikJoint
  with_reducible repeat' first
      | assumption | apply Frame.refl | intro _
      | apply Frame.ite | apply frame_frame | exact hc.trans (by decide) | exact hc.bit (by decide) | split
      | apply Frame.set_joints

theorem frame_ikItemPartFrame {M : Nat} {base : State} (p : List Nat) {s : State} (hc : Within 0x100204000002 M)
    (hk : Frame M base s) : Frame M base (ikItemPartFrame p s) := by
  unfold ikItemPartFrame
  with_reducible repeat' first
      | assumption | apply Frame.refl | intro _
      | (extract_lets +onlyGivenNames x; first
        | (apply Frame.have x; unfold x; clear x; rotate_left; intro hx; clear_value x; rotate_right)
        | clear_value x)
      | apply Frame.ite | apply frame_atLine | apply frame_frame | apply frame_ikItemPart | apply frame_relay
      | exact hc.trans (by decide) | split

/-! ## Domains -/

theorem frame_contextError {M : Nat} {base : State} {s : State} (q : Nat) (hc : Within 0x10003c000013 M)
    (hk : Frame M base s) : Frame M base (State.contextError s q) := by
  unfold State.contextError
  with_reducible repeat' first
      | assumption | apply Frame.refl | intro _
      | apply Frame.ite | apply frame_drainAllDue | apply frame_dropContext | apply frame_onQueue
      | apply frame_queueFault | apply frame_settle | exact hc.trans (by decide) | split

theorem frame_stagingError {M : Nat} {base : State} {s : State} (n : Nat) (hc : Within 0x10001c000013 M)
    (hk : Frame M base s) : Frame M base (State.stagingError s n) := by
  unfold State.stagingError
  with_reducible repeat' first
      | assumption | apply Frame.refl
      | apply frame_recordLost | exact hc.trans (by decide) | exact hc.bit (by decide) | split | apply Frame.set_fr

theorem frame_eccUncorrectable {M : Nat} {base : State} (kind : Nat) (n : Nat) {s : State}
    (hc : Within 0x18003d081013 M) (hk : Frame M base s) : Frame M base (eccUncorrectable kind n s) := by
  unfold eccUncorrectable
  with_reducible repeat' first
      | assumption | apply Frame.refl
      | (extract_lets +onlyGivenNames x; first
        | (apply Frame.have x; unfold x; clear x; rotate_left; intro hx; clear_value x; rotate_right)
        | clear_value x)
      | apply frame_contextError | apply frame_inc | apply frame_laneFault | apply frame_raise
      | apply frame_refLineLost | apply frame_stagingError | exact hc.trans (by decide) | split

theorem frame_eccCorr {M : Nat} {base : State} {s : State} (hc : Within 0x100000000013 M) (hk : Frame M base s) :
    Frame M base (eccCorr s) := by
  unfold eccCorr
  with_reducible repeat' first
      | assumption
      | apply frame_inc | apply frame_raise | exact hc.trans (by decide)

theorem frame_laneResetCmd {M : Nat} {base : State} (v : Nat) {s : State} (hc : Within 0x80000 M)
    (hk : Frame M base s) : Frame M base (laneResetCmd v s) := by
  unfold laneResetCmd
  with_reducible repeat' first
      | assumption | apply Frame.refl
      | (extract_lets +onlyGivenNames x; first
        | (apply Frame.have x; unfold x; clear x; rotate_left; intro hx; clear_value x; rotate_right)
        | clear_value x)
      | apply Frame.ite | apply frame_putLane | exact hc.trans (by decide) | split

theorem frame_putDomain {M : Nat} {base : State} {s : State} (d : Nat) (st : Nat) (hc : Within 0x3 M)
    (hk : Frame M base s) : Frame M base (State.putDomain s d st) := by
  unfold State.putDomain
  with_reducible repeat' first
      | assumption
      | (extract_lets +onlyGivenNames x; first
        | (apply Frame.have x; unfold x; clear x; rotate_left; intro hx; clear_value x; rotate_right)
        | clear_value x)
      | apply frame_wr | exact hc.trans (by decide)

theorem frame_groupOff {M : Nat} {base : State} {s : State} (g : Nat) (hc : Within 0x18000c011113 M)
    (hk : Frame M base s) : Frame M base (State.groupOff s g) := by
  unfold State.groupOff
  with_reducible repeat' first
      | assumption
      | (extract_lets +onlyGivenNames x; first
        | (apply Frame.have x; unfold x; clear x; rotate_left; intro hx; clear_value x; rotate_right)
        | clear_value x)
      | apply frame_cutGroup | apply frame_putGroup | exact hc.trans (by decide)

theorem frame_domainLeaves {M : Nat} {base : State} {s : State} (d : Nat) (hc : Within 0x1823df357917 M)
    (hk : Frame M base s) : Frame M base (State.domainLeaves s d) := by
  unfold State.domainLeaves
  with_reducible repeat' first
      | assumption | apply Frame.refl | intro _
      | (extract_lets +onlyGivenNames x; first
        | (apply Frame.have x; unfold x; clear x; rotate_left; intro hx; clear_value x; rotate_right)
        | clear_value x)
      | apply Frame.ite | apply Frame.each | apply frame_brDrain | apply frame_calAbort | apply frame_dropCaptured
      | apply frame_ikEvaluate | apply frame_motDomainOff | apply frame_pfeAbandon | apply frame_putConv
      | exact hc.trans (by decide) | split

theorem frame_domainDark {M : Nat} {base : State} {s : State} (d : Nat) (hc : Within 0x18017fc19113 M)
    (hk : Frame M base s) : Frame M base (State.domainDark s d) := by
  unfold State.domainDark
  with_reducible repeat' first
      | assumption | apply Frame.refl | intro _
      | (extract_lets +onlyGivenNames x; first
        | (apply Frame.have x; unfold x; clear x; rotate_left; intro hx; clear_value x; rotate_right)
        | clear_value x)
      | apply Frame.ite | apply Frame.each | apply frame_brOff | apply frame_emit | apply frame_finishHead
      | apply frame_groupOff | apply frame_linesLost | apply frame_loseStaged | apply frame_refEmpty
      | apply frame_refWaiting | exact hc.trans (by decide) | exact hc.bit (by decide) | split
      | apply Frame.set_outLines | apply Frame.set_buffers_readouts_joints_reg | apply Frame.set_beryl

theorem frame_domainLit {M : Nat} {base : State} {s : State} (d : Nat) (hc : Within 0x1822df357917 M)
    (hk : Frame M base s) : Frame M base (State.domainLit s d) := by
  unfold State.domainLit
  with_reducible repeat' first
      | assumption | apply Frame.refl | intro _
      | apply Frame.each | apply frame_brLit | apply frame_ikEvaluate | apply frame_setFallback | apply frame_wr
      | exact hc.trans (by decide) | split

theorem frame_domainStart {M : Nat} {base : State} {s : State} (d : Nat) (hc : Within 0x3 M) (hk : Frame M base s) :
    Frame M base (State.domainStart s d) := by
  unfold State.domainStart
  with_reducible repeat' first
      | assumption | apply Frame.refl
      | apply Frame.ite | apply frame_putDomain | exact hc.trans (by decide) | split

theorem frame_domainOff {M : Nat} {base : State} {s : State} (d : Nat) (late : Bool)
    (hc : Within 0x18057fc19113 M) (hk : Frame M base s) : Frame M base (State.domainOff s d late) := by
  unfold State.domainOff
  with_reducible repeat' first
      | assumption | apply Frame.refl | intro _
      | (extract_lets +onlyGivenNames x; first
        | (apply Frame.have x; unfold x; clear x; rotate_left; intro hx; clear_value x; rotate_right)
        | clear_value x)
      | apply Frame.ite | apply Frame.when | apply frame_domainDark | apply frame_domainStart
      | apply frame_drainAllDue | apply frame_putDomain | apply frame_raise | apply frame_stopXfers | apply frame_wr
      | apply frame_wrB | exact hc.trans (by decide) | exact hc.bit (by decide) | split | apply Frame.set_flt

theorem frame_domainDrain {M : Nat} {base : State} {s : State} (d : Nat) (hc : Within 0x1827df357917 M)
    (hk : Frame M base s) : Frame M base (State.domainDrain s d) := by
  unfold State.domainDrain
  with_reducible repeat' first
      | assumption | apply Frame.refl
      | (extract_lets +onlyGivenNames x; first
        | (apply Frame.have x; unfold x; clear x; rotate_left; intro hx; clear_value x; rotate_right)
        | clear_value x)
      | apply Frame.ite | apply frame_domainLeaves | apply frame_putDomain | apply frame_raise | apply frame_wr
      | exact hc.trans (by decide) | exact hc.bit (by decide) | split | apply Frame.set_flt

theorem frame_domainClear {M : Nat} {base : State} {s : State} (d : Nat) (hc : Within 0x3 M) (hk : Frame M base s) :
    Frame M base (State.domainClear s d) := by
  unfold State.domainClear
  with_reducible repeat' first
      | assumption | apply Frame.refl
      | apply Frame.ite | apply frame_putDomain | apply frame_wr | exact hc.trans (by decide) | split

theorem frame_domCtlWrite {M : Nat} {base : State} (v : Nat) {s : State} (hc : Within 0x1827df357917 M)
    (hk : Frame M base s) : Frame M base (domCtlWrite v s) := by
  unfold domCtlWrite
  with_reducible repeat' first
      | assumption | apply Frame.refl | intro _
      | apply Frame.each | apply frame_domainClear | apply frame_domainDrain | apply frame_domainStart
      | apply frame_wr | exact hc.trans (by decide)

theorem frame_domOff {M : Nat} {base : State} (d : Nat) {s : State} (hc : Within 0x18057fc19113 M)
    (hk : Frame M base s) : Frame M base (domOff d s) := by
  unfold domOff
  with_reducible repeat' first
      | assumption | apply Frame.refl
      | apply Frame.ite | apply frame_domainOff | exact hc.trans (by decide) | split

theorem frame_drainTimeout {M : Nat} {base : State} (d : Nat) {s : State} (hc : Within 0x18057fc19113 M)
    (hk : Frame M base s) : Frame M base (drainTimeout d s) := by
  unfold drainTimeout
  with_reducible repeat' first
      | assumption | apply Frame.refl
      | apply Frame.ite | apply frame_domainOff | exact hc.trans (by decide) | split

theorem frame_domOn {M : Nat} {base : State} (d : Nat) {s : State} (hc : Within 0x1827df357917 M)
    (hk : Frame M base s) : Frame M base (domOn d s) := by
  unfold domOn
  with_reducible repeat' first
      | assumption | apply Frame.refl
      | apply Frame.ite | apply frame_domainDrain | apply frame_domainLit | apply frame_putDomain | apply frame_raise
      | exact hc.trans (by decide) | split

theorem frame_domainFault {M : Nat} {base : State} {s : State} (d : Nat) (hc : Within 0x1827fff5f917 M)
    (hk : Frame M base s) : Frame M base (State.domainFault s d) := by
  unfold State.domainFault
  with_reducible repeat' first
      | assumption | apply Frame.refl | intro _
      | (extract_lets +onlyGivenNames x; first
        | (apply Frame.have x; unfold x; clear x; rotate_left; intro hx; clear_value x; rotate_right)
        | clear_value x)
      | apply Frame.ite | apply Frame.when | apply frame_alert | apply frame_domainDark | apply frame_domainLeaves
      | apply frame_drainAllDue | apply frame_putDomain | apply frame_raise | apply frame_stopXfers
      | apply frame_usbMessage | apply frame_wr | exact hc.trans (by decide) | exact hc.bit (by decide) | split
      | apply Frame.set_flt

theorem frame_domFault {M : Nat} {base : State} (d : Nat) {s : State} (hc : Within 0x1827fff5f917 M)
    (hk : Frame M base s) : Frame M base (domFault d s) := by
  unfold domFault
  with_reducible repeat' first
      | assumption
      | apply frame_domainFault | exact hc.trans (by decide)

/-! ## Log -/

theorem frame_putLog {M : Nat} {base : State} {s : State} (l : LogState) (hc : Within 0x10 M) (hk : Frame M base s) :
    Frame M base (State.putLog s l) := by
  unfold State.putLog
  with_reducible repeat' first
      | assumption
      | apply frame_log | exact hc.trans (by decide) | exact hc.bit (by decide) | apply Frame.set_nt

theorem frame_logEntry {M : Nat} {base : State} (kind : Nat) (tenant : Nat) (page : Nat) (offset : Nat) (be : Nat)
    (value : Nat) (arg1 : Nat) (arg2 : Nat) {s : State} (hc : Within 0x100000000010 M) (hk : Frame M base s) :
    Frame M base (logEntry kind tenant page offset be value arg1 arg2 s) := by
  unfold logEntry
  with_reducible repeat' first
      | assumption
      | apply frame_log | exact hc.trans (by decide)

theorem frame_logIntakeDrain {M : Nat} {base : State} {s : State} (hc : Within 0x10 M) (hk : Frame M base s) :
    Frame M base (logIntakeDrain s) := by
  unfold logIntakeDrain
  with_reducible repeat' first
      | assumption | apply Frame.refl
      | (extract_lets +onlyGivenNames x; first
        | (apply Frame.have x; unfold x; clear x; rotate_left; intro hx; clear_value x; rotate_right)
        | clear_value x)
      | apply Frame.ite | apply frame_log | apply frame_putLog | apply frame_take | exact hc.trans (by decide) | split

theorem frame_mirrorFault {M : Nat} {base : State} {s : State} (hc : Within 0x100000000010 M) (hk : Frame M base s) :
    Frame M base (State.mirrorFault s) := by
  unfold State.mirrorFault
  with_reducible repeat' first
      | assumption
      | (extract_lets +onlyGivenNames x; first
        | (apply Frame.have x; unfold x; clear x; rotate_left; intro hx; clear_value x; rotate_right)
        | clear_value x)
      | apply frame_log | apply frame_putLog | apply frame_raise | exact hc.trans (by decide)

theorem frame_program {M : Nat} {base : State} {s : State} (es : List LogEntry) (hc : Within 0x100000000010 M)
    (hk : Frame M base s) : Frame M base (State.program s es) := by
  unfold State.program
  with_reducible repeat' first
      | assumption | intro _
      | (extract_lets +onlyGivenNames x; first
        | (apply Frame.have x; unfold x; clear x; rotate_left; intro hx; clear_value x; rotate_right)
        | clear_value x)
      | apply frame_emit | apply frame_log | apply frame_mgmtRaise | apply frame_putLog | apply frame_take
      | exact hc.trans (by decide)

theorem frame_logMirrorProgram {M : Nat} {base : State} (fail : Bool) {s : State} (hc : Within 0x100000000010 M)
    (hk : Frame M base s) : Frame M base (logMirrorProgram fail s) := by
  unfold logMirrorProgram
  with_reducible repeat' first
      | assumption | apply Frame.refl
      | (extract_lets +onlyGivenNames x; first
        | (apply Frame.have x; unfold x; clear x; rotate_left; intro hx; clear_value x; rotate_right)
        | clear_value x)
      | apply Frame.ite | apply frame_log | apply frame_mirrorFault | apply frame_program | apply frame_putLog
      | apply frame_take | exact hc.trans (by decide) | split

theorem frame_logSettle {M : Nat} {base : State} {s : State} (hc : Within 0x10 M) (hk : Frame M base s) :
    Frame M base (State.logSettle s) := by
  unfold State.logSettle
  with_reducible repeat' first
      | assumption | apply Frame.refl | intro _
      | apply Frame.each | apply frame_log | apply frame_logIntakeDrain | exact hc.trans (by decide)

theorem frame_logFlush {M : Nat} {base : State} {s : State} (hc : Within 0x100000000010 M) (hk : Frame M base s) :
    Frame M base (State.logFlush s) := by
  unfold State.logFlush
  with_reducible repeat' first
      | assumption | apply Frame.refl
      | (extract_lets +onlyGivenNames x; first
        | (apply Frame.have x; unfold x; clear x; rotate_left; intro hx; clear_value x; rotate_right)
        | clear_value x)
      | apply Frame.ite | apply frame_log | apply frame_logSettle | apply frame_program | exact hc.trans (by decide)
      | split

theorem frame_selectLog {M : Nat} {base : State} {s : State} (seq : Nat) (hc : Within 0x4000000003 M)
    (hk : Frame M base s) : Frame M base (State.selectLog s seq) := by
  unfold State.selectLog
  with_reducible repeat' first
      | assumption
      | (extract_lets +onlyGivenNames x; first
        | (apply Frame.have x; unfold x; clear x; rotate_left; intro hx; clear_value x; rotate_right)
        | clear_value x)
      | apply frame_wr | exact hc.trans (by decide) | exact hc.bit (by decide) | apply Frame.set_mgmt

theorem frame_logSelWrite {M : Nat} {base : State} (v : Nat) {s : State} (hc : Within 0x4000000003 M)
    (hk : Frame M base s) : Frame M base (logSelWrite v s) := by
  unfold logSelWrite
  with_reducible repeat' first
      | assumption
      | apply frame_selectLog | exact hc.trans (by decide)

theorem frame_logDataReady {M : Nat} {base : State} {s : State} (hc : Within 0x4000000003 M) (hk : Frame M base s) :
    Frame M base (logDataReady s) := by
  unfold logDataReady
  with_reducible repeat' first
      | assumption | apply Frame.refl | intro _
      | (extract_lets +onlyGivenNames x; first
        | (apply Frame.have x; unfold x; clear x; rotate_left; intro hx; clear_value x; rotate_right)
        | clear_value x)
      | apply Frame.ite | apply Frame.each | apply frame_wr | apply frame_wrB | exact hc.trans (by decide)
      | exact hc.bit (by decide) | split | apply Frame.set_mgmt

theorem frame_logWord {M : Nat} {base : State} (w : Nat) {s : State} (hc : Within 0x4000000003 M)
    (hk : Frame M base s) : Frame M base ((State.logWord w s).1) := by
  unfold State.logWord
  with_reducible repeat' first
      | assumption | apply Frame.refl | intro _
      | (extract_lets +onlyGivenNames x; first
        | (apply Frame.have x; unfold x; clear x; rotate_left; intro hx; clear_value x; rotate_right)
        | (apply Frame.have1 x; unfold x; clear x; rotate_left; intro hx; clear_value x; rotate_right)
        | (apply Frame.have2 x; unfold x; clear x; rotate_left; intro hq; clear_value x; rotate_right)
        | (apply Frame.have3 x; unfold x; clear x; rotate_left; intro hq; clear_value x; rotate_right)
        | (apply Frame.have4 x; unfold x; clear x; rotate_left; intro hq; clear_value x; rotate_right)
        | clear_value x)
      | apply hq | apply Frame.ite | apply Frame.when | apply Frame.each | apply Frame.foldl | apply Frame.foldlFst
      | apply frame_selectLog | exact hc.trans (by decide) | split

theorem frame_logDataRead {M : Nat} {base : State} (agent : Nat) (w : Nat) (sub : Nat) (width : Nat) {s : State}
    (hc : Within 0x104000000013 M) (hk : Frame M base s) : Frame M base (logDataRead agent w sub width s) := by
  unfold logDataRead
  with_reducible repeat' first
      | assumption | apply Frame.refl | intro _
      | (extract_lets +onlyGivenNames x; first
        | (apply Frame.have x; unfold x; clear x; rotate_left; intro hx; clear_value x; rotate_right)
        | (apply Frame.have1 x; unfold x; clear x; rotate_left; intro hx; clear_value x; rotate_right)
        | (apply Frame.have2 x; unfold x; clear x; rotate_left; intro hq; clear_value x; rotate_right)
        | (apply Frame.have3 x; unfold x; clear x; rotate_left; intro hq; clear_value x; rotate_right)
        | (apply Frame.have4 x; unfold x; clear x; rotate_left; intro hq; clear_value x; rotate_right)
        | clear_value x)
      | apply hq | apply Frame.ite | apply Frame.when | apply Frame.each | apply Frame.foldl | apply Frame.foldlFst
      | apply frame_logWord | apply frame_readAccess | exact hc.trans (by decide) | split

/-! ## Thermal -/

theorem frame_monAlarm {M : Nat} {base : State} {s : State} (m : Nat) (mv : Nat) (hc : Within 0x1827fff5f917 M)
    (hk : Frame M base s) : Frame M base (State.monAlarm s m mv) := by
  unfold State.monAlarm
  with_reducible repeat' first
      | assumption | apply Frame.refl
      | (extract_lets +onlyGivenNames x; first
        | (apply Frame.have x; unfold x; clear x; rotate_left; intro hx; clear_value x; rotate_right)
        | clear_value x)
      | apply Frame.ite | apply frame_alert | apply frame_domainFault | apply frame_log | apply frame_raise
      | apply frame_usbMessage | apply frame_wr | exact hc.trans (by decide) | split

theorem frame_monSample {M : Nat} {base : State} {s : State} (m : Nat) (x : Nat × Nat)
    (hc : Within 0x182ffff5f917 M) (hk : Frame M base s) : Frame M base (State.monSample s m x) := by
  unfold State.monSample
  with_reducible repeat' first
      | assumption | apply Frame.refl | intro _
      | (extract_lets +onlyGivenNames x; first
        | (apply Frame.have x; unfold x; clear x; rotate_left; intro hx; clear_value x; rotate_right)
        | clear_value x)
      | apply Frame.ite | apply frame_monAlarm | apply frame_wr | exact hc.trans (by decide)
      | exact hc.bit (by decide) | split | apply Frame.set_therm

theorem frame_monitorSample {M : Nat} {base : State} (xs : List (Option (Nat × Nat))) {s : State}
    (hc : Within 0x182ffff5f917 M) (hk : Frame M base s) : Frame M base (monitorSample xs s) := by
  unfold monitorSample
  with_reducible repeat' first
      | assumption | apply Frame.refl | intro _
      | apply Frame.each | apply frame_mgmtRaise | apply frame_monSample | exact hc.trans (by decide) | split

theorem frame_monStep {M : Nat} {base : State} {s : State} (hc : Within 0x800000003 M) (hk : Frame M base s) :
    Frame M base (State.monStep s) := by
  unfold State.monStep
  with_reducible repeat' first
      | assumption | apply Frame.refl | intro _
      | (extract_lets +onlyGivenNames x; first
        | (apply Frame.have x; unfold x; clear x; rotate_left; intro hx; clear_value x; rotate_right)
        | clear_value x)
      | apply Frame.ite | apply Frame.each | apply Frame.foldl | apply frame_wr | exact hc.trans (by decide)
      | exact hc.bit (by decide) | split | apply Frame.set_therm

theorem frame_tjMax {M : Nat} {base : State} {s : State} (t : List F64) (hc : Within 0x80000000000 M)
    (hk : Frame M base s) : Frame M base ((State.tjMax s t).1) := by
  unfold State.tjMax
  with_reducible repeat' first
      | assumption | apply Frame.refl | intro _
      | (extract_lets +onlyGivenNames x; first
        | (apply Frame.have x; unfold x; clear x; rotate_left; intro hx; clear_value x; rotate_right)
        | (apply Frame.have1 x; unfold x; clear x; rotate_left; intro hx; clear_value x; rotate_right)
        | (apply Frame.have2 x; unfold x; clear x; rotate_left; intro hq; clear_value x; rotate_right)
        | (apply Frame.have3 x; unfold x; clear x; rotate_left; intro hq; clear_value x; rotate_right)
        | (apply Frame.have4 x; unfold x; clear x; rotate_left; intro hq; clear_value x; rotate_right)
        | clear_value x)
      | apply hq | apply Frame.ite | apply Frame.when | apply Frame.each | apply Frame.foldl | apply Frame.foldlFst
      | apply frame_take | exact hc.trans (by decide) | split

theorem frame_throttle {M : Nat} {base : State} {s : State} (tj : Int) (hc : Within 0x100000000013 M)
    (hk : Frame M base s) : Frame M base (State.throttle s tj) := by
  unfold State.throttle
  with_reducible repeat' first
      | assumption | apply Frame.refl
      | (extract_lets +onlyGivenNames x; first
        | (apply Frame.have x; unfold x; clear x; rotate_left; intro hx; clear_value x; rotate_right)
        | clear_value x)
      | apply Frame.ite | apply frame_alert | apply frame_raise | apply frame_usbMessage | apply frame_wr
      | apply frame_wrB | exact hc.trans (by decide) | split

theorem frame_thermalShutdown {M : Nat} {base : State} {s : State} (v : Int) (hc : Within 0x18440c011113 M)
    (hk : Frame M base s) : Frame M base (State.thermalShutdown s v) := by
  unfold State.thermalShutdown
  with_reducible repeat' first
      | assumption | apply Frame.refl | intro _
      | (extract_lets +onlyGivenNames x; first
        | (apply Frame.have x; unfold x; clear x; rotate_left; intro hx; clear_value x; rotate_right)
        | clear_value x)
      | apply Frame.each | apply frame_emit | apply frame_groupOff | apply frame_log | apply frame_logFlush
      | apply frame_logSettle | apply frame_spdAdv | apply frame_wr | exact hc.trans (by decide)
      | exact hc.bit (by decide) | apply Frame.set_flt_mgmt

theorem frame_publishTemps {M : Nat} {base : State} {s : State} (t : List F64) (tb : Int) (tj : Int)
    (bound : Bool) (hc : Within 0x100000000013 M) (hk : Frame M base s) :
    Frame M base (State.publishTemps s t tb tj bound) := by
  unfold State.publishTemps
  with_reducible repeat' first
      | assumption | apply Frame.refl | intro _
      | (extract_lets +onlyGivenNames x; first
        | (apply Frame.have x; unfold x; clear x; rotate_left; intro hx; clear_value x; rotate_right)
        | clear_value x)
      | apply Frame.when | apply Frame.each | apply frame_raise | apply frame_wr | apply frame_wrB | apply frame_wrS
      | exact hc.trans (by decide)

theorem frame_modelTemps {M : Nat} {base : State} {s : State} (tb : Nat) (hc : Within 0x100800000013 M)
    (hk : Frame M base s) : Frame M base (State.modelTemps s tb) := by
  unfold State.modelTemps
  with_reducible repeat' first
      | assumption | apply Frame.refl | intro _
      | (extract_lets +onlyGivenNames x; first
        | (apply Frame.have x; unfold x; clear x; rotate_left; intro hx; clear_value x; rotate_right)
        | (apply Frame.have1 x; unfold x; clear x; rotate_left; intro hx; clear_value x; rotate_right)
        | (apply Frame.have2 x; unfold x; clear x; rotate_left; intro hq; clear_value x; rotate_right)
        | (apply Frame.have3 x; unfold x; clear x; rotate_left; intro hq; clear_value x; rotate_right)
        | (apply Frame.have4 x; unfold x; clear x; rotate_left; intro hq; clear_value x; rotate_right)
        | clear_value x)
      | apply hq | apply Frame.ite | apply Frame.when | apply Frame.each | apply Frame.foldl | apply Frame.foldlFst
      | apply frame_raise | apply frame_wr | exact hc.trans (by decide) | exact hc.bit (by decide) | split
      | apply Frame.set_therm

theorem frame_judgeTemp {M : Nat} {base : State} {s : State} (tj : Int) (v : Int) (hc : Within 0x18440c011113 M)
    (hk : Frame M base s) : Frame M base (State.judgeTemp s tj v) := by
  unfold State.judgeTemp
  with_reducible repeat' first
      | assumption | apply Frame.refl | intro _
      | (extract_lets +onlyGivenNames x; first
        | (apply Frame.have x; unfold x; clear x; rotate_left; intro hx; clear_value x; rotate_right)
        | clear_value x)
      | apply Frame.ite | apply Frame.when | apply frame_alert | apply frame_raise | apply frame_thermalShutdown
      | apply frame_usbMessage | exact hc.trans (by decide) | split

theorem frame_thermalModelStep {M : Nat} {base : State} {s : State} (hc : Within 0x184c0c015113 M)
    (hk : Frame M base s) : Frame M base (thermalModelStep s) := by
  unfold thermalModelStep
  with_reducible repeat' first
      | assumption | apply Frame.refl | intro _
      | (extract_lets +onlyGivenNames x; first
        | (apply Frame.have x; unfold x; clear x; rotate_left; intro hx; clear_value x; rotate_right)
        | (apply Frame.have1 x; unfold x; clear x; rotate_left; intro hx; clear_value x; rotate_right)
        | (apply Frame.have2 x; unfold x; clear x; rotate_left; intro hq; clear_value x; rotate_right)
        | (apply Frame.have3 x; unfold x; clear x; rotate_left; intro hq; clear_value x; rotate_right)
        | (apply Frame.have4 x; unfold x; clear x; rotate_left; intro hq; clear_value x; rotate_right)
        | clear_value x)
      | apply hq | apply Frame.ite | apply Frame.when | apply Frame.each | apply Frame.foldl | apply Frame.foldlFst
      | apply frame_judgeTemp | apply frame_modelTemps | apply frame_monStep | apply frame_publishTemps
      | apply frame_putConv | apply frame_throttle | apply frame_tjMax | exact hc.trans (by decide) | split

/-! ## Firmware -/

theorem frame_settleStores {M : Nat} {base : State} {s : State} (p : MailboxStore → Bool)
    (hc : Within 0x4000000007 M) (hk : Frame M base s) : Frame M base (State.settleStores s p) := by
  unfold State.settleStores
  with_reducible repeat' first
      | assumption | apply Frame.refl | intro _
      | (extract_lets +onlyGivenNames x; first
        | (apply Frame.have x; unfold x; clear x; rotate_left; intro hx; clear_value x; rotate_right)
        | clear_value x)
      | apply Frame.each | apply frame_hostWord | exact hc.trans (by decide) | exact hc.bit (by decide)
      | apply Frame.set_mgmt

theorem frame_usbClear {M : Nat} {base : State} {s : State} (hc : Within 0x8000000013 M) (hk : Frame M base s) :
    Frame M base (State.usbClear s) := by
  unfold State.usbClear
  with_reducible repeat' first
      | assumption
      | (extract_lets +onlyGivenNames x; first
        | (apply Frame.have x; unfold x; clear x; rotate_left; intro hx; clear_value x; rotate_right)
        | clear_value x)
      | apply frame_wakeSent | apply frame_wr | exact hc.trans (by decide) | exact hc.bit (by decide)
      | apply Frame.set_nt | apply Frame.set_usb

theorem frame_usbFollow {M : Nat} {base : State} {s : State} (hc : Within 0x108000000013 M) (hk : Frame M base s) :
    Frame M base (State.usbFollow s) := by
  unfold State.usbFollow
  with_reducible repeat' first
      | assumption | apply Frame.refl
      | (extract_lets +onlyGivenNames x; first
        | (apply Frame.have x; unfold x; clear x; rotate_left; intro hx; clear_value x; rotate_right)
        | clear_value x)
      | apply Frame.ite | apply frame_emit | apply frame_raise | apply frame_usbClear | apply frame_wr
      | exact hc.trans (by decide) | exact hc.bit (by decide) | split | apply Frame.set_usb

theorem frame_mailboxGo {M : Nat} {base : State} (agent : Nat) (t : Nat) (v : Nat) {s : State}
    (hc : Within 0x104000000017 M) (hk : Frame M base s) : Frame M base (mailboxGo agent t v s) := by
  unfold mailboxGo
  with_reducible repeat' first
      | assumption | apply Frame.refl | intro _
      | (extract_lets +onlyGivenNames x; first
        | (apply Frame.have x; unfold x; clear x; rotate_left; intro hx; clear_value x; rotate_right)
        | clear_value x)
      | apply Frame.ite | apply frame_mgmtRaise | apply frame_raise | apply frame_settleStores | apply frame_wr
      | exact hc.trans (by decide) | split

theorem frame_h2mTaken {M : Nat} {base : State} (t : Nat) {s : State} (hc : Within 0x104000000013 M)
    (hk : Frame M base s) : Frame M base (h2mTaken t s) := by
  unfold h2mTaken
  with_reducible repeat' first
      | assumption | apply Frame.refl | intro _
      | (extract_lets +onlyGivenNames x; first
        | (apply Frame.have x; unfold x; clear x; rotate_left; intro hx; clear_value x; rotate_right)
        | clear_value x)
      | apply Frame.ite | apply frame_raise | apply frame_wr | exact hc.trans (by decide) | exact hc.bit (by decide)
      | split | apply Frame.set_mgmt

theorem frame_fwInfoRequest {M : Nat} {base : State} (t : Nat) {s : State} (hc : Within 0x4000000000 M)
    (hk : Frame M base s) : Frame M base (fwInfoRequest t s) := by
  unfold fwInfoRequest
  with_reducible repeat' first
      | assumption | apply Frame.refl
      | apply Frame.ite | apply frame_reject | apply frame_reply | exact hc.trans (by decide) | split

theorem frame_logMark {M : Nat} {base : State} (t : Nat) {s : State} (hc : Within 0x184000000010 M)
    (hk : Frame M base s) : Frame M base (logMark t s) := by
  unfold logMark
  with_reducible repeat' first
      | assumption | apply Frame.refl | intro _
      | (extract_lets +onlyGivenNames x; first
        | (apply Frame.have x; unfold x; clear x; rotate_left; intro hx; clear_value x; rotate_right)
        | (apply Frame.have1 x; unfold x; clear x; rotate_left; intro hx; clear_value x; rotate_right)
        | (apply Frame.have2 x; unfold x; clear x; rotate_left; intro hq; clear_value x; rotate_right)
        | (apply Frame.have3 x; unfold x; clear x; rotate_left; intro hq; clear_value x; rotate_right)
        | (apply Frame.have4 x; unfold x; clear x; rotate_left; intro hq; clear_value x; rotate_right)
        | clear_value x)
      | apply hq | apply Frame.ite | apply Frame.when | apply Frame.each | apply Frame.foldl | apply Frame.foldlFst
      | apply frame_log | apply frame_reject | apply frame_reply | apply frame_take | exact hc.trans (by decide)
      | split

theorem frame_answer {M : Nat} {base : State} {s : State} (t : Nat) (hc : Within 0x18403c000013 M)
    (hk : Frame M base s) : Frame M base (State.answer s t) := by
  unfold State.answer
  with_reducible repeat' first
      | assumption | apply Frame.refl
      | apply Frame.ite | apply frame_fwInfoRequest | apply frame_hello | apply frame_logMark | apply frame_reject
      | exact hc.trans (by decide) | split

theorem frame_m2hReady {M : Nat} {base : State} (t : Nat) {s : State} (hc : Within 0x18403c000013 M)
    (hk : Frame M base s) : Frame M base (m2hReady t s) := by
  unfold m2hReady
  with_reducible repeat' first
      | assumption | apply Frame.refl | intro _
      | (extract_lets +onlyGivenNames x; first
        | (apply Frame.have x; unfold x; clear x; rotate_left; intro hx; clear_value x; rotate_right)
        | clear_value x)
      | apply Frame.ite | apply Frame.each | apply Frame.foldl | apply frame_answer | apply frame_moveTenant
      | apply frame_putVersion | apply frame_raise | apply frame_wr | exact hc.trans (by decide)
      | exact hc.bit (by decide) | split | apply Frame.set_mgmt

theorem frame_mbxM2hAck {M : Nat} {base : State} (t : Nat) (v : Nat) {s : State} (hc : Within 0x3 M)
    (hk : Frame M base s) : Frame M base (mbxM2hAck t v s) := by
  unfold mbxM2hAck
  with_reducible repeat' first
      | assumption | apply Frame.refl
      | apply Frame.ite | apply frame_wr | exact hc.trans (by decide) | split

theorem frame_mbxFenceRead {M : Nat} {base : State} (agent : Nat) (t : Nat) (sub : Nat) (width : Nat) {s : State}
    (hc : Within 0x104000000017 M) (hk : Frame M base s) : Frame M base (mbxFenceRead agent t sub width s) := by
  unfold mbxFenceRead
  with_reducible repeat' first
      | assumption | apply Frame.refl | intro _
      | (extract_lets +onlyGivenNames x; first
        | (apply Frame.have x; unfold x; clear x; rotate_left; intro hx; clear_value x; rotate_right)
        | (apply Frame.have1 x; unfold x; clear x; rotate_left; intro hx; clear_value x; rotate_right)
        | (apply Frame.have2 x; unfold x; clear x; rotate_left; intro hq; clear_value x; rotate_right)
        | (apply Frame.have3 x; unfold x; clear x; rotate_left; intro hq; clear_value x; rotate_right)
        | (apply Frame.have4 x; unfold x; clear x; rotate_left; intro hq; clear_value x; rotate_right)
        | clear_value x)
      | apply hq | apply Frame.ite | apply Frame.when | apply Frame.each | apply Frame.foldl | apply Frame.foldlFst
      | apply frame_readAccess | apply frame_settleStores | exact hc.trans (by decide) | split

theorem frame_putFlash {M : Nat} {base : State} {s : State} (f : Flash) (hc : Within 0x4000000000 M)
    (hk : Frame M base s) : Frame M base (State.putFlash s f) := by
  unfold State.putFlash
  with_reducible repeat' first
      | assumption
      | exact hc.trans (by decide) | exact hc.bit (by decide) | apply Frame.set_mgmt

theorem frame_onRecord {M : Nat} {base : State} {s : State} (f : BootCopy → BootCopy) (hc : Within 0x4000000000 M)
    (hk : Frame M base s) : Frame M base (State.onRecord s f) := by
  unfold State.onRecord
  with_reducible repeat' first
      | assumption
      | apply frame_putFlash | exact hc.trans (by decide)

theorem frame_putUpdate {M : Nat} {base : State} {s : State} (st : Nat) (reason : Nat)
    (hc : Within 0x100000000013 M) (hk : Frame M base s) : Frame M base (State.putUpdate s st reason) := by
  unfold State.putUpdate
  with_reducible repeat' first
      | assumption | apply Frame.refl
      | (extract_lets +onlyGivenNames x; first
        | (apply Frame.have x; unfold x; clear x; rotate_left; intro hx; clear_value x; rotate_right)
        | clear_value x)
      | apply Frame.ite | apply frame_alert | apply frame_log | apply frame_raise | apply frame_usbMessage
      | apply frame_wr | exact hc.trans (by decide) | split

theorem frame_startFirmware {M : Nat} {base : State} {s : State} (b : Nat) (trial : Bool) (fallback : Bool)
    (hc : Within 0x104800000013 M) (hk : Frame M base s) : Frame M base (State.startFirmware s b trial fallback) := by
  unfold State.startFirmware
  with_reducible repeat' first
      | assumption | apply Frame.refl | intro _
      | (extract_lets +onlyGivenNames x; first
        | (apply Frame.have x; unfold x; clear x; rotate_left; intro hx; clear_value x; rotate_right)
        | (apply Frame.have1 x; unfold x; clear x; rotate_left; intro hx; clear_value x; rotate_right)
        | (apply Frame.have2 x; unfold x; clear x; rotate_left; intro hq; clear_value x; rotate_right)
        | (apply Frame.have3 x; unfold x; clear x; rotate_left; intro hq; clear_value x; rotate_right)
        | (apply Frame.have4 x; unfold x; clear x; rotate_left; intro hq; clear_value x; rotate_right)
        | clear_value x)
      | apply hq | apply Frame.ite | apply Frame.when | apply Frame.each | apply Frame.foldl | apply Frame.foldlFst
      | apply frame_alert | apply frame_linkStart | apply frame_log | apply frame_wr | apply frame_wrB
      | exact hc.trans (by decide) | exact hc.bit (by decide) | split | apply Frame.set_therm_mgmt

theorem frame_startRecovery {M : Nat} {base : State} {s : State} (hc : Within 0x4000000003 M) (hk : Frame M base s) :
    Frame M base (State.startRecovery s) := by
  unfold State.startRecovery
  with_reducible repeat' first
      | assumption
      | (extract_lets +onlyGivenNames x; first
        | (apply Frame.have x; unfold x; clear x; rotate_left; intro hx; clear_value x; rotate_right)
        | clear_value x)
      | apply frame_wr | exact hc.trans (by decide) | exact hc.bit (by decide) | apply Frame.set_mgmt

theorem frame_boot {M : Nat} {base : State} {s : State} (hc : Within 0x18c800000013 M) (hk : Frame M base s) :
    Frame M base (boot s) := by
  unfold boot
  with_reducible repeat' first
      | assumption | apply Frame.refl | intro _
      | (extract_lets +onlyGivenNames x; first
        | (apply Frame.have x; unfold x; clear x; rotate_left; intro hx; clear_value x; rotate_right)
        | (apply Frame.have1 x; unfold x; clear x; rotate_left; intro hx; clear_value x; rotate_right)
        | (apply Frame.have2 x; unfold x; clear x; rotate_left; intro hq; clear_value x; rotate_right)
        | (apply Frame.have3 x; unfold x; clear x; rotate_left; intro hq; clear_value x; rotate_right)
        | (apply Frame.have4 x; unfold x; clear x; rotate_left; intro hq; clear_value x; rotate_right)
        | clear_value x)
      | apply hq | apply Frame.ite | apply Frame.when | apply Frame.each | apply Frame.foldl | apply Frame.foldlFst
      | apply frame_onRecord | apply frame_putUpdate | apply frame_startFirmware | apply frame_startRecovery
      | apply frame_take | apply frame_usbFollow | exact hc.trans (by decide) | exact hc.bit (by decide) | split
      | apply Frame.set_mgmt

theorem frame_updRefused {M : Nat} {base : State} {s : State} (hc : Within 0x100000000010 M) (hk : Frame M base s) :
    Frame M base (State.updRefused s) := by
  unfold State.updRefused
  with_reducible repeat' first
      | assumption
      | apply frame_raise | exact hc.trans (by decide)

theorem frame_updOpen {M : Nat} {base : State} (usb : Bool) {s : State} (hc : Within 0x184000000013 M)
    (hk : Frame M base s) : Frame M base (updOpen usb s) := by
  unfold updOpen
  with_reducible repeat' first
      | assumption | apply Frame.refl | intro _
      | (extract_lets +onlyGivenNames x; first
        | (apply Frame.have x; unfold x; clear x; rotate_left; intro hx; clear_value x; rotate_right)
        | (apply Frame.have1 x; unfold x; clear x; rotate_left; intro hx; clear_value x; rotate_right)
        | (apply Frame.have2 x; unfold x; clear x; rotate_left; intro hq; clear_value x; rotate_right)
        | (apply Frame.have3 x; unfold x; clear x; rotate_left; intro hq; clear_value x; rotate_right)
        | (apply Frame.have4 x; unfold x; clear x; rotate_left; intro hq; clear_value x; rotate_right)
        | clear_value x)
      | apply hq | apply Frame.ite | apply Frame.when | apply Frame.each | apply Frame.foldl | apply Frame.foldlFst
      | apply frame_onRecord | apply frame_putFlash | apply frame_putUpdate | apply frame_take
      | apply frame_updRefused | apply frame_wr | exact hc.trans (by decide) | exact hc.bit (by decide) | split
      | apply Frame.set_mgmt

theorem frame_updVerify {M : Nat} {base : State} (usb : Bool) {s : State} (hc : Within 0x100000000013 M)
    (hk : Frame M base s) : Frame M base (updVerify usb s) := by
  unfold updVerify
  with_reducible repeat' first
      | assumption | apply Frame.refl
      | apply Frame.ite | apply frame_putUpdate | apply frame_updRefused | exact hc.trans (by decide) | split

theorem frame_updVerifyDone {M : Nat} {base : State} {s : State} (hc : Within 0x100000000013 M)
    (hk : Frame M base s) : Frame M base (updVerifyDone s) := by
  unfold updVerifyDone
  with_reducible repeat' first
      | assumption | apply Frame.refl
      | (extract_lets +onlyGivenNames x; first
        | (apply Frame.have x; unfold x; clear x; rotate_left; intro hx; clear_value x; rotate_right)
        | clear_value x)
      | apply Frame.ite | apply frame_putUpdate | exact hc.trans (by decide) | split

theorem frame_updActivate {M : Nat} {base : State} (usb : Bool) {s : State} (hc : Within 0x104000000013 M)
    (hk : Frame M base s) : Frame M base (updActivate usb s) := by
  unfold updActivate
  with_reducible repeat' first
      | assumption | apply Frame.refl | intro _
      | apply Frame.ite | apply frame_onRecord | apply frame_putUpdate | apply frame_updRefused
      | exact hc.trans (by decide) | split

theorem frame_updConfirm {M : Nat} {base : State} (usb : Bool) {s : State} (hc : Within 0x104000000013 M)
    (hk : Frame M base s) : Frame M base (updConfirm usb s) := by
  unfold updConfirm
  with_reducible repeat' first
      | assumption | apply Frame.refl | intro _
      | (extract_lets +onlyGivenNames x; first
        | (apply Frame.have x; unfold x; clear x; rotate_left; intro hx; clear_value x; rotate_right)
        | clear_value x)
      | apply Frame.ite | apply frame_onRecord | apply frame_putUpdate | apply frame_updRefused | apply frame_wr
      | exact hc.trans (by decide) | split

theorem frame_updCancel {M : Nat} {base : State} (usb : Bool) {s : State} (hc : Within 0x104000000013 M)
    (hk : Frame M base s) : Frame M base (updCancel usb s) := by
  unfold updCancel
  with_reducible repeat' first
      | assumption | apply Frame.refl | intro _
      | (extract_lets +onlyGivenNames x; first
        | (apply Frame.have x; unfold x; clear x; rotate_left; intro hx; clear_value x; rotate_right)
        | clear_value x)
      | apply Frame.ite | apply frame_onRecord | apply frame_putUpdate | apply frame_updRefused
      | exact hc.trans (by decide) | exact hc.bit (by decide) | split | apply Frame.set_mgmt

theorem frame_updCommand {M : Nat} {base : State} {s : State} (op : Nat) (usb : Bool)
    (hc : Within 0x184000000013 M) (hk : Frame M base s) : Frame M base (State.updCommand s op usb) := by
  unfold State.updCommand
  with_reducible repeat' first
      | assumption | apply Frame.refl | intro _
      | (extract_lets +onlyGivenNames x; first
        | (apply Frame.have x; unfold x; clear x; rotate_left; intro hx; clear_value x; rotate_right)
        | (apply Frame.have1 x; unfold x; clear x; rotate_left; intro hx; clear_value x; rotate_right)
        | (apply Frame.have2 x; unfold x; clear x; rotate_left; intro hq; clear_value x; rotate_right)
        | (apply Frame.have3 x; unfold x; clear x; rotate_left; intro hq; clear_value x; rotate_right)
        | (apply Frame.have4 x; unfold x; clear x; rotate_left; intro hq; clear_value x; rotate_right)
        | clear_value x)
      | apply hq | apply Frame.ite | apply Frame.when | apply Frame.each | apply Frame.foldl | apply Frame.foldlFst
      | apply frame_updActivate | apply frame_updCancel | apply frame_updConfirm | apply frame_updOpen
      | apply frame_updRefused | apply frame_updVerify | exact hc.trans (by decide) | split

theorem frame_updDataWrite {M : Nat} {base : State} (v : Nat) {s : State} (hc : Within 0x104000000013 M)
    (hk : Frame M base s) : Frame M base (updDataWrite v s) := by
  unfold updDataWrite
  with_reducible repeat' first
      | assumption | apply Frame.refl
      | (extract_lets +onlyGivenNames x; first
        | (apply Frame.have x; unfold x; clear x; rotate_left; intro hx; clear_value x; rotate_right)
        | clear_value x)
      | apply Frame.ite | apply frame_putUpdate | apply frame_wr | exact hc.trans (by decide)
      | exact hc.bit (by decide) | split | apply Frame.set_mgmt

theorem frame_updFlashProgram {M : Nat} {base : State} (fail : Bool) {s : State} (hc : Within 0x104000000013 M)
    (hk : Frame M base s) : Frame M base (updFlashProgram fail s) := by
  unfold updFlashProgram
  with_reducible repeat' first
      | assumption | apply Frame.refl
      | (extract_lets +onlyGivenNames x; first
        | (apply Frame.have x; unfold x; clear x; rotate_left; intro hx; clear_value x; rotate_right)
        | clear_value x)
      | apply Frame.ite | apply frame_emit | apply frame_mgmtRaise | apply frame_putUpdate | apply frame_take
      | apply frame_wr | exact hc.trans (by decide) | exact hc.bit (by decide) | split | apply Frame.set_mgmt

end Sys2Proof.Machine
end

