-- ==== Sys2Proof/Laws/FramesPorts.lean ====
section
/-!
SUPPORT. The frame of each function: Onyx, the service ports, reset and the access paths.
-/

namespace Sys2Proof.Machine

/-! ## Onyx -/

theorem frame_onOnyx {M : Nat} {base : State} {s : State} (f : Onyx → Onyx) (hc : Within 0x40000000000 M)
    (hk : Frame M base s) : Frame M base (State.onOnyx s f) := by
  unfold State.onOnyx
  with_reducible repeat' first
      | assumption | apply Frame.refl
      | apply Frame.ite | exact hc.trans (by decide) | exact hc.bit (by decide) | split | apply Frame.set_onyx

theorem frame_onyxWheelCount {M : Nat} {base : State} (w : Nat) (a : Bool) (b : Bool) (stoodA : Nat)
    (stoodB : Nat) {s : State} (hc : Within 0x40000000000 M) (hk : Frame M base s) :
    Frame M base (onyxWheelCount w a b stoodA stoodB s) := by
  unfold onyxWheelCount
  with_reducible repeat' first
      | assumption | apply Frame.refl
      | (extract_lets +onlyGivenNames x; first
        | (apply Frame.have x; unfold x; clear x; rotate_left; intro hx; clear_value x; rotate_right)
        | clear_value x)
      | apply Frame.ite | exact hc.trans (by decide) | exact hc.bit (by decide) | split | apply Frame.set_onyx

theorem frame_sealPress {M : Nat} {base : State} {s : State} (hc : Within 0x40000000000 M) (hk : Frame M base s) :
    Frame M base (sealPress s) := by
  unfold sealPress
  with_reducible repeat' first
      | assumption
      | apply frame_onOnyx | exact hc.trans (by decide)

theorem frame_onyxRetention {M : Nat} {base : State} {s : State} (hc : Within 0x40000000000 M) (hk : Frame M base s) :
    Frame M base (onyxRetention s) := by
  unfold onyxRetention
  with_reducible repeat' first
      | assumption | intro _
      | apply frame_onOnyx | exact hc.trans (by decide)

theorem frame_powerGap {M : Nat} {base : State} {s : State} (hc : Within 0x40000000000 M) (hk : Frame M base s) :
    Frame M base (powerGap s) := by
  unfold powerGap
  with_reducible repeat' first
      | assumption | apply Frame.refl
      | apply Frame.ite | exact hc.trans (by decide) | exact hc.bit (by decide) | split | apply Frame.set_onyx

theorem frame_coldStart {M : Nat} {base : State} (temp : Nat) (vddMv : Nat) {s : State}
    (hc : Within 0x40000000000 M) (hk : Frame M base s) : Frame M base (coldStart temp vddMv s) := by
  unfold coldStart
  with_reducible repeat' first
      | assumption
      | (extract_lets +onlyGivenNames x; first
        | (apply Frame.have x; unfold x; clear x; rotate_left; intro hx; clear_value x; rotate_right)
        | clear_value x)
      | exact hc.trans (by decide) | exact hc.bit (by decide) | apply Frame.set_onyx

theorem frame_tempStart {M : Nat} {base : State} (temp : Nat) {s : State} (hc : Within 0x40000000000 M)
    (hk : Frame M base s) : Frame M base (tempStart temp s) := by
  unfold tempStart
  with_reducible repeat' first
      | assumption | apply Frame.refl | intro _
      | apply Frame.ite | apply frame_onOnyx | exact hc.trans (by decide) | split

theorem frame_tempEnd {M : Nat} {base : State} (temp : Nat) {s : State} (hc : Within 0x40000000000 M)
    (hk : Frame M base s) : Frame M base (tempEnd temp s) := by
  unfold tempEnd
  with_reducible repeat' first
      | assumption | apply Frame.refl | intro _
      | apply Frame.ite | apply frame_onOnyx | apply frame_tempStart | exact hc.trans (by decide) | split

theorem frame_onyxCommand {M : Nat} {base : State} {s : State} (op : Nat) (f : Onyx → List Nat → Onyx)
    (hc : Within 0x40000000000 M) (hk : Frame M base s) : Frame M base (State.onyxCommand s op f) := by
  unfold State.onyxCommand
  with_reducible repeat' first
      | assumption | apply Frame.refl | intro _
      | apply Frame.ite | apply frame_frame | apply frame_onOnyx | apply frame_reply | exact hc.trans (by decide)
      | split

theorem frame_onyxIdent {M : Nat} {base : State} {s : State} (hc : Within 0x40000000000 M) (hk : Frame M base s) :
    Frame M base (onyxIdent s) := by
  unfold onyxIdent
  with_reducible repeat' first
      | assumption
      | apply frame_onyxCommand | exact hc.trans (by decide)

theorem frame_onyxReadState {M : Nat} {base : State} {s : State} (hc : Within 0x40000000000 M) (hk : Frame M base s) :
    Frame M base (onyxReadState s) := by
  unfold onyxReadState
  with_reducible repeat' first
      | assumption
      | apply frame_onyxCommand | exact hc.trans (by decide)

theorem frame_onyxReadAudit {M : Nat} {base : State} {s : State} (hc : Within 0x40000000000 M) (hk : Frame M base s) :
    Frame M base (onyxReadAudit s) := by
  unfold onyxReadAudit
  with_reducible repeat' first
      | assumption
      | apply frame_onyxCommand | exact hc.trans (by decide)

theorem frame_onyxJobMark {M : Nat} {base : State} {s : State} (hc : Within 0x40000000000 M) (hk : Frame M base s) :
    Frame M base (onyxJobMark s) := by
  unfold onyxJobMark
  with_reducible repeat' first
      | assumption
      | apply frame_onyxCommand | exact hc.trans (by decide)

theorem frame_onyxStageParam {M : Nat} {base : State} {s : State} (hc : Within 0x40000000000 M)
    (hk : Frame M base s) : Frame M base (onyxStageParam s) := by
  unfold onyxStageParam
  with_reducible repeat' first
      | assumption
      | apply frame_onyxCommand | exact hc.trans (by decide)

theorem frame_onyxStageRelease {M : Nat} {base : State} {s : State} (hc : Within 0x40000000000 M)
    (hk : Frame M base s) : Frame M base (onyxStageRelease s) := by
  unfold onyxStageRelease
  with_reducible repeat' first
      | assumption
      | apply frame_onyxCommand | exact hc.trans (by decide)

theorem frame_onyxClearStage {M : Nat} {base : State} {s : State} (hc : Within 0x40000000000 M)
    (hk : Frame M base s) : Frame M base (onyxClearStage s) := by
  unfold onyxClearStage
  with_reducible repeat' first
      | assumption
      | apply frame_onyxCommand | exact hc.trans (by decide)

theorem frame_onyxRun {M : Nat} {base : State} {s : State} (hc : Within 0x40000000000 M) (hk : Frame M base s) :
    Frame M base (State.onyxRun s) := by
  unfold State.onyxRun
  with_reducible repeat' first
      | assumption | apply Frame.refl | intro _
      | apply frame_frame | apply frame_onyxClearStage | apply frame_onyxCommand | apply frame_onyxIdent
      | apply frame_onyxJobMark | apply frame_onyxReadAudit | apply frame_onyxReadState | apply frame_onyxStageParam
      | apply frame_onyxStageRelease | exact hc.trans (by decide) | split

theorem frame_onyxReplyReady {M : Nat} {base : State} {s : State} (hc : Within 0x148000000010 M)
    (hk : Frame M base s) : Frame M base (onyxReplyReady s) := by
  unfold onyxReplyReady
  with_reducible repeat' first
      | assumption | apply Frame.refl
      | (extract_lets +onlyGivenNames x; first
        | (apply Frame.have x; unfold x; clear x; rotate_left; intro hx; clear_value x; rotate_right)
        | clear_value x)
      | apply Frame.ite | apply frame_frame | apply frame_onyxRun | apply frame_reply | apply frame_usbMessage
      | exact hc.trans (by decide) | exact hc.bit (by decide) | split | apply Frame.set_onyx | apply Frame.set_usb

theorem frame_onyxReplyTransfer {M : Nat} {base : State} {s : State} (hc : Within 0x108000000000 M)
    (hk : Frame M base s) : Frame M base (onyxReplyTransfer s) := by
  unfold onyxReplyTransfer
  with_reducible repeat' first
      | assumption | apply Frame.refl
      | apply Frame.ite | apply frame_emit | exact hc.trans (by decide) | exact hc.bit (by decide) | split
      | apply Frame.set_usb

theorem frame_mirrorEntry {M : Nat} {base : State} {s : State} (e : AuditEntry) (hc : Within 0x3 M)
    (hk : Frame M base s) : Frame M base (State.mirrorEntry s e) := by
  unfold State.mirrorEntry
  with_reducible repeat' first
      | assumption | apply Frame.refl | intro _
      | (extract_lets +onlyGivenNames x; first
        | (apply Frame.have x; unfold x; clear x; rotate_left; intro hx; clear_value x; rotate_right)
        | clear_value x)
      | apply Frame.each | apply frame_wr | exact hc.trans (by decide)

theorem frame_viewPages {M : Nat} {base : State} {s : State} (hc : Within 0x3 M) (hk : Frame M base s) :
    Frame M base (State.viewPages s) := by
  unfold State.viewPages
  with_reducible repeat' first
      | assumption | apply Frame.refl | intro _
      | (extract_lets +onlyGivenNames x; first
        | (apply Frame.have x; unfold x; clear x; rotate_left; intro hx; clear_value x; rotate_right)
        | clear_value x)
      | apply Frame.each | apply frame_release | apply frame_wr | apply frame_wrB | apply frame_wrPair
      | exact hc.trans (by decide)

theorem frame_takePush {M : Nat} {base : State} {s : State} (entries : List AuditEntry)
    (hc : Within 0x100000000013 M) (hk : Frame M base s) : Frame M base (State.takePush s entries) := by
  unfold State.takePush
  with_reducible repeat' first
      | assumption | apply Frame.refl | intro _
      | (extract_lets +onlyGivenNames x; first
        | (apply Frame.have x; unfold x; clear x; rotate_left; intro hx; clear_value x; rotate_right)
        | clear_value x)
      | apply Frame.when | apply Frame.each | apply frame_alert | apply frame_mgmtRaise | apply frame_mirrorEntry
      | apply frame_raise | apply frame_viewPages | exact hc.trans (by decide)

theorem frame_onyxPush {M : Nat} {base : State} (temp : Nat) (vddMv : Nat) (switch : Bool) {s : State}
    (hc : Within 0x140000000013 M) (hk : Frame M base s) : Frame M base (onyxPush temp vddMv switch s) := by
  unfold onyxPush
  with_reducible repeat' first
      | assumption | apply Frame.refl | intro _
      | (extract_lets +onlyGivenNames x; first
        | (apply Frame.have x; unfold x; clear x; rotate_left; intro hx; clear_value x; rotate_right)
        | clear_value x)
      | apply Frame.ite | apply frame_take | apply frame_takePush | exact hc.trans (by decide)
      | exact hc.bit (by decide) | split | apply Frame.set_onyx

theorem frame_viewStale {M : Nat} {base : State} {s : State} (hc : Within 0x100000000013 M) (hk : Frame M base s) :
    Frame M base (viewStale s) := by
  unfold viewStale
  with_reducible repeat' first
      | assumption
      | apply frame_raise | apply frame_wr | exact hc.trans (by decide)

/-! ## Usb -/

theorem frame_usbMove {M : Nat} {base : State} {s : State} (st : Nat) (hc : Within 0x13 M) (hk : Frame M base s) :
    Frame M base (State.usbMove s st) := by
  unfold State.usbMove
  with_reducible repeat' first
      | assumption
      | (extract_lets +onlyGivenNames x; first
        | (apply Frame.have x; unfold x; clear x; rotate_left; intro hx; clear_value x; rotate_right)
        | clear_value x)
      | apply frame_wr | exact hc.trans (by decide) | exact hc.bit (by decide) | apply Frame.set_nt

theorem frame_usbDefault {M : Nat} {base : State} {s : State} (st : Nat) (hc : Within 0x108000000013 M)
    (hk : Frame M base s) : Frame M base (State.usbDefault s st) := by
  unfold State.usbDefault
  with_reducible repeat' first
      | assumption
      | (extract_lets +onlyGivenNames x; first
        | (apply Frame.have x; unfold x; clear x; rotate_left; intro hx; clear_value x; rotate_right)
        | clear_value x)
      | apply frame_frame | apply frame_raise | apply frame_usbClear | apply frame_usbMove | apply frame_wr
      | exact hc.trans (by decide) | exact hc.bit (by decide) | apply Frame.set_nt | apply Frame.set_usb

theorem frame_usbVbusChange {M : Nat} {base : State} (present : Bool) {s : State} (hc : Within 0x108000000013 M)
    (hk : Frame M base s) : Frame M base (usbVbusChange present s) := by
  unfold usbVbusChange
  with_reducible repeat' first
      | assumption
      | apply frame_usbFollow | exact hc.trans (by decide) | exact hc.bit (by decide) | apply Frame.set_usb

theorem frame_usbBusReset {M : Nat} {base : State} (hs : Bool) (cut : Bool) {s : State}
    (hc : Within 0x108000000013 M) (hk : Frame M base s) : Frame M base (usbBusReset hs cut s) := by
  unfold usbBusReset
  with_reducible repeat' first
      | assumption | apply Frame.refl | intro _
      | (extract_lets +onlyGivenNames x; first
        | (apply Frame.have x; unfold x; clear x; rotate_left; intro hx; clear_value x; rotate_right)
        | clear_value x)
      | apply Frame.ite | apply Frame.when | apply frame_emit | apply frame_inc | apply frame_raise
      | apply frame_usbDefault | apply frame_wakeSent | apply frame_wr | apply frame_wrB | exact hc.trans (by decide)
      | split

theorem frame_usbSuspend {M : Nat} {base : State} {s : State} (hc : Within 0x108000000013 M) (hk : Frame M base s) :
    Frame M base (usbSuspend s) := by
  unfold usbSuspend
  with_reducible repeat' first
      | assumption | apply Frame.refl
      | (extract_lets +onlyGivenNames x; first
        | (apply Frame.have x; unfold x; clear x; rotate_left; intro hx; clear_value x; rotate_right)
        | clear_value x)
      | apply Frame.ite | apply frame_raise | apply frame_usbMove | apply frame_wakeSent | exact hc.trans (by decide)
      | exact hc.bit (by decide) | split | apply Frame.set_usb | apply Frame.set_nt

theorem frame_wakeMessage {M : Nat} {base : State} {s : State} (hc : Within 0x100000000010 M) (hk : Frame M base s) :
    Frame M base (State.wakeMessage s) := by
  unfold State.wakeMessage
  with_reducible repeat' first
      | assumption | apply Frame.refl
      | (extract_lets +onlyGivenNames x; first
        | (apply Frame.have x; unfold x; clear x; rotate_left; intro hx; clear_value x; rotate_right)
        | clear_value x)
      | apply Frame.ite | apply frame_raise | apply frame_wakeCollided | exact hc.trans (by decide)
      | exact hc.bit (by decide) | split | apply Frame.set_nt

theorem frame_usbResume {M : Nat} {base : State} {s : State} (hc : Within 0x100000000013 M) (hk : Frame M base s) :
    Frame M base (usbResume s) := by
  unfold usbResume
  with_reducible repeat' first
      | assumption | apply Frame.refl
      | apply Frame.ite | apply frame_raise | apply frame_usbMove | apply frame_wakeMessage
      | exact hc.trans (by decide) | split

theorem frame_wakeSent {M : Nat} {base : State} {s : State} (hc : Within 0x100000000010 M) (hk : Frame M base s) :
    Frame M base (wakeSent s) := by
  unfold wakeSent
  with_reducible repeat' first
      | assumption | apply Frame.refl
      | (extract_lets +onlyGivenNames x; first
        | (apply Frame.have x; unfold x; clear x; rotate_left; intro hx; clear_value x; rotate_right)
        | clear_value x)
      | apply Frame.ite | apply frame_emit | apply frame_raise | exact hc.trans (by decide) | exact hc.bit (by decide)
      | split | apply Frame.set_nt

theorem frame_wakeCollided {M : Nat} {base : State} {s : State} (hc : Within 0x100000000010 M) (hk : Frame M base s) :
    Frame M base (wakeCollided s) := by
  unfold wakeCollided
  with_reducible repeat' first
      | assumption | apply Frame.refl
      | (extract_lets +onlyGivenNames x; first
        | (apply Frame.have x; unfold x; clear x; rotate_left; intro hx; clear_value x; rotate_right)
        | clear_value x)
      | apply Frame.ite | apply frame_emit | apply frame_raise | apply frame_wakeSent | exact hc.trans (by decide)
      | exact hc.bit (by decide) | split | apply Frame.set_nt

theorem frame_usbCtlWrite {M : Nat} {base : State} (v : Nat) (cut : Bool) {s : State}
    (hc : Within 0x108000000017 M) (hk : Frame M base s) : Frame M base (usbCtlWrite v cut s) := by
  unfold usbCtlWrite
  with_reducible repeat' first
      | assumption | apply Frame.refl | intro _
      | (extract_lets +onlyGivenNames x; first
        | (apply Frame.have x; unfold x; clear x; rotate_left; intro hx; clear_value x; rotate_right)
        | clear_value x)
      | apply Frame.ite | apply Frame.when | apply frame_hostWord | apply frame_inc | apply frame_raise
      | apply frame_usbFollow | apply frame_wakeSent | exact hc.trans (by decide) | exact hc.bit (by decide) | split
      | apply Frame.set_nt

theorem frame_usbData {M : Nat} {base : State} {s : State} (b : List Nat) (wLength : Nat)
    (hc : Within 0x100000000000 M) (hk : Frame M base s) : Frame M base (State.usbData s b wLength) := by
  unfold State.usbData
  with_reducible repeat' first
      | assumption
      | apply frame_emit | apply frame_take | exact hc.trans (by decide)

theorem frame_usbRequest {M : Nat} {base : State} {s : State} (f : State → State) (hf : ∀ s, Frame M s (f s))
    (hc : Within 0x0 M) (hk : Frame M base s) : Frame M base (State.usbRequest s f) := by
  unfold State.usbRequest
  with_reducible repeat' first
      | assumption | apply Frame.refl
      | apply Frame.ite | refine Frame.trans ?_ (hf ..) | exact hc.trans (by decide) | split

theorem frame_setAddress {M : Nat} {base : State} (a : Nat) {s : State} (hc : Within 0x13 M) (hk : Frame M base s) :
    Frame M base (setAddress a s) := by
  unfold setAddress
  with_reducible repeat' first
      | assumption | apply Frame.refl
      | (extract_lets +onlyGivenNames x; first
        | (apply Frame.have x; unfold x; clear x; rotate_left; intro hx; clear_value x; rotate_right)
        | clear_value x)
      | apply Frame.ite | apply frame_usbMove | apply frame_wr | exact hc.trans (by decide) | split

theorem frame_setConfiguration {M : Nat} {base : State} (v : Nat) {s : State} (hc : Within 0x108000000013 M)
    (hk : Frame M base s) : Frame M base (setConfiguration v s) := by
  unfold setConfiguration
  with_reducible repeat' first
      | assumption | apply Frame.refl | intro _
      | (extract_lets +onlyGivenNames x; first
        | (apply Frame.have x; unfold x; clear x; rotate_left; intro hx; clear_value x; rotate_right)
        | (apply Frame.have1 x; unfold x; clear x; rotate_left; intro hx; clear_value x; rotate_right)
        | (apply Frame.have2 x; unfold x; clear x; rotate_left; intro hq; clear_value x; rotate_right)
        | (apply Frame.have3 x; unfold x; clear x; rotate_left; intro hq; clear_value x; rotate_right)
        | (apply Frame.have4 x; unfold x; clear x; rotate_left; intro hq; clear_value x; rotate_right)
        | clear_value x)
      | apply hq | apply Frame.ite | apply Frame.when | apply Frame.each | apply Frame.foldl | apply Frame.foldlFst
      | apply frame_emit | apply frame_usbDefault | apply frame_usbMove | apply frame_usbRequest
      | exact hc.trans (by decide) | split

theorem frame_getDescriptor {M : Nat} {base : State} (kind : Nat) (index : Nat) (wLength : Nat) {s : State}
    (hc : Within 0x100000000000 M) (hk : Frame M base s) : Frame M base (getDescriptor kind index wLength s) := by
  unfold getDescriptor
  with_reducible repeat' first
      | assumption | apply Frame.refl | intro _
      | apply frame_emit | apply frame_usbData | apply frame_usbRequest | exact hc.trans (by decide) | split

theorem frame_getConfiguration {M : Nat} {base : State} (wLength : Nat) {s : State} (hc : Within 0x100000000000 M)
    (hk : Frame M base s) : Frame M base (getConfiguration wLength s) := by
  unfold getConfiguration
  with_reducible repeat' first
      | assumption | apply Frame.refl | intro _
      | apply Frame.ite | apply frame_usbData | apply frame_usbRequest | exact hc.trans (by decide) | split

theorem frame_getStatus {M : Nat} {base : State} (recipient : Nat) (index : Nat) (wLength : Nat) {s : State}
    (hc : Within 0x100000000000 M) (hk : Frame M base s) : Frame M base (getStatus recipient index wLength s) := by
  unfold getStatus
  with_reducible repeat' first
      | assumption | apply Frame.refl | intro _
      | apply Frame.ite | apply frame_emit | apply frame_usbData | apply frame_usbRequest | exact hc.trans (by decide)
      | split

theorem frame_setRwake {M : Nat} {base : State} {s : State} (b : Bool) (hc : Within 0x13 M) (hk : Frame M base s) :
    Frame M base (State.setRwake s b) := by
  unfold State.setRwake
  with_reducible repeat' first
      | assumption
      | apply frame_wrB | exact hc.trans (by decide) | exact hc.bit (by decide) | apply Frame.set_nt

theorem frame_setFeature {M : Nat} {base : State} (recipient : Nat) (feature : Nat) (index : Nat) {s : State}
    (hc : Within 0x108000000013 M) (hk : Frame M base s) : Frame M base (setFeature recipient feature index s) := by
  unfold setFeature
  with_reducible repeat' first
      | assumption | apply Frame.refl | intro _
      | apply Frame.ite | apply frame_emit | apply frame_setRwake | apply frame_usbRequest
      | exact hc.trans (by decide) | exact hc.bit (by decide) | split | apply Frame.set_usb

theorem frame_clearFeature {M : Nat} {base : State} (recipient : Nat) (feature : Nat) (index : Nat) {s : State}
    (hc : Within 0x108000000013 M) (hk : Frame M base s) : Frame M base (clearFeature recipient feature index s) := by
  unfold clearFeature
  with_reducible repeat' first
      | assumption | apply Frame.refl | intro _
      | apply Frame.ite | apply frame_emit | apply frame_setRwake | apply frame_usbRequest
      | exact hc.trans (by decide) | exact hc.bit (by decide) | split | apply Frame.set_usb

theorem frame_getInterface {M : Nat} {base : State} (index : Nat) (wLength : Nat) {s : State}
    (hc : Within 0x100000000000 M) (hk : Frame M base s) : Frame M base (getInterface index wLength s) := by
  unfold getInterface
  with_reducible repeat' first
      | assumption | apply Frame.refl | intro _
      | apply Frame.ite | apply frame_emit | apply frame_usbData | apply frame_usbRequest | exact hc.trans (by decide)
      | split

theorem frame_setInterface {M : Nat} {base : State} (alt : Nat) (index : Nat) {s : State}
    (hc : Within 0x100000000000 M) (hk : Frame M base s) : Frame M base (setInterface alt index s) := by
  unfold setInterface
  with_reducible repeat' first
      | assumption | apply Frame.refl | intro _
      | apply Frame.ite | apply frame_emit | apply frame_usbRequest | exact hc.trans (by decide) | split

theorem frame_setDescriptor {M : Nat} {base : State} {s : State} (hc : Within 0x100000000000 M)
    (hk : Frame M base s) : Frame M base (setDescriptor s) := by
  unfold setDescriptor
  with_reducible repeat' first
      | assumption | apply Frame.refl | intro _
      | (extract_lets +onlyGivenNames x; first
        | (apply Frame.have x; unfold x; clear x; rotate_left; intro hx; clear_value x; rotate_right)
        | (apply Frame.have1 x; unfold x; clear x; rotate_left; intro hx; clear_value x; rotate_right)
        | (apply Frame.have2 x; unfold x; clear x; rotate_left; intro hq; clear_value x; rotate_right)
        | (apply Frame.have3 x; unfold x; clear x; rotate_left; intro hq; clear_value x; rotate_right)
        | (apply Frame.have4 x; unfold x; clear x; rotate_left; intro hq; clear_value x; rotate_right)
        | clear_value x)
      | apply hq | apply Frame.ite | apply Frame.when | apply Frame.each | apply Frame.foldl | apply Frame.foldlFst
      | apply frame_emit | apply frame_usbRequest | exact hc.trans (by decide) | split

theorem frame_synchFrame {M : Nat} {base : State} {s : State} (hc : Within 0x100000000000 M) (hk : Frame M base s) :
    Frame M base (synchFrame s) := by
  unfold synchFrame
  with_reducible repeat' first
      | assumption | apply Frame.refl | intro _
      | (extract_lets +onlyGivenNames x; first
        | (apply Frame.have x; unfold x; clear x; rotate_left; intro hx; clear_value x; rotate_right)
        | (apply Frame.have1 x; unfold x; clear x; rotate_left; intro hx; clear_value x; rotate_right)
        | (apply Frame.have2 x; unfold x; clear x; rotate_left; intro hq; clear_value x; rotate_right)
        | (apply Frame.have3 x; unfold x; clear x; rotate_left; intro hq; clear_value x; rotate_right)
        | (apply Frame.have4 x; unfold x; clear x; rotate_left; intro hq; clear_value x; rotate_right)
        | clear_value x)
      | apply hq | apply Frame.ite | apply Frame.when | apply Frame.each | apply Frame.foldl | apply Frame.foldlFst
      | apply frame_emit | apply frame_usbRequest | exact hc.trans (by decide) | split

theorem frame_vendorStall {M : Nat} {base : State} {s : State} (hc : Within 0x100000000003 M) (hk : Frame M base s) :
    Frame M base (State.vendorStall s) := by
  unfold State.vendorStall
  with_reducible repeat' first
      | assumption
      | apply frame_emit | apply frame_inc | exact hc.trans (by decide)

theorem frame_vendor {M : Nat} {base : State} {s : State} (ok : Bool) (f : State → State) (hf : ∀ s, Frame M s
    (f s)) (hc : Within 0x100000000013 M) (hk : Frame M base s) : Frame M base (State.vendor s ok f) := by
  unfold State.vendor
  with_reducible repeat' first
      | assumption | apply Frame.refl | intro _
      | apply Frame.ite | apply frame_mgmtRaise | apply frame_usbRequest | apply frame_vendorStall
      | refine Frame.trans ?_ (hf ..) | exact hc.trans (by decide) | split

theorem frame_getInfo {M : Nat} {base : State} (wLength : Nat) {s : State} (hc : Within 0x100000000013 M)
    (hk : Frame M base s) : Frame M base (getInfo wLength s) := by
  unfold getInfo
  with_reducible repeat' first
      | assumption | apply Frame.refl | intro _
      | (extract_lets +onlyGivenNames x; first
        | (apply Frame.have x; unfold x; clear x; rotate_left; intro hx; clear_value x; rotate_right)
        | (apply Frame.have1 x; unfold x; clear x; rotate_left; intro hx; clear_value x; rotate_right)
        | (apply Frame.have2 x; unfold x; clear x; rotate_left; intro hq; clear_value x; rotate_right)
        | (apply Frame.have3 x; unfold x; clear x; rotate_left; intro hq; clear_value x; rotate_right)
        | (apply Frame.have4 x; unfold x; clear x; rotate_left; intro hq; clear_value x; rotate_right)
        | clear_value x)
      | apply hq | apply Frame.ite | apply Frame.when | apply Frame.each | apply Frame.foldl | apply Frame.foldlFst
      | apply frame_usbData | apply frame_vendor | exact hc.trans (by decide) | split

theorem frame_usbUpdCmd {M : Nat} {base : State} (op : Nat) (wLength : Nat) {s : State}
    (hc : Within 0x184000000013 M) (hk : Frame M base s) : Frame M base (usbUpdCmd op wLength s) := by
  unfold usbUpdCmd
  with_reducible repeat' first
      | assumption | apply Frame.refl | intro _
      | apply Frame.ite | apply frame_updCommand | apply frame_updRefused | apply frame_vendor
      | apply frame_vendorStall | exact hc.trans (by decide) | split

theorem frame_usbUpdStatus {M : Nat} {base : State} (wLength : Nat) {s : State} (hc : Within 0x100000000013 M)
    (hk : Frame M base s) : Frame M base (usbUpdStatus wLength s) := by
  unfold usbUpdStatus
  with_reducible repeat' first
      | assumption | apply Frame.refl | intro _
      | (extract_lets +onlyGivenNames x; first
        | (apply Frame.have x; unfold x; clear x; rotate_left; intro hx; clear_value x; rotate_right)
        | (apply Frame.have1 x; unfold x; clear x; rotate_left; intro hx; clear_value x; rotate_right)
        | (apply Frame.have2 x; unfold x; clear x; rotate_left; intro hq; clear_value x; rotate_right)
        | (apply Frame.have3 x; unfold x; clear x; rotate_left; intro hq; clear_value x; rotate_right)
        | (apply Frame.have4 x; unfold x; clear x; rotate_left; intro hq; clear_value x; rotate_right)
        | clear_value x)
      | apply hq | apply Frame.ite | apply Frame.when | apply Frame.each | apply Frame.foldl | apply Frame.foldlFst
      | apply frame_usbData | apply frame_vendor | exact hc.trans (by decide) | split

theorem frame_onyxFrame {M : Nat} {base : State} (b : List Nat) {s : State} (hc : Within 0x148000000013 M)
    (hk : Frame M base s) : Frame M base (onyxFrame b s) := by
  unfold onyxFrame
  with_reducible repeat' first
      | assumption | apply Frame.refl | intro _
      | (extract_lets +onlyGivenNames x; first
        | (apply Frame.have x; unfold x; clear x; rotate_left; intro hx; clear_value x; rotate_right)
        | clear_value x)
      | apply Frame.ite | apply frame_frame | apply frame_onyxRun | apply frame_reply | apply frame_vendor
      | exact hc.trans (by decide) | exact hc.bit (by decide) | split | apply Frame.set_usb_onyx

theorem frame_usbEvtMask {M : Nat} {base : State} (mask : Nat) (wLength : Nat) {s : State}
    (hc : Within 0x100000000013 M) (hk : Frame M base s) : Frame M base (usbEvtMask mask wLength s) := by
  unfold usbEvtMask
  with_reducible repeat' first
      | assumption | apply Frame.refl | intro _
      | (extract_lets +onlyGivenNames x; first
        | (apply Frame.have x; unfold x; clear x; rotate_left; intro hx; clear_value x; rotate_right)
        | (apply Frame.have1 x; unfold x; clear x; rotate_left; intro hx; clear_value x; rotate_right)
        | (apply Frame.have2 x; unfold x; clear x; rotate_left; intro hq; clear_value x; rotate_right)
        | (apply Frame.have3 x; unfold x; clear x; rotate_left; intro hq; clear_value x; rotate_right)
        | (apply Frame.have4 x; unfold x; clear x; rotate_left; intro hq; clear_value x; rotate_right)
        | clear_value x)
      | apply hq | apply Frame.ite | apply Frame.when | apply Frame.each | apply Frame.foldl | apply Frame.foldlFst
      | apply frame_vendor | apply frame_wr | exact hc.trans (by decide) | split

theorem frame_putStream {M : Nat} {base : State} {s : State} (x : Option LogStream) (hc : Within 0x8000000003 M)
    (hk : Frame M base s) : Frame M base (State.putStream s x) := by
  unfold State.putStream
  with_reducible repeat' first
      | assumption
      | apply frame_wrB | exact hc.trans (by decide) | exact hc.bit (by decide) | apply Frame.set_usb

theorem frame_logStart {M : Nat} {base : State} (seq : Nat) (mirror : Bool) (follow : Bool) (wLength : Nat)
    {s : State} (hc : Within 0x108000000013 M) (hk : Frame M base s) :
    Frame M base (logStart seq mirror follow wLength s) := by
  unfold logStart
  with_reducible repeat' first
      | assumption | apply Frame.refl | intro _
      | (extract_lets +onlyGivenNames x; first
        | (apply Frame.have x; unfold x; clear x; rotate_left; intro hx; clear_value x; rotate_right)
        | (apply Frame.have1 x; unfold x; clear x; rotate_left; intro hx; clear_value x; rotate_right)
        | (apply Frame.have2 x; unfold x; clear x; rotate_left; intro hq; clear_value x; rotate_right)
        | (apply Frame.have3 x; unfold x; clear x; rotate_left; intro hq; clear_value x; rotate_right)
        | (apply Frame.have4 x; unfold x; clear x; rotate_left; intro hq; clear_value x; rotate_right)
        | clear_value x)
      | apply hq | apply Frame.ite | apply Frame.when | apply Frame.each | apply Frame.foldl | apply Frame.foldlFst
      | apply frame_putStream | apply frame_vendor | exact hc.trans (by decide) | split

theorem frame_logStop {M : Nat} {base : State} (wLength : Nat) {s : State} (hc : Within 0x108000000013 M)
    (hk : Frame M base s) : Frame M base (logStop wLength s) := by
  unfold logStop
  with_reducible repeat' first
      | assumption | apply Frame.refl | intro _
      | (extract_lets +onlyGivenNames x; first
        | (apply Frame.have x; unfold x; clear x; rotate_left; intro hx; clear_value x; rotate_right)
        | (apply Frame.have1 x; unfold x; clear x; rotate_left; intro hx; clear_value x; rotate_right)
        | (apply Frame.have2 x; unfold x; clear x; rotate_left; intro hq; clear_value x; rotate_right)
        | (apply Frame.have3 x; unfold x; clear x; rotate_left; intro hq; clear_value x; rotate_right)
        | (apply Frame.have4 x; unfold x; clear x; rotate_left; intro hq; clear_value x; rotate_right)
        | clear_value x)
      | apply hq | apply Frame.ite | apply Frame.when | apply Frame.each | apply Frame.foldl | apply Frame.foldlFst
      | apply frame_putStream | apply frame_vendor | exact hc.trans (by decide) | split

theorem frame_usbLogPacket {M : Nat} {base : State} {s : State} (hc : Within 0x108000000003 M) (hk : Frame M base s) :
    Frame M base (usbLogPacket s) := by
  unfold usbLogPacket
  with_reducible repeat' first
      | assumption | apply Frame.refl | intro _
      | (extract_lets +onlyGivenNames x; first
        | (apply Frame.have x; unfold x; clear x; rotate_left; intro hx; clear_value x; rotate_right)
        | clear_value x)
      | apply Frame.ite | apply frame_emit | apply frame_log | apply frame_putStream | apply frame_take
      | exact hc.trans (by decide) | split

theorem frame_usbImagePacket {M : Nat} {base : State} (b : List Nat) {s : State} (hc : Within 0x10c000000013 M)
    (hk : Frame M base s) : Frame M base (usbImagePacket b s) := by
  unfold usbImagePacket
  with_reducible repeat' first
      | assumption | apply Frame.refl | intro _
      | apply Frame.ite | apply Frame.each | apply frame_updDataWrite | exact hc.trans (by decide)
      | exact hc.bit (by decide) | split | apply Frame.set_usb

theorem frame_eventMessagePoll {M : Nat} {base : State} {s : State} (hc : Within 0x100000000010 M)
    (hk : Frame M base s) : Frame M base (eventMessagePoll s) := by
  unfold eventMessagePoll
  with_reducible repeat' first
      | assumption | apply Frame.refl
      | apply Frame.ite | apply frame_emit | exact hc.trans (by decide) | exact hc.bit (by decide) | split
      | apply Frame.set_nt

/-! ## TwoWire -/

theorem frame_twtNack {M : Nat} {base : State} {s : State} (hc : Within 0x3 M) (hk : Frame M base s) :
    Frame M base (State.twtNack s) := by
  unfold State.twtNack
  with_reducible repeat' first
      | assumption
      | apply frame_incSat | exact hc.trans (by decide)

theorem frame_twtPut {M : Nat} {base : State} {s : State} (ptr : Nat) (v : Nat) (hc : Within 0x100000000013 M)
    (hk : Frame M base s) : Frame M base (State.twtPut s ptr v) := by
  unfold State.twtPut
  with_reducible repeat' first
      | assumption | apply Frame.refl | intro _
      | (extract_lets +onlyGivenNames x; first
        | (apply Frame.have x; unfold x; clear x; rotate_left; intro hx; clear_value x; rotate_right)
        | clear_value x)
      | apply Frame.ite | apply frame_alertClear | apply frame_inc | apply frame_wr | exact hc.trans (by decide)
      | split

theorem frame_twtApply {M : Nat} {base : State} (p0 : List Nat) (p1 : Nat) {p2 : State}
    (hc : Within 0x100000000013 M) (hk : Frame M base p2) : Frame M base ((State.twtApply p0 p1 p2).1) := by
  induction p0 generalizing p1 p2 with
  | nil => exact hk
  | cons _ _ ih =>
    unfold State.twtApply
    with_reducible repeat' first
        | assumption
        | apply frame_twtPut | apply ih | exact hc.trans (by decide)

theorem frame_twtWriteTransaction {M : Nat} {base : State} (address : Nat) (b : List Nat) (stop : Bool)
    {s : State} (hc : Within 0x190000000013 M) (hk : Frame M base s) :
    Frame M base (twtWriteTransaction address b stop s) := by
  unfold twtWriteTransaction
  with_reducible repeat' first
      | assumption | apply Frame.refl | intro _
      | (extract_lets +onlyGivenNames x; first
        | (apply Frame.have x; unfold x; clear x; rotate_left; intro hx; clear_value x; rotate_right)
        | (apply Frame.have1 x; unfold x; clear x; rotate_left; intro hx; clear_value x; rotate_right)
        | (apply Frame.have2 x; unfold x; clear x; rotate_left; intro hq; clear_value x; rotate_right)
        | (apply Frame.have3 x; unfold x; clear x; rotate_left; intro hq; clear_value x; rotate_right)
        | (apply Frame.have4 x; unfold x; clear x; rotate_left; intro hq; clear_value x; rotate_right)
        | clear_value x)
      | apply hq | apply Frame.ite | apply Frame.when | apply Frame.each | apply Frame.foldl | apply Frame.foldlFst
      | apply frame_mgmtRaise | apply frame_raise | apply frame_take | apply frame_twtApply | apply frame_twtNack
      | exact hc.trans (by decide) | exact hc.bit (by decide) | split | apply Frame.set_twt

theorem frame_twtReadTransaction {M : Nat} {base : State} (address : Nat) (n : Nat) {s : State}
    (hc : Within 0x110000000013 M) (hk : Frame M base s) : Frame M base (twtReadTransaction address n s) := by
  unfold twtReadTransaction
  with_reducible repeat' first
      | assumption | apply Frame.refl | intro _
      | (extract_lets +onlyGivenNames x; first
        | (apply Frame.have x; unfold x; clear x; rotate_left; intro hx; clear_value x; rotate_right)
        | clear_value x)
      | apply Frame.ite | apply frame_emit | apply frame_mgmtRaise | apply frame_twtNack | exact hc.trans (by decide)
      | exact hc.bit (by decide) | split | apply Frame.set_twt

theorem frame_twtBusTimeout {M : Nat} {base : State} {s : State} (hc : Within 0x100000000013 M)
    (hk : Frame M base s) : Frame M base (twtBusTimeout s) := by
  unfold twtBusTimeout
  with_reducible repeat' first
      | assumption | apply Frame.refl
      | apply Frame.ite | apply frame_incSat | apply frame_raise | exact hc.trans (by decide) | split

theorem frame_twtAraDone {M : Nat} {base : State} (won : Bool) {s : State} (hc : Within 0x100000000013 M)
    (hk : Frame M base s) : Frame M base (twtAraDone won s) := by
  unfold twtAraDone
  with_reducible repeat' first
      | assumption | apply Frame.refl
      | (extract_lets +onlyGivenNames x; first
        | (apply Frame.have x; unfold x; clear x; rotate_left; intro hx; clear_value x; rotate_right)
        | clear_value x)
      | apply Frame.ite | apply frame_emit | apply frame_putAlerts | apply frame_raise | apply frame_wr
      | exact hc.trans (by decide) | split

theorem frame_twtHostAlert {M : Nat} {base : State} (v : Nat) {s : State} (hc : Within 0x100000000010 M)
    (hk : Frame M base s) : Frame M base (twtHostAlert v s) := by
  unfold twtHostAlert
  with_reducible repeat' first
      | assumption | apply Frame.refl
      | apply Frame.ite | apply frame_alert | exact hc.trans (by decide) | split

theorem frame_twtCtlWrite {M : Nat} {base : State} (v : Nat) {s : State} (hc : Within 0x100000000017 M)
    (hk : Frame M base s) : Frame M base (twtCtlWrite v s) := by
  unfold twtCtlWrite
  with_reducible repeat' first
      | assumption | apply Frame.refl
      | (extract_lets +onlyGivenNames x; first
        | (apply Frame.have x; unfold x; clear x; rotate_left; intro hx; clear_value x; rotate_right)
        | clear_value x)
      | apply Frame.ite | apply frame_emit | apply frame_hostWord | apply frame_raise | exact hc.trans (by decide)
      | split

theorem frame_twcResult {M : Nat} {base : State} {s : State} (code : Nat) (hc : Within 0x3 M) (hk : Frame M base s) :
    Frame M base (State.twcResult s code) := by
  unfold State.twcResult
  with_reducible repeat' first
      | assumption
      | apply frame_wr | exact hc.trans (by decide)

theorem frame_twcFreed {M : Nat} {base : State} {s : State} (n : Nat) (hc : Within 0x120000000013 M)
    (hk : Frame M base s) : Frame M base (State.twcFreed s n) := by
  unfold State.twcFreed
  with_reducible repeat' first
      | assumption
      | apply frame_emit | apply frame_incSat | apply frame_raise | exact hc.trans (by decide)
      | exact hc.bit (by decide) | apply Frame.set_twc

theorem frame_twcStays {M : Nat} {base : State} {s : State} (hc : Within 0x120000000013 M) (hk : Frame M base s) :
    Frame M base (State.twcStays s) := by
  unfold State.twcStays
  with_reducible repeat' first
      | assumption
      | apply frame_raise | apply frame_twcResult | exact hc.trans (by decide) | exact hc.bit (by decide)
      | apply Frame.set_twc

theorem frame_twcRecovery {M : Nat} {base : State} {s : State} (bus : Sys2Proof.BusLines)
    (hc : Within 0x120000000013 M) (hk : Frame M base s) : Frame M base (State.twcRecovery s bus) := by
  unfold State.twcRecovery
  with_reducible repeat' first
      | assumption | apply Frame.refl
      | apply frame_emit | apply frame_twcFreed | apply frame_twcStays | exact hc.trans (by decide) | split

theorem frame_twcEnd {M : Nat} {base : State} {s : State} (code : Nat) (hc : Within 0x120000000013 M)
    (hk : Frame M base s) : Frame M base (State.twcEnd s code) := by
  unfold State.twcEnd
  with_reducible repeat' first
      | assumption | apply Frame.refl
      | (extract_lets +onlyGivenNames x; first
        | (apply Frame.have x; unfold x; clear x; rotate_left; intro hx; clear_value x; rotate_right)
        | clear_value x)
      | apply Frame.ite | apply frame_emit | apply frame_mgmtRaise | apply frame_raise | apply frame_twcResult
      | apply frame_wr | exact hc.trans (by decide) | exact hc.bit (by decide) | split | apply Frame.set_twc

theorem frame_twcStart {M : Nat} {base : State} {s : State} (t : TwcTransfer) (hc : Within 0x100000000000 M)
    (hk : Frame M base s) : Frame M base (State.twcStart s t) := by
  unfold State.twcStart
  with_reducible repeat' first
      | assumption
      | apply frame_emit | exact hc.trans (by decide)

theorem frame_twcXferGo {M : Nat} {base : State} (v : Nat) (bus : Sys2Proof.BusLines) {s : State}
    (hc : Within 0x120000000013 M) (hk : Frame M base s) : Frame M base (twcXferGo v bus s) := by
  unfold twcXferGo
  with_reducible repeat' first
      | assumption | apply Frame.refl
      | (extract_lets +onlyGivenNames x; first
        | (apply Frame.have x; unfold x; clear x; rotate_left; intro hx; clear_value x; rotate_right)
        | clear_value x)
      | apply Frame.ite | apply frame_raise | apply frame_twcEnd | apply frame_twcRecovery | apply frame_twcStart
      | apply frame_wr | exact hc.trans (by decide) | exact hc.bit (by decide) | split | apply Frame.set_twc

theorem frame_twcReadBytes {M : Nat} {base : State} {s : State} (b : List Nat) (hc : Within 0x3 M)
    (hk : Frame M base s) : Frame M base (State.twcReadBytes s b) := by
  unfold State.twcReadBytes
  with_reducible repeat' first
      | assumption | apply Frame.refl | intro _
      | (extract_lets +onlyGivenNames x; first
        | (apply Frame.have x; unfold x; clear x; rotate_left; intro hx; clear_value x; rotate_right)
        | clear_value x)
      | apply Frame.each | apply frame_wr | exact hc.trans (by decide)

theorem frame_twcXferDone {M : Nat} {base : State} (e : Sys2Proof.TransferEnd) {s : State}
    (hc : Within 0x120000000013 M) (hk : Frame M base s) : Frame M base (twcXferDone e s) := by
  unfold twcXferDone
  with_reducible repeat' first
      | assumption | apply Frame.refl
      | (extract_lets +onlyGivenNames x; first
        | (apply Frame.have x; unfold x; clear x; rotate_left; intro hx; clear_value x; rotate_right)
        | clear_value x)
      | apply Frame.ite | apply frame_twcEnd | apply frame_twcReadBytes | apply frame_wr | exact hc.trans (by decide)
      | split

theorem frame_twcArbLost {M : Nat} {base : State} {s : State} (hc : Within 0x120000000013 M) (hk : Frame M base s) :
    Frame M base (twcArbLost s) := by
  unfold twcArbLost
  with_reducible repeat' first
      | assumption | apply Frame.refl
      | (extract_lets +onlyGivenNames x; first
        | (apply Frame.have x; unfold x; clear x; rotate_left; intro hx; clear_value x; rotate_right)
        | clear_value x)
      | apply Frame.ite | apply frame_incSat | apply frame_twcEnd | apply frame_twcStart | exact hc.trans (by decide)
      | exact hc.bit (by decide) | split | apply Frame.set_twc

theorem frame_twcTimeout {M : Nat} {base : State} (bus : Sys2Proof.BusLines) {s : State}
    (hc : Within 0x120000000013 M) (hk : Frame M base s) : Frame M base (twcTimeout bus s) := by
  unfold twcTimeout
  with_reducible repeat' first
      | assumption | apply Frame.refl
      | apply Frame.ite | apply frame_twcEnd | apply frame_twcRecovery | exact hc.trans (by decide) | split

theorem frame_twcRecover {M : Nat} {base : State} (v : Nat) (bus : Sys2Proof.BusLines) {s : State}
    (hc : Within 0x120000000013 M) (hk : Frame M base s) : Frame M base (twcRecover v bus s) := by
  unfold twcRecover
  with_reducible repeat' first
      | assumption | apply Frame.refl
      | apply Frame.ite | apply frame_twcRecovery | exact hc.trans (by decide) | split

theorem frame_twcCtlWrite {M : Nat} {base : State} (v : Nat) {s : State} (hc : Within 0x20000000007 M)
    (hk : Frame M base s) : Frame M base (twcCtlWrite v s) := by
  unfold twcCtlWrite
  with_reducible repeat' first
      | assumption | apply Frame.refl
      | (extract_lets +onlyGivenNames x; first
        | (apply Frame.have x; unfold x; clear x; rotate_left; intro hx; clear_value x; rotate_right)
        | clear_value x)
      | apply Frame.ite | apply frame_hostWord | exact hc.trans (by decide) | exact hc.bit (by decide) | split
      | apply Frame.set_twc

/-! ## Reset -/

theorem frame_strapped {M : Nat} {base : State} {t : State} (s : State) (hc : Within 0x400000003 M)
    (hk : Frame M base t) : Frame M base (State.strapped t s) := by
  unfold State.strapped
  with_reducible repeat' first
      | assumption
      | (extract_lets +onlyGivenNames x; first
        | (apply Frame.have x; unfold x; clear x; rotate_left; intro hx; clear_value x; rotate_right)
        | clear_value x)
      | apply frame_wr | apply frame_wrB | exact hc.trans (by decide) | exact hc.bit (by decide) | apply Frame.set_flt

theorem frame_afterReset {M : Nat} {base : State} {s : State} (hc : Within 0x3ffffffffdf M) (hk : Frame M base s) :
    Frame M base (State.afterReset s) := by
  have key : ∀ t : State, t.tb = s.tb → t.onyx = s.onyx → t.fresh = s.fresh → t.out = s.out → t.pending = s.pending →
      t.regs = [] → Frame M base t := fun t h1 h2 h3 h4 h5 h6 => by
    refine ⟨fun p hp => ?_, fun w => ⟨by rw [h6]; rfl, by rw [h1]; exact (hk.2 w).2⟩⟩
    cases p
    all_goals first
      | exact Bool.noConfusion ((hc.bit (by decide)).symm.trans hp)
      | exact h1.trans (hk.1 _ hp)
      | exact h2.trans (hk.1 _ hp)
      | exact h3.trans (hk.1 _ hp)
      | exact h4.trans (hk.1 _ hp)
      | exact h5.trans (hk.1 _ hp)
  refine Frame.foldl ?_ fun _ _ => frame_wr (hc := hc.trans (by decide)) (hk := Frame.refl _) ..
  exact frame_strapped (hc := hc.trans (by decide)) (hk := key _ rfl rfl rfl rfl rfl rfl) ..

theorem frame_resetOutputs {M : Nat} {base : State} {s : State} (hc : Within 0x100000000000 M) (hk : Frame M base s) :
    Frame M base (State.resetOutputs s) := by
  unfold State.resetOutputs
  with_reducible repeat' first
      | assumption | apply Frame.refl | intro _
      | (extract_lets +onlyGivenNames x; first
        | (apply Frame.have x; unfold x; clear x; rotate_left; intro hx; clear_value x; rotate_right)
        | clear_value x)
      | apply Frame.each | apply frame_emit | exact hc.trans (by decide)

theorem frame_deviceReset {M : Nat} {base : State} {s : State} (cause : Nat) (hc : Within 0x13ffffffffdf M)
    (hk : Frame M base s) : Frame M base (State.deviceReset s cause) := by
  unfold State.deviceReset
  with_reducible repeat' first
      | assumption
      | (extract_lets +onlyGivenNames x; first
        | (apply Frame.have x; unfold x; clear x; rotate_left; intro hx; clear_value x; rotate_right)
        | clear_value x)
      | apply frame_afterReset | apply frame_log | apply frame_resetOutputs | apply frame_wr
      | exact hc.trans (by decide)

theorem frame_devResetKey {M : Nat} {base : State} (agent : Nat) (v : Nat) {s : State}
    (hc : Within 0x13ffffffffdf M) (hk : Frame M base s) : Frame M base (devResetKey agent v s) := by
  unfold devResetKey
  with_reducible repeat' first
      | assumption | apply Frame.refl
      | apply Frame.ite | apply frame_deviceReset | apply frame_log | apply frame_raise | exact hc.trans (by decide)
      | split

theorem frame_perstNAssert {M : Nat} {base : State} {s : State} (hc : Within 0x13ffffffffdf M) (hk : Frame M base s) :
    Frame M base (perstNAssert s) := by
  unfold perstNAssert
  with_reducible repeat' first
      | assumption
      | apply frame_deviceReset | exact hc.trans (by decide)

theorem frame_coreSupplyFault {M : Nat} {base : State} {s : State} (hc : Within 0x13ffffffffdf M)
    (hk : Frame M base s) : Frame M base (coreSupplyFault s) := by
  unfold coreSupplyFault
  with_reducible repeat' first
      | assumption
      | apply frame_deviceReset | exact hc.trans (by decide)

theorem frame_watchdog {M : Nat} {base : State} (core : Nat) {s : State} (hc : Within 0x13ffffffffdf M)
    (hk : Frame M base s) : Frame M base (watchdog core s) := by
  unfold watchdog
  with_reducible repeat' first
      | assumption | apply Frame.refl
      | apply Frame.ite | apply frame_deviceReset | apply frame_log | exact hc.trans (by decide) | split

theorem frame_poweredOn {M : Nat} {base : State} {s : State} (hc : Within 0x3ffffffffff M) (hk : Frame M base s) :
    Frame M base (State.poweredOn s) := by
  have h := frame_afterReset (hc := hc.trans (by decide)) (hk := hk)
  refine ⟨fun p hp => ?_, fun w => ⟨(h.2 w).1, Nat.two_pow_pos 64, Nat.two_pow_pos 32⟩⟩
  cases p
  all_goals first
    | exact Bool.noConfusion ((hc.bit (by decide)).symm.trans hp)
    | exact h.1 _ hp

theorem frame_powerOnReset {M : Nat} {base : State} (lead : Bool) (link : Bool) (core : Bool) (addr : Nat)
    (flash : Option Sys2Proof.FlashContent) {s : State} (hc : Within 0x13ffffffffff M) (hk : Frame M base s) :
    Frame M base (powerOnReset lead link core addr flash s) := by
  unfold powerOnReset
  with_reducible repeat' first
      | assumption | apply Frame.refl
      | (extract_lets +onlyGivenNames x; first
        | (apply Frame.have x; unfold x; clear x; rotate_left; intro hx; clear_value x; rotate_right)
        | clear_value x)
      | apply Frame.ite | apply frame_log | apply frame_poweredOn | apply frame_resetOutputs | apply frame_wr
      | exact hc.trans (by decide) | exact hc.bit (by decide) | split | apply Frame.set_flt | apply Frame.set_mgmt

theorem frame_supplyFall {M : Nat} {base : State} {s : State} (hc : Within 0x13ffffffffff M) (hk : Frame M base s) :
    Frame M base (supplyFall s) := by
  unfold supplyFall
  with_reducible repeat' first
      | assumption
      | (extract_lets +onlyGivenNames x; first
        | (apply Frame.have x; unfold x; clear x; rotate_left; intro hx; clear_value x; rotate_right)
        | clear_value x)
      | apply frame_poweredOn | apply frame_resetOutputs | exact hc.trans (by decide) | exact hc.bit (by decide)
      | apply Frame.set_flt

/-! ## HostAccess -/

theorem frame_deviceWrite {M : Nat} {base : State} (agent : Nat) (o : Nat) (v : Nat) {s : State}
    (hc : Within 0x1822dfff7917 M) (hk : Frame M base s) : Frame M base (State.deviceWrite agent o v s) := by
  unfold State.deviceWrite
  with_reducible repeat' first
      | assumption | apply Frame.refl | intro _
      | (extract_lets +onlyGivenNames x; first
        | (apply Frame.have x; unfold x; clear x; rotate_left; intro hx; clear_value x; rotate_right)
        | (apply Frame.have1 x; unfold x; clear x; rotate_left; intro hx; clear_value x; rotate_right)
        | (apply Frame.have2 x; unfold x; clear x; rotate_left; intro hq; clear_value x; rotate_right)
        | (apply Frame.have3 x; unfold x; clear x; rotate_left; intro hq; clear_value x; rotate_right)
        | (apply Frame.have4 x; unfold x; clear x; rotate_left; intro hq; clear_value x; rotate_right)
        | clear_value x)
      | apply hq | apply Frame.ite | apply Frame.when | apply Frame.each | apply Frame.foldl | apply Frame.foldlFst
      | apply frame_devModeWrite | apply frame_hostWord | apply frame_runStart | apply frame_runStop
      | exact hc.trans (by decide) | split

theorem frame_grantPageWrite {M : Nat} {base : State} (p : Nat) (o : Nat) (v : Nat) {s : State}
    (hc : Within 0x100030000017 M) (hk : Frame M base s) : Frame M base (State.grantPageWrite p o v s) := by
  unfold State.grantPageWrite
  with_reducible repeat' first
      | assumption | apply Frame.refl
      | apply Frame.ite | apply frame_grantWrite | apply frame_hostWord | exact hc.trans (by decide) | split

theorem frame_timeWrite {M : Nat} {base : State} (agent : Nat) (p : Nat) (o : Nat) (v : Nat) {s : State}
    (hc : Within 0x100000000177 M) (hk : Frame M base s) : Frame M base (State.timeWrite agent p o v s) := by
  unfold State.timeWrite
  with_reducible repeat' first
      | assumption | apply Frame.refl
      | apply Frame.ite | apply frame_avsCtlWrite | apply frame_avsVlimitWrite | apply frame_hostWord
      | apply frame_tbRateWrite | apply frame_tbStep | exact hc.trans (by decide) | split

theorem frame_faultWrite {M : Nat} {base : State} (agent : Nat) (p : Nat) (o : Nat) (v : Nat) {s : State}
    (hc : Within 0x1bffffffffdf M) (hk : Frame M base s) : Frame M base (State.faultWrite agent p o v s) := by
  unfold State.faultWrite
  with_reducible repeat' first
      | assumption | apply Frame.refl
      | apply Frame.ite | apply frame_devResetKey | apply frame_domCtlWrite | apply frame_hostWord
      | apply frame_laneResetCmd | exact hc.trans (by decide) | split

theorem frame_converterWrite {M : Nat} {base : State} (p : Nat) (o : Nat) (v : Nat) {s : State}
    (hc : Within 0x100000004017 M) (hk : Frame M base s) : Frame M base (State.converterWrite p o v s) := by
  unfold State.converterWrite
  with_reducible repeat' first
      | assumption | apply Frame.refl
      | apply Frame.ite | apply frame_bankCalStart | apply frame_forceRequest | apply frame_hostWord
      | exact hc.trans (by decide) | split

theorem frame_castWrite {M : Nat} {base : State} (p : Nat) (o : Nat) (v : Nat) {s : State}
    (hc : Within 0x100000044017 M) (hk : Frame M base s) : Frame M base (State.castWrite p o v s) := by
  unfold State.castWrite
  with_reducible repeat' first
      | assumption | apply Frame.refl
      | apply Frame.ite | apply frame_castReqGo | apply frame_castReqRelease | apply frame_hostWord
      | apply frame_trimSlotWrite | exact hc.trans (by decide) | split

theorem frame_opalWrite {M : Nat} {base : State} (agent : Nat) (p : Nat) (o : Nat) (v : Nat) {s : State}
    (hc : Within 0x100040300017 M) (hk : Frame M base s) : Frame M base (State.opalWrite agent p o v s) := by
  unfold State.opalWrite
  with_reducible repeat' first
      | assumption | apply Frame.refl
      | apply Frame.ite | apply frame_hostWord | apply frame_opalCapGo | apply frame_pwReset
      | apply frame_windowAccess | apply frame_wr | exact hc.trans (by decide) | split

theorem frame_berylWrite {M : Nat} {base : State} (agent : Nat) (k : Nat) (o : Nat) (v : Nat) {s : State}
    (hc : Within 0x100140100017 M) (hk : Frame M base s) : Frame M base (State.berylWrite agent k o v s) := by
  unfold State.berylWrite
  with_reducible repeat' first
      | assumption | apply Frame.refl
      | apply Frame.ite | apply frame_berylRecalCmd | apply frame_berylReopen | apply frame_berylSnap
      | apply frame_berylSpiGo | apply frame_hostWord | apply frame_windowAccess | exact hc.trans (by decide) | split

theorem frame_auxiliaryWrite {M : Nat} {base : State} (p : Nat) (o : Nat) (v : Nat) {s : State}
    (hc : Within 0x100140000017 M) (hk : Frame M base s) : Frame M base (State.auxiliaryWrite p o v s) := by
  unfold State.auxiliaryWrite
  with_reducible repeat' first
      | assumption | apply Frame.refl
      | apply Frame.ite | apply frame_auxCtl | apply frame_bvcCtl | apply frame_hostWord | exact hc.trans (by decide)
      | split

theorem frame_pfeWrite {M : Nat} {base : State} (o : Nat) (v : Nat) {s : State} (hc : Within 0x180080000017 M)
    (hk : Frame M base s) : Frame M base (State.pfeWrite o v s) := by
  unfold State.pfeWrite
  with_reducible repeat' first
      | assumption | apply Frame.refl
      | apply Frame.ite | apply frame_aoHost | apply frame_hostWord | apply frame_pfeGo | exact hc.trans (by decide)
      | split

theorem frame_motCmdWrite {M : Nat} {base : State} (agent : Nat) (a : Nat) (v : Nat) {s : State}
    (hc : Within 0x100100000010 M) (hk : Frame M base s) : Frame M base (State.motCmdWrite agent a v s) := by
  unfold State.motCmdWrite
  with_reducible repeat' first
      | assumption | apply Frame.refl | intro _
      | (extract_lets +onlyGivenNames x; first
        | (apply Frame.have x; unfold x; clear x; rotate_left; intro hx; clear_value x; rotate_right)
        | (apply Frame.have1 x; unfold x; clear x; rotate_left; intro hx; clear_value x; rotate_right)
        | (apply Frame.have2 x; unfold x; clear x; rotate_left; intro hq; clear_value x; rotate_right)
        | (apply Frame.have3 x; unfold x; clear x; rotate_left; intro hq; clear_value x; rotate_right)
        | (apply Frame.have4 x; unfold x; clear x; rotate_left; intro hq; clear_value x; rotate_right)
        | clear_value x)
      | apply hq | apply Frame.ite | apply Frame.when | apply Frame.each | apply Frame.foldl | apply Frame.foldlFst
      | apply frame_motAbort | apply frame_motClear | apply frame_motHome | apply frame_motResume
      | apply frame_motStop | apply frame_motZero | exact hc.trans (by decide) | split

theorem frame_axisWrite {M : Nat} {base : State} (agent : Nat) (a : Nat) (o : Nat) (v : Nat) {s : State}
    (hc : Within 0x100100000017 M) (hk : Frame M base s) : Frame M base (State.axisWrite agent a o v s) := by
  unfold State.axisWrite
  with_reducible repeat' first
      | assumption | apply Frame.refl | intro _
      | (extract_lets +onlyGivenNames x; first
        | (apply Frame.have x; unfold x; clear x; rotate_left; intro hx; clear_value x; rotate_right)
        | (apply Frame.have1 x; unfold x; clear x; rotate_left; intro hx; clear_value x; rotate_right)
        | (apply Frame.have2 x; unfold x; clear x; rotate_left; intro hq; clear_value x; rotate_right)
        | (apply Frame.have3 x; unfold x; clear x; rotate_left; intro hq; clear_value x; rotate_right)
        | (apply Frame.have4 x; unfold x; clear x; rotate_left; intro hq; clear_value x; rotate_right)
        | clear_value x)
      | apply hq | apply Frame.ite | apply Frame.when | apply Frame.each | apply Frame.foldl | apply Frame.foldlFst
      | apply frame_axisLimits | apply frame_hostWord | apply frame_motCmdWrite | apply frame_motCtlWrite
      | apply frame_motTargetHiWrite | exact hc.trans (by decide) | split

theorem frame_leaseCmdWrite {M : Nat} {base : State} (v : Nat) {s : State} (hc : Within 0x100170000013 M)
    (hk : Frame M base s) : Frame M base (State.leaseCmdWrite v s) := by
  unfold State.leaseCmdWrite
  with_reducible repeat' first
      | assumption | apply Frame.refl
      | apply Frame.ite | apply frame_leaseGrant | apply frame_leaseRevoke | exact hc.trans (by decide) | split

theorem frame_qadmCmdWrite {M : Nat} {base : State} (x : Sys2Proof.Outside) (t : Nat) (v : Nat) {s : State}
    (hc : Within 0x10003c000013 M) (hk : Frame M base s) : Frame M base (State.qadmCmdWrite x t v s) := by
  unfold State.qadmCmdWrite
  with_reducible repeat' first
      | assumption | apply Frame.refl | intro _
      | (extract_lets +onlyGivenNames x; first
        | (apply Frame.have x; unfold x; clear x; rotate_left; intro hx; clear_value x; rotate_right)
        | (apply Frame.have1 x; unfold x; clear x; rotate_left; intro hx; clear_value x; rotate_right)
        | (apply Frame.have2 x; unfold x; clear x; rotate_left; intro hq; clear_value x; rotate_right)
        | (apply Frame.have3 x; unfold x; clear x; rotate_left; intro hq; clear_value x; rotate_right)
        | (apply Frame.have4 x; unfold x; clear x; rotate_left; intro hq; clear_value x; rotate_right)
        | clear_value x)
      | apply hq | apply Frame.ite | apply Frame.when | apply Frame.each | apply Frame.foldl | apply Frame.foldlFst
      | apply frame_qadmBegin | apply frame_qadmEnd | apply frame_queueDisable | apply frame_queueEnable
      | apply frame_queuePause | apply frame_queueReset | apply frame_queueResume | apply frame_queueSync
      | exact hc.trans (by decide) | split

theorem frame_tenantWrite {M : Nat} {base : State} (x : Sys2Proof.Outside) (p : Nat) (o : Nat) (v : Nat)
    {s : State} (hc : Within 0x10003c000017 M) (hk : Frame M base s) :
    Frame M base (State.tenantWrite x p o v s) := by
  unfold State.tenantWrite
  with_reducible repeat' first
      | assumption | apply Frame.refl | intro _
      | (extract_lets +onlyGivenNames x; first
        | (apply Frame.have x; unfold x; clear x; rotate_left; intro hx; clear_value x; rotate_right)
        | (apply Frame.have1 x; unfold x; clear x; rotate_left; intro hx; clear_value x; rotate_right)
        | (apply Frame.have2 x; unfold x; clear x; rotate_left; intro hq; clear_value x; rotate_right)
        | (apply Frame.have3 x; unfold x; clear x; rotate_left; intro hq; clear_value x; rotate_right)
        | (apply Frame.have4 x; unfold x; clear x; rotate_left; intro hq; clear_value x; rotate_right)
        | clear_value x)
      | apply hq | apply Frame.ite | apply Frame.when | apply Frame.each | apply Frame.foldl | apply Frame.foldlFst
      | apply frame_hostWord | apply frame_leaseRenew | apply frame_qadmCmdWrite | apply frame_tenCtxBaseWrite
      | exact hc.trans (by decide) | split

theorem frame_dmaCmdWrite {M : Nat} {base : State} (agent : Nat) (c : Nat) (v : Nat) {s : State}
    (hc : Within 0x104030000013 M) (hk : Frame M base s) : Frame M base (State.dmaCmdWrite agent c v s) := by
  unfold State.dmaCmdWrite
  with_reducible repeat' first
      | assumption | apply Frame.refl | intro _
      | (extract_lets +onlyGivenNames x; first
        | (apply Frame.have x; unfold x; clear x; rotate_left; intro hx; clear_value x; rotate_right)
        | (apply Frame.have1 x; unfold x; clear x; rotate_left; intro hx; clear_value x; rotate_right)
        | (apply Frame.have2 x; unfold x; clear x; rotate_left; intro hq; clear_value x; rotate_right)
        | (apply Frame.have3 x; unfold x; clear x; rotate_left; intro hq; clear_value x; rotate_right)
        | (apply Frame.have4 x; unfold x; clear x; rotate_left; intro hq; clear_value x; rotate_right)
        | clear_value x)
      | apply hq | apply Frame.ite | apply Frame.when | apply Frame.each | apply Frame.foldl | apply Frame.foldlFst
      | apply frame_dmaAbort | apply frame_dmaClear | apply frame_reqClear | exact hc.trans (by decide) | split

theorem frame_icWrite {M : Nat} {base : State} (c : Nat) (o : Nat) (v : Nat) {s : State}
    (hc : Within 0x100000000010 M) (hk : Frame M base s) : Frame M base (State.icWrite c o v s) := by
  unfold State.icWrite
  with_reducible repeat' first
      | assumption | apply Frame.refl
      | apply Frame.ite | apply frame_icClearWrite | apply frame_icCompleteWrite | apply frame_icRegister
      | apply frame_icSetWrite | exact hc.trans (by decide) | split

theorem frame_mailboxStore {M : Nat} {base : State} (agent : Nat) (p : Nat) (o : Nat) (v : Nat) {s : State}
    (hc : Within 0x84000000000 M) (hk : Frame M base s) : Frame M base (State.mailboxStore agent p o v s) := by
  unfold State.mailboxStore
  with_reducible repeat' first
      | assumption | apply Frame.refl | intro _
      | (extract_lets +onlyGivenNames x; first
        | (apply Frame.have x; unfold x; clear x; rotate_left; intro hx; clear_value x; rotate_right)
        | (apply Frame.have1 x; unfold x; clear x; rotate_left; intro hx; clear_value x; rotate_right)
        | (apply Frame.have2 x; unfold x; clear x; rotate_left; intro hq; clear_value x; rotate_right)
        | (apply Frame.have3 x; unfold x; clear x; rotate_left; intro hq; clear_value x; rotate_right)
        | (apply Frame.have4 x; unfold x; clear x; rotate_left; intro hq; clear_value x; rotate_right)
        | clear_value x)
      | apply hq | apply Frame.ite | apply Frame.when | apply Frame.each | apply Frame.foldl | apply Frame.foldlFst
      | apply frame_take | exact hc.trans (by decide) | exact hc.bit (by decide) | split | apply Frame.set_mgmt

theorem frame_mgmtWrite {M : Nat} {base : State} (agent : Nat) (p : Nat) (o : Nat) (v : Nat) {s : State}
    (hc : Within 0x184000000017 M) (hk : Frame M base s) : Frame M base (State.mgmtWrite agent p o v s) := by
  unfold State.mgmtWrite
  with_reducible repeat' first
      | assumption | apply Frame.refl | intro _
      | (extract_lets +onlyGivenNames x; first
        | (apply Frame.have x; unfold x; clear x; rotate_left; intro hx; clear_value x; rotate_right)
        | (apply Frame.have1 x; unfold x; clear x; rotate_left; intro hx; clear_value x; rotate_right)
        | (apply Frame.have2 x; unfold x; clear x; rotate_left; intro hq; clear_value x; rotate_right)
        | (apply Frame.have3 x; unfold x; clear x; rotate_left; intro hq; clear_value x; rotate_right)
        | (apply Frame.have4 x; unfold x; clear x; rotate_left; intro hq; clear_value x; rotate_right)
        | clear_value x)
      | apply hq | apply Frame.ite | apply Frame.when | apply Frame.each | apply Frame.foldl | apply Frame.foldlFst
      | apply frame_hostWord | apply frame_logSelWrite | apply frame_mailboxGo | apply frame_mailboxStore
      | apply frame_mbxM2hAck | apply frame_raise | apply frame_selectLog | apply frame_updCommand
      | apply frame_updDataWrite | exact hc.trans (by decide) | split

theorem frame_portWrite {M : Nat} {base : State} (x : Sys2Proof.Outside) (p : Nat) (o : Nat) (v : Nat) {s : State}
    (hc : Within 0x128000000017 M) (hk : Frame M base s) : Frame M base (State.portWrite x p o v s) := by
  unfold State.portWrite
  with_reducible repeat' first
      | assumption | apply Frame.refl
      | apply Frame.ite | apply frame_alertClear | apply frame_hostWord | apply frame_twcCtlWrite
      | apply frame_twcRecover | apply frame_twcXferGo | apply frame_twtCtlWrite | apply frame_twtHostAlert
      | apply frame_usbCtlWrite | exact hc.trans (by decide) | split

theorem frame_blockWrite {M : Nat} {base : State} (x : Sys2Proof.Outside) (agent : Nat) (p : Nat) (o : Nat)
    (v : Nat) {s : State} (hc : Within 0x1bffffffffff M) (hk : Frame M base s) :
    Frame M base (State.blockWrite x agent p o v s) := by
  unfold State.blockWrite
  with_reducible repeat' first
      | assumption | apply Frame.refl
      | apply Frame.ite | apply frame_auxiliaryWrite | apply frame_axisWrite | apply frame_berylWrite
      | apply frame_castWrite | apply frame_commitMulti | apply frame_converterWrite | apply frame_deviceWrite
      | apply frame_dmaCmdWrite | apply frame_faultWrite | apply frame_grantPageWrite | apply frame_hostWord
      | apply frame_icWrite | apply frame_ikClear | apply frame_ikCtlWrite | apply frame_leaseCmdWrite
      | apply frame_mgmtWrite | apply frame_motServoWrite | apply frame_opalWrite | apply frame_pawnDataHiWrite
      | apply frame_pfeWrite | apply frame_portWrite | apply frame_regReacq | apply frame_tenReset
      | apply frame_tenantWrite | apply frame_timeWrite | exact hc.trans (by decide) | split

theorem frame_headerWrite {M : Nat} {base : State} (agent : Nat) (p : Nat) (o : Nat) (v : Nat) {s : State}
    (hc : Within 0x182283157117 M) (hk : Frame M base s) : Frame M base (State.headerWrite agent p o v s) := by
  unfold State.headerWrite
  with_reducible repeat' first
      | assumption | apply Frame.refl
      | (extract_lets +onlyGivenNames x; first
        | (apply Frame.have x; unfold x; clear x; rotate_left; intro hx; clear_value x; rotate_right)
        | clear_value x)
      | apply Frame.ite | apply frame_commitRequest | apply frame_pageDiscard | apply frame_pageEventClear
      | apply frame_pageSource | apply frame_wr | exact hc.trans (by decide) | split

theorem frame_hostWrite {M : Nat} {base : State} {s : State} (x : Sys2Proof.Outside) (agent : Nat) (p : Nat)
    (o : Nat) (v : Nat) (mask : Nat) (hc : Within 0x1bffffffffff M) (hk : Frame M base s) :
    Frame M base (State.hostWrite s x agent p o v mask) := by
  unfold State.hostWrite
  with_reducible repeat' first
      | assumption | apply Frame.refl | intro _
      | (extract_lets +onlyGivenNames x; first
        | (apply Frame.have x; unfold x; clear x; rotate_left; intro hx; clear_value x; rotate_right)
        | (apply Frame.have1 x; unfold x; clear x; rotate_left; intro hx; clear_value x; rotate_right)
        | (apply Frame.have2 x; unfold x; clear x; rotate_left; intro hq; clear_value x; rotate_right)
        | (apply Frame.have3 x; unfold x; clear x; rotate_left; intro hq; clear_value x; rotate_right)
        | (apply Frame.have4 x; unfold x; clear x; rotate_left; intro hq; clear_value x; rotate_right)
        | clear_value x)
      | apply hq | apply Frame.ite | apply Frame.when | apply Frame.each | apply Frame.foldl | apply Frame.foldlFst
      | apply frame_blockWrite | apply frame_headerWrite | apply frame_log | exact hc.trans (by decide) | split

theorem frame_writeAccess {M : Nat} {base : State} {s : State} (x : Sys2Proof.Outside) (agent : Nat) (p : Nat)
    (o : Nat) (width : Nat) (v : Nat) (hc : Within 0x1bffffffffff M) (hk : Frame M base s) :
    Frame M base (State.writeAccess s x agent p o width v) := by
  unfold State.writeAccess
  with_reducible repeat' first
      | assumption | apply Frame.refl
      | (extract_lets +onlyGivenNames x; first
        | (apply Frame.have x; unfold x; clear x; rotate_left; intro hx; clear_value x; rotate_right)
        | clear_value x)
      | apply Frame.ite | apply frame_discardAccess | apply frame_hostWrite | exact hc.trans (by decide) | split

theorem frame_through {M : Nat} {base : State} {s : State} (f : State → State) (hf : ∀ s, Frame M s (f s))
    (hc : Within 0x100000000000 M) (hk : Frame M base s) : Frame M base ((State.through s f).1) := by
  unfold State.through
  with_reducible repeat' first
      | assumption | apply Frame.refl
      | (extract_lets +onlyGivenNames x; first
        | (apply Frame.have x; unfold x; clear x; rotate_left; intro hx; clear_value x; rotate_right)
        | clear_value x)
      | refine Frame.trans ?_ (hf ..) | exact hc.trans (by decide) | exact hc.bit (by decide) | split
      | apply Frame.set_out

/-- Every read with a side effect that `r` may be has the frame of `m`. -/
def Quiet (m : Nat) (r : Option (State → State)) : Prop := ∀ f, r = some f → ∀ s, Frame m s (f s)

theorem Quiet.ite {m : Nat} {c : Prop} [Decidable c] {a b : Option (State → State)} (ha : Quiet m a) (hb : Quiet m b) :
    Quiet m (if c then a else b) := by
  split
  · exact ha
  · exact hb

theorem Quiet.some {m : Nat} {f : State → State} (h : ∀ s, Frame m s (f s)) : Quiet m (.some f) := fun g e s => by
  cases e
  exact h s

theorem Quiet.none {m : Nat} : Quiet m .none := fun _ e => by cases e

theorem quiet_readCommand {m : Nat} (hc : Within 0x10407c10011f m) (x : Outside) (agent p o : Nat) :
    Quiet m (readCommand x agent p o) := by
  unfold readCommand
  extract_lets
  repeat' with_reducible apply Quiet.ite
  all_goals first
    | exact Quiet.none
    | (apply Quiet.some; intro s; first
      | with_reducible exact frame_timeLoRead (hc := hc.trans (by decide)) (hk := Frame.refl _) ..
      | with_reducible exact frame_thinFromLoRead (hc := hc.trans (by decide)) (hk := Frame.refl _) ..
      | with_reducible exact frame_ltLineLoRead (hc := hc.trans (by decide)) (hk := Frame.refl _) ..
      | with_reducible exact frame_ltPosFracRead (hc := hc.trans (by decide)) (hk := Frame.refl _) ..
      | with_reducible exact frame_groupLineLoRead (hc := hc.trans (by decide)) (hk := Frame.refl _) ..
      | with_reducible exact frame_pawnDataLoRead (hc := hc.trans (by decide)) (hk := Frame.refl _) ..
      | with_reducible exact frame_pawnDataHiRead (hc := hc.trans (by decide)) (hk := Frame.refl _) ..
      | with_reducible exact frame_castSwapLineLoRead (hc := hc.trans (by decide)) (hk := Frame.refl _) ..
      | with_reducible exact frame_windowAccess (hc := hc.trans (by decide)) (hk := Frame.refl _) ..
      | with_reducible exact frame_refPairRead (hc := hc.trans (by decide)) (hk := Frame.refl _) ..
      | with_reducible exact frame_regPairRead (hc := hc.trans (by decide)) (hk := Frame.refl _) ..
      | with_reducible exact frame_bvcDataRead (hc := hc.trans (by decide)) (hk := Frame.refl _) ..
      | with_reducible exact frame_resValueRead (hc := hc.trans (by decide)) (hk := Frame.refl _) ..
      | with_reducible exact frame_motPairRead (hc := hc.trans (by decide)) (hk := Frame.refl _) ..
      | with_reducible exact frame_qstatARead (hc := hc.trans (by decide)) (hk := Frame.refl _) ..
      | with_reducible exact frame_dmaPairRead (hc := hc.trans (by decide)) (hk := Frame.refl _) ..
      | with_reducible exact frame_icClaimRead (hc := hc.trans (by decide)) (hk := Frame.refl _) ..
      | with_reducible exact frame_mbxFenceRead (hc := hc.trans (by decide)) (hk := Frame.refl _) ..
      | with_reducible exact frame_logDataRead (hc := hc.trans (by decide)) (hk := Frame.refl _) ..
      | with_reducible exact frame_ikCommitLineLoRead (hc := hc.trans (by decide)) (hk := Frame.refl _) ..
    )

theorem frame_readCommand {m : Nat} {x : Outside} {agent p o : Nat} {f : State → State} (hc : Within 0x10407c10011f m)
    (e : readCommand x agent p o = some f) (s : State) : Frame m s (f s) := quiet_readCommand hc x agent p o f e s

theorem frame_hostRead {M : Nat} {base : State} {s : State} (x : Sys2Proof.Outside) (agent : Nat) (p : Nat)
    (o : Nat) (hc : Within 0x18407c10011f M) (hk : Frame M base s) :
    Frame M base ((State.hostRead s x agent p o).1) := by
  unfold State.hostRead
  with_reducible repeat' first
      | assumption | apply Frame.refl | intro _
      | (extract_lets +onlyGivenNames x; first
        | (apply Frame.have x; unfold x; clear x; rotate_left; intro hx; clear_value x; rotate_right)
        | (apply Frame.have1 x; unfold x; clear x; rotate_left; intro hx; clear_value x; rotate_right)
        | (apply Frame.have2 x; unfold x; clear x; rotate_left; intro hq; clear_value x; rotate_right)
        | (apply Frame.have3 x; unfold x; clear x; rotate_left; intro hq; clear_value x; rotate_right)
        | (apply Frame.have4 x; unfold x; clear x; rotate_left; intro hq; clear_value x; rotate_right)
        | clear_value x)
      | apply hq | apply Frame.ite | apply Frame.when | apply Frame.each | apply Frame.foldl | apply Frame.foldlFst
      | apply frame_log | apply frame_take | apply frame_through
      | exact frame_readCommand (hc.trans (by decide)) (by assumption) _ | exact hc.trans (by decide) | split

theorem frame_readRegister {M : Nat} {base : State} {s : State} (x : Sys2Proof.Outside) (agent : Nat) (p : Nat)
    (o : Nat) (width : Nat) (hc : Within 0x18407c10011f M) (hk : Frame M base s) :
    Frame M base (State.readRegister s x agent p o width) := by
  unfold State.readRegister
  with_reducible repeat' first
      | assumption | apply Frame.refl | intro _
      | (extract_lets +onlyGivenNames x; first
        | (apply Frame.have x; unfold x; clear x; rotate_left; intro hx; clear_value x; rotate_right)
        | (apply Frame.have1 x; unfold x; clear x; rotate_left; intro hx; clear_value x; rotate_right)
        | (apply Frame.have2 x; unfold x; clear x; rotate_left; intro hq; clear_value x; rotate_right)
        | (apply Frame.have3 x; unfold x; clear x; rotate_left; intro hq; clear_value x; rotate_right)
        | (apply Frame.have4 x; unfold x; clear x; rotate_left; intro hq; clear_value x; rotate_right)
        | clear_value x)
      | apply hq | apply Frame.ite | apply Frame.when | apply Frame.each | apply Frame.foldl | apply Frame.foldlFst
      | apply frame_discardAccess | apply frame_emit | apply frame_hostRead | exact hc.trans (by decide) | split

theorem frame_registerAccess {M : Nat} {base : State} (agent : Nat) (p : Nat) (o : Nat) (width : Nat)
    (v : Option Nat) (x : Sys2Proof.Outside) {s : State} (hc : Within 0x1bffffffffff M) (hk : Frame M base s) :
    Frame M base (registerAccess agent p o width v x s) := by
  unfold registerAccess
  with_reducible repeat' first
      | assumption | apply Frame.refl
      | apply frame_readRegister | apply frame_writeAccess | exact hc.trans (by decide) | split

theorem frame_regWriteTake {M : Nat} {base : State} {s : State} (x : Sys2Proof.Outside) (q : Nat) (w : List Nat)
    (hc : Within 0x1bffffffffff M) (hk : Frame M base s) : Frame M base (State.regWriteTake s x q w) := by
  unfold State.regWriteTake
  with_reducible repeat' first
      | assumption | apply Frame.refl | intro _
      | (extract_lets +onlyGivenNames x; first
        | (apply Frame.have x; unfold x; clear x; rotate_left; intro hx; clear_value x; rotate_right)
        | clear_value x)
      | apply Frame.ite | apply frame_finishHead | apply frame_hostWrite | exact hc.trans (by decide) | split

theorem frame_regWrite {M : Nat} {base : State} (q : Nat) (x : Sys2Proof.Outside) {s : State}
    (hc : Within 0x1bffffffffff M) (hk : Frame M base s) : Frame M base (regWrite q x s) := by
  unfold regWrite
  with_reducible repeat' first
      | assumption | apply Frame.refl
      | apply Frame.ite | apply frame_regWriteTake | exact hc.trans (by decide) | split

theorem frame_usbRegRead {M : Nat} {base : State} (p : Nat) (o : Nat) (wLength : Nat) (x : Sys2Proof.Outside)
    {s : State} (hc : Within 0x18407c10011f M) (hk : Frame M base s) : Frame M base (usbRegRead p o wLength x s) := by
  unfold usbRegRead
  with_reducible repeat' first
      | assumption | apply Frame.refl | intro _
      | (extract_lets +onlyGivenNames x; first
        | (apply Frame.have x; unfold x; clear x; rotate_left; intro hx; clear_value x; rotate_right)
        | (apply Frame.have1 x; unfold x; clear x; rotate_left; intro hx; clear_value x; rotate_right)
        | (apply Frame.have2 x; unfold x; clear x; rotate_left; intro hq; clear_value x; rotate_right)
        | (apply Frame.have3 x; unfold x; clear x; rotate_left; intro hq; clear_value x; rotate_right)
        | (apply Frame.have4 x; unfold x; clear x; rotate_left; intro hq; clear_value x; rotate_right)
        | clear_value x)
      | apply hq | apply Frame.ite | apply Frame.when | apply Frame.each | apply Frame.foldl | apply Frame.foldlFst
      | apply frame_hostRead | apply frame_log | apply frame_usbData | apply frame_vendor | exact hc.trans (by decide)
      | split

theorem frame_usbRegWrite {M : Nat} {base : State} (p : Nat) (o : Nat) (wLength : Nat) (v : Nat)
    (x : Sys2Proof.Outside) {s : State} (hc : Within 0x1bffffffffff M) (hk : Frame M base s) :
    Frame M base (usbRegWrite p o wLength v x s) := by
  unfold usbRegWrite
  with_reducible repeat' first
      | assumption | apply Frame.refl | intro _
      | apply Frame.ite | apply frame_hostWrite | apply frame_vendor | exact hc.trans (by decide) | split

/-! ## DmaFlow -/

theorem frame_spend {M : Nat} {base : State} {s : State} (t : Nat) (n : Nat) (rs : List Nat)
    (hc : Within 0x20000000 M) (hk : Frame M base s) : Frame M base (State.spend s t n rs) := by
  unfold State.spend
  with_reducible repeat' first
      | assumption | apply Frame.refl | intro _
      | (extract_lets +onlyGivenNames x; first
        | (apply Frame.have x; unfold x; clear x; rotate_left; intro hx; clear_value x; rotate_right)
        | clear_value x)
      | apply Frame.each | exact hc.trans (by decide) | exact hc.bit (by decide) | apply Frame.set_dma

theorem frame_windowWrite {M : Nat} {base : State} {s : State} (x : Sys2Proof.Outside) (t : Nat) (address : Nat)
    (b : List Nat) (hc : Within 0x1bffffffffff M) (hk : Frame M base s) :
    Frame M base (State.windowWrite s x t address b) := by
  unfold State.windowWrite
  with_reducible repeat' first
      | assumption | apply Frame.refl | intro _
      | apply Frame.each | apply frame_hostWrite | exact hc.trans (by decide)

theorem frame_windowRead {M : Nat} {base : State} {s : State} (x : Sys2Proof.Outside) (t : Nat) (address : Nat)
    (n : Nat) (hc : Within 0x18407c10011f M) (hk : Frame M base s) :
    Frame M base ((State.windowRead s x t address n).1) := by
  unfold State.windowRead
  with_reducible repeat' first
      | assumption | apply Frame.refl | intro _
      | (extract_lets +onlyGivenNames x; first
        | (apply Frame.have x; unfold x; clear x; rotate_left; intro hx; clear_value x; rotate_right)
        | (apply Frame.have1 x; unfold x; clear x; rotate_left; intro hx; clear_value x; rotate_right)
        | (apply Frame.have2 x; unfold x; clear x; rotate_left; intro hq; clear_value x; rotate_right)
        | (apply Frame.have3 x; unfold x; clear x; rotate_left; intro hq; clear_value x; rotate_right)
        | (apply Frame.have4 x; unfold x; clear x; rotate_left; intro hq; clear_value x; rotate_right)
        | clear_value x)
      | apply hq | apply Frame.ite | apply Frame.when | apply Frame.each | apply Frame.foldl | apply Frame.foldlFst
      | apply frame_hostRead | exact hc.trans (by decide) | split

theorem frame_writeBytes {M : Nat} {base : State} {s : State} (o : Sys2Proof.Outside) (c : Nat) (x : Xfer)
    (b : List Nat) (hc : Within 0x1bffffffffff M) (hk : Frame M base s) :
    Frame M base (State.writeBytes s o c x b) := by
  unfold State.writeBytes
  with_reducible repeat' first
      | assumption | apply Frame.refl | intro _
      | (extract_lets +onlyGivenNames x; first
        | (apply Frame.have x; unfold x; clear x; rotate_left; intro hx; clear_value x; rotate_right)
        | clear_value x)
      | apply Frame.ite | apply Frame.when | apply frame_emit | apply frame_hostWrite | apply frame_inc
      | apply frame_onXfer | apply frame_windowWrite | exact hc.trans (by decide) | split

theorem frame_drainBursts {M : Nat} {base : State} (o : Sys2Proof.Outside) (p1 : Nat) {p2 : State} (p3 : Nat)
    (hc : Within 0x1bffffffffff M) (hk : Frame M base p2) : Frame M base (State.drainBursts o p1 p2 p3) := by
  induction p1 generalizing p2 p3 with
  | zero => exact hk
  | succ _ ih =>
    unfold State.drainBursts
    with_reducible repeat' first
        | assumption | apply Frame.refl | intro _
        | apply frame_onXfer | apply frame_writeBytes | apply ih | exact hc.trans (by decide) | split

theorem frame_afterWrites {M : Nat} {base : State} {s : State} (c : Nat) (hc : Within 0x104030000013 M)
    (hk : Frame M base s) : Frame M base (State.afterWrites s c) := by
  unfold State.afterWrites
  with_reducible repeat' first
      | assumption | apply Frame.refl | intro _
      | apply Frame.ite | apply frame_onXfer | apply frame_readTrailing | apply frame_stopIfDrained
      | exact hc.trans (by decide) | split

theorem frame_burstData {M : Nat} {base : State} {s : State} (o : Sys2Proof.Outside) (c : Nat) (b : Nat)
    (d : List Nat) (hc : Within 0x1bffffffffff M) (hk : Frame M base s) :
    Frame M base (State.burstData s o c b d) := by
  unfold State.burstData
  with_reducible repeat' first
      | assumption | apply Frame.refl | intro _
      | apply frame_afterWrites | apply frame_drainBursts | apply frame_onXfer | exact hc.trans (by decide) | split

theorem frame_startBurst {M : Nat} {base : State} {s : State} (o : Sys2Proof.Outside) (c : Nat) (x : Xfer)
    (u : Burst) (hc : Within 0x1bffffffffff M) (hk : Frame M base s) : Frame M base (State.startBurst s o c x u) := by
  unfold State.startBurst
  with_reducible repeat' first
      | assumption | apply Frame.refl | intro _
      | (extract_lets +onlyGivenNames x; first
        | (apply Frame.have x; unfold x; clear x; rotate_left; intro hx; clear_value x; rotate_right)
        | (apply Frame.have1 x; unfold x; clear x; rotate_left; intro hx; clear_value x; rotate_right)
        | (apply Frame.have2 x; unfold x; clear x; rotate_left; intro hq; clear_value x; rotate_right)
        | (apply Frame.have3 x; unfold x; clear x; rotate_left; intro hq; clear_value x; rotate_right)
        | (apply Frame.have4 x; unfold x; clear x; rotate_left; intro hq; clear_value x; rotate_right)
        | clear_value x)
      | apply hq | apply Frame.ite | apply Frame.when | apply Frame.each | apply Frame.foldl | apply Frame.foldlFst
      | apply frame_burstData | apply frame_readBurst | apply frame_windowRead | exact hc.trans (by decide) | split

theorem frame_dmaBurstGrant {M : Nat} {base : State} (o : Sys2Proof.Outside) {s : State}
    (hc : Within 0x1bffffffffff M) (hk : Frame M base s) : Frame M base (dmaBurstGrant o s) := by
  unfold dmaBurstGrant
  with_reducible repeat' first
      | assumption | apply Frame.refl | intro _
      | (extract_lets +onlyGivenNames x; first
        | (apply Frame.have x; unfold x; clear x; rotate_left; intro hx; clear_value x; rotate_right)
        | clear_value x)
      | apply Frame.when | apply frame_onXfer | apply frame_spend | apply frame_startBurst | apply frame_wr
      | exact hc.trans (by decide) | exact hc.bit (by decide) | split | apply Frame.set_dma

theorem frame_dmaReadCompletion {M : Nat} {base : State} (c : Nat) (b : Nat) (d : List Nat)
    (o : Sys2Proof.Outside) {s : State} (hc : Within 0x1bffffffffff M) (hk : Frame M base s) :
    Frame M base (dmaReadCompletion c b d o s) := by
  unfold dmaReadCompletion
  with_reducible repeat' first
      | assumption | apply Frame.refl | intro _
      | apply Frame.ite | apply Frame.when | apply frame_burstData | apply frame_onXfer | apply frame_stopIfDrained
      | exact hc.trans (by decide) | split

/-! ## Idle -/

theorem frame_tick {M : Nat} {base : State} {s : State} (hc : Within 0x20 M) (hk : Frame M base s) :
    Frame M base (State.tick s) := by
  refine ⟨fun p hp => ?_, fun w => ⟨(hk.2 w).1, ?_, ?_⟩⟩
  · cases p
    all_goals first
      | exact hk.1 _ hp
      | exact Bool.noConfusion ((hc.bit (i := 5) (by decide)).symm.trans hp)
  · exact Nat.mod_lt _ (by decide)
  · unfold State.tick
    dsimp only
    omega

theorem frame_idle {M : Nat} {base : State} {s : State} (hc : Within 0x144000011127 M) (hk : Frame M base s) :
    Frame M base (State.idle s) := by
  unfold State.idle
  refine Frame.powered (Frame.set_onyx (hc.bit (by decide)) hk) fun s => ?_
  refine Frame.each ?_ fun s g => frame_keepUp (hc := hc.trans (by decide)) (hk := Frame.refl s) ..
  exact frame_settleStores (hc := hc.trans (by decide)) (hk := frame_tick (hc := hc.trans (by decide)) (hk
    := Frame.refl s)) ..

end Sys2Proof.Machine
end

