-- ==== Sys2Proof/Laws/PerInstr.lean ====
section
/-!
SUPPORT. A law of every command as syntax: no word spells it, for the table gives its rows no bits (assumption log 1).
-/

namespace Sys2Proof.Laws.NoWord

/-- No word of any length spells the command. -/
def Statement (i : Instr) : Prop := ∀ nbits w, decodeTableWord nbits w ≠ some i

/-- The decoder answers none. -/
theorem of_none (i : Instr) : Statement i := fun _ _ => by simp [decodeTableWord]

theorem registerWrite (agent : Agent) (p : Fin 8192) (o : Fin 4096) (width : Nat) (v : Option (BitVec 64)) (x : Outside) : Statement (.registerWrite agent p o width v x) := of_none _
theorem pageEventClear (p : Fin 8192) (v : Word) : Statement (.pageEventClear p v) := of_none _
theorem pageDiscard (p : Fin 8192) (v : Word) : Statement (.pageDiscard p v) := of_none _
theorem devModeWrite (agent : Agent) (v : Word) : Statement (.devModeWrite agent v) := of_none _
theorem paceWindowEnd (tokens : List Nat) : Statement (.paceWindowEnd tokens) := of_none _
theorem avsEvaluation : Statement (.avsEvaluation) := of_none _
theorem avsReadback (error : Bool) (mv : Fin 1024) : Statement (.avsReadback error mv) := of_none _
theorem avsCtlWrite (v : Word) : Statement (.avsCtlWrite v) := of_none _
theorem timeLoRead (agent : Agent) (sub : Fin 4) (width : Nat) : Statement (.timeLoRead agent sub width) := of_none _
theorem tbStep (agent : Agent) (hi : Word) : Statement (.tbStep agent hi) := of_none _
theorem refclkLoss : Statement (.refclkLoss) := of_none _
theorem synthRelock : Statement (.synthRelock) := of_none _
theorem converterWord (c : Fin 97) (red green blue : Sample) : Statement (.converterWord c red green blue) := of_none _
theorem lineTrigger : Statement (.lineTrigger) := of_none _
theorem triggerPrediction : Statement (.triggerPrediction) := of_none _
theorem encoderCount (n : Fin 4) (a b : PinLevel) : Statement (.encoderCount n a b) := of_none _
theorem encoderIndex (z : IndexPulse) : Statement (.encoderIndex z) := of_none _
theorem ltLineLoRead (agent : Agent) (sub : Fin 4) (width : Nat) : Statement (.ltLineLoRead agent sub width) := of_none _
theorem ltPosFracRead (agent : Agent) (sub : Fin 4) (width : Nat) : Statement (.ltPosFracRead agent sub width) := of_none _
theorem lineStart : Statement (.lineStart) := of_none _
theorem minLinePeriodEnd (g : Fin 12) : Statement (.minLinePeriodEnd g) := of_none _
theorem flushLine (g : Fin 12) : Statement (.flushLine g) := of_none _
theorem ledStrobe (g : Fin 12) (n : Fin 2) : Statement (.ledStrobe g n) := of_none _
theorem pawnOut (g : Fin 12) : Statement (.pawnOut g) := of_none _
theorem pawnNop (g : Fin 12) : Statement (.pawnNop g) := of_none _
theorem pawnLdc (g : Fin 12) : Statement (.pawnLdc g) := of_none _
theorem pawnDjnz (g : Fin 12) : Statement (.pawnDjnz g) := of_none _
theorem pawnJmp (g : Fin 12) : Statement (.pawnJmp g) := of_none _
theorem pawnJc (g : Fin 12) : Statement (.pawnJc g) := of_none _
theorem pawnStw (g : Fin 12) : Statement (.pawnStw g) := of_none _
theorem pawnEnd (g : Fin 12) : Statement (.pawnEnd g) := of_none _
theorem pawnLineTimeout (g : Fin 12) : Statement (.pawnLineTimeout g) := of_none _
theorem pawnDataHiWrite (g : Fin 12) (v : Word) : Statement (.pawnDataHiWrite g v) := of_none _
theorem pawnDataLoRead (agent : Agent) (g : Fin 12) (sub : Fin 4) (width : Nat) : Statement (.pawnDataLoRead agent g sub width) := of_none _
theorem pawnDataHiRead (agent : Agent) (g : Fin 12) (sub : Fin 4) (width : Nat) : Statement (.pawnDataHiRead agent g sub width) := of_none _
theorem diagEntryDone (c : Fin 97) (xs : List Int) : Statement (.diagEntryDone c xs) := of_none _
theorem plausCheck : Statement (.plausCheck) := of_none _
theorem forceRequest (c : Fin 97) (v : Word) : Statement (.forceRequest c v) := of_none _
theorem forceDone (c : Fin 97) (v ref : Int) : Statement (.forceDone c v ref) := of_none _
theorem bankCalStart (v : Word) : Statement (.bankCalStart v) := of_none _
theorem bankCalDone (results : List (List Nat × List Int × List Nat × Int)) : Statement (.bankCalDone results) := of_none _
theorem castReqGo (v : Word) : Statement (.castReqGo v) := of_none _
theorem castReqRelease (v : Word) : Statement (.castReqRelease v) := of_none _
theorem castIntervalDue (c : Fin 96) : Statement (.castIntervalDue c) := of_none _
theorem castSelect : Statement (.castSelect) := of_none _
theorem castMatchWindowEnd : Statement (.castMatchWindowEnd) := of_none _
theorem castOfflineCalEnd (errors : List (List Nat)) (gains : List Nat) : Statement (.castOfflineCalEnd errors gains) := of_none _
theorem trimSlotWrite (c : Fin 97) (j : Fin 4) (w : Fin 8) (v : Word) : Statement (.trimSlotWrite c j w v) := of_none _
theorem castSwapLineLoRead (agent : Agent) (sub : Fin 4) (width : Nat) : Statement (.castSwapLineLoRead agent sub width) := of_none _
theorem laneOutputLine (k : Fin 12) : Statement (.laneOutputLine k) := of_none _
theorem opalCapGo (v : Word) : Statement (.opalCapGo v) := of_none _
theorem opalCapEnd : Statement (.opalCapEnd) := of_none _
theorem xferWindowAccess (agent : Agent) (port : Option (Fin 4)) (w : Fin 512) (sub : Fin 4) (width : Nat) (value : Option (BitVec 64)) : Statement (.xferWindowAccess agent port w sub width value) := of_none _
theorem xferWriteStored : Statement (.xferWriteStored) := of_none _
theorem pwWindowEnd : Statement (.pwWindowEnd) := of_none _
theorem pwReset (v : Word) : Statement (.pwReset v) := of_none _
theorem refLines (q : Fin 262144) : Statement (.refLines q) := of_none _
theorem refEarlyFetch (q : Fin 262144) : Statement (.refEarlyFetch q) := of_none _
theorem refArrival (c : Fin 64) : Statement (.refArrival c) := of_none _
theorem refPairRead (agent : Agent) (n : Fin 4) (sub : Fin 4) (width : Nat) : Statement (.refPairRead agent n sub width) := of_none _
theorem regTileDecide (c : Fin 1024) : Statement (.regTileDecide c) := of_none _
theorem rowDone : Statement (.rowDone) := of_none _
theorem regReacq (v : Word) : Statement (.regReacq v) := of_none _
theorem regPairRead (agent : Agent) (track : Bool) (sub : Fin 4) (width : Nat) : Statement (.regPairRead agent track sub width) := of_none _
theorem labelLineDone : Statement (.labelLineDone) := of_none _
theorem blobRecordStage : Statement (.blobRecordStage) := of_none _
theorem verdict : Statement (.verdict) := of_none _
theorem coverageRecordStage : Statement (.coverageRecordStage) := of_none _
theorem covBacklogResume : Statement (.covBacklogResume) := of_none _
theorem recordDelivery (q : Fin 262144) : Statement (.recordDelivery q) := of_none _
theorem patchMeasured (n : Fin 64) : Statement (.patchMeasured n) := of_none _
theorem markMeasured (n : Fin 32) : Statement (.markMeasured n) := of_none _
theorem previewRecord : Statement (.previewRecord) := of_none _
theorem cropTokenRefill : Statement (.cropTokenRefill) := of_none _
theorem cropComplete (n : Fin 6) : Statement (.cropComplete n) := of_none _
theorem berylFsync (p : Fin 4) : Statement (.berylFsync p) := of_none _
theorem berylLsync (p : Fin 4) (a b : List (Fin 16384 × Bool)) (full : Bool) : Statement (.berylLsync p a b full) := of_none _
theorem berylFrameEnd (p : Fin 4) : Statement (.berylFrameEnd p) := of_none _
theorem berylSyncTimeout (p : Fin 4) : Statement (.berylSyncTimeout p) := of_none _
theorem berylMoveTimeout (p : Fin 4) : Statement (.berylMoveTimeout p) := of_none _
theorem berylRecalCmd (p : Fin 4) (v : Word) : Statement (.berylRecalCmd p v) := of_none _
theorem berylRecalInterval (p : Fin 4) : Statement (.berylRecalInterval p) := of_none _
theorem berylAccTake : Statement (.berylAccTake) := of_none _
theorem berylReopen (p : Fin 4) (v : Word) : Statement (.berylReopen p v) := of_none _
theorem berylSnap (p : Fin 4) (v : Word) : Statement (.berylSnap p v) := of_none _
theorem berylSpiGo (p : Fin 4) (v : Word) : Statement (.berylSpiGo p v) := of_none _
theorem spiDone (p : Fin 4) (rx : Word) : Statement (.spiDone p rx) := of_none _
theorem bvcDataRead (agent : Agent) (n : Fin 8) (sub : Fin 4) (width : Nat) : Statement (.bvcDataRead agent n sub width) := of_none _
theorem bvcFreeConvert (n : Fin 8) (code : Fin 16384) (clip : Bool) : Statement (.bvcFreeConvert n code clip) := of_none _
theorem pfeScanTimer : Statement (.pfeScanTimer) := of_none _
theorem pfeGo (v : Word) : Statement (.pfeGo v) := of_none _
theorem pfeStepEnd (va vb : Int) : Statement (.pfeStepEnd va vb) := of_none _
theorem pfeScanEnd : Statement (.pfeScanEnd) := of_none _
theorem aoUpdate (n : Fin 8) : Statement (.aoUpdate n) := of_none _
theorem aoRefLow (n : Fin 8) : Statement (.aoRefLow n) := of_none _
theorem resValueRead (agent : Agent) (n : Fin 16) (sub : Fin 4) (width : Nat) : Statement (.resValueRead agent n sub width) := of_none _
theorem servoBoundary : Statement (.servoBoundary) := of_none _
theorem pwmPeriod (a : Fin 8) (codes : List (Fin 16384 × Bool)) : Statement (.pwmPeriod a codes) := of_none _
theorem auxIdleScan (n : Fin 8) (codes : List (Fin 16384 × Bool)) : Statement (.auxIdleScan n codes) := of_none _
theorem motStandby (a : Fin 8) : Statement (.motStandby a) := of_none _
theorem motTargetHiWrite (a : Fin 8) (v : Word) : Statement (.motTargetHiWrite a v) := of_none _
theorem motCtlWrite (a : Fin 8) (v : Word) : Statement (.motCtlWrite a v) := of_none _
theorem motStop (a : Fin 8) : Statement (.motStop a) := of_none _
theorem motResume (a : Fin 8) : Statement (.motResume a) := of_none _
theorem motHome (a : Fin 8) : Statement (.motHome a) := of_none _
theorem motClear (agent : Agent) (a : Fin 8) : Statement (.motClear agent a) := of_none _
theorem motZero (a : Fin 8) : Statement (.motZero a) := of_none _
theorem motAbort (a : Fin 8) : Statement (.motAbort a) := of_none _
theorem motHomeSwitch (a : Fin 8) (high : Bool) : Statement (.motHomeSwitch a high) := of_none _
theorem motBridgeFault (a : Fin 8) (high : Bool) : Statement (.motBridgeFault a high) := of_none _
theorem motServoWrite (v : Word) : Statement (.motServoWrite v) := of_none _
theorem motPairRead (agent : Agent) (a : Fin 8) (remaining : Bool) (sub : Fin 4) (width : Nat) : Statement (.motPairRead agent a remaining sub width) := of_none _
theorem functionLevelReset (f : Tenant) : Statement (.functionLevelReset f) := of_none _
theorem d3hotEntry (f : Tenant) : Statement (.d3hotEntry f) := of_none _
theorem vfEnableChange (n : Fin 16) (enable : Bool) : Statement (.vfEnableChange n enable) := of_none _
theorem tenReset (mask : BitVec 16) : Statement (.tenReset mask) := of_none _
theorem hello (t : Tenant) : Statement (.hello t) := of_none _
theorem fwInfo (t : Tenant) : Statement (.fwInfo t) := of_none _
theorem logMark (t : Tenant) : Statement (.logMark t) := of_none _
theorem leaseGrant (r : Fin 128) (t : Tenant) (ms : BitVec 16) : Statement (.leaseGrant r t ms) := of_none _
theorem leaseRevoke (r : Fin 128) : Statement (.leaseRevoke r) := of_none _
theorem leaseExpiry (r : Fin 88) : Statement (.leaseExpiry r) := of_none _
theorem leaseRenew (t : Tenant) : Statement (.leaseRenew t) := of_none _
theorem queueEnable (t : Tenant) (q : Fin 16384) (ctx : Option (List Nat)) (cqType : Fin 8) : Statement (.queueEnable t q ctx cqType) := of_none _
theorem queueDisable (t : Tenant) (q : Fin 16384) (ctx : Option (List Nat)) : Statement (.queueDisable t q ctx) := of_none _
theorem queuePause (t : Tenant) (q : Fin 16384) (ctx : Option (List Nat)) : Statement (.queuePause t q ctx) := of_none _
theorem queueResume (t : Tenant) (q : Fin 16384) (ctx : Option (List Nat)) : Statement (.queueResume t q ctx) := of_none _
theorem queueReset (t : Tenant) (q : Fin 16384) (ctx : Option (List Nat)) : Statement (.queueReset t q ctx) := of_none _
theorem queueSync (t : Tenant) (q : Fin 16384) (ctx : Option (List Nat)) : Statement (.queueSync t q ctx) := of_none _
theorem doorbell (t : Tenant) (o : Fin 131072) (width : Nat) (v : Option (BitVec 64)) : Statement (.doorbell t o width v) := of_none _
theorem descriptorFetch (q : Fin 262144) (words : Option (List Nat)) : Statement (.descriptorFetch q words) := of_none _
theorem dmaXfer (q : Fin 262144) : Statement (.dmaXfer q) := of_none _
theorem regWrite (q : Fin 262144) (x : Outside) : Statement (.regWrite q x) := of_none _
theorem indexWriteback (q : Fin 262144) (error : Bool) : Statement (.indexWriteback q error) := of_none _
theorem contextLoad (q : Fin 262144) (ctx : Option (List Nat)) (cqType : Fin 8) : Statement (.contextLoad q ctx cqType) := of_none _
theorem tenCtxBaseWrite (t : Tenant) (high : Bool) (v : Word) : Statement (.tenCtxBaseWrite t high v) := of_none _
theorem qstatARead (agent : Agent) (t : Tenant) (sub : Fin 4) (width : Nat) (ctx : Option (List Nat)) : Statement (.qstatARead agent t sub width ctx) := of_none _
theorem linkChange (speed : Fin 8) (width : Fin 32) (up : Bool) : Statement (.linkChange speed width up) := of_none _
theorem linkDown (hotReset : Bool) : Statement (.linkDown hotReset) := of_none _
theorem poisonedRequest (t : Tenant) : Statement (.poisonedRequest t) := of_none _
theorem leaseRevokeOnFault (t : Tenant) : Statement (.leaseRevokeOnFault t) := of_none _
theorem dmaBurstGrant (o : Outside) : Statement (.dmaBurstGrant o) := of_none _
theorem dmaReadCompletion (c : Fin 64) (b : Fin 8) (d : List Byte) (o : Outside) : Statement (.dmaReadCompletion c b d o) := of_none _
theorem dmaBusError (c : Fin 64) (b : Fin 8) : Statement (.dmaBusError c b) := of_none _
theorem dmaRetry (c : Fin 64) (b : Fin 8) : Statement (.dmaRetry c b) := of_none _
theorem dmaTransferComplete (c : Fin 64) : Statement (.dmaTransferComplete c) := of_none _
theorem dmaClear (agent : Agent) (c : Fin 64) : Statement (.dmaClear agent c) := of_none _
theorem dmaAbort (c : Fin 64) : Statement (.dmaAbort c) := of_none _
theorem reqClear (c : Fin 64) : Statement (.reqClear c) := of_none _
theorem dmaPaceRequest (l : Fin 64) : Statement (.dmaPaceRequest l) := of_none _
theorem dmaTimer (c : Fin 64) : Statement (.dmaTimer c) := of_none _
theorem dmaPairRead (agent : Agent) (c : Fin 64) (sub : Fin 4) (width : Nat) : Statement (.dmaPairRead agent c sub width) := of_none _
theorem icEvent (c : Fin 17) (src : Fin 1024) : Statement (.icEvent c src) := of_none _
theorem icCoalesceTimeout (c : Fin 17) (src : Fin 1024) : Statement (.icCoalesceTimeout c src) := of_none _
theorem msixSend (c : Fin 17) : Statement (.msixSend c) := of_none _
theorem msixVectorUsable (c : Tenant) (enable functionMask vectorMask : Bool) (address : BitVec 64) (data : Word) : Statement (.msixVectorUsable c enable functionMask vectorMask address data) := of_none _
theorem icClaim (agent : Agent) (c : Fin 17) (sub : Fin 4) (width : Nat) : Statement (.icClaim agent c sub width) := of_none _
theorem icComplete (c : Fin 17) (src : Fin 1024) : Statement (.icComplete c src) := of_none _
theorem icSet (c : Fin 17) (src : Fin 1024) : Statement (.icSet c src) := of_none _
theorem icClear (c : Fin 17) (src : Fin 1024) : Statement (.icClear c src) := of_none _
theorem laneResetCmd (v : Word) : Statement (.laneResetCmd v) := of_none _
theorem eccUncorrectable (kind : Fin 4) (n : Nat) : Statement (.eccUncorrectable kind n) := of_none _
theorem eccCorr : Statement (.eccCorr) := of_none _
theorem devResetKey (agent : Agent) (v : Word) : Statement (.devResetKey agent v) := of_none _
theorem perstNAssert : Statement (.perstNAssert) := of_none _
theorem coreSupplyFault : Statement (.coreSupplyFault) := of_none _
theorem watchdog (core : Fin 2) : Statement (.watchdog core) := of_none _
theorem domCtlWrite (v : Word) : Statement (.domCtlWrite v) := of_none _
theorem domFault (d : Fin 8) : Statement (.domFault d) := of_none _
theorem domOff (d : Fin 8) : Statement (.domOff d) := of_none _
theorem drainTimeout (d : Fin 8) : Statement (.drainTimeout d) := of_none _
theorem domOn (d : Fin 8) : Statement (.domOn d) := of_none _
theorem thermalModelStep : Statement (.thermalModelStep) := of_none _
theorem capacityEvaluation : Statement (.capacityEvaluation) := of_none _
theorem thinFromLoRead (agent : Agent) (sub : Fin 4) (width : Nat) : Statement (.thinFromLoRead agent sub width) := of_none _
theorem mailboxGo (agent : Agent) (t : Tenant) (v : Word) : Statement (.mailboxGo agent t v) := of_none _
theorem h2mTaken (t : Tenant) : Statement (.h2mTaken t) := of_none _
theorem m2hReady (t : Tenant) : Statement (.m2hReady t) := of_none _
theorem mbxM2hAck (t : Tenant) (v : Word) : Statement (.mbxM2hAck t v) := of_none _
theorem mbxFenceRead (agent : Agent) (t : Tenant) (sub : Fin 4) (width : Nat) : Statement (.mbxFenceRead agent t sub width) := of_none _
theorem monitorSample (xs : List (Option (Nat × Nat))) : Statement (.monitorSample xs) := of_none _
theorem logEntry (kind tenant : Fin 32) (page : Fin 8192) (offset : Fin 4096) (be : Fin 16) (value arg1 : Word) (arg2 : BitVec 16) : Statement (.logEntry kind tenant page offset be value arg1 arg2) := of_none _
theorem logMirrorProgram (fail : Bool) : Statement (.logMirrorProgram fail) := of_none _
theorem logSelWrite (v : Word) : Statement (.logSelWrite v) := of_none _
theorem logDataReady : Statement (.logDataReady) := of_none _
theorem logDataRead (agent : Agent) (w : Fin 8) (sub : Fin 4) (width : Nat) : Statement (.logDataRead agent w sub width) := of_none _
theorem boot : Statement (.boot) := of_none _
theorem updOpen (usb : Bool) : Statement (.updOpen usb) := of_none _
theorem updVerify (usb : Bool) : Statement (.updVerify usb) := of_none _
theorem updVerifyDone : Statement (.updVerifyDone) := of_none _
theorem updActivate (usb : Bool) : Statement (.updActivate usb) := of_none _
theorem updConfirm (usb : Bool) : Statement (.updConfirm usb) := of_none _
theorem updCancel (usb : Bool) : Statement (.updCancel usb) := of_none _
theorem updDataWrite (v : Word) : Statement (.updDataWrite v) := of_none _
theorem updFlashProgram (fail : Bool) : Statement (.updFlashProgram fail) := of_none _
theorem usbVbusChange (present : Bool) : Statement (.usbVbusChange present) := of_none _
theorem usbBusReset (hs cut : Bool) : Statement (.usbBusReset hs cut) := of_none _
theorem setAddress (a : Fin 128) : Statement (.setAddress a) := of_none _
theorem setConfiguration (v : Fin 256) : Statement (.setConfiguration v) := of_none _
theorem getDescriptor (kind index : Fin 256) (wLength : Fin 65536) : Statement (.getDescriptor kind index wLength) := of_none _
theorem getConfiguration (wLength : Fin 65536) : Statement (.getConfiguration wLength) := of_none _
theorem getStatus (recipient : Fin 32) (index wLength : Fin 65536) : Statement (.getStatus recipient index wLength) := of_none _
theorem setFeature (recipient : Fin 32) (feature index : Fin 65536) : Statement (.setFeature recipient feature index) := of_none _
theorem clearFeature (recipient : Fin 32) (feature index : Fin 65536) : Statement (.clearFeature recipient feature index) := of_none _
theorem getInterface (index wLength : Fin 65536) : Statement (.getInterface index wLength) := of_none _
theorem setInterface (alt index : Fin 65536) : Statement (.setInterface alt index) := of_none _
theorem setDescriptor : Statement (.setDescriptor) := of_none _
theorem synchFrame : Statement (.synchFrame) := of_none _
theorem getInfo (wLength : Fin 65536) : Statement (.getInfo wLength) := of_none _
theorem usbRegRead (p o wLength : Fin 65536) (x : Outside) : Statement (.usbRegRead p o wLength x) := of_none _
theorem usbRegWrite (p o wLength : Fin 65536) (v : Word) (x : Outside) : Statement (.usbRegWrite p o wLength v x) := of_none _
theorem logStart (seq : Word) (mirror follow : Bool) (wLength : Fin 65536) : Statement (.logStart seq mirror follow wLength) := of_none _
theorem logStop (wLength : Fin 65536) : Statement (.logStop wLength) := of_none _
theorem usbUpdCmd (op wLength : Fin 65536) : Statement (.usbUpdCmd op wLength) := of_none _
theorem usbUpdStatus (wLength : Fin 65536) : Statement (.usbUpdStatus wLength) := of_none _
theorem onyxFrame (b : List Byte) : Statement (.onyxFrame b) := of_none _
theorem usbEvtMask (mask wLength : Fin 65536) : Statement (.usbEvtMask mask wLength) := of_none _
theorem usbLogPacket : Statement (.usbLogPacket) := of_none _
theorem usbImagePacket (b : List Byte) : Statement (.usbImagePacket b) := of_none _
theorem usbSuspend : Statement (.usbSuspend) := of_none _
theorem usbResume : Statement (.usbResume) := of_none _
theorem wakeSent : Statement (.wakeSent) := of_none _
theorem wakeCollided : Statement (.wakeCollided) := of_none _
theorem twtWriteTransaction (address : Fin 128) (b : List Byte) (stop : Bool) : Statement (.twtWriteTransaction address b stop) := of_none _
theorem twtReadTransaction (address : Fin 128) (n : Nat) : Statement (.twtReadTransaction address n) := of_none _
theorem twtBusTimeout : Statement (.twtBusTimeout) := of_none _
theorem twtAraDone (won : Bool) : Statement (.twtAraDone won) := of_none _
theorem twtHostAlert (v : Word) : Statement (.twtHostAlert v) := of_none _
theorem twcXferGo (v : Word) (bus : BusLines) : Statement (.twcXferGo v bus) := of_none _
theorem twcXferDone (e : TransferEnd) : Statement (.twcXferDone e) := of_none _
theorem twcArbLost : Statement (.twcArbLost) := of_none _
theorem twcTimeout (bus : BusLines) : Statement (.twcTimeout bus) := of_none _
theorem twcRecover (v : Word) (bus : BusLines) : Statement (.twcRecover v bus) := of_none _
theorem onyxWheelCount (w : Fin 2) (x : WheelInputs) : Statement (.onyxWheelCount w x) := of_none _
theorem sealPress : Statement (.sealPress) := of_none _
theorem onyxRetention : Statement (.onyxRetention) := of_none _
theorem powerGap : Statement (.powerGap) := of_none _
theorem coldStart (temp vddMv : BitVec 16) : Statement (.coldStart temp vddMv) := of_none _
theorem tempStart (temp : BitVec 16) : Statement (.tempStart temp) := of_none _
theorem tempEnd (temp : BitVec 16) : Statement (.tempEnd temp) := of_none _
theorem onyxIdent : Statement (.onyxIdent) := of_none _
theorem onyxReadState : Statement (.onyxReadState) := of_none _
theorem onyxReadAudit : Statement (.onyxReadAudit) := of_none _
theorem onyxJobMark : Statement (.onyxJobMark) := of_none _
theorem onyxStageParam : Statement (.onyxStageParam) := of_none _
theorem onyxStageRelease : Statement (.onyxStageRelease) := of_none _
theorem onyxClearStage : Statement (.onyxClearStage) := of_none _
theorem onyxPush (temp vddMv : BitVec 16) (switch : Bool) : Statement (.onyxPush temp vddMv switch) := of_none _
theorem viewStale : Statement (.viewStale) := of_none _
theorem ikEnum (port : Fin 2) (lead : Bool) (sender mine count : Fin 8) (offer : BitVec 8) (w : BitVec 32) (o src : BitVec 8) : Statement (.ikEnum port lead sender mine count offer w o src) := of_none _
theorem ikTime (port : Fin 2) (time : BitVec 64) : Statement (.ikTime port time) := of_none _
theorem ikPing (port : Fin 2) (pos : Fin 4) (t0 rx tx : BitVec 64) (l : BitVec 16) : Statement (.ikPing port pos t0 rx tx l) := of_none _
theorem ikTrigger (port : Fin 2) (y : BitVec 48) (t : BitVec 64) (d : BitVec 16) : Statement (.ikTrigger port y t d) := of_none _
theorem ikState (port : Fin 2) (pos : Fin 4) (run : Bool) (digest : List Nat) (gen : Word) (keep : BitVec 16) (pause : Bool) : Statement (.ikState port pos run digest gen keep pause) := of_none _
theorem ikRun (port : Fin 2) (start : Bool) (y : BitVec 48) (t : BitVec 64) : Statement (.ikRun port start y t) := of_none _
theorem ikThin (port : Fin 2) (keep : BitVec 16) (y : BitVec 48) : Statement (.ikThin port keep y) := of_none _
theorem ikCommit (port : Fin 2) (pos : Fin 4) (digest : List Nat) (result : Option (Option (BitVec 48))) : Statement (.ikCommit port pos digest result) := of_none _
theorem ikJoint (y : BitVec 48) (o : Fin 65) (pixels : List (List Nat × Nat)) : Statement (.ikJoint y o pixels) := of_none _
theorem ikDefect (port : Fin 2) (y : BitVec 48) (cols : List (Bool × Bool)) : Statement (.ikDefect port y cols) := of_none _
theorem ikFragment (port : Fin 2) (y : BitVec 48) (runs : List (Nat × Nat × Nat × Nat × Nat)) : Statement (.ikFragment port y runs) := of_none _
theorem ikBlobPart (port : Fin 2) (v : List Nat) : Statement (.ikBlobPart port v) := of_none _
theorem ikItemPart (p : List Nat) : Statement (.ikItemPart p) := of_none _
theorem ikHalt (port : Fin 2) (cause : BitVec 8) (y : BitVec 48) : Statement (.ikHalt port cause y) := of_none _
theorem ikPortDown (p : Fin 2) : Statement (.ikPortDown p) := of_none _
theorem ikPortRetry (p : Fin 2) : Statement (.ikPortRetry p) := of_none _
theorem ikFrameCrcError (p : Fin 2) : Statement (.ikFrameCrcError p) := of_none _
theorem ikTimeSend : Statement (.ikTimeSend) := of_none _
theorem ikPingSend : Statement (.ikPingSend) := of_none _
theorem ikCommitTimeout : Statement (.ikCommitTimeout) := of_none _
theorem jointWaitExpiry : Statement (.jointWaitExpiry) := of_none _
theorem ikClear (v : Word) : Statement (.ikClear v) := of_none _
theorem ikCommitLineLoRead (agent : Agent) (sub : Fin 4) (width : Nat) : Statement (.ikCommitLineLoRead agent sub width) := of_none _
theorem commitRequest (agent : Agent) (p : Fin 8192) (v : Word) : Statement (.commitRequest agent p v) := of_none _
theorem commitMulti (v : Word) : Statement (.commitMulti v) := of_none _
theorem commitEffect : Statement (.commitEffect) := of_none _
theorem grantWrite (t : Tenant) (slot : Fin 256) (v : Word) : Statement (.grantWrite t slot v) := of_none _
theorem groupLineLoRead (agent : Agent) (g : Fin 16) (sub : Fin 4) (width : Nat) : Statement (.groupLineLoRead agent g sub width) := of_none _
theorem runStart : Statement (.runStart) := of_none _
theorem runStartDelayed : Statement (.runStartDelayed) := of_none _
theorem runStop : Statement (.runStop) := of_none _
theorem powerOnReset (lead link core : Bool) (addr : Fin 8) (flash : Option FlashContent) : Statement (.powerOnReset lead link core addr flash) := of_none _
theorem supplyFall : Statement (.supplyFall) := of_none _
theorem arrayTemperatureRead (p : Fin 4) (w : Word) : Statement (.arrayTemperatureRead p w) := of_none _
theorem offlineStepBoundary : Statement (.offlineStepBoundary) := of_none _
theorem tenantDrainLimit (t : Tenant) : Statement (.tenantDrainLimit t) := of_none _
theorem logIntakeDrain : Statement (.logIntakeDrain) := of_none _
theorem onyxReplyReady : Statement (.onyxReplyReady) := of_none _
theorem onyxReplyTransfer : Statement (.onyxReplyTransfer) := of_none _
theorem eventMessagePoll : Statement (.eventMessagePoll) := of_none _
theorem ikPortTrained (p : Fin 2) (width : Fin 8) : Statement (.ikPortTrained p width) := of_none _

end Sys2Proof.Laws.NoWord
end

