-- ==== Sys2Proof/WellFormed.lean ====
section
/-!
DEFINITION. Which commands are well formed: the ranges of the operands that their types do not already bound
(an operand of a register field is within its width, a frame has the bytes its rule gives it).
-/

namespace Sys2Proof

/-- The ranges of a command's operands that their types do not bound. -/
def WellFormed (i : Instr) : Bool :=
  match i with
  | .registerWrite _ _ _ _ _ _ => true
  | .pageEventClear _ _ => true
  | .pageDiscard _ _ => true
  | .devModeWrite _ _ => true
  | .paceWindowEnd tokens => tokens.length == 14
  | .avsEvaluation => true
  | .avsReadback _ _ => true
  | .avsCtlWrite _ => true
  | .timeLoRead _ _ _ => true
  | .tbStep _ _ => true
  | .refclkLoss => true
  | .synthRelock => true
  | .converterWord _ _ _ _ => true
  | .lineTrigger => true
  | .triggerPrediction => true
  | .encoderCount _ _ _ => true
  | .encoderIndex _ => true
  | .ltLineLoRead _ _ _ => true
  | .ltPosFracRead _ _ _ => true
  | .lineStart => true
  | .minLinePeriodEnd _ => true
  | .flushLine _ => true
  | .ledStrobe _ _ => true
  | .pawnOut _ => true
  | .pawnNop _ => true
  | .pawnLdc _ => true
  | .pawnDjnz _ => true
  | .pawnJmp _ => true
  | .pawnJc _ => true
  | .pawnStw _ => true
  | .pawnEnd _ => true
  | .pawnLineTimeout _ => true
  | .pawnDataHiWrite _ _ => true
  | .pawnDataLoRead _ _ _ _ => true
  | .pawnDataHiRead _ _ _ _ => true
  | .diagEntryDone _ _ => true
  | .plausCheck => true
  | .forceRequest _ _ => true
  | .forceDone _ _ _ => true
  | .bankCalStart _ => true
  | .bankCalDone results => results.length == 97
  | .castReqGo _ => true
  | .castReqRelease _ => true
  | .castIntervalDue _ => true
  | .castSelect => true
  | .castMatchWindowEnd => true
  | .castOfflineCalEnd errors gains => errors.length == 6 && gains.length == 6
  | .trimSlotWrite _ _ _ _ => true
  | .castSwapLineLoRead _ _ _ => true
  | .laneOutputLine _ => true
  | .opalCapGo _ => true
  | .opalCapEnd => true
  | .xferWindowAccess _ _ _ _ _ _ => true
  | .xferWriteStored => true
  | .pwWindowEnd => true
  | .pwReset _ => true
  | .refLines _ => true
  | .refEarlyFetch _ => true
  | .refArrival _ => true
  | .refPairRead _ _ _ _ => true
  | .regTileDecide _ => true
  | .rowDone => true
  | .regReacq _ => true
  | .regPairRead _ _ _ _ => true
  | .labelLineDone => true
  | .blobRecordStage => true
  | .verdict => true
  | .coverageRecordStage => true
  | .covBacklogResume => true
  | .recordDelivery _ => true
  | .patchMeasured _ => true
  | .markMeasured _ => true
  | .previewRecord => true
  | .cropTokenRefill => true
  | .cropComplete _ => true
  | .berylFsync _ => true
  | .berylLsync _ _ _ _ => true
  | .berylFrameEnd _ => true
  | .berylSyncTimeout _ => true
  | .berylMoveTimeout _ => true
  | .berylRecalCmd _ _ => true
  | .berylRecalInterval _ => true
  | .berylAccTake => true
  | .berylReopen _ _ => true
  | .berylSnap _ _ => true
  | .berylSpiGo _ _ => true
  | .spiDone _ _ => true
  | .bvcDataRead _ _ _ _ => true
  | .bvcFreeConvert _ _ _ => true
  | .pfeScanTimer => true
  | .pfeGo _ => true
  | .pfeStepEnd _ _ => true
  | .pfeScanEnd => true
  | .aoUpdate _ => true
  | .aoRefLow _ => true
  | .resValueRead _ _ _ _ => true
  | .servoBoundary => true
  | .pwmPeriod _ codes => codes.length == 6
  | .auxIdleScan _ codes => codes.length == 6
  | .motStandby _ => true
  | .motTargetHiWrite _ _ => true
  | .motCtlWrite _ _ => true
  | .motStop _ => true
  | .motResume _ => true
  | .motHome _ => true
  | .motClear _ _ => true
  | .motZero _ => true
  | .motAbort _ => true
  | .motHomeSwitch _ _ => true
  | .motBridgeFault _ _ => true
  | .motServoWrite _ => true
  | .motPairRead _ _ _ _ _ => true
  | .functionLevelReset _ => true
  | .d3hotEntry _ => true
  | .vfEnableChange _ _ => true
  | .tenReset _ => true
  | .hello _ => true
  | .fwInfo _ => true
  | .logMark _ => true
  | .leaseGrant _ _ _ => true
  | .leaseRevoke _ => true
  | .leaseExpiry _ => true
  | .leaseRenew _ => true
  | .queueEnable _ _ _ _ => true
  | .queueDisable _ _ _ => true
  | .queuePause _ _ _ => true
  | .queueResume _ _ _ => true
  | .queueReset _ _ _ => true
  | .queueSync _ _ _ => true
  | .doorbell _ _ _ _ => true
  | .descriptorFetch _ _ => true
  | .dmaXfer _ => true
  | .regWrite _ _ => true
  | .indexWriteback _ _ => true
  | .contextLoad _ _ _ => true
  | .tenCtxBaseWrite _ _ _ => true
  | .qstatARead _ _ _ _ _ => true
  | .linkChange _ _ _ => true
  | .linkDown _ => true
  | .poisonedRequest _ => true
  | .leaseRevokeOnFault _ => true
  | .dmaBurstGrant _ => true
  | .dmaReadCompletion _ _ _ _ => true
  | .dmaBusError _ _ => true
  | .dmaRetry _ _ => true
  | .dmaTransferComplete _ => true
  | .dmaClear _ _ => true
  | .dmaAbort _ => true
  | .reqClear _ => true
  | .dmaPaceRequest _ => true
  | .dmaTimer _ => true
  | .dmaPairRead _ _ _ _ => true
  | .icEvent _ _ => true
  | .icCoalesceTimeout _ _ => true
  | .msixSend _ => true
  | .msixVectorUsable _ _ _ _ _ _ => true
  | .icClaim _ _ _ _ => true
  | .icComplete _ _ => true
  | .icSet _ _ => true
  | .icClear _ _ => true
  | .laneResetCmd _ => true
  | .eccUncorrectable kind n => (if kind = 0 then decide (n < 12) else true)
  | .eccCorr => true
  | .devResetKey _ _ => true
  | .perstNAssert => true
  | .coreSupplyFault => true
  | .watchdog _ => true
  | .domCtlWrite _ => true
  | .domFault _ => true
  | .domOff _ => true
  | .drainTimeout _ => true
  | .domOn _ => true
  | .thermalModelStep => true
  | .capacityEvaluation => true
  | .thinFromLoRead _ _ _ => true
  | .mailboxGo _ _ _ => true
  | .h2mTaken _ => true
  | .m2hReady _ => true
  | .mbxM2hAck _ _ => true
  | .mbxFenceRead _ _ _ _ => true
  | .monitorSample xs => xs.length == 12
  | .logEntry _ _ _ _ _ _ _ _ => true
  | .logMirrorProgram _ => true
  | .logSelWrite _ => true
  | .logDataReady => true
  | .logDataRead _ _ _ _ => true
  | .boot => true
  | .updOpen _ => true
  | .updVerify _ => true
  | .updVerifyDone => true
  | .updActivate _ => true
  | .updConfirm _ => true
  | .updCancel _ => true
  | .updDataWrite _ => true
  | .updFlashProgram _ => true
  | .usbVbusChange _ => true
  | .usbBusReset _ _ => true
  | .setAddress _ => true
  | .setConfiguration _ => true
  | .getDescriptor _ _ _ => true
  | .getConfiguration _ => true
  | .getStatus _ _ _ => true
  | .setFeature _ _ _ => true
  | .clearFeature _ _ _ => true
  | .getInterface _ _ => true
  | .setInterface _ _ => true
  | .setDescriptor => true
  | .synchFrame => true
  | .getInfo _ => true
  | .usbRegRead _ _ _ _ => true
  | .usbRegWrite _ _ _ _ _ => true
  | .logStart _ _ _ _ => true
  | .logStop _ => true
  | .usbUpdCmd _ _ => true
  | .usbUpdStatus _ => true
  | .onyxFrame _ => true
  | .usbEvtMask _ _ => true
  | .usbLogPacket => true
  | .usbImagePacket b => b.length ≤ 512
  | .usbSuspend => true
  | .usbResume => true
  | .wakeSent => true
  | .wakeCollided => true
  | .twtWriteTransaction _ _ _ => true
  | .twtReadTransaction _ _ => true
  | .twtBusTimeout => true
  | .twtAraDone _ => true
  | .twtHostAlert _ => true
  | .twcXferGo _ _ => true
  | .twcXferDone _ => true
  | .twcArbLost => true
  | .twcTimeout _ => true
  | .twcRecover _ _ => true
  | .onyxWheelCount _ _ => true
  | .sealPress => true
  | .onyxRetention => true
  | .powerGap => true
  | .coldStart _ _ => true
  | .tempStart _ => true
  | .tempEnd _ => true
  | .onyxIdent => true
  | .onyxReadState => true
  | .onyxReadAudit => true
  | .onyxJobMark => true
  | .onyxStageParam => true
  | .onyxStageRelease => true
  | .onyxClearStage => true
  | .onyxPush _ _ _ => true
  | .viewStale => true
  | .ikEnum _ _ sender mine count _ _ _ _ => decide (sender.val < count.val ∧ mine.val < count.val ∧ sender ≠ mine)
  | .ikTime _ _ => true
  | .ikPing _ _ _ _ _ _ => true
  | .ikTrigger _ _ _ _ => true
  | .ikState _ _ _ digest _ _ _ => digest.length == 32 && digest.all fun b => decide (b < 256)
  | .ikRun _ _ _ _ => true
  | .ikThin _ _ _ => true
  | .ikCommit _ _ digest _ => digest.length == 32 && digest.all fun b => decide (b < 256)
  | .ikJoint _ o pixels => pixels.length == o.val && pixels.all fun p => p.1.length == 3
  | .ikDefect _ _ cols => cols.length == 2
  | .ikFragment _ _ _ => true
  | .ikBlobPart _ v => v.length == 13
  | .ikItemPart p => p.length == 25
  | .ikHalt _ _ _ => true
  | .ikPortDown _ => true
  | .ikPortRetry _ => true
  | .ikFrameCrcError _ => true
  | .ikTimeSend => true
  | .ikPingSend => true
  | .ikCommitTimeout => true
  | .jointWaitExpiry => true
  | .ikClear _ => true
  | .ikCommitLineLoRead _ _ _ => true
  | .commitRequest _ _ _ => true
  | .commitMulti _ => true
  | .commitEffect => true
  | .grantWrite t slot _ => decide (1 ≤ t.val ∧ 96 ≤ slot.val)
  | .groupLineLoRead _ _ _ _ => true
  | .runStart => true
  | .runStartDelayed => true
  | .runStop => true
  | .powerOnReset _ _ _ _ _ => true
  | .supplyFall => true
  | .arrayTemperatureRead _ _ => true
  | .offlineStepBoundary => true
  | .tenantDrainLimit _ => true
  | .logIntakeDrain => true
  | .onyxReplyReady => true
  | .onyxReplyTransfer => true
  | .eventMessagePoll => true
  | .ikPortTrained _ width => [1, 2, 4].contains width.val

end Sys2Proof
end

