-- ==== Sys2Proof/Tests/Slice0.lean ====
section
/-!
SUPPORT. The model's own tests: an ill-formed command for each check of `WellFormed`, and states and operands that meet
the hypotheses of the statements.
-/

open Sys2Proof Sys2Proof.Machine

namespace Sys2Proof.Tests

set_option Elab.async false
set_option linter.unusedVariables false
set_option linter.unusedSimpArgs false

/-! Each list operand has the length its rule gives it. -/

theorem test_paceWindowEnd_length : WellFormed (.paceWindowEnd (List.replicate 13 0)) = false := by decide
theorem test_bankCalDone_length : WellFormed (.bankCalDone (List.replicate 96 ([], [], [], 0))) = false := by decide
theorem test_castOfflineCalEnd_length :
    WellFormed (.castOfflineCalEnd (List.replicate 6 []) [0, 0, 0, 0, 0]) = false := by decide
theorem test_pwmPeriod_length : WellFormed (.pwmPeriod 0 (List.replicate 7 (0, false))) = false := by decide
theorem test_auxIdleScan_length : WellFormed (.auxIdleScan 7 (List.replicate 5 (0, false))) = false := by decide
theorem test_eccUncorrectable_lane : WellFormed (.eccUncorrectable 0 12) = false := by decide
theorem test_monitorSample_length : WellFormed (.monitorSample (List.replicate 11 none)) = false := by decide
theorem test_usbImagePacket_length : WellFormed (.usbImagePacket (List.replicate 513 0)) = false := by decide +kernel
theorem test_ikEnum_sender : WellFormed (.ikEnum 0 true 4 1 4 1 0 0 0) = false := by decide
theorem test_ikState_digest : WellFormed (.ikState 0 1 false (List.replicate 31 0) 0 0 false) = false := by decide
theorem test_ikCommit_byte : WellFormed (.ikCommit 0 1 (List.replicate 32 256) none) = false := by decide
theorem test_ikJoint_count : WellFormed (.ikJoint 0 2 [([0, 0, 0], 0)]) = false := by decide
theorem test_ikDefect_columns : WellFormed (.ikDefect 0 0 [(true, true)]) = false := by decide
theorem test_ikBlobPart_length : WellFormed (.ikBlobPart 0 (List.replicate 12 0)) = false := by decide
theorem test_ikItemPart_length : WellFormed (.ikItemPart (List.replicate 26 0)) = false := by decide
theorem test_grantWrite_slot : WellFormed (.grantWrite 1 95 0) = false := by decide
theorem test_grantWrite_tenant : WellFormed (.grantWrite 0 96 0) = false := by decide
theorem test_ikPortTrained_width : WellFormed (.ikPortTrained 0 3) = false := by decide

/-! States and operands that meet the hypotheses of each clause of the statements. -/

/-- The state after reset, with a well-formed job mark in Onyx's receiver. -/
def markFrame : State :=
  { State.reset with onyx := { State.reset.onyx with power := .operating, frame := some [4, 2], reply := none } }

theorem someOf {α : Type} {o : Option α} (h : o.isSome = true) : o = some (o.get h) := (Option.some_get h).symm
theorem someOf2 {α β : Type} {o : Option (α × β)} (h : o.isSome = true) : o = some ((o.get h).1, (o.get h).2) := someOf h
theorem consOf {α : Type} {l : List α} (h : l ≠ []) : l = l.head h :: l.tail := (List.cons_head_tail h).symm
theorem slotFull (n : Nat) (s : State) (r : Staged) (hn : 114688 ≤ n) (hr : r.kind = 2)
    (h : s.fr.staged = List.replicate n { kind := 0 }) : s.slotFree r = false := by
  have : s.slotsUsed (fun k => k == 0 || k == 2 || k == 3 || k == 4) (fun _ => 1) = n := by
    simp [State.slotsUsed, h, List.map_replicate]
  simp only [State.slotFree, hr, this]
  exact decide_eq_false (by omega)
theorem pairOf {α β : Type} (x : α × β) : x = (x.1, x.2) := rfl

def mk02 (s : State) : List State :=
  [s, s.wr Reg.TB_STATUS_RUN_ACTIVE 1, (s.wr Reg.TB_STATUS_RUN_ACTIVE 0).wr Reg.IK_STATUS_STATE 0, s.wr Reg.IK_CTL_LEAD 0].flatMap fun s =>
  [s, { s with mgmt := { s.mgmt with running := true }, avs := { s.avs with due := true, awaiting := true, readDue := true }, tb := { ns := 0x123456789ABCDEF0 } },
   ({ s with mgmt := { s.mgmt with running := true }, avs := { s.avs with due := true } } : State).wr Reg.AVS_CTL_LINK 0,
   (({ s with mgmt := { s.mgmt with running := true }, avs := { s.avs with due := true } } : State).wr Reg.AVS_CTL_LINK 0).wr Reg.AVS_CTL_EN 1,
   ((({ s with mgmt := { s.mgmt with running := true }, avs := { s.avs with due := true } } : State).wr Reg.AVS_CTL_LINK 0).wr Reg.AVS_CTL_EN 1).wr Reg.HEADROOM_MIN_VALUE 0x100]
def ops03 : List Nat := [0, 1 <<< 60 + 0x155 <<< 40 + 0x3FF <<< 30 + 5 <<< 24 + 3, 1 <<< 60 + 2 <<< 58 + 1 <<< 39 + 7, 2 <<< 60 + 1 <<< 16 + 7, 3 <<< 60 + 1 <<< 16 + 9, 3 <<< 60 + 2 <<< 16 + 9,
  4 <<< 60 + 77, 5 <<< 60 + 66, 5 <<< 60 + 1 <<< 24 + 66, 5 <<< 60 + 2 <<< 24 + 3 <<< 16 + 66, 5 <<< 60 + 3 <<< 24 + 1 <<< 16 + 66,
  6 <<< 60 + 0xABCD1234 <<< 16 + 5, 6 <<< 60 + 0xABCD1234 <<< 16 + 1029, 7 <<< 60]
def grp03 (w : Nat) (k : Nat) : Group := {
  live := true, runs := true, ir := w, pc := if k = 1 then 1023 else 5, counters := [2, 1, 0, 5], priming := k == 1, number := 9 * k, period := 2 * k, step := 3,
  smp := k == 2, modes := if k = 2 then [0,0,0,0,0,0,0,0,1,0] else [0,2,3,0,0,0,0,0,0,0], flush := k == 2, reads := if k = 1 then some (4, 5) else if w < 7 <<< 60 then none else some (2, 3), ledLevels := [k == 1, false], leds := if k = 1 then [1, 2] else [0, 1], strobes := 40 * k, capture := 0xDEADBEEF }
def mk03 (s : State) (i : Nat) : State :=
  let k := 1 + i % 2
  let w := ops03.getD (i / 2) 0
  let s := if k = 1 then (s.wr Reg.SG_GEOM_PIXELS 20 3).wr Reg.PAWN_STATUS_SWAP_PENDING 0 3 else (s.wr Reg.SG_GEOM_PIXELS 100 3).wr Reg.PAWN_STATUS_SWAP_PENDING 1 3
  let s := (s.wr Reg.SG_WAVE_RISE 3 3 8).wr Reg.SG_WAVE_FALL 50 3 8
  let s := (((s.wr Reg.ENC_CTL_EN 1 1).wr Reg.ENC_CTL_Z_EN 1 1).wr Reg.SG_CTL_EN 1 3).wr Reg.SG_CTL_EN 1 11
  let s := if k = 1 then ((s.wr Reg.SG_LED_START_PX 10 3 0).wr Reg.SG_LED_START_PX 10 3 1).wr Reg.SG_LED_WIDTH_PX 4000 3 1 else (s.wr Reg.SG_LED_START_PX 200 3 1).wr Reg.SG_LED_START_PX 200 11 1
  { s with groups := [(0, {}), (3, grp03 w k), (11, { grp03 w k with ir := 4 <<< 60 + 2})], pawn := [(pawnKey 3 0 5, 0x123456789ABCDEF)], tb := { ns := 123456 } }
def mk04 (s : State) (k : Nat) : State :=
  let c := [10, 0, 95].getD (k % 3) 0
  let g := c / 8
  let s := ((s.wr Reg.SG_CTL_EN 1 g).wr Reg.CHAN_CTL_EN 1 c).wr Reg.SG_GEOM_PIXELS 100 g
  let s := ((s.wr Reg.SCAN_MASK_RED 1 c).wr Reg.SCAN_MASK_GREEN 1 c).wr Reg.SCAN_MASK_BLUE (k % 2) c
  let s := (s.wr Reg.CHAN_CTL_REFMODE 1 c).wr Reg.TB_STATUS_RUN_ACTIVE (k % 2)
  let s := (s.wr Reg.CAST_STATUS_STATE (k % 7)).wr Reg.CAST_STATUS_CHAN c
  let s := (s.wr Reg.CAST_STATUS_CARRYING (if k % 4 = 3 ∧ k < 7 then 1 else 0)).wr Reg.BANK_CAL_BUSY (if k % 5 = 4 then 1 else 0)
  let s := if k % 3 = 1 then s.wr Reg.CAL_STATUS_STATE 1 96 else s
  let s := if k % 3 = 1 then s.wr Reg.DIAG_VALUE 8192 96 3 else s
  let s := if k % 3 = 1 then s.wrS Reg.CAL_TEMP_VALUE 6400 96 else s
  let s := if k % 2 = 1 then s.wr Reg.CAST_CTL_EN 1 else s
  let s := if k % 4 = 1 then s.wr Reg.CAST_MATCH_MAX_WIN 8 else s
  let s := if k % 8 = 1 then s.wr Reg.PACE_MON_HEADROOM_VALUE 0x2000 0 g else s
  let s := if 7 ≤ k then s.wr Reg.CAST_STATUS_STATE (if 18 ≤ k then 4 else if 12 ≤ k then 2 else 0) else s
  let s := if 7 ≤ k then (s.wr Reg.TB_STATUS_RUN_ACTIVE (if k = 11 then 0 else 1)).wr Reg.CAST_CTL_EN 1 else s.wr Reg.TB_STATUS_LOCKED 1
  let s := if k = 11 then (s.wr Reg.TB_STATUS_LOCKED 1).wr Reg.BANK_CAL_BUSY 0 else s
  let s := if k = 10 then s.each (List.range 96) fun s c => (s.wr Reg.CAL_STATUS_STATE 1 c).wr Reg.PLAUS_STATUS_SUSPECT 0 c else s
  let s := if k ≥ 15 then s.wr Reg.CAST_MATCH_MAX_WIN (k % 2) else s
  let s := if k ≥ 12 then s.wr Reg.CAST_ACCEPT_MIN_SPAN 10 else s
  let s := if 7 ≤ k then s.wr Reg.CAST_TRIG_DELTA 100 else s
  let s := if k = 7 then s.wr Reg.THERM_STATUS_STATE 1 else s
  let s := (if k % 3 = 2 then s.wr Reg.PLAUS_STATUS_SUSPECT 1 c else s).wr Reg.BANK_PLAUS_CTL_LIMIT (k % 3)
  let s := s.wr Reg.BANK_DIAG_AVG_LOG 0
  let s := (s.wr Reg.PLAUS_STATUS_FAILS (if k % 2 = 1 then 255 else 2) c)
  let s := if k = 13 ∨ k = 18 then s.wr Reg.SCAN_MASK_TEMP 0 c else s
  { s with groups := [(g, if k % 6 = 5 then { live := true, number := 7 } else { live := true, reads := some (4, 5), number := 7, strobes := if k % 8 = 0 then 60 else 100, lastStrobe := some 7000, trains := [⟨30, 50, true, true, true, true⟩, ⟨3300, 50, true, true, false, true⟩], plaus := k % 4 == 0 }), (11, { live := true, reads := some (4, 5), number := 7, strobes := 100, lastStrobe := some 7000, trains := [⟨30, 100, true, true, true, true⟩], plaus := k % 4 == 0 })], epochs := [],
           buffers := [(c, { count := 100 + k, level := if k % 3 = 1 then 300 else 200, since := 3, taken := 40 })],
           converters := [(c, { held := [5000, 1000000000, 700000], levels := [0, 4000, 300], clamp := [5, 6, 7], reset := [8, 9, 10], diagDone := k % 5, late := if k % 5 = 2 then [(k % 5, 44, true), (4, 5, false)] else [], forced := if k % 2 = 1 then some (k % 8) else none, trims := [⟨33000, 4⟩, {}, {}] }), (96, { forced := some (k % 8) })],
           plaus := { active := true, level := 100, parts := if k % 2 = 0 then [c, 96] else [], results := (if k = 8 then [] else [(c, 500)]) ++ [(3, 600), (5, 400 + 10 * k)] ++ if k % 4 = 1 then [] else [(96, 480)] },
           cast := { host := if k % 2 = 1 then [5, 0] else [], interval := if k = 7 then [7] else [], offline := if 7 ≤ k then none else if k % 3 = 0 then some c else if k % 3 = 1 then some 96 else none,
                     aborting := k == 3, eligible := k % 4 == 0, lines := 100000, before := [2, 5, 1, 2, 3, 4, 5, 70000],
                     acc := if k % 3 = 0 then List.replicate 3 [100, 100 * 20000, 100 * 20000, 100 * 500000000, 100 * 500000000, 100 * 500000000]
                            else List.replicate 3 [100, 100 * 20000, 100 * 20000, 100 * (if k % 3 = 1 then 400000000 else 500000000), 0, 100 * 500000000] },
           flt := { s.flt with shutdown := false } }
def mgood : Measured := ([32768, 32769, 32768, 32768, 32768, 32768], [3, -5, 6], [32768, 32768, 32767], -50)
def mbad : Measured := ([32768, 3276, 32768, 32768, 32768, 32768], [3, -5, 6], [32768, 32768, 32767], -50)
def mk06 (s : State) (k : Nat) : State :=
  let s := (s.wr Reg.TB_STATUS_RUN_ACTIVE (k % 2)).wr Reg.OPAL_CAP_STATUS_STATE (if 5 ≤ k then 1 else 0)
  let s := (s.wr Reg.XFER_IMAGE_IMAGE k).wr Reg.XFER_ADDR_ADDR (if k = 3 then 4095 else 5)
  let s := ((s.wr Reg.SG_CTL_EN 1 0).wr Reg.CHAN_CTL_EN (if k = 7 then 1 else 0) 0)
  let s := if k = 8 ∨ k = 7 then s.each (List.range 96) fun s c => s.wr Reg.CHAN_CTL_EN (if c = 0 ∧ k = 7 then 1 else 0) c else s
  { s with opal := { s.opal with linesLog := if k = 8 ∨ k = 7 then 0 else 4, start := 10, kind := k % 2, writes := if k % 3 = 0 then [(k % 6, 1000, 0xABCD1234), (1, 2, 3)] else [] }, readouts := [(readoutKey 10 0, { words := [5, 6, 7, 5, 6, 20000], complete := true })], lt := { s.lt with line := if k = 9 then 20 else 100 } }
def dw (k : Nat) : List Nat :=
  [2 + (k % 2) <<< 8, 0,0,0,0,0, 0x1000, 0, (if k = 3 ∨ k = 8 then 200000000 else 20), (if k % 5 = 4 then 9 else 2) <<< 16, 64, (if k % 7 = 6 then 63 else 64), (if k = 1 then 99 else 7) + 1 <<< 16 + (if k % 3 = 2 then 1 <<< 22 else 0), 0, crc32 (List.replicate 128 3), 0]
def mk07 (s : State) (k : Nat) : State :=
  let s := s.wr Reg.DOM_STATE_STATE (if k = 11 then 0 else 0o22222)
  let s := ((s.wr Reg.REF_Q_QUEUE 5).wr Reg.REF_Q_VALID 1).wr Reg.REF_CTL_EN 1
  let s := (s.wr Reg.REF_CTL_CRC_REQ (if k = 4 then 1 else 0)).wr Reg.DMA_STATUS_STATE 0 3
  let s := s.wr Reg.REG_STATUS_STATE (k % 3)
  let s := (s.wr Reg.REG_STATUS_QROWS (k % 4)).wr Reg.REG_ACQ_ROWS 2
  let s := (((s.wr Reg.REG_STATUS_TILE 0).wr Reg.SG_GEOM_PIXELS 300 0)).wr Reg.REG_Q_VALID 0
  let j : Job := { id := 1, tag := 7, format := 1, width := 64, lines := [(20, List.replicate 64 1)], y0 := 0 }
  let q : Queue := { host := [4 + 4 <<< 8, 0x1000, 0, 1 + 3 <<< 16, 0, 0, 0x2000, 0], state := 1, prod := 5, cons := 2, head := some (dw k), early := decide (6 ≤ k) && decide (k < 11) }
  { s with epochs := [], ref := { s.ref with jobs := [{ id := 3, width := 300 }, if k = 2 then { j with tag := 8 } else j], pend := if k = 2 then some { j with id := 2 } else none, front := if k = 5 ∨ k = 6 then 0 else 20000000 * (k % 2) },
           fr := { s.fr with queues := if k % 4 = 0 then [(5, q)] else [(1, { host := [1 + 4 <<< 8], state := 1 }), (5, q)] },
           dma := { s.dma with channels := if k = 0 then [] else [(4, { current := some { queue := 5, index := 2, words := dw k, payload := true, n0 := 64, n1 := 2, data := List.replicate 128 (if k = 5 then 4 else 3) } })] },
           lanes := (List.range 12).map fun i => (i, { next := 200 + k }),
           reg := { s.reg with current := if k % 2 = 0 then some (3, 0, 0) else none, tiles := if k = 4 then [(1, {})] else if k = 10 then (List.range 200).map (fun i => (i + 5, {})) else [], history := [{ line := 3, active := true, tile := 0 }], ready := [{ job := 1, row := if k = 7 then 9 else 0, tile := 0, tiles := [{ accepted := true }, {}], qualified := k % 5 != 0 }, { job := 1, row := 30, tile := 0 }] },
           lt := { s.lt with line := 500 } }
def mk09 (s : State) (k : Nat) : State :=
  let s := s.wr Reg.TB_STATUS_RUN_ACTIVE (if k = 9 then 0 else 1)
  let s := ((s.wr Reg.IK_STATUS_STATE (if k % 3 = 1 then 3 else 0)).wr Reg.IK_STATUS_POS (k / 3 % 3)).wr Reg.IK_STATUS_NDEV 3
  let s := s.wr Reg.IKP_STATUS_UP 0 1
  let s := (List.range 12).foldl (fun s g => (s.wr Reg.SG_GEOM_PIXELS 40 g).wr Reg.SG_CTL_EN (if g < 2 then 1 else 0) g) s
  let s := ((s.wr Reg.COV_Q_QUEUE 2).wr Reg.PROD_Q_QUEUE 3 0 0).wr Reg.PROD_Q_VALID (k % 2) 0 0
  let s := ((((s.wr Reg.PROD_Q_QUEUE 3 0 1).wr Reg.PROD_Q_VALID 1 0 1).wr Reg.PROD_Q_QUEUE 3 0 2).wr Reg.PROD_Q_VALID 1 0 2)
  let s := (((s.wr Reg.IMP_CTL_EN 1).wr Reg.IMP_Y0_LO_VALUE 0).wr Reg.IMP_Y0_HI_VALUE 0).wr Reg.IMP_REPEAT_LINES 4
  let s := ((s.wr Reg.MP_CTL_PATCH_EN 1).wr Reg.PATCH_EN 1 0 1).wr Reg.PATCH_OFF 1 0 1
  let s := ((s.wr Reg.PATCH_H 2 0 1).wr Reg.PATCH_W 3 0 1).wr Reg.PATCH_INSET 0 0 1
  let s := ((s.wr Reg.MP_CTL_MARK_EN 1).wr Reg.MARK_EN 1 0 1).wr Reg.MARK_OFF 1 0 1
  let s := (s.wr Reg.MARK_H 2 0 1).wr Reg.MARK_W 3 0 1
  let s := ((s.wr Reg.MP_CTL_PREV_EN (if k = 5 then 0 else 1)).wr Reg.PREV_GEOM_FY 2).wr Reg.PREV_GEOM_SKIP 1
  let s := ((s.wr Reg.PREV_X0_X 0).wr Reg.PREV_GEOM_FX 4)
  let s := s.wr Reg.THIN_STATUS_KEEP (if k = 6 then 4095 else 4096)
  let s := s.wr Reg.CAP_STATUS_LEVEL 0
  let s := if k = 13 then (((s.wr Reg.IK_STATUS_STATE 4).wr Reg.IK_STATUS_POS 1).wr Reg.IK_XBASE_X 90).wr Reg.IK_XSTART_X 90 else s
  let item : Item := { id := 70 + k, valid := true, queue := 4, last := if k = 4 then 100 else 3, first := 1, x0 := if k = 7 then 0 else 4, x1 := 30, ended := true, compared := 100, uninsp := k % 3, failing := if k = 8 then 1 else 0, reasons := [(5, 3)] }
  { s with epochs := [], lanes := (List.range 12).map fun i => (i, { next := if k = 3 then 0 else 10 + k }), lt := { s.lt with line := if k = 2 then 5 else 100 },
           joints := if k % 2 = 0 then [] else [(10 + k, ({} : JointPart))],
           pw := { s.pw with windows := if k = 11 then [] else [{ start := 2, settings := [if k % 2 = 0 then 1 else 2, 1, 4, 3, 10, 0, 65535, 100, 100, 100], cut := k == 10 }, { start := 5 }], resetAt := if k = 10 then some 3 else none },
           comp := { s.comp with next := 4, closed := [{ queue := 4, words := [1,2,3], item := if k % 2 = 0 then some 0 else none }], coverClosed := if k = 7 then [] else [{ code := 3, last := 2, queue := 2 }, {}], backlog := if k % 2 = 0 then some (1, 4) else none, items := [(0, item), (2, { item with valid := false })],
                                 lost := [(4, if k = 1 then 65535 else 3)] },
           mp := { s.mp with tokens := k, crops := [(0, { y0 := 0, width := 4, height := 3, result := some [1, 2, 3, 4, k % 2], failOnly := k != 3 }), (1, {})] },
           fr := { s.fr with parked := if k = 15 then [(2, 1)] else if k = 8 then [] else [(2, 1), (3, 1), (4, 1)], staged := if k = 16 then List.replicate 114688 { kind := 0 } else [] } }
def mk11 (s : State) (k : Nat) : State :=
  let p := if k % 2 = 0 then 0 else 3
  let st := k % 8
  let set : Store := if k % 3 = 0 then [] else
    regsPut (regsPut (regsPut (regsPut (regsPut [] Reg.BR_SHUT_CTL_AXIS_VALID 1 p 0 0) Reg.BR_SHUT_CTL_AXIS 2 p 0 0) Reg.BR_SHUT_CLOSED_POS 500 p 0 0) Reg.BR_SHUT_CTL_SETTLE (k % 2) p 0 0) Reg.BR_SHUT_OPEN_POS 20 p 0 0
  let s := (s.wr Reg.BR_STATUS_STATE st p).wr Reg.DOM_STATE_STATE 0o22222222
  let s := (s.wr Reg.BR_SPI_CTL_BUSY (k % 2) p).wr Reg.BR_SPI_CTL_LEN 15 p
  let s := if k % 4 = 3 then (s.wr Reg.MOT_CTL_ROLE 2 2).wr Reg.MOT_CTL_PORT p 2 else s
  let s := if k % 8 = 3 then s.wr Reg.MOT_STATUS_STATE 7 2 else if k % 4 = 3 then s.wr Reg.MOT_STATUS_STATE 1 2 else s
  let s := (s.wr Reg.BR_ACC_OWNER (if k % 4 = 2 then p else 7)).wr Reg.BR_SNAP_BUSY (k / 2 % 2)
  let s := (s.wr Reg.BVC_CTL_MODE (k % 4) 0 (2 * p)).wr Reg.BVC_CTL_MODE 3 0 7
  let s := if k % 3 = 1 then (s.wr Reg.BR_CTL_RECAL_AUTO 1 p).wr Reg.BR_SHUT_INT_INTERVAL_S 100 p else s
  let s := if k = 9 then s.wr Reg.BR_ERR_FRAME_LOST 65535 p else s
  let s := if k ≥ 20 then s.wr Reg.BR_STATUS_STATE 2 p else s
  { s with beryl := { s.beryl with ports := [(p, { settings := set, geom := [4, 3, k % 2, 0, 0], tempBusy := k % 3 == 0, hostWaits := k % 5 == 0, tempWaits := k % 3 == 1, reported := decide (k < 8), frame := if k % 5 = 4 then none else some { time := 5, ta := if k % 3 = 0 then some 7 else none, rows := if k % 4 = 0 then [{}] else [] }, due := if k % 4 = 0 then some 5 else if k ≥ 20 then some 3 else none, taFresh := k % 4 == 1 })] }, tb := { ns := 5000000000 } }
def mk12 (s : State) (k : Nat) : State :=
  let set : Store := if k % 3 = 0 then [] else
    regsPut (regsPut (regsPut (regsPut (regsPut (regsPut [] Reg.SLOT_MODE 1 0 4 0) Reg.SLOT_MODE (k % 4) 0 5 0) Reg.SLOT_PGA 3 0 4 0) Reg.AO_KIND (k % 4) 0 0 0) Reg.AO_KIND 3 0 7 0) Reg.AO_FAULT_HIGH (k % 2) 0 0 0
  let s := ((s.wr Reg.DOM_STATE_STATE 0o22222222).wr Reg.PFE_CTL_EN 1).wr Reg.TB_STATUS_LOCKED (if k = 7 then 0 else 1)
  let s := ((s.wr Reg.PFE_CTL_TRIG (k / 2 % 2)).wr Reg.PFE_STATUS_BUSY (k % 2)).wr Reg.PFE_STATUS_STEP (if k % 4 = 1 then 8 else if k % 8 = 3 then 2 else k / 2 % 8)
  let s := if k % 4 = 0 then s.wr Reg.AO_FAULT 0 0 0 else s
  { s with pfe := { s.pfe with settings := set, held := k == 3, codes := [(3, {})], check := if k = 9 then some (1, 2) else none }, tb := { ns := 5000000000 } }
def mk13 (s : State) (k : Nat) : State :=
  let a := if k % 2 = 0 then 0 else 5
  let s := ((s.wr Reg.MOT_STATUS_STATE (k % 8) a).wr Reg.DOM_STATE_STATE 0o22222222).wr Reg.TB_STATUS_LOCKED 1
  let s := (s.wr Reg.AUXC_CTL_EN (k / 8 % 2) 0 a).wr Reg.MOT_CTL_ROLE (if k % 5 = 4 then 2 else 1) a
  let s := ((s.wr Reg.MOT_CTL_PORT 1 a).wr Reg.BR_STATUS_STATE 2 1).wr Reg.MOT_STATUS_FAULT (k % 7) a
  let s := (s.wr Reg.MOT_BACKLASH_UST (k / 4 % 2 * 50) a).wr Reg.SHEET_STATUS_PAUSED 0
  let s := (s.wr Reg.MOT_REMAIN_LO_VALUE (k / 3) a).wr Reg.MOT_REMAIN_HI_VALUE 0 a
  let s := if k ≥ 24 then (s.wr Reg.MOT_SCALE_I_FS_MA 3000 a).wr Reg.MOT_SCALE_V_FS_MV 40000 a else s
  let s := if k % 4 = 2 then (s.wr Reg.MOT_TRAVEL_MAX_STEPS 100 a).wr Reg.MOT_TRAVEL_MIN_STEPS 0 a else s
  let s := if k ≥ 28 then (List.range 8).foldl (fun s a => s.wr Reg.MOT_STATUS_STATE 1 a) s else s
  { s with axes := [(a, { set := 1000 * k, target := 500 + 1000 * (k / 3), v := k % 3, clipped := 14 + k % 3, home := k % 4 == 1, homeStop := k % 9 == 6, standby := k % 6 == 5 }), (6, { set := 4 })], tb := { ns := 5000000000 } }
def ctxWords (k : Nat) : List Nat := [k % 5 + (4 + k % 2) * 256 + 0x30000, 0x1000 * (k % 3), 0, 7, 0, 33, 0x2000, 0, 20, 18, 5, k % 4, 3, 4]
def dsc (k : Nat) : List Nat := [[0x30002, 5], [0x20001, 5], [0x30001, 4], [0x30001, 6], [0x30003, 5], [0x30103, 5]].getD k [] ++ List.replicate 14 0
def mk14 (s : State) (k : Nat) : State :=
  let s := (s.wr Reg.TEN_STATE_STATE (if k % 7 = 3 then 0 else 2 + 32 * (k % 4 / 2))).wr Reg.QADM_STATUS_BUSY (if k % 6 = 5 then 1 else 0) 0
  let s := ((s.wr Reg.TEN_VER_VER (if k % 5 = 0 then 0 else 3 + 48)).wr Reg.QADM_STATUS_BUSY 0 2).wr Reg.NOTICE_Q_VALID (k % 2) 0
  let s := ((s.wr Reg.NOTICE_Q_QUEUE 7 0).wr Reg.TB_STATUS_RUN_ACTIVE 0).wr Reg.QFAULT (putBit 0 5 true) 0 0
  let s := (List.range 88).foldl (fun s r => (s.wr Reg.LEASE_ACTIVE 0 0 r).wr Reg.LEASE_HOLDER 0 0 r) s
  let s := [0, 66, 72].foldl (fun s r => ((s.wr Reg.LEASE_ACTIVE (k % 3 % 2) 0 r).wr Reg.LEASE_HOLDER (if k % 3 = 1 then 2 else 0) 0 r).putLeaseBit 2 r (k % 3 = 1)) s
  let type := [0, 1, 4, 2, 5, 3].getD (k / 2 % 6) 0
  let x : Queue := { host := [type + 4 * 256 + 0x30000, 0x1000, 0, 7, 0, 0, if k % 3 = 0 then 0 else 0x2000, 0], state := k % 4, prod := 20, cons := 18, expSeq := 5, unpublished := k % 3, events := k % 2,
                     head := if k % 4 = 1 then some [0x30001] else none, begun := if k % 5 = 4 then [{ index := 17, words := [0x30101] }] else [], used := 3 }
  let x := if k = 21 ∨ k = 23 ∨ k = 13 then { x with prod := x.cons + x.size, state := 1 } else x
  let x := if k = 6 ∨ k = 10 ∨ k = 18 ∨ k = 22 then { x with state := 1 } else x
  let x := if k = 32 then { x with prod := 31, cons := 31, state := 1 } else if k ≥ 24 then { x with prod := if k = 25 then 34 else 30, cons := 30 } else x
  let y : Queue := { x with host := [1 + 6 * 256, 0x1000, 0, 7, 0, 0, 0x3000, 0], state := 1, begun := [] }
  let s := if k = 30 then ((s.wr Reg.CAP_STATUS_LEVEL 3).wr Reg.CAP_RES_GUAR 0 0 0).wr Reg.CAP_RES_GUAR 0 0 2 else s
  { s with tb := { ns := 77 }, cap := { s.cap with short := if k = 30 then [1] else [] },
           fr := { s.fr with queues := if k % 11 = 9 then [] else if k % 11 = 8 then [(7, y)] else [(5, x), (7, y), (32773, { x with state := 1 })],
                             parked := if k % 11 = 8 ∨ k % 11 = 9 then (if k % 4 = 0 then [(7, 1)] else [(5, 1 + k % 3), (7, 1)]) else [],
                             loads := if k % 4 = 0 ∧ k % 11 = 9 then List.replicate 8192 100000 else [],
                             staged := [{ queue := 5, kind := [0, 2, 5, 2, 5, 0].getD (k / 2 % 6) 0, words := List.replicate (if k % 2 = 0 then 20 else 14) 1 }, { queue := 7, kind := 2 }, { queue := 32773, kind := 9, words := List.replicate 60 3 }, { queue := 32773, kind := 2, words := [] }],
                             revoking := if k % 2 = 0 then [0, 72] else [66], leaseMs := [(0, 5), (66, 7)], expired := if k % 4 = 0 then [(2, 78)] else [] } }
def mk14b (s : State) (k : Nat) : State :=
  let s := ((s.wr Reg.QSEL_QUEUE 5 0).wr Reg.QSEL_QUEUE 9 2).wr Reg.MBX_STATUS_STATE 2 0
  let s := (s.wr Reg.TEN_STATE_STATE (if k % 5 = 3 then 1 else if k % 5 = 4 then 0 else 2 + 32)).wr Reg.MBX_STATUS_STATE 2 2
  let s := (s.wr Reg.TEN_VER_VER 0x33).wr Reg.DMA_STATUS_STATE 0 3
  let xf : Xfer := { queue := if k % 2 = 0 then 5 else 32773, bursts := if k % 3 = 0 then [{}] else [] }
  let words := [0x30001 + 2 * (k % 2), 5, 0, 0, 0, 0, if k % 2 = 1 then 0x306 else if k % 6 = 0 then 3 + (1 <<< 30) else 3, if k % 4 = 1 then 0x14 else 0x1000, 0x2000, if k % 2 = 1 then 0xFF0000 else 0, 0x5000, 8, 0x10001, 0, 0, 0]
  let words := if k % 2 = 1 then words.take 10 ++ [0, 0, 0, 0, 0, 0] else words
  { s with fr := { s.fr with loads := [9, 5], enabling := if k % 6 = 0 then [9] else [], doorbells := if k % 4 = 1 then [(9, 3)] else [],
                             resets := if k % 4 = 3 then [(2, { absent := k % 8 = 3, down := k % 3 = 0, hello := if k % 3 = 2 then some [1] else none })] else [],
                             queues := if k % 4 = 2 then s.fr.queues else s.fr.queues.map fun e => if e.1 = 7 then e else (e.1, { e.2 with host := e.2.host.set 0 (4 * 256 + 0x30000), state := 1, head := if k % 5 = 1 then none else some words, prod := e.2.cons + 3 }) },
           dma := { s.dma with channels := if k % 7 = 6 then [(1, { current := some xf })] else [] },
           mgmt := { s.mgmt with requests := [(0, [[0x401, 15, 7, 8], [0x401, 5, 7, 8], [0x401, 0, 7, 8], [0x301, 1]].getD (k % 4) []), (2, [0x401, 3, 7, 8])], replies := if k % 9 = 8 then [(2, [1])] else [] } }
def mkX (k : Nat) : Xfer :=
  let e := [4, 2, 1, 6].getD (k % 4) 1
  let n2 := 1 + k % 2
  let bs : List Burst := match k % 6 with
    | 0 => []
    | 1 => [{ first := 0, count := 8 }]
    | 2 => [{ first := 0, count := 8, failed := true, tries := 1 }, { first := 8, count := 10 }]
    | 3 => [{ first := 0, count := 10, tries := 3 }, { first := 10, count := 8, tries := 1 }]
    | 4 => [{ first := 0, count := 8 }]
    | _ => [{ first := 0, count := 8 }, { first := 8, count := 8, data := some [] }]
  { queue := if k % 2 = 0 then 5 else 32773, index := 17, esize := e, n0 := 5, n1 := 2, n2 := n2,
    src := 0xFFC + k, dst := if k % 13 = 12 then 2 ^ 63 else 0x5000 + 3 * k, swapB := k % 2 = 0, swapH := k % 3 = 0,
    srcStep := [(e : Int), 20, -8], dstStep := [(e : Int), -20, 8], serial := k % 7 = 6,
    granted := if k % 3 = 0 then 8 else if k % 3 = 1 then 0 else 1000, issued := if k % 6 = 0 then 10 * n2 else 1,
    trailing := k % 8 = 7, payload := k % 9 = 8, native := k % 10 = 8, stop := if k % 11 = 10 then some 6 else none,
    bursts := bs, carry := if k % 5 = 4 then [9] else [] }
def mk15 (s : State) (k : Nat) : State :=
  let s := (s.wr Reg.DMA_STATUS_STATE (if k % 5 = 4 then 2 else if k % 3 = 0 then 0 else 1) 0).wr Reg.DMA_STATUS_STATE 1 1
  let s := (s.wr Reg.DMA_STATUS_STATE (if k % 5 = 4 then 2 else 0) 2).wr Reg.DMA_STATUS_STATE 2 63
  let s := ([0, 1, 2, 63] : List Nat).foldl (fun s c => (((s.wr Reg.DMA_CTL_RETRY 2 c).wr Reg.DMA_CTL_REQ_EN ((c + k) % 2) c).wr Reg.DMA_CTL_REQ_SEL (if c = 1 then 63 else if c = 63 then 63 else 3) c).wr Reg.DMA_STATUS_REQ_PEND (if k % 3 = c % 3 then 255 else 2) c) s
  let s := ((s.wr Reg.LEASE_ACTIVE 1 0 0).wr Reg.LEASE_HOLDER 2 0 0).wr Reg.TEN_VER_VER 0x33
  let x : Queue := { host := [4 * 256 + 0x30000, 0x1000, 0, 7], state := 1, prod := 20, cons := 18, begun := [{ index := 17 }, { index := 18 }] }
  let ic : Interrupts := [0, 2, 16].foldl (fun ic c =>
    let ic := ((ic.wr Reg.IC_CTL_EN (if k % 4 = 3 then 0 else 1) c).wr Reg.IC_PROF_COUNT [1, 3, 2].head! c).wr Reg.IC_PROF_COUNT 3 c 1
    let ic := ((ic.wr Reg.IC_PROF_TIME_US 2 c 0).wr Reg.IC_PROF_TIME_US 0 c 1)
    let ic := ((ic.wr (profileRow 3) (k % 2) c 0).wr (profileRow 40) 1 c 10)
    let ic := ((ic.wr (prioRow 3) 2 c 0).wr (prioRow 40) (1 + k % 3) c 10).wr (prioRow 1022) 3 c 255
    let ic := (ic.putBit Reg.IC_PENDING_BITS c 3 (k % 3 = 1)).putBit Reg.IC_PENDING_BITS c 1022 (k % 5 = 1)
    let ic := (ic.putBit Reg.IC_INSERVICE_BITS c 40 (k % 3 = 1)).putBit Reg.IC_INSERVICE_BITS c 3 (k % 4 = 1)
    { ic with count := if k % 2 = 0 then tput (1024 * c + 40) (k % 4) (tput (1024 * c + 3) (if k % 4 = 0 then 2 else 254) ic.count) else ic.count,
              since := tput (1024 * c + 3) (if k % 4 = 0 then 0 else 4000) ic.since,
              owed := if k % 2 = 0 then ic.owed ++ [c] else ic.owed, msix := if k % 3 = 0 then ic.msix else tput c ⟨true, false, k % 3 = 1, k % 5 < 3, 0x1000, 5⟩ ic.msix }) s.nt.ic
  let ic := if k % 3 = 2 then (icUpdate 0 (icUpdate 2 (ic, []))).1 else ic
  { s with tb := { ns := 5000 }, nt := { s.nt with ic := ic },
           fr := { s.fr with queues := [(5, x), (7, { x with host := [1 + 6 * 256, 0x1000], begun := [] }), (32773, x)] },
           dma := { s.dma with channels := if k % 10 = 9 then [] else [(0, { current := some (mkX k), waiting := if k % 5 = 3 then [mkX (k + 1)] else [] }), (1, { current := some (mkX (k + 7)) })], last := if k % 2 = 0 then [(0, 1)] else [] } }
def mk16 (s : State) (k : Nat) : State :=
  let st := (List.range 8).map fun d => if d < 2 then 2 else [2, 3, 0, 1, 4, 2, 3].getD ((k + d) % 7) 2
  let s := s.wr Reg.DOM_STATE_STATE (st.reverse.foldl (fun a d => a * 8 + d) 0)
  let s := (s.wr Reg.DOM_CTL_ON (if k % 2 = 0 then 63 else 0x15)).wr Reg.TB_STATUS_RUN_ACTIVE (k % 3 % 2)
  let s := (s.wr Reg.DOM_DRAIN_MAX_NS 100).wr Reg.TEN_VER_VER 3
  let s := s.wr Reg.TEN_STATE_STATE (if k % 2 = 0 then 2 else 3)
  let s := ((s.wr Reg.LANE_FLT_HELD (k % 2) 0 3).wr Reg.LANE_FLT_LIMIT_LIMIT (k % 4)).wr Reg.LANE_FLT_HELD 0 0 5
  let s := (((s.wr Reg.CAP_RES_GUAR 1 0 0).wr Reg.CAP_RES_HOST_IN (if k % 3 = 0 then 0 else 60) 0 0).wr Reg.CAP_DELIV_A_HOST_IN 100).wr Reg.THROT_FRAC_F (if k % 5 = 0 then 300 else 1000)
  let s := ((s.wr Reg.CAP_STATUS_LEVEL (k % 5)).wr Reg.CAP_STATUS_SHORT (k % 2)).wr Reg.CAP_CTL_HOLD_MS 3
  let s := if k % 3 = 0 then (List.range 16).foldl (fun s t => s.wr Reg.CAP_RES_GUAR 0 0 t) s else s
  let x : Queue := { host := [4 * 256 + 0x30000, 0x1000, 0, 7], state := k % 4, prod := 20, cons := 18, early := k % 3 = 0, head := some [0x30002], begun := if k % 4 = 3 then [{ index := 17 }] else [] }
  let xf : Xfer := { queue := 40, index := 17, payload := k % 2 = 0, src := if k % 2 = 0 then 4 else 2 ^ 63 + 0x80000, bursts := if k % 5 = 0 then [{ count := 4 }] else [] }
  let x40 : Queue := { host := [4 * 256 + 0x30000, 0x1000, 0, 7], state := 1, prod := 20, cons := 18, early := k % 2 = 0, head := some [0x30002], begun := [{ index := 17 }] }
  { s with tb := { ns := 5000 },
           fr := { s.fr with queues := [(3, x), (5, { x with state := 1, begun := [] }), (7, { x with host := [1 + 6 * 256, 0x1000], state := 1, head := none, early := false }), (40, x40)],
                             staged := [{ kind := 0 }, { kind := 1, queue := 3 }, { kind := 5 }] },
           cap := { s.cap with clear := k % 4 }, lt := { s.lt with line := 12 },
           ref := { s.ref with jobs := if k % 2 = 0 then [] else [{ id := 4, lines := [(3, [1]), (5, [2])] }] },
           lanes := [(3, { next := 10, resetIn := if k % 3 = 0 then some 1 else none, faults := [4000, 4500] }), (5, { next := 11 })],
           flt := { s.flt with drains := [(3, 4000), (4, 10)] },
           outLines := [(4, {})], 
           dma := { s.dma with channels := if k % 7 = 6 then [] else [(0, { current := some xf, waiting := if k % 4 = 1 then [xf] else [] })] } }
def mk18 (s : State) (k : Nat) : State :=
  let s := (s.wr Reg.DOM_STATE_STATE 0o22222222)
  let s := (List.range 12).foldl (fun s m => ((s.wr Reg.MON_V_LO 500 0 m).wr Reg.MON_V_HI 1000 0 m).wr Reg.MON_ALARM ((k + m) % 2) 0 m) s
  let s := ((s.wr Reg.UPD_STATUS_STATE (k % 7)).wr Reg.UPD_STATUS_OWNER (1 + k % 2)).wr Reg.UPD_FREE_BYTES (if k % 5 = 0 then 3 else 65000)
  let s := (s.wr Reg.UPD_COUNT_BYTES (if k % 3 = 0 then 4194302 else 512)).wr Reg.USB_LOG_MASK_BITS 6
  let s := ((s.wr Reg.MBX_STATUS_STATE (k % 4) 0).wr Reg.MBX_STATUS_STATE ((k / 4) % 4) 2).wr Reg.MBX_H2M_CTL_LEN 3 0
  let s := (s.wr Reg.TEN_STATE_STATE (if k % 3 = 0 then 2 + 32 else 1)).wr Reg.LOG_MIRROR_MASK_BITS 0xF
  let s := ((s.wr Reg.LOG_SEL_SEQ (k % 5)).wr Reg.LOG_SRC_SRC (k % 2)).wr Reg.TB_STATUS_RUN_ACTIVE (k % 2)
  let s := if k % 4 = 3 then (((s.wrS Reg.THROT_CTL_TH_START 18000).wr Reg.DIAG_VALID 1 3 3).wrS Reg.THERM_CFG_T_SET (if k % 3 = 0 then 31000 else 32500)) else (s.wr Reg.THERM_STATUS_STATE 0)
  let s := (s.wrS Reg.DIAG_VALUE (if k % 8 = 3 then 31500 else if k % 8 = 7 then 26000 else 5000) 3 3).wr Reg.DIAG_VALID 1 3 3
  let e : LogEntry := ⟨4, 3, 1 + k % 6, 2, 0, 0, 0, 5, 6, 7⟩
  let c : BootCopy := { valid := k % 5 != 4, count := 4, confirmed := k % 2, trial := if k % 3 = 0 then some (k % 2) else if k % 3 = 1 then some (1 - k % 2) else none, attempted := k % 4 < 2 }
  { s with tb := { ns := 5000 },
           nt := { s.nt with log := { s.nt.log with lostPending := k % 3 % 2, intake := List.replicate (if k % 7 = 6 then 255 else if k % 7 = 5 then 256 else k % 4) e, ring := if k = 9 then List.replicate 8192 e else [{ e with seq := 4 }, e], waiting := List.replicate (if k % 5 = 0 then 0 else 10) e, mirrorStopped := k % 6 = 5, next := 8, mirror := [{ e with seq := 2 }] },
                             usb := { s.nt.usb with active := k % 2 = 1, queue := if k % 3 = 0 then List.replicate 64 [] else [] } },
           therm := { s.therm with samples := [(3, 4), (5, 1)], volts := [(3, 4001), (5, 70000)], amps := [(3, 90), (5, 3)], power := [(3, 123456)], outside := [(2, 3), (4, 1), (5, 2), (6, 2), (7, 2), (8, 5)], good := k % 11, missed := [(3, 9)], temps := if k % 2 = 0 then [] else (List.range 16).map fun (n : Nat) => f64OfInt (if k % 16 = 7 then 130 else if k % 16 = 5 then 121 else 50 + n) },
           converters := [(3, { tempTime := 4000 })],
           mgmt := { s.mgmt with logWanted := k % 3 != 0, running := k % 5 != 0, recovery := k % 10 = 0, bootDue := k % 4 != 3, buffer := if k % 3 = 1 then [] else List.replicate 300 7, target := k % 2,
                                 flash := { s.mgmt.flash with fitted := k % 3 != 1, bankA := [1, 2], bankB := [3], copyA := c, copyB := { c with count := 3 + k % 4 } },
                                 stores := [⟨0, 5, 0x900, 0x100, 15, 77⟩, ⟨2, 5, 0x900, 0x104, 15, 78⟩, ⟨2, 6, 0x902, 0x44, 15, 78⟩],
                                 requests := [(0, [[0x102, 0, 0], [0x102], [0x302, 1], [0x303, 4, 5], [0x303, 4]].getD (k % 5) []), (2, [[0x303, 8, 9], [0x103], [0x102], [0x404]].getD (k % 4) [])],
                                 replies := if k % 6 = 4 then [(0, [0x481, 4, 16384, 0]), (2, [0x2FF, 3])] else if k % 6 = 5 then [(2, [0x481, 8, 16384, 2])] else [] } }
def mk19 (s : State) (k : Nat) : State :=
  let s := ((s.wr Reg.DOM_STATE_STATE 0o22222222).wr Reg.USB_STATUS_STATE (if k % 3 = 0 then 4 else k % 7)).wr Reg.USB_CTL_EN (if k % 5 = 0 then 0 else 1)
  let s := (((s.wr Reg.USB_CTL_RD_EN 1).wr Reg.USB_CTL_WR_EN (k % 2)).wr Reg.USB_CTL_UPD_EN (if k % 4 = 1 then 0 else 1)).wr Reg.USB_STATUS_HS (k % 2)
  let s := (s.wr Reg.USB_EVT_MASK_MASK 0xFF).wr Reg.USB_CTL_WAKE_EN 1
  let s := ((s.wr Reg.UPD_STATUS_STATE (if k % 2 = 0 then 1 else k % 7)).wr Reg.UPD_STATUS_OWNER (if k % 3 = 1 then 1 else 2)).wr Reg.UPD_FREE_BYTES (if k % 5 = 1 then 3 else 65000)
  let s := (s.wr Reg.UPD_COUNT_BYTES 512).wr Reg.MBX_STATUS_STATE 0
  let s := (((s.wr Reg.TWT_CTL_EN (if k % 6 = 5 then 0 else 1)).wr Reg.TWT_ADDR_BASE 88).wr Reg.TWT_ADDR_MASK 0x7F).wr Reg.TWT_ALERT_MASK_MASK 0x203
  let s := ((s.wr Reg.TWC_CTL_EN (if k % 7 = 5 then 0 else 1)).wr Reg.TWC_STATUS_BUSY (k % 4 % 2)).wr Reg.TWC_CTL_RETRIES 3
  let e : LogEntry := ⟨4, 3, 1 + k % 6, 2, 0, 0, 0, 5, 6, 7⟩
  { s with tb := { ns := 5000 }, flt := { s.flt with shutdown := k % 13 = 12 },
           nt := { s.nt with log := { s.nt.log with intake := if k % 4 = 3 then [e] else [], ring := (List.range (if k % 5 < 2 then 20 else k % 5)).reverse.map fun i => { e with seq := i }, next := 20, mirror := (List.range 3).reverse.map fun i => { e with seq := i }, mirrorSeq := 3 },
                             usb := { s.nt.usb with active := k % 2 = 1, suspended := k % 4 < 2, rwake := k % 5 < 3, queue := if k % 3 = 0 then [] else if k % 11 = 10 then List.replicate 64 [] else [[0x105, 2, 3, 4], [1, 2, 3, 4]], wakePending := k % 3 = 1, wakeSent := k % 6 = 2 ∨ k % 6 = 0 ∨ k % 5 = 4, wakeCollided := k % 7 = 6, wakeKind := 4 },
                             alerts := { status := if k % 2 = 0 then 0x201 else 1, alerting := if k % 3 = 0 then 0 else if k % 3 = 1 then 1 else 0x21 } },
           usb := { s.usb with vbus := k % 2 = 0, prior := [4, 3, 2].getD (k % 3) 0, halts := if k % 9 = 8 then 30 else 0, stream := if k % 4 = 1 then none else some ⟨if k % 3 = 0 then 1 else 20, k % 8 = 6, k % 5 = 0 || k == 4⟩, onyxBusy := k % 5 = 1 },
           mgmt := { s.mgmt with running := k % 8 != 7, recovery := false },
           twt := { pointer := 0x1004 + k, busyUntil := if k % 5 = 0 then 6000 else 4000 },
           twc := { s.twc with host := if k % 3 = 0 then none else some ⟨88, [1, 2], if k % 2 = 0 then 2 else 6⟩, losses := k % 4, stuck := k % 6 = 4, refused := k % 5 = 2 },
           onyx := { s.onyx with power := if k % 2 = 0 then .operating else .retention } }
def frames20 : List (List Nat) := [[1, 2], [1, 3], [2, 2], [2, 2, 0], [3, 7, 2, 1, 0, 0, 0], [3, 7, 0, 1, 0, 0, 0], [3, 7, 64, 0, 0, 0, 0], [4, 2], [4, 1], [5, 7, 1, 16, 39, 0, 0], [5, 7, 9, 151, 0, 0, 0], [5, 7, 10, 1, 0, 0, 0], [5, 7, 2, 200, 0, 0, 0], [6, 6, 5, 0, 0, 0], [6, 6, 5, 0, 0], [7, 2], [7, 7], [8, 2], [0, 2], [200, 3, 3]]
def mk20 (s : State) (k : Nat) : State :=
  let ps : Store := [(1, 10000), (2, 100), (4, 10000), (5, 100), (7, 100 + k), (8, 1000), (9, if k % 10 = 7 then 150 else 0)]
  let ps := if k % 4 = 3 then ps.tail else if k % 4 = 2 then ps ++ [(3, 1)] else ps
  let a0 : Int := if k % 3 = 0 then 999 else if k % 3 = 1 then -999 else 5
  let o : Onyx := { power := .operating, params := ps, wheel0 := { n := 7, a := k % 3 = 1, b := k % 5 < 2, r := if k % 2 = 0 then 0 else -5000, qerr := 2 ^ 32 - 1, advance := a0 }, wheel1 := { n := -3, r := if k % 5 = 0 then 9000 else 0, advance := if k % 7 < 4 then a0 else 500 },
                    h := 77, u := -5, mark := 3, jobNo := 2 ^ 32 - 1, state := [.metering, .fault, .overtemp, .unconfigured].getD (k / 2 % 4) .fault, before := if k % 2 = 0 then .metering else .fault, faultStart := -700, tempStart := if k % 2 = 0 then 99999999999 else 4,
                    streak := k / 8 % 3, streakAgrees := k % 10 < 5, windowError := k % 9 = 8, clock := 5000000000 * k, event := 2 ^ 32 - 1 }
  let o := if k % 4 = 3 then { o with state := .unconfigured } else o
  let o := (List.range (k % 5)).foldl (fun o _ => o.write 2 0 3) o
  let o := if k % 11 = 10 then { o with head := 1024, audit := [⟨1023, 0, 0, 0, 0, 0, 0, 0, 5⟩] } else if k % 11 = 9 then { o with head := 1020 - k % 8, audit := [] } else o
  let o := if k % 13 = 12 then { o with head := 1014, audit := [] } else if k % 13 = 11 then { o with head := 1015, audit := [] } else o
  let o := { o with staged := if k % 6 = 1 then [(1, 20000)] else if k % 6 = 2 then [(9, 150)] else if k % 6 = 3 then [(1 + k % 9, 200)] else if k % 6 = 4 then [(1, 0)] else [], release := if k % 6 = 5 then some ([0, 1, 2, 16].getD (k % 4) 0) else none }
  let o := if k % 17 = 16 then { o with power := .retention, gapSec := 9 } else o
  { s.wr Reg.USB_STATUS_STATE (if k % 3 = 0 then 4 else 3) with onyx := { o with frame := if k % 8 = 7 then none else some (frames20.getD (k % 20) []), reply := if k % 8 = 7 then some [0x84, 0, 4, 0] else none }, tb := { ns := 987654321987 }, usb := { s.usb with onyxBusy := k % 16 != 7, onyxReply := if k % 2 = 0 then some [0x84, 0, 4, 0] else none, halts := if k % 7 = 5 then 8 else 0 }, flt := { s.flt with shutdown := k % 19 = 18 } }
def mk21 (s : State) (k : Nat) : State :=
  let s := (s.wr Reg.DOM_STATE_STATE 0o22222222).wr Reg.IK_CTL_EN 1
  let s := ((s.wr Reg.IK_STATUS_STATE ([4, 4, 3, 5, 1, 2, 0, 4].getD (k % 8) 4)).wr Reg.IK_CTL_LEAD (if k % 3 = 0 then 1 else 0)).wr Reg.IK_STATUS_POS ([0, 1, 2].getD (k % 5) 0)
  let s := ((s.wr Reg.IK_STATUS_NDEV (2 + k % 2)).wr Reg.IK_STATUS_LEADER_POS ([0, 1].getD (k / 2 % 2) 0)).wr Reg.IKP_STATUS_UP (if k % 7 = 6 then 0 else 1) 0
  let s := (s.wr Reg.IKP_STATUS_UP (if k % 11 > 8 then 0 else 1) 1).wr Reg.TB_STATUS_RUN_ACTIVE (if k % 8 < 2 ∨ k % 8 = 7 then 1 else 0)
  let b : Blob := { area := 7, sumDist := 70, remotes := [{ side := k % 2, id := 3 + k / 2 % 2, last := 2, firstY := 0, firstX := 0 }, { side := 1, id := 77, last := 2, firstY := 0, firstX := 0 }] }
  let s := s.wr Reg.IK_TB_RESYNCS_COUNT 0xFFFFFFFF
  { s with tb := { ns := 5000 }, lt := { s.lt with line := 4 }, flt := { s.flt with shutdown := k % 19 = 18 },
           ik := { s.ik with fails := [(0, k % 5), (1, 3)], slowing := k % 4 = 3, latency := if k % 2 = 0 then 0 else 88, within := if k % 2 = 0 then none else some 4, order := if k % 6 = 5 then some (k % 4 < 2, 100, 6000) else none,
                              chain := if k % 3 = 2 then [] else [(0, { offer := 1, lead := k % 2 = 0, digest := List.replicate 32 7, src := 12, width := 78352, overlap := 16 }), (1, { src := 12 })],
                              reports := if k % 5 < 2 then [] else [(0, List.replicate 32 (if k % 5 = 4 then 9 else 7))], commit := if k % 4 = 1 then some { fields := [] } else none },
           lanes := if k % 2 = 0 then [] else [(11, { next := 5 })],
           comp := { s.comp with next := 3, blobs := if k % 3 = 1 then [] else [b], items := if k % 4 = 0 then [] else [(0, { id := 5, compared := 2 ^ 32 - 2 }), (1, { id := 6 })] } }
def mk22 (s : State) (k : Nat) : State :=
  let s := (s.wr Reg.DOM_STATE_STATE 0o22222222)
  let s := ((s.wr Reg.PAGE_COMMIT_GROUP 5 0x1A1).wr Reg.PAGE_COMMIT_GROUP 3 0x123).wr Reg.PAGE_COMMIT_GROUP (if k % 3 = 0 then 2 else 0) 5
  let s := (s.wr Reg.GROUP_OWNER 2 0 2).wr Reg.GROUP_OWNER (if k % 5 = 1 then 2 else 7) 0 5
  let s := (s.wr Reg.TB_STATUS_RUN_ACTIVE (k % 2)).wr Reg.DEV_GEN_GEN (if k % 3 = 0 then 2 ^ 32 - 1 else 7)
  let s := (s.shadowWr Reg.TOL_WL 300).shadowWr Reg.TOL_TH_BASE 9
  let s := s.wr Reg.TOL_WA 17
  let s := (((s.wr Reg.GRANT_VALID 1 0 1 0).wr Reg.GRANT_PAGE 0x123 0 1 0).wr Reg.GRANT_VALID 1 1 0 4).wr Reg.GRANT_PAGE 0x123 1 0 4
  let key := Reg.TOL_WL.key 0 0 0
  { s with lt := { s.lt with line := if k % 4 = 1 then 100 else 2 ^ 32 - 3 }, nt := { s.nt with events := [(5, 3), (0x1A1, 0x25)] },
           shadow := if k % 9 = 8 then s.shadow ++ [(0x1A2 * 131072 + 1024, 3)] else s.shadow,
           ik := { s.ik with commit := if k % 11 = 5 then some { fields := [] } else none },
           commits := if k % 6 < 2 then { waiting := [{ groups := [5], line := if k = 7 then 2 ^ 33 else if k % 4 = 3 then 2 ^ 32 - 9 else 90, fields := [(key, some 4), (key + 32, none)] }] ++ (if k % 12 = 7 then [{ groups := [9], line := 2 ^ 34, fields := [] }] else []), moves := if k = 12 then [(0x400, 2)] else [] } else {} }
def mk23 (s : State) (k : Nat) : State :=
  let s := (s.wr Reg.DOM_STATE_STATE (if k % 13 = 12 then 0o22221222 else 0o22222222))
  let s := ((s.wr Reg.TB_STATUS_RUN_ACTIVE (k % 2)).wr Reg.DEV_RUN_STATUS_STARTING (if k % 6 = 2 then 1 else 0)).wr Reg.BANK_CAL_BUSY (if k % 10 = 8 then 1 else 0)
  let s := (s.wr Reg.IK_STATUS_STATE (if k % 7 = 6 then 3 else if k % 7 = 5 then 2 else 0)).wr Reg.IK_CTL_LEAD (if k % 2 = 0 ∧ k % 4 = 0 then 1 else 0)
  let s := (s.wr Reg.LT_CTL_SRC (if k % 4 = 0 then 15 else if k % 4 = 1 then 0 else 2)).wr Reg.LT_START_COUNTS (if k % 5 = 1 then 0 else 3)
  let s := ((s.wr Reg.LT_DIV_FRAC_VALUE 7).wr Reg.LT_DIV_INT_VALUE (if k % 3 = 0 then 0 else 2)).wr Reg.LT_CTL_INTERP (k / 2 % 2)
  let s := ((s.wr Reg.ENC_CTL_EN 1 0).wr Reg.ENC_CTL_EN (k / 2 % 2) 2).wr Reg.ENC_CTL_MODE (k / 3 % 2) 2
  let s := (s.wr Reg.ENC_COUNT_VALUE 0xFFFFFFFF 0).wr Reg.ENC_CTL_INVERT (k / 5 % 2) 0
  let s := ((s.wr Reg.SG_CTL_EN 1 0).wr Reg.SG_CTL_EN (k % 2) 1).wr Reg.SG_CTL_EN (if k % 3 = 1 then 1 else 0) 2
  let s := (s.wr Reg.TB_STATUS_LOCKED (if k % 4 = 3 then 0 else 1)).wr Reg.THIN_STATUS_KEEP (if k % 3 = 1 then 0x800 else 0x1000)
  let s := (s.wr Reg.LT_DEFER_LIMIT_NS (if k % 2 = 0 then 10 else 2000)).wr Reg.LT_SKIPPED_COUNT 0xFFFFFFFF
  let s := s.wr Reg.LT_DEFERRED_COUNT 5
  let s := ((s.wr Reg.BR_STATUS_STATE (k % 4) 1).wr Reg.SG_GEOM_PIXELS 64 0).wr Reg.SG_PIX_KHZ 5000 0
  { s with tb := { ns := 5000 }, flt := { s.flt with shutdown := k % 19 = 18 },
           lt := { s.lt with line := 9, src := if k % 4 < 2 then 0 else 2, pos := (6 : Int) * 2 ^ 32, next := if k % 5 = 0 then 2 ^ 33 else 6 * 2 ^ 32 + 2 ^ 31, div := 2 ^ 32, raw := if k % 2 = 0 then none else some 7, owed := if k % 3 = 0 then [] else [(7, 4000), (8, 4500)], predict := if k % 3 = 2 then none else some 5010, deferred := if k / 3 % 3 = 1 then some (6, 3900) else none, start := if k / 2 % 5 = 1 then some (5, 3800) else none },
           cast := { s.cast with aborting := k % 8 = 4 },
           encoders := [(0, { a := k % 3 = 0, b := k % 5 < 2, lastEdge := some 4970, lastDir := 1, lastTime := 4000 })],
           groups := if k % 9 = 0 then [] else [(0, { live := k % 4 ≠ 2, inMin := k % 3 = 0, unread := if k % 2 = 0 then none else some (4, 100), runs := true, flushDue := k % 5 = 1, startNs := 4000, swapAt := if k % 17 = 3 then some 2 else none }), (1, { live := true, inMin := k % 6 = 3, unread := some (4, 100), flushDue := true }), (2, { live := k % 4 = 1, inMin := k % 4 = 1, unread := some (3, 10) })],
           thin := if k % 7 = 2 then { queue := [(0x400, 1)] } else {},
           commits := if k % 16 = 9 then { waiting := [{ groups := [1], line := 9, fields := [] }] } else {} }
def mk24 (s : State) (k : Nat) : State :=
  let s := ((s.wr Reg.DOM_STATE_STATE (if k % 13 = 12 then 0 else 0o22222222)).wr Reg.PFE_CTL_EN 1).wr Reg.TB_STATUS_LOCKED (if k = 7 then 0 else 1)
  let s := (List.range 4).foldl (fun s p => (((s.wr Reg.BR_STATUS_STATE (if k % 3 = 0 then (k / 3 + p) % 4 else (k + 3 * p) % 8) p).wr Reg.BR_CTL_EN (if (k + p) % 4 = 3 then 0 else 1) p).wr Reg.BR_STATUS_OPEN_CONF 1 p).wr Reg.BR_ERR_SYNC_ERRS (if p = 1 then 0xFFFFFFFF else 4) p) s
  let s := [0, 1, 2, 63].foldl (fun s c => ((s.wr Reg.DMA_CTL_REQ_EN 1 c).wr Reg.DMA_CTL_REQ_SEL ((k + c) % 7) c).wr Reg.DMA_STATUS_REQ_PEND (if k % 5 = 2 then 255 else 7) c) s
  let s := ((s.wr Reg.TB_STATUS_RUN_ACTIVE (if k % 7 = 6 then 1 else 0)).wr Reg.SHEET_CTL_EN (if k % 3 = 0 then 0 else 1)).wr Reg.SHEET_STATUS_PAUSED (if k % 3 = 0 then 0 else k / 3 % 2)
  let s := ((s.wr Reg.DEV_MODE_MODE 1).wr Reg.SHEET_CTL_LEAD_EN 1).wr Reg.REF_LEAD_VALUE (if k % 2 = 0 then 100 else 10)
  let s := (((s.wr Reg.SHEET_LEAD_GO 60).wr Reg.SHEET_LEAD_STOP 50).wr Reg.SHEET_STATUS_LEAD 1).wr Reg.SHEET_STATUS_QUEUES 5
  let s := (List.range 8).foldl (fun s a => (s.wr Reg.MOT_STATUS_STATE ((a + k) % 8) a).wr Reg.MOT_VEL_VALUE 99 a) s
  let s := (List.range 4).foldl (fun s q => s.wr Reg.SHEET_Q_VALID 0 0 q) s
  let s := if k % 5 = 0 then (((s.wr Reg.BR_GEOM_COLS 2 1).wr Reg.BR_GEOM_ROWS 2 1).wr Reg.BR_POOL_BASE 4000 1).wr Reg.BR_POOL_GSETS 1 1 else s
  let s := ((s.wr Reg.PFE_STATUS_BUSY 1).wr Reg.PFE_STATUS_STEP 3).wr Reg.SHEET_PAUSES_COUNT 0xFFFFFFFF
  let set : Store := if k % 3 = 0 then [] else
    regsPut (regsPut (regsPut (regsPut (regsPut (regsPut [] Reg.SLOT_MODE 1 0 4 0) Reg.SLOT_MODE (k % 4) 0 5 0) Reg.SLOT_PGA 3 0 4 0) Reg.AO_KIND (k % 4) 0 0 0) Reg.AO_KIND 3 0 7 0) Reg.PFE_CHECK_TOL 1000 0 0 0
  let fr (n : Nat) : Option BrFrame := if n % 3 = 0 then none else if n % 3 = 1 then some { time := 9, rows := [{}] } else some { time := 10, rows := [{}, {}], inClosed := n % 2 = 0, opened := n % 4 = 1 }
  { s with pfe := { s.pfe with settings := set, held := k % 4 == 3, codes := [(4, { code := 8000 })], check := if k % 6 = 5 then none else some (4194304 + (if k % 4 = 0 then 1100 else 5), 4194304 - 40 * (k % 3)) }, tb := { ns := 5000000000 },
           beryl := { s.beryl with ports := (List.range 4).map fun p => (p, { frame := fr (k + p), geom := [2, 2, 0, 8 * p, 0], en := (k + p) % 5 != 1, silent := true, reported := k % 2 = 0 }) },
           axes := (List.range 8).map fun a => (a, { set := 40 + a, before := 7, p := fxOf (40 + a), v := fxOf (k % 3 * 100000 * (a - 3)), waiting := if (a + k) % 3 = 0 then [] else if (a + k) % 3 = 1 then [(4999999000, .stop)] else [(3, .target 4), (4999999500, .stop)] }) }
def mk25 (s : State) (k : Nat) : State :=
  let s := (s.wr Reg.DOM_STATE_STATE (if k % 5 = 4 then 0 else 0o22222222))
  let s := (s.wr Reg.UPD_STATUS_STATE (k % 4)).wr Reg.DEV_LAST_COUNT (if k % 3 = 0 then 65535 else 4)
  let s := (s.wr Reg.TB_RATE_PPB 77).wr Reg.MGMT_SVN_FUSES (if k % 2 = 0 then 7 else 0)
  let s := (s.wr Reg.TOL_WL 3).shadowWr Reg.TOL_WL 3
  let s := s.wr Reg.DEV_MODE_MODE (k % 2)
  let s := if k % 3 = 1 then ((s.wr Reg.GRANT_VALID 1 0 1 0).wr Reg.GRANT_PAGE 0x123 0 1 0).wr Reg.GRANT_RD_ONLY (k % 2) 0 1 0 else s
  let e : LogEntry := ⟨1, 0xFFFFFFFE, 3, 4, 5, 6, 7, 8, 9, 10⟩
  { s with tb := { ns := 5000, frac := 9 }, onyx := { s.onyx with clock := 9 }, captures := [(5, 5)], pending := if k % 2 = 0 then [] else [.perstNAssert],
           mgmt := { s.mgmt with running := k % 3 ≠ 2, target := k % 2, flash := flashOf { bankA := [1, 2, 3], bankB := [4, 5] }, revoked := 2 },
           flt := { s.flt with shutdown := k % 7 = 6, held := k % 11 = 10, strapLead := k % 2 = 0, strapAddr := 3 },
           lt := { s.lt with line := 9 }, nt := { s.nt with events := [(5, 3)], log := { s.nt.log with next := if k % 2 = 0 then 0xFFFFFFFF else 6, intake := if k % 8 = 3 then List.replicate 256 e else [e], ring := [e], mirror := if k % 3 = 0 then [] else [e], lostPending := if k % 8 = 5 then 2 else 0 } } }

theorem test_witness_TimeAndPairs :
    (∃ (s : State) (a : Agent), (s.alive = true)) ∧
    (∃ (s : State) (a : Agent), (s.alive = true)) ∧
    (∃ (s : State) (a : Agent), (s.alive = true)) ∧
    (∃ (s : State) (a : Agent), (s.alive = true)) ∧
    (∃ (s : State) (a : Agent), (s.alive = true)) ∧
    (∃ (s : State) (a : Agent), (s.alive = true)) ∧
    (∃ (s : State) (a : Agent) (g : Fin 16), (s.alive = true)) ∧
    (∃ (s : State) (a : Agent) (i : Fin 4), (s.alive = true) ∧ ∃ o, (o = [0x28, 0x60, 0x68, 0x70].getD i 0)) ∧
    (∃ (s : State) (a : Agent) (track : Bool), (s.alive = true) ∧ ∃ o, (o = (if track then 0x4C else 0x44))) ∧
    (∃ (s : State) (a : Agent) (x : Fin 8), (s.alive = true)) ∧
    (∃ (s : State) (a : Agent) (hi : Word), (s.alive = true) ∧ ∃ step : Int, (step = signed 64 ((s.wr
     Reg.TB_STEP_HI_VALUE hi.toNat).rdPair Reg.TB_STEP_LO_VALUE Reg.TB_STEP_HI_VALUE)) ∧ (s.follows = false) ∧ ((0
     ≤ step ∨ s.running = false))) ∧
    (∃ (s : State) (a : Agent) (hi : Word), (s.alive = true) ∧ ∃ step : Int, (step = signed 64 ((s.wr
     Reg.TB_STEP_HI_VALUE hi.toNat).rdPair Reg.TB_STEP_LO_VALUE Reg.TB_STEP_HI_VALUE)) ∧ (s.follows = true ∨ (step
     < 0 ∧ s.running = true))) := by
  refine ⟨⟨((mk02 .reset).getD 0 .reset), 0, ?_⟩,
   ⟨((mk02 .reset).getD 0 .reset), 0, ?_⟩,
   ⟨((mk02 .reset).getD 0 .reset), 0, ?_⟩,
   ⟨((mk02 .reset).getD 0 .reset), 0, ?_⟩,
   ⟨((mk02 .reset).getD 0 .reset), 0, ?_⟩,
   ⟨((mk02 .reset).getD 0 .reset), 0, ?_⟩,
   ⟨((mk02 .reset).getD 0 .reset), 0, 0, ?_⟩,
   ⟨((mk02 .reset).getD 0 .reset), 0, 0, ?_, _, rfl⟩,
   ⟨((mk02 .reset).getD 0 .reset), 0, true, ?_, _, rfl⟩,
   ⟨((mk02 .reset).getD 0 .reset), 0, 0, ?_⟩,
   ⟨((mk02 .reset).getD 0 .reset), 0, 0x00000000#32, ?_, _, rfl, ?_⟩,
   ⟨((mk02 .reset).getD 5 .reset), 0, 0xffffffff#32, ?_, _, rfl, ?_⟩⟩
  all_goals first | decide +kernel | (simp only [Onyx.wf, State.wf, TimeBase.wf, State.openFor, State.uncommitted, State.mayRun, State.Issues, State.Converts, State.Stages]; decide +kernel)

theorem test_witness_PaceAndVoltage :
    (∃ (s : State) (a : Agent) (v : Word), (s.alive = true) ∧ (v.toNat % 2 = s.rd Reg.DEV_MODE_MODE ∨ s.running =
     false)) ∧
    (∃ (s : State) (a : Agent) (v : Word), (s.alive = true) ∧ (v.toNat % 2 ≠ s.rd Reg.DEV_MODE_MODE) ∧ (s.running
     = true)) ∧
    (∃ (s : State) (tokens : List Nat), (s.alive = true) ∧ (tokens.length = 14)) ∧
    (∃ s : State, (s.alive = true) ∧ (s.mgmt.running = true) ∧ (s.on Reg.AVS_CTL_EN = true) ∧ (s.eventSet
     Ev.PACE_AVS_FAULT = false) ∧ (s.avs.stopped = false) ∧ (s.avs.due = true) ∧ (s.on Reg.AVS_CTL_LINK = false) ∧
     ∃ v, (v = (let v0 := s.rd Reg.AVS_VSET_MV; let vmin := if s.running then s.rd Reg.AVS_VLIMIT_VMIN_RUN else
     620; let target := s.rd Reg.AVS_TARGET_TARGET; let hyst := s.rd Reg.AVS_TARGET_HYST; if s.overCeiling then max
     (v0 - s.rd Reg.AVS_CTL_STEP) 620 else if s.rd Reg.HEADROOM_MIN_VALUE + hyst < target then (if v0 < s.rd
     Reg.AVS_VLIMIT_VMAX then min (v0 + s.rd Reg.AVS_CTL_STEP) (s.rd Reg.AVS_VLIMIT_VMAX) else v0) else if target +
     hyst < s.rd Reg.HEADROOM_MIN_VALUE then max (v0 - s.rd Reg.AVS_CTL_STEP) vmin else v0))) ∧
    (∃ (s : State) (error : Bool) (mv : Fin 1024), (s.alive = true) ∧ (s.avs.awaiting = true) ∧ (s.avs.readDue =
     true)) ∧
    (∃ (s : State) (v : Word), (s.alive = true)) := by
  refine ⟨⟨((mk02 .reset).getD 0 .reset), 0, 0x00000000#32, ?_⟩,
   ⟨((mk02 .reset).getD 5 .reset), 0, 0x00000001#32, ?_⟩,
   ⟨((mk02 .reset).getD 0 .reset), [0, 1, 2, 4, 8, 100, 0, 1, 2, 4, 8, 100, 0, 1], ?_⟩,
   ⟨((mk02 .reset).getD 1 .reset), ?_, ?_, ?_, ?_, ?_, ?_, ?_, _, rfl⟩,
   ⟨((mk02 .reset).getD 1 .reset), true, 0, ?_⟩,
   ⟨((mk02 .reset).getD 0 .reset), 0x00000000#32, ?_⟩⟩
  all_goals first | decide +kernel | (simp only [Onyx.wf, State.wf, TimeBase.wf, State.openFor, State.uncommitted, State.mayRun, State.Issues, State.Converts, State.Stages]; decide +kernel)

theorem test_witness_PawnControl :
    (∃ (s : State) (g : Fin 12), (s.Issues g 0)) ∧
    (∃ (s : State) (g : Fin 12), (s.Issues g 2) ∧ ∃ w, (w = (s.group g).ir)) ∧
    (∃ (s : State) (g : Fin 12), (s.Issues g 3) ∧ ∃ w, (w = (s.group g).ir) ∧ ∃ v, (v = (s.group g).counters.getD
     (bitsOf w 16 2) 0 - 1)) ∧
    (∃ (s : State) (g : Fin 12), (s.Issues g 4)) ∧
    (∃ (s : State) (g : Fin 12), (s.Issues g 5) ∧ ∃ w, (w = (s.group g).ir) ∧ ∃ arg, (arg = bitsOf w 16 7) ∧ ∃ x,
     (x = s.group g)) ∧
    (∃ (s : State) (g : Fin 12), (s.Issues g 6) ∧ ∃ w, (w = (s.group g).ir) ∧ ∃ bank, (bank = s.rd
     Reg.PAWN_STATUS_BANK g) ∧ ∃ old, (old = s.pawnWord g bank (w % 1024))) := by
  refine ⟨⟨(mk03 .reset 0), 3, ?_⟩,
   ⟨(mk03 .reset 6), 3, ?_, _, rfl⟩,
   ⟨(mk03 .reset 8), 3, ?_, _, rfl, _, rfl⟩,
   ⟨(mk03 .reset 0), 11, ?_⟩,
   ⟨(mk03 .reset 14), 3, ?_, _, rfl, _, rfl, _, rfl⟩,
   ⟨(mk03 .reset 22), 3, ?_, _, rfl, _, rfl, _, rfl⟩⟩
  all_goals first | decide +kernel | (simp only [Onyx.wf, State.wf, TimeBase.wf, State.openFor, State.uncommitted, State.mayRun, State.Issues, State.Converts, State.Stages]; decide +kernel)

theorem test_witness_PawnHostAndTime :
    (∃ (s : State) (g : Fin 12), (s.Issues g 1) ∧ ∃ w, (w = (s.group g).ir) ∧ ∃ n, (n = 64 * (s.group g).period +
     bitsOf w 24 6) ∧ (((s.advance g n).group g).runs = true) ∧ (((s.advance g n).group g).smp = true)) ∧
    (∃ (s : State) (g : Fin 12), (s.Issues g 7) ∧ ∃ x, (x = (s.advance g (64 * (s.group g).period + 1)).group g) ∧
     (x.runs = true)) ∧
    (∃ (s : State) (g : Fin 12), (s.alive = true) ∧ ((s.group g).live = true) ∧ ((s.group g).runs = true) ∧ ∃ x,
     (x = (s.advance g (64 * ((s.groupCfg g).rd Reg.SG_GEOM_PIXELS g + 32) + 1)).group g)) ∧
    (∃ (s : State) (g : Fin 12) (n : Fin 2), (s.alive = true) ∧ ∃ a, (a = 64 * (s.groupCfg g).rd
     Reg.SG_LED_START_PX g n + (s.groupCfg g).rd Reg.SG_LED_START_EDGE g n) ∧ ∃ b, (b = a + 64 * (s.groupCfg g).rd
     Reg.SG_LED_WIDTH_PX g n + (s.groupCfg g).rd Reg.SG_LED_WIDTH_EDGE g n) ∧ ∃ z, (z = 64 * ((s.groupCfg g).rd
     Reg.SG_GEOM_PIXELS g + 32)) ∧ ((s.group g).leds.length = 2) ∧ ∃ c, (c = (if s.running && (s.group g).live then
     s.groupCfg g else s)) ∧ ((s.group g).ledLevels.length = 2) ∧ ((s.group g).leds.getD n 0 = 1) ∧ (a < z)) ∧
    (∃ (s : State) (g : Fin 12) (n : Fin 2), (s.alive = true) ∧ ∃ a, (a = 64 * (s.groupCfg g).rd
     Reg.SG_LED_START_PX g n + (s.groupCfg g).rd Reg.SG_LED_START_EDGE g n) ∧ ∃ b, (b = a + 64 * (s.groupCfg g).rd
     Reg.SG_LED_WIDTH_PX g n + (s.groupCfg g).rd Reg.SG_LED_WIDTH_EDGE g n) ∧ ∃ z, (z = 64 * ((s.groupCfg g).rd
     Reg.SG_GEOM_PIXELS g + 32)) ∧ ((s.group g).leds.length = 2) ∧ ∃ c, (c = (if s.running && (s.group g).live then
     s.groupCfg g else s)) ∧ ((s.group g).ledLevels.length = 2) ∧ ((s.group g).leds.getD n 0 = 1) ∧ (z ≤ a)) ∧
    (∃ (s : State) (g : Fin 12) (n : Fin 2), (s.alive = true) ∧ ∃ a, (a = 64 * (s.groupCfg g).rd
     Reg.SG_LED_START_PX g n + (s.groupCfg g).rd Reg.SG_LED_START_EDGE g n) ∧ ∃ b, (b = a + 64 * (s.groupCfg g).rd
     Reg.SG_LED_WIDTH_PX g n + (s.groupCfg g).rd Reg.SG_LED_WIDTH_EDGE g n) ∧ ∃ z, (z = 64 * ((s.groupCfg g).rd
     Reg.SG_GEOM_PIXELS g + 32)) ∧ ((s.group g).leds.length = 2) ∧ ∃ c, (c = (if s.running && (s.group g).live then
     s.groupCfg g else s)) ∧ ((s.group g).ledLevels.length = 2) ∧ ((s.group g).leds.getD n 0 = 2)) ∧
    (∃ (s : State) (g : Fin 12) (v : Word), (s.alive = true) ∧ ∃ a, (a = s.rd Reg.PAWN_ADDR_ADDR g) ∧ ∃ bank,
     (bank = s.rd Reg.PAWN_STATUS_BANK g) ∧ (s.on Reg.PAWN_STATUS_SWAP_PENDING g = true)) ∧
    (∃ (s : State) (g : Fin 12) (v : Word), (s.alive = true) ∧ ∃ a, (a = s.rd Reg.PAWN_ADDR_ADDR g) ∧ ∃ bank,
     (bank = s.rd Reg.PAWN_STATUS_BANK g) ∧ (s.on Reg.PAWN_STATUS_SWAP_PENDING g = false)) ∧
    (∃ (s : State) (agent : Agent) (g : Fin 12), (s.alive = true) ∧ ∃ w, (w = s.pawnWord g (if s.on
     Reg.PAWN_ADDR_ACTIVE g then s.rd Reg.PAWN_STATUS_BANK g else 1 - s.rd Reg.PAWN_STATUS_BANK g) (s.rd
     Reg.PAWN_ADDR_ADDR g)) ∧ ∃ (sub : Fin 4) (width : Nat), (width = 1 ∨ width = 2 ∨ width = 4) ∧ (sub.val % width
     = 0)) ∧
    (∃ (s : State) (agent : Agent) (g : Fin 12) (sub : Fin 4), (s.alive = true) ∧ ∃ width, (width = 1 ∨ width = 2
     ∨ width = 4) ∧ (sub.val % width = 0)) ∧
    (∃ (s : State) (agent : Agent) (g : Fin 12) (sub : Fin 4) (width : Nat), (s.alive = true) ∧ (¬((width = 1 ∨
     width = 2 ∨ width = 4) ∧ sub.val % width = 0)) ∧ ((sub, width) ≠ (0, 8))) ∧
    (∃ (s : State) (n : Fin 4) (stood : Nat), (s.alive = true) ∧ (s.on Reg.ENC_CTL_EN n = true) ∧ (s.on
     Reg.ENC_CTL_Z_EN n = true) ∧ (s.rd Reg.ENC_CTL_FILT n ≤ stood)) ∧
    (∃ (s : State) (n : Fin 4) (stood : Nat), (s.alive = true) ∧ (s.on Reg.ENC_CTL_EN n = false ∨ s.on
     Reg.ENC_CTL_Z_EN n = false ∨ stood < s.rd Reg.ENC_CTL_FILT n)) := by
  refine ⟨⟨(mk03 .reset 3), 3, ?_, _, rfl, _, rfl, ?_⟩,
   ⟨(mk03 .reset 26), 3, ?_, _, rfl, ?_⟩,
   ⟨(mk03 .reset 0), 3, ?_, ?_, ?_, _, rfl⟩,
   ⟨(mk03 .reset 0), 3, 0, ?_, _, rfl, _, rfl, _, rfl, ?_, _, rfl, ?_⟩,
   ⟨(mk03 .reset 1), 3, 1, ?_, _, rfl, _, rfl, _, rfl, ?_, _, rfl, ?_⟩,
   ⟨(mk03 .reset 0), 3, 1, ?_, _, rfl, _, rfl, _, rfl, ?_, _, rfl, ?_⟩,
   ⟨(mk03 .reset 1), 3, 0x00000000#32, ?_, _, rfl, _, rfl, ?_⟩,
   ⟨(mk03 .reset 0), 3, 0x00000000#32, ?_, _, rfl, _, rfl, ?_⟩,
   ⟨(mk03 .reset 0), 0, 3, ?_, _, rfl, 0, 1, ?_⟩,
   ⟨(mk03 .reset 0), 0, 3, 0, ?_, 1, ?_⟩,
   ⟨(mk03 .reset 0), 0, 3, 0, 0, ?_⟩,
   ⟨(mk03 .reset 0), 1, 100, ?_⟩,
   ⟨(mk03 .reset 0), 0, 0, ?_⟩⟩
  all_goals first | decide +kernel | (simp only [Onyx.wf, State.wf, TimeBase.wf, State.openFor, State.uncommitted, State.mayRun, State.Issues, State.Converts, State.Stages]; decide +kernel)

theorem test_witness_LineConverters :
    (∃ (s : State) (c : Fin 97) (held level : Colours) (y : Nat × Nat), (s.Converts c) ∧ ∃ cfg, (cfg = s.groupCfg
     (c / 8)) ∧ ∃ col, (col = (s.buffer c).count % 3) ∧ (cfg.rd Reg.CHAN_CTL_REFMODE c = 1) ∧ (cfg.on (if col = 0
     then Reg.SCAN_MASK_RED else if col = 1 then Reg.SCAN_MASK_GREEN else Reg.SCAN_MASK_BLUE) c = true) ∧ ((s.group
     (c / 8)).reads = some y) ∧ ((s.group (c / 8)).discarded = false) ∧ ((s.lane (c / 8)).overrun = false) ∧
     ((s.readout y.1 c).discarded = false) ∧ ∃ v, (v = (if col = 0 then held.red else (s.conv c).held.getD col 0))
     ∧ ∃ ref, (ref = (if col = 0 then level.red else (s.conv c).levels.getD col 0)) ∧ ∃ ideal, (ideal = roundQuot
     ((v - ref) * 16384) (2000000000 / 2 ^ cfg.rd Reg.CHAN_FE_RANGE c col) + cfg.rdS Reg.CHAN_FE_OFFSET c col) ∧
     ((s.drained c y.1).level < 256)) ∧
    (∃ (s : State) (c : Fin 97) (held level : Colours) (y : Nat × Nat), (s.Converts c) ∧ ∃ cfg, (cfg = s.groupCfg
     (c / 8)) ∧ ∃ col, (col = (s.buffer c).count % 3) ∧ (cfg.rd Reg.CHAN_CTL_REFMODE c = 1) ∧ (cfg.on (if col = 0
     then Reg.SCAN_MASK_RED else if col = 1 then Reg.SCAN_MASK_GREEN else Reg.SCAN_MASK_BLUE) c = true) ∧ ((s.group
     (c / 8)).reads = some y) ∧ ((s.group (c / 8)).discarded = false) ∧ ((s.lane (c / 8)).overrun = false) ∧
     ((s.readout y.1 c).discarded = false) ∧ ∃ v, (v = (if col = 0 then held.red else (s.conv c).held.getD col 0))
     ∧ ∃ ref, (ref = (if col = 0 then level.red else (s.conv c).levels.getD col 0)) ∧ ∃ ideal, (ideal = roundQuot
     ((v - ref) * 16384) (2000000000 / 2 ^ cfg.rd Reg.CHAN_FE_RANGE c col) + cfg.rdS Reg.CHAN_FE_OFFSET c col) ∧
     (256 ≤ (s.drained c y.1).level)) ∧
    (∃ (s : State) (c y : Nat), (c < 96) ∧ ((s.line y).thinned = false)) ∧
    (∃ (s : State) (c : Fin 97) (held level : Colours) (g : Nat), (s.alive = true) ∧ (s.convGroup c = some g) ∧
     ((s.group g).trains = []) ∧ ((s.group g).modes.getD 8 0 = 0)) ∧
    (∃ (s : State) (c : Fin 97) (xs : List Int), (s.alive = true) ∧ ((s.conv c).late = []) ∧ (s.convEnabled c =
     true) ∧ (s.disconnected c = false) ∧ (xs.length = 2 ^ (s.convCfg c).rd Reg.BANK_DIAG_AVG_LOG) ∧ ((s.conv
     c).forced = none) ∧ ((s.byLine c = true → (s.conv c).diagDone < 5)) ∧ (s.isQuiet c = true) ∧ ∃ entry, (entry =
     s.nextEntry c) ∧ ∃ line, (line = ((((if s.byLine c then s.convGroup c else none).map fun g => (s.group
     g).number)).getD (s.conv c).sequences)) ∧ ((s.convCfg c).diagEnabled c entry = true) ∧ ((entry = 4 →
     s.plausBus c = true ∧ s.plaus.parts.contains c.val = true))) ∧
    (∃ (s : State) (c : Fin 97) (xs : List Int), (s.alive = true) ∧ ((s.conv c).late = []) ∧ (s.convEnabled c =
     true) ∧ (s.disconnected c = false) ∧ (xs.length = 2 ^ (s.convCfg c).rd Reg.BANK_DIAG_AVG_LOG) ∧ ((s.conv
     c).forced = none) ∧ ((s.byLine c = true → (s.conv c).diagDone < 5)) ∧ (s.isQuiet c = true) ∧ ∃ entry, (entry =
     s.nextEntry c) ∧ ∃ line, (line = ((((if s.byLine c then s.convGroup c else none).map fun g => (s.group
     g).number)).getD (s.conv c).sequences)) ∧ ((s.convCfg c).diagEnabled c entry = false)) ∧
    (∃ (s : State) (c : Fin 97) (xs : List Int) (e : Nat × Nat × Bool) (rest : List (Nat × Nat × Bool)), (s.alive
     = true) ∧ ((s.conv c).late = e :: rest) ∧ (xs ≠ [])) ∧
    (∃ s : State, (s.alive = true) ∧ (s.plaus.active = true) ∧ (s.plaus.parts.any s.plausWaits = false) ∧
     ((s.plaus.results.map (·.1)).Nodup) ∧ (s.castState < 2 ∨ 4 < s.castState)) ∧
    (∃ s : State, (s.alive = true) ∧ (s.plaus.active = true) ∧ (s.plaus.parts.any s.plausWaits = true) ∧
     (s.castState < 2 ∨ 4 < s.castState)) ∧
    (∃ (s : State) (c : Fin 97) (v : Word), (s.alive = true) ∧ ∃ busy : Bool, (busy = ((s.conv c).forced.isSome ||
     (match s.convGroup c with | some g => !(s.convCfg c).on Reg.SG_CTL_EN g | none => false) || s.on
     Reg.BANK_CAL_BUSY)) ∧ (v.toNat.testBit 31 = true) ∧ (busy = true)) ∧
    (∃ (s : State) (c : Fin 97) (v : Word), (s.alive = true) ∧ ∃ busy : Bool, (busy = ((s.conv c).forced.isSome ||
     (match s.convGroup c with | some g => !(s.convCfg c).on Reg.SG_CTL_EN g | none => false) || s.on
     Reg.BANK_CAL_BUSY)) ∧ (v.toNat.testBit 31 = true) ∧ (busy = false)) ∧
    (∃ (s : State) (c : Fin 97) (v : Word), (s.alive = true) ∧ ∃ busy : Bool, (busy = ((s.conv c).forced.isSome ||
     (match s.convGroup c with | some g => !(s.convCfg c).on Reg.SG_CTL_EN g | none => false) || s.on
     Reg.BANK_CAL_BUSY)) ∧ (v.toNat.testBit 31 = false)) ∧
    (∃ (s : State) (c : Fin 97) (v ref : Int) (i : Nat), (s.alive = true) ∧ ((s.conv c).forced = some i) ∧ (i < 8)
     ∧ (s.on Reg.BANK_CAL_BUSY = false) ∧ (s.cast.offline ≠ some c.val ∨ s.cast.eligible = true) ∧ (s.isQuiet c =
     true) ∧ ((s.byLine c = true → s.nextEntry c = 4 → (s.conv c).diagDone < 5 → s.diagConverts c 4 = false)) ∧ ∃
     k, (k = s.serves c) ∧ ∃ cfg, (cfg = s.convCfg c) ∧ ∃ level : Int, (level = (if cfg.rd Reg.CHAN_CTL_REFMODE k =
     1 then ref else if cfg.rd Reg.CHAN_CTL_REFMODE k = 2 then (s.conv c).reset.getD i 0 else (s.conv c).clamp.getD
     i 0)) ∧ ∃ code, (code = (if i < 3 then colourCode (v - level) (cfg.rd Reg.CHAN_FE_RANGE k i) (cfg.rdS
     Reg.CHAN_FE_OFFSET k i) else diagCode (i - 3) v s.plaus.level))) ∧
    (∃ (s : State) (v : Word), (s.alive = true) ∧ ∃ refused : Bool, (refused = (s.running || s.on
     Reg.BANK_CAL_BUSY || !s.on Reg.TB_STATUS_LOCKED)) ∧ (v.toNat.testBit 0 = true) ∧ (refused = true)) ∧
    (∃ (s : State) (v : Word), (s.alive = true) ∧ ∃ refused : Bool, (refused = (s.running || s.on
     Reg.BANK_CAL_BUSY || !s.on Reg.TB_STATUS_LOCKED)) ∧ (v.toNat.testBit 0 = true) ∧ (refused = false)) ∧
    (∃ (s : State) (results : List Measured), (s.alive = true) ∧ (s.on Reg.BANK_CAL_BUSY = true) ∧ (results.length
     = 97)) := by
  refine ⟨⟨(mk04 .reset 2), 95, { red := 3, green := 4, blue := 5 }, { red := 3, green := 4, blue := 5 }, (4, 5), ?_, _, rfl, _, rfl, ?_, ?_, ?_, ?_, ?_, ?_, _, rfl, _, rfl, _, rfl, ?_⟩,
   ⟨(mk04 .reset 1), 0, { red := 3, green := 4, blue := 5 }, { red := 3, green := 4, blue := 5 }, (4, 5), ?_, _, rfl, _, rfl, ?_, ?_, ?_, ?_, ?_, ?_, _, rfl, _, rfl, _, rfl, ?_⟩,
   ⟨(mk04 .reset 0), 0, 0, ?_⟩,
   ⟨(mk04 .reset 0), 0, { red := 3, green := 4, blue := 5 }, { red := 3, green := 4, blue := 5 }, 0, ?_⟩,
   ⟨(mk04 .reset 10), 0, [5], ?_, ?_, ?_, ?_, ?_, ?_, ?_, ?_, _, rfl, _, rfl, ?_⟩,
   ⟨(mk04 .reset 18), 10, [5], ?_, ?_, ?_, ?_, ?_, ?_, ?_, ?_, _, rfl, _, rfl, ?_⟩,
   ⟨(mk04 .reset 2), 95, [5], (2, 44, true), [(4, 5, false)], ?_⟩,
   ⟨(mk04 .reset 0), ?_⟩,
   ⟨(mk04 .reset 8), ?_⟩,
   ⟨(mk04 .reset 0), 0, 0xc0000000#32, ?_, _, rfl, ?_⟩,
   ⟨(mk04 .reset 0), 10, 0xc0000000#32, ?_, _, rfl, ?_⟩,
   ⟨(mk04 .reset 0), 10, 0x0000000a#32, ?_, _, rfl, ?_⟩,
   ⟨(mk04 .reset 0), 96, 0, 0, 0, ?_, ?_, ?_, ?_, ?_, ?_, ?_, _, rfl, _, rfl, _, rfl, _, rfl⟩,
   ⟨(mk04 .reset 1), 0x8000005f#32, ?_, _, rfl, ?_⟩,
   ⟨(mk04 .reset 0), 0x8000005f#32, ?_, _, rfl, ?_⟩,
   ⟨(mk04 .reset 4), (List.replicate 97 ([32768, 32769, 32768, 32768, 32768, 32768], [3, -5, 6], [32768, 32768,
    32767], -50)), ?_⟩⟩
  all_goals first | decide +kernel | (simp only [Onyx.wf, State.wf, TimeBase.wf, State.openFor, State.uncommitted, State.mayRun, State.Issues, State.Converts, State.Stages]; decide +kernel)

theorem test_witness_Castling :
    (∃ (s : State) (v : Word), (s.alive = true) ∧ ∃ c, (c = v.toNat % 128) ∧ (v.toNat.testBit 30 = true) ∧ (96 < c
     ∨ s.castEnabled = false)) ∧
    (∃ (s : State) (v : Word), (s.alive = true) ∧ ∃ c, (c = v.toNat % 128) ∧ (v.toNat.testBit 30 = true) ∧ (c ≤
     96) ∧ (s.castEnabled = true)) ∧
    (∃ (s : State) (v : Word), (s.alive = true) ∧ ∃ c, (c = v.toNat % 128) ∧ (v.toNat.testBit 31 = true) ∧
     (s.castState ≠ 5 ∨ s.castChan ≠ c)) ∧
    (∃ (s : State) (v : Word), (s.alive = true) ∧ ∃ c, (c = v.toNat % 128) ∧ (v.toNat.testBit 31 = true) ∧
     (s.castState = 5) ∧ (s.castChan = c) ∧ (c < 96)) ∧
    (∃ (s : State) (c : Fin 96), (s.alive = true) ∧ (s.on Reg.CAST_CTL_AUTO = true) ∧ (s.rd Reg.THERM_STATUS_STATE
     ≠ 1) ∧ (s.rd Reg.CAST_TRIG_INTERVAL_S ≠ 0)) ∧
    (∃ (s : State) (c : Fin 96), (s.alive = true) ∧ (s.on Reg.CAST_CTL_AUTO = false ∨ s.rd Reg.THERM_STATUS_STATE
     = 1 ∨ s.rd Reg.CAST_TRIG_INTERVAL_S = 0)) ∧
    (∃ s : State, (s.alive = true) ∧ (s.castState = 0) ∧ (s.on Reg.CAST_CTL_EN = true) ∧ (s.running = true) ∧
     (s.carrying = false) ∧ (s.cast.swap = none) ∧ (s.cast.offline = none) ∧ (s.spareDue = true)) ∧
    (∃ s : State, (s.alive = true) ∧ (s.castState = 0) ∧ (s.on Reg.CAST_CTL_EN = true) ∧ (s.running = true) ∧
     (s.carrying = false) ∧ (s.cast.swap = none) ∧ (s.cast.offline = none) ∧ (s.spareDue = false) ∧ ((∀ k, k < 96 →
     s.castRank k = none))) ∧
    (∃ s : State, (s.alive = true) ∧ (s.castState = 0) ∧ (s.on Reg.CAST_CTL_EN = true) ∧ (s.running = true) ∧
     (s.carrying = false) ∧ (s.cast.swap = none) ∧ (s.cast.offline = none) ∧ (s.spareDue = false) ∧ ∃ k, (k < 96) ∧
     ((s.castRank k).isSome = true) ∧ (s.cast.excess = [])) ∧
    (∃ (s : State) (c : Nat), (s.alive = true) ∧ (s.cast.offline = some c) ∧ (s.cast.aborting = false)) ∧
    (∃ (s : State) (c : Nat), (s.alive = true) ∧ (s.cast.offline = some c) ∧ (s.cast.aborting = true) ∧ (c < 96)) ∧
    (∃ (s : State) (c : Fin 97) (j : Fin 4) (w : Fin 8) (v : Word), (s.alive = true) ∧ ∃ refused : Bool, (refused
     = (s.inCycle c || (c.val == 96 && s.cast.connected))) ∧ (refused = true)) ∧
    (∃ (s : State) (c : Fin 97) (j : Fin 4) (w : Fin 8) (v : Word), (s.alive = true) ∧ ∃ refused : Bool, (refused
     = (s.inCycle c || (c.val == 96 && s.cast.connected))) ∧ (refused = false) ∧ (w.val < 4) ∧ (c.val ≠ 96 ∨ j.val
     = 0)) ∧
    (∃ s : State, (s.alive = true) ∧ (s.castState = 2 ∨ s.castState = 4) ∧ (s.rd Reg.CAST_MATCH_LINES ≤ s.cast.lines) ∧ ∃ k, (k = s.castChan) ∧ (k < 96) ∧ ∃ fits, (fits = (List.range 3).map (fun col => if (s.coloursOn k).getD col false then fitColour (s.cast.acc.getD col []) (s.rd Reg.CAST_ACCEPT_MIN_SPAN) else ⟨true, {}, 0⟩)) ∧ ∃ last : Bool, (last = decide (s.rd Reg.CAST_MATCH_MAX_WIN ≤ s.rd Reg.CAST_STATUS_WIN + 1)) ∧ (fits.all (·.span) = true) ∧ (fits.all (·.accepted (s.rd Reg.CAST_ACCEPT_TOL)) = true) ∧ (s.castState = 2)) ∧
    (∃ s : State, (s.alive = true) ∧ (s.castState = 2 ∨ s.castState = 4) ∧ (s.rd Reg.CAST_MATCH_LINES ≤ s.cast.lines) ∧ ∃ k, (k = s.castChan) ∧ (k < 96) ∧ ∃ fits, (fits = (List.range 3).map (fun col => if (s.coloursOn k).getD col false then fitColour (s.cast.acc.getD col []) (s.rd Reg.CAST_ACCEPT_MIN_SPAN) else ⟨true, {}, 0⟩)) ∧ ∃ last : Bool, (last = decide (s.rd Reg.CAST_MATCH_MAX_WIN ≤ s.rd Reg.CAST_STATUS_WIN + 1)) ∧ (fits.all (·.span) = true) ∧ (fits.all (·.accepted (s.rd Reg.CAST_ACCEPT_TOL)) = true) ∧ (s.castState = 4)) ∧
    (∃ s : State, (s.alive = true) ∧ (s.castState = 2 ∨ s.castState = 4) ∧ (s.rd Reg.CAST_MATCH_LINES ≤ s.cast.lines) ∧ ∃ k, (k = s.castChan) ∧ (k < 96) ∧ ∃ fits, (fits = (List.range 3).map (fun col => if (s.coloursOn k).getD col false then fitColour (s.cast.acc.getD col []) (s.rd Reg.CAST_ACCEPT_MIN_SPAN) else ⟨true, {}, 0⟩)) ∧ ∃ last : Bool, (last = decide (s.rd Reg.CAST_MATCH_MAX_WIN ≤ s.rd Reg.CAST_STATUS_WIN + 1)) ∧ (fits.all (·.span) = true) ∧ (fits.all (·.accepted (s.rd Reg.CAST_ACCEPT_TOL)) = false)) ∧
    (∃ s : State, (s.alive = true) ∧ (s.castState = 2 ∨ s.castState = 4) ∧ (s.rd Reg.CAST_MATCH_LINES ≤ s.cast.lines) ∧ ∃ k, (k = s.castChan) ∧ (k < 96) ∧ ∃ fits, (fits = (List.range 3).map (fun col => if (s.coloursOn k).getD col false then fitColour (s.cast.acc.getD col []) (s.rd Reg.CAST_ACCEPT_MIN_SPAN) else ⟨true, {}, 0⟩)) ∧ ∃ last : Bool, (last = decide (s.rd Reg.CAST_MATCH_MAX_WIN ≤ s.rd Reg.CAST_STATUS_WIN + 1)) ∧ (fits.all (·.span) = false) ∧ (s.castState = 4)) ∧
    (∃ (s : State) (errors : List (List Nat)) (gains : List Nat) (c : Nat), (s.alive = true) ∧ (s.cast.offline =
     some c) ∧ (c < 97) ∧ (s.cast.aborting = false) ∧ (errors.length = 6) ∧ (gains.length = 6) ∧ ∃ pass : Bool,
     (pass = gains.all (fun g => decide (90 * 32768 ≤ 100 * g ∧ 100 * g ≤ 110 * 32768)))) := by
  refine ⟨⟨(mk04 .reset 0), 0x40000079#32, ?_, _, rfl, ?_⟩,
   ⟨(mk04 .reset 0), 0x40000000#32, ?_, _, rfl, ?_⟩,
   ⟨(mk04 .reset 0), 0xc0000000#32, ?_, _, rfl, ?_⟩,
   ⟨(mk04 .reset 5), 0x8000005f#32, ?_, _, rfl, ?_⟩,
   ⟨(mk04 .reset 0), 10, ?_⟩,
   ⟨(mk04 .reset 7), 10, ?_⟩,
   ⟨(mk04 .reset 8), ?_⟩,
   ⟨(mk04 .reset 10), ?_⟩,
   ⟨(mk04 .reset 7), ?_, ?_, ?_, ?_, ?_, ?_, ?_, ?_, 0, ?_⟩,
   ⟨(mk04 .reset 0), 10, ?_⟩,
   ⟨(mk04 .reset 3), 10, ?_⟩,
   ⟨(mk04 .reset 2), 95, 0, 0, 0x0000000a#32, ?_, _, rfl, ?_⟩,
   ⟨(mk04 .reset 0), 10, 0, 0, 0x0000000a#32, ?_, _, rfl, ?_⟩,
   ⟨(mk04 .reset 12), ?_, ?_, ?_, _, rfl, ?_, _, rfl, _, rfl, ?_⟩,
   ⟨(mk04 .reset 18), ?_, ?_, ?_, _, rfl, ?_, _, rfl, _, rfl, ?_⟩,
   ⟨(mk04 .reset 2), ?_, ?_, ?_, _, rfl, ?_, _, rfl, _, rfl, ?_⟩,
   ⟨(mk04 .reset 4), ?_, ?_, ?_, _, rfl, ?_, _, rfl, _, rfl, ?_⟩,
   ⟨(mk04 .reset 0), [[3, 2, 1, 5, 6, 7, 8, 9, 0], [3, 2, 1, 5, 6, 7, 8, 9, 0], [1, 2, 1, 5, 6, 7, 8, 9, 1], [],
    [], []], [32768, 32768, 32768, 32768, 32768, 32768], 10, ?_, ?_, ?_, ?_, ?_, ?_, _, rfl⟩⟩
  all_goals first | decide +kernel | (simp only [Onyx.wf, State.wf, TimeBase.wf, State.openFor, State.uncommitted, State.mayRun, State.Issues, State.Converts, State.Stages]; decide +kernel)

theorem test_witness_OpalImages :
    (∃ (s : State) (v : Word), (s.alive = true) ∧ ∃ ignored : Bool, (ignored = (s.capturing || !s.running ||
     s.opal.writes.any fun w => w.1 == s.opal.roles.getD 0 0)) ∧ (v.toNat.testBit 0 = true) ∧ (ignored = true)) ∧
    (∃ (s : State) (v : Word), (s.alive = true) ∧ ∃ ignored : Bool, (ignored = (s.capturing || !s.running ||
     s.opal.writes.any fun w => w.1 == s.opal.roles.getD 0 0)) ∧ (v.toNat.testBit 0 = true) ∧ (ignored = false)) ∧
    (∃ s : State, (s.alive = true) ∧ (s.capturing = true) ∧ ∃ n, (n = 2 ^ s.opal.linesLog) ∧ (n ≤ s.capFewest)) ∧
    (∃ s : State, (s.alive = true) ∧ (s.capturing = true) ∧ ∃ n, (n = 2 ^ s.opal.linesLog) ∧ (s.capFewest < n) ∧
     (s.opal.start + 2 * n < s.lt.line)) ∧
    (∃ s : State, (s.alive = true) ∧ (s.capturing = true) ∧ ∃ n, (n = 2 ^ s.opal.linesLog) ∧ (s.capFewest < n) ∧
     (s.lt.line ≤ s.opal.start + 2 * n)) ∧
    (∃ (s : State) (agent : Agent) (w : Fin 512), (s.alive = true) ∧ ∃ image, (image = s.rd Reg.XFER_IMAGE_IMAGE)
     ∧ ∃ b, (b = 2048 * s.rd Reg.XFER_ADDR_ADDR + 4 * w) ∧ ∃ v : Word, (b < imageSize image) ∧ (s.xferRefused image
     = false)) ∧
    (∃ (s : State) (agent : Agent) (w : Fin 512), (s.alive = true) ∧ ∃ image, (image = s.rd Reg.XFER_IMAGE_IMAGE)
     ∧ ∃ b, (b = 2048 * s.rd Reg.XFER_ADDR_ADDR + 4 * w) ∧ ∃ v : Word, (b < imageSize image) ∧ (s.xferRefused image
     = true)) ∧
    (∃ (s : State) (agent : Agent) (w : Fin 512), (s.alive = true) ∧ ∃ image, (image = s.rd Reg.XFER_IMAGE_IMAGE)
     ∧ ∃ b, (b = 2048 * s.rd Reg.XFER_ADDR_ADDR + 4 * w) ∧ (b < imageSize image) ∧ (s.opal.writes = [])) ∧
    (∃ (s : State) (agent : Agent) (w : Fin 512), (s.alive = true) ∧ ∃ image, (image = s.rd Reg.XFER_IMAGE_IMAGE)
     ∧ ∃ b, (b = 2048 * s.rd Reg.XFER_ADDR_ADDR + 4 * w) ∧ (imageSize image ≤ b)) ∧
    (∃ (s : State) (p b v : Nat) (l : List (Nat × Nat × Nat)), (s.alive = true) ∧ (s.opal.writes = (p, b, v) :: l)
     ∧ (p < 5) ∧ (v < 2 ^ 32)) ∧
    (∃ (s : State) (v : Word), (s.alive = true) ∧ (v.toNat.testBit 2 = true) ∧ (s.running = true)) ∧
    (∃ (s : State) (v : Word), (s.alive = true) ∧ (v.toNat.testBit 2 = true) ∧ (s.running = false)) := by
  refine ⟨⟨(mk06 .reset 0), 0x00000001#32, ?_, _, rfl, ?_⟩,
   ⟨(mk06 .reset 1), 0x00000001#32, ?_, _, rfl, ?_⟩,
   ⟨(mk06 .reset 7), ?_, ?_, _, rfl, ?_⟩,
   ⟨(mk06 .reset 5), ?_, ?_, _, rfl, ?_⟩,
   ⟨(mk06 .reset 9), ?_, ?_, _, rfl, ?_⟩,
   ⟨(mk06 .reset 0), 0, 0, ?_, _, rfl, _, rfl, 0x00000000#32, ?_⟩,
   ⟨(mk06 .reset 1), 0, 0, ?_, _, rfl, _, rfl, 0x00000000#32, ?_⟩,
   ⟨(mk06 .reset 1), 0, 0, ?_, _, rfl, _, rfl, ?_⟩,
   ⟨(mk06 .reset 3), 0, 0, ?_, _, rfl, _, rfl, ?_⟩,
   ⟨(mk06 .reset 0), 0, 1000, 2882343476, [(1, 2, 3)], ?_⟩,
   ⟨(mk06 .reset 1), 0xffffffff#32, ?_⟩,
   ⟨(mk06 .reset 0), 0xffffffff#32, ?_⟩⟩
  all_goals first | decide +kernel | (simp only [Onyx.wf, State.wf, TimeBase.wf, State.openFor, State.uncommitted, State.mayRun, State.Issues, State.Converts, State.Stages]; decide +kernel)

theorem test_witness_ReferenceFeed :
    (∃ (s : State) (q : Fin 262144), (s.alive = true) ∧ ∃ x w, (s.refHead q = some (x, w)) ∧ (s.domain 3 = 2) ∧
     (x.early = false) ∧ (s.refReason q w ≠ 0) ∧ (s.refEarly w = false)) ∧
    (∃ (s : State) (q : Fin 262144), (s.alive = true) ∧ ∃ x w, (s.refHead q = some (x, w)) ∧ (s.domain 3 = 2) ∧
     (x.early = false) ∧ (s.refEarly w = true)) ∧
    (∃ (s : State) (q : Fin 262144), (s.alive = true) ∧ ∃ x w, (s.refHead q = some (x, w)) ∧ (s.domain 3 = 2) ∧
     (x.early = false) ∧ (s.refReason q w = 0) ∧ (s.refEarly w = false) ∧ ((s.channel x.channel).current = none) ∧
     ((s.channel x.channel).waiting = []) ∧ (s.rd Reg.DMA_STATUS_STATE x.channel ≠ 2) ∧ (s.holds (tenantOf q)
     x.channel = true)) ∧
    (∃ (s : State) (q : Fin 262144), (s.alive = true) ∧ ∃ x w, (s.refHead q = some (x, w)) ∧ (s.domain 3 = 2) ∧
     (x.early = true) ∧ (s.refEarly w = true)) ∧
    (∃ (s : State) (q : Fin 262144), (s.alive = true) ∧ ∃ x w, (s.refHead q = some (x, w)) ∧ (s.domain 3 = 2) ∧
     (x.early = true) ∧ (s.refReason q w ≠ 0) ∧ (s.refEarly w = false)) ∧
    (∃ (s : State) (q : Fin 262144), (s.alive = true) ∧ ∃ x w, (s.refHead q = some (x, w)) ∧ (s.domain 3 = 2) ∧
     (x.early = true) ∧ (s.refReason q w = 0) ∧ (s.refEarly w = false) ∧ ((s.channel x.channel).waiting.length <
     32)) ∧
    (∃ (s : State) (c : Fin 64), (s.alive = true) ∧ ∃ x, ((s.channel c).current = some x) ∧ (x.payload = true) ∧
     (x.stop = none) ∧ (x.n0 * x.n1 ≤ x.data.length) ∧ ∃ bad : Bool, (bad = (((wordAt x.words 0x30).testBit 22 &&
     crc32 x.data != wordAt x.words 0x38) || (!(wordAt x.words 0x30).testBit 22 && s.on Reg.REF_CTL_CRC_REQ))) ∧ ∃
     j, (j = s.jobTagged (bitsOf (wordAt x.words 0x30) 0 16)) ∧ ∃ n, (n = (fun k => ((List.range (refCount
     x.words)).filter fun i => s.arrivalOf j (refLine x.words + i) == k).length)) ∧ (bad = true)) ∧
    (∃ (s : State) (c : Fin 64), (s.alive = true) ∧ ∃ x, ((s.channel c).current = some x) ∧ (x.payload = true) ∧
     (x.stop = none) ∧ (x.n0 * x.n1 ≤ x.data.length) ∧ ∃ bad : Bool, (bad = (((wordAt x.words 0x30).testBit 22 &&
     crc32 x.data != wordAt x.words 0x38) || (!(wordAt x.words 0x30).testBit 22 && s.on Reg.REF_CTL_CRC_REQ))) ∧ ∃
     j, (j = s.jobTagged (bitsOf (wordAt x.words 0x30) 0 16)) ∧ ∃ n, (n = (fun k => ((List.range (refCount
     x.words)).filter fun i => s.arrivalOf j (refLine x.words + i) == k).length)) ∧ (bad = false)) := by
  refine ⟨⟨(mk07 .reset 1), 5, ?_, _, _, someOf2 (by decide +kernel), ?_⟩,
   ⟨(mk07 .reset 3), 5, ?_, _, _, someOf2 (by decide +kernel), ?_⟩,
   ⟨(mk07 .reset 0), 5, ?_, _, _, someOf2 (by decide +kernel), ?_⟩,
   ⟨(mk07 .reset 8), 5, ?_, _, _, someOf2 (by decide +kernel), ?_⟩,
   ⟨(mk07 .reset 6), 5, ?_, _, _, someOf2 (by decide +kernel), ?_⟩,
   ⟨(mk07 .reset 7), 5, ?_, _, _, someOf2 (by decide +kernel), ?_⟩,
   ⟨(mk07 .reset 4), 4, ?_, _, someOf (by decide +kernel), ?_, ?_, ?_, _, rfl, _, rfl, _, rfl, ?_⟩,
   ⟨(mk07 .reset 1), 4, ?_, _, someOf (by decide +kernel), ?_, ?_, ?_, _, rfl, _, rfl, _, rfl, ?_⟩⟩
  all_goals first | decide +kernel | (simp only [Onyx.wf, State.wf, TimeBase.wf, State.openFor, State.uncommitted, State.mayRun, State.Issues, State.Converts, State.Stages]; decide +kernel)

theorem test_witness_RegistrationRows :
    (∃ (s : State) (c : Fin 1024), (s.alive = true) ∧ ∃ x, (s.reg.current = some x) ∧ ∃ j, (s.jobById x.1 = some
     j) ∧ ∃ size, (size = tileSize x.2.2) ∧ ∃ cols, (cols = s.columns (s.atLine (j.rowFirst size x.2.1)) j size) ∧
     (cols.1 ≤ c) ∧ (c < cols.1 + cols.2) ∧ (tfind c.val s.reg.tiles = none) ∧ (s.allPast (j.rowLast size x.2.1) =
     true) ∧ ∃ d, (d = s.decideTile j size x.2.1 c)) ∧
    (∃ (s : State), (s.alive = true) ∧ ∃ x, (s.rowNext = some x) ∧ ∃ j, (s.jobById x.job = some j) ∧ (j.stop =
     none) ∧ ∃ due, (due = j.rowFirst (tileSize x.tile) (x.row + 1) + 8) ∧ ∃ most, (most = s.lanesNext.foldl max 0)
     ∧ (most < due)) ∧
    (∃ (s : State), (s.alive = true) ∧ ∃ x, (s.rowNext = some x) ∧ ∃ j, (s.jobById x.job = some j) ∧ (j.stop =
     none) ∧ ∃ due, (due = j.rowFirst (tileSize x.tile) (x.row + 1) + 8) ∧ ∃ most, (most = s.lanesNext.foldl max 0)
     ∧ (due ≤ most)) ∧
    (∃ (s : State) (v : Word), (s.alive = true) ∧ (v.toNat % 2 = 1) ∧ (s.rd Reg.REG_STATUS_STATE ≠ 0)) ∧
    (∃ (s : State) (v : Word), (s.alive = true) ∧ (v.toNat % 2 = 0 ∨ s.rd Reg.REG_STATUS_STATE = 0)) := by
  refine ⟨⟨(mk07 .reset 0), 0, ?_, _, someOf (by decide +kernel), _, someOf (by decide +kernel), _, rfl, _, rfl, ?_, ?_,
    ?_, ?_, _, rfl⟩,
   ⟨(mk07 .reset 7), ?_, _, someOf (by decide +kernel), _, someOf (by decide +kernel), ?_, _, rfl, _, rfl, ?_⟩,
   ⟨(mk07 .reset 0), ?_, _, someOf (by decide +kernel), _, someOf (by decide +kernel), ?_, _, rfl, _, rfl, ?_⟩,
   ⟨(mk07 .reset 1), 0x00000001#32, ?_⟩,
   ⟨(mk07 .reset 0), 0x00000000#32, ?_⟩⟩
  all_goals first | decide +kernel | (simp only [Onyx.wf, State.wf, TimeBase.wf, State.openFor, State.uncommitted, State.mayRun, State.Issues, State.Converts, State.Stages]; decide +kernel)

theorem test_witness_LaneOutput :
    (∃ (s : State) (k : Fin 12), (s.alive = true) ∧ ∃ y, (y = (s.lane k).next) ∧ (s.laneReady k = true) ∧ ((k.val
     = 11 → s.eastNeighbour = true → (tfind y s.joints).isSome = true))) ∧
    (∃ (s : State) (k : Fin 12), (s.alive = true) ∧ ∃ y, (y = (s.lane k).next) ∧ (s.laneReady k = false ∨ (k.val =
     11 ∧ s.eastNeighbour = true ∧ (tfind y s.joints).isSome = false))) ∧
    (∃ s : State, (s.alive = true) ∧ ∃ y, (y = (s.lane 11).next) ∧ (s.laneReady 11 = true) ∧ (s.eastNeighbour =
     true) ∧ ((tfind y s.joints).isSome = false)) ∧
    (∃ s : State, (s.alive = true) ∧ ∃ y, (y = (s.lane 11).next) ∧ (s.laneReady 11 = false ∨ s.eastNeighbour =
     false ∨ (tfind y s.joints).isSome = true)) ∧
    (∃ s : State, (s.alive = true) ∧ ∃ w, (s.pw.oldest = some w) ∧ ∃ front, (front = s.lanesNext.foldl max 0) ∧ ∃
     ye, (ye = w.2) ∧ (w.1.cut = true)) ∧
    (∃ s : State, (s.alive = true) ∧ ∃ w, (s.pw.oldest = some w) ∧ ∃ front, (front = s.lanesNext.foldl max 0) ∧ ∃
     ye, (ye = w.2) ∧ (w.1.cut = false) ∧ (s.running = true) ∧ (s.allPast (ye + w.1.settings.getD 1 0) = true)) ∧
    (∃ s : State, (s.alive = true) ∧ ∃ w, (s.pw.oldest = some w) ∧ ∃ front, (front = s.lanesNext.foldl max 0) ∧ ∃
     ye, (ye = w.2) ∧ (w.1.cut = false) ∧ (s.running = false ∨ s.allPast (ye + w.1.settings.getD 1 0) = false)) ∧
    (∃ s : State, (s.alive = true) ∧ (s.pw.oldest = none)) := by
  refine ⟨⟨(mk09 .reset 0), 0, ?_, _, rfl, ?_⟩,
   ⟨(mk09 .reset 2), 0, ?_, _, rfl, ?_⟩,
   ⟨(mk09 .reset 4), ?_, _, rfl, ?_⟩,
   ⟨(mk09 .reset 0), ?_, _, rfl, ?_⟩,
   ⟨(mk09 .reset 10), ?_, _, someOf (by decide +kernel), _, rfl, _, rfl, ?_⟩,
   ⟨(mk09 .reset 0), ?_, _, someOf (by decide +kernel), _, rfl, _, rfl, ?_⟩,
   ⟨(mk09 .reset 3), ?_, _, someOf (by decide +kernel), _, rfl, _, rfl, ?_⟩,
   ⟨(mk09 .reset 11), ?_⟩⟩
  all_goals first | decide +kernel | (simp only [Onyx.wf, State.wf, TimeBase.wf, State.openFor, State.uncommitted, State.mayRun, State.Issues, State.Converts, State.Stages]; decide +kernel)

theorem test_witness_Records :
    (∃ s : State, (s.alive = true) ∧ ∃ edges : Bool, (edges = ((!s.westNeighbour || (tfind (2 * (s.comp.next + 2))
     s.comp.edges).isSome) && (!s.eastNeighbour || (tfind (2 * (s.comp.next + 2) + 1) s.comp.edges).isSome))) ∧
     (s.running = true) ∧ (s.allPast (s.comp.next + 2) = true) ∧ (edges = true)) ∧
    (∃ s : State, (s.alive = true) ∧ ∃ edges : Bool, (edges = ((!s.westNeighbour || (tfind (2 * (s.comp.next + 2))
     s.comp.edges).isSome) && (!s.eastNeighbour || (tfind (2 * (s.comp.next + 2) + 1) s.comp.edges).isSome))) ∧
     (s.running = false ∨ s.allPast (s.comp.next + 2) = false ∨ edges = false)) ∧
    (∃ s : State, (s.alive = true) ∧ ∃ c rest, (s.comp.closed = c :: rest) ∧ ∃ r : Staged, (r = { queue := c.queue, kind := 0, words := c.words, item := c.item }) ∧ (s.Stages r)) ∧
    (∃ s : State, (s.alive = true) ∧ ∃ c rest, (s.comp.closed = c :: rest) ∧ ∃ r : Staged, (r = { queue := c.queue, kind := 0, words := c.words, item := c.item }) ∧ (s.queueTakes r.queue 0 = false ∨ s.slotFree r = false)) ∧
    (∃ s : State, (s.alive = true) ∧ ∃ n i, (s.nextItem = some (n, i)) ∧ ∃ r : Staged, (r = { queue := i.queue, kind := 1, words := s.verdictRecord i, item := some n }) ∧ (s.holdsItem i = false)) ∧
    (∃ s : State, (s.alive = true) ∧ ∃ n i, (s.nextItem = some (n, i)) ∧ ∃ r : Staged, (r = { queue := i.queue, kind := 1, words := s.verdictRecord i, item := some n }) ∧ (s.holdsItem i = true) ∧ (s.Stages r)) ∧
    (∃ s : State, (s.alive = true) ∧ ∃ n i, (s.nextItem = some (n, i)) ∧ ∃ r : Staged, (r = { queue := i.queue, kind := 1, words := s.verdictRecord i, item := some n }) ∧ (s.holdsItem i = true) ∧ (s.queueTakes i.queue 1 = false)) ∧
    (∃ s : State, (s.alive = true) ∧ ∃ c rest, (s.comp.coverClosed = c :: rest) ∧ ∃ q, (q = c.queue) ∧ ∃ r : Staged, (r = { queue := q, kind := 2, words := c.words }) ∧ (s.Stages r)) ∧
    (∃ s : State, (s.alive = true) ∧ ∃ c rest, (s.comp.coverClosed = c :: rest) ∧ ∃ q, (q = c.queue) ∧ ∃ r : Staged, (r = { queue := q, kind := 2, words := c.words }) ∧ (s.queueTakes q 2 = true) ∧ (s.slotFree r = false)) ∧
    (∃ s : State, (s.alive = true) ∧ (s.comp.coverLeft = []) ∧ ∃ a b, (s.comp.backlog = some (a, b)) ∧ ∃ q, (q =
     (s.atLine b).rd Reg.COV_Q_QUEUE) ∧ (s.queueTakes q 2 = true) ∧ (s.coverSlot = false)) ∧
    (∃ s : State, (s.alive = true) ∧ (s.comp.coverLeft = []) ∧ ∃ a b, (s.comp.backlog = some (a, b)) ∧ ∃ q, (q =
     (s.atLine b).rd Reg.COV_Q_QUEUE) ∧ (s.queueTakes q 2 = true) ∧ (s.coverSlot = true)) ∧
    (∃ (s : State) (n : Fin 64), (s.alive = true) ∧ ∃ w, (s.windowDue (patchEntry n) (sget s.mp.patchFrom n) = some w) ∧ ∃ r : Staged, (r = { queue := s.rd Reg.PROD_Q_QUEUE 0 0, kind := 5, words := s.patchRecord n w.1 w.2.1 w.2.2.1 w.2.2.2 }) ∧ (s.on Reg.PROD_Q_VALID 0 0 = true) ∧ (s.Stages r)) ∧
    (∃ (s : State) (n : Fin 64), (s.alive = true) ∧ ∃ w, (s.windowDue (patchEntry n) (sget s.mp.patchFrom n) = some w) ∧ ∃ r : Staged, (r = { queue := s.rd Reg.PROD_Q_QUEUE 0 0, kind := 5, words := s.patchRecord n w.1 w.2.1 w.2.2.1 w.2.2.2 }) ∧ (s.on Reg.PROD_Q_VALID 0 0 = false)) ∧
    (∃ (s : State) (n : Fin 32), (s.alive = true) ∧ ∃ w, (s.windowDue (markEntry n) (sget s.mp.markFrom n) = some w) ∧ ∃ r : Staged, (r = { queue := s.rd Reg.PROD_Q_QUEUE 0 0, kind := 6, words := s.markRecord n w.1 w.2.1 w.2.2.1 w.2.2.2 }) ∧ (s.on Reg.PROD_Q_VALID 0 0 = true) ∧ (s.Stages r)) ∧
    (∃ (s : State) (n : Fin 32), (s.alive = true) ∧ ∃ w, (s.windowDue (markEntry n) (sget s.mp.markFrom n) = some w) ∧ ∃ r : Staged, (r = { queue := s.rd Reg.PROD_Q_QUEUE 0 0, kind := 6, words := s.markRecord n w.1 w.2.1 w.2.2.1 w.2.2.2 }) ∧ (s.on Reg.PROD_Q_VALID 0 0 = false)) ∧
    (∃ s : State, (s.alive = true) ∧ (s.mp.stopAt = none) ∧ ∃ first, (first = s.mp.prevBase + s.mp.prevIndex *
     (s.atLine s.mp.prevBase).rd Reg.PREV_GEOM_FY) ∧ ∃ fy, (fy = (s.atLine first).rd Reg.PREV_GEOM_FY) ∧ (0 < fy) ∧
     ((∀ i, i < fy → s.prevChange (first + i) = false)) ∧ (s.linesEnd < first + fy)) ∧
    (∃ s : State, (s.alive = true) ∧ (s.mp.stopAt = none) ∧ ∃ first, (first = s.mp.prevBase + s.mp.prevIndex *
     (s.atLine s.mp.prevBase).rd Reg.PREV_GEOM_FY) ∧ ∃ fy, (fy = (s.atLine first).rd Reg.PREV_GEOM_FY) ∧ (0 < fy) ∧
     ((∀ i, i < fy → s.prevChange (first + i) = false)) ∧ (first + fy ≤ s.linesEnd) ∧ ((s.atLine first).on
     Reg.MP_CTL_PREV_EN = false)) ∧
    (∃ s : State, (s.alive = true) ∧ (s.mp.stopAt = none) ∧ ∃ first, (first = s.mp.prevBase + s.mp.prevIndex *
     (s.atLine s.mp.prevBase).rd Reg.PREV_GEOM_FY) ∧ ∃ fy, (fy = (s.atLine first).rd Reg.PREV_GEOM_FY) ∧ (0 < fy) ∧
     ((∀ i, i < fy → s.prevChange (first + i) = false)) ∧ (first + fy ≤ s.linesEnd) ∧ ((s.atLine first).on
     Reg.MP_CTL_PREV_EN = true) ∧ (s.mp.prevIndex % max 1 ((s.atLine first).rd Reg.PREV_GEOM_SKIP) = 0) ∧ (1 ≤
     s.shedLevel)) ∧
    (∃ s : State, (s.alive = true) ∧ (s.mp.stopAt = none) ∧ ∃ first, (first = s.mp.prevBase + s.mp.prevIndex * (s.atLine s.mp.prevBase).rd Reg.PREV_GEOM_FY) ∧ ∃ fy, (fy = (s.atLine first).rd Reg.PREV_GEOM_FY) ∧ (0 < fy) ∧ ((∀ i, i < fy → s.prevChange (first + i) = false)) ∧ (first + fy ≤ s.linesEnd) ∧ ((s.atLine first).on Reg.MP_CTL_PREV_EN = true) ∧ (s.mp.prevIndex % max 1 ((s.atLine first).rd Reg.PREV_GEOM_SKIP) = 0) ∧ (s.shedLevel = 0) ∧ (s.on Reg.PROD_Q_VALID 0 1 = true) ∧ ∃ r : Staged, (r = { queue := s.rd Reg.PROD_Q_QUEUE 0 1, kind := 8, words := s.prevRecord first (first + fy - 1) }) ∧ (s.Stages r)) ∧
    (∃ s : State, (s.alive = true)) ∧
    (∃ (s : State) (n : Fin 6), (s.alive = true) ∧ (s.mp.stopAt = none) ∧ ∃ c, (tfind n.val s.mp.crops = some c) ∧
     ∃ v, (c.result = some v) ∧ (c.y0 + c.height ≤ s.linesEnd) ∧ (c.failOnly = true) ∧ (v.getD 4 0 = 0)) ∧
    (∃ (s : State) (n : Fin 6), (s.alive = true) ∧ (s.mp.stopAt = none) ∧ ∃ c, (tfind n.val s.mp.crops = some c) ∧ ∃ v, (c.result = some v) ∧ (c.y0 + c.height ≤ s.linesEnd) ∧ (c.failOnly = false ∨ v.getD 4 0 ≠ 0) ∧ (s.on Reg.PROD_Q_VALID 0 2 = true) ∧ ∃ r : Staged, (r = { queue := s.rd Reg.PROD_Q_QUEUE 0 2, kind := 9, words := s.cropRecord c c.height v }) ∧ (s.Stages r)) := by
  refine ⟨⟨(mk09 .reset 0), ?_, _, rfl, ?_⟩,
   ⟨(mk09 .reset 1), ?_, _, rfl, ?_⟩,
   ⟨(mk09 .reset 0), ?_, _, _, consOf (by decide +kernel), _, rfl, ?_⟩,
   ⟨(mk09 .reset 8), ?_, _, _, consOf (by decide +kernel), _, rfl, ?_⟩,
   ⟨(mk09 .reset 13), ?_, _, _, someOf2 (by decide +kernel), _, rfl, ?_⟩,
   ⟨(mk09 .reset 1), ?_, _, _, someOf2 (by decide +kernel), _, rfl, ?_⟩,
   ⟨(mk09 .reset 15), ?_, _, _, someOf2 (by decide +kernel), _, rfl, ?_⟩,
   ⟨(mk09 .reset 0), ?_, _, _, consOf (by decide +kernel), _, rfl, _, rfl, ?_⟩,
   ⟨(mk09 .reset 16), ?_, _, _, consOf (by decide +kernel), _, rfl, _, rfl, ?_, slotFull 114688 _ _ (by decide)
    rfl rfl⟩,
   ⟨(mk09 .reset 16), ?_, ?_, _, _, someOf2 (by decide +kernel), _, rfl, ?_, slotFull 114688 _ _ (by decide) rfl
    rfl⟩,
   ⟨(mk09 .reset 0), ?_, ?_, _, _, someOf2 (by decide +kernel), _, rfl, ?_⟩,
   ⟨(mk09 .reset 1), 1, ?_, _, someOf (by decide +kernel), _, rfl, ?_⟩,
   ⟨(mk09 .reset 0), 1, ?_, _, someOf (by decide +kernel), _, rfl, ?_⟩,
   ⟨(mk09 .reset 1), 1, ?_, _, someOf (by decide +kernel), _, rfl, ?_⟩,
   ⟨(mk09 .reset 0), 1, ?_, _, someOf (by decide +kernel), _, rfl, ?_⟩,
   ⟨(mk09 .reset 3), ?_, ?_, _, rfl, _, rfl, ?_⟩,
   ⟨(mk09 .reset 5), ?_, ?_, _, rfl, _, rfl, ?_⟩,
   ⟨(mk09 .reset 6), ?_, ?_, _, rfl, _, rfl, ?_⟩,
   ⟨(mk09 .reset 0), ?_, ?_, _, rfl, _, rfl, ?_, ?_, ?_, ?_, ?_, ?_, ?_, _, rfl, ?_⟩,
   ⟨(mk09 .reset 0), ?_⟩,
   ⟨(mk09 .reset 0), 0, ?_, ?_, _, someOf (by decide +kernel), _, someOf (by decide +kernel), ?_⟩,
   ⟨(mk09 .reset 1), 0, ?_, ?_, _, someOf (by decide +kernel), _, someOf (by decide +kernel), ?_, ?_, ?_, _, rfl,
    ?_⟩⟩
  all_goals first | decide +kernel | (simp only [Onyx.wf, State.wf, TimeBase.wf, State.openFor, State.uncommitted, State.mayRun, State.Issues, State.Converts, State.Stages]; decide +kernel)

theorem test_witness_BerylPorts :
    (∃ (s : State) (p : Fin 4) (w : Word), (s.alive = true) ∧ ((s.port p).tempBusy = true) ∧ (s.portState p ≠ 0) ∧
     ∃ ta, (ta = sat (rnd (((w.toNat % 2 ^ 16 : Nat) - (s.br? p).rd Reg.BR_TEMP_T_OFF p : Int) * (s.br? p).rd
     Reg.BR_TEMP_T_GAIN p) 12) (-32768) 32767)) ∧
    (∃ (s : State) (p : Fin 4) (v : Word), (s.alive = true) ∧ (s.rd Reg.BR_SPI_CTL_BUSY p = 0) ∧ (v.toNat.testBit
     31 = true)) ∧
    (∃ (s : State) (p : Fin 4) (rx : Word), (s.alive = true) ∧ (s.rd Reg.BR_SPI_CTL_BUSY p = 1) ∧ ((s.port
     p).hostWaits = false)) ∧
    (∃ (s : State) (n : Fin 8) (code : Fin 16384) (clip : Bool), (s.alive = true) ∧ (s.rd Reg.BVC_CTL_MODE 0 n =
     3) ∧ (s.domain 4 = 2)) ∧
    (∃ (s : State) (n : Fin 8) (code : Fin 16384) (clip : Bool), (s.alive = true) ∧ (s.rd Reg.BVC_CTL_MODE 0 n ≠ 3
     ∨ s.domain 4 ≠ 2)) ∧
    (∃ (s : State) (agent : Agent) (n : Fin 8), (s.alive = true)) ∧
    (∃ (s : State) (p : Fin 4) (a b : List (Fin 16384 × Bool)) (full : Bool), (s.alive = true) ∧ ∃ f, ((s.port
     p).frame = some f) ∧ (f.rows.length < s.brRows p) ∧ ∃ l, (l = mergeSamples ((s.brGeom p).getD 2 0 != 0)
     (s.brCols p) (a.map fun c => (c.1.val, c.2)) (b.map fun c => (c.1.val, c.2))) ∧ (full = true)) ∧
    (∃ (s : State) (p : Fin 4) (a b : List (Fin 16384 × Bool)) (full : Bool), (s.alive = true) ∧ ∃ f, ((s.port
     p).frame = some f) ∧ (f.rows.length < s.brRows p) ∧ ∃ l, (l = mergeSamples ((s.brGeom p).getD 2 0 != 0)
     (s.brCols p) (a.map fun c => (c.1.val, c.2)) (b.map fun c => (c.1.val, c.2))) ∧ (full = false) ∧ (l = none)) ∧
    (∃ (s : State) (p : Fin 4) (a b : List (Fin 16384 × Bool)) (full : Bool), (s.alive = true) ∧ ∃ f, ((s.port
     p).frame = some f) ∧ (f.rows.length < s.brRows p) ∧ ∃ l, (l = mergeSamples ((s.brGeom p).getD 2 0 != 0)
     (s.brCols p) (a.map fun c => (c.1.val, c.2)) (b.map fun c => (c.1.val, c.2))) ∧ (full = false) ∧ ∃ k, (l =
     some k)) ∧
    (∃ (s : State) (p : Fin 4), (s.alive = true) ∧ (s.portState p = 1 ∨ s.portState p = 2 ∨ (s.portState p = 6 ∧
     (s.port p).reported = true))) ∧
    (∃ (s : State) (p : Fin 4), (s.alive = true) ∧ (s.portState p = 4 ∨ s.portState p = 5)) ∧
    (∃ (s : State) (p : Fin 4), (s.alive = true) ∧ (s.portState p = 0 ∨ s.portState p = 3 ∨ s.portState p = 7)) ∧
    (∃ (s : State) (p : Fin 4), (s.alive = true) ∧ (s.portState p = 4)) ∧
    (∃ (s : State) (p : Fin 4), (s.alive = true) ∧ (s.portState p = 6) ∧ ((s.port p).reported = false)) ∧
    (∃ (s : State) (p : Fin 4) (v : Word), (s.alive = true) ∧ (v.toNat.testBit 0 = true)) ∧
    (∃ (s : State) (p : Fin 4), (s.alive = true) ∧ (s.portState p ≠ 0) ∧ (s.on Reg.BR_CTL_RECAL_AUTO p = true) ∧
     (s.rd Reg.BR_SHUT_INT_INTERVAL_S p ≠ 0)) ∧
    (∃ (s : State) (p : Fin 4), (s.alive = true) ∧ (s.portState p = 0 ∨ s.on Reg.BR_CTL_RECAL_AUTO p = false ∨
     s.rd Reg.BR_SHUT_INT_INTERVAL_S p = 0)) ∧
    (∃ s : State, (s.alive = true) ∧ (s.rd Reg.BR_ACC_OWNER ≠ 7)) ∧
    (∃ s : State, (s.alive = true) ∧ (s.rd Reg.BR_ACC_OWNER = 7) ∧ ∃ p, (s.brNext = some p) ∧ (s.brAxisFails p =
     false)) ∧
    (∃ (s : State) (p : Fin 4) (v : Word), (s.alive = true) ∧ (v.toNat.testBit 3 = true) ∧ (s.portState p = 7)) ∧
    (∃ (s : State) (p : Fin 4) (v : Word), (s.alive = true) ∧ (v.toNat.testBit 3 = false ∨ s.portState p ≠ 7)) ∧
    (∃ (s : State) (p : Fin 4) (v : Word), (s.alive = true) ∧ (v.toNat.testBit 1 = true) ∧ (s.rd Reg.BR_SNAP_BUSY
     = 1)) ∧
    (∃ (s : State) (p : Fin 4) (v : Word), (s.alive = true) ∧ (v.toNat.testBit 1 = true) ∧ (s.rd Reg.BR_SNAP_BUSY
     = 0)) := by
  refine ⟨⟨(mk11 .reset 3), 3, 0x00000000#32, ?_, ?_, ?_, _, rfl⟩,
   ⟨(mk11 .reset 0), 0, 0x80000007#32, ?_⟩,
   ⟨(mk11 .reset 1), 3, 0x00000000#32, ?_⟩,
   ⟨(mk11 .reset 0), 7, 0, true, ?_⟩,
   ⟨(mk11 .reset 0), 0, 0, true, ?_⟩,
   ⟨(mk11 .reset 0), 0, 0, ?_⟩,
   ⟨(mk11 .reset 0), 0, [(5, false), (6, true), (7, false), (16383, false)], [(5, false), (6, true), (7, false),
    (16383, false)], true, ?_, _, someOf (by decide +kernel), ?_, _, rfl, ?_⟩,
   ⟨(mk11 .reset 0), 0, [(5, false), (6, true), (7, false), (16383, false)], [(5, false), (6, true), (7, false),
    (16383, false)], false, ?_, _, someOf (by decide +kernel), ?_, _, rfl, ?_⟩,
   ⟨(mk11 .reset 1), 3, [(5, false), (6, true), (7, false), (16383, false)], [(5, false), (6, true), (7, false),
    (16383, false)], false, ?_, _, someOf (by decide +kernel), ?_, _, rfl, ?_, _, someOf (by decide +kernel)⟩,
   ⟨(mk11 .reset 1), 3, ?_⟩,
   ⟨(mk11 .reset 4), 0, ?_⟩,
   ⟨(mk11 .reset 0), 0, ?_⟩,
   ⟨(mk11 .reset 4), 0, ?_⟩,
   ⟨(mk11 .reset 14), 0, ?_⟩,
   ⟨(mk11 .reset 0), 0, 0x00000001#32, ?_⟩,
   ⟨(mk11 .reset 1), 3, ?_⟩,
   ⟨(mk11 .reset 0), 0, ?_⟩,
   ⟨(mk11 .reset 2), ?_⟩,
   ⟨(mk11 .reset 23), ?_, ?_, _, someOf (by decide +kernel), ?_⟩,
   ⟨(mk11 .reset 7), 3, 0x0000001f#32, ?_⟩,
   ⟨(mk11 .reset 0), 0, 0x00000000#32, ?_⟩,
   ⟨(mk11 .reset 2), 0, 0x80000007#32, ?_⟩,
   ⟨(mk11 .reset 0), 0, 0x80000007#32, ?_⟩⟩
  all_goals first | decide +kernel | (simp only [Onyx.wf, State.wf, TimeBase.wf, State.openFor, State.uncommitted, State.mayRun, State.Issues, State.Converts, State.Stages]; decide +kernel)

theorem test_witness_PrecisionFrontEnd :
    (∃ s : State, (s.alive = true) ∧ (s.pfeReady = true) ∧ (s.on Reg.PFE_CTL_TRIG = false) ∧ (s.on
     Reg.PFE_STATUS_BUSY = true)) ∧
    (∃ s : State, (s.alive = true) ∧ (s.pfeReady = true) ∧ (s.on Reg.PFE_CTL_TRIG = false) ∧ (s.on
     Reg.PFE_STATUS_BUSY = false)) ∧
    (∃ s : State, (s.alive = true) ∧ (s.pfeReady = false ∨ s.on Reg.PFE_CTL_TRIG = true)) ∧
    (∃ (s : State) (v : Word), (s.alive = true) ∧ (v.toNat.testBit 0 = true) ∧ (s.pfeReady = true) ∧ (s.on
     Reg.PFE_CTL_TRIG = true) ∧ (s.on Reg.PFE_STATUS_BUSY = false)) ∧
    (∃ (s : State) (v : Word), (s.alive = true) ∧ (v.toNat.testBit 0 = true) ∧ (s.pfeReady = true) ∧ (s.on
     Reg.PFE_CTL_TRIG = true) ∧ (s.on Reg.PFE_STATUS_BUSY = true)) ∧
    (∃ (s : State) (v : Word), (s.alive = true) ∧ (v.toNat.testBit 0 = false ∨ s.pfeReady = false ∨ s.on
     Reg.PFE_CTL_TRIG = false)) ∧
    (∃ (s : State) (va vb : Int), (s.alive = true) ∧ (s.on Reg.PFE_STATUS_BUSY = true) ∧ (s.pfe.check = none) ∧ ∃
     k, (k = s.rd Reg.PFE_STATUS_STEP) ∧ ∃ now, (now = s.tb.ns - halfWindow (s.pfe?.rd Reg.PFE_CTL_ODR)) ∧ (k = 8)) ∧
    (∃ (s : State) (va vb : Int), (s.alive = true) ∧ (s.on Reg.PFE_STATUS_BUSY = true) ∧ (s.pfe.check = none) ∧ ∃
     k, (k = s.rd Reg.PFE_STATUS_STEP) ∧ ∃ now, (now = s.tb.ns - halfWindow (s.pfe?.rd Reg.PFE_CTL_ODR)) ∧ (k < 8)) ∧
    (∃ (s : State) (n : Fin 8), (s.alive = true) ∧ (s.domain 5 = 2) ∧ (s.pfe?.rd Reg.AO_KIND 0 n = 0)) ∧
    (∃ (s : State) (n : Fin 8), (s.alive = true) ∧ (s.domain 5 = 2) ∧ (s.pfe?.rd Reg.AO_KIND 0 n = 3)) ∧
    (∃ (s : State) (n : Fin 8), (s.alive = true)) ∧
    (∃ (s : State) (agent : Agent) (i : Fin 16), (s.alive = true) ∧ ∃ o, (o = 0x300 + 0x10 * i.val)) := by
  refine ⟨⟨(mk12 .reset 1), ?_⟩,
   ⟨(mk12 .reset 0), ?_⟩,
   ⟨(mk12 .reset 2), ?_⟩,
   ⟨(mk12 .reset 2), 0x00000001#32, ?_⟩,
   ⟨(mk12 .reset 3), 0x00000001#32, ?_⟩,
   ⟨(mk12 .reset 0), 0x00000000#32, ?_⟩,
   ⟨(mk12 .reset 1), 0, 0, ?_, ?_, ?_, _, rfl, _, rfl, ?_⟩,
   ⟨(mk12 .reset 3), 0, 0, ?_, ?_, ?_, _, rfl, _, rfl, ?_⟩,
   ⟨(mk12 .reset 0), 0, ?_⟩,
   ⟨(mk12 .reset 1), 7, ?_⟩,
   ⟨(mk12 .reset 0), 0, ?_⟩,
   ⟨(mk12 .reset 0), 0, 0, ?_, _, rfl⟩⟩
  all_goals first | decide +kernel | (simp only [Onyx.wf, State.wf, TimeBase.wf, State.openFor, State.uncommitted, State.mayRun, State.Issues, State.Converts, State.Stages]; decide +kernel)

theorem test_witness_AxisCommands :
    (∃ (s : State) (agent : Agent) (a : Fin 8), (s.alive = true) ∧ ∃ waits, (waits = (fun (c : AxisCommand) => { s with axes := tput a.val { s.axis a with waiting := (s.axis a).waiting ++ [(s.tb.ns, c)] } s.axes })) ∧ (s.berylHolds a = false)) ∧
    (∃ (s : State) (agent : Agent) (a : Fin 8), (s.alive = true) ∧ ∃ waits, (waits = (fun (c : AxisCommand) => { s with axes := tput a.val { s.axis a with waiting := (s.axis a).waiting ++ [(s.tb.ns, c)] } s.axes })) ∧ (s.berylHolds a = true)) ∧
    (∃ (s : State) (a : Fin 8) (v : Word), (s.alive = true) ∧ ∃ want, (want = signed 40 (s.rd
     Reg.MOT_TARGET_LO_VALUE a + 2 ^ 32 * (v.toNat % 2 ^ 8))) ∧ ∃ given, (given = sat want (256 * s.rdS
     Reg.MOT_TRAVEL_MIN_STEPS a) (256 * s.rdS Reg.MOT_TRAVEL_MAX_STEPS a)) ∧ (s.berylHolds a = true)) ∧
    (∃ (s : State) (a : Fin 8) (v : Word), (s.alive = true) ∧ ∃ want, (want = signed 40 (s.rd
     Reg.MOT_TARGET_LO_VALUE a + 2 ^ 32 * (v.toNat % 2 ^ 8))) ∧ ∃ given, (given = sat want (256 * s.rdS
     Reg.MOT_TRAVEL_MIN_STEPS a) (256 * s.rdS Reg.MOT_TRAVEL_MAX_STEPS a)) ∧ (s.berylHolds a = false)) ∧
    (∃ (s : State) (v : Word), (s.alive = true) ∧ ∃ moves : Bool, (moves = (List.range 8).any (fun a => [2, 3, 5,
     6].contains (s.axisState a))) ∧ (moves = true)) ∧
    (∃ (s : State) (v : Word), (s.alive = true) ∧ ∃ moves : Bool, (moves = (List.range 8).any (fun a => [2, 3, 5,
     6].contains (s.axisState a))) ∧ (moves = false)) ∧
    (∃ (s : State) (a : Nat), (a < 8) ∧ (s.axisState a = 2 ∨ s.axisState a = 5)) ∧
    (∃ (s : State) (a : Nat), (a < 8) ∧ (s.axisState a = 0 ∨ s.axisState a = 1 ∨ s.axisState a = 4 ∨ s.axisState a
     = 7)) ∧
    (∃ (s : State) (a : Nat), (a < 8) ∧ (s.axisState a = 4) ∧ (s.pauseHolds a = false) ∧ (s.remain a ≠ 0)) ∧
    (∃ (s : State) (a : Nat), (a < 8) ∧ (s.axisState a ≠ 4)) ∧
    (∃ (s : State) (a : Nat), (a < 8) ∧ (s.axisState a = 1)) ∧
    (∃ (s : State) (a : Nat), (a < 8) ∧ (s.axisState a ≠ 1)) ∧
    (∃ (s : State) (a : Nat), (a < 8) ∧ (s.axisState a = 7) ∧ (s.causeGone a (s.rd Reg.MOT_STATUS_FAULT a) true =
     true)) ∧
    (∃ (s : State) (a b : Nat) (c : AxisCommand), (b ≠ a)) := by
  refine ⟨⟨(mk13 .reset 0), 0, 0, ?_, _, rfl, ?_⟩,
   ⟨(mk13 .reset 4), 0, 0, ?_, _, rfl, ?_⟩,
   ⟨(mk13 .reset 4), 0, 0x00000000#32, ?_, _, rfl, _, rfl, ?_⟩,
   ⟨(mk13 .reset 0), 0, 0x00000000#32, ?_, _, rfl, _, rfl, ?_⟩,
   ⟨(mk13 .reset 2), 0x00000000#32, ?_, _, rfl, ?_⟩,
   ⟨(mk13 .reset 0), 0x00000000#32, ?_, _, rfl, ?_⟩,
   ⟨(mk13 .reset 2), 0, ?_⟩,
   ⟨(mk13 .reset 0), 0, ?_⟩,
   ⟨(mk13 .reset 4), 0, ?_⟩,
   ⟨(mk13 .reset 0), 0, ?_⟩,
   ⟨(mk13 .reset 1), 5, ?_⟩,
   ⟨(mk13 .reset 0), 0, ?_⟩,
   ⟨(mk13 .reset 7), 5, ?_⟩,
   ⟨(mk13 .reset 0), 0, 5, Sys2Proof.Machine.AxisCommand.stop, ?_⟩⟩
  all_goals first | decide +kernel | (simp only [Onyx.wf, State.wf, TimeBase.wf, State.openFor, State.uncommitted, State.mayRun, State.Issues, State.Converts, State.Stages]; decide +kernel)

theorem test_witness_MotionPins :
    (∃ (s : State) (a : Fin 8) (v : Word), (s.alive = true) ∧ (v.toNat.testBit 0 = false) ∧ (s.axisState a ≠ 0)) ∧
    (∃ (s : State) (a : Fin 8) (v : Word), (s.alive = true) ∧ (v.toNat.testBit 0 = true) ∧ (s.axisState a = 0) ∧
     (s.on Reg.AUXC_CTL_EN 0 a = true)) ∧
    (∃ (s : State) (a : Fin 8) (v : Word), (s.alive = true) ∧ (v.toNat.testBit 0 = true) ∧ (s.axisState a = 0) ∧
     (s.on Reg.AUXC_CTL_EN 0 a = false)) ∧
    (∃ (s : State) (a : Fin 8), (s.alive = true) ∧ (s.axisState a = 1 ∨ s.axisState a = 4 ∨ s.axisState a = 7) ∧
     ((s.axis a).standby = false)) ∧
    (∃ (s : State) (a : Fin 8) (codes : List (Fin 16384 × Bool)), (s.alive = true) ∧ (codes.length = 6) ∧
     (s.domain 6 = 2) ∧ (s.on Reg.AUXC_CTL_EN 0 a = true) ∧ ∃ bad : Bool, (bad = ((codes.getD 0 (0, false)).2 ||
     (codes.getD 1 (0, false)).2)) ∧ ∃ full : Nat → Int, (full = (fun i => ((codes.getD i (0, false)).1.val :
     Int))) ∧ (s.axisState a ≠ 0) ∧ (s.on Reg.TB_STATUS_LOCKED = true)) ∧
    (∃ (s : State) (a : Fin 8) (codes : List (Fin 16384 × Bool)), (s.alive = true) ∧ (codes.length = 6) ∧
     (s.domain 6 = 2) ∧ (s.on Reg.AUXC_CTL_EN 0 a = true) ∧ ∃ bad : Bool, (bad = ((codes.getD 0 (0, false)).2 ||
     (codes.getD 1 (0, false)).2)) ∧ ∃ full : Nat → Int, (full = (fun i => ((codes.getD i (0, false)).1.val :
     Int))) ∧ (s.axisState a = 0)) := by
  refine ⟨⟨(mk13 .reset 1), 5, 0x00000000#32, ?_⟩,
   ⟨(mk13 .reset 0), 5, 0x00000001#32, ?_⟩,
   ⟨(mk13 .reset 0), 0, 0x00000001#32, ?_⟩,
   ⟨(mk13 .reset 1), 5, ?_⟩,
   ⟨(mk13 .reset 9), 5, [(5, false), (6, true), (7, false), (16383, false), (5, false), (6, true)], ?_, ?_, ?_,
    ?_, _, rfl, _, rfl, ?_⟩,
   ⟨(mk13 .reset 0), 5, [(5, false), (6, true), (7, false), (16383, false), (5, false), (6, true)], ?_, ?_, ?_,
    ?_, _, rfl, _, rfl, ?_⟩⟩
  all_goals first | decide +kernel | (simp only [Onyx.wf, State.wf, TimeBase.wf, State.openFor, State.uncommitted, State.mayRun, State.Issues, State.Converts, State.Stages]; decide +kernel)

theorem test_witness_QueueOperations :
    (∃ (s : State) (t : Tenant) (l : Fin 16384) (ctx : Option (List Nat)), (s.alive = true) ∧ ∃ q, (q = 16384 *
     t.val + l.val) ∧ ∃ st, (st = s.queueState q) ∧ (s.on Reg.QADM_STATUS_BUSY t = false) ∧ (s.tenantUp t = true) ∧
     (st = 1 ∨ st = 2) ∧ ∃ v, (v = s.qadmOpened t l ctx) ∧ ∃ x, (v.queue q = some x) ∧ (x.due = []) ∧ (x.begun =
     [])) ∧
    (∃ (s : State) (t : Tenant) (l : Fin 16384) (ctx : Option (List Nat)), (s.alive = true) ∧ ∃ q, (q = 16384 *
     t.val + l.val) ∧ ∃ st, (st = s.queueState q) ∧ (s.on Reg.QADM_STATUS_BUSY t = false) ∧ (s.tenantUp t = true) ∧
     (st = 1 ∨ st = 2) ∧ ∃ v, (v = s.qadmOpened t l ctx) ∧ ∃ x, (v.queue q = some x) ∧ (x.due = []) ∧ (x.begun ≠
     [])) ∧
    (∃ (s : State) (t : Tenant) (l : Fin 16384) (ctx : Option (List Nat)), (s.alive = true) ∧ ∃ q, (q = 16384 *
     t.val + l.val) ∧ ∃ st, (st = s.queueState q) ∧ (s.on Reg.QADM_STATUS_BUSY t = false) ∧ (s.tenantUp t = true) ∧
     (st = 1) ∧ ∃ v, (v = s.qadmOpened t l ctx) ∧ ∃ x, (v.queue q = some x)) ∧
    (∃ (s : State) (t : Tenant) (l : Fin 16384) (ctx : Option (List Nat)), (s.alive = true) ∧ ∃ q, (q = 16384 *
     t.val + l.val) ∧ ∃ st, (st = s.queueState q) ∧ (s.on Reg.QADM_STATUS_BUSY t = false) ∧ (s.tenantUp t = true) ∧
     (st = 2) ∧ ∃ v, (v = s.qadmOpened t l ctx) ∧ ∃ x, (v.queue q = some x) ∧ ((∀ e ∈ v.fr.queues, e.2.due = []))) ∧
    (∃ (s : State) (t : Tenant) (l : Fin 16384) (ctx : Option (List Nat)), (s.alive = true) ∧ ∃ q, (q = 16384 *
     t.val + l.val) ∧ ∃ st, (st = s.queueState q) ∧ (s.on Reg.QADM_STATUS_BUSY t = false) ∧ (s.tenantUp t = true) ∧
     (st ≠ 0) ∧ ∃ v, (v = s.qadmOpened t l ctx) ∧ ∃ x, (v.queue q = some x) ∧ (x.begun = []) ∧ (v.unworked q =
     true)) ∧
    (∃ (s : State) (t : Tenant) (l : Fin 16384) (ctx : Option (List Nat)), (s.alive = true) ∧ ∃ q, (q = 16384 *
     t.val + l.val) ∧ ∃ st, (st = s.queueState q) ∧ (s.on Reg.QADM_STATUS_BUSY t = false) ∧ (s.tenantUp t = true) ∧
     (st ≠ 0) ∧ ∃ v, (v = s.qadmOpened t l ctx) ∧ ∃ x, (v.queue q = some x) ∧ (x.state = st)) ∧
    (∃ (s : State) (t : Tenant) (l : Fin 16384) (ctx : Option (List Nat)) (cqType : Fin 8), (s.alive = true) ∧ ∃
     q, (q = 16384 * t.val + l.val) ∧ (s.on Reg.QADM_STATUS_BUSY t = false) ∧ (s.tenantUp t = true) ∧ (s.queueState
     q = 0) ∧ (s.queue q = none) ∧ (s.freeEntry.isSome = false)) ∧
    (∃ (s : State) (t : Tenant) (l : Fin 16384) (ctx : Option (List Nat)) (cqType : Fin 8), (s.alive = true) ∧ ∃
     q, (q = 16384 * t.val + l.val) ∧ (s.on Reg.QADM_STATUS_BUSY t = false) ∧ (s.tenantUp t = true) ∧ (s.queueState
     q = 0) ∧ ((s.queue q).isSome = true ∨ s.freeEntry.isSome = true) ∧ (ctx = none)) ∧
    (∃ (s : State) (t : Tenant) (l : Fin 16384) (ctx : Option (List Nat)) (cqType : Fin 8), (s.alive = true) ∧ ∃
     q, (q = 16384 * t.val + l.val) ∧ (s.on Reg.QADM_STATUS_BUSY t = false) ∧ (s.tenantUp t = true) ∧ (s.queueState
     q = 0) ∧ ((s.queue q).isSome = true ∨ s.freeEntry.isSome = true) ∧ ∃ w, (ctx = some w) ∧ ∃ x, (x =
     contextQueue w) ∧ ∃ valid : Bool, (valid = s.contextValid t x (if x.cq = l then x.type else cqType)) ∧ (valid
     = true) ∧ ((∀ e ∈ s.fr.queues, e.2.due = []))) ∧
    (∃ (s : State) (t : Tenant) (l : Fin 16384) (ctx : Option (List Nat)) (cqType : Fin 8), (s.alive = true) ∧ ∃
     q, (q = 16384 * t.val + l.val) ∧ (s.on Reg.QADM_STATUS_BUSY t = false) ∧ (s.tenantUp t = true) ∧ (s.queueState
     q = 0) ∧ ((s.queue q).isSome = true ∨ s.freeEntry.isSome = true) ∧ ∃ w, (ctx = some w) ∧ ∃ x, (x =
     contextQueue w) ∧ ∃ valid : Bool, (valid = s.contextValid t x (if x.cq = l then x.type else cqType)) ∧ (valid
     = false)) := by
  refine ⟨⟨(mk14 .reset 0), 0, 7, none, ?_, _, rfl, _, rfl, ?_, ?_, ?_, _, rfl, _, someOf (by decide +kernel), ?_⟩,
   ⟨(mk14 .reset 14), 0, 5, none, ?_, _, rfl, _, rfl, ?_, ?_, ?_, _, rfl, _, someOf (by decide +kernel), ?_⟩,
   ⟨(mk14 .reset 0), 0, 7, none, ?_, _, rfl, _, rfl, ?_, ?_, ?_, _, rfl, _, someOf (by decide +kernel)⟩,
   ⟨(mk14 .reset 2), 0, 5, none, ?_, _, rfl, _, rfl, ?_, ?_, ?_, _, rfl, _, someOf (by decide +kernel), ?_⟩,
   ⟨(mk14 .reset 0), 0, 7, none, ?_, _, rfl, _, rfl, ?_, ?_, ?_, _, rfl, _, someOf (by decide +kernel), ?_⟩,
   ⟨(mk14 .reset 0), 0, 7, none, ?_, _, rfl, _, rfl, ?_, ?_, ?_, _, rfl, _, someOf (by decide +kernel), ?_⟩,
   ⟨(mk14 .reset 20), 0, 5, none, 0, ?_, _, rfl, ?_⟩,
   ⟨(mk14 .reset 0), 0, 5, none, 0, ?_, _, rfl, ?_⟩,
   ⟨(mk14 .reset 0), 0, 5, some [197632, 0, 0, 7, 0, 33, 8192, 0, 20, 18, 5, 0, 3, 4], 1, ?_, _, rfl, ?_, ?_, ?_,
    ?_, _, someOf (by decide +kernel), _, rfl, _, rfl, ?_⟩,
   ⟨(mk14 .reset 0), 0, 5, some [197632, 0, 0, 7, 0, 33, 8192, 0, 20, 18, 5, 0, 3, 4], 0, ?_, _, rfl, ?_, ?_, ?_,
    ?_, _, someOf (by decide +kernel), _, rfl, _, rfl, ?_⟩⟩
  all_goals first | decide +kernel | (simp only [Onyx.wf, State.wf, TimeBase.wf, State.openFor, State.uncommitted, State.mayRun, State.Issues, State.Converts, State.Stages]; decide +kernel)

theorem test_witness_QueueIndexes :
    (∃ (s : State) (t : Tenant) (l : Fin 16384) (o : Fin 131072) (v : BitVec 64), (s.alive = true) ∧ (o.val = 8 *
     l.val) ∧ ∃ lo hi : Word, (lo = v.setWidth 32) ∧ (hi = (v >>> 32).setWidth 32) ∧ ∃ q, (q = 16384 * t.val +
     l.val) ∧ ∃ open_ : Bool, (open_ = (hi == 0 && (s.queueState q == 1 || s.queueState q == 2) && s.tenantUp t)) ∧
     (open_ = false)) ∧
    (∃ (s : State) (t : Tenant) (l : Fin 16384) (o : Fin 131072) (v : BitVec 64), (s.alive = true) ∧ (o.val = 8 *
     l.val) ∧ ∃ lo hi : Word, (lo = v.setWidth 32) ∧ (hi = (v >>> 32).setWidth 32) ∧ ∃ q, (q = 16384 * t.val +
     l.val) ∧ ∃ open_ : Bool, (open_ = (hi == 0 && (s.queueState q == 1 || s.queueState q == 2) && s.tenantUp t)) ∧
     (open_ = true) ∧ (s.queue q = none)) ∧
    (∃ (s : State) (t : Tenant) (l : Fin 16384) (o : Fin 131072) (v : BitVec 64), (s.alive = true) ∧ (o.val = 8 *
     l.val) ∧ ∃ lo hi : Word, (lo = v.setWidth 32) ∧ (hi = (v >>> 32).setWidth 32) ∧ ∃ q, (q = 16384 * t.val +
     l.val) ∧ ∃ open_ : Bool, (open_ = (hi == 0 && (s.queueState q == 1 || s.queueState q == 2) && s.tenantUp t)) ∧
     (open_ = true) ∧ ∃ x, (s.queue q = some x) ∧ ∃ base, (base = (if x.hostProduced then x.prod else x.cons)) ∧ ∃
     ahead, (ahead = (lo.toNat + 2 ^ 32 - base) % 2 ^ 32) ∧ ∃ behind, (behind = (base + 2 ^ 32 - lo.toNat) % 2 ^
     32) ∧ ∃ room, (room = (if x.hostProduced then x.size - (x.prod + 2 ^ 32 - x.cons) % 2 ^ 32 else (x.prod + 2 ^
     32 - x.cons) % 2 ^ 32)) ∧ (lo.toNat = base)) ∧
    (∃ (s : State) (t : Tenant) (l : Fin 16384) (o : Fin 131072) (v : BitVec 64), (s.alive = true) ∧ (o.val = 8 *
     l.val) ∧ ∃ lo hi : Word, (lo = v.setWidth 32) ∧ (hi = (v >>> 32).setWidth 32) ∧ ∃ q, (q = 16384 * t.val +
     l.val) ∧ ∃ open_ : Bool, (open_ = (hi == 0 && (s.queueState q == 1 || s.queueState q == 2) && s.tenantUp t)) ∧
     (open_ = true) ∧ ∃ x, (s.queue q = some x) ∧ ∃ base, (base = (if x.hostProduced then x.prod else x.cons)) ∧ ∃
     ahead, (ahead = (lo.toNat + 2 ^ 32 - base) % 2 ^ 32) ∧ ∃ behind, (behind = (base + 2 ^ 32 - lo.toNat) % 2 ^
     32) ∧ ∃ room, (room = (if x.hostProduced then x.size - (x.prod + 2 ^ 32 - x.cons) % 2 ^ 32 else (x.prod + 2 ^
     32 - x.cons) % 2 ^ 32)) ∧ (lo.toNat ≠ base) ∧ (ahead ≤ room) ∧ ((∀ e ∈ s.fr.queues, e.2.due = []))) ∧
    (∃ (s : State) (t : Tenant) (l : Fin 16384) (o : Fin 131072) (v : BitVec 64), (s.alive = true) ∧ (o.val = 8 *
     l.val) ∧ ∃ lo hi : Word, (lo = v.setWidth 32) ∧ (hi = (v >>> 32).setWidth 32) ∧ ∃ q, (q = 16384 * t.val +
     l.val) ∧ ∃ open_ : Bool, (open_ = (hi == 0 && (s.queueState q == 1 || s.queueState q == 2) && s.tenantUp t)) ∧
     (open_ = true) ∧ ∃ x, (s.queue q = some x) ∧ ∃ base, (base = (if x.hostProduced then x.prod else x.cons)) ∧ ∃
     ahead, (ahead = (lo.toNat + 2 ^ 32 - base) % 2 ^ 32) ∧ ∃ behind, (behind = (base + 2 ^ 32 - lo.toNat) % 2 ^
     32) ∧ ∃ room, (room = (if x.hostProduced then x.size - (x.prod + 2 ^ 32 - x.cons) % 2 ^ 32 else (x.prod + 2 ^
     32 - x.cons) % 2 ^ 32)) ∧ (lo.toNat ≠ base) ∧ (room < ahead) ∧ (behind ≤ x.size)) ∧
    (∃ (s : State) (t : Tenant) (l : Fin 16384) (o : Fin 131072) (v : BitVec 64), (s.alive = true) ∧ (o.val = 8 *
     l.val) ∧ ∃ lo hi : Word, (lo = v.setWidth 32) ∧ (hi = (v >>> 32).setWidth 32) ∧ ∃ q, (q = 16384 * t.val +
     l.val) ∧ ∃ open_ : Bool, (open_ = (hi == 0 && (s.queueState q == 1 || s.queueState q == 2) && s.tenantUp t)) ∧
     (open_ = true) ∧ ∃ x, (s.queue q = some x) ∧ ∃ base, (base = (if x.hostProduced then x.prod else x.cons)) ∧ ∃
     ahead, (ahead = (lo.toNat + 2 ^ 32 - base) % 2 ^ 32) ∧ ∃ behind, (behind = (base + 2 ^ 32 - lo.toNat) % 2 ^
     32) ∧ ∃ room, (room = (if x.hostProduced then x.size - (x.prod + 2 ^ 32 - x.cons) % 2 ^ 32 else (x.prod + 2 ^
     32 - x.cons) % 2 ^ 32)) ∧ (lo.toNat ≠ base) ∧ (room < ahead) ∧ (x.size < behind)) ∧
    (∃ (s : State) (t : Tenant) (o : Fin 131072) (width : Nat), (s.alive = true) ∧ ∃ v : BitVec 64, (width ≠ 8 ∨
     o.val % 8 ≠ 0)) ∧
    (∃ (s : State) (q : Fin 262144) (error : Bool), (s.alive = true) ∧ (s.queue q = none)) ∧
    (∃ (s : State) (q : Fin 262144) (error : Bool), (s.alive = true) ∧ ∃ x, (s.queue q = some x) ∧ (x.unpublished
     = 0 ∨ (error = true ∧ x.state ≠ 1))) ∧
    (∃ (s : State) (q : Fin 262144) (error : Bool), (s.alive = true) ∧ ∃ x, (s.queue q = some x) ∧ (x.unpublished
     ≠ 0) ∧ (error = true) ∧ (x.state = 1)) ∧
    (∃ (s : State) (q : Fin 262144) (error : Bool), (s.alive = true) ∧ ∃ x, (s.queue q = some x) ∧ (x.unpublished
     ≠ 0) ∧ (error = false)) ∧
    (∃ (s : State) (q : Fin 262144), (s.alive = true) ∧ (s.fr.staged.find? (fun r => r.queue == q.val) = none)) ∧
    (∃ (s : State) (q : Fin 262144), (s.alive = true) ∧ ∃ r, (s.fr.staged.find? (fun r => r.queue == q.val) = some
     r) ∧ ∃ rest, (rest = s.fr.staged.eraseP (fun r => r.queue == q.val)) ∧ (s.takesRecord r = false)) ∧
    (∃ (s : State) (q : Fin 262144), (s.alive = true) ∧ ∃ r, (s.fr.staged.find? (fun r => r.queue == q.val) = some
     r) ∧ ∃ rest, (rest = s.fr.staged.eraseP (fun r => r.queue == q.val)) ∧ (s.takesRecord r = true) ∧
     (s.levelStops (tenantOf q.val) [1, 2] = true)) ∧
    (∃ (s : State) (q : Fin 262144), (s.alive = true) ∧ ∃ r, (s.fr.staged.find? (fun r => r.queue == q.val) = some
     r) ∧ ∃ rest, (rest = s.fr.staged.eraseP (fun r => r.queue == q.val)) ∧ (s.takesRecord r = true) ∧
     (s.levelStops (tenantOf q.val) [1, 2] = false) ∧ (s.queue q = none)) ∧
    (∃ (s : State) (q : Fin 262144), (s.alive = true) ∧ ∃ r, (s.fr.staged.find? (fun r => r.queue == q.val) = some
     r) ∧ ∃ rest, (rest = s.fr.staged.eraseP (fun r => r.queue == q.val)) ∧ (s.takesRecord r = true) ∧
     (s.levelStops (tenantOf q.val) [1, 2] = false) ∧ ∃ x, (s.queue q = some x) ∧ ∃ n, (n = (if kindType r.kind = 5
     then r.blocks else 1)) ∧ ∃ pad, (pad = (if kindType r.kind = 5 then padBlocks x x.prod n else 0)) ∧ (x.free <
     n + pad) ∧ (kindWaits r.kind = true)) ∧
    (∃ (s : State) (q : Fin 262144), (s.alive = true) ∧ ∃ r, (s.fr.staged.find? (fun r => r.queue == q.val) = some
     r) ∧ ∃ rest, (rest = s.fr.staged.eraseP (fun r => r.queue == q.val)) ∧ (s.takesRecord r = true) ∧
     (s.levelStops (tenantOf q.val) [1, 2] = false) ∧ ∃ x, (s.queue q = some x) ∧ ∃ n, (n = (if kindType r.kind = 5
     then r.blocks else 1)) ∧ ∃ pad, (pad = (if kindType r.kind = 5 then padBlocks x x.prod n else 0)) ∧ (x.free <
     n + pad) ∧ (kindWaits r.kind = false)) ∧
    (∃ (s : State) (q : Fin 262144), (s.alive = true) ∧ ∃ r, (s.fr.staged.find? (fun r => r.queue == q.val) = some
     r) ∧ ∃ rest, (rest = s.fr.staged.eraseP (fun r => r.queue == q.val)) ∧ (s.takesRecord r = true) ∧
     (s.levelStops (tenantOf q.val) [1, 2] = false) ∧ ∃ x, (s.queue q = some x) ∧ ∃ n, (n = (if kindType r.kind = 5
     then r.blocks else 1)) ∧ ∃ pad, (pad = (if kindType r.kind = 5 then padBlocks x x.prod n else 0)) ∧ (n + pad ≤
     x.free)) := by
  refine ⟨⟨(mk14 .reset 0), 0, 5, 40, 0x0000000000000000#64, ?_, ?_, 0x00000000#32, 0x00000000#32, ?_, ?_, _, rfl, _,
    rfl, ?_⟩,
   ⟨(mk14 .reset 9), 0, 5, 40, 0x0000000000000000#64, ?_, ?_, 0x00000000#32, 0x00000000#32, ?_, ?_, _, rfl, _,
    rfl, ?_⟩,
   ⟨(mk14 .reset 0), 0, 7, 56, 0x0000000000000012#64, ?_, ?_, 0x00000012#32, 0x00000000#32, ?_, ?_, _, rfl, _,
    rfl, ?_, _, someOf (by decide +kernel), _, rfl, _, rfl, _, rfl, _, rfl, ?_⟩,
   ⟨(mk14 .reset 0), 0, 7, 56, 0x0000000000000014#64, ?_, ?_, 0x00000014#32, 0x00000000#32, ?_, ?_, _, rfl, _,
    rfl, ?_, _, someOf (by decide +kernel), _, rfl, _, rfl, _, rfl, _, rfl, ?_⟩,
   ⟨(mk14 .reset 0), 0, 7, 56, 0x0000000000000000#64, ?_, ?_, 0x00000000#32, 0x00000000#32, ?_, ?_, _, rfl, _,
    rfl, ?_, _, someOf (by decide +kernel), _, rfl, _, rfl, _, rfl, _, rfl, ?_⟩,
   ⟨(mk14 .reset 0), 0, 7, 56, 0x0000000000000018#64, ?_, ?_, 0x00000018#32, 0x00000000#32, ?_, ?_, _, rfl, _,
    rfl, ?_, _, someOf (by decide +kernel), _, rfl, _, rfl, _, rfl, _, rfl, ?_⟩,
   ⟨(mk14 .reset 0), 0, 40, 0, ?_, 0x0000000000000000#64, ?_⟩,
   ⟨(mk14 .reset 0), 9, true, ?_⟩,
   ⟨(mk14 .reset 0), 5, true, ?_, _, someOf (by decide +kernel), ?_⟩,
   ⟨(mk14 .reset 1), 5, true, ?_, _, someOf (by decide +kernel), ?_⟩,
   ⟨(mk14 .reset 1), 5, false, ?_, _, someOf (by decide +kernel), ?_⟩,
   ⟨(mk14 .reset 0), 9, ?_⟩,
   ⟨(mk14 .reset 0), 5, ?_, _, someOf (by decide +kernel), _, rfl, ?_⟩,
   ⟨(mk14 .reset 30), 5, ?_, _, someOf (by decide +kernel), _, rfl, ?_⟩,
   ⟨(mk14 .reset 9), 5, ?_, _, someOf (by decide +kernel), _, rfl, ?_⟩,
   ⟨(mk14 .reset 23), 5, ?_, _, someOf (by decide +kernel), _, rfl, ?_, ?_, _, someOf (by decide +kernel), _,
    rfl, _, rfl, ?_⟩,
   ⟨(mk14 .reset 21), 5, ?_, _, someOf (by decide +kernel), _, rfl, ?_, ?_, _, someOf (by decide +kernel), _,
    rfl, _, rfl, ?_⟩,
   ⟨(mk14 .reset 6), 5, ?_, _, someOf (by decide +kernel), _, rfl, ?_, ?_, _, someOf (by decide +kernel), _, rfl,
    _, rfl, ?_⟩⟩
  all_goals first | decide +kernel | (simp only [Onyx.wf, State.wf, TimeBase.wf, State.openFor, State.uncommitted, State.mayRun, State.Issues, State.Converts, State.Stages]; decide +kernel)

theorem test_witness_Leases :
    (∃ (s : State) (r : Fin 128) (t : Tenant) (ms : BitVec 16), (s.alive = true) ∧ ∃ refused : Bool, (refused =
     (decide (87 < r.val) || t.val == 0 || !s.tenantUp t || ((s.holder r).getD 0 != 0 && (s.holder r).getD 0 !=
     t.val))) ∧ (refused = true)) ∧
    (∃ (s : State) (r : Fin 128) (t : Tenant) (ms : BitVec 16), (s.alive = true) ∧ ∃ refused : Bool, (refused =
     (decide (87 < r.val) || t.val == 0 || !s.tenantUp t || ((s.holder r).getD 0 != 0 && (s.holder r).getD 0 !=
     t.val))) ∧ (refused = false)) ∧
    (∃ (s : State) (r : Fin 128), (s.alive = true) ∧ (s.holder r = none)) ∧
    (∃ (s : State) (r : Fin 128), (s.alive = true) ∧ (r.val < 88) ∧ ∃ t, (s.holder r = some t) ∧ (t < 16)) ∧
    (∃ (s : State) (r : Fin 88), (s.alive = true) ∧ (s.holder r = none)) ∧
    (∃ (s : State) (r : Fin 88), (s.alive = true) ∧ ∃ t, (s.holder r = some t) ∧ (t < 16)) ∧
    (∃ (s : State) (t : Tenant), (s.alive = true)) ∧
    (∃ (s : State) (t : Tenant), (s.alive = true)) := by
  refine ⟨⟨(mk14 .reset 0), 0, 0, 0x0000#16, ?_, _, rfl, ?_⟩,
   ⟨(mk14 .reset 2), 0, 2, 0x0000#16, ?_, _, rfl, ?_⟩,
   ⟨(mk14 .reset 0), 0, ?_⟩,
   ⟨(mk14 .reset 1), 0, ?_, ?_, _, someOf (by decide +kernel), ?_⟩,
   ⟨(mk14 .reset 0), 0, ?_⟩,
   ⟨(mk14 .reset 1), 0, ?_, _, someOf (by decide +kernel), ?_⟩,
   ⟨(mk14 .reset 0), 0, ?_⟩,
   ⟨(mk14 .reset 0), 0, ?_⟩⟩
  all_goals first | decide +kernel | (simp only [Onyx.wf, State.wf, TimeBase.wf, State.openFor, State.uncommitted, State.mayRun, State.Issues, State.Converts, State.Stages]; decide +kernel)

theorem test_witness_Tenants :
    (∃ (s : State) (t : Tenant), (s.alive = true) ∧ (s.tenantState t ≠ 0) ∧ (tfind t.val s.fr.resets = none) ∧
     (s.tenantBusy t = false) ∧ (t.val ≠ 0)) ∧
    (∃ (s : State) (t : Tenant), (s.alive = true) ∧ (s.tenantState t ≠ 0) ∧ (tfind t.val s.fr.resets = none) ∧
     (s.tenantBusy t = true) ∧ ((∀ c ∈ List.range 64, ∀ x ∈ (s.channel c).current.toList, tenantOf x.queue = t →
     x.settled = false))) ∧
    (∃ (s : State), (s.alive = true) ∧ (s.fr.resets = []) ∧ ((∀ t, t < 16 → s.tenantBusy t = false))) ∧
    (∃ (s : State) (t : Tenant), (s.alive = true) ∧ (s.tenantState t = 0)) ∧
    (∃ (s : State) (n : Fin 16) (enable : Bool), (s.alive = true) ∧ (s.fr.resets = []) ∧ ((∀ t, t < 16 →
     s.tenantBusy t = false))) ∧
    (∃ (s : State) (mask : BitVec 16), (s.alive = true) ∧ (s.fr.resets = []) ∧ ((∀ t, t < 16 → s.tenantBusy t =
     false))) ∧
    (∃ (s : State) (hotReset : Bool), (s.alive = true) ∧ (s.fr.resets = []) ∧ ((∀ t, t < 16 → s.tenantBusy t =
     false))) ∧
    (∃ (s : State) (speed : Fin 8) (width : Fin 32) (up : Bool), (s.alive = true)) ∧
    (∃ (s : State) (t : Tenant), (s.alive = true) ∧ (tfind t.val s.fr.resets = none)) ∧
    (∃ (s : State) (t : Tenant), (s.alive = true) ∧ ∃ g, (tfind t.val s.fr.resets = some g)) ∧
    (∃ (s : State) (t : Tenant), (s.alive = true) ∧ ∃ w, (w = tget [] s.mgmt.requests t) ∧ (s.rd
     Reg.MBX_STATUS_STATE t ≠ 2 ∨ w.getD 0 0 % 2 ^ 8 ≠ 1 ∨ (tfind t.val s.mgmt.replies).isSome = true)) ∧
    (∃ (s : State) (t : Tenant), (s.alive = true) ∧ ∃ w, (w = tget [] s.mgmt.requests t) ∧ (s.rd
     Reg.MBX_STATUS_STATE t = 2) ∧ (w.getD 0 0 % 2 ^ 8 = 1) ∧ (tfind t.val s.mgmt.replies = none) ∧ ((s.tenantState
     t = 0 ∧ tfind t.val s.fr.resets = none) ∨ (∃ g, tfind t.val s.fr.resets = some g ∧ g.hello = none))) ∧
    (∃ (s : State) (t : Tenant), (s.alive = true) ∧ ∃ w, (w = tget [] s.mgmt.requests t) ∧ (s.rd
     Reg.MBX_STATUS_STATE t = 2) ∧ (w.getD 0 0 % 2 ^ 8 = 1) ∧ (tfind t.val s.mgmt.replies = none) ∧ (tfind t.val
     s.fr.resets = none) ∧ (1 ≤ s.tenantState t) ∧ (s.tenantBusy t = false)) ∧
    (∃ (s : State) (t : Tenant), (s.alive = true) ∧ (s.tenantUp t = false)) ∧
    (∃ (s : State) (t : Tenant), (s.alive = true) ∧ (s.tenantUp t = true)) ∧
    (∃ (s : State) (t : Tenant) (v : Word), (s.alive = true) ∧ (s.activeQueues t ≠ [])) ∧
    (∃ (s : State) (t : Tenant) (v : Word), (s.alive = true) ∧ (s.activeQueues t = [])) ∧
    (∃ (s : State) (agent : Agent) (t : Tenant) (ctx : Option (List Nat)), (s.alive = true) ∧ ∃ q, (q = 16384 *
     t.val + s.rd Reg.QSEL_QUEUE t) ∧ ∃ p, (p = 0x401 + 64 * t.val) ∧ ∃ x, (s.queue q = some x)) ∧
    (∃ (s : State) (agent : Agent) (t : Tenant) (ctx : Option (List Nat)), (s.alive = true) ∧ ∃ q, (q = 16384 *
     t.val + s.rd Reg.QSEL_QUEUE t) ∧ ∃ p, (p = 0x401 + 64 * t.val) ∧ (s.queue q = none) ∧ ∃ w, (ctx = some w)) ∧
    (∃ (s : State) (agent : Agent) (t : Tenant) (ctx : Option (List Nat)), (s.alive = true) ∧ ∃ q, (q = 16384 *
     t.val + s.rd Reg.QSEL_QUEUE t) ∧ ∃ p, (p = 0x401 + 64 * t.val) ∧ (s.queue q = none) ∧ (ctx = none) ∧
     (s.tenantUp t = true)) := by
  refine ⟨⟨(mk14 .reset 2), 2, ?_⟩,
   ⟨(mk14b (mk14 .reset 25) 6), 0, ?_⟩,
   ⟨(mk14 .reset 0), ?_⟩,
   ⟨(mk14 .reset 0), 2, ?_⟩,
   ⟨(mk14 .reset 0), 0, true, ?_⟩,
   ⟨(mk14 .reset 0), 0x0000#16, ?_⟩,
   ⟨(mk14 .reset 0), true, ?_⟩,
   ⟨(mk14 .reset 0), 0, 0, true, ?_⟩,
   ⟨(mk14 .reset 0), 0, ?_⟩,
   ⟨(mk14b (mk14 .reset 13) 3), 2, ?_, _, someOf (by decide +kernel)⟩,
   ⟨(mk14 .reset 0), 0, ?_, _, rfl, ?_⟩,
   ⟨(mk14b (mk14 .reset 13) 3), 2, ?_, _, rfl, ?_⟩,
   ⟨(mk14b (mk14 .reset 1) 0), 0, ?_, _, rfl, ?_⟩,
   ⟨(mk14 .reset 0), 2, ?_⟩,
   ⟨(mk14 .reset 0), 0, ?_⟩,
   ⟨(mk14 .reset 0), 0, 0x00000000#32, ?_⟩,
   ⟨(mk14 .reset 8), 2, 0x00000000#32, ?_⟩,
   ⟨(mk14b (mk14 .reset 1) 0), 0, 0, none, ?_, _, rfl, _, rfl, _, someOf (by decide +kernel)⟩,
   ⟨(mk14 .reset 0), 0, 0, some [197632, 0, 0, 7, 0, 33, 8192, 0, 20, 18, 5, 0, 3, 4], ?_, _, rfl, _, rfl, ?_, _,
    someOf (by decide +kernel)⟩,
   ⟨(mk14 .reset 0), 0, 0, none, ?_, _, rfl, _, rfl, ?_⟩⟩
  all_goals first | decide +kernel | (simp only [Onyx.wf, State.wf, TimeBase.wf, State.openFor, State.uncommitted, State.mayRun, State.Issues, State.Converts, State.Stages]; decide +kernel)

theorem test_witness_Descriptors :
    (∃ (s : State) (q : Fin 262144) (words : Option (List Nat)), (s.alive = true) ∧ ∃ t, (t = tenantOf q.val) ∧ ∃
     x, (s.queue q = some x) ∧ (x.state ≠ 1 ∨ x.hostProduced = false ∨ x.prod = x.cons ∨ x.head.isSome = true ∨
     x.due ≠ [])) ∧
    (∃ (s : State) (q : Fin 262144) (words : Option (List Nat)), (s.alive = true) ∧ ∃ t, (t = tenantOf q.val) ∧ ∃
     x, (s.queue q = some x) ∧ (x.state = 1) ∧ (x.hostProduced = true) ∧ (x.prod ≠ x.cons) ∧ (x.head = none) ∧
     (x.due = []) ∧ (words = none)) ∧
    (∃ (s : State) (q : Fin 262144) (words : Option (List Nat)), (s.alive = true) ∧ ∃ t, (t = tenantOf q.val) ∧ ∃
     x, (s.queue q = some x) ∧ (x.state = 1) ∧ (x.hostProduced = true) ∧ (x.prod ≠ x.cons) ∧ (x.head = none) ∧
     (x.due = []) ∧ ∃ w, (words = some w) ∧ (s.version t ≠ 0) ∧ (fenced (s.version t) w = false ∨ x.begun = []) ∧
     (w.getD 0 0 / 2 ^ 16 % 2 ^ 8 ≠ x.epoch)) ∧
    (∃ (s : State) (q : Fin 262144) (words : Option (List Nat)), (s.alive = true) ∧ ∃ t, (t = tenantOf q.val) ∧ ∃
     x, (s.queue q = some x) ∧ (x.state = 1) ∧ (x.hostProduced = true) ∧ (x.prod ≠ x.cons) ∧ (x.head = none) ∧
     (x.due = []) ∧ ∃ w, (words = some w) ∧ (s.version t ≠ 0) ∧ (fenced (s.version t) w = false ∨ x.begun = []) ∧
     (w.getD 0 0 / 2 ^ 16 % 2 ^ 8 = x.epoch) ∧ ∃ d, (d = signed 32 (w.getD 1 0 + 2 ^ 32 - x.expSeq)) ∧ (0 < d)) ∧
    (∃ (s : State) (q : Fin 262144) (words : Option (List Nat)), (s.alive = true) ∧ ∃ t, (t = tenantOf q.val) ∧ ∃
     x, (s.queue q = some x) ∧ (x.state = 1) ∧ (x.hostProduced = true) ∧ (x.prod ≠ x.cons) ∧ (x.head = none) ∧
     (x.due = []) ∧ ∃ w, (words = some w) ∧ (s.version t ≠ 0) ∧ (fenced (s.version t) w = false ∨ x.begun = []) ∧
     (w.getD 0 0 / 2 ^ 16 % 2 ^ 8 = x.epoch) ∧ ∃ d, (d = signed 32 (w.getD 1 0 + 2 ^ 32 - x.expSeq)) ∧ (d < 0)) ∧
    (∃ (s : State) (q : Fin 262144) (words : Option (List Nat)), (s.alive = true) ∧ ∃ t, (t = tenantOf q.val) ∧ ∃
     x, (s.queue q = some x) ∧ (x.state = 1) ∧ (x.hostProduced = true) ∧ (x.prod ≠ x.cons) ∧ (x.head = none) ∧
     (x.due = []) ∧ ∃ w, (words = some w) ∧ (s.version t ≠ 0) ∧ (fenced (s.version t) w = false ∨ x.begun = []) ∧
     (w.getD 0 0 / 2 ^ 16 % 2 ^ 8 = x.epoch) ∧ ∃ d, (d = signed 32 (w.getD 1 0 + 2 ^ 32 - x.expSeq)) ∧ (d = 0) ∧
     (unsupported (s.version t) x.type w = false) ∧ (w.getD 0 0 % 2 ^ 8 ≠ 0)) ∧
    (∃ (s : State) (q : Fin 262144) (ctx : Option (List Nat)) (cqType : Fin 8), (s.alive = true) ∧ (q.val ∉
     s.fr.loads)) ∧
    (∃ (s : State) (q : Fin 262144) (ctx : Option (List Nat)) (cqType : Fin 8), (s.alive = true) ∧ (q.val ∈
     s.fr.loads) ∧ (ctx = none) ∧ (s.tenantUp (tenantOf q) = true)) ∧
    (∃ (s : State) (q : Fin 262144) (ctx : Option (List Nat)) (cqType : Fin 8), (s.alive = true) ∧ (q.val ∈
     s.fr.loads) ∧ (q.val ∉ s.fr.enabling) ∧ ∃ w, (ctx = some w) ∧ ((∀ e ∈ s.fr.doorbells, e.1 ≠ q.val)) ∧ ((∀ e ∈
     s.fr.notices, e.1 ≠ q.val)) ∧ ((∀ e ∈ s.fr.queues, e.2.due = []))) ∧
    (∃ (s : State) (q : Fin 262144), (s.alive = true) ∧ ∃ t, (t = tenantOf q.val) ∧ ((∀ x, s.queue q = some x →
     x.head = none))) ∧
    (∃ (s : State) (q : Fin 262144), (s.alive = true) ∧ ∃ t, (t = tenantOf q.val) ∧ ∃ x, (s.queue q = some x) ∧ ∃
     w, (x.head = some w) ∧ (x.state = 1) ∧ (x.type = 0) ∧ (w.getD 0 0 % 2 ^ 8 = 1) ∧ (s.version t ≠ 0) ∧ ∃ c, (c =
     w.getD 6 0 % 2 ^ 6) ∧ ∃ y, (y = s.xferSteps c (xferOf q x.cons w).2) ∧ (xferReason (s.version t) w y ≠ 0 ∨
     s.holds t c = false) ∧ (x.due = []) ∧ (s.unworked q = true)) ∧
    (∃ (s : State) (q : Fin 262144), (s.alive = true) ∧ ∃ t, (t = tenantOf q.val) ∧ ∃ x, (s.queue q = some x) ∧ ∃ w, (x.head = some w) ∧ (x.state = 1) ∧ (x.type = 0) ∧ (w.getD 0 0 % 2 ^ 8 = 1) ∧ (s.version t ≠ 0) ∧ ∃ c, (c = w.getD 6 0 % 2 ^ 6) ∧ ∃ y, (y = s.xferSteps c (xferOf q x.cons w).2) ∧ (xferReason (s.version t) w y = 0) ∧ (s.holds t c = true) ∧ (y.windowPage (fun _ => true) = false) ∧ ((w.getD 6 0).testBit 13 = false) ∧ (s.rd Reg.DMA_STATUS_STATE c ≠ 2) ∧ (s.channel c = {})) ∧
    (∃ (s : State) (q : Fin 262144) (o : Outside), (s.alive = true) ∧ ∃ t, (t = tenantOf q.val) ∧ ((∀ x, s.queue q
     = some x → x.head = none))) ∧
    (∃ (s : State) (q : Fin 262144) (o : Outside), (s.alive = true) ∧ ∃ t, (t = tenantOf q.val) ∧ ∃ x, (s.queue q
     = some x) ∧ ∃ w, (x.head = some w) ∧ (x.state = 1) ∧ (x.type = 0) ∧ (w.getD 0 0 % 2 ^ 8 = 3) ∧ (x.due = []) ∧
     ∃ p, (p = w.getD 6 0) ∧ (p < 2 ^ 13) ∧ (s.sees t p = false ∨ s.readOnly t p = true)) ∧
    (∃ (s : State) (q : Fin 262144) (o : Outside), (s.alive = true) ∧ ∃ t, (t = tenantOf q.val) ∧ ∃ x, (s.queue q
     = some x) ∧ ∃ w, (x.head = some w) ∧ (x.state = 1) ∧ (x.type = 0) ∧ (w.getD 0 0 % 2 ^ 8 = 3) ∧ (x.due = []) ∧
     ∃ p, (p = w.getD 6 0) ∧ (s.sees t p = true) ∧ (s.readOnly t p = false) ∧ ((pageRow p).isSome = true) ∧ (w.getD
     7 0 = 0x14) ∧ ((w.drop 10).all (· == 0) = true)) := by
  refine ⟨⟨(mk14 .reset 0), 5, none, ?_, _, rfl, _, someOf (by decide +kernel), ?_⟩,
   ⟨(mk14 .reset 0), 32773, none, ?_, _, rfl, _, someOf (by decide +kernel), ?_⟩,
   ⟨(mk14 .reset 4), 32773, some [131073, 5, 0, 0, 0, 0, 0, 0, 0, 0, 0, 0, 0, 0, 0, 0], ?_, _, rfl, _, someOf
    (by decide +kernel), ?_, ?_, ?_, ?_, ?_, _, someOf (by decide +kernel), ?_⟩,
   ⟨(mk14 .reset 4), 32773, some [196609, 6, 0, 0, 0, 0, 0, 0, 0, 0, 0, 0, 0, 0, 0, 0], ?_, _, rfl, _, someOf
    (by decide +kernel), ?_, ?_, ?_, ?_, ?_, _, someOf (by decide +kernel), ?_, ?_, ?_, _, rfl, ?_⟩,
   ⟨(mk14 .reset 4), 32773, some [196863, 1], ?_, _, rfl, _, someOf (by decide +kernel), ?_, ?_, ?_, ?_, ?_, _,
    someOf (by decide +kernel), ?_, ?_, ?_, _, rfl, ?_⟩,
   ⟨(mk14 .reset 4), 32773, some [196610, 5, 0, 0, 0, 0, 0, 0, 0, 0, 0, 0, 0, 0, 0, 0], ?_, _, rfl, _, someOf
    (by decide +kernel), ?_, ?_, ?_, ?_, ?_, _, someOf (by decide +kernel), ?_, ?_, ?_, _, rfl, ?_⟩,
   ⟨(mk14 .reset 0), 5, none, 0, ?_⟩,
   ⟨(mk14b (mk14 .reset 1) 0), 5, none, 0, ?_⟩,
   ⟨(mk14b (mk14 .reset 1) 0), 5, some [197632, 0, 0, 7, 0, 33, 8192, 0, 20, 18, 5, 0, 3, 4], 0, ?_, ?_, ?_, _,
    someOf (by decide +kernel), ?_⟩,
   ⟨(mk14 .reset 0), 5, ?_, _, rfl, ?_⟩,
   ⟨(mk14 .reset 1), 5, ?_, _, rfl, _, someOf (by decide +kernel), _, someOf (by decide +kernel), ?_, ?_, ?_, ?_,
    _, rfl, _, rfl, ?_⟩,
   ⟨(mk14b (mk14 .reset 17) 4), 5, ?_, _, rfl, _, someOf (by decide +kernel), _, someOf (by decide +kernel), ?_,
    ?_, ?_, ?_, _, rfl, _, rfl, ?_⟩,
   ⟨(mk14 .reset 0), 5, { ctx := none, cqType := 0, bus := Sys2Proof.BusLines.free, usbCut := false }, ?_, _, rfl, ?_⟩,
   ⟨(mk14b (mk14 .reset 13) 3), 32773, { ctx := none, cqType := 0, bus := Sys2Proof.BusLines.free, usbCut := false }, ?_, _, rfl, _, someOf (by decide +kernel), _, someOf (by decide +kernel), ?_, ?_, ?_, ?_, _, rfl, ?_⟩,
   ⟨(mk14b (mk14 .reset 21) 5), 5, { ctx := none, cqType := 0, bus := Sys2Proof.BusLines.free, usbCut := false }, ?_, _, rfl, _, someOf (by decide +kernel), _, someOf (by decide +kernel), ?_, ?_, ?_, ?_, _, rfl, ?_⟩⟩
  all_goals first | decide +kernel | (simp only [Onyx.wf, State.wf, TimeBase.wf, State.openFor, State.uncommitted, State.mayRun, State.Issues, State.Converts, State.Stages]; decide +kernel)

theorem test_witness_DmaTransfers :
    (∃ (s : State) (l : Fin 64), (s.alive = true)) ∧
    (∃ (s : State) (c : Fin 64), (s.alive = true) ∧ ∃ takes : Bool, (takes = (s.on Reg.DMA_CTL_REQ_EN c && s.rd
     Reg.DMA_CTL_REQ_SEL c == 63)) ∧ (takes = false)) ∧
    (∃ (s : State) (c : Fin 64), (s.alive = true) ∧ ∃ takes : Bool, (takes = (s.on Reg.DMA_CTL_REQ_EN c && s.rd
     Reg.DMA_CTL_REQ_SEL c == 63)) ∧ (takes = true) ∧ (s.rd Reg.DMA_STATUS_REQ_PEND c = 255)) ∧
    (∃ (s : State) (c : Fin 64), (s.alive = true) ∧ ∃ takes : Bool, (takes = (s.on Reg.DMA_CTL_REQ_EN c && s.rd
     Reg.DMA_CTL_REQ_SEL c == 63)) ∧ (takes = true) ∧ (s.rd Reg.DMA_STATUS_REQ_PEND c ≠ 255)) ∧
    (∃ (s : State) (c : Fin 64), (s.alive = true)) ∧
    (∃ (s : State) (c : Fin 64) (b : Fin 8), (s.alive = true) ∧ ((s.channel c).current = none)) ∧
    (∃ (s : State) (c : Fin 64) (b : Fin 8), (s.alive = true) ∧ ∃ x, ((s.channel c).current = some x) ∧
     (x.trailing = false) ∧ (x.stop = none) ∧ ∃ v, (x.bursts[b.val]? = some v) ∧ (v.failed = false) ∧ (v.data =
     none) ∧ (v.tries < s.rd Reg.DMA_CTL_RETRY c)) ∧
    (∃ (s : State) (c : Fin 64) (b : Fin 8), (s.alive = true) ∧ ∃ x, ((s.channel c).current = some x) ∧
     (x.trailing = false) ∧ (x.stop = none) ∧ ∃ v, (x.bursts[b.val]? = some v) ∧ (v.failed = false) ∧ (v.data =
     none) ∧ (s.rd Reg.DMA_CTL_RETRY c ≤ v.tries)) ∧
    (∃ (s : State) (c : Fin 64) (b : Fin 8), (s.alive = true) ∧ ((s.channel c).current = none)) ∧
    (∃ (s : State) (c : Fin 64) (b : Fin 8), (s.alive = true) ∧ ∃ x, ((s.channel c).current = some x) ∧ (x.stop =
     none) ∧ (x.trailFailed = false) ∧ ∃ v, (x.bursts[b.val]? = some v) ∧ (v.failed = false)) ∧
    (∃ (s : State) (c : Fin 64) (b : Fin 8), (s.alive = true) ∧ ∃ x, ((s.channel c).current = some x) ∧ (x.stop =
     none) ∧ (x.trailFailed = false) ∧ ∃ v, (x.bursts[b.val]? = some v) ∧ (v.failed = true) ∧ ∃ a, (a =
     x.sourceByte v.first)) ∧
    (∃ (s : State) (c : Fin 64), (s.alive = true) ∧ ((s.channel c).current = none)) ∧
    (∃ (s : State) (c : Fin 64), (s.alive = true) ∧ ∃ x, ((s.channel c).current = some x) ∧ (x.payload = true ∨
     x.stop ≠ none ∨ x.issued ≠ x.total ∨ x.bursts ≠ [] ∨ (x.trailing = true ∧ x.trailed = false))) ∧
    (∃ (s : State) (c : Fin 64), (s.alive = true) ∧ ∃ x, ((s.channel c).current = some x) ∧ (x.payload = false) ∧
     (x.stop = none) ∧ (x.issued = x.total) ∧ (x.bursts = []) ∧ (x.trailing = false ∨ x.trailed = true) ∧
     ((s.channel c).waiting = []) ∧ (s.rd Reg.DMA_STATUS_STATE c ≠ 2)) ∧
    (∃ (s : State) (agent : Agent) (c : Fin 64), (s.alive = true) ∧ ∃ may : Bool, (may = (s.rd
     Reg.DMA_STATUS_STATE c == 2 && (s.holds agent c || agent.val == 0 || decide (16 ≤ agent.val)))) ∧ (may =
     false)) ∧
    (∃ (s : State) (agent : Agent) (c : Fin 64), (s.alive = true) ∧ ∃ may : Bool, (may = (s.rd
     Reg.DMA_STATUS_STATE c == 2 && (s.holds agent c || agent.val == 0 || decide (16 ≤ agent.val)))) ∧ (may = true)
     ∧ ((s.channel c).waiting = [])) ∧
    (∃ (s : State) (c : Fin 64), (s.alive = true) ∧ (s.rd Reg.DMA_STATUS_STATE c = 2)) ∧
    (∃ (s : State) (c : Fin 64), (s.alive = true) ∧ (s.rd Reg.DMA_STATUS_STATE c ≠ 2)) ∧
    (∃ (s : State) (agent : Agent) (c : Fin 64), (s.alive = true)) ∧
    (∃ (s : State) (o : Outside), (s.alive = true) ∧ (s.arbiter = none)) ∧
    (∃ (s : State) (o : Outside), (s.alive = true) ∧ ∃ g, (s.arbiter = some g) ∧ ∃ c, (c = g.1) ∧ ∃ x, (x = g.2.1)
     ∧ (x.src.testBit 63 = false) ∧ ∃ n, (n = x.nextBurst (s.burstLimit c)) ∧ ∃ a, (a = x.sourceByte x.granted)) ∧
    (∃ (s : State) (c : Nat) (x : Xfer), ∃ limit, (limit = s.burstLimit c) ∧ ∃ n, (n = x.nextBurst limit) ∧
     (x.payload = false)) ∧
    (∃ (s : State) (c : Nat) (x : Xfer), ∃ limit, (limit = s.burstLimit c) ∧ ∃ n, (n = x.nextBurst limit) ∧
     (x.serial = true)) ∧
    (∃ (s : State) (c : Fin 64) (b : Fin 8) (d : List Byte) (o : Outside), (s.alive = true) ∧ ((s.channel
     c).current = none)) ∧
    (∃ (s : State) (c : Fin 64) (b : Fin 8) (d : List Byte) (o : Outside), (s.alive = true) ∧ ∃ x, ((s.channel
     c).current = some x) ∧ (x.trailing = false) ∧ ∃ v, (x.bursts[b.val]? = some v) ∧ (v.failed = true ∨ v.data ≠
     none ∨ d.length ≠ v.count)) ∧
    (∃ (s : State) (c : Fin 64) (b : Fin 8) (d : List Byte) (o : Outside), (s.alive = true) ∧ ∃ x, ((s.channel
     c).current = some x) ∧ (x.trailing = false) ∧ ∃ v, (x.bursts[b.val]? = some v) ∧ (v.failed = false) ∧ (v.data
     = none) ∧ (d.length = v.count) ∧ (x.stop = none) ∧ (b.val ≠ 0) ∧ ((x.bursts.head?.bind (·.data)) = none)) ∧
    (∃ (s : State) (c : Fin 64) (b : Fin 8) (d : List Byte) (o : Outside), (s.alive = true) ∧ ∃ x, ((s.channel
     c).current = some x) ∧ (x.trailing = false) ∧ ∃ v, (x.bursts[b.val]? = some v) ∧ (v.failed = false) ∧ (v.data
     = none) ∧ (d.length = v.count) ∧ (x.stop = none) ∧ (x.bursts = [v]) ∧ (x.payload = false) ∧ (x.dst.testBit 63
     = false) ∧ (x.native = false) ∧ (x.carry = []) ∧ (0 < x.esize) ∧ ∃ n, (n = d.length / x.esize) ∧ (0 < n)) ∧
    (∃ (x : Xfer) (e : Nat), (0 < x.n0) ∧ (0 < x.n1) ∧ (e < x.total) ∧ ∃ i, (i = e % x.n0) ∧ ∃ j, (j = e / x.n0 %
     x.n1) ∧ ∃ k, (k = e / (x.n0 * x.n1))) := by
  refine ⟨⟨(mk15 .reset 0), 0, ?_⟩,
   ⟨(mk15 .reset 0), 0, ?_, _, rfl, ?_⟩,
   ⟨(mk15 .reset 0), 63, ?_, _, rfl, ?_⟩,
   ⟨(mk15 .reset 0), 1, ?_, _, rfl, ?_⟩,
   ⟨(mk15 .reset 0), 0, ?_⟩,
   ⟨(mk15 .reset 0), 2, 0, ?_⟩,
   ⟨(mk15 .reset 1), 0, 0, ?_, _, someOf (by decide +kernel), ?_, ?_, _, someOf (by decide +kernel), ?_⟩,
   ⟨(mk15 .reset 2), 1, 0, ?_, _, someOf (by decide +kernel), ?_, ?_, _, someOf (by decide +kernel), ?_⟩,
   ⟨(mk15 .reset 0), 2, 0, ?_⟩,
   ⟨(mk15 .reset 0), 1, 0, ?_, _, someOf (by decide +kernel), ?_, ?_, _, someOf (by decide +kernel), ?_⟩,
   ⟨(mk15 .reset 1), 1, 0, ?_, _, someOf (by decide +kernel), ?_, ?_, _, someOf (by decide +kernel), ?_, _, rfl⟩,
   ⟨(mk15 .reset 0), 2, ?_⟩,
   ⟨(mk15 .reset 0), 1, ?_, _, someOf (by decide +kernel), ?_⟩,
   ⟨(mk15 .reset 0), 0, ?_, _, someOf (by decide +kernel), ?_⟩,
   ⟨(mk15 .reset 0), 0, 0, ?_, _, rfl, ?_⟩,
   ⟨(mk15 .reset 0), 0, 63, ?_, _, rfl, ?_⟩,
   ⟨(mk15 .reset 0), 63, ?_⟩,
   ⟨(mk15 .reset 0), 0, ?_⟩,
   ⟨(mk15 .reset 0), 0, 0, ?_⟩,
   ⟨(mk15 .reset 9), { ctx := none, cqType := 0, bus := Sys2Proof.BusLines.free, usbCut := false }, ?_⟩,
   ⟨(mk15 .reset 0), { ctx := none, cqType := 0, bus := Sys2Proof.BusLines.free, usbCut := false }, ?_, _, someOf (by decide +kernel), _, rfl, _, rfl, ?_, _, rfl, _, rfl⟩,
   ⟨(mk15 .reset 0), 0, { queue := 5, index := 17, words := [], payload := false, esize := 4, n0 := 5, n1 := 2, n2 := 1, src := 4092, dst := 20480, linear := false, swapB := true, swapH := true, native := false, srcStep := [4, 20, -8], dstStep := [4, -20, 8], serial := false, granted := 8, issued := 10, bursts := [], retries := 0, trailing := false, trailed := false, trailTries := 0, trailFailed := false, writes := [], stop := none, carry := [], data := [] }, _, rfl, _, rfl, ?_⟩,
   ⟨(mk15 .reset 0), 0, { queue := 5, index := 17, words := [], payload := false, esize := 1, n0 := 5, n1 := 2, n2 := 1, src := 4098, dst := 20498, linear := false, swapB := true, swapH := true, native := false, srcStep := [1, 20, -8], dstStep := [1, -20, 8], serial := true, granted := 8, issued := 10, bursts := [], retries := 0, trailing := false, trailed := false, trailTries := 0, trailFailed := false, writes := [], stop := none, carry := [], data := [] }, _, rfl, _, rfl, ?_⟩,
   ⟨(mk15 .reset 0), 2, 0, [0x01#8, 0x02#8, 0x03#8, 0x04#8, 0x05#8, 0x06#8, 0x07#8, 0x08#8], { ctx := none, cqType := 0, bus := Sys2Proof.BusLines.free, usbCut := false }, ?_⟩,
   ⟨(mk15 .reset 1), 0, 0, [0x01#8, 0x02#8, 0x03#8, 0x04#8, 0x05#8, 0x06#8, 0x07#8, 0x08#8, 0x09#8, 0x0a#8], { ctx := none, cqType := 0, bus := Sys2Proof.BusLines.free, usbCut := false }, ?_, _, someOf (by decide +kernel), ?_, _, someOf (by decide +kernel), ?_⟩,
   ⟨(mk15 .reset 1), 1, 1, [0x01#8, 0x02#8, 0x03#8, 0x04#8, 0x05#8, 0x06#8, 0x07#8, 0x08#8, 0x09#8, 0x0a#8], { ctx := none, cqType := 0, bus := Sys2Proof.BusLines.free, usbCut := false }, ?_, _, someOf (by decide +kernel), ?_, _, someOf (by decide +kernel), ?_⟩,
   ⟨(mk15 .reset 1), 0, 0, [0x01#8, 0x02#8, 0x03#8, 0x04#8, 0x05#8, 0x06#8, 0x07#8, 0x08#8], { ctx := none, cqType := 0, bus := Sys2Proof.BusLines.free, usbCut := false }, ?_, _, someOf (by decide +kernel), ?_, _, someOf (by decide +kernel), ?_, ?_, ?_, ?_, ?_, ?_, ?_, ?_, ?_, ?_, _, rfl, ?_⟩,
   ⟨{ queue := 5, index := 17, words := [], payload := false, esize := 4, n0 := 5, n1 := 2, n2 := 1, src := 4092, dst := 20480, linear := false, swapB := true, swapH := true, native := false, srcStep := [4, 20, -8], dstStep := [4, -20, 8], serial := false, granted := 8, issued := 10, bursts := [], retries := 0, trailing := false, trailed := false, trailTries := 0, trailFailed := false, writes := [], stop := none, carry := [], data := [] }, 0, ?_, ?_, ?_, _, rfl, _, rfl, _, rfl⟩⟩
  all_goals first | decide +kernel | (simp only [Onyx.wf, State.wf, TimeBase.wf, State.openFor, State.uncommitted, State.mayRun, State.Issues, State.Converts, State.Stages]; decide +kernel)

theorem test_witness_InterruptControllers :
    (∃ (s : State) (c : Fin 17) (src : Fin 1024), (s.alive = true) ∧ ∃ ic, (ic = s.nt.ic) ∧ ∃ need, (need = ic.rd
     Reg.IC_PROF_COUNT c (ic.rd (profileRow src) c (src.val / 4))) ∧ ∃ n, (n = sget ic.count (1024 * c.val +
     src.val)) ∧ (1022 ≤ src.val ∨ ic.bit Reg.IC_PENDING_BITS c src = true) ∧ (src.val < 1022)) ∧
    (∃ (s : State) (c : Fin 17) (src : Fin 1024), (s.alive = true) ∧ ∃ ic, (ic = s.nt.ic) ∧ ∃ need, (need = ic.rd
     Reg.IC_PROF_COUNT c (ic.rd (profileRow src) c (src.val / 4))) ∧ ∃ n, (n = sget ic.count (1024 * c.val +
     src.val)) ∧ (1022 ≤ src.val)) ∧
    (∃ (s : State) (c : Fin 17) (src : Fin 1024), (s.alive = true) ∧ ∃ ic, (ic = s.nt.ic) ∧ ∃ need, (need = ic.rd
     Reg.IC_PROF_COUNT c (ic.rd (profileRow src) c (src.val / 4))) ∧ ∃ n, (n = sget ic.count (1024 * c.val +
     src.val)) ∧ (src.val < 1022) ∧ (ic.bit Reg.IC_PENDING_BITS c src = false) ∧ (n + 1 < need)) ∧
    (∃ (s : State) (c : Fin 17) (src : Fin 1024), (s.alive = true) ∧ ∃ ic, (ic = s.nt.ic) ∧ ∃ need, (need = ic.rd
     Reg.IC_PROF_COUNT c (ic.rd (profileRow src) c (src.val / 4))) ∧ ∃ n, (n = sget ic.count (1024 * c.val +
     src.val)) ∧ (src.val < 1022) ∧ (ic.bit Reg.IC_PENDING_BITS c src = false) ∧ (need ≤ n + 1)) ∧
    (∃ (s : State) (c : Fin 17) (src : Fin 1024), (s.alive = true) ∧ ∃ ic, (ic = s.nt.ic) ∧ ∃ n, (n = sget
     ic.count (1024 * c.val + src.val)) ∧ ∃ time, (time = ic.rd Reg.IC_PROF_TIME_US c (ic.rd (profileRow src) c
     (src.val / 4)) * 1000) ∧ (n = 0 ∨ s.tb.ns - sget ic.since (1024 * c.val + src.val) < time)) ∧
    (∃ (s : State) (c : Fin 17) (src : Fin 1024), (s.alive = true) ∧ ∃ ic, (ic = s.nt.ic) ∧ ∃ n, (n = sget
     ic.count (1024 * c.val + src.val)) ∧ ∃ time, (time = ic.rd Reg.IC_PROF_TIME_US c (ic.rd (profileRow src) c
     (src.val / 4)) * 1000) ∧ (n ≠ 0) ∧ (time ≤ s.tb.ns - sget ic.since (1024 * c.val + src.val))) ∧
    (∃ (s : State) (agent : Agent) (c : Fin 17), (s.alive = true) ∧ ∃ ic, (ic = s.nt.ic) ∧ ∃ src, (ic.best c =
     some src) ∧ (ic.rd Reg.IC_CTL_EN c = 1)) ∧
    (∃ (s : State) (agent : Agent) (c : Fin 17), (s.alive = true) ∧ ∃ ic, (ic = s.nt.ic) ∧ (ic.best c = none ∨
     ic.rd Reg.IC_CTL_EN c ≠ 1)) ∧
    (∃ (s : State) (c : Fin 17) (src : Fin 1024), (s.alive = true) ∧ ∃ ic, (ic = s.nt.ic) ∧ (ic.bit
     Reg.IC_INSERVICE_BITS c src = true)) ∧
    (∃ (s : State) (c : Fin 17) (src : Fin 1024), (s.alive = true) ∧ ∃ ic, (ic = s.nt.ic) ∧ (ic.bit
     Reg.IC_INSERVICE_BITS c src = false)) ∧
    (∃ (s : State) (c : Fin 17), (s.alive = true) ∧ ∃ ic, (ic = s.nt.ic) ∧ ∃ m, (m = ic.vector c) ∧ (c.val ∉
     ic.owed)) ∧
    (∃ (s : State) (c : Fin 17), (s.alive = true) ∧ ∃ ic, (ic = s.nt.ic) ∧ ∃ m, (m = ic.vector c) ∧ (c.val ∈
     ic.owed)) ∧
    (∃ (s : State) (c : Tenant) (enable functionMask vectorMask : Bool) (address : BitVec 64) (data : Word),
     (s.alive = true) ∧ ∃ held : Bool, (held = (s.nt.ic.vector c).pba) ∧ ∃ usable : Bool, (usable = (enable &&
     !functionMask && !vectorMask))) := by
  refine ⟨⟨(mk15 .reset 1), 0, 3, ?_, _, rfl, _, rfl, _, rfl, ?_⟩,
   ⟨(mk15 .reset 0), 0, 1022, ?_, _, rfl, _, rfl, _, rfl, ?_⟩,
   ⟨(mk15 .reset 0), 0, 40, ?_, _, rfl, _, rfl, _, rfl, ?_⟩,
   ⟨(mk15 .reset 0), 0, 0, ?_, _, rfl, _, rfl, _, rfl, ?_⟩,
   ⟨(mk15 .reset 0), 0, 0, ?_, _, rfl, _, rfl, _, rfl, ?_⟩,
   ⟨(mk15 .reset 0), 0, 3, ?_, _, rfl, _, rfl, _, rfl, ?_⟩,
   ⟨(mk15 .reset 1), 0, 0, ?_, _, rfl, _, someOf (by decide +kernel), ?_⟩,
   ⟨(mk15 .reset 0), 0, 0, ?_, _, rfl, ?_⟩,
   ⟨(mk15 .reset 1), 0, 3, ?_, _, rfl, ?_⟩,
   ⟨(mk15 .reset 0), 0, 0, ?_, _, rfl, ?_⟩,
   ⟨(mk15 .reset 1), 0, ?_, _, rfl, _, rfl, ?_⟩,
   ⟨(mk15 .reset 0), 0, ?_, _, rfl, _, rfl, ?_⟩,
   ⟨(mk15 .reset 0), 0, true, true, true, 0x00000000fee00000#64, 0x0000004d#32, ?_, _, rfl, _, rfl⟩⟩
  all_goals first | decide +kernel | (simp only [Onyx.wf, State.wf, TimeBase.wf, State.openFor, State.uncommitted, State.mayRun, State.Issues, State.Converts, State.Stages]; decide +kernel)

theorem test_witness_MemoryErrors :
    (∃ (s : State), (s.alive = true)) ∧
    (∃ (s : State) (k : Fin 4) (n : Nat), (s.alive = true) ∧ ((k = 0 → n < 12))) ∧
    (∃ (s : State) (v : Word), (s.alive = true) ∧ ∃ k, (k = v.toNat % 2 ^ 4) ∧ (v.toNat.testBit 4 = true) ∧ (k <
     12) ∧ (s.on Reg.LANE_FLT_HELD 0 k = true) ∧ ((s.lane k).resetIn = none)) ∧
    (∃ (s : State) (v : Word), (s.alive = true) ∧ ∃ k, (k = v.toNat % 2 ^ 4) ∧ (v.toNat.testBit 4 = false ∨ 12 ≤ k
     ∨ s.on Reg.LANE_FLT_HELD 0 k = false ∨ (s.lane k).resetIn ≠ none)) := by
  refine ⟨⟨(mk16 .reset 0), ?_⟩,
   ⟨(mk16 .reset 0), 0, 0, ?_⟩,
   ⟨(mk16 .reset 1), 0x00000013#32, ?_, _, rfl, ?_⟩,
   ⟨(mk16 .reset 0), 0x00000000#32, ?_, _, rfl, ?_⟩⟩
  all_goals first | decide +kernel | (simp only [Onyx.wf, State.wf, TimeBase.wf, State.openFor, State.uncommitted, State.mayRun, State.Issues, State.Converts, State.Stages]; decide +kernel)

theorem test_witness_PowerDomains :
    (∃ (s : State) (v : Word), (s.alive = true)) ∧
    (∃ (s : State) (d : Fin 8), (s.alive = true) ∧ (s.domain d ≠ 3)) ∧
    (∃ (s : State) (d : Fin 8), (s.alive = true) ∧ (s.domain d = 3) ∧ (s.domainXfers d ≠ 0)) ∧
    (∃ (s : State) (d : Fin 8), (s.alive = true) ∧ (s.domain d = 3) ∧ (2 ≤ d.val) ∧ (s.domainXfers d = 0)) ∧
    (∃ (s : State) (d : Fin 8), (s.alive = true) ∧ (s.domain d = 3) ∧ (2 ≤ d.val) ∧ (s.domainXfers d ≠ 0)) ∧
    (∃ (s : State) (d : Fin 8), (s.alive = true) ∧ (2 ≤ d.val) ∧ (s.domain d ≠ 1)) ∧
    (∃ (s : State) (d : Fin 8), (s.alive = true) ∧ (2 ≤ d.val) ∧ (s.domain d = 1) ∧ (s.wanted d = true)) ∧
    (∃ (s : State) (d : Fin 8), (s.alive = true) ∧ (d.val < 2 ∨ s.domain d = 0 ∨ s.domain d = 4)) ∧
    (∃ (s : State) (d : Fin 8), (s.alive = true) ∧ (2 ≤ d.val) ∧ (s.domain d ≠ 0) ∧ (s.domain d ≠ 4)) := by
  refine ⟨⟨(mk16 .reset 0), 0x00000000#32, ?_⟩,
   ⟨(mk16 .reset 0), 0, ?_⟩,
   ⟨(mk16 .reset 10), 3, ?_⟩,
   ⟨(mk16 .reset 0), 6, ?_⟩,
   ⟨(mk16 .reset 10), 3, ?_⟩,
   ⟨(mk16 .reset 0), 2, ?_⟩,
   ⟨(mk16 .reset 0), 3, ?_⟩,
   ⟨(mk16 .reset 0), 0, ?_⟩,
   ⟨(mk16 .reset 0), 3, ?_⟩⟩
  all_goals first | decide +kernel | (simp only [Onyx.wf, State.wf, TimeBase.wf, State.openFor, State.uncommitted, State.mayRun, State.Issues, State.Converts, State.Stages]; decide +kernel)

theorem test_witness_CapacityLevel :
    (∃ (s : State), (s.alive = true) ∧ ∃ f, (f = min 1000 (s.rd Reg.THROT_FRAC_F * 3 / 2)) ∧ ∃ now, (now = (fun r
     => (s.rd (capRows r).1 * f / 1000) % 2 ^ 16)) ∧ ∃ short, (short = [0, 1, 2].filter (fun r => decide (now r <
     s.guaranteed r s.tenantUp))) ∧ ∃ l, (l = s.rd Reg.CAP_STATUS_LEVEL) ∧ ∃ falls : Bool, (falls = decide (s.rd
     Reg.CAP_CTL_HOLD_MS ≤ s.cap.clear + 1))) := by
  refine ⟨(mk16 .reset 0), ?_, _, rfl, _, rfl, _, rfl, _, rfl, _, rfl⟩
  all_goals first | decide +kernel | (simp only [Onyx.wf, State.wf, TimeBase.wf, State.openFor, State.uncommitted, State.mayRun, State.Issues, State.Converts, State.Stages]; decide +kernel)

theorem test_witness_ManagementLog :
    (∃ (s : State) (kind tenant : Fin 32) (page : Fin 8192) (offset : Fin 4096) (be : Fin 16) (value arg1 : Word)
     (arg2 : BitVec 16), (s.alive = true) ∧ ∃ l, (l = s.nt.log) ∧ ∃ e, (e = (fun seq => (⟨s.tb.ns, seq, kind,
     tenant, page, offset, be, value.toNat, arg1.toNat, arg2.toNat⟩ : LogEntry))) ∧ (l.lostPending = 0) ∧
     (l.intake.length < 256)) ∧
    (∃ (s : State) (kind tenant : Fin 32) (page : Fin 8192) (offset : Fin 4096) (be : Fin 16) (value arg1 : Word)
     (arg2 : BitVec 16), (s.alive = true) ∧ ∃ l, (l = s.nt.log) ∧ ∃ e, (e = (fun seq => (⟨s.tb.ns, seq, kind,
     tenant, page, offset, be, value.toNat, arg1.toNat, arg2.toNat⟩ : LogEntry))) ∧ (l.lostPending ≠ 0) ∧
     (l.intake.length < 255)) ∧
    (∃ (s : State) (kind tenant : Fin 32) (page : Fin 8192) (offset : Fin 4096) (be : Fin 16) (value arg1 : Word)
     (arg2 : BitVec 16), (s.alive = true) ∧ ∃ l, (l = s.nt.log) ∧ ∃ e, (e = (fun seq => (⟨s.tb.ns, seq, kind,
     tenant, page, offset, be, value.toNat, arg1.toNat, arg2.toNat⟩ : LogEntry))) ∧ (256 - l.intake.length < (if
     l.lostPending = 0 then 1 else 2))) ∧
    (∃ s : State, (s.alive = true) ∧ ∃ l, (l = s.nt.log) ∧ (l.intake = [])) ∧
    (∃ s : State, (s.alive = true) ∧ ∃ l, (l = s.nt.log) ∧ ∃ e rest, (l.intake = e :: rest)) ∧
    (∃ (s : State) (fail : Bool), (s.alive = true) ∧ ∃ l, (l = s.nt.log) ∧ (l.waiting = [] ∨ l.mirrorStopped =
     true)) ∧
    (∃ (s : State) (fail : Bool), (s.alive = true) ∧ ∃ l, (l = s.nt.log) ∧ (l.waiting ≠ []) ∧ (l.mirrorStopped =
     false) ∧ (fail = true ∨ s.mgmt.flash.fitted = false)) ∧
    (∃ (s : State) (fail : Bool), (s.alive = true) ∧ ∃ l, (l = s.nt.log) ∧ (l.waiting ≠ []) ∧ (l.mirrorStopped =
     false) ∧ (fail = false) ∧ (s.mgmt.flash.fitted = true)) ∧
    (∃ (s : State) (v : Word), (s.alive = true)) ∧
    (∃ s : State, (s.alive = true) ∧ (s.mgmt.logWanted = false)) ∧
    (∃ s : State, (s.alive = true) ∧ (s.mgmt.logWanted = true) ∧ ∃ e, (e = s.logFind (s.rd Reg.LOG_SRC_SRC) (s.rd
     Reg.LOG_SEL_SEQ))) ∧
    (∃ (s : State) (agent : Agent) (w : Fin 8), (s.alive = true)) := by
  refine ⟨⟨(mk18 .reset 0), 1, 1, 2304, 32, 0, 0x00000000#32, 0x00000000#32, 0x0000#16, ?_, _, rfl, _, rfl, ?_⟩,
   ⟨(mk18 .reset 1), 1, 1, 2304, 32, 0, 0x00000000#32, 0x00000000#32, 0x0000#16, ?_, _, rfl, _, rfl, ?_⟩,
   ⟨(mk18 .reset 5), 1, 1, 2304, 32, 0, 0x00000000#32, 0x00000000#32, 0x0000#16, ?_, _, rfl, _, rfl, ?_⟩,
   ⟨(mk18 .reset 0), ?_, _, rfl, ?_⟩,
   ⟨(mk18 .reset 1), ?_, _, rfl, _, _, consOf (by decide +kernel)⟩,
   ⟨(mk18 .reset 0), true, ?_, _, rfl, ?_⟩,
   ⟨(mk18 .reset 1), true, ?_, _, rfl, ?_⟩,
   ⟨(mk18 .reset 2), false, ?_, _, rfl, ?_⟩,
   ⟨(mk18 .reset 0), 0x00000000#32, ?_⟩,
   ⟨(mk18 .reset 0), ?_⟩,
   ⟨(mk18 .reset 1), ?_, ?_, _, rfl⟩,
   ⟨(mk18 .reset 0), 0, 0, ?_⟩⟩
  all_goals first | decide +kernel | (simp only [Onyx.wf, State.wf, TimeBase.wf, State.openFor, State.uncommitted, State.mayRun, State.Issues, State.Converts, State.Stages]; decide +kernel)

theorem test_witness_MonitorsAndThermal :
    (∃ (s : State) (xs : List (Option (Nat × Nat))), (s.alive = true) ∧ (xs.length = 12)) ∧
    (∃ s : State, (s.alive = true) ∧ (s.mgmt.running = false)) ∧
    (∃ s : State, (s.alive = true) ∧ (s.mgmt.running = true)) := by
  refine ⟨⟨(mk18 .reset 0), (List.replicate 12 none), ?_⟩,
   ⟨(mk18 .reset 0), ?_⟩,
   ⟨(mk18 .reset 1), ?_⟩⟩
  all_goals first | decide +kernel | (simp only [Onyx.wf, State.wf, TimeBase.wf, State.openFor, State.uncommitted, State.mayRun, State.Issues, State.Converts, State.Stages]; decide +kernel)

theorem test_witness_Mailboxes :
    (∃ (s : State) (agent : Agent) (t : Tenant) (v : Word), (s.alive = true) ∧ ∃ n, (n = v.toNat % 2 ^ 7) ∧
     (v.toNat.testBit 31 = false)) ∧
    (∃ (s : State) (agent : Agent) (t : Tenant) (v : Word), (s.alive = true) ∧ ∃ n, (n = v.toNat % 2 ^ 7) ∧
     (v.toNat.testBit 31 = true) ∧ (s.rd Reg.MBX_STATUS_STATE t ≠ 0 ∨ n = 0 ∨ 64 < n)) ∧
    (∃ (s : State) (agent : Agent) (t : Tenant) (v : Word), (s.alive = true) ∧ ∃ n, (n = v.toNat % 2 ^ 7) ∧
     (v.toNat.testBit 31 = true) ∧ (s.rd Reg.MBX_STATUS_STATE t = 0) ∧ (0 < n) ∧ (n ≤ 64)) ∧
    (∃ (s : State) (t : Tenant), (s.alive = true) ∧ (s.rd Reg.MBX_STATUS_STATE t ≠ 1 ∨ s.mgmtRuns = false)) ∧
    (∃ (s : State) (t : Tenant), (s.alive = true) ∧ (s.rd Reg.MBX_STATUS_STATE t = 1) ∧ (s.mgmtRuns = true)) ∧
    (∃ (s : State) (t : Tenant), (s.alive = true) ∧ (s.rd Reg.MBX_STATUS_STATE t ≠ 2 ∨ (tfind t.val s.mgmt.replies
     = none ∧ s.mgmtRuns = false))) ∧
    (∃ (s : State) (t : Tenant), (s.alive = true) ∧ (s.rd Reg.MBX_STATUS_STATE t = 2) ∧ ∃ w, (tfind t.val
     s.mgmt.replies = some w) ∧ (w.length ≤ 64)) ∧
    (∃ (s : State) (t : Tenant) (v : Word), (s.alive = true)) ∧
    (∃ (s : State) (agent : Agent) (t : Tenant), (s.alive = true)) ∧
    (∃ (s : State) (t : Tenant), (s.alive = true) ∧ ∃ w, (w = tget [] s.mgmt.requests t) ∧ ∃ up : Bool, (up =
     (s.tenantState t == 2 || s.mgmt.recovery)) ∧ (s.asked t 2 = false)) ∧
    (∃ (s : State) (t : Tenant), (s.alive = true) ∧ ∃ w, (w = tget [] s.mgmt.requests t) ∧ ∃ up : Bool, (up =
     (s.tenantState t == 2 || s.mgmt.recovery)) ∧ (s.asked t 2 = true)) ∧
    (∃ (s : State) (t : Tenant), (s.alive = true) ∧ ∃ w, (w = tget [] s.mgmt.requests t) ∧ ∃ up : Bool, (up =
     (s.tenantState t == 2 || s.mgmt.recovery)) ∧ (s.asked t 3 = false ∨ s.mgmt.recovery = true)) ∧
    (∃ (s : State) (t : Tenant), (s.alive = true) ∧ ∃ w, (w = tget [] s.mgmt.requests t) ∧ ∃ up : Bool, (up =
     (s.tenantState t == 2 || s.mgmt.recovery)) ∧ (s.asked t 3 = true) ∧ (s.mgmt.recovery = false) ∧ (s.tenantState
     t ≠ 2)) ∧
    (∃ (s : State) (t : Tenant), (s.alive = true) ∧ ∃ w, (w = tget [] s.mgmt.requests t) ∧ ∃ up : Bool, (up =
     (s.tenantState t == 2 || s.mgmt.recovery)) ∧ (s.asked t 3 = true) ∧ (s.mgmt.recovery = false) ∧ (s.tenantState
     t = 2) ∧ (w.length ≠ 3 ∨ w.getD 0 0 / 2 ^ 8 % 2 ^ 8 ≠ 3)) ∧
    (∃ (s : State) (t : Tenant), (s.alive = true) ∧ ∃ w, (w = tget [] s.mgmt.requests t) ∧ ∃ up : Bool, (up =
     (s.tenantState t == 2 || s.mgmt.recovery)) ∧ (s.asked t 3 = true) ∧ (s.mgmt.recovery = false) ∧ (s.tenantState
     t = 2) ∧ (w.length = 3) ∧ (w.getD 0 0 / 2 ^ 8 % 2 ^ 8 = 3) ∧ (s.nt.log.lostPending = 0) ∧
     (s.nt.log.intake.length < 256)) := by
  refine ⟨⟨(mk18 .reset 0), 0, 0, 0x00000000#32, ?_, _, rfl, ?_⟩,
   ⟨(mk18 .reset 0), 0, 0, 0x80000000#32, ?_, _, rfl, ?_⟩,
   ⟨(mk18 .reset 0), 0, 0, 0x80000003#32, ?_, _, rfl, ?_⟩,
   ⟨(mk18 .reset 0), 0, ?_⟩,
   ⟨(mk18 .reset 1), 0, ?_⟩,
   ⟨(mk18 .reset 0), 0, ?_⟩,
   ⟨(mk18 .reset 10), 0, ?_, ?_, _, someOf (by decide +kernel), ?_⟩,
   ⟨(mk18 .reset 0), 0, 0x00000000#32, ?_⟩,
   ⟨(mk18 .reset 0), 0, 0, ?_⟩,
   ⟨(mk18 .reset 0), 0, ?_, _, rfl, _, rfl, ?_⟩,
   ⟨(mk18 .reset 2), 0, ?_, _, rfl, _, rfl, ?_⟩,
   ⟨(mk18 .reset 0), 0, ?_, _, rfl, _, rfl, ?_⟩,
   ⟨(mk18 .reset 8), 2, ?_, _, rfl, _, rfl, ?_⟩,
   ⟨(mk18 .reset 9), 2, ?_, _, rfl, _, rfl, ?_⟩,
   ⟨(mk18 .reset 18), 0, ?_, _, rfl, _, rfl, ?_⟩⟩
  all_goals first | decide +kernel | (simp only [Onyx.wf, State.wf, TimeBase.wf, State.openFor, State.uncommitted, State.mayRun, State.Issues, State.Converts, State.Stages]; decide +kernel)

theorem test_witness_FirmwareUpdate :
    (∃ s : State, (s.alive = true) ∧ (s.mgmt.bootDue = false)) ∧
    (∃ s : State, (s.alive = true) ∧ (s.mgmt.bootDue = true) ∧ ∃ r, (r = s.mgmt.flash.record) ∧ (r.valid = true) ∧
     ∃ trial : Bool, (trial = (r.trial.isSome && !r.attempted)) ∧ ∃ bank, (bank = (if trial then r.trial.getD 0
     else r.confirmed)) ∧ (s.bankReason bank ≠ 0) ∧ (s.bankReason (1 - bank) ≠ 0)) ∧
    (∃ (s : State) (usb : Bool), (s.alive = true) ∧ ∃ st, (st = s.rd Reg.UPD_STATUS_STATE) ∧ ∃ owner, (owner = (if
     usb then 2 else 1)) ∧ ∃ mine : Bool, (mine = (s.rd Reg.UPD_STATUS_OWNER == owner)) ∧ (s.mgmtRuns = true) ∧ (st
     = 0 ∨ st = 3 ∨ st = 4 ∨ st = 5) ∧ (s.mgmt.recovery = false)) ∧
    (∃ (s : State) (usb : Bool), (s.alive = true) ∧ ∃ st, (st = s.rd Reg.UPD_STATUS_STATE) ∧ ∃ owner, (owner = (if
     usb then 2 else 1)) ∧ ∃ mine : Bool, (mine = (s.rd Reg.UPD_STATUS_OWNER == owner)) ∧ (s.mgmtRuns = false ∨ st
     = 1 ∨ st = 2 ∨ st = 6)) ∧
    (∃ (s : State) (usb : Bool), (s.alive = true) ∧ ∃ st, (st = s.rd Reg.UPD_STATUS_STATE) ∧ ∃ owner, (owner = (if
     usb then 2 else 1)) ∧ ∃ mine : Bool, (mine = (s.rd Reg.UPD_STATUS_OWNER == owner)) ∧ (s.mgmtRuns = true) ∧ (st
     = 1) ∧ (mine = true)) ∧
    (∃ (s : State) (usb : Bool), (s.alive = true) ∧ ∃ st, (st = s.rd Reg.UPD_STATUS_STATE) ∧ ∃ owner, (owner = (if
     usb then 2 else 1)) ∧ ∃ mine : Bool, (mine = (s.rd Reg.UPD_STATUS_OWNER == owner)) ∧ (s.mgmtRuns = false ∨ st
     ≠ 1 ∨ mine = false)) ∧
    (∃ (s : State) (usb : Bool), (s.alive = true) ∧ ∃ st, (st = s.rd Reg.UPD_STATUS_STATE) ∧ ∃ owner, (owner = (if
     usb then 2 else 1)) ∧ ∃ mine : Bool, (mine = (s.rd Reg.UPD_STATUS_OWNER == owner)) ∧ (s.mgmtRuns = true) ∧ (st
     = 3)) ∧
    (∃ (s : State) (usb : Bool), (s.alive = true) ∧ ∃ st, (st = s.rd Reg.UPD_STATUS_STATE) ∧ ∃ owner, (owner = (if
     usb then 2 else 1)) ∧ ∃ mine : Bool, (mine = (s.rd Reg.UPD_STATUS_OWNER == owner)) ∧ (s.mgmtRuns = false ∨ st
     ≠ 3)) ∧
    (∃ (s : State) (usb : Bool), (s.alive = true) ∧ ∃ st, (st = s.rd Reg.UPD_STATUS_STATE) ∧ ∃ owner, (owner = (if
     usb then 2 else 1)) ∧ ∃ mine : Bool, (mine = (s.rd Reg.UPD_STATUS_OWNER == owner)) ∧ (s.mgmtRuns = true) ∧ (st
     = 6)) ∧
    (∃ (s : State) (usb : Bool), (s.alive = true) ∧ ∃ st, (st = s.rd Reg.UPD_STATUS_STATE) ∧ ∃ owner, (owner = (if
     usb then 2 else 1)) ∧ ∃ mine : Bool, (mine = (s.rd Reg.UPD_STATUS_OWNER == owner)) ∧ (s.mgmtRuns = false ∨ st
     ≠ 6)) ∧
    (∃ (s : State) (usb : Bool), (s.alive = true) ∧ ∃ st, (st = s.rd Reg.UPD_STATUS_STATE) ∧ ∃ owner, (owner = (if
     usb then 2 else 1)) ∧ ∃ mine : Bool, (mine = (s.rd Reg.UPD_STATUS_OWNER == owner)) ∧ (s.mgmtRuns = true) ∧ (st
     = 5)) ∧
    (∃ (s : State) (usb : Bool), (s.alive = true) ∧ ∃ st, (st = s.rd Reg.UPD_STATUS_STATE) ∧ ∃ owner, (owner = (if
     usb then 2 else 1)) ∧ ∃ mine : Bool, (mine = (s.rd Reg.UPD_STATUS_OWNER == owner)) ∧ (s.mgmtRuns = false ∨ (st
     = 1 ∧ mine = false) ∨ (st ≠ 1 ∧ st ≠ 5))) ∧
    (∃ s : State, (s.alive = true) ∧ (s.rd Reg.UPD_STATUS_STATE ≠ 2 ∨ s.mgmt.buffer ≠ [])) ∧
    (∃ s : State, (s.alive = true) ∧ (s.rd Reg.UPD_STATUS_STATE = 2) ∧ (s.mgmt.buffer = []) ∧ ∃ r, (r =
     s.bankReason s.mgmt.target (some (s.rd Reg.UPD_COUNT_BYTES)))) ∧
    (∃ (s : State) (v : Word), (s.alive = true) ∧ ∃ n, (n = s.rd Reg.UPD_COUNT_BYTES) ∧ ∃ free, (free = s.rd
     Reg.UPD_FREE_BYTES) ∧ (s.rd Reg.UPD_STATUS_STATE ≠ 1)) ∧
    (∃ (s : State) (v : Word), (s.alive = true) ∧ ∃ n, (n = s.rd Reg.UPD_COUNT_BYTES) ∧ ∃ free, (free = s.rd
     Reg.UPD_FREE_BYTES) ∧ (s.rd Reg.UPD_STATUS_STATE = 1) ∧ (free < 4)) ∧
    (∃ (s : State) (v : Word), (s.alive = true) ∧ ∃ n, (n = s.rd Reg.UPD_COUNT_BYTES) ∧ ∃ free, (free = s.rd
     Reg.UPD_FREE_BYTES) ∧ (s.rd Reg.UPD_STATUS_STATE = 1) ∧ (4 ≤ free) ∧ (4194304 < n + 4)) ∧
    (∃ (s : State) (v : Word), (s.alive = true) ∧ ∃ n, (n = s.rd Reg.UPD_COUNT_BYTES) ∧ ∃ free, (free = s.rd
     Reg.UPD_FREE_BYTES) ∧ (s.rd Reg.UPD_STATUS_STATE = 1) ∧ (4 ≤ free) ∧ (n + 4 ≤ 4194304)) ∧
    (∃ (s : State) (fail : Bool), (s.alive = true) ∧ ∃ due : Bool, (due = ((s.rd Reg.UPD_STATUS_STATE == 1 || s.rd
     Reg.UPD_STATUS_STATE == 2) && !s.mgmt.buffer.isEmpty)) ∧ (due = false)) ∧
    (∃ (s : State) (fail : Bool), (s.alive = true) ∧ ∃ due : Bool, (due = ((s.rd Reg.UPD_STATUS_STATE == 1 || s.rd
     Reg.UPD_STATUS_STATE == 2) && !s.mgmt.buffer.isEmpty)) ∧ (due = true) ∧ (fail = true ∨ s.mgmt.flash.fitted =
     false)) ∧
    (∃ (s : State) (fail : Bool), (s.alive = true) ∧ ∃ due : Bool, (due = ((s.rd Reg.UPD_STATUS_STATE == 1 || s.rd
     Reg.UPD_STATUS_STATE == 2) && !s.mgmt.buffer.isEmpty)) ∧ (due = true) ∧ (fail = false) ∧ (s.mgmt.flash.fitted
     = true) ∧ ∃ done, (done = s.mgmt.flash.bank s.mgmt.target)) := by
  refine ⟨⟨(mk18 .reset 3), ?_⟩,
   ⟨(mk18 .reset 0), ?_, ?_, _, rfl, ?_, _, rfl, _, rfl, ?_⟩,
   ⟨(mk18 .reset 3), true, ?_, _, rfl, _, rfl, _, rfl, ?_⟩,
   ⟨(mk18 .reset 1), true, ?_, _, rfl, _, rfl, _, rfl, ?_⟩,
   ⟨(mk18 .reset 1), true, ?_, _, rfl, _, rfl, _, rfl, ?_⟩,
   ⟨(mk18 .reset 0), true, ?_, _, rfl, _, rfl, _, rfl, ?_⟩,
   ⟨(mk18 .reset 3), true, ?_, _, rfl, _, rfl, _, rfl, ?_⟩,
   ⟨(mk18 .reset 0), true, ?_, _, rfl, _, rfl, _, rfl, ?_⟩,
   ⟨(mk18 .reset 6), true, ?_, _, rfl, _, rfl, _, rfl, ?_⟩,
   ⟨(mk18 .reset 0), true, ?_, _, rfl, _, rfl, _, rfl, ?_⟩,
   ⟨(mk18 .reset 12), true, ?_, _, rfl, _, rfl, _, rfl, ?_⟩,
   ⟨(mk18 .reset 0), true, ?_, _, rfl, _, rfl, _, rfl, ?_⟩,
   ⟨(mk18 .reset 0), ?_⟩,
   ⟨(mk18 .reset 16), ?_, ?_, ?_, _, rfl⟩,
   ⟨(mk18 .reset 0), 0x00000000#32, ?_, _, rfl, _, rfl, ?_⟩,
   ⟨(mk18 .reset 15), 0x00000000#32, ?_, _, rfl, _, rfl, ?_⟩,
   ⟨(mk18 .reset 36), 0x00000000#32, ?_, _, rfl, _, rfl, ?_⟩,
   ⟨(mk18 .reset 1), 0x00000000#32, ?_, _, rfl, _, rfl, ?_⟩,
   ⟨(mk18 .reset 0), true, ?_, _, rfl, ?_⟩,
   ⟨(mk18 .reset 2), true, ?_, _, rfl, ?_⟩,
   ⟨(mk18 .reset 2), false, ?_, _, rfl, ?_, ?_, ?_, _, rfl⟩⟩
  all_goals first | decide +kernel | (simp only [Onyx.wf, State.wf, TimeBase.wf, State.openFor, State.uncommitted, State.mayRun, State.Issues, State.Converts, State.Stages]; decide +kernel)

theorem test_witness_UsbPort :
    (∃ (s : State) (present : Bool), ∃ st, (st = s.rd Reg.USB_STATUS_STATE) ∧ (s.alive = false)) ∧
    (∃ (s : State) (present : Bool), ∃ st, (st = s.rd Reg.USB_STATUS_STATE) ∧ (s.alive = true) ∧ (present = false)
     ∧ (st ≠ 0)) ∧
    (∃ (s : State) (present : Bool), ∃ st, (st = s.rd Reg.USB_STATUS_STATE) ∧ (s.alive = true) ∧ (present = true)
     ∧ (st = 0) ∧ (s.on Reg.USB_CTL_EN = true) ∧ (s.mgmtRuns = true)) ∧
    (∃ (s : State) (present : Bool), ∃ st, (st = s.rd Reg.USB_STATUS_STATE) ∧ (s.alive = true) ∧ ((present = false
     ∧ st = 0) ∨ (present = true ∧ st ≠ 0 ∧ s.on Reg.USB_CTL_EN = true))) ∧
    (∃ (s : State) (hs cut : Bool), (s.alive = true) ∧ (s.rd Reg.USB_STATUS_STATE = 0)) ∧
    (∃ (s : State) (hs cut : Bool), (s.alive = true) ∧ (s.rd Reg.USB_STATUS_STATE ≠ 0)) ∧
    (∃ (s : State) (a : Fin 128), (s.alive = true) ∧ ∃ st, (st = s.rd Reg.USB_STATUS_STATE) ∧ ((st = 2 ∧ a.val ≠
     0) ∨ st = 3)) ∧
    (∃ (s : State) (a : Fin 128), (s.alive = true) ∧ ∃ st, (st = s.rd Reg.USB_STATUS_STATE) ∧ (st ≠ 2 ∧ st ≠ 3)) ∧
    (∃ (s : State) (v : Fin 256), (s.alive = true) ∧ ∃ st, (st = s.rd Reg.USB_STATUS_STATE) ∧ (st = 3) ∧ (v.val =
     1)) ∧
    (∃ (s : State) (v : Fin 256), (s.alive = true) ∧ ∃ st, (st = s.rd Reg.USB_STATUS_STATE) ∧ (st = 4) ∧ (v.val =
     0)) ∧
    (∃ (s : State) (v : Fin 256), (s.alive = true) ∧ ∃ st, (st = s.rd Reg.USB_STATUS_STATE) ∧ ((st = 3 ∨ st = 4) ∧
     1 < v.val ∨ st = 2)) ∧
    (∃ (s : State) (v : Fin 256), (s.alive = true) ∧ ∃ st, (st = s.rd Reg.USB_STATUS_STATE) ∧ (st < 2 ∨ 4 < st ∨
     (st = 3 ∧ v.val = 0) ∨ (st = 4 ∧ v.val = 1))) ∧
    (∃ s : State, (s.alive = true) ∧ ∃ st, (st = s.rd Reg.USB_STATUS_STATE) ∧ (st = 0 ∨ 5 ≤ st)) ∧
    (∃ s : State, (s.alive = true) ∧ ∃ st, (st = s.rd Reg.USB_STATUS_STATE) ∧ (1 ≤ st) ∧ (st ≤ 4)) ∧
    (∃ s : State, (s.alive = true) ∧ (s.rd Reg.USB_STATUS_STATE ≠ 5)) ∧
    (∃ s : State, (s.alive = true) ∧ (s.rd Reg.USB_STATUS_STATE = 5)) ∧
    (∃ s : State, (s.alive = true) ∧ ∃ wakes : Bool, (wakes = (s.nt.usb.suspended && s.nt.usb.wakePending &&
     !s.nt.usb.wakeSent)) ∧ (wakes = false)) ∧
    (∃ s : State, (s.alive = true) ∧ ∃ wakes : Bool, (wakes = (s.nt.usb.suspended && s.nt.usb.wakePending &&
     !s.nt.usb.wakeSent)) ∧ (wakes = true)) ∧
    (∃ s : State, (s.alive = true) ∧ ∃ meets : Bool, (meets = (s.nt.usb.suspended && s.nt.usb.wakeSent &&
     !s.nt.usb.wakeCollided)) ∧ (meets = false)) ∧
    (∃ s : State, (s.alive = true) ∧ ∃ meets : Bool, (meets = (s.nt.usb.suspended && s.nt.usb.wakeSent &&
     !s.nt.usb.wakeCollided)) ∧ (meets = true)) ∧
    (∃ (s : State) (kind index : Fin 256) (n : Fin 65536), (s.alive = true) ∧ ∃ d, (d = s.usbDescriptor kind
     index) ∧ ∃ b, (d = some b)) ∧
    (∃ (s : State) (kind index : Fin 256) (n : Fin 65536), (s.alive = true) ∧ ∃ d, (d = s.usbDescriptor kind
     index) ∧ (d = none)) ∧
    (∃ (s : State) (kind index : Fin 256) (n : Fin 65536), (s.alive = true) ∧ ∃ d, (d = s.usbDescriptor kind
     index) ∧ (kind.val = 1)) ∧
    (∃ (s : State) (kind index : Fin 256) (n : Fin 65536), (s.alive = true) ∧ ∃ d, (d = s.usbDescriptor kind
     index) ∧ (kind.val = 4 ∨ kind.val = 5 ∨ 8 ≤ kind.val)) ∧
    (∃ (s : State) (n : Fin 65536), (s.alive = true) ∧ ∃ on, (on = (if s.rd Reg.USB_STATUS_STATE = 4 then 1 else
     0))) ∧
    (∃ (s : State) (r : Fin 32) (index n : Fin 65536), (s.alive = true) ∧ ∃ e, (e = endpointOf index) ∧ (r.val =
     0)) ∧
    (∃ (s : State) (r : Fin 32) (index n : Fin 65536), (s.alive = true) ∧ ∃ e, (e = endpointOf index) ∧ (r.val =
     1)) ∧
    (∃ (s : State) (r : Fin 32) (index n : Fin 65536), (s.alive = true) ∧ ∃ e, (e = endpointOf index) ∧ (r.val =
     2) ∧ ∃ i, (e = some i)) ∧
    (∃ (s : State) (r : Fin 32) (index n : Fin 65536), (s.alive = true) ∧ ∃ e, (e = endpointOf index) ∧ (3 ≤
     r.val)) ∧
    (∃ (s : State) (r : Fin 32) (f index : Fin 65536), (s.alive = true) ∧ (s.usbAnswers = true) ∧ ∃ e, (e =
     endpointOf index) ∧ (r.val = 0) ∧ (f.val = 1)) ∧
    (∃ (s : State) (r : Fin 32) (f index : Fin 65536), (s.alive = true) ∧ (s.usbAnswers = true) ∧ ∃ e, (e =
     endpointOf index) ∧ (r.val = 0) ∧ (f.val = 2)) ∧
    (∃ (s : State) (r : Fin 32) (f index : Fin 65536), (s.alive = true) ∧ (s.usbAnswers = true) ∧ ∃ e, (e =
     endpointOf index) ∧ (r.val = 2) ∧ (f.val = 0) ∧ ∃ i, (e = some i)) ∧
    (∃ (s : State) (r : Fin 32) (f index : Fin 65536), (s.alive = true) ∧ (s.usbAnswers = true) ∧ ∃ e, (e =
     endpointOf index) ∧ (3 ≤ r.val ∨ 3 ≤ f.val)) ∧
    (∃ (s : State) (alt index n : Fin 65536), (s.alive = true) ∧ ∃ here : Bool, (here = (index.val == 0 && s.rd
     Reg.USB_STATUS_STATE == 4)) ∧ (alt.val = 0) ∧ (here = true)) ∧
    (∃ (s : State) (alt index n : Fin 65536), (s.alive = true) ∧ ∃ here : Bool, (here = (index.val == 0 && s.rd
     Reg.USB_STATUS_STATE == 4)) ∧ (alt.val ≠ 0 ∨ here = false)) ∧
    (∃ s : State, (s.alive = true)) := by
  refine ⟨⟨(mk19 .reset 12), true, _, rfl, ?_⟩,
   ⟨(mk19 .reset 0), false, _, rfl, ?_⟩,
   ⟨(mk19 .reset 14), true, _, rfl, ?_⟩,
   ⟨(mk19 .reset 1), true, _, rfl, ?_⟩,
   ⟨(mk19 .reset 7), true, true, ?_⟩,
   ⟨(mk19 .reset 0), true, true, ?_⟩,
   ⟨(mk19 .reset 2), 1, ?_, _, rfl, ?_⟩,
   ⟨(mk19 .reset 0), 0, ?_, _, rfl, ?_⟩,
   ⟨(mk19 .reset 10), 1, ?_, _, rfl, ?_⟩,
   ⟨(mk19 .reset 0), 0, ?_, _, rfl, ?_⟩,
   ⟨(mk19 .reset 0), 2, ?_, _, rfl, ?_⟩,
   ⟨(mk19 .reset 0), 1, ?_, _, rfl, ?_⟩,
   ⟨(mk19 .reset 5), ?_, _, rfl, ?_⟩,
   ⟨(mk19 .reset 0), ?_, _, rfl, ?_⟩,
   ⟨(mk19 .reset 0), ?_⟩,
   ⟨(mk19 .reset 5), ?_⟩,
   ⟨(mk19 .reset 0), ?_, _, rfl, ?_⟩,
   ⟨(mk19 .reset 1), ?_, _, rfl, ?_⟩,
   ⟨(mk19 .reset 1), ?_, _, rfl, ?_⟩,
   ⟨(mk19 .reset 0), ?_, _, rfl, ?_⟩,
   ⟨(mk19 .reset 0), 1, 0, 0, ?_, _, rfl, _, someOf (by decide +kernel)⟩,
   ⟨(mk19 .reset 0), 0, 0, 0, ?_, _, rfl, ?_⟩,
   ⟨(mk19 .reset 0), 1, 0, 0, ?_, _, rfl, ?_⟩,
   ⟨(mk19 .reset 0), 9, 0, 0, ?_, _, rfl, ?_⟩,
   ⟨(mk19 .reset 0), 0, ?_, _, rfl⟩,
   ⟨(mk19 .reset 0), 0, 0, 0, ?_, _, rfl, ?_⟩,
   ⟨(mk19 .reset 0), 1, 0, 0, ?_, _, rfl, ?_⟩,
   ⟨(mk19 .reset 0), 2, 2, 0, ?_, _, rfl, ?_, _, someOf (by decide +kernel)⟩,
   ⟨(mk19 .reset 0), 5, 0, 0, ?_, _, rfl, ?_⟩,
   ⟨(mk19 .reset 0), 0, 1, 0, ?_, ?_, _, rfl, ?_⟩,
   ⟨(mk19 .reset 0), 0, 2, 0, ?_, ?_, _, rfl, ?_⟩,
   ⟨(mk19 .reset 0), 2, 0, 2, ?_, ?_, _, rfl, ?_, ?_, _, someOf (by decide +kernel)⟩,
   ⟨(mk19 .reset 0), 0, 4, 0, ?_, ?_, _, rfl, ?_⟩,
   ⟨(mk19 .reset 0), 0, 0, 0, ?_, _, rfl, ?_⟩,
   ⟨(mk19 .reset 0), 0, 1, 0, ?_, _, rfl, ?_⟩,
   ⟨(mk19 .reset 0), ?_⟩⟩
  all_goals first | decide +kernel | (simp only [Onyx.wf, State.wf, TimeBase.wf, State.openFor, State.uncommitted, State.mayRun, State.Issues, State.Converts, State.Stages]; decide +kernel)

theorem test_witness_UsbRequestsAndStreams :
    (∃ (s : State) (n : Fin 65536), (s.alive = true) ∧ (s.rd Reg.USB_STATUS_STATE = 4) ∧ (n.val = 20)) ∧
    (∃ (s : State) (n : Fin 65536), (s.alive = true) ∧ (s.rd Reg.USB_STATUS_STATE = 4) ∧ (n.val = 12)) ∧
    (∃ (s : State) (n : Fin 65536), (s.alive = true) ∧ (s.rd Reg.USB_STATUS_STATE = 4) ∧ (n.val = 0)) ∧
    (∃ (s : State) (seq : Word) (mirror follow : Bool) (n : Fin 65536), (s.alive = true) ∧ (s.rd
     Reg.USB_STATUS_STATE = 4) ∧ (n.val = 8)) ∧
    (∃ (s : State) (op n : Fin 65536), (s.alive = true) ∧ (s.rd Reg.USB_STATUS_STATE = 4) ∧ (n.val = 0) ∧ (s.on
     Reg.USB_CTL_UPD_EN = true) ∧ (s.updAllows op true = false)) ∧
    (∃ (s : State) (op n : Fin 65536), (s.alive = true) ∧ (s.rd Reg.USB_STATUS_STATE = 4) ∧ (n.val = 0) ∧ (s.on
     Reg.USB_CTL_UPD_EN = true) ∧ (s.updAllows op true = true) ∧ (s.mgmt.recovery = false)) ∧
    (∃ (s : State) (b : List Byte), (s.alive = true) ∧ (s.rd Reg.USB_STATUS_STATE = 4) ∧ (1 ≤ b.length) ∧
     (b.length ≤ 64) ∧ (s.usb.onyxBusy = false)) ∧
    (∃ (s : State) (mask n : Fin 65536), (s.alive = true) ∧ (s.rd Reg.USB_STATUS_STATE = 4) ∧ (n.val = 0)) ∧
    (∃ (s : State) (p o n : Fin 65536) (x : Outside), (s.alive = true) ∧ (s.rd Reg.USB_STATUS_STATE = 4) ∧ (n.val
     = 4) ∧ (s.on Reg.USB_CTL_RD_EN = true) ∧ (p.val < 8192) ∧ (p.val < 0x840 ∨ 0x850 < p.val) ∧ (s.mgmt.recovery =
     false) ∧ (o.val < 0x20) ∧ (o.val % 4 = 0)) ∧
    (∃ (s : State) (p o n : Fin 65536) (x : Outside), (s.alive = true) ∧ (s.rd Reg.USB_STATUS_STATE = 4) ∧ (n.val
     = 4) ∧ (s.on Reg.USB_CTL_RD_EN = true) ∧ (p.val < 8192) ∧ (p.val < 0x840 ∨ 0x850 < p.val) ∧ (s.mgmt.recovery =
     false) ∧ (p.val = 0x10) ∧ (o.val = 0x24) ∧ (s.domain 0 = 2)) ∧
    (∃ (s : State) (p o n : Fin 65536) (v : Word) (x : Outside), (s.alive = true) ∧ (s.rd Reg.USB_STATUS_STATE =
     4) ∧ (n.val = 4) ∧ (s.on Reg.USB_CTL_WR_EN = true) ∧ (p.val < 8192) ∧ (usbNoWrite p = false) ∧ (pageDefined p
     = true) ∧ (o.val = 0x14) ∧ (s.mgmt.recovery = false)) ∧
    (∃ s : State, (s.alive = true) ∧ (s.usb.stream = none ∨ s.rd Reg.USB_STATUS_STATE ≠ 4 ∨ s.usb.halts.testBit 1
     = true)) ∧
    (∃ s : State, (s.alive = true) ∧ ∃ x, (s.usb.stream = some x) ∧ (s.rd Reg.USB_STATUS_STATE = 4) ∧
     (s.usb.halts.testBit 1 = false) ∧ ∃ most, (most = (if s.on Reg.USB_STATUS_HS then 16 else 2)) ∧ ∃ es, (es =
     s.streamEntries x (if x.mirror && x.follow then s.nt.log.mirrorSeq else s.nt.log.next)) ∧ (most ≤ es.length)) ∧
    (∃ s : State, (s.alive = true) ∧ ∃ x, (s.usb.stream = some x) ∧ (s.rd Reg.USB_STATUS_STATE = 4) ∧
     (s.usb.halts.testBit 1 = false) ∧ ∃ most, (most = (if s.on Reg.USB_STATUS_HS then 16 else 2)) ∧ ∃ es, (es =
     s.streamEntries x (if x.mirror && x.follow then s.nt.log.mirrorSeq else s.nt.log.next)) ∧ (es.length < most) ∧
     (s.nt.log.intake = []) ∧ (x.follow = false)) ∧
    (∃ s : State, (s.alive = true) ∧ ∃ x, (s.usb.stream = some x) ∧ (s.rd Reg.USB_STATUS_STATE = 4) ∧
     (s.usb.halts.testBit 1 = false) ∧ ∃ most, (most = (if s.on Reg.USB_STATUS_HS then 16 else 2)) ∧ ∃ es, (es =
     s.streamEntries x (if x.mirror && x.follow then s.nt.log.mirrorSeq else s.nt.log.next)) ∧ (es = []) ∧
     (x.follow = true)) ∧
    (∃ (s : State) (b : List Byte), (s.alive = true) ∧ (b.length ≤ 512) ∧ (s.rd Reg.USB_STATUS_STATE ≠ 4 ∨
     s.usb.halts.testBit 2 = true ∨ s.rd Reg.UPD_FREE_BYTES < 512)) ∧
    (∃ (s : State) (b : List Byte), (s.alive = true) ∧ (b.length ≤ 512) ∧ (s.rd Reg.USB_STATUS_STATE = 4) ∧
     (s.usb.halts.testBit 2 = false) ∧ (512 ≤ s.rd Reg.UPD_FREE_BYTES) ∧ (b.length % 4 ≠ 0 ∨ s.rd
     Reg.UPD_STATUS_STATE ≠ 1 ∨ s.rd Reg.UPD_STATUS_OWNER ≠ 2)) ∧
    (∃ (s : State) (b : List Byte), (s.alive = true) ∧ (b.length ≤ 512) ∧ (s.rd Reg.USB_STATUS_STATE = 4) ∧
     (s.usb.halts.testBit 2 = false) ∧ (512 ≤ s.rd Reg.UPD_FREE_BYTES) ∧ (b.length % 4 = 0) ∧ (s.rd
     Reg.UPD_STATUS_STATE = 1) ∧ (s.rd Reg.UPD_STATUS_OWNER = 2) ∧ (s.rd Reg.UPD_COUNT_BYTES + b.length ≤ 4194304)) ∧
    (∃ s : State, (s.alive = true) ∧ (s.nt.usb.queue = [] ∨ s.rd Reg.USB_STATUS_STATE ≠ 4 ∨ s.usb.halts.testBit 4
     = true)) ∧
    (∃ s : State, (s.alive = true) ∧ ∃ m rest, (s.nt.usb.queue = m :: rest) ∧ (s.rd Reg.USB_STATUS_STATE = 4) ∧
     (s.usb.halts.testBit 4 = false)) := by
  refine ⟨⟨(mk19 .reset 0), 20, ?_⟩,
   ⟨(mk19 .reset 0), 12, ?_⟩,
   ⟨(mk19 .reset 0), 0, ?_⟩,
   ⟨(mk19 .reset 0), 0x00000000#32, true, true, 8, ?_⟩,
   ⟨(mk19 .reset 0), 0, 0, ?_⟩,
   ⟨(mk19 .reset 0), 2, 0, ?_⟩,
   ⟨(mk19 .reset 0), [0x10#8, 0x05#8], ?_⟩,
   ⟨(mk19 .reset 0), 0, 0, ?_⟩,
   ⟨(mk19 .reset 0), 0, 0, 4, { ctx := none, cqType := 0, bus := Sys2Proof.BusLines.free, usbCut := false }, ?_⟩,
   ⟨(mk19 .reset 0), 16, 36, 4, { ctx := none, cqType := 0, bus := Sys2Proof.BusLines.free, usbCut := false }, ?_⟩,
   ⟨(mk19 .reset 3), 129, 20, 4, 0x00000000#32, { ctx := none, cqType := 0, bus := Sys2Proof.BusLines.free, usbCut := false }, ?_⟩,
   ⟨(mk19 .reset 1), ?_⟩,
   ⟨(mk19 .reset 0), ?_, _, someOf (by decide +kernel), ?_, ?_, _, rfl, _, rfl, ?_⟩,
   ⟨(mk19 .reset 32), ?_, _, someOf (by decide +kernel), ?_, ?_, _, rfl, _, rfl, ?_⟩,
   ⟨(mk19 .reset 4), ?_, _, someOf (by decide +kernel), ?_, ?_, _, rfl, _, rfl, ?_⟩,
   ⟨(mk19 .reset 1), [], ?_⟩,
   ⟨(mk19 .reset 0), [0x10#8, 0x05#8], ?_⟩,
   ⟨(mk19 .reset 0), [], ?_⟩,
   ⟨(mk19 .reset 0), ?_⟩,
   ⟨(mk19 .reset 4), ?_, _, _, consOf (by decide +kernel), ?_⟩⟩
  all_goals first | decide +kernel | (simp only [Onyx.wf, State.wf, TimeBase.wf, State.openFor, State.uncommitted, State.mayRun, State.Issues, State.Converts, State.Stages]; decide +kernel)

theorem test_witness_TwoWirePorts :
    (∃ (s : State) (a : Fin 128) (b : List Byte) (stop : Bool), (s.alive = true) ∧ (s.twtAnswers a = false)) ∧
    (∃ (s : State) (a : Fin 128) (b : List Byte) (stop : Bool), (s.alive = true) ∧ (s.twtAnswers a = true) ∧
     (s.twtBusy = true)) ∧
    (∃ (s : State) (a : Fin 128) (b : List Byte) (stop : Bool), (s.alive = true) ∧ (s.twtAnswers a = true) ∧
     (s.twtBusy = false) ∧ ∃ hi data, (b = hi :: data) ∧ ∃ lo rest, (data = lo :: rest) ∧ ∃ p, (p = 256 * hi.toNat
     + lo.toNat) ∧ (rest = [] ∨ stop = false)) ∧
    (∃ (s : State) (a : Fin 128) (b : List Byte) (stop : Bool), (s.alive = true) ∧ (s.twtAnswers a = true) ∧
     (s.twtBusy = false) ∧ ∃ hi data, (b = hi :: data) ∧ ∃ lo rest, (data = lo :: rest) ∧ ∃ p, (p = 256 * hi.toNat
     + lo.toNat) ∧ ∃ v more, (rest = v :: more) ∧ (more = []) ∧ (stop = true)) ∧
    (∃ (s : State) (a : Fin 128) (n : Nat), (s.alive = true) ∧ (s.twtAnswers a = false)) ∧
    (∃ (s : State) (a : Fin 128) (n : Nat), (s.alive = true) ∧ (s.twtAnswers a = true) ∧ (s.twtBusy = true)) ∧
    (∃ (s : State) (a : Fin 128) (n : Nat), (s.alive = true) ∧ (s.twtAnswers a = true) ∧ (s.twtBusy = false)) ∧
    (∃ s : State, (s.alive = true) ∧ (s.on Reg.TWT_CTL_EN = false)) ∧
    (∃ s : State, (s.alive = true) ∧ (s.on Reg.TWT_CTL_EN = true)) ∧
    (∃ (s : State) (won : Bool), (s.alive = true) ∧ (s.nt.alerts.alerting % 2 ^ 16 = 0 ∨ s.on Reg.TWT_CTL_EN =
     false ∨ s.twtBusy = true)) ∧
    (∃ (s : State) (won : Bool), (s.alive = true) ∧ ∃ n, (s.alertFirst = some n) ∧ (s.on Reg.TWT_CTL_EN = true) ∧
     (s.twtBusy = false) ∧ ∃ rest, (rest = clearBit s.nt.alerts.alerting n) ∧ ∃ byte, (byte = 2 * s.rd
     Reg.TWT_ADDR_ALERT_ADDR + (if rest = 0 then 0 else 1)) ∧ (won = false)) ∧
    (∃ (s : State) (won : Bool), (s.alive = true) ∧ ∃ n, (s.alertFirst = some n) ∧ (s.on Reg.TWT_CTL_EN = true) ∧
     (s.twtBusy = false) ∧ ∃ rest, (rest = clearBit s.nt.alerts.alerting n) ∧ ∃ byte, (byte = 2 * s.rd
     Reg.TWT_ADDR_ALERT_ADDR + (if rest = 0 then 0 else 1)) ∧ (won = true)) ∧
    (∃ (s : State) (v : Word), (s.alive = true) ∧ (v.toNat.testBit 0 = false ∨ s.nt.alerts.status.testBit 9 =
     true)) ∧
    (∃ (s : State) (v : Word), (s.alive = true) ∧ (v.toNat.testBit 0 = true) ∧ (s.nt.alerts.status.testBit 9 =
     false)) ∧
    (∃ (s : State) (v : Word) (bus : BusLines), (s.alive = true) ∧ ∃ w, (w = v.toNat / 2 ^ 8 % 2 ^ 6) ∧ ∃ r, (r =
     v.toNat / 2 ^ 16 % 2 ^ 6) ∧ ∃ bad : Bool, (bad = (s.on Reg.TWC_STATUS_BUSY || decide (32 < w) || decide (32 <
     r))) ∧ (v.toNat.testBit 31 = false)) ∧
    (∃ (s : State) (v : Word) (bus : BusLines), (s.alive = true) ∧ ∃ w, (w = v.toNat / 2 ^ 8 % 2 ^ 6) ∧ ∃ r, (r =
     v.toNat / 2 ^ 16 % 2 ^ 6) ∧ ∃ bad : Bool, (bad = (s.on Reg.TWC_STATUS_BUSY || decide (32 < w) || decide (32 <
     r))) ∧ (v.toNat.testBit 31 = true) ∧ (bad = true)) ∧
    (∃ (s : State) (v : Word) (bus : BusLines), (s.alive = true) ∧ ∃ w, (w = v.toNat / 2 ^ 8 % 2 ^ 6) ∧ ∃ r, (r =
     v.toNat / 2 ^ 16 % 2 ^ 6) ∧ ∃ bad : Bool, (bad = (s.on Reg.TWC_STATUS_BUSY || decide (32 < w) || decide (32 <
     r))) ∧ (v.toNat.testBit 31 = true) ∧ (bad = false) ∧ (s.on Reg.TWC_CTL_EN = false)) ∧
    (∃ (s : State) (v : Word) (bus : BusLines), (s.alive = true) ∧ ∃ w, (w = v.toNat / 2 ^ 8 % 2 ^ 6) ∧ ∃ r, (r =
     v.toNat / 2 ^ 16 % 2 ^ 6) ∧ ∃ bad : Bool, (bad = (s.on Reg.TWC_STATUS_BUSY || decide (32 < w) || decide (32 <
     r))) ∧ (v.toNat.testBit 31 = true) ∧ (bad = false) ∧ (s.on Reg.TWC_CTL_EN = true) ∧ (s.twc.stuck = true)) ∧
    (∃ (s : State) (v : Word) (bus : BusLines), (s.alive = true) ∧ ∃ w, (w = v.toNat / 2 ^ 8 % 2 ^ 6) ∧ ∃ r, (r =
     v.toNat / 2 ^ 16 % 2 ^ 6) ∧ ∃ bad : Bool, (bad = (s.on Reg.TWC_STATUS_BUSY || decide (32 < w) || decide (32 <
     r))) ∧ (v.toNat.testBit 31 = true) ∧ (bad = false) ∧ (s.on Reg.TWC_CTL_EN = true) ∧ (s.twc.stuck = false) ∧
     (bus = .free ∨ (∃ n, bus = .low n))) ∧
    (∃ (s : State) (v : Word) (bus : BusLines), (s.alive = true) ∧ ∃ w, (w = v.toNat / 2 ^ 8 % 2 ^ 6) ∧ ∃ r, (r =
     v.toNat / 2 ^ 16 % 2 ^ 6) ∧ ∃ bad : Bool, (bad = (s.on Reg.TWC_STATUS_BUSY || decide (32 < w) || decide (32 <
     r))) ∧ (v.toNat.testBit 31 = true) ∧ (bad = false) ∧ (s.on Reg.TWC_CTL_EN = true) ∧ (s.twc.stuck = false) ∧
     (bus = .stuck ∨ bus = .sclLow)) ∧
    (∃ (s : State) (b : List Byte) (n : Fin 32), (s.alive = true) ∧ (s.twc.host = none)) ∧
    (∃ (s : State) (b : List Byte) (n : Fin 32), (s.alive = true) ∧ ∃ t, (s.twc.host = some t) ∧ ∃ code, (code =
     (fun (n : Nat) => if s.twc.refused then 7 else n)) ∧ (n.val < t.write.length)) ∧
    (∃ (s : State) (b : List Byte) (n : Fin 32), (s.alive = true) ∧ ∃ t, (s.twc.host = some t) ∧ ∃ code, (code =
     (fun (n : Nat) => if s.twc.refused then 7 else n)) ∧ (b.length = t.readLength) ∧ (b.length ≤ 32)) ∧
    (∃ s : State, (s.alive = true) ∧ (s.twc.host = none)) ∧
    (∃ s : State, (s.alive = true) ∧ ∃ t, (s.twc.host = some t) ∧ (s.rd Reg.TWC_CTL_RETRIES ≤ s.twc.losses + 1)) ∧
    (∃ s : State, (s.alive = true) ∧ ∃ t, (s.twc.host = some t) ∧ (s.twc.losses + 1 < s.rd Reg.TWC_CTL_RETRIES)) ∧
    (∃ (s : State) (bus : BusLines), (s.alive = true) ∧ (s.twc.host = none)) ∧
    (∃ (s : State) (bus : BusLines), (s.alive = true) ∧ (s.twc.host ≠ none)) ∧
    (∃ (s : State) (v : Word) (bus : BusLines), (s.alive = true) ∧ (v.toNat.testBit 0 = false)) ∧
    (∃ (s : State) (v : Word) (bus : BusLines), (s.alive = true) ∧ (v.toNat.testBit 0 = true) ∧ (bus = .free ∨ (∃
     n, bus = .low n))) ∧
    (∃ (s : State) (v : Word) (bus : BusLines), (s.alive = true) ∧ (v.toNat.testBit 0 = true) ∧ (bus = .stuck ∨
     bus = .sclLow)) := by
  refine ⟨⟨(mk19 .reset 0), 0, [], true, ?_⟩,
   ⟨(mk19 .reset 0), 88, [], true, ?_⟩,
   ⟨(mk19 .reset 1), 88, [0x10#8, 0x05#8], true, ?_, ?_, ?_, _, _, consOf (by decide +kernel), _, _, consOf
    (by decide +kernel), _, rfl, ?_⟩,
   ⟨(mk19 .reset 1), 88, [0x10#8, 0x07#8, 0x09#8], true, ?_, ?_, ?_, _, _, consOf (by decide +kernel), _, _,
    consOf (by decide +kernel), _, rfl, _, _, consOf (by decide +kernel), ?_⟩,
   ⟨(mk19 .reset 0), 0, 0, ?_⟩,
   ⟨(mk19 .reset 0), 88, 0, ?_⟩,
   ⟨(mk19 .reset 1), 88, 0, ?_⟩,
   ⟨(mk19 .reset 5), ?_⟩,
   ⟨(mk19 .reset 0), ?_⟩,
   ⟨(mk19 .reset 0), true, ?_⟩,
   ⟨(mk19 .reset 1), false, ?_, _, someOf (by decide +kernel), ?_, ?_, _, rfl, _, rfl, ?_⟩,
   ⟨(mk19 .reset 1), true, ?_, _, someOf (by decide +kernel), ?_, ?_, _, rfl, _, rfl, ?_⟩,
   ⟨(mk19 .reset 0), 0x00000000#32, ?_⟩,
   ⟨(mk19 .reset 1), 0x00000001#32, ?_⟩,
   ⟨(mk19 .reset 0), 0x00000000#32, Sys2Proof.BusLines.free, ?_, _, rfl, _, rfl, _, rfl, ?_⟩,
   ⟨(mk19 .reset 1), 0x80020350#32, Sys2Proof.BusLines.free, ?_, _, rfl, _, rfl, _, rfl, ?_⟩,
   ⟨(mk19 .reset 26), 0x80020350#32, Sys2Proof.BusLines.free, ?_, _, rfl, _, rfl, _, rfl, ?_⟩,
   ⟨(mk19 .reset 4), 0x80020350#32, Sys2Proof.BusLines.free, ?_, _, rfl, _, rfl, _, rfl, ?_⟩,
   ⟨(mk19 .reset 0), 0x80020350#32, Sys2Proof.BusLines.free, ?_, _, rfl, _, rfl, _, rfl, ?_⟩,
   ⟨(mk19 .reset 0), 0x80020350#32, Sys2Proof.BusLines.stuck, ?_, _, rfl, _, rfl, _, rfl, ?_⟩,
   ⟨(mk19 .reset 0), [], 0, ?_⟩,
   ⟨(mk19 .reset 1), [], 0, ?_, _, someOf (by decide +kernel), _, rfl, ?_⟩,
   ⟨(mk19 .reset 2), [0x10#8, 0x05#8], 0, ?_, _, someOf (by decide +kernel), _, rfl, ?_⟩,
   ⟨(mk19 .reset 0), ?_⟩,
   ⟨(mk19 .reset 2), ?_, _, someOf (by decide +kernel), ?_⟩,
   ⟨(mk19 .reset 1), ?_, _, someOf (by decide +kernel), ?_⟩,
   ⟨(mk19 .reset 0), Sys2Proof.BusLines.free, ?_⟩,
   ⟨(mk19 .reset 1), Sys2Proof.BusLines.free, ?_⟩,
   ⟨(mk19 .reset 0), 0x00000000#32, Sys2Proof.BusLines.free, ?_⟩,
   ⟨(mk19 .reset 0), 0x00000001#32, Sys2Proof.BusLines.free, ?_⟩,
   ⟨(mk19 .reset 0), 0x00000001#32, Sys2Proof.BusLines.stuck, ?_⟩⟩
  all_goals first | decide +kernel | (simp only [Onyx.wf, State.wf, TimeBase.wf, State.openFor, State.uncommitted, State.mayRun, State.Issues, State.Converts, State.Stages]; decide +kernel)

theorem test_witness_OnyxMetering :
    (∃ (s : State) (w : Fin 2) (a b : Bool) (stoodA stoodB : Nat), (s.onyx.power ≠ .operating)) ∧
    (∃ (s : State) (w : Fin 2) (a b : Bool) (stoodA stoodB : Nat), (s.onyx.power = .operating) ∧ (s.onyx.turns w a
     b stoodA stoodB = 0)) ∧
    (∃ (s : State) (w : Fin 2) (a b : Bool) (stoodA stoodB : Nat), (s.onyx.power = .operating) ∧ (s.onyx.turns w a
     b stoodA stoodB = 2) ∧ ∃ x, (x = s.onyx.wheel w)) ∧
    (∃ (s : State) (w : Fin 2) (a b : Bool) (stoodA stoodB : Nat) (up : Bool), (s.onyx.power = .operating) ∧
     (s.onyx.turns w a b stoodA stoodB = (if up then 1 else 3)) ∧ ∃ x, (x = s.onyx.wheel w) ∧ ∃ d : Int, (d = (if
     up == (s.onyx.param (3 + 3 * w.val) == 0) then 1 else -1)) ∧ ∃ r : Int, (r = x.r + d * s.onyx.param (1 + 3 *
     w.val)) ∧ ∃ lim : Int, (lim = 100 * s.onyx.param (2 + 3 * w.val)) ∧ (0 < lim) ∧ ∃ dn : Int, (dn = (if lim ≤ r
     then 1 else if r ≤ -lim then -1 else 0))) ∧
    (∃ (s : State) (w : Fin 2) (a b : Bool) (stoodA stoodB : Nat) (up : Bool), (s.onyx.power = .operating) ∧
     (s.onyx.turns w a b stoodA stoodB = (if up then 1 else 3)) ∧ (0 < s.onyx.param (2 + 3 * w.val)) ∧ ∃ dn, (dn =
     s.onyx.odometerChange w up) ∧ ∃ a0 : Int, (a0 = s.onyx.wheel0.advance + (if w = 0 then dn else 0)) ∧ ∃ a1 :
     Int, (a1 = s.onyx.wheel1.advance + (if w = 1 then dn else 0)) ∧ ∃ m, (m = max a0.natAbs a1.natAbs) ∧ ∃ agree :
     Bool, (agree = (decide ((a0 - a1).natAbs ≤ 1 + s.onyx.param 7 * m / 1000000) && !s.onyx.windowError)) ∧ (m <
     s.onyx.param 8)) ∧
    (∃ (s : State) (w : Fin 2) (a b : Bool) (stoodA stoodB : Nat) (up : Bool), (s.onyx.power = .operating) ∧
     (s.onyx.turns w a b stoodA stoodB = (if up then 1 else 3)) ∧ (0 < s.onyx.param (2 + 3 * w.val)) ∧ ∃ dn, (dn =
     s.onyx.odometerChange w up) ∧ ∃ a0 : Int, (a0 = s.onyx.wheel0.advance + (if w = 0 then dn else 0)) ∧ ∃ a1 :
     Int, (a1 = s.onyx.wheel1.advance + (if w = 1 then dn else 0)) ∧ ∃ m, (m = max a0.natAbs a1.natAbs) ∧ ∃ agree :
     Bool, (agree = (decide ((a0 - a1).natAbs ≤ 1 + s.onyx.param 7 * m / 1000000) && !s.onyx.windowError)) ∧
     (configured s.onyx.params = true) ∧ (s.onyx.param 8 ≤ m)) := by
  refine ⟨⟨(mk20 .reset 16), 0, true, true, 0, 0, ?_⟩,
   ⟨(mk20 .reset 0), 0, false, true, 0, 0, ?_⟩,
   ⟨(mk20 .reset 0), 0, true, false, 0, 0, ?_, ?_, _, rfl⟩,
   ⟨(mk20 .reset 0), 0, true, true, 0, 0, false, ?_, ?_, _, rfl, _, rfl, _, rfl, _, rfl, ?_, _, rfl⟩,
   ⟨(mk20 .reset 0), 0, true, true, 0, 0, false, ?_, ?_, ?_, _, rfl, _, rfl, _, rfl, _, rfl, _, rfl, ?_⟩,
   ⟨(mk20 .reset 0), 0, false, false, 0, 0, true, ?_, ?_, ?_, _, rfl, _, rfl, _, rfl, _, rfl, _, rfl, ?_⟩⟩
  all_goals first | decide +kernel | (simp only [Onyx.wf, State.wf, TimeBase.wf, State.openFor, State.uncommitted, State.mayRun, State.Issues, State.Converts, State.Stages]; decide +kernel)

theorem test_witness_OnyxSupply :
    (∃ (s : State), (s.onyx.power = .operating)) ∧
    (∃ (s : State), (s.onyx.power ≠ .operating)) ∧
    (∃ (s : State), (s.onyx.power = .retention)) ∧
    (∃ (s : State), (s.onyx.power ≠ .retention)) ∧
    (∃ (s : State) (temp : BitVec 16), (s.onyx.power = .operating) ∧ (s.onyx.state ≠ .overtemp)) ∧
    (∃ (s : State) (temp : BitVec 16), (s.onyx.power = .operating) ∧ (s.onyx.state = .overtemp)) := by
  refine ⟨⟨(mk20 .reset 0), ?_⟩,
   ⟨(mk20 .reset 16), ?_⟩,
   ⟨(mk20 .reset 16), ?_⟩,
   ⟨(mk20 .reset 0), ?_⟩,
   ⟨(mk20 .reset 0), 0x0000#16, ?_⟩,
   ⟨(mk20 .reset 4), 0x0000#16, ?_⟩⟩
  all_goals first | decide +kernel | (simp only [Onyx.wf, State.wf, TimeBase.wf, State.openFor, State.uncommitted, State.mayRun, State.Issues, State.Converts, State.Stages]; decide +kernel)

theorem test_witness_OnyxSeal :
    (∃ (s : State), (s.onyx.power ≠ .operating)) ∧
    (∃ (s : State), (s.onyx.power = .operating) ∧ (s.onyx.release = none) ∧ (s.onyx.staged = []) ∧ (s.onyx.wf) ∧
     (9 ≤ s.onyx.free)) ∧
    (∃ (s : State) (id : Fin 10) (v : Nat), (s.onyx.power = .operating) ∧ (s.onyx.release = none) ∧ (s.onyx.wf) ∧
     (10 ≤ s.onyx.free) ∧ (id ≠ 0) ∧ (s.onyx.staged = [(id.val, v)]) ∧ (v ≠ s.onyx.param id) ∧ (v < 2 ^ 32) ∧ (((id
     = 2 ∨ id = 5) → v = 0 ∨ s.onyx.param (id.val - 1) ≤ 100 * v))) ∧
    (∃ (s : State) (id : Fin 10) (v : Nat), (s.onyx.power = .operating) ∧ (s.onyx.release = none) ∧ (s.onyx.wf) ∧
     (s.onyx.free ≠ 0) ∧ (s.onyx.free ≤ 9) ∧ (id ≠ 0) ∧ (s.onyx.staged = [(id.val, v)]) ∧ (v ≠ s.onyx.param id) ∧
     (((id = 2 ∨ id = 5) → v = 0 ∨ s.onyx.param (id.val - 1) ≤ 100 * v))) ∧
    (∃ (s : State) (q : Nat), (s.onyx.power = .operating) ∧ (s.onyx.release = some q) ∧ (s.onyx.staged = []) ∧
     (s.onyx.wf) ∧ (10 ≤ s.onyx.free) ∧ ∃ n, (n = (s.onyx.head + 1) % 2 ^ 32) ∧ ∃ ok : Bool, (ok = decide ((q + 2 ^
     32 - s.onyx.released) % 2 ^ 32 ≤ (n + 2 ^ 32 - s.onyx.released) % 2 ^ 32))) := by
  refine ⟨⟨(mk20 .reset 16), ?_⟩,
   ⟨(mk20 .reset 0), ?_⟩,
   ⟨(mk20 .reset 2), 9, 150, ?_⟩,
   ⟨(mk20 .reset 9), 1, 200, ?_⟩,
   ⟨(mk20 .reset 5), 1, ?_, ?_, ?_, ?_, ?_, _, rfl, _, rfl⟩⟩
  all_goals first | decide +kernel | (simp only [Onyx.wf, State.wf, TimeBase.wf, State.openFor, State.uncommitted, State.mayRun, State.Issues, State.Converts, State.Stages]; decide +kernel)

theorem test_witness_OnyxFrames :
    (∃ (s : State) (b : List Nat), (s.onyx.power = .operating) ∧ (s.onyx.frame = some b) ∧ (s.onyx.reply = none) ∧
     ∃ op, (op = b.getD 0 0) ∧ ∃ good : Bool, (good = (b.length == 2 && b.getD 1 0 == 2)) ∧ (op = 1) ∧ (good =
     false)) ∧
    (∃ (s : State) (b : List Nat), (s.onyx.power = .operating) ∧ (s.onyx.frame = some b) ∧ (s.onyx.reply = none) ∧
     ∃ op, (op = b.getD 0 0) ∧ ∃ good : Bool, (good = (b.length == 2 && b.getD 1 0 == 2)) ∧ (op = 1) ∧ (good =
     true)) ∧
    (∃ (s : State) (b : List Nat), (s.onyx.power = .operating) ∧ (s.onyx.frame = some b) ∧ (s.onyx.reply = none) ∧
     ∃ op, (op = b.getD 0 0) ∧ ∃ good : Bool, (good = (b.length == 2 && b.getD 1 0 == 2)) ∧ (op = 2) ∧ (good =
     false)) ∧
    (∃ (s : State) (b : List Nat), (s.onyx.power = .operating) ∧ (s.onyx.frame = some b) ∧ (s.onyx.reply = none) ∧
     ∃ op, (op = b.getD 0 0) ∧ ∃ good : Bool, (good = (b.length == 2 && b.getD 1 0 == 2)) ∧ (op = 2) ∧ (good =
     true)) ∧
    (∃ (s : State) (b : List Nat), (s.onyx.power = .operating) ∧ (s.onyx.frame = some b) ∧ (s.onyx.reply = none) ∧
     ∃ op, (op = b.getD 0 0) ∧ ∃ good : Bool, (good = (b.length == 2 && b.getD 1 0 == 2)) ∧ (op = 4) ∧ (good =
     false)) ∧
    (∃ (s : State) (b : List Nat), (s.onyx.power = .operating) ∧ (s.onyx.frame = some b) ∧ (s.onyx.reply = none) ∧
     ∃ op, (op = b.getD 0 0) ∧ ∃ good : Bool, (good = (b.length == 2 && b.getD 1 0 == 2)) ∧ (op = 4) ∧ (good =
     true) ∧ ∃ total, (total = s.onyx.h / 2)) ∧
    (∃ (s : State) (b : List Nat), (s.onyx.power = .operating) ∧ (s.onyx.frame = some b) ∧ (s.onyx.reply = none) ∧
     ∃ op, (op = b.getD 0 0) ∧ ∃ good : Bool, (good = (b.length == 2 && b.getD 1 0 == 2)) ∧ (op = 7) ∧ (good =
     false)) ∧
    (∃ (s : State) (b : List Nat), (s.onyx.power = .operating) ∧ (s.onyx.frame = some b) ∧ (s.onyx.reply = none) ∧
     ∃ op, (op = b.getD 0 0) ∧ ∃ good : Bool, (good = (b.length == 2 && b.getD 1 0 == 2)) ∧ (op = 7) ∧ (good =
     true)) ∧
    (∃ (s : State) (b : List Nat), (s.onyx.power = .operating) ∧ (s.onyx.frame = some b) ∧ (s.onyx.reply = none) ∧
     ∃ op, (op = b.getD 0 0) ∧ ∃ good : Bool, (good = (b.length == 2 && b.getD 1 0 == 2)) ∧ (op = 6) ∧ ∃ ok : Bool,
     (ok = (b.length == 6 && b.getD 1 0 == 6)) ∧ (ok = false)) ∧
    (∃ (s : State) (b : List Nat), (s.onyx.power = .operating) ∧ (s.onyx.frame = some b) ∧ (s.onyx.reply = none) ∧
     ∃ op, (op = b.getD 0 0) ∧ ∃ good : Bool, (good = (b.length == 2 && b.getD 1 0 == 2)) ∧ (op = 6) ∧ ∃ ok : Bool,
     (ok = (b.length == 6 && b.getD 1 0 == 6)) ∧ (ok = true)) ∧
    (∃ (s : State) (b : List Nat), (s.onyx.power = .operating) ∧ (s.onyx.frame = some b) ∧ (s.onyx.reply = none) ∧
     ∃ op, (op = b.getD 0 0) ∧ ∃ good : Bool, (good = (b.length == 2 && b.getD 1 0 == 2)) ∧ (op = 5) ∧ ∃ ok : Bool,
     (ok = (b.length == 7 && b.getD 1 0 == 7 && decide (1 ≤ b.getD 2 0 ∧ b.getD 2 0 ≤ 9))) ∧ ∃ v, (v = ofBytes
     (b.drop 3)) ∧ (ok = false)) ∧
    (∃ (s : State) (b : List Nat), (s.onyx.power = .operating) ∧ (s.onyx.frame = some b) ∧ (s.onyx.reply = none) ∧
     ∃ op, (op = b.getD 0 0) ∧ ∃ good : Bool, (good = (b.length == 2 && b.getD 1 0 == 2)) ∧ (op = 5) ∧ ∃ ok : Bool,
     (ok = (b.length == 7 && b.getD 1 0 == 7 && decide (1 ≤ b.getD 2 0 ∧ b.getD 2 0 ≤ 9))) ∧ ∃ v, (v = ofBytes
     (b.drop 3)) ∧ (ok = true) ∧ (parameterRange (b.getD 2 0) v = false)) ∧
    (∃ (s : State) (b : List Nat), (s.onyx.power = .operating) ∧ (s.onyx.frame = some b) ∧ (s.onyx.reply = none) ∧
     ∃ op, (op = b.getD 0 0) ∧ ∃ good : Bool, (good = (b.length == 2 && b.getD 1 0 == 2)) ∧ (op = 5) ∧ ∃ ok : Bool,
     (ok = (b.length == 7 && b.getD 1 0 == 7 && decide (1 ≤ b.getD 2 0 ∧ b.getD 2 0 ≤ 9))) ∧ ∃ v, (v = ofBytes
     (b.drop 3)) ∧ (ok = true) ∧ (parameterRange (b.getD 2 0) v = true)) ∧
    (∃ (s : State) (b : List Nat), (s.onyx.power = .operating) ∧ (s.onyx.frame = some b) ∧ (s.onyx.reply = none) ∧
     ∃ op, (op = b.getD 0 0) ∧ ∃ good : Bool, (good = (b.length == 2 && b.getD 1 0 == 2)) ∧ (op = 3) ∧ ∃ n, (n =
     b.getD 2 0) ∧ ∃ ok : Bool, (ok = (b.length == 7 && b.getD 1 0 == 7 && decide (1 ≤ n ∧ n ≤ 64))) ∧ (ok =
     false)) ∧
    (∃ (s : State) (b : List Nat), (s.onyx.power = .operating) ∧ (s.onyx.frame = some b) ∧ (s.onyx.reply = none) ∧
     ∃ op, (op = b.getD 0 0) ∧ ∃ good : Bool, (good = (b.length == 2 && b.getD 1 0 == 2)) ∧ (op = 3) ∧ ∃ n, (n =
     b.getD 2 0) ∧ ∃ ok : Bool, (ok = (b.length == 7 && b.getD 1 0 == 7 && decide (1 ≤ n ∧ n ≤ 64))) ∧ (ok = true)
     ∧ ∃ held, (held = ((s.onyx.audit.reverse.filter fun e => decide (ofBytes (b.drop 3) ≤ e.seq)).take n))) ∧
    (∃ (s : State), (s.onyx.power ≠ .operating ∨ s.onyx.frame = none)) := by
  refine ⟨⟨(mk20 .reset 1), [1, 3], ?_, ?_, ?_, _, rfl, _, rfl, ?_⟩,
   ⟨(mk20 .reset 0), [1, 2], ?_, ?_, ?_, _, rfl, _, rfl, ?_⟩,
   ⟨(mk20 .reset 3), [2, 2, 0], ?_, ?_, ?_, _, rfl, _, rfl, ?_⟩,
   ⟨(mk20 .reset 2), [2, 2], ?_, ?_, ?_, _, rfl, _, rfl, ?_⟩,
   ⟨(mk20 .reset 8), [4, 1], ?_, ?_, ?_, _, rfl, _, rfl, ?_⟩,
   ⟨(mk20 .reset 27), [4, 2], ?_, ?_, ?_, _, rfl, _, rfl, ?_, ?_, _, rfl⟩,
   ⟨(mk20 .reset 36), [7, 7], ?_, ?_, ?_, _, rfl, _, rfl, ?_⟩,
   ⟨(mk20 .reset 35), [7, 2], ?_, ?_, ?_, _, rfl, _, rfl, ?_⟩,
   ⟨(mk20 .reset 14), [6, 6, 5, 0, 0], ?_, ?_, ?_, _, rfl, _, rfl, ?_, _, rfl, ?_⟩,
   ⟨(mk20 .reset 13), [6, 6, 5, 0, 0, 0], ?_, ?_, ?_, _, rfl, _, rfl, ?_, _, rfl, ?_⟩,
   ⟨(mk20 .reset 11), [5, 7, 10, 1, 0, 0, 0], ?_, ?_, ?_, _, rfl, _, rfl, ?_, _, rfl, _, rfl, ?_⟩,
   ⟨(mk20 .reset 10), [5, 7, 9, 151, 0, 0, 0], ?_, ?_, ?_, _, rfl, _, rfl, ?_, _, rfl, _, rfl, ?_⟩,
   ⟨(mk20 .reset 9), [5, 7, 1, 16, 39, 0, 0], ?_, ?_, ?_, _, rfl, _, rfl, ?_, _, rfl, _, rfl, ?_⟩,
   ⟨(mk20 .reset 5), [3, 7, 0, 1, 0, 0, 0], ?_, ?_, ?_, _, rfl, _, rfl, ?_, _, rfl, _, rfl, ?_⟩,
   ⟨(mk20 .reset 4), [3, 7, 2, 1, 0, 0, 0], ?_, ?_, ?_, _, rfl, _, rfl, ?_, _, rfl, _, rfl, ?_, _, rfl⟩,
   ⟨(mk20 .reset 7), ?_⟩⟩
  all_goals first | decide +kernel | (simp only [Onyx.wf, State.wf, TimeBase.wf, State.openFor, State.uncommitted, State.mayRun, State.Issues, State.Converts, State.Stages]; decide +kernel)

theorem test_witness_OnyxView :
    (∃ (s : State), (s.onyx.power ≠ .operating)) ∧
    (∃ (s : State) (b : List Nat), (s.onyx.power = .operating) ∧ (s.onyx.frame = some b) ∧ (s.onyx.reply = none) ∧
     (s.usb.onyxBusy = true) ∧ (b.getD 0 0 = 0 ∨ 8 ≤ b.getD 0 0)) ∧
    (∃ (s : State) (b : List Nat), (s.onyx.power = .operating) ∧ (s.onyx.frame = some b) ∧ (s.onyx.reply = none) ∧
     (s.usb.onyxBusy = true) ∧ (b.getD 0 0 = 7 ∧ b.length = 2 ∧ b.getD 1 0 = 2)) ∧
    (∃ (s : State) (r : List Nat), (s.onyx.power = .operating) ∧ (s.onyx.frame = none) ∧ (s.onyx.reply = some r) ∧
     (s.usb.onyxBusy = false)) ∧
    (∃ (s : State), (s.alive = true) ∧ ∃ r, (s.usb.onyxReply = some r) ∧ (s.rd Reg.USB_STATUS_STATE = 4) ∧
     (s.usb.halts.testBit 3 = false)) ∧
    (∃ (s : State), (s.alive = true) ∧ ∃ r, (s.usb.onyxReply = some r) ∧ (s.rd Reg.USB_STATUS_STATE ≠ 4 ∨
     s.usb.halts.testBit 3 = true)) ∧
    (∃ (s : State) (temp vddMv : BitVec 16) (sw : Bool), (s.onyx.power ≠ .operating)) ∧
    (∃ (s : State) (temp vddMv : BitVec 16) (sw : Bool), (s.onyx.power = .operating) ∧ ∃ o : Onyx, (o = { s.onyx with temp := temp.toNat, vddMv := vddMv.toNat, switch := sw, pushes := (s.onyx.pushes + 1) % 2 ^ 32, unpushed := [], rotation := (s.onyx.rotation + 1) % 7 }) ∧ (s.alive = false)) ∧
    (∃ (s : State) (temp vddMv : BitVec 16) (sw : Bool), (s.onyx.power = .operating) ∧ ∃ o : Onyx, (o = { s.onyx with temp := temp.toNat, vddMv := vddMv.toNat, switch := sw, pushes := (s.onyx.pushes + 1) % 2 ^ 32, unpushed := [], rotation := (s.onyx.rotation + 1) % 7 }) ∧ (s.alive = true)) ∧
    (∃ (s : State), (s.alive = true)) := by
  refine ⟨⟨(mk20 .reset 16), ?_⟩,
   ⟨(mk20 .reset 17), [8, 2], ?_⟩,
   ⟨(mk20 .reset 35), [7, 2], ?_⟩,
   ⟨(mk20 .reset 7), [132, 0, 4, 0], ?_⟩,
   ⟨(mk20 .reset 0), ?_, _, someOf (by decide +kernel), ?_⟩,
   ⟨(mk20 .reset 2), ?_, _, someOf (by decide +kernel), ?_⟩,
   ⟨(mk20 .reset 16), 0x0000#16, 0x0000#16, true, ?_⟩,
   ⟨(mk20 .reset 18), 0x0000#16, 0x0000#16, true, ?_, _, rfl, ?_⟩,
   ⟨(mk20 .reset 0), 0x0000#16, 0x0000#16, true, ?_, _, rfl, ?_⟩,
   ⟨(mk20 .reset 0), ?_⟩⟩
  all_goals first | decide +kernel | (simp only [Onyx.wf, State.wf, TimeBase.wf, State.openFor, State.uncommitted, State.mayRun, State.Issues, State.Converts, State.Stages]; decide +kernel)

theorem test_witness_CascadePorts :
    (∃ (s : State) (p : Fin 2) (w : Fin 8), (s.alive = true) ∧ (s.cascaded = false ∨ s.on Reg.IKP_STATUS_UP p =
     true)) ∧
    (∃ (s : State) (p : Fin 2) (w : Fin 8), (s.alive = true) ∧ (s.cascaded = true) ∧ (s.chained = true) ∧ (s.on
     Reg.IKP_STATUS_UP p = false)) ∧
    (∃ (s : State) (p : Fin 2) (w : Fin 8), (s.alive = true) ∧ (s.cascaded = true) ∧ (s.on Reg.IKP_STATUS_UP p =
     false)) ∧
    (∃ (s : State) (p : Fin 2) (w : Fin 8), (s.alive = true) ∧ (s.on Reg.IKP_STATUS_UP p = false)) ∧
    (∃ (s : State) (p : Fin 2), (s.alive = true) ∧ (s.chained = true) ∧ (s.cascaded = true) ∧ (s.on
     Reg.IKP_STATUS_UP p = true) ∧ ∃ st, (st = s.rd Reg.IK_STATUS_STATE) ∧ (st ≠ 4 ∨ s.ikFaces p = false)) ∧
    (∃ (s : State) (p : Fin 2), (s.alive = true) ∧ (s.chained = true) ∧ (s.cascaded = true) ∧ (s.on
     Reg.IKP_STATUS_UP p = true) ∧ ∃ st, (st = s.rd Reg.IK_STATUS_STATE) ∧ (st = 4) ∧ (s.ikFaces p = true)) ∧
    (∃ (s : State) (p : Fin 2), (s.alive = true) ∧ (s.on Reg.IKP_STATUS_UP p = true) ∧ ∃ n, (n = sget s.ik.fails
     p) ∧ (n < 3)) ∧
    (∃ (s : State) (p : Fin 2), (s.alive = true) ∧ (s.on Reg.IKP_STATUS_UP p = true) ∧ ∃ n, (n = sget s.ik.fails
     p) ∧ (3 ≤ n) ∧ (s.chained = true) ∧ (s.cascaded = true) ∧ (s.rd Reg.IK_STATUS_STATE ≠ 4)) := by
  refine ⟨⟨(mk21 .reset 0), 0, 0, ?_⟩,
   ⟨(mk21 .reset 9), 1, 0, ?_⟩,
   ⟨(mk21 .reset 9), 1, 0, ?_⟩,
   ⟨(mk21 .reset 6), 0, 0, ?_⟩,
   ⟨(mk21 .reset 0), 0, ?_, ?_, ?_, ?_, _, rfl, ?_⟩,
   ⟨(mk21 .reset 0), 1, ?_, ?_, ?_, ?_, _, rfl, ?_⟩,
   ⟨(mk21 .reset 0), 0, ?_, ?_, _, rfl, ?_⟩,
   ⟨(mk21 .reset 2), 1, ?_, ?_, _, rfl, ?_⟩⟩
  all_goals first | decide +kernel | (simp only [Onyx.wf, State.wf, TimeBase.wf, State.openFor, State.uncommitted, State.mayRun, State.Issues, State.Converts, State.Stages]; decide +kernel)

theorem test_witness_CascadeMessages :
    (∃ (s : State), (s.alive = true) ∧ (s.cascaded = false)) ∧
    (∃ (s : State), (s.alive = true) ∧ (s.rd Reg.IK_STATUS_STATE = 4) ∧ (s.chained = true) ∧ (s.leads = true)) ∧
    (∃ (s : State), (s.alive = true) ∧ (s.rd Reg.IK_STATUS_STATE = 4) ∧ (s.chained = true) ∧ (s.leads = false)) ∧
    (∃ (s : State), (s.alive = true) ∧ (s.cascaded = true) ∧ (s.leads = true)) ∧
    (∃ (s : State), (s.alive = true) ∧ (s.cascaded = false ∨ s.leads = false)) ∧
    (∃ (s : State) (port : Fin 2) (time : BitVec 64), (s.alive = true) ∧ (s.on Reg.IKP_STATUS_UP port = true) ∧
     (s.leads = false) ∧ (s.chained = true) ∧ (s.rd Reg.IK_STATUS_STATE = 4) ∧ ∃ tol, (tol = s.rd
     Reg.IK_CTL_TB_TOL) ∧ ∃ off : Int, (off = (time.toNat : Int) + s.ik.latency - s.tb.ns) ∧ (off.natAbs ≤ tol) ∧
     (s.ik.slowing = false)) ∧
    (∃ (s : State) (port : Fin 2) (time : BitVec 64), (s.alive = true) ∧ (s.on Reg.IKP_STATUS_UP port = true) ∧
     (s.leads = false) ∧ (s.chained = true) ∧ (s.rd Reg.IK_STATUS_STATE = 4) ∧ ∃ tol, (tol = s.rd
     Reg.IK_CTL_TB_TOL) ∧ ∃ off : Int, (off = (time.toNat : Int) + s.ik.latency - s.tb.ns) ∧ ((tol : Int) < off)) ∧
    (∃ (s : State) (port : Fin 2) (time : BitVec 64), (s.alive = true) ∧ (s.on Reg.IKP_STATUS_UP port = true) ∧
     (s.leads = false) ∧ (s.chained = true) ∧ (s.rd Reg.IK_STATUS_STATE = 4) ∧ ∃ tol, (tol = s.rd
     Reg.IK_CTL_TB_TOL) ∧ ∃ off : Int, (off = (time.toNat : Int) + s.ik.latency - s.tb.ns) ∧ (off < -(tol : Int)) ∧
     (s.ik.slowing = false)) ∧
    (∃ (s : State) (port : Fin 2) (time : BitVec 64), (s.alive = true) ∧ (s.on Reg.IKP_STATUS_UP port = true) ∧
     (s.leads = false) ∧ (s.chained = true) ∧ (s.rd Reg.IK_STATUS_STATE = 4) ∧ ∃ tol, (tol = s.rd
     Reg.IK_CTL_TB_TOL) ∧ ∃ off : Int, (off = (time.toNat : Int) + s.ik.latency - s.tb.ns) ∧ (2 < off.natAbs) ∧
     (off < 0) ∧ (s.ik.slowing = true)) ∧
    (∃ (s : State) (port : Fin 2) (pos : Fin 4) (t0 rx tx : BitVec 64) (l : BitVec 16), (s.alive = true) ∧ (s.on
     Reg.IKP_STATUS_UP port = true) ∧ ∃ mine, (mine = s.rd Reg.IK_STATUS_POS) ∧ ∃ a, (a = t0.toNat) ∧ ∃ b, (b =
     rx.toNat) ∧ ∃ c, (c = tx.toNat) ∧ (s.leads = true) ∧ ∃ lat, (lat = ((s.tb.ns - a) - (c - b)) / 2)) ∧
    (∃ (s : State) (port : Fin 2) (pos : Fin 4) (t0 rx tx : BitVec 64) (l : BitVec 16), (s.alive = true) ∧ (s.on
     Reg.IKP_STATUS_UP port = true) ∧ ∃ mine, (mine = s.rd Reg.IK_STATUS_POS) ∧ ∃ a, (a = t0.toNat) ∧ ∃ b, (b =
     rx.toNat) ∧ ∃ c, (c = tx.toNat) ∧ (s.leads = false) ∧ (pos.val = mine)) ∧
    (∃ (s : State) (port : Fin 2) (pos : Fin 4) (t0 rx tx : BitVec 64) (l : BitVec 16), (s.alive = true) ∧ (s.on
     Reg.IKP_STATUS_UP port = true) ∧ ∃ mine, (mine = s.rd Reg.IK_STATUS_POS) ∧ ∃ a, (a = t0.toNat) ∧ ∃ b, (b =
     rx.toNat) ∧ ∃ c, (c = tx.toNat) ∧ (s.leads = false) ∧ (pos.val ≠ mine)) ∧
    (∃ (s : State) (port : Fin 2) (y : BitVec 48) (t : BitVec 64) (d : BitVec 16), (s.alive = true) ∧ (s.on
     Reg.IKP_STATUS_UP port = true) ∧ ∃ m, (m = leBytes 6 y.toNat ++ leBytes 8 t.toNat ++ leBytes 2 d.toNat) ∧
     (s.leads = true)) ∧
    (∃ (s : State) (port : Fin 2) (y : BitVec 48) (t : BitVec 64) (d : BitVec 16), (s.alive = true) ∧ (s.on
     Reg.IKP_STATUS_UP port = true) ∧ ∃ m, (m = leBytes 6 y.toNat ++ leBytes 8 t.toNat ++ leBytes 2 d.toNat) ∧
     (s.leads = false) ∧ (s.rd Reg.IK_STATUS_STATE ≠ 4)) ∧
    (∃ (s : State) (port : Fin 2) (y : BitVec 48) (t : BitVec 64) (d : BitVec 16), (s.alive = true) ∧ (s.on
     Reg.IKP_STATUS_UP port = true) ∧ ∃ m, (m = leBytes 6 y.toNat ++ leBytes 8 t.toNat ++ leBytes 2 d.toNat) ∧
     (s.leads = false) ∧ (s.rd Reg.IK_STATUS_STATE = 4) ∧ (s.ik.order = none)) ∧
    (∃ (s : State) (port : Fin 2) (y : BitVec 48) (t : BitVec 64), (s.alive = true) ∧ (s.on Reg.IKP_STATUS_UP port
     = true) ∧ (s.leads = false) ∧ ∃ st, (st = s.rd Reg.IK_STATUS_STATE) ∧ (st ≠ 3)) ∧
    (∃ (s : State) (port : Fin 2) (y : BitVec 48) (t : BitVec 64), (s.alive = true) ∧ (s.on Reg.IKP_STATUS_UP port
     = true) ∧ (s.leads = false) ∧ ∃ st, (st = s.rd Reg.IK_STATUS_STATE) ∧ (st = 3) ∧ (s.tb.ns < t.toNat)) ∧
    (∃ (s : State) (port : Fin 2) (y : BitVec 48) (t : BitVec 64), (s.alive = true) ∧ (s.on Reg.IKP_STATUS_UP port
     = true) ∧ (s.leads = false) ∧ ∃ st, (st = s.rd Reg.IK_STATUS_STATE) ∧ (st = 3) ∧ (t.toNat ≤ s.tb.ns) ∧
     (s.cast.aborting = false)) ∧
    (∃ (s : State) (port : Fin 2) (y : BitVec 48) (t : BitVec 64), (s.alive = true) ∧ (s.on Reg.IKP_STATUS_UP port
     = true) ∧ (s.leads = false) ∧ ∃ st, (st = s.rd Reg.IK_STATUS_STATE) ∧ (st = 4) ∧ (s.lt.line < y.toNat)) ∧
    (∃ (s : State) (port : Fin 2) (y : BitVec 48) (t : BitVec 64), (s.alive = true) ∧ (s.on Reg.IKP_STATUS_UP port
     = true) ∧ (s.leads = false) ∧ ∃ st, (st = s.rd Reg.IK_STATUS_STATE) ∧ (st = 4) ∧ (y.toNat ≤ s.lt.line)) ∧
    (∃ (s : State) (port : Fin 2) (y : BitVec 48) (t : BitVec 64), (s.alive = true) ∧ (s.on Reg.IKP_STATUS_UP port
     = true) ∧ (s.leads = false) ∧ ∃ st, (st = s.rd Reg.IK_STATUS_STATE) ∧ (st ≠ 4)) ∧
    (∃ (s : State) (port : Fin 2) (cause : BitVec 8) (y : BitVec 48), (s.alive = true) ∧ (s.on Reg.IKP_STATUS_UP
     port = true) ∧ (s.rd Reg.IK_STATUS_STATE = 4)) ∧
    (∃ (s : State) (port : Fin 2) (cause : BitVec 8) (y : BitVec 48), (s.alive = true) ∧ (s.on Reg.IKP_STATUS_UP
     port = true) ∧ (s.rd Reg.IK_STATUS_STATE ≠ 4)) ∧
    (∃ (s : State) (port : Fin 2) (pos : Fin 4) (run : Bool) (digest : List Nat) (gen : Word) (keep : BitVec 16)
     (pause : Bool), (s.alive = true) ∧ (s.on Reg.IKP_STATUS_UP port = true) ∧ (s.chained = true) ∧ (s.rd
     Reg.IK_STATUS_STATE = 4) ∧ ∃ ofLeader : Bool, (ofLeader = (!s.leads && pos.val == s.rd
     Reg.IK_STATUS_LEADER_POS)) ∧ (s.leads = true ∨ ofLeader = true) ∧ (run = false)) ∧
    (∃ (s : State) (port : Fin 2) (pos : Fin 4) (run : Bool) (digest : List Nat) (gen : Word) (keep : BitVec 16)
     (pause : Bool), (s.alive = true) ∧ (s.on Reg.IKP_STATUS_UP port = true) ∧ (s.chained = true) ∧ (s.rd
     Reg.IK_STATUS_STATE = 4) ∧ ∃ ofLeader : Bool, (ofLeader = (!s.leads && pos.val == s.rd
     Reg.IK_STATUS_LEADER_POS)) ∧ (run = true ∨ (s.leads = false ∧ ofLeader = false))) ∧
    (∃ (s : State) (v : Word), (s.alive = true) ∧ ∃ deaf : Bool, (deaf = !s.on Reg.IKP_STATUS_UP (if s.rd
     Reg.IK_STATUS_LEADER_POS < s.rd Reg.IK_STATUS_POS then 0 else 1)) ∧ (v.toNat % 2 = 1) ∧ (s.rd
     Reg.IK_STATUS_STATE = 5) ∧ (s.leads = true ∨ deaf = true) ∧ (s.running = false)) ∧
    (∃ (s : State) (v : Word), (s.alive = true) ∧ ∃ deaf : Bool, (deaf = !s.on Reg.IKP_STATUS_UP (if s.rd
     Reg.IK_STATUS_LEADER_POS < s.rd Reg.IK_STATUS_POS then 0 else 1)) ∧ (v.toNat % 2 = 0 ∨ s.rd
     Reg.IK_STATUS_STATE ≠ 5 ∨ (s.leads = false ∧ deaf = false))) ∧
    (∃ (s : State) (port : Fin 2) (pos : Fin 4) (time : BitVec 64) (y : BitVec 48) (keep : BitVec 16), (s.alive =
     true) ∧ (s.on Reg.IKP_STATUS_UP port = false)) := by
  refine ⟨⟨(mk21 .reset 6), ?_⟩,
   ⟨(mk21 .reset 0), ?_⟩,
   ⟨(mk21 .reset 1), ?_⟩,
   ⟨(mk21 .reset 0), ?_⟩,
   ⟨(mk21 .reset 1), ?_⟩,
   ⟨(mk21 .reset 1), 0, 0x0000000000001324#64, ?_, ?_, ?_, ?_, ?_, _, rfl, _, rfl, ?_⟩,
   ⟨(mk21 .reset 1), 0, 0x000000000000137e#64, ?_, ?_, ?_, ?_, ?_, _, rfl, _, rfl, ?_⟩,
   ⟨(mk21 .reset 8), 0, 0x0000000000001324#64, ?_, ?_, ?_, ?_, ?_, _, rfl, _, rfl, ?_⟩,
   ⟨(mk21 .reset 7), 0, 0x0000000000001324#64, ?_, ?_, ?_, ?_, ?_, _, rfl, _, rfl, ?_⟩,
   ⟨(mk21 .reset 0), 0, 0, 0x000000000000137e#64, 0x000000000000137e#64, 0x000000000000137e#64, 0x0078#16, ?_,
    ?_, _, rfl, _, rfl, _, rfl, _, rfl, ?_, _, rfl⟩,
   ⟨(mk21 .reset 1), 0, 1, 0x000000000000137e#64, 0x000000000000137e#64, 0x000000000000137e#64, 0x0078#16, ?_,
    ?_, _, rfl, _, rfl, _, rfl, _, rfl, ?_⟩,
   ⟨(mk21 .reset 1), 0, 0, 0x000000000000137e#64, 0x000000000000137e#64, 0x000000000000137e#64, 0x0078#16, ?_,
    ?_, _, rfl, _, rfl, _, rfl, _, rfl, ?_⟩,
   ⟨(mk21 .reset 0), 0, 0x000000000003#48, 0x000000000000137e#64, 0x0078#16, ?_, ?_, _, rfl, ?_⟩,
   ⟨(mk21 .reset 2), 0, 0x000000000003#48, 0x000000000000137e#64, 0x0078#16, ?_, ?_, _, rfl, ?_⟩,
   ⟨(mk21 .reset 1), 0, 0x000000000003#48, 0x000000000000137e#64, 0x0078#16, ?_, ?_, _, rfl, ?_⟩,
   ⟨(mk21 .reset 1), 0, 0x000000000003#48, 0x000000000000137e#64, ?_, ?_, ?_, _, rfl, ?_⟩,
   ⟨(mk21 .reset 2), 0, 0x000000000003#48, 0x0000000000002328#64, ?_, ?_, ?_, _, rfl, ?_⟩,
   ⟨(mk21 .reset 2), 0, 0x000000000003#48, 0x000000000000137e#64, ?_, ?_, ?_, _, rfl, ?_⟩,
   ⟨(mk21 .reset 1), 0, 0x010000000007#48, 0x000000000000137e#64, ?_, ?_, ?_, _, rfl, ?_⟩,
   ⟨(mk21 .reset 1), 0, 0x000000000003#48, 0x000000000000137e#64, ?_, ?_, ?_, _, rfl, ?_⟩,
   ⟨(mk21 .reset 2), 0, 0x000000000003#48, 0x000000000000137e#64, ?_, ?_, ?_, _, rfl, ?_⟩,
   ⟨(mk21 .reset 0), 0, 0x01#8, 0x000000000003#48, ?_⟩,
   ⟨(mk21 .reset 2), 0, 0x01#8, 0x000000000003#48, ?_⟩,
   ⟨(mk21 .reset 0), 0, 0, false, (List.replicate 32 7), 0x00000000#32, 0x0078#16, true, ?_, ?_, ?_, ?_, _, rfl,
    ?_⟩,
   ⟨(mk21 .reset 0), 0, 0, true, (List.replicate 32 7), 0x00000000#32, 0x0078#16, true, ?_, ?_, ?_, ?_, _, rfl,
    ?_⟩,
   ⟨(mk21 .reset 3), 0x00000001#32, ?_, _, rfl, ?_⟩,
   ⟨(mk21 .reset 0), 0x00000000#32, ?_, _, rfl, ?_⟩,
   ⟨(mk21 .reset 6), 0, 0, 0x000000000000137e#64, 0x000000000003#48, 0x0078#16, ?_⟩⟩
  all_goals first | decide +kernel | (simp only [Onyx.wf, State.wf, TimeBase.wf, State.openFor, State.uncommitted, State.mayRun, State.Issues, State.Converts, State.Stages]; decide +kernel)

theorem test_witness_CascadeWork :
    (∃ (s : State) (port : Fin 2) (lead : Bool) (sender mine count : Fin 8) (offer : BitVec 8) (w : BitVec 32) (o
     src : BitVec 8), (s.alive = true) ∧ (s.on Reg.IKP_STATUS_UP port = true) ∧ (s.chained = true) ∧ (mine.val < 4)
     ∧ (count.val < 8) ∧ (sender.val < 4) ∧ (s.rd Reg.IK_STATUS_STATE = 1 ∨ s.rd Reg.IK_STATUS_STATE = 4)) ∧
    (∃ (s : State) (port : Fin 2) (keep : BitVec 16) (y : BitVec 48), (s.alive = true) ∧ (s.on Reg.IKP_STATUS_UP
     port = true) ∧ (s.leads = true)) ∧
    (∃ (s : State) (port : Fin 2) (keep : BitVec 16) (y : BitVec 48), (s.alive = true) ∧ (s.on Reg.IKP_STATUS_UP
     port = true) ∧ (s.leads = false)) ∧
    (∃ (s : State) (port : Fin 2) (pos : Fin 4) (digest : List Nat) (y : BitVec 48), (s.alive = true) ∧ (s.on
     Reg.IKP_STATUS_UP port = true) ∧ (s.leads = false)) ∧
    (∃ (s : State) (port : Fin 2) (pos : Fin 4) (digest : List Nat) (y : BitVec 48), (s.alive = true) ∧ (s.on
     Reg.IKP_STATUS_UP port = true) ∧ (s.leads = true) ∧ (s.ik.reports = []) ∧ (1 < s.rd Reg.IK_STATUS_NDEV)) ∧
    (∃ (s : State) (port : Fin 2) (pos : Fin 4) (digest : List Nat) (y : BitVec 48), (s.alive = true) ∧ (s.on
     Reg.IKP_STATUS_UP port = true) ∧ (s.leads = true) ∧ ∃ q other, (s.ik.reports = [(q, other)]) ∧ (q < pos.val) ∧
     (digest ≠ other)) ∧
    (∃ (s : State) (port : Fin 2) (pos : Fin 4) (digest : List Nat) (y : BitVec 48), (s.alive = true) ∧ (s.on
     Reg.IKP_STATUS_UP port = true) ∧ (s.leads = true) ∧ ∃ q, (s.ik.reports = [(q, digest)]) ∧ (q < pos.val) ∧
     (s.rd Reg.IK_STATUS_NDEV = 2)) ∧
    (∃ (s : State), (s.alive = true) ∧ (s.ik.reports = [] ∨ s.leads = false)) ∧
    (∃ (s : State), (s.alive = true) ∧ (s.ik.reports ≠ []) ∧ (s.leads = true)) ∧
    (∃ (s : State) (y : BitVec 48) (o : Fin 65) (px : List (List Nat × Nat)), (s.alive = true) ∧ (s.on
     Reg.IKP_STATUS_UP 1 = true) ∧ (y.toNat < (s.lane 11).next)) ∧
    (∃ (s : State) (y : BitVec 48) (o : Fin 65) (px : List (List Nat × Nat)), (s.alive = true) ∧ (s.on
     Reg.IKP_STATUS_UP 1 = true) ∧ ((s.lane 11).next ≤ y.toNat)) ∧
    (∃ (s : State) (port : Fin 2) (y : BitVec 48) (cols : List (Bool × Bool)) (runs : List (Nat × Nat × Nat × Nat
     × Nat)), (s.alive = true) ∧ (s.on Reg.IKP_STATUS_UP port = true) ∧ (s.comp.next ≤ y.toNat)) ∧
    (∃ (s : State) (port : Fin 2) (v : List Nat), (s.alive = true) ∧ (s.on Reg.IKP_STATUS_UP port = true) ∧ ∃ b
     rest, (s.comp.blobs = b :: rest) ∧ (rest = []) ∧ (b.ghost = false) ∧ ((b.remotes.any fun q => q.side ==
     port.val && q.id == v.getD 0 0) = true) ∧ ((b.remotes.any fun q => !q.done && !(q.side == port.val && q.id ==
     v.getD 0 0)) = true)) ∧
    (∃ (s : State) (p : List Nat), (s.alive = true) ∧ (s.on Reg.IKP_STATUS_UP 1 = true) ∧ (s.westNeighbour =
     false) ∧ (s.comp.items.any (fun e => e.2.id == p.getD 0 0) = false)) ∧
    (∃ (s : State) (p : List Nat), (s.alive = true) ∧ (s.on Reg.IKP_STATUS_UP 1 = true) ∧ (s.westNeighbour =
     false) ∧ (s.comp.items.any (fun e => e.2.id == p.getD 0 0) = true)) ∧
    (∃ (s : State) (port : Fin 2) (y : BitVec 48) (digest : List Nat), (s.alive = true) ∧ (s.on Reg.IKP_STATUS_UP
     port = false) ∧ (port = 1)) := by
  refine ⟨⟨(mk21 .reset 0), 0, true, 0, 0, 0, 0x01#8, 0x00000000#32, 0x01#8, 0x01#8, ?_⟩,
   ⟨(mk21 .reset 0), 0, 0x0078#16, 0x000000000003#48, ?_⟩,
   ⟨(mk21 .reset 1), 0, 0x0078#16, 0x000000000003#48, ?_⟩,
   ⟨(mk21 .reset 1), 0, 0, (List.replicate 32 7), 0x000000000003#48, ?_⟩,
   ⟨(mk21 .reset 0), 0, 0, (List.replicate 32 7), 0x000000000003#48, ?_⟩,
   ⟨(mk21 .reset 3), 0, 1, (List.replicate 32 9), 0x000000000003#48, ?_, ?_, ?_, 0, (List.replicate 32 7), ?_⟩,
   ⟨(mk21 .reset 12), 0, 1, (List.replicate 32 7), 0x000000000003#48, ?_, ?_, ?_, 0, ?_⟩,
   ⟨(mk21 .reset 0), ?_⟩,
   ⟨(mk21 .reset 3), ?_⟩,
   ⟨(mk21 .reset 1), 0x000000000003#48, 2, [], ?_⟩,
   ⟨(mk21 .reset 0), 0x000000000003#48, 2, [], ?_⟩,
   ⟨(mk21 .reset 0), 0, 0x000000000003#48, [(true, false), (false, true)], [], ?_⟩,
   ⟨(mk21 .reset 0), 0, [3, 5, 11, 1, 1, 90, 4, 4, 1, 9, 2, 3, 0], ?_, ?_, _, _, consOf (by decide +kernel), ?_⟩,
   ⟨(mk21 .reset 0), (List.replicate 32 7), ?_⟩,
   ⟨(mk21 .reset 3), [5, 3, 3, 3, 3, 3, 3, 3, 3, 3, 3, 3, 3, 3, 3, 3, 3, 3, 3, 3, 3, 3, 3, 3, 3], ?_⟩,
   ⟨(mk21 .reset 9), 1, 0x000000000003#48, (List.replicate 32 7), ?_⟩⟩
  all_goals first | decide +kernel | (simp only [Onyx.wf, State.wf, TimeBase.wf, State.openFor, State.uncommitted, State.mayRun, State.Issues, State.Converts, State.Stages]; decide +kernel)

theorem test_witness_Commits :
    (∃ (s : State) (agent : Agent) (p : Fin 8192) (v : Word), (s.alive = true) ∧ (v.toNat.testBit 8 = false) ∧ ∃
     g, (g = v.toNat % 16) ∧ ∃ was, (was = s.rd Reg.PAGE_COMMIT_GROUP p) ∧ (actsAs agent ≠ 0)) ∧
    (∃ (s : State) (agent : Agent) (p : Fin 8192) (v : Word), (s.alive = true) ∧ (v.toNat.testBit 8 = false) ∧ ∃
     g, (g = v.toNat % 16) ∧ ∃ was, (was = s.rd Reg.PAGE_COMMIT_GROUP p) ∧ (actsAs agent = 0) ∧ (g ≠ was) ∧
     (s.groupBusy g = false) ∧ (s.groupBusy was = false)) ∧
    (∃ (s : State) (agent : Agent) (p : Fin 8192) (v : Word), (s.alive = true) ∧ (v.toNat.testBit 8 = false) ∧ ∃
     g, (g = v.toNat % 16) ∧ ∃ was, (was = s.rd Reg.PAGE_COMMIT_GROUP p) ∧ (actsAs agent = 0) ∧ (g ≠ was) ∧
     (s.groupBusy g = true ∨ s.groupBusy was = true)) ∧
    (∃ (s : State) (agent : Agent) (p : Fin 8192) (v : Word), (s.alive = true) ∧ (v.toNat.testBit 8 = true) ∧ ∃ t,
     (t = actsAs agent) ∧ ∃ g, (g = s.rd Reg.PAGE_COMMIT_GROUP p) ∧ ((t = 0 → v.toNat % 16 = g)) ∧ ∃ r : Nat, (((t
     ≠ 0 ∧ t ≠ s.rd Reg.GROUP_OWNER 0 g) ∧ r = 1) ∨ ((t = 0 ∨ t = s.rd Reg.GROUP_OWNER 0 g) ∧ s.groupBusy g = true
     ∧ r = 2) ∨ ((t = 0 ∨ t = s.rd Reg.GROUP_OWNER 0 g) ∧ s.groupBusy g = false ∧ s.ik.commit ≠ none ∧
     s.groupListed g = true ∧ r = 3))) ∧
    (∃ (s : State) (agent : Agent) (p : Fin 8192) (v : Word), (s.alive = true) ∧ (v.toNat.testBit 8 = true) ∧ ∃ t,
     (t = actsAs agent) ∧ ∃ g, (g = s.rd Reg.PAGE_COMMIT_GROUP p) ∧ ((t = 0 → v.toNat % 16 = g)) ∧ (s.openFor t g)
     ∧ (s.running = true) ∧ (s.cascadeRun = false) ∧ (s.capturing = false)) ∧
    (∃ (s : State) (agent : Agent) (p : Fin 8192) (v : Word), (s.alive = true) ∧ (v.toNat.testBit 8 = true) ∧ ∃ t, (t = actsAs agent) ∧ ∃ g, (g = s.rd Reg.PAGE_COMMIT_GROUP p) ∧ ((t = 0 → v.toNat % 16 = g)) ∧ (s.openFor t g) ∧ (s.running = false) ∧ (s.cascadeRun = false) ∧ (s.capturing = false) ∧ (s.commits = {}) ∧ (s.ik.commit = none) ∧ ((∀ f ∈ s.capturedFields [g], f.1 / 131072 = 0x1A1))) ∧
    (∃ (s : State) (v : Word), (s.alive = true) ∧ (v.toNat % 2 ^ 16 = 0)) ∧
    (∃ (s : State) (v : Word), (s.alive = true) ∧ ∃ g, (g = 5) ∧ (v.toNat % 2 ^ 6 = 2 ^ 5) ∧ (s.groupBusy 5 =
     true)) ∧
    (∃ (s : State) (v : Word), (s.alive = true) ∧ ∃ groups, (groups = (List.range 16).filter v.toNat.testBit) ∧
     (groups ≠ []) ∧ ((∀ g ∈ groups, s.openFor 0 g)) ∧ (s.running = true) ∧ (s.cascadeRun = false) ∧ (s.capturing =
     false)) ∧
    (∃ (s : State), (s.alive = true) ∧ (s.ik.commit = none) ∧ (s.commits.waiting = [] ∨ (s.running = true ∧ ∀ c ∈
     s.commits.waiting, s.lt.line < c.line))) ∧
    (∃ (s : State), (s.alive = true) ∧ (s.ik.commit = none) ∧ ∃ c l, (s.commits.waiting = c :: l) ∧ (s.running =
     true) ∧ (c.line ≤ s.lt.line) ∧ ((∀ e ∈ l, s.lt.line < e.line)) ∧ (s.commits.moves = []) ∧ ((∀ f ∈ c.fields,
     f.1 / 131072 = 0x1A1)) ∧ ((c.fields.map (·.1)).Nodup)) := by
  refine ⟨⟨(mk22 .reset 0), 2, 5, 0x00000020#32, ?_, ?_, _, rfl, _, rfl, ?_⟩,
   ⟨(mk22 .reset 0), 0, 5, 0x00000020#32, ?_, ?_, _, rfl, _, rfl, ?_⟩,
   ⟨(mk22 .reset 0), 0, 5, 0x00000005#32, ?_, ?_, _, rfl, _, rfl, ?_⟩,
   ⟨(mk22 .reset 0), 0, 417, 0x00000105#32, ?_, ?_, _, rfl, _, rfl, ?_, 2, ?_⟩,
   ⟨(mk22 .reset 1), 0, 291, 0x80000123#32, ?_, ?_, _, rfl, _, rfl, ?_⟩,
   ⟨(mk22 .reset 2), 0, 417, 0x00000105#32, ?_, ?_, _, rfl, _, rfl, ?_⟩,
   ⟨(mk22 .reset 0), 0x00000000#32, ?_⟩,
   ⟨(mk22 .reset 0), 0x00000020#32, ?_, _, rfl, ?_⟩,
   ⟨(mk22 .reset 1), 0x00000105#32, ?_, _, rfl, ?_⟩,
   ⟨(mk22 .reset 2), ?_⟩,
   ⟨(mk22 .reset 1), ?_, ?_, _, _, consOf (by decide +kernel), ?_⟩⟩
  all_goals first | decide +kernel | (simp only [Onyx.wf, State.wf, TimeBase.wf, State.openFor, State.uncommitted, State.mayRun, State.Issues, State.Converts, State.Stages]; decide +kernel)

theorem test_witness_PagesAndGrants :
    (∃ (s : State) (p : Fin 8192) (v : Word), (s.alive = true) ∧ (v.toNat % 2 = 0)) ∧
    (∃ (s : State) (p : Fin 8192) (v : Word), (s.alive = true) ∧ (v.toNat % 2 = 1) ∧ (Table.rising 0 s.shadow =
     true)) ∧
    (∃ (s : State) (t : Tenant) (slot : Fin 256) (v : Word), (s.alive = true) ∧ (t.val = 0 ∨ slot.val < 96)) ∧
    (∃ (s : State) (t : Tenant) (slot : Fin 256) (v : Word), (s.alive = true) ∧ (t.val ≠ 0) ∧ (96 ≤ slot.val) ∧ ∃
     p, (p = v.toNat % 8192) ∧ ∃ k, (k = (t.val - 1) / 6) ∧ ∃ i, (i = (t.val - 1) % 6) ∧ ∃ j, (j = slot.val - 96) ∧
     ∃ ro, (ro = v.toNat / 2 ^ 30 % 2) ∧ (v.toNat / 2 ^ 31 = 1) ∧ (s.grantRefused t slot p = true)) ∧
    (∃ (s : State) (t : Tenant) (slot : Fin 256) (v : Word), (s.alive = true) ∧ (t.val ≠ 0) ∧ (96 ≤ slot.val) ∧ ∃
     p, (p = v.toNat % 8192) ∧ ∃ k, (k = (t.val - 1) / 6) ∧ ∃ i, (i = (t.val - 1) % 6) ∧ ∃ j, (j = slot.val - 96) ∧
     ∃ ro, (ro = v.toNat / 2 ^ 30 % 2) ∧ (v.toNat / 2 ^ 31 = 0 ∨ s.grantRefused t slot p = false)) ∧
    (∃ (s : State) (t p : Nat), ((pageRow p).any (fun r => r.never || r.lease) = true ∨ (∃ q, pageOwner p = some q
     ∧ q ≠ t))) := by
  refine ⟨⟨(mk22 .reset 0), 5, 0x00000020#32, ?_⟩,
   ⟨(mk22 .reset 0), 5, 0x00000105#32, ?_⟩,
   ⟨(mk22 .reset 0), 0, 0, 0x00000105#32, ?_⟩,
   ⟨(mk22 .reset 0), 2, 96, 0x80000040#32, ?_, ?_, ?_, _, rfl, _, rfl, _, rfl, _, rfl, _, rfl, ?_⟩,
   ⟨(mk22 .reset 0), 2, 96, 0x00000105#32, ?_, ?_, ?_, _, rfl, _, rfl, _, rfl, _, rfl, _, rfl, ?_⟩,
   ⟨(mk22 .reset 0), 0, 0, ?_⟩⟩
  all_goals first | decide +kernel | (simp only [Onyx.wf, State.wf, TimeBase.wf, State.openFor, State.uncommitted, State.mayRun, State.Issues, State.Converts, State.Stages]; decide +kernel)

theorem test_witness_Runs :
    (∃ (s : State), (s.alive = true) ∧ ∃ st, (st = s.on Reg.DEV_RUN_STATUS_STARTING) ∧ ∃ r : Nat, (((s.running =
     true ∨ st = true) ∧ r = 1) ∨ (s.running = false ∧ st = false ∧ s.on Reg.BANK_CAL_BUSY = true ∧ r = 2) ∨
     (s.running = false ∧ st = false ∧ s.on Reg.BANK_CAL_BUSY = false ∧ ¬(s.domain 2 = 2 ∧ s.domain 3 = 2) ∧ r = 3)
     ∨ (s.running = false ∧ st = false ∧ s.on Reg.BANK_CAL_BUSY = false ∧ s.domain 2 = 2 ∧ s.domain 3 = 2 ∧
     s.cascaded = true ∧ s.leads = false ∧ r = 4) ∨ (s.running = false ∧ st = false ∧ s.on Reg.BANK_CAL_BUSY =
     false ∧ s.domain 2 = 2 ∧ s.domain 3 = 2 ∧ s.cascaded = true ∧ s.leads = true ∧ s.rd Reg.IK_STATUS_STATE ≠ 3 ∧
     r = 5))) ∧
    (∃ (s : State), (s.alive = true) ∧ (s.mayRun) ∧ (s.on Reg.DEV_RUN_STATUS_STARTING = false) ∧ (s.cast.aborting
     = true)) ∧
    (∃ (s : State), (s.alive = true) ∧ (s.mayRun) ∧ (s.on Reg.DEV_RUN_STATUS_STARTING = false ∨ s.cast.aborting =
     true)) ∧
    (∃ (s : State), (s.alive = true) ∧ (s.mayRun) ∧ (s.cast.aborting = false) ∧ (s.uncommitted) ∧ (s.on
     Reg.DEV_RUN_STATUS_STARTING = false)) ∧
    (∃ (s : State), (s.alive = true) ∧ (s.mayRun) ∧ (s.cast.aborting = false) ∧ (s.uncommitted) ∧ (s.on
     Reg.DEV_RUN_STATUS_STARTING = true)) ∧
    (∃ (s : State), (s.alive = true) ∧ (s.running = false) ∧ (s.on Reg.DEV_RUN_STATUS_STARTING = true) ∧
     (s.cast.aborting = false) ∧ (s.follows = false) ∧ (s.on Reg.BANK_CAL_BUSY = true)) ∧
    (∃ (s : State), (s.alive = true) ∧ (s.follows = true)) ∧
    (∃ (s : State), (s.alive = true) ∧ (s.follows = false) ∧ (s.running = false)) ∧
    (∃ (s : State), (s.alive = true) ∧ (s.cascaded = false) ∧ (s.running = true) ∧ (s.uncommitted)) := by
  refine ⟨⟨(mk23 .reset 1), ?_, _, rfl, 1, ?_⟩,
   ⟨(mk23 .reset 4), ?_⟩,
   ⟨(mk23 .reset 0), ?_⟩,
   ⟨(mk23 .reset 0), ?_⟩,
   ⟨(mk23 .reset 2), ?_⟩,
   ⟨(mk23 .reset 8), ?_⟩,
   ⟨(mk23 .reset 5), ?_⟩,
   ⟨(mk23 .reset 0), ?_⟩,
   ⟨(mk23 .reset 1), ?_⟩⟩
  all_goals first | decide +kernel | (simp only [Onyx.wf, State.wf, TimeBase.wf, State.openFor, State.uncommitted, State.mayRun, State.Issues, State.Converts, State.Stages]; decide +kernel)

theorem test_witness_LineTriggers :
    (∃ (s : State), (s.alive = true) ∧ ∃ raw, (raw = s.rdPair Reg.LT_DIV_FRAC_VALUE Reg.LT_DIV_INT_VALUE) ∧
     (s.lt.predict = none ∨ s.running = false)) ∧
    (∃ (s : State), (s.alive = true) ∧ ∃ raw, (raw = s.rdPair Reg.LT_DIV_FRAC_VALUE Reg.LT_DIV_INT_VALUE) ∧ ∃ t,
     (s.lt.predict = some t) ∧ (s.running = true) ∧ (s.uncommitted)) ∧
    (∃ (s : State) (n : Fin 4) (a' b' : Bool) (stoodA stoodB : Nat), ∃ x, (x = s.encoder n) ∧ ∃ a, (a = (if s.rd
     Reg.ENC_CTL_FILT n ≤ stoodA then a' else x.a)) ∧ ∃ b, (b = (if s.rd Reg.ENC_CTL_FILT n ≤ stoodB then b' else
     x.b)) ∧ (s.alive = false)) ∧
    (∃ (s : State) (n : Fin 4) (a' b' : Bool) (stoodA stoodB : Nat), ∃ x, (x = s.encoder n) ∧ ∃ a, (a = (if s.rd
     Reg.ENC_CTL_FILT n ≤ stoodA then a' else x.a)) ∧ ∃ b, (b = (if s.rd Reg.ENC_CTL_FILT n ≤ stoodB then b' else
     x.b)) ∧ (s.alive = true) ∧ (s.on Reg.ENC_CTL_EN n = false ∨ (a = x.a ∧ b = x.b))) ∧
    (∃ (s : State) (n : Fin 4) (a' b' : Bool) (stoodA stoodB : Nat), ∃ x, (x = s.encoder n) ∧ ∃ a, (a = (if s.rd
     Reg.ENC_CTL_FILT n ≤ stoodA then a' else x.a)) ∧ ∃ b, (b = (if s.rd Reg.ENC_CTL_FILT n ≤ stoodB then b' else
     x.b)) ∧ (s.alive = true) ∧ (s.on Reg.ENC_CTL_EN n = true) ∧ (¬(a = x.a ∧ b = x.b)) ∧ ∃ dec, (dec =
     decodeSample (s.on Reg.ENC_CTL_MODE n) (s.on Reg.ENC_CTL_INVERT n) x a b) ∧ (dec = none)) ∧
    (∃ (s : State) (n : Fin 4) (a' b' : Bool) (stoodA stoodB : Nat), ∃ x, (x = s.encoder n) ∧ ∃ a, (a = (if s.rd
     Reg.ENC_CTL_FILT n ≤ stoodA then a' else x.a)) ∧ ∃ b, (b = (if s.rd Reg.ENC_CTL_FILT n ≤ stoodB then b' else
     x.b)) ∧ (s.alive = true) ∧ (s.on Reg.ENC_CTL_EN n = true) ∧ (¬(a = x.a ∧ b = x.b)) ∧ ∃ dec, (dec =
     decodeSample (s.on Reg.ENC_CTL_MODE n) (s.on Reg.ENC_CTL_INVERT n) x a b) ∧ ∃ d, (dec = some d) ∧ (d ≠ 0) ∧
     (s.follows? n = false)) ∧
    (∃ (s : State) (n : Fin 4) (a' b' : Bool) (stoodA stoodB : Nat), ∃ x, (x = s.encoder n) ∧ ∃ a, (a = (if s.rd
     Reg.ENC_CTL_FILT n ≤ stoodA then a' else x.a)) ∧ ∃ b, (b = (if s.rd Reg.ENC_CTL_FILT n ≤ stoodB then b' else
     x.b)) ∧ (s.alive = true) ∧ (s.on Reg.ENC_CTL_EN n = true) ∧ (¬(a = x.a ∧ b = x.b)) ∧ ∃ dec, (dec =
     decodeSample (s.on Reg.ENC_CTL_MODE n) (s.on Reg.ENC_CTL_INVERT n) x a b) ∧ ∃ d, (dec = some d) ∧ (d ≠ 0) ∧
     (s.follows? n = true) ∧ (s.uncommitted) ∧ ∃ p, (p = s.lt.pos + d * 2 ^ 32) ∧ (p < s.lt.next)) ∧
    (∃ (s : State) (n : Fin 4) (a' b' : Bool) (stoodA stoodB : Nat), ∃ x, (x = s.encoder n) ∧ ∃ a, (a = (if s.rd
     Reg.ENC_CTL_FILT n ≤ stoodA then a' else x.a)) ∧ ∃ b, (b = (if s.rd Reg.ENC_CTL_FILT n ≤ stoodB then b' else
     x.b)) ∧ (s.alive = true) ∧ (s.on Reg.ENC_CTL_EN n = true) ∧ (¬(a = x.a ∧ b = x.b)) ∧ ∃ dec, (dec =
     decodeSample (s.on Reg.ENC_CTL_MODE n) (s.on Reg.ENC_CTL_INVERT n) x a b) ∧ ∃ d, (dec = some d) ∧ (d ≠ 0) ∧
     (s.follows? n = true) ∧ (s.uncommitted) ∧ ∃ p, (p = s.lt.pos + d * 2 ^ 32) ∧ (s.lt.next ≤ p)) ∧
    (∃ (s : State), (s.alive = true) ∧ (s.lt.owed = [])) ∧
    (∃ (s : State), (s.alive = true) ∧ ∃ e l, (s.lt.owed = e :: l) ∧ (s.cascadeRun = false) ∧ ∃ y t, (e = (y, t))
     ∧ (s.on Reg.TB_STATUS_LOCKED = false)) ∧
    (∃ (s : State), (s.alive = true) ∧ ∃ e l, (s.lt.owed = e :: l) ∧ (s.cascadeRun = false) ∧ ∃ y t, (e = (y, t))
     ∧ (s.on Reg.TB_STATUS_LOCKED = true) ∧ (s.groupsBusy = false) ∧ (s.lt.deferred = none)) ∧
    (∃ (s : State), (s.alive = true) ∧ ∃ e l, (s.lt.owed = e :: l) ∧ (s.cascadeRun = false) ∧ ∃ y t, (e = (y, t))
     ∧ (s.on Reg.TB_STATUS_LOCKED = true) ∧ (s.groupsBusy = true) ∧ (s.lt.deferred = none)) ∧
    (∃ (s : State), (s.alive = true) ∧ ∃ e l, (s.lt.owed = e :: l) ∧ (s.cascadeRun = false) ∧ ∃ y t, (e = (y, t))
     ∧ ∃ d, (s.lt.deferred = some d) ∧ (s.on Reg.TB_STATUS_LOCKED = true) ∧ (d.1 ≠ y)) ∧
    (∃ (s : State), (s.alive = true) ∧ ∃ e l, (s.lt.owed = e :: l) ∧ (s.cascadeRun = false) ∧ ∃ y t, (e = (y, t))
     ∧ (s.thin.queue = []) ∧ (s.thin.cascade = [])) := by
  refine ⟨⟨(mk23 .reset 0), ?_, _, rfl, ?_⟩,
   ⟨(mk23 .reset 1), ?_, _, rfl, _, someOf (by decide +kernel), ?_⟩,
   ⟨(mk23 .reset 18), 0, true, true, 0, 0, _, rfl, _, rfl, _, rfl, ?_⟩,
   ⟨(mk23 .reset 0), 0, true, true, 0, 0, _, rfl, _, rfl, _, rfl, ?_⟩,
   ⟨(mk23 .reset 0), 0, false, false, 11, 11, _, rfl, _, rfl, _, rfl, ?_, ?_, ?_, _, rfl, ?_⟩,
   ⟨(mk23 .reset 0), 0, true, false, 0, 11, _, rfl, _, rfl, _, rfl, ?_, ?_, ?_, _, rfl, _, someOf
    (by decide +kernel), ?_⟩,
   ⟨(mk23 .reset 1), 0, true, true, 11, 0, _, rfl, _, rfl, _, rfl, ?_, ?_, ?_, _, rfl, _, someOf
    (by decide +kernel), ?_, ?_, ?_, _, rfl, ?_⟩,
   ⟨(mk23 .reset 1), 0, true, false, 0, 11, _, rfl, _, rfl, _, rfl, ?_, ?_, ?_, _, rfl, _, someOf
    (by decide +kernel), ?_, ?_, ?_, _, rfl, ?_⟩,
   ⟨(mk23 .reset 0), ?_⟩,
   ⟨(mk23 .reset 7), ?_, _, _, consOf (by decide +kernel), ?_, _, _, pairOf _, ?_⟩,
   ⟨(mk23 .reset 8), ?_, _, _, consOf (by decide +kernel), ?_, _, _, pairOf _, ?_⟩,
   ⟨(mk23 .reset 1), ?_, _, _, consOf (by decide +kernel), ?_, _, _, pairOf _, ?_⟩,
   ⟨(mk23 .reset 4), ?_, _, _, consOf (by decide +kernel), ?_, _, _, pairOf _, _, someOf (by decide +kernel), ?_⟩,
   ⟨(mk23 .reset 1), ?_, _, _, consOf (by decide +kernel), ?_, _, _, pairOf _, ?_⟩⟩
  all_goals first | decide +kernel | (simp only [Onyx.wf, State.wf, TimeBase.wf, State.openFor, State.uncommitted, State.mayRun, State.Issues, State.Converts, State.Stages]; decide +kernel)

theorem test_witness_LineStarts :
    (∃ (s : State), (s.alive = true) ∧ (s.lt.start = none) ∧ (s.ik.starts = [])) ∧
    (∃ (s : State), (s.alive = true) ∧ ∃ e, (s.lt.start = some e) ∧ ∃ y t, (e = (y, t))) ∧
    (∃ (s : State) (g : Fin 12), (s.alive = true) ∧ ((s.group g).inMin = false)) ∧
    (∃ (s : State) (g : Fin 12), (s.alive = true) ∧ ((s.group g).inMin = true) ∧ ((s.group g).leds = [0, 0]) ∧ ∃
     late, (late = s.tb.ns - ((s.lt.deferred.map (·.2)).getD 0)) ∧ (s.lt.deferred = none ∨ s.lt.start ≠ none ∨ (∃ h
     ∈ s.groupsOn, h ≠ g.val ∧ (s.group h).inMin = true))) ∧
    (∃ (s : State) (g : Fin 12), (s.alive = true) ∧ ((s.group g).inMin = true) ∧ ((s.group g).leds = [0, 0]) ∧ ∃
     late, (late = s.tb.ns - ((s.lt.deferred.map (·.2)).getD 0)) ∧ ∃ e, (s.lt.deferred = some e) ∧ (s.lt.start =
     none) ∧ ((∀ h ∈ s.groupsOn, h ≠ g.val → (s.group h).inMin = false))) ∧
    (∃ (s : State) (g : Fin 12), (s.alive = true) ∧ (s.flushWanted g = false)) ∧
    (∃ (s : State) (g : Fin 12), (s.alive = true) ∧ (s.flushWanted g = true) ∧ ((s.group g).swapAt = none)) ∧
    (∃ (s : State), (s.alive = true) ∧ (s.on Reg.TB_STATUS_LOCKED = false)) ∧
    (∃ (s : State), (s.alive = true) ∧ (s.on Reg.TB_STATUS_LOCKED = true)) := by
  refine ⟨⟨(mk23 .reset 0), ?_⟩,
   ⟨(mk23 .reset 2), ?_, _, someOf (by decide +kernel), _, _, pairOf _⟩,
   ⟨(mk23 .reset 0), 0, ?_⟩,
   ⟨(mk23 .reset 1), 2, ?_, ?_, ?_, _, rfl, ?_⟩,
   ⟨(mk23 .reset 5), 2, ?_, ?_, ?_, _, rfl, _, someOf (by decide +kernel), ?_⟩,
   ⟨(mk23 .reset 0), 0, ?_⟩,
   ⟨(mk23 .reset 1), 0, ?_⟩,
   ⟨(mk23 .reset 3), ?_⟩,
   ⟨(mk23 .reset 0), ?_⟩⟩
  all_goals first | decide +kernel | (simp only [Onyx.wf, State.wf, TimeBase.wf, State.openFor, State.uncommitted, State.mayRun, State.Issues, State.Converts, State.Stages]; decide +kernel)

theorem test_witness_BerylFrames :
    (∃ (s : State) (p : Fin 4), (s.alive = true) ∧ (s.domain 4 ≠ 2)) ∧
    (∃ (s : State) (p : Fin 4), (s.alive = true) ∧ (s.domain 4 = 2) ∧ ∃ st, (st = s.portState p) ∧ ∃ x, (x =
     s.port p) ∧ (st ≠ 0) ∧ (s.on Reg.BR_CTL_EN p = true) ∧ (x.en = true) ∧ (s.brComplete p = none)) ∧
    (∃ (s : State) (p : Fin 4), (s.alive = true) ∧ (s.domain 4 = 2) ∧ ∃ st, (st = s.portState p) ∧ ∃ x, (x =
     s.port p) ∧ (st ≠ 0) ∧ (s.on Reg.BR_CTL_EN p = true) ∧ (x.en = true) ∧ (s.brComplete p ≠ none)) ∧
    (∃ (s : State) (p : Fin 4), (s.alive = true) ∧ (s.domain 4 = 2) ∧ ∃ st, (st = s.portState p) ∧ ∃ x, (x =
     s.port p) ∧ (st = 0) ∧ (x.frame = none) ∧ (s.on Reg.BR_CTL_EN p = true) ∧ (x.en = false) ∧ (s.brRefused p =
     false)) ∧
    (∃ (s : State) (p : Fin 4), (s.alive = true) ∧ (s.domain 4 = 2) ∧ ∃ st, (st = s.portState p) ∧ ∃ x, (x =
     s.port p) ∧ (st = 0) ∧ (x.frame = none) ∧ (s.on Reg.BR_CTL_EN p = true) ∧ (x.en = false) ∧ (s.brRefused p =
     true)) ∧
    (∃ (s : State) (p : Fin 4), (s.alive = true) ∧ (s.domain 4 = 2) ∧ ∃ st, (st = s.portState p) ∧ ∃ x, (x =
     s.port p) ∧ (st ≠ 0) ∧ (st ≠ 4) ∧ (st ≠ 5) ∧ (s.on Reg.BR_CTL_EN p = false) ∧ (s.on Reg.BR_STATUS_OPEN_CONF p
     = true) ∧ (s.brComplete p = none) ∧ ((s.beryl.snapReq.map (·.1)) ≠ some p.val)) ∧
    (∃ (s : State) (p : Fin 4), (s.alive = true) ∧ (s.brComplete p = none)) ∧
    (∃ (s : State) (p : Fin 4), (s.alive = true) ∧ (s.brComplete p ≠ none)) := by
  refine ⟨⟨(mk24 .reset 12), 0, ?_⟩,
   ⟨(mk24 .reset 1), 3, ?_, ?_, _, rfl, _, rfl, ?_⟩,
   ⟨(mk24 .reset 1), 1, ?_, ?_, _, rfl, _, rfl, ?_⟩,
   ⟨(mk24 .reset 5), 1, ?_, ?_, _, rfl, _, rfl, ?_⟩,
   ⟨(mk24 .reset 3), 3, ?_, ?_, _, rfl, _, rfl, ?_⟩,
   ⟨(mk24 .reset 0), 3, ?_, ?_, _, rfl, _, rfl, ?_⟩,
   ⟨(mk24 .reset 0), 0, ?_⟩,
   ⟨(mk24 .reset 1), 1, ?_⟩⟩
  all_goals first | decide +kernel | (simp only [Onyx.wf, State.wf, TimeBase.wf, State.openFor, State.uncommitted, State.mayRun, State.Issues, State.Converts, State.Stages]; decide +kernel)

theorem test_witness_ScansAndServo :
    (∃ (s : State), (s.alive = true) ∧ (s.pfe.check = none)) ∧
    (∃ (s : State), (s.alive = true) ∧ ∃ e, (s.pfe.check = some e) ∧ ∃ ca cb, (e = (ca, cb)) ∧ ∃ tol : Int, (tol =
     (s.pfe?.rd Reg.PFE_CHECK_TOL : Int)) ∧ (s.pfe.held = false ∨ s.pfeReady = false)) ∧
    (∃ (s : State), (s.alive = true) ∧ ∃ e, (s.pfe.check = some e) ∧ ∃ ca cb, (e = (ca, cb)) ∧ ∃ tol : Int, (tol =
     (s.pfe?.rd Reg.PFE_CHECK_TOL : Int)) ∧ (s.pfe.held = true) ∧ (s.pfeReady = true)) ∧
    (∃ (s : State), (s.alive = true) ∧ (s.domain 6 ≠ 2)) ∧
    (∃ (s : State), (s.alive = true) ∧ (s.domain 6 = 2) ∧ (s.running = false) ∧ (s.on Reg.SHEET_CTL_EN = false) ∧
     (s.on Reg.SHEET_STATUS_PAUSED = false) ∧ ((∀ p, p < 4 → s.portState p < 4 ∨ s.portState p = 7))) ∧
    (∃ (s : State), (s.alive = true) ∧ (s.domain 6 = 2) ∧ (s.running = false) ∧ (s.on Reg.SHEET_CTL_EN = true) ∧
     (s.on Reg.DEV_MODE_MODE = true) ∧ (s.on Reg.SHEET_CTL_LEAD_EN = true) ∧ (s.on Reg.SHEET_STATUS_PAUSED = false)
     ∧ (s.rd Reg.REF_LEAD_VALUE < s.rd Reg.SHEET_LEAD_STOP)) ∧
    (∃ (s : State), (s.alive = true) ∧ (s.domain 6 = 2) ∧ (s.running = false) ∧ (s.on Reg.SHEET_STATUS_PAUSED =
     true) ∧ (s.on Reg.SHEET_CTL_EN = true) ∧ (s.on Reg.DEV_MODE_MODE = true) ∧ (s.on Reg.SHEET_CTL_LEAD_EN = true)
     ∧ (s.rd Reg.REF_LEAD_VALUE < s.rd Reg.SHEET_LEAD_GO)) ∧
    (∃ (s : State), (s.alive = true) ∧ (s.domain 6 = 2) ∧ (s.running = false) ∧ (s.on Reg.SHEET_STATUS_PAUSED =
     true) ∧ (s.on Reg.SHEET_CTL_EN = true) ∧ (s.chainPause = false) ∧ (s.on Reg.SHEET_CTL_LEAD_EN = true) ∧ (s.rd
     Reg.SHEET_LEAD_GO ≤ s.rd Reg.REF_LEAD_VALUE) ∧ ((∀ q, q < 4 → s.on Reg.SHEET_Q_VALID 0 q = false))) := by
  refine ⟨⟨(mk24 .reset 5), ?_⟩,
   ⟨(mk24 .reset 0), ?_, _, someOf (by decide +kernel), _, _, pairOf _, _, rfl, ?_⟩,
   ⟨(mk24 .reset 3), ?_, _, someOf (by decide +kernel), _, _, pairOf _, _, rfl, ?_⟩,
   ⟨(mk24 .reset 12), ?_⟩,
   ⟨(mk24 .reset 0), ?_⟩,
   ⟨(mk24 .reset 1), ?_⟩,
   ⟨(mk24 .reset 5), ?_⟩,
   ⟨(mk24 .reset 4), ?_⟩⟩
  all_goals first | decide +kernel | (simp only [Onyx.wf, State.wf, TimeBase.wf, State.openFor, State.uncommitted, State.mayRun, State.Issues, State.Converts, State.Stages]; decide +kernel)

theorem test_witness_Resets :
    (∃ (s : State) (agent : Agent) (v : Word), (s.alive = true) ∧ ∃ right : Bool, (right = (v.toNat % 2 ^ 16 ==
     0xD3C0 && (agent.val == 0 || agent.val == 17))) ∧ (right = true)) ∧
    (∃ (s : State) (agent : Agent) (v : Word), (s.alive = true) ∧ ∃ right : Bool, (right = (v.toNat % 2 ^ 16 ==
     0xD3C0 && (agent.val == 0 || agent.val == 17))) ∧ (right = false)) ∧
    (∃ s : State, (s.alive = true)) ∧
    (∃ (s : State) (core : Fin 2), (s.alive = true) ∧ (s.mgmtRuns = false)) ∧
    (∃ (s : State) (core : Fin 2), (s.alive = true) ∧ (s.mgmtRuns = true)) ∧
    (∃ (s : State) (lead link core : Bool) (addr : Fin 8) (flash : Option FlashContent), (s.flt.shutdown = true) ∧
     (core = false)) ∧
    (∃ (s : State) (lead link core : Bool) (addr : Fin 8) (flash : Option FlashContent), (s.flt.shutdown = false ∨
     core = true)) := by
  refine ⟨⟨(mk25 .reset 0), 0, 0x0000d3c0#32, ?_, _, rfl, ?_⟩,
   ⟨(mk25 .reset 0), 0, 0x00000001#32, ?_, _, rfl, ?_⟩,
   ⟨(mk25 .reset 0), ?_⟩,
   ⟨(mk25 .reset 2), 0, ?_⟩,
   ⟨(mk25 .reset 0), 0, ?_⟩,
   ⟨(mk25 .reset 6), true, true, false, 0, none, ?_⟩,
   ⟨(mk25 .reset 0), true, true, true, 0, none, ?_⟩⟩
  all_goals first | decide +kernel | (simp only [Onyx.wf, State.wf, TimeBase.wf, State.openFor, State.uncommitted, State.mayRun, State.Issues, State.Converts, State.Stages]; decide +kernel)

theorem test_witness_RegisterWrites :
    (∃ (s : State) (agent : Agent) (p : Fin 8192) (o : Fin 4096) (v : BitVec 64) (x : Outside), (s.alive = true) ∧
     (o.val % 4 = 0) ∧ (s.sees agent p = false)) ∧
    (∃ (s : State) (agent : Agent) (p : Fin 8192) (o : Fin 4096) (v : BitVec 64) (x : Outside), (s.alive = true) ∧
     (o.val % 4 = 0) ∧ (s.sees agent p = true) ∧ (s.readOnly agent p = true)) ∧
    (∃ (s : State) (agent : Agent) (p : Fin 8192) (o : Fin 4096) (v : BitVec 64) (x : Outside), (s.alive = true) ∧
     (o.val % 4 = 0) ∧ (0x20 ≤ o.val) ∧ (s.sees agent p = true) ∧ (s.readOnly agent p = false) ∧ (s.domain
     (domainOfPage p) ≠ 2)) ∧
    (∃ (s : State) (agent : Agent) (p : Fin 8192) (o : Fin 4096) (v : BitVec 64) (x : Outside), (s.alive = true) ∧
     ∃ width : Nat, (width < 2 ^ 32) ∧ (¬((width = 4 ∨ width = 8) ∧ o.val % 4 = 0))) ∧
    (∃ (s : State) (agent : Agent) (p : Fin 8192) (o : Fin 4096) (v : BitVec 64) (x : Outside), (s.alive = true) ∧
     ∃ o' : Fin 4096, (o'.val = o.val + 4) ∧ (o.val % 4 = 0) ∧ ∃ hi : BitVec 64, (hi.toNat = v.toNat / 2 ^ 32)) ∧
    (∃ (s : State) (agent : Agent) (v : BitVec 64) (x : Outside), (s.alive = true) ∧ (s.domain 0 = 2) ∧ (s.domain
     3 = 2) ∧ (s.domain 5 = 2) ∧ (s.domain 6 = 2) ∧ ((∀ p ∈ [0x000, 0x001, 0x010, 0x029, 0x0FF, 0x1A1, 0x240,
     0x268], s.sees agent p = true ∧ s.readOnly agent p = false ∧ s.writeLogged agent p = false)) ∧ ∃ w, (w =
     v.toNat % 2 ^ 32)) := by
  refine ⟨⟨(mk25 .reset 0), 2, 0, 20, 0x000080000123d3c0#64, { ctx := none, cqType := 0, bus := Sys2Proof.BusLines.free, usbCut := false }, ?_⟩,
   ⟨(mk25 .reset 1), 2, 291, 20, 0x000080000123d3c0#64, { ctx := none, cqType := 0, bus := Sys2Proof.BusLines.free, usbCut := false }, ?_⟩,
   ⟨(mk25 .reset 4), 0, 0, 32, 0x000080000123d3c0#64, { ctx := none, cqType := 0, bus := Sys2Proof.BusLines.free, usbCut := false }, ?_⟩,
   ⟨(mk25 .reset 0), 0, 0, 20, 0x000080000123d3c0#64, { ctx := none, cqType := 0, bus := Sys2Proof.BusLines.free, usbCut := false }, ?_, 0, ?_⟩,
   ⟨(mk25 .reset 0), 0, 0, 20, 0x0000000000000001#64, { ctx := none, cqType := 0, bus := Sys2Proof.BusLines.free, usbCut := false }, ?_, 24, ?_, ?_, 0x0000000000000000#64, ?_⟩,
   ⟨(mk25 .reset 0), 0, 0x000080000123d3c0#64, { ctx := none, cqType := 0, bus := Sys2Proof.BusLines.free, usbCut := false }, ?_, ?_, ?_, ?_, ?_, ?_, _, rfl⟩⟩
  all_goals first | decide +kernel | (simp only [Onyx.wf, State.wf, TimeBase.wf, State.openFor, State.uncommitted, State.mayRun, State.Issues, State.Converts, State.Stages]; decide +kernel)

theorem test_witness_StepRunsTheFront :
    ∃ (c : Instr) (l : List Instr) (s : State), s.pending = c :: l ∧ l ≠ [] :=
  ⟨.perstNAssert, [.viewStale], { State.reset with pending := [.perstNAssert, .viewStale] }, rfl, by simp⟩

theorem test_witness_EmptyQueueIdles :
    (∃ s : State, s.pending = [] ∧ s.alive = false) ∧
    (∃ s : State, s.pending = [] ∧ s.alive = true ∧ s.rd Reg.TB_RATE_PPB = 0 ∧ s.tb.wf) ∧
    (∃ s : State, s.pending = [] ∧ s.mgmt.stores = []) := by
  refine ⟨⟨{ State.reset with flt := { State.reset.flt with shutdown := true } }, ?_, ?_⟩,
    ⟨State.reset, ?_, ?_, ?_, ?_⟩, ⟨State.reset, ?_, ?_⟩⟩
  all_goals first | decide +kernel | (simp only [TimeBase.wf]; decide +kernel)

theorem test_witness_EveryStepKeepsTheForm : ∃ s t : State, s.wf ∧ step s = .next t := by
  refine ⟨State.reset, _, ?_, rfl⟩
  simp only [State.wf, TimeBase.wf]
  decide +kernel

theorem test_witness_OnyxInvariant : ∃ s t : State, s.onyx.wf ∧ step s = .next t := by
  refine ⟨State.reset, _, ?_, rfl⟩
  simp only [Onyx.wf]
  decide +kernel

theorem test_witness_CommandFrames :
    ∃ (c : Instr) (s t : State) (p : Part), exec c s = .next t ∧ p ∉ c.writes :=
  ⟨.viewStale, State.reset, _, .onyx, rfl, by decide⟩

theorem test_witness_OnyxIsolation :
    ∃ (c : Instr) (s t : State), c.drivesOnyx = false ∧ exec c s = .next t :=
  ⟨.onyxJobMark, markFrame, _, rfl, rfl⟩

theorem test_witness_EventCounter :
    (∃ (c : Instr) (s t : State), exec c s = .next t ∧ c ≠ .sealPress ∧ ∀ a b, c ≠ .coldStart a b) ∧
    (∃ s t : State, s.onyx.wf ∧ exec .sealPress s = .next t) := by
  refine ⟨⟨.onyxJobMark, markFrame, _, rfl, by simp, by simp⟩, ⟨State.reset, _, ?_, rfl⟩⟩
  simp only [Onyx.wf]
  decide +kernel

theorem test_witness_JobMark :
    ∃ (s : State) (b : List Nat), s.onyx.power = .operating ∧ s.onyx.frame = some b ∧ s.onyx.reply = none ∧ b = [4, 2] ∧
      Completes .onyxJobMark s fun u => u.alive = true :=
  ⟨markFrame, [4, 2], rfl, rfl, rfl, rfl, _, rfl, by decide +kernel⟩

theorem test_witness_NoSupplyNoEffect :
    (∃ (c : Instr) (s : State), s.alive = false ∧ c.movesSupply = false ∧ c ≠ .onyxReplyReady ∧ c.runsOnOnyx = true) ∧
    (∃ (c : Instr) (s : State), s.alive = false ∧ c.movesSupply = false ∧ c ≠ .onyxReplyReady ∧ c.runsOnOnyx = false ∧
      c.setsPin = false) ∧
    (∃ (c : Instr) (s : State), s.alive = false ∧ c.movesSupply = false ∧ c ≠ .onyxReplyReady ∧ c.setsPin = true) := by
  refine ⟨⟨.onyxJobMark, { State.reset with flt := { State.reset.flt with shutdown := true } }, ?_⟩,
    ⟨.viewStale, { State.reset with flt := { State.reset.flt with shutdown := true } }, ?_⟩,
    ⟨.usbVbusChange true, { State.reset with flt := { State.reset.flt with shutdown := true } }, ?_⟩⟩ <;> decide +kernel

end Sys2Proof.Tests
end

section
/-!
The frame of every command. `RunsWithin` ties the table `Instr.writes` to `exec`: a command runs to a next state, and
the frame of its meaning (the `frame_` lemmas of the functions it calls) lies within its row of the table. The three
whole-machine statements of this file are short consequences.
-/

namespace Sys2Proof.Machine

/-! ## Lists of parts as masks -/

/-- The mask of `Frame` that names the parts of `l`. -/
def Part.mask (l : List Part) : Nat := l.foldr (fun p m => 2 ^ p.index ||| m) 0

theorem Part.index_injective : Function.Injective Part.index :=
  Function.LeftInverse.injective (g := Part.ofNat) fun p => by cases p <;> rfl

theorem Part.testBit_mask (l : List Part) (p : Part) : (Part.mask l).testBit p.index = decide (p ∈ l) := by
  induction l with
  | nil => simp [Part.mask]
  | cons q l ih =>
    have hcons : Part.mask (q :: l) = 2 ^ q.index ||| Part.mask l := rfl
    simp [hcons, ih, Nat.testBit_two_pow, Part.index_injective.eq_iff, eq_comm]

/-- A part outside the list whose mask frames two states is the same in both. -/
theorem Frame.same {l : List Part} {s t : State} (h : Frame (Part.mask l) s t) {p : Part} (hp : p ∉ l) : p.same s t :=
  h.1 p (by simp [Part.testBit_mask, hp])

/-! ## Commands that run within a list of parts -/

/-- The command runs to a next state, which differs from `s` in the parts of `l` at most; the invariant of the steps is
kept. -/
def RunsWithin (l : List Part) (c : Instr) (s : State) : Prop :=
  ∃ t, exec c s = .next t ∧ Frame (Part.mask l) s t

/-- A command with a meaning of its own even where the supplies are absent. -/
theorem RunsWithin.next {l : List Part} {c : Instr} {s t : State} (hx : exec c s = .next t)
    (h : Frame (Part.mask l) s t) : RunsWithin l c s := ⟨t, hx, h⟩

/-- A command that needs the supplies: the frame of what it then does is its own. -/
theorem RunsWithin.powered {l : List Part} {c : Instr} {s : State} {f : State → State}
    (hx : exec c s = .next (s.powered f)) (h : ∀ s, Frame (Part.mask l) s (f s)) : RunsWithin l c s :=
  ⟨_, hx, .powered (.refl s) h⟩

theorem RunsWithin.frame {l : List Part} {c : Instr} {s t : State} (h : RunsWithin l c s) (hx : exec c s = .next t) :
    Frame (Part.mask l) s t := by
  obtain ⟨u, hu, hf⟩ := h
  obtain rfl : u = t := by simpa [hu] using hx
  exact hf

/-- Every command runs within its row of `Instr.writes`: for each, the frame of its meaning. -/
theorem exec_runsWithin (c : Instr) (s : State) : RunsWithin c.writes c s := by
  cases c <;> simp only [Instr.writes]
  -- Register writes, pages and the device's mode
  case registerWrite => exact .powered rfl fun s => frame_registerAccess (hc := by decide) (hk := .refl s) ..
  case pageEventClear => exact .powered rfl fun s => frame_pageEventClear (hc := by decide) (hk := .refl s) ..
  case pageDiscard => exact .powered rfl fun s => frame_pageDiscard (hc := by decide) (hk := .refl s) ..
  case devModeWrite => exact .powered rfl fun s => frame_devModeWrite (hc := by decide) (hk := .refl s) ..
  -- Pace, core voltage and time
  case paceWindowEnd => exact .powered rfl fun s => frame_paceWindowEndCmd (hc := by decide) (hk := .refl s) ..
  case avsEvaluation => exact .powered rfl fun s => frame_avsEvaluation (hc := by decide) (hk := .refl s)
  case avsReadback => exact .powered rfl fun s => frame_avsReadback (hc := by decide) (hk := .refl s) ..
  case avsCtlWrite => exact .powered rfl fun s => frame_avsCtlWrite (hc := by decide) (hk := .refl s) ..
  case timeLoRead => exact .powered rfl fun s => frame_timeLoRead (hc := by decide) (hk := .refl s) ..
  case tbStep => exact .powered rfl fun s => frame_tbStep (hc := by decide) (hk := .refl s) ..
  -- The synthesiser, lines and their triggers
  case refclkLoss => exact .powered rfl fun s => frame_refclkLoss (hc := by decide) (hk := .refl s)
  case synthRelock => exact .powered rfl fun s => frame_synthRelock (hc := by decide) (hk := .refl s)
  case converterWord =>
    exact .powered rfl fun s => frame_correctNew (hc := by decide) (hk := frame_converterWord (hc := by decide)
      (hk := .refl s) ..) ..
  case lineTrigger => exact .powered rfl fun s => frame_lineTrigger (hc := by decide) (hk := .refl s)
  case triggerPrediction => exact .powered rfl fun s => frame_triggerPrediction (hc := by decide) (hk := .refl s)
  case encoderCount =>
    exact .next rfl (.ite (frame_encoderCount (hc := by decide) (hk := .refl s) ..) (frame_putEncoder
      (hc := by decide) (hk := .refl s) ..))
  case encoderIndex => exact .powered rfl fun s => frame_encoderIndex (hc := by decide) (hk := .refl s) ..
  case ltLineLoRead => exact .powered rfl fun s => frame_ltLineLoRead (hc := by decide) (hk := .refl s) ..
  case ltPosFracRead => exact .powered rfl fun s => frame_ltPosFracRead (hc := by decide) (hk := .refl s) ..
  case lineStart => exact .powered rfl fun s => frame_lineStart (hc := by decide) (hk := .refl s)
  case minLinePeriodEnd => exact .powered rfl fun s => frame_minLinePeriodEnd (hc := by decide) (hk := .refl s) ..
  case flushLine => exact .powered rfl fun s => frame_flushLine (hc := by decide) (hk := .refl s) ..
  case ledStrobe => exact .powered rfl fun s => frame_ledStrobe (hc := by decide) (hk := .refl s) ..
  -- The Pawn sequencers
  case pawnOut =>
    exact .powered rfl fun s => frame_pawnIssue (hf := fun s _ => frame_pawnOut (hc := by decide)
      (hk := .refl s) ..) (hc := by decide) (hk := .refl s) ..
  case pawnNop =>
    exact .powered rfl fun s => frame_pawnIssue (hf := fun s _ => .refl s) (hc := by decide) (hk := .refl s) ..
  case pawnLdc =>
    exact .powered rfl fun s => frame_pawnIssue (hf := fun s _ => frame_pawnLdc (hc := by decide)
      (hk := .refl s) ..) (hc := by decide) (hk := .refl s) ..
  case pawnDjnz =>
    exact .powered rfl fun s => frame_pawnIssue (hf := fun s _ => frame_pawnDjnz (hc := by decide)
      (hk := .refl s) ..) (hc := by decide) (hk := .refl s) ..
  case pawnJmp =>
    exact .powered rfl fun s => frame_pawnIssue (hf := fun s _ => frame_pawnJump (hc := by decide)
      (hk := .refl s) ..) (hc := by decide) (hk := .refl s) ..
  case pawnJc =>
    exact .powered rfl fun s => frame_pawnIssue (hf := fun s _ => frame_pawnJc (hc := by decide)
      (hk := .refl s) ..) (hc := by decide) (hk := .refl s) ..
  case pawnStw =>
    exact .powered rfl fun s => frame_pawnIssue (hf := fun s _ => frame_pawnStw (hc := by decide)
      (hk := .refl s) ..) (hc := by decide) (hk := .refl s) ..
  case pawnEnd =>
    exact .powered rfl fun s => frame_pawnIssue (hf := fun s _ => frame_pawnEnd (hc := by decide)
      (hk := .refl s) ..) (hc := by decide) (hk := .refl s) ..
  case pawnLineTimeout => exact .powered rfl fun s => frame_pawnLineTimeout (hc := by decide) (hk := .refl s) ..
  case pawnDataHiWrite => exact .powered rfl fun s => frame_pawnDataHiWrite (hc := by decide) (hk := .refl s) ..
  case pawnDataLoRead => exact .powered rfl fun s => frame_pawnDataLoRead (hc := by decide) (hk := .refl s) ..
  case pawnDataHiRead => exact .powered rfl fun s => frame_pawnDataHiRead (hc := by decide) (hk := .refl s) ..
  -- Line converters
  case diagEntryDone => exact .powered rfl fun s => frame_diagEntryDone (hc := by decide) (hk := .refl s) ..
  case plausCheck =>
    exact .powered rfl fun s => frame_castReact (hc := by decide) (hk := frame_plausCheck (hc := by decide)
      (hk := .refl s))
  case forceRequest => exact .powered rfl fun s => frame_forceRequest (hc := by decide) (hk := .refl s) ..
  case forceDone => exact .powered rfl fun s => frame_forceDone (hc := by decide) (hk := .refl s) ..
  case bankCalStart => exact .powered rfl fun s => frame_bankCalStart (hc := by decide) (hk := .refl s) ..
  case bankCalDone => exact .powered rfl fun s => frame_bankCalDone (hc := by decide) (hk := .refl s) ..
  -- Castling
  case castReqGo => exact .powered rfl fun s => frame_castReqGo (hc := by decide) (hk := .refl s) ..
  case castReqRelease => exact .powered rfl fun s => frame_castReqRelease (hc := by decide) (hk := .refl s) ..
  case castIntervalDue => exact .powered rfl fun s => frame_castIntervalDue (hc := by decide) (hk := .refl s) ..
  case castSelect => exact .powered rfl fun s => frame_castSelect (hc := by decide) (hk := .refl s)
  case castMatchWindowEnd => exact .powered rfl fun s => frame_castMatchWindowEnd (hc := by decide) (hk := .refl s)
  case castOfflineCalEnd => exact .powered rfl fun s => frame_castOfflineCalEnd (hc := by decide) (hk := .refl s) ..
  case trimSlotWrite => exact .powered rfl fun s => frame_trimSlotWrite (hc := by decide) (hk := .refl s) ..
  case castSwapLineLoRead => exact .powered rfl fun s => frame_castSwapLineLoRead (hc := by decide) (hk := .refl s) ..
  -- The pixel path
  case laneOutputLine => exact .powered rfl fun s => frame_laneOutputLine (hc := by decide) (hk := .refl s) ..
  case opalCapGo => exact .powered rfl fun s => frame_opalCapGo (hc := by decide) (hk := .refl s) ..
  case opalCapEnd => exact .powered rfl fun s => frame_opalCapEnd (hc := by decide) (hk := .refl s)
  case xferWindowAccess => exact .powered rfl fun s => frame_windowAccess (hc := by decide) (hk := .refl s) ..
  case xferWriteStored => exact .powered rfl fun s => frame_xferWriteStored (hc := by decide) (hk := .refl s)
  case pwWindowEnd => exact .powered rfl fun s => frame_pwWindowEnd (hc := by decide) (hk := .refl s)
  case pwReset => exact .powered rfl fun s => frame_pwReset (hc := by decide) (hk := .refl s) ..
  -- The reference feed
  case refLines => exact .powered rfl fun s => frame_refLines (hc := by decide) (hk := .refl s) ..
  case refEarlyFetch => exact .powered rfl fun s => frame_refEarlyFetch (hc := by decide) (hk := .refl s) ..
  case refArrival => exact .powered rfl fun s => frame_refArrival (hc := by decide) (hk := .refl s) ..
  case refPairRead => exact .powered rfl fun s => frame_refPairRead (hc := by decide) (hk := .refl s) ..
  -- Registration
  case regTileDecide => exact .powered rfl fun s => frame_regTileDecide (hc := by decide) (hk := .refl s) ..
  case rowDone => exact .powered rfl fun s => frame_rowDone (hc := by decide) (hk := .refl s)
  case regReacq => exact .powered rfl fun s => frame_regReacq (hc := by decide) (hk := .refl s) ..
  case regPairRead => exact .powered rfl fun s => frame_regPairRead (hc := by decide) (hk := .refl s) ..
  -- Comparison and its records
  case labelLineDone => exact .powered rfl fun s => frame_labelLineDone (hc := by decide) (hk := .refl s)
  case blobRecordStage => exact .powered rfl fun s => frame_blobRecordStage (hc := by decide) (hk := .refl s)
  case verdict => exact .powered rfl fun s => frame_verdict (hc := by decide) (hk := .refl s)
  case coverageRecordStage => exact .powered rfl fun s => frame_coverageRecordStage (hc := by decide) (hk := .refl s)
  case covBacklogResume => exact .powered rfl fun s => frame_covBacklogResume (hc := by decide) (hk := .refl s)
  case recordDelivery => exact .powered rfl fun s => frame_recordDelivery (hc := by decide) (hk := .refl s) ..
  case patchMeasured => exact .powered rfl fun s => frame_patchMeasured (hc := by decide) (hk := .refl s) ..
  case markMeasured => exact .powered rfl fun s => frame_markMeasured (hc := by decide) (hk := .refl s) ..
  case previewRecord => exact .powered rfl fun s => frame_previewRecord (hc := by decide) (hk := .refl s)
  case cropTokenRefill => exact .powered rfl fun s => frame_cropTokenRefill (hc := by decide) (hk := .refl s)
  case cropComplete => exact .powered rfl fun s => frame_cropComplete (hc := by decide) (hk := .refl s) ..
  -- Beryl ports
  case berylFsync => exact .powered rfl fun s => frame_berylFsync (hc := by decide) (hk := .refl s) ..
  case berylLsync => exact .powered rfl fun s => frame_berylLsync (hc := by decide) (hk := .refl s) ..
  case berylFrameEnd => exact .powered rfl fun s => frame_berylFrameEnd (hc := by decide) (hk := .refl s) ..
  case berylSyncTimeout => exact .powered rfl fun s => frame_berylSyncTimeout (hc := by decide) (hk := .refl s) ..
  case berylMoveTimeout => exact .powered rfl fun s => frame_berylMoveTimeout (hc := by decide) (hk := .refl s) ..
  case berylRecalCmd => exact .powered rfl fun s => frame_berylRecalCmd (hc := by decide) (hk := .refl s) ..
  case berylRecalInterval => exact .powered rfl fun s => frame_berylRecalInterval (hc := by decide) (hk := .refl s) ..
  case berylAccTake => exact .powered rfl fun s => frame_berylAccTake (hc := by decide) (hk := .refl s)
  case berylReopen => exact .powered rfl fun s => frame_berylReopen (hc := by decide) (hk := .refl s) ..
  case berylSnap => exact .powered rfl fun s => frame_berylSnap (hc := by decide) (hk := .refl s) ..
  case berylSpiGo => exact .powered rfl fun s => frame_berylSpiGo (hc := by decide) (hk := .refl s) ..
  case spiDone => exact .powered rfl fun s => frame_spiDone (hc := by decide) (hk := .refl s) ..
  case bvcDataRead => exact .powered rfl fun s => frame_bvcDataRead (hc := by decide) (hk := .refl s) ..
  case bvcFreeConvert => exact .powered rfl fun s => frame_bvcFreeConvert (hc := by decide) (hk := .refl s) ..
  -- The precision front end
  case pfeScanTimer => exact .powered rfl fun s => frame_pfeScanTimer (hc := by decide) (hk := .refl s)
  case pfeGo => exact .powered rfl fun s => frame_pfeGo (hc := by decide) (hk := .refl s) ..
  case pfeStepEnd => exact .powered rfl fun s => frame_pfeStepEnd (hc := by decide) (hk := .refl s) ..
  case pfeScanEnd => exact .powered rfl fun s => frame_pfeScanEndCmd (hc := by decide) (hk := .refl s)
  case aoUpdate => exact .powered rfl fun s => frame_aoUpdate (hc := by decide) (hk := .refl s) ..
  case aoRefLow => exact .powered rfl fun s => frame_aoRefLow (hc := by decide) (hk := .refl s) ..
  case resValueRead => exact .powered rfl fun s => frame_resValueRead (hc := by decide) (hk := .refl s) ..
  -- Motion
  case servoBoundary => exact .powered rfl fun s => frame_servoBoundaryCmd (hc := by decide) (hk := .refl s)
  case pwmPeriod => exact .powered rfl fun s => frame_pwmPeriod (hc := by decide) (hk := .refl s) ..
  case auxIdleScan => exact .powered rfl fun s => frame_auxIdleScan (hc := by decide) (hk := .refl s) ..
  case motStandby => exact .powered rfl fun s => frame_motStandby (hc := by decide) (hk := .refl s) ..
  case motTargetHiWrite => exact .powered rfl fun s => frame_motTargetHiWrite (hc := by decide) (hk := .refl s) ..
  case motCtlWrite => exact .powered rfl fun s => frame_motCtlWrite (hc := by decide) (hk := .refl s) ..
  case motStop => exact .powered rfl fun s => frame_motStop (hc := by decide) (hk := .refl s) ..
  case motResume => exact .powered rfl fun s => frame_motResume (hc := by decide) (hk := .refl s) ..
  case motHome => exact .powered rfl fun s => frame_motHome (hc := by decide) (hk := .refl s) ..
  case motClear => exact .powered rfl fun s => frame_motClear (hc := by decide) (hk := .refl s) ..
  case motZero => exact .powered rfl fun s => frame_motZero (hc := by decide) (hk := .refl s) ..
  case motAbort => exact .powered rfl fun s => frame_motAbort (hc := by decide) (hk := .refl s) ..
  case motHomeSwitch =>
    exact .next rfl (.ite (frame_motHomeSwitch (hc := by decide) (hk := .refl s) ..) (frame_onAxis (hc := by decide)
      (hk := .refl s) ..))
  case motBridgeFault =>
    exact .next rfl (.ite (frame_motBridgeFault (hc := by decide) (hk := .refl s) ..) (frame_onAxis (hc := by decide)
      (hk := .refl s) ..))
  case motServoWrite => exact .powered rfl fun s => frame_motServoWrite (hc := by decide) (hk := .refl s) ..
  case motPairRead => exact .powered rfl fun s => frame_motPairRead (hc := by decide) (hk := .refl s) ..
  -- Tenants, leases and queues
  case functionLevelReset => exact .powered rfl fun s => frame_functionLevelReset (hc := by decide) (hk := .refl s) ..
  case d3hotEntry => exact .powered rfl fun s => frame_d3hotEntry (hc := by decide) (hk := .refl s) ..
  case vfEnableChange => exact .powered rfl fun s => frame_vfEnableChange (hc := by decide) (hk := .refl s) ..
  case tenReset => exact .powered rfl fun s => frame_tenReset (hc := by decide) (hk := .refl s) ..
  case hello => exact .powered rfl fun s => frame_hello (hc := by decide) (hk := .refl s) ..
  case fwInfo => exact .powered rfl fun s => frame_fwInfoRequest (hc := by decide) (hk := .refl s) ..
  case logMark => exact .powered rfl fun s => frame_logMark (hc := by decide) (hk := .refl s) ..
  case leaseGrant => exact .powered rfl fun s => frame_leaseGrant (hc := by decide) (hk := .refl s) ..
  case leaseRevoke => exact .powered rfl fun s => frame_leaseRevoke (hc := by decide) (hk := .refl s) ..
  case leaseExpiry => exact .powered rfl fun s => frame_leaseExpiry (hc := by decide) (hk := .refl s) ..
  case leaseRenew => exact .powered rfl fun s => frame_leaseRenew (hc := by decide) (hk := .refl s) ..
  case queueEnable => exact .powered rfl fun s => frame_queueEnable (hc := by decide) (hk := .refl s) ..
  case queueDisable => exact .powered rfl fun s => frame_queueDisable (hc := by decide) (hk := .refl s) ..
  case queuePause => exact .powered rfl fun s => frame_queuePause (hc := by decide) (hk := .refl s) ..
  case queueResume => exact .powered rfl fun s => frame_queueResume (hc := by decide) (hk := .refl s) ..
  case queueReset => exact .powered rfl fun s => frame_queueReset (hc := by decide) (hk := .refl s) ..
  case queueSync => exact .powered rfl fun s => frame_queueSync (hc := by decide) (hk := .refl s) ..
  case doorbell => exact .powered rfl fun s => frame_doorbell (hc := by decide) (hk := .refl s) ..
  case descriptorFetch => exact .powered rfl fun s => frame_descriptorFetch (hc := by decide) (hk := .refl s) ..
  case dmaXfer => exact .powered rfl fun s => frame_dmaXfer (hc := by decide) (hk := .refl s) ..
  case regWrite => exact .powered rfl fun s => frame_regWrite (hc := by decide) (hk := .refl s) ..
  case indexWriteback => exact .powered rfl fun s => frame_indexWriteback (hc := by decide) (hk := .refl s) ..
  case contextLoad => exact .powered rfl fun s => frame_contextLoad (hc := by decide) (hk := .refl s) ..
  case tenCtxBaseWrite => exact .powered rfl fun s => frame_tenCtxBaseWrite (hc := by decide) (hk := .refl s) ..
  case qstatARead => exact .powered rfl fun s => frame_qstatARead (hc := by decide) (hk := .refl s) ..
  case linkChange => exact .powered rfl fun s => frame_linkChange (hc := by decide) (hk := .refl s) ..
  case linkDown => exact .powered rfl fun s => frame_linkDown (hc := by decide) (hk := .refl s) ..
  case poisonedRequest => exact .powered rfl fun s => frame_poisonedRequest (hc := by decide) (hk := .refl s) ..
  case leaseRevokeOnFault => exact .powered rfl fun s => frame_leaseRevokeOnFault (hc := by decide) (hk := .refl s) ..
  -- DMA
  case dmaBurstGrant => exact .powered rfl fun s => frame_dmaBurstGrant (hc := by decide) (hk := .refl s) ..
  case dmaReadCompletion => exact .powered rfl fun s => frame_dmaReadCompletion (hc := by decide) (hk := .refl s) ..
  case dmaBusError => exact .powered rfl fun s => frame_dmaBusError (hc := by decide) (hk := .refl s) ..
  case dmaRetry => exact .powered rfl fun s => frame_dmaRetry (hc := by decide) (hk := .refl s) ..
  case dmaTransferComplete =>
    exact .powered rfl fun s => frame_dmaTransferComplete (hc := by decide) (hk := .refl s) ..
  case dmaClear => exact .powered rfl fun s => frame_dmaClear (hc := by decide) (hk := .refl s) ..
  case dmaAbort => exact .powered rfl fun s => frame_dmaAbort (hc := by decide) (hk := .refl s) ..
  case reqClear => exact .powered rfl fun s => frame_reqClear (hc := by decide) (hk := .refl s) ..
  case dmaPaceRequest => exact .powered rfl fun s => frame_dmaPaceRequest (hc := by decide) (hk := .refl s) ..
  case dmaTimer => exact .powered rfl fun s => frame_dmaTimer (hc := by decide) (hk := .refl s) ..
  case dmaPairRead => exact .powered rfl fun s => frame_dmaPairRead (hc := by decide) (hk := .refl s) ..
  -- Interrupt controllers
  case icEvent => exact .powered rfl fun s => frame_icEventCmd (hc := by decide) (hk := .refl s) ..
  case icCoalesceTimeout => exact .powered rfl fun s => frame_icCoalesceTimeout (hc := by decide) (hk := .refl s) ..
  case msixSend => exact .powered rfl fun s => frame_msixSend (hc := by decide) (hk := .refl s) ..
  case msixVectorUsable => exact .powered rfl fun s => frame_msixVectorUsable (hc := by decide) (hk := .refl s) ..
  case icClaim => exact .powered rfl fun s => frame_icClaimRead (hc := by decide) (hk := .refl s) ..
  case icComplete => exact .powered rfl fun s => frame_icCompleteWrite (hc := by decide) (hk := .refl s) ..
  case icSet => exact .powered rfl fun s => frame_icSetWrite (hc := by decide) (hk := .refl s) ..
  case icClear => exact .powered rfl fun s => frame_icClearWrite (hc := by decide) (hk := .refl s) ..
  -- Faults, resets and power domains
  case laneResetCmd => exact .powered rfl fun s => frame_laneResetCmd (hc := by decide) (hk := .refl s) ..
  case eccUncorrectable => exact .powered rfl fun s => frame_eccUncorrectable (hc := by decide) (hk := .refl s) ..
  case eccCorr => exact .powered rfl fun s => frame_eccCorr (hc := by decide) (hk := .refl s)
  case devResetKey => exact .powered rfl fun s => frame_devResetKey (hc := by decide) (hk := .refl s) ..
  case perstNAssert => exact .powered rfl fun s => frame_perstNAssert (hc := by decide) (hk := .refl s)
  case coreSupplyFault => exact .powered rfl fun s => frame_coreSupplyFault (hc := by decide) (hk := .refl s)
  case watchdog => exact .powered rfl fun s => frame_watchdog (hc := by decide) (hk := .refl s) ..
  case domCtlWrite => exact .powered rfl fun s => frame_domCtlWrite (hc := by decide) (hk := .refl s) ..
  case domFault => exact .powered rfl fun s => frame_domFault (hc := by decide) (hk := .refl s) ..
  case domOff => exact .powered rfl fun s => frame_domOff (hc := by decide) (hk := .refl s) ..
  case drainTimeout => exact .powered rfl fun s => frame_drainTimeout (hc := by decide) (hk := .refl s) ..
  case domOn => exact .powered rfl fun s => frame_domOn (hc := by decide) (hk := .refl s) ..
  -- Heat and capacity
  case thermalModelStep => exact .powered rfl fun s => frame_thermalModelStep (hc := by decide) (hk := .refl s)
  case capacityEvaluation => exact .powered rfl fun s => frame_capacityEvaluation (hc := by decide) (hk := .refl s)
  case thinFromLoRead => exact .powered rfl fun s => frame_thinFromLoRead (hc := by decide) (hk := .refl s) ..
  -- Mailboxes and the log
  case mailboxGo => exact .powered rfl fun s => frame_mailboxGo (hc := by decide) (hk := .refl s) ..
  case h2mTaken => exact .powered rfl fun s => frame_h2mTaken (hc := by decide) (hk := .refl s) ..
  case m2hReady => exact .powered rfl fun s => frame_m2hReady (hc := by decide) (hk := .refl s) ..
  case mbxM2hAck => exact .powered rfl fun s => frame_mbxM2hAck (hc := by decide) (hk := .refl s) ..
  case mbxFenceRead => exact .powered rfl fun s => frame_mbxFenceRead (hc := by decide) (hk := .refl s) ..
  case monitorSample => exact .powered rfl fun s => frame_monitorSample (hc := by decide) (hk := .refl s) ..
  case logEntry => exact .powered rfl fun s => frame_logEntry (hc := by decide) (hk := .refl s) ..
  case logMirrorProgram => exact .powered rfl fun s => frame_logMirrorProgram (hc := by decide) (hk := .refl s) ..
  case logSelWrite => exact .powered rfl fun s => frame_logSelWrite (hc := by decide) (hk := .refl s) ..
  case logDataReady => exact .powered rfl fun s => frame_logDataReady (hc := by decide) (hk := .refl s)
  case logDataRead => exact .powered rfl fun s => frame_logDataRead (hc := by decide) (hk := .refl s) ..
  -- Firmware and its update
  case boot => exact .powered rfl fun s => frame_boot (hc := by decide) (hk := .refl s)
  case updOpen => exact .powered rfl fun s => frame_updOpen (hc := by decide) (hk := .refl s) ..
  case updVerify => exact .powered rfl fun s => frame_updVerify (hc := by decide) (hk := .refl s) ..
  case updVerifyDone => exact .powered rfl fun s => frame_updVerifyDone (hc := by decide) (hk := .refl s)
  case updActivate => exact .powered rfl fun s => frame_updActivate (hc := by decide) (hk := .refl s) ..
  case updConfirm => exact .powered rfl fun s => frame_updConfirm (hc := by decide) (hk := .refl s) ..
  case updCancel => exact .powered rfl fun s => frame_updCancel (hc := by decide) (hk := .refl s) ..
  case updDataWrite => exact .powered rfl fun s => frame_updDataWrite (hc := by decide) (hk := .refl s) ..
  case updFlashProgram => exact .powered rfl fun s => frame_updFlashProgram (hc := by decide) (hk := .refl s) ..
  -- USB
  case usbVbusChange =>
    exact .next rfl (.ite (frame_usbVbusChange (hc := by decide) (hk := .refl s) ..) (.set_usb (by decide) (.refl s)))
  case usbBusReset => exact .powered rfl fun s => frame_usbBusReset (hc := by decide) (hk := .refl s) ..
  case setAddress => exact .powered rfl fun s => frame_setAddress (hc := by decide) (hk := .refl s) ..
  case setConfiguration => exact .powered rfl fun s => frame_setConfiguration (hc := by decide) (hk := .refl s) ..
  case getDescriptor => exact .powered rfl fun s => frame_getDescriptor (hc := by decide) (hk := .refl s) ..
  case getConfiguration => exact .powered rfl fun s => frame_getConfiguration (hc := by decide) (hk := .refl s) ..
  case getStatus => exact .powered rfl fun s => frame_getStatus (hc := by decide) (hk := .refl s) ..
  case setFeature => exact .powered rfl fun s => frame_setFeature (hc := by decide) (hk := .refl s) ..
  case clearFeature => exact .powered rfl fun s => frame_clearFeature (hc := by decide) (hk := .refl s) ..
  case getInterface => exact .powered rfl fun s => frame_getInterface (hc := by decide) (hk := .refl s) ..
  case setInterface => exact .powered rfl fun s => frame_setInterface (hc := by decide) (hk := .refl s) ..
  case setDescriptor => exact .powered rfl fun s => frame_setDescriptor (hc := by decide) (hk := .refl s)
  case synchFrame => exact .powered rfl fun s => frame_synchFrame (hc := by decide) (hk := .refl s)
  case getInfo => exact .powered rfl fun s => frame_getInfo (hc := by decide) (hk := .refl s) ..
  case usbRegRead => exact .powered rfl fun s => frame_usbRegRead (hc := by decide) (hk := .refl s) ..
  case usbRegWrite => exact .powered rfl fun s => frame_usbRegWrite (hc := by decide) (hk := .refl s) ..
  case logStart => exact .powered rfl fun s => frame_logStart (hc := by decide) (hk := .refl s) ..
  case logStop => exact .powered rfl fun s => frame_logStop (hc := by decide) (hk := .refl s) ..
  case usbUpdCmd => exact .powered rfl fun s => frame_usbUpdCmd (hc := by decide) (hk := .refl s) ..
  case usbUpdStatus => exact .powered rfl fun s => frame_usbUpdStatus (hc := by decide) (hk := .refl s) ..
  case onyxFrame => exact .powered rfl fun s => frame_onyxFrame (hc := by decide) (hk := .refl s) ..
  case usbEvtMask => exact .powered rfl fun s => frame_usbEvtMask (hc := by decide) (hk := .refl s) ..
  case usbLogPacket => exact .powered rfl fun s => frame_usbLogPacket (hc := by decide) (hk := .refl s)
  case usbImagePacket => exact .powered rfl fun s => frame_usbImagePacket (hc := by decide) (hk := .refl s) ..
  case usbSuspend => exact .powered rfl fun s => frame_usbSuspend (hc := by decide) (hk := .refl s)
  case usbResume => exact .powered rfl fun s => frame_usbResume (hc := by decide) (hk := .refl s)
  case wakeSent => exact .powered rfl fun s => frame_wakeSent (hc := by decide) (hk := .refl s)
  case wakeCollided => exact .powered rfl fun s => frame_wakeCollided (hc := by decide) (hk := .refl s)
  -- The two-wire ports
  case twtWriteTransaction =>
    exact .powered rfl fun s => frame_twtWriteTransaction (hc := by decide) (hk := .refl s) ..
  case twtReadTransaction => exact .powered rfl fun s => frame_twtReadTransaction (hc := by decide) (hk := .refl s) ..
  case twtBusTimeout => exact .powered rfl fun s => frame_twtBusTimeout (hc := by decide) (hk := .refl s)
  case twtAraDone => exact .powered rfl fun s => frame_twtAraDone (hc := by decide) (hk := .refl s) ..
  case twtHostAlert => exact .powered rfl fun s => frame_twtHostAlert (hc := by decide) (hk := .refl s) ..
  case twcXferGo => exact .powered rfl fun s => frame_twcXferGo (hc := by decide) (hk := .refl s) ..
  case twcXferDone => exact .powered rfl fun s => frame_twcXferDone (hc := by decide) (hk := .refl s) ..
  case twcArbLost => exact .powered rfl fun s => frame_twcArbLost (hc := by decide) (hk := .refl s)
  case twcTimeout => exact .powered rfl fun s => frame_twcTimeout (hc := by decide) (hk := .refl s) ..
  case twcRecover => exact .powered rfl fun s => frame_twcRecover (hc := by decide) (hk := .refl s) ..
  -- Onyx
  case onyxWheelCount => exact .next rfl (frame_onyxWheelCount (hc := by decide) (hk := .refl s) ..)
  case sealPress => exact .next rfl (frame_sealPress (hc := by decide) (hk := .refl s))
  case onyxRetention => exact .next rfl (frame_onyxRetention (hc := by decide) (hk := .refl s))
  case powerGap => exact .next rfl (frame_powerGap (hc := by decide) (hk := .refl s))
  case coldStart => exact .next rfl (frame_coldStart (hc := by decide) (hk := .refl s) ..)
  case tempStart => exact .next rfl (frame_tempStart (hc := by decide) (hk := .refl s) ..)
  case tempEnd => exact .next rfl (frame_tempEnd (hc := by decide) (hk := .refl s) ..)
  case onyxIdent => exact .next rfl (frame_onyxIdent (hc := by decide) (hk := .refl s))
  case onyxReadState => exact .next rfl (frame_onyxReadState (hc := by decide) (hk := .refl s))
  case onyxReadAudit => exact .next rfl (frame_onyxReadAudit (hc := by decide) (hk := .refl s))
  case onyxJobMark => exact .next rfl (frame_onyxJobMark (hc := by decide) (hk := .refl s))
  case onyxStageParam => exact .next rfl (frame_onyxStageParam (hc := by decide) (hk := .refl s))
  case onyxStageRelease => exact .next rfl (frame_onyxStageRelease (hc := by decide) (hk := .refl s))
  case onyxClearStage => exact .next rfl (frame_onyxClearStage (hc := by decide) (hk := .refl s))
  case onyxPush => exact .next rfl (frame_onyxPush (hc := by decide) (hk := .refl s) ..)
  case viewStale => exact .powered rfl fun s => frame_viewStale (hc := by decide) (hk := .refl s)
  -- The cascade
  case ikEnum => exact .powered rfl fun s => frame_ikEnum (hc := by decide) (hk := .refl s) ..
  case ikTime => exact .powered rfl fun s => frame_ikTime (hc := by decide) (hk := .refl s) ..
  case ikPing => exact .powered rfl fun s => frame_ikPing (hc := by decide) (hk := .refl s) ..
  case ikTrigger => exact .powered rfl fun s => frame_ikTrigger (hc := by decide) (hk := .refl s) ..
  case ikState => exact .powered rfl fun s => frame_ikState (hc := by decide) (hk := .refl s) ..
  case ikRun => exact .powered rfl fun s => frame_ikRun (hc := by decide) (hk := .refl s) ..
  case ikThin => exact .powered rfl fun s => frame_ikThin (hc := by decide) (hk := .refl s) ..
  case ikCommit => exact .powered rfl fun s => frame_ikCommit (hc := by decide) (hk := .refl s) ..
  case ikJoint => exact .powered rfl fun s => frame_ikJoint (hc := by decide) (hk := .refl s) ..
  case ikDefect =>
    exact .powered rfl fun s => frame_frame (hf := fun s => frame_ikDefect (hc := by decide) (hk := .refl s) ..)
      (hc := by decide) (hk := .refl s) ..
  case ikFragment =>
    exact .powered rfl fun s => frame_frame (hf := fun s => frame_ikFragment (hc := by decide) (hk := .refl s) ..)
      (hc := by decide) (hk := .refl s) ..
  case ikBlobPart =>
    exact .powered rfl fun s => frame_frame (hf := fun s => frame_ikBlobPart (hc := by decide) (hk := .refl s) ..)
      (hc := by decide) (hk := .refl s) ..
  case ikItemPart => exact .powered rfl fun s => frame_ikItemPartFrame (hc := by decide) (hk := .refl s) ..
  case ikHalt => exact .powered rfl fun s => frame_ikHalt (hc := by decide) (hk := .refl s) ..
  case ikPortDown => exact .powered rfl fun s => frame_ikPortDown (hc := by decide) (hk := .refl s) ..
  case ikPortRetry => exact .powered rfl fun s => frame_ikPortRetry (hc := by decide) (hk := .refl s) ..
  case ikFrameCrcError => exact .powered rfl fun s => frame_ikFrameCrcError (hc := by decide) (hk := .refl s) ..
  case ikTimeSend => exact .powered rfl fun s => frame_ikTimeSend (hc := by decide) (hk := .refl s)
  case ikPingSend => exact .powered rfl fun s => frame_ikPingSend (hc := by decide) (hk := .refl s)
  case ikCommitTimeout => exact .powered rfl fun s => frame_ikCommitTimeout (hc := by decide) (hk := .refl s)
  case jointWaitExpiry => exact .powered rfl fun s => frame_jointWaitExpiry (hc := by decide) (hk := .refl s)
  case ikClear => exact .powered rfl fun s => frame_ikClear (hc := by decide) (hk := .refl s) ..
  case ikCommitLineLoRead => exact .powered rfl fun s => frame_ikCommitLineLoRead (hc := by decide) (hk := .refl s) ..
  -- Commits, grants and runs
  case commitRequest => exact .powered rfl fun s => frame_commitRequest (hc := by decide) (hk := .refl s) ..
  case commitMulti => exact .powered rfl fun s => frame_commitMulti (hc := by decide) (hk := .refl s) ..
  case commitEffect => exact .powered rfl fun s => frame_commitEffect (hc := by decide) (hk := .refl s)
  case grantWrite =>
    exact .powered rfl fun s => .ite (.refl s) (frame_grantWrite (hc := by decide) (hk := .refl s) ..)
  case groupLineLoRead => exact .powered rfl fun s => frame_groupLineLoRead (hc := by decide) (hk := .refl s) ..
  case runStart => exact .powered rfl fun s => frame_runStart (hc := by decide) (hk := .refl s)
  case runStartDelayed => exact .powered rfl fun s => frame_runStartDelayed (hc := by decide) (hk := .refl s)
  case runStop => exact .powered rfl fun s => frame_runStop (hc := by decide) (hk := .refl s)
  -- The supplies
  case powerOnReset => exact .next rfl (frame_powerOnReset (hc := by decide) (hk := .refl s) ..)
  case supplyFall => exact .next rfl (frame_supplyFall (hc := by decide) (hk := .refl s))
  -- The last rows of the table: units of the chapters above
  case arrayTemperatureRead =>
    exact .powered rfl fun s => frame_arrayTemperatureRead (hc := by decide) (hk := .refl s) ..
  case offlineStepBoundary => exact .powered rfl fun s => frame_offlineStepBoundary (hc := by decide) (hk := .refl s)
  case tenantDrainLimit => exact .powered rfl fun s => frame_tenantDrainLimit (hc := by decide) (hk := .refl s) ..
  case logIntakeDrain => exact .powered rfl fun s => frame_logIntakeDrain (hc := by decide) (hk := .refl s)
  case onyxReplyReady => exact .next rfl (frame_onyxReplyReady (hc := by decide) (hk := .refl s))
  case onyxReplyTransfer => exact .powered rfl fun s => frame_onyxReplyTransfer (hc := by decide) (hk := .refl s)
  case eventMessagePoll => exact .powered rfl fun s => frame_eventMessagePoll (hc := by decide) (hk := .refl s)
  case ikPortTrained => exact .powered rfl fun s => frame_ikPortTrained (hc := by decide) (hk := .refl s) ..

/-- No row of `Instr.writes` names the queue of commands. -/
theorem pending_notMem_writes (c : Instr) : Part.pending ∉ c.writes := by
  unfold Instr.writes
  split <;> decide

/-! ## The statements -/

/-- Settles O56: each command runs within its row (`exec_runsWithin`), and no row names the queue. -/
theorem commandFrames : Obligations.CommandFrames := by
  unfold Obligations.CommandFrames
  exact ⟨fun c s _ _ hx hp => ((exec_runsWithin c s).frame hx).same hp, pending_notMem_writes⟩

/-- Settles O53: `exec_runsWithin` gives the next state of every command. -/
theorem everyCommandCompletes : Obligations.EveryCommandCompletes := by
  unfold Obligations.EveryCommandCompletes
  intro c s
  obtain ⟨t, hx, _⟩ := exec_runsWithin c s
  exact ⟨t, hx, trivial⟩

/-- Settles O50: the branch of `step` for a queue that is not empty. -/
theorem stepRunsTheFront : Obligations.StepRunsTheFront := by
  unfold Obligations.StepRunsTheFront
  intro c l s hq
  rw [step, hq]

end Sys2Proof.Machine
end

section
/-!
Register writes (R6, R8, R9, R354, R427, R550, R552, R554, R555): the access path of a write, said once for each way it
can go, and what the fields of one word do under their access types.
-/

namespace Sys2Proof.Machine

/-! ## What is left alone -/

theorem Told.onlyChanges {s t : State} (h : Told s t) : OnlyChanges [.nt, .out] s t := by
  obtain ⟨n, o, rfl⟩ := h.elim
  intro p hp
  cases p
  case nt | out => simp at hp
  all_goals rfl

theorem OnlyChanges.refl (l : List Part) (s : State) : OnlyChanges l s s := fun p _ => by cases p <;> rfl

theorem OnlyChanges.trans {l : List Part} {a b c : State} (h : OnlyChanges l a b) (g : OnlyChanges l b c) :
    OnlyChanges l a c := fun p hp => by cases p <;> exact Eq.trans (g _ hp) (h _ hp)

theorem OnlyChanges.mono {k l : List Part} {s t : State} (hkl : k ⊆ l) (h : OnlyChanges k s t) : OnlyChanges l s t :=
  fun p hp => h p fun hk => hp (hkl hk)

/-- A field that has no shadow is written in `regs` alone. -/
theorem wr_onlyChanges_regs (s : State) {r : Row} (hr : r.access ≠ .sh) (v k i j : Nat) :
    OnlyChanges [.regs] s (s.wr r v k i j) := by
  intro p hp
  rw [State.wr, if_neg hr]
  cases p
  case regs => simp at hp
  all_goals rfl

theorem shadowWr_onlyChanges (s : State) (r : Row) (v k i j : Nat) :
    OnlyChanges [.shadow] s (s.shadowWr r v k i j) := by
  intro p hp
  cases p
  case shadow => simp at hp
  all_goals rfl

/-! ## The fields of a word -/

theorem State.shadowRd_shadowWr_ne (s : State) (r q : Row) (v k i j a b c : Nat) (h : q.key a b c ≠ r.key k i j) :
    (s.shadowWr r v k i j).shadowRd q a b c = s.shadowRd q a b c := by
  simp [State.shadowRd, State.shadowWr, regsPut, sget_sput_ne h]

/-- A field that a host cannot store is as it was (R6). -/
theorem hostField_ro {s : State} {v : Nat} {f : Row × Nat × Nat × Nat} (h : f.1.access = .ro) :
    s.hostField v f = s := by
  simp [State.hostField, h]

/-- A write of a shadowed field goes to its shadow (R555). -/
theorem hostField_sh {s : State} {v : Nat} {f : Row × Nat × Nat × Nat} (h : f.1.access = .sh) :
    s.hostField v f = s.shadowWr f.1 (f.1.stored (bitsOf v f.1.lo f.1.width)) f.2.1 f.2.2.1 f.2.2.2 := by
  simp [State.hostField, h]

/-- A word of read-only fields, or of none, is not stored (R6, R8). -/
theorem hostWord_of_ro {p o : Nat} (h : ∀ f ∈ fieldsAt p o, f.1.access = .ro) (s : State) (v : Nat) :
    s.hostWord p o v = s := by
  unfold State.hostWord
  generalize fieldsAt p o = l at h
  induction l with
  | nil => rfl
  | cons f fs ih =>
    rw [State.each_cons, hostField_ro (h f List.mem_cons_self)]
    exact ih fun g hg => h g (List.mem_cons_of_mem f hg)

/-- A word of shadowed fields changes in the shadow alone (R555). -/
theorem hostWord_onlyChanges_shadow {p o : Nat} (h : ∀ f ∈ fieldsAt p o, f.1.access = .sh) (s : State) (v : Nat) :
    OnlyChanges [.shadow] s (s.hostWord p o v) := by
  unfold State.hostWord
  generalize fieldsAt p o = l at h
  induction l generalizing s with
  | nil => exact .refl _ s
  | cons f fs ih =>
    rw [State.each_cons, hostField_sh (h f List.mem_cons_self)]
    exact .trans (shadowWr_onlyChanges _ _ _ _ _ _) (ih _ fun g hg => h g (List.mem_cons_of_mem f hg))

/-- The threshold word of a tolerance class: both of its fields go to their shadows. -/
theorem shadowRd_tolThBase_hostWord (s : State) (w : Nat) :
    (s.hostWord 0x1A1 0x100 w).shadowRd Reg.TOL_TH_BASE = w % 2 ^ 16 := by
  have hfields : fieldsAt 0x1A1 0x100 = [(Reg.TOL_TH_BASE, 0, 0, 0), (Reg.TOL_TH_SLOPE, 0, 0, 0)] := rfl
  have hkey : Reg.TOL_TH_BASE.key 0 0 0 ≠ Reg.TOL_TH_SLOPE.key 0 0 0 := by decide
  rw [State.hostWord, hfields, State.each_cons, State.each_cons, State.each_nil, hostField_sh rfl, hostField_sh rfl,
    State.shadowRd_shadowWr_ne _ _ _ _ _ _ _ _ _ _ hkey, State.shadowRd_shadowWr_self]
  simp [Row.stored, bitsOf]

/-! ## The log's intake -/

theorem State.pageSource_log (s : State) (p : Nat) : (s.pageSource p).nt.log = s.nt.log := by
  unfold State.pageSource
  refine State.each_proj (·.nt.log) _ (fun s c => ?_) (List.range 17) s
  split
  · rfl
  · split <;> rfl

theorem State.putEvents_log (s : State) (p v : Nat) : (s.putEvents p v).nt.log = s.nt.log := by
  unfold State.putEvents
  dsimp only
  split
  · rfl
  · exact State.pageSource_log _ _

theorem State.raise_log (s : State) (e : Event) (k : Nat) : (s.raise e k).nt.log = s.nt.log :=
  State.putEvents_log _ _ _

theorem State.usbMessage_log (s : State) (kind a b : Nat) : (s.usbMessage kind a b).nt.log = s.nt.log := by
  unfold State.usbMessage
  extract_lets
  split
  · rfl
  · split
    · rfl
    · rw [State.raise_log]

/-- An entry that finds room is the newest of the intake, under the next SEQ (R463). -/
theorem State.log_logged (s : State) (b : LogBody) :
    s.logged (s.log b) b.kind b.tenant b.page b.offset b.be (b.value % 2 ^ 32) (b.arg1 % 2 ^ 32) (b.arg2 % 2 ^ 16) := by
  intro hlost hroom
  have hone : 1 ≤ 256 - s.nt.log.intake.length := by omega
  have htake : s.log b = s.logTake b := by simp only [State.log, if_pos hlost, if_pos hone]
  rw [htake, State.logTake]
  split
  · simp only [State.usbMessage_log, and_self]
  · simp only [and_self]

/-- What a refused or discarded access leaves: its entry in the log, and whom it tells. -/
theorem State.log_effect (s : State) (b : LogBody) {value arg1 arg2 : Nat} (hvalue : b.value % 2 ^ 32 = value)
    (h1 : b.arg1 % 2 ^ 32 = arg1) (h2 : b.arg2 % 2 ^ 16 = arg2) :
    s.logged (s.log b) b.kind b.tenant b.page b.offset b.be value arg1 arg2 ∧ EventsKept s (s.log b) ∧
      Told s (s.log b) := by
  subst hvalue h1 h2
  exact ⟨s.log_logged b, (EventsKept.refl s).log b, told_log s b⟩

/-! ## The access path of a write -/

section
variable {s : State} {x : Outside} {agent p o v : Nat}

/-- A page that the agent does not see takes no write (R552). -/
theorem hostWrite_unseen (hsees : s.sees agent p = false) : s.hostWrite x agent p o v = s := by
  simp [State.hostWrite, hsees]

/-- A write under a read-only grant is discarded and logged (R554). -/
theorem hostWrite_readOnly (hsees : s.sees agent p = true) (hro : s.readOnly agent p = true) :
    s.hostWrite x agent p o v =
      s.log { kind := 0x02, tenant := agent, page := p, offset := o, be := 15, value := v } := by
  simp [State.hostWrite, hsees, hro]

/-- A write to a block whose domain is off is discarded and logged (R427). -/
theorem hostWrite_off (hsees : s.sees agent p = true) (hro : s.readOnly agent p = false) (ho : 0x20 ≤ o)
    (hoff : s.domain (domainOfPage p) ≠ 2) :
    s.hostWrite x agent p o v =
      s.log { kind := 0x05, tenant := agent, page := p, offset := o, be := 15, value := v } := by
  simp [State.hostWrite, hsees, hro, ho, hoff]

/-- A write that nothing turns away and no rule records reaches the registers of the block. -/
theorem hostWrite_block (hsees : s.sees agent p = true) (hro : s.readOnly agent p = false)
    (hlog : s.writeLogged agent p = false) (ho : 0x20 ≤ o) (hon : s.domain (domainOfPage p) = 2) :
    s.hostWrite x agent p o v = s.blockWrite x agent p o v := by
  have hevent : o ≠ 0x10 := by omega
  have hheader : ¬ o < 0x20 := by omega
  simp [State.hostWrite, hsees, hro, hlog, hon, hevent, hheader]

/-- The common header is written whether the page's domain is on or not (R550). -/
theorem hostWrite_header (hsees : s.sees agent p = true) (hro : s.readOnly agent p = false)
    (hlog : s.writeLogged agent p = false) (ho : o < 0x20) :
    s.hostWrite x agent p o v = s.headerWrite agent p o v := by
  have hblock : ¬ 0x20 ≤ o := by omega
  simp [State.hostWrite, hsees, hro, hlog, ho, hblock]

end

theorem exec_registerWrite {s : State} (h : s.alive = true) (agent : Agent) (p : Fin 8192) (o : Fin 4096) (width : Nat)
    (v : BitVec 64) (x : Outside) :
    exec (.registerWrite agent p o width v x) s = .next (s.writeAccess x agent p o width v.toNat) :=
  congrArg Host.Outcome.next (State.powered_alive h _)

theorem writeAccess_word {s : State} {x : Outside} {agent p o v : Nat} (ho : o % 4 = 0) :
    s.writeAccess x agent p o 4 v = s.hostWrite x agent p o (v % 2 ^ 32) := by
  simp [State.writeAccess, ho]

/-- A write of 64 bits is the write of its low word and then that of its high word (R9). -/
theorem writeAccess_pair {s : State} {x : Outside} {agent p o v : Nat} (ho : o % 4 = 0) (hnext : o + 4 < 4096) :
    s.writeAccess x agent p o 8 v =
      (s.hostWrite x agent p o (v % 2 ^ 32)).hostWrite x agent p (o + 4) (v / 2 ^ 32 % 2 ^ 32) := by
  simp [State.writeAccess, ho, hnext]

theorem writeAccess_discard {s : State} {x : Outside} {agent p o width v : Nat}
    (h : ¬((width = 4 ∨ width = 8) ∧ o % 4 = 0)) :
    s.writeAccess x agent p o width v =
      s.log { kind := 0x02, tenant := agent, page := p, offset := o, value := v, arg1 := width } := by
  have h4 : ¬(width = 4 ∧ o % 4 = 0) := fun g => h ⟨.inl g.1, g.2⟩
  have h8 : ¬(width = 8 ∧ o % 4 = 0) := fun g => h ⟨.inr g.1, g.2⟩
  simp [State.writeAccess, State.discardAccess, h4, h8]

/-- An aligned write of 32 bits, by the state that `hostWrite` gives. -/
theorem completes_word {s : State} (h : s.alive = true) {agent : Agent} {p : Fin 8192} {o : Fin 4096} {v : BitVec 64}
    {x : Outside} {P : State → Prop} (ho : o.val % 4 = 0) (hP : P (s.hostWrite x agent p o (v.toNat % 2 ^ 32))) :
    Completes (.registerWrite agent p o 4 v x) s P :=
  ⟨_, exec_registerWrite h agent p o 4 v x, by rwa [writeAccess_word ho]⟩

/-! ## Header words -/

/-- PAGE_MASK of one page, and of no other, takes the word (R551). -/
theorem rd_pageMask_wr_ne (s : State) (v : Nat) {p q : Nat} (h : q ≠ p) :
    (s.wr Reg.PAGE_MASK v p).rd Reg.PAGE_MASK q = s.rd Reg.PAGE_MASK q :=
  State.rd_wr_ne _ _ _ _ _ _ _ _ _ _ (by simp only [Row.key]; omega)

/-- What a write of PAGE_MASK adds to the new mask is that the page source may follow it. -/
theorem told_headerWrite_mask {agent p v : Nat} (hp : pageDefined p = true) (s : State) :
    Told (s.wr Reg.PAGE_MASK v p) (s.headerWrite agent p 0x14 v) := by
  simp only [State.headerWrite, hp, Bool.not_true, Bool.false_eq_true, if_false, Nat.reduceEqDiff, if_true]
  split
  · exact Told.refl _
  · exact told_pageSource _ _

/-- A write to a block register of a page that the agent may write, in a domain that is on. -/
theorem completes_block {s : State} (h : s.alive = true) {agent : Agent} {p : Fin 8192} {o : Fin 4096} {v : BitVec 64}
    {x : Outside} {P : State → Prop}
    (hpage : s.sees agent p = true ∧ s.readOnly agent p = false ∧ s.writeLogged agent p = false)
    (hon : s.domain (domainOfPage p) = 2) (ho : o.val % 4 = 0 ∧ 0x20 ≤ o.val)
    (hP : P (s.blockWrite x agent p o (v.toNat % 2 ^ 32))) : Completes (.registerWrite agent p o 4 v x) s P := by
  obtain ⟨hsees, hro, hlog⟩ := hpage
  exact completes_word h ho.1 (by rwa [hostWrite_block hsees hro hlog ho.2 hon])

/-- A write to a word of the common header of a page that the agent may write. -/
theorem completes_header {s : State} (h : s.alive = true) {agent : Agent} {p : Fin 8192} {o : Fin 4096} {v : BitVec 64}
    {x : Outside} {P : State → Prop}
    (hpage : s.sees agent p = true ∧ s.readOnly agent p = false ∧ s.writeLogged agent p = false)
    (ho : o.val % 4 = 0 ∧ o.val < 0x20) (hP : P (s.headerWrite agent p o (v.toNat % 2 ^ 32))) :
    Completes (.registerWrite agent p o 4 v x) s P := by
  obtain ⟨hsees, hro, hlog⟩ := hpage
  exact completes_word h ho.1 (by rwa [hostWrite_header hsees hro hlog ho.2])

/-- The first grant word of page 0x001 is slot 96 of tenant 1 (R553, R564). -/
theorem blockWrite_firstGrant (s : State) (x : Outside) (agent v : Nat) :
    s.blockWrite x agent 0x001 0x100 v = grantWrite 1 96 v s := by
  have hindex : Reg.GRANT_PAGE.indexAt 0x100 = some (0, 0) := rfl
  simp [State.blockWrite, State.grantPageWrite, hindex]

/-- Settles O49: the ways that `hostWrite` and `writeAccess` can go, then the words the statement names. -/
theorem registerWrites : Obligations.RegisterWrites := by
  unfold Obligations.RegisterWrites
  constructor
  · intro s agent p o v x halive
    refine ⟨fun ho hsees => ?_, fun ho hsees hro => ?_, fun ho hlo hsees hro hoff => ?_, fun width hw hdisc => ?_,
      fun o' ho' ho hi hhi => ?_⟩
    · exact completes_word halive ho (hostWrite_unseen hsees)
    · refine completes_word halive ho ?_
      rw [hostWrite_readOnly hsees hro]
      exact s.log_effect _ (Nat.mod_mod _ _) rfl rfl
    · refine completes_word halive ho ?_
      rw [hostWrite_off hsees hro hlo hoff]
      exact s.log_effect _ (Nat.mod_mod _ _) rfl rfl
    · refine ⟨_, exec_registerWrite halive agent p o width v x, ?_⟩
      rw [writeAccess_discard hdisc]
      exact s.log_effect _ rfl (Nat.mod_eq_of_lt hw) rfl
    · have ho'4 : o'.val % 4 = 0 := by omega
      refine completes_word halive ho fun halive' => completes_word halive' ho'4 ?_
      refine ⟨_, exec_registerWrite halive agent p o 8 v x, ?_⟩
      rw [writeAccess_pair ho (by omega), ho', hhi]
  · rintro s agent v x halive h0 h3 h5 h6 hpages w rfl
    refine ⟨?_, ?_, ?_, ?_, ?_, ?_, ?_, ?_, ?_, ?_, ?_, ?_, ?_, ?_, ?_⟩
    -- PAGE_MASK, two words of shadowed fields, MOT_SERVO
    · have htold := told_headerWrite_mask (agent := agent) (p := 0x1A1) (v := v.toNat % 2 ^ 32) rfl s
      refine completes_header halive (hpages 0x1A1 (by decide)) (by decide) ⟨?_, fun q _ hq => ?_, ?_⟩
      · exact (htold.rd ..).trans (by simp)
      · exact (htold.rd ..).trans (rd_pageMask_wr_ne s _ hq)
      · have hmask := wr_onlyChanges_regs s (r := Reg.PAGE_MASK) (by decide) (v.toNat % 2 ^ 32) 0x1A1 0 0
        exact .trans (.mono (by simp) hmask) (.mono (by simp) htold.onlyChanges)
    · exact completes_block halive (hpages 0x1A1 (by decide)) h3 (by decide)
        ⟨(shadowRd_tolThBase_hostWord s _).trans (by simp), hostWord_onlyChanges_shadow (by decide) s _⟩
    · exact completes_block halive (hpages 0x1A1 (by decide)) h3 (by decide)
        (hostWord_onlyChanges_shadow (by decide) s _)
    · exact completes_block halive (hpages 0x268 (by decide)) h6 (by decide) rfl
    -- words that take no write: read-only ones, PAGE_GEN of the header, a word that no row defines
    · exact completes_block halive (hpages 0x000 (by decide)) h0 (by decide) (hostWord_of_ro (by decide) s _)
    · exact completes_block halive (hpages 0x000 (by decide)) h0 (by decide) (hostWord_of_ro (by decide) s _)
    · exact completes_header halive (hpages 0x1A1 (by decide)) (by decide) rfl
    · exact completes_block halive (hpages 0x0FF (by decide)) h0 (by decide) (hostWord_of_ro (by decide) s _)
    -- words with an effect of their own
    · exact completes_block halive (hpages 0x000 (by decide)) h0 (by decide) rfl
    · exact completes_block halive (hpages 0x010 (by decide)) h0 (by decide) rfl
    · exact completes_block halive (hpages 0x029 (by decide)) h0 (by decide) rfl
    · exact completes_header halive (hpages 0x1A1 (by decide)) (by decide) rfl
    · exact completes_header halive (hpages 0x1A1 (by decide)) (by decide) rfl
    · exact completes_block halive (hpages 0x240 (by decide)) h5 (by decide) rfl
    · exact completes_block halive (hpages 0x001 (by decide)) h0 (by decide) (blockWrite_firstGrant ..)

end Sys2Proof.Machine
end

section
/-!
Onyx from outside (R18): what is legally relevant of Onyx, and that no command but Onyx's own inputs changes it. The
commands that write Onyx at all are the frames of the USB port with their answers, and the push; `commandFrames` deals
with all the others.
-/

namespace Sys2Proof.Machine

/-- What is legally relevant of Onyx: its parameters in force, lengths, odometers, event counter, audit trail, state,
cold starts and supply; everything else as it is in a new device. -/
def Onyx.legal (o : Onyx) : Onyx :=
  { params := o.params, h := o.h, u := o.u, wheel0 := o.wheel0, wheel1 := o.wheel1, event := o.event, audit := o.audit,
    head := o.head, released := o.released, overflow := o.overflow, state := o.state, coldStarts := o.coldStarts,
    power := o.power }

theorem Onyx.legal_eq_iff (o p : Onyx) :
    o.legal = p.legal ↔ o.power = p.power ∧ o.coldStarts = p.coldStarts ∧ o.params = p.params ∧ o.wheel0 = p.wheel0 ∧
      o.wheel1 = p.wheel1 ∧ o.h = p.h ∧ o.u = p.u ∧ o.state = p.state ∧ o.event = p.event ∧ o.audit = p.audit ∧
      o.head = p.head ∧ o.released = p.released ∧ o.overflow = p.overflow := by
  simp [Onyx.legal]

/-! ## Command frames and the push (R524 to R528) -/

@[simp] theorem Onyx.respond_legal (o : Onyx) (b : List Nat) (status : Nat) (payload : List Nat) :
    (o.respond b status payload).legal = o.legal := rfl

theorem Onyx.ident_legal (o : Onyx) (b : List Nat) : (o.ident b).legal = o.legal := by
  unfold Onyx.ident; split <;> rfl

theorem Onyx.readState_legal (o : Onyx) (b : List Nat) : (o.readState b).legal = o.legal := by
  unfold Onyx.readState; split <;> rfl

theorem Onyx.readAudit_legal (o : Onyx) (b : List Nat) : (o.readAudit b).legal = o.legal := by
  unfold Onyx.readAudit; dsimp only; split <;> rfl

theorem Onyx.jobMark_legal (o : Onyx) (b : List Nat) : (o.jobMark b).legal = o.legal := by
  unfold Onyx.jobMark; split <;> rfl

theorem Onyx.stageParam_legal (o : Onyx) (b : List Nat) : (o.stageParam b).legal = o.legal := by
  unfold Onyx.stageParam; dsimp only; split
  · rfl
  · split <;> rfl

theorem Onyx.stageRelease_legal (o : Onyx) (b : List Nat) : (o.stageRelease b).legal = o.legal := by
  unfold Onyx.stageRelease; split <;> rfl

theorem Onyx.clearStage_legal (o : Onyx) (b : List Nat) : (o.clearStage b).legal = o.legal := by
  unfold Onyx.clearStage; split <;> rfl

/-- A command frame leaves what its command `f` leaves. -/
theorem onyxCommand_legal {f : Onyx → List Nat → Onyx} (hf : ∀ o b, (f o b).legal = o.legal) (s : State) (op : Nat) :
    (s.onyxCommand op f).onyx.legal = s.onyx.legal := by
  unfold State.onyxCommand State.onOnyx
  split
  · dsimp only
    split
    · split
      · exact hf _ _
      · rfl
    · rfl
  · rfl

theorem onyxRun_legal (s : State) : s.onyxRun.onyx.legal = s.onyx.legal := by
  unfold State.onyxRun
  split
  · exact onyxCommand_legal Onyx.ident_legal s 1
  · exact onyxCommand_legal Onyx.readState_legal s 2
  · exact onyxCommand_legal Onyx.readAudit_legal s 3
  · exact onyxCommand_legal Onyx.jobMark_legal s 4
  · exact onyxCommand_legal Onyx.stageParam_legal s 5
  · exact onyxCommand_legal Onyx.stageRelease_legal s 6
  · exact onyxCommand_legal Onyx.clearStage_legal s 7
  · exact onyxCommand_legal (fun o b => o.respond_legal b 1 []) s _

/-- The answer to a frame: the frame is run, and the frame and its reply leave Onyx. -/
theorem onyxReplyReady_legal (s : State) : (onyxReplyReady s).onyx.legal = s.onyx.legal := by
  unfold onyxReplyReady
  split
  · rfl
  · have hrun := onyxRun_legal s
    generalize s.onyxRun = t at hrun ⊢
    dsimp only
    split
    · exact hrun
    · split
      · exact hrun
      · rw [State.usbMessage_onyx]
        exact hrun

/-- The view's pages are registers: the view takes what Onyx holds, and Onyx nothing from it (R508). -/
theorem takePush_onyx (s : State) (entries : List AuditEntry) : (s.takePush entries).onyx = s.onyx :=
  (frame_takePush (M := 0x100000000013) entries (by decide) (.refl s)).1 .onyx (by decide)

theorem onyxPush_legal (temp vddMv : Nat) (switch : Bool) (s : State) :
    (onyxPush temp vddMv switch s).onyx.legal = s.onyx.legal := by
  unfold onyxPush
  extract_lets o turn u
  split
  · rfl
  · split
    · exact (congrArg Onyx.legal (takePush_onyx u _)).trans rfl
    · rfl

/-! ## The USB port's frame (R488) -/

/-- A vendor request leaves Onyx what the request's own effect `f` leaves. -/
theorem vendor_legal {f : State → State} (hf : ∀ s, (f s).onyx.legal = s.onyx.legal) (s : State) (ok : Bool) :
    (s.vendor ok f).onyx.legal = s.onyx.legal := by
  unfold State.vendor State.usbRequest
  dsimp only
  split
  · split
    · rw [hf, State.mgmtRaise_onyx]
    · simp [State.vendorStall, State.inc]
  · rfl

/-- A frame that the port passes on: the frame before it is run, and Onyx holds the new one. -/
theorem onyxFrame_legal (b : List Nat) (s : State) : (onyxFrame b s).onyx.legal = s.onyx.legal := by
  unfold onyxFrame
  refine vendor_legal (fun t => ?_) s _
  exact onyxRun_legal t

theorem powered_legal {f : State → State} (hf : ∀ s, (f s).onyx.legal = s.onyx.legal) (s : State) :
    (s.powered f).onyx.legal = s.onyx.legal := by
  unfold State.powered
  split
  · exact hf s
  · rfl

/-! ## Every command -/

theorem legal_of_next {s t u : State} (hu : u.onyx.legal = s.onyx.legal)
    (hx : (.next u : Host.Outcome State Fault Refusal) = .next t) : t.onyx.legal = s.onyx.legal := by
  cases hx
  exact hu

/-- No command changes what is legally relevant, but those of Onyx's own wheels, seal switch, sensor and supply. -/
theorem exec_legal {c : Instr} (hc : c.drivesOnyx = false) {s t : State} (hx : exec c s = .next t) :
    t.onyx.legal = s.onyx.legal := by
  by_cases hw : Part.onyx ∈ c.writes
  case neg => exact congrArg Onyx.legal (commandFrames.1 c s t .onyx hx hw)
  case pos =>
    cases c
    -- the frames, the push and the answers
    case onyxFrame b => exact legal_of_next (powered_legal (onyxFrame_legal _) s) hx
    case onyxIdent => exact legal_of_next (onyxCommand_legal Onyx.ident_legal s 1) hx
    case onyxReadState => exact legal_of_next (onyxCommand_legal Onyx.readState_legal s 2) hx
    case onyxReadAudit => exact legal_of_next (onyxCommand_legal Onyx.readAudit_legal s 3) hx
    case onyxJobMark => exact legal_of_next (onyxCommand_legal Onyx.jobMark_legal s 4) hx
    case onyxStageParam => exact legal_of_next (onyxCommand_legal Onyx.stageParam_legal s 5) hx
    case onyxStageRelease => exact legal_of_next (onyxCommand_legal Onyx.stageRelease_legal s 6) hx
    case onyxClearStage => exact legal_of_next (onyxCommand_legal Onyx.clearStage_legal s 7) hx
    case onyxPush temp vddMv switch => exact legal_of_next (onyxPush_legal temp.toNat vddMv.toNat switch s) hx
    case onyxReplyReady => exact legal_of_next (onyxReplyReady_legal s) hx
    -- Onyx's own inputs are not commands from outside
    case onyxWheelCount | sealPress | onyxRetention | powerGap | coldStart | tempStart | tempEnd => cases hc
    -- no other row of `Instr.writes` names Onyx
    all_goals simp [Instr.writes] at hw

/-- Settles O57: every value that the statement names is one of `Onyx.legal`, or is computed from some of them. -/
theorem onyxIsolation : Obligations.OnyxIsolation := by
  unfold Obligations.OnyxIsolation
  intro c s t hc hx
  obtain ⟨hpower, hcold, hparams, hwheel0, hwheel1, hh, hu, hstate, hevent, haudit, hhead, hreleased, hoverflow⟩ :=
    (Onyx.legal_eq_iff _ _).mp (exec_legal hc hx)
  have htotal : t.onyx.total = s.onyx.total := congrArg (asr · 1) hh
  have hunmetered : t.onyx.unmetered = s.onyx.unmetered := congrArg (asr · 1) hu
  exact ⟨hparams, hh, hu, htotal, hunmetered, hwheel0, hwheel1, hevent, haudit, hhead, hreleased, hoverflow, hstate,
    hcold, hpower⟩

end Sys2Proof.Machine
end

section
/-!
The groups that stand disabled at a line start (R76, R100): the start of a plausibility line tells every group whether its
line period is one, a disabled group too.
-/

namespace Sys2Proof.Machine

/-- A start of line 0 is on its way, a plausibility line under the settings after reset. Group 0 is disabled and, as the
loss of REFCLK in a plausibility line leaves a group (`State.cutGroup`), no longer live with its `plaus` still set. -/
def disabledAfterCut : State :=
  { State.reset with lt := { start := some (0, 0) }, groups := [(0, { plaus := true })] }

theorem exec_lineStart {s : State} (h : s.alive = true) : exec .lineStart s = .next (lineStart s) :=
  congrArg Host.Outcome.next (State.powered_alive h _)

/-- `State.plausStart` clears the mark of the disabled group, which has no line period. -/
theorem lineStart_disabledAfterCut_plaus : ((lineStart disabledAfterCut).group 0).plaus = false := by decide +kernel

/-- Refutes O45: at the start of a plausibility line a disabled group without a line period and without a swap does not
stay as it was. Its `plaus`, left set by a loss of REFCLK, is cleared. -/
theorem not_lineStarts : ¬ Obligations.LineStarts := by
  unfold Obligations.LineStarts
  intro h
  have halive : disabledAfterCut.alive = true := by decide
  have hdisabled : (disabledAfterCut.atLine 0).groupOn 0 = false := by decide
  have hset : (disabledAfterCut.group 0).plaus = true := rfl
  obtain ⟨hstarts, -⟩ := h
  obtain ⟨u, hx, -, -, -, -, hkept⟩ := (hstarts disabledAfterCut halive).2 (0, 0) rfl 0 0 rfl
  obtain rfl : lineStart disabledAfterCut = u := Host.Outcome.next.inj ((exec_lineStart halive).symm.trans hx)
  have hsame := hkept 0 (by decide) hdisabled rfl rfl
  have hcleared := lineStart_disabledAfterCut_plaus
  rw [hsame, hset] at hcleared
  exact Bool.noConfusion hcleared

end Sys2Proof.Machine
end

section
/-!
The invariant of the steps (R47, R49): it holds after reset, and a command or an idle ns keeps it. What an idle ns leaves
alone is less than the statement about it says: the groups do not stay.
-/

namespace Sys2Proof.Machine

/-! ## The form of the registers and of the time base -/

/-- The invariant does not speak of the commands that wait. -/
theorem State.wf_pending (s : State) (l : List Instr) : ({ s with pending := l } : State).wf ↔ s.wf := Iff.rfl

theorem exec_wf {c : Instr} {s t : State} (h : s.wf) (hx : exec c s = .next t) : t.wf :=
  ((exec_runsWithin c s).frame hx).2 h

theorem idle_wf {s : State} (h : s.wf) : s.idle.wf := (frame_idle (M := 0x144000011127) (by decide) (.refl s)).2 h

theorem step_of_pending_nil {s : State} (hq : s.pending = []) : step s = .next s.idle := by rw [step, hq]

/-- Settles O54: the frame of every command (`exec_runsWithin`) and that of an idle ns carry the invariant. -/
theorem everyStepKeepsTheForm : Obligations.EveryStepKeepsTheForm := by
  unfold Obligations.EveryStepKeepsTheForm
  intro s t hwf hstep
  cases hq : s.pending with
  | nil =>
    obtain rfl : s.idle = t := Host.Outcome.next.inj ((step_of_pending_nil hq).symm.trans hstep)
    exact idle_wf hwf
  | cons c l =>
    rw [stepRunsTheFront c l s hq] at hstep
    exact exec_wf ((s.wf_pending l).mpr hwf) hstep

/-- After reset no register is stored, and the time base stands at 0. -/
theorem reset_wf : State.reset.wf := by
  unfold State.wf TimeBase.wf
  decide

/-- After reset Onyx holds no audit entry, no staged release and no frame. -/
theorem reset_onyx_wf : State.reset.onyx.wf := by
  unfold Onyx.wf
  decide

/-- Settles O52. -/
theorem resetIsWellFormed : Obligations.ResetIsWellFormed := by
  unfold Obligations.ResetIsWellFormed
  exact ⟨reset_wf, reset_onyx_wf, rfl⟩

/-! ## A group in its line period -/

/-- Group 0 is in a line period that began at time 0 under the fallback pattern, at 0.32 edge steps per ns. Pawn has come
to its END; at 3 ns the outputs have been evaluated for the one step that has begun. -/
def inLinePeriod : State := { State.reset with tb := { ns := 3 }, groups := [(0, { live := true, step := 1 })] }

/-- The second edge step has begun at 4 ns. -/
theorem idle_inLinePeriod_step : (inLinePeriod.idle.group 0).step = 2 := by decide +kernel

/-- Refutes O51: an idle ns evaluates the outputs of a group in its line period up to the new time (`State.keepUp`, R60,
R70), so the groups, which the statement does not list, do not stay as they were. -/
theorem not_emptyQueueIdles : ¬ Obligations.EmptyQueueIdles := by
  unfold Obligations.EmptyQueueIdles
  intro h
  obtain ⟨t, hstep, -, -, honly, -⟩ := h inLinePeriod rfl
  obtain rfl : inLinePeriod.idle = t := Host.Outcome.next.inj ((step_of_pending_nil rfl).symm.trans hstep)
  have hgroups : inLinePeriod.idle.groups = inLinePeriod.groups := honly .groups (by decide)
  have hsame : (inLinePeriod.idle.group 0).step = (inLinePeriod.group 0).step := by
    rw [State.group, hgroups, State.group]
  rw [idle_inLinePeriod_step] at hsame
  exact absurd hsame (by decide)

end Sys2Proof.Machine
end

section
/-!
Where the statements about time (R50), line triggers (R81) and converter words (R94, R133) say that more stays as it was
than the commands leave: a state for each, and what the command makes of it.
-/

namespace Sys2Proof.Machine

/-- A command has one outcome: what holds of the state in which it completes holds of the state that `exec` answers. -/
theorem Completes.of_next {c : Instr} {s t : State} {P : State → Prop} (h : Completes c s P) (hx : exec c s = .next t) :
    P t := by
  obtain ⟨u, hu, hP⟩ := h
  obtain rfl : u = t := Host.Outcome.next.inj (hu.symm.trans hx)
  exact hP

/-! ## TB_STEP (R50) -/

theorem exec_tbStep {s : State} (h : s.alive = true) (a : Agent) (hi : Word) :
    exec (.tbStep a hi) s = .next (tbStep a hi.toNat s) := congrArg Host.Outcome.next (State.powered_alive h _)

/-- A step of 2^32 ns moves the begin of the line period along with the counter (`State.setTime`). -/
theorem tbStep_inLinePeriod_startNs : ((tbStep 0 1 inLinePeriod).group 0).startNs = 2 ^ 32 := by decide +kernel

/-- Refutes O1: a TB_STEP that is applied while a group is in its line period changes more than the counter, events and
outputs. The line period goes on, and its begin is kept in the new time. -/
theorem not_timeAndPairs : ¬ Obligations.TimeAndPairs := by
  unfold Obligations.TimeAndPairs
  rintro ⟨-, hstep⟩
  have halive : inLinePeriod.alive = true := by decide
  have hnoRun : inLinePeriod.running = false := by decide
  have happlied := (hstep inLinePeriod 0 1 halive _ rfl).1 (by decide) (.inr hnoRun)
  obtain ⟨htold, -⟩ := happlied.of_next (exec_tbStep halive 0 1)
  have hgroups : (tbStep 0 1 inLinePeriod).groups = inLinePeriod.groups := htold.groups.trans (State.wr_groups ..)
  have hsame : ((tbStep 0 1 inLinePeriod).group 0).startNs = (inLinePeriod.group 0).startNs := by
    rw [State.group, hgroups, State.group]
  rw [tbStep_inLinePeriod_startNs] at hsame
  exact absurd hsame (by decide)

/-! ## LINE_TRIGGER with an axis source (R81) -/

/-- A run is active. The line trigger follows axis 0, whose set-point moves by one count in this servo period, from the
boundary of line 0 on; no boundary is owed yet. -/
def axisAtBoundary : State :=
  { State.reset.wr Reg.TB_STATUS_RUN_ACTIVE 1 with lt := { src := 4, seg := some (0, 1000, 0, 2 ^ 32) } }

theorem exec_lineTrigger {s : State} (h : s.alive = true) : exec .lineTrigger s = .next (lineTrigger s) :=
  congrArg Host.Outcome.next (State.powered_alive h _)

/-- Line 0 is assigned. -/
theorem lineTrigger_axisAtBoundary_line : (lineTrigger axisAtBoundary).lt.line = 1 := by decide +kernel

/-- Refutes O44: with no boundary owed, LINE_TRIGGER does not always leave the state as it was. A boundary that an axis
source crosses within its servo period is found by LINE_TRIGGER itself (`State.axisTrigger`). -/
theorem not_lineTriggers : ¬ Obligations.LineTriggers := by
  unfold Obligations.LineTriggers
  rintro ⟨-, -, htrigger, -⟩
  have halive : axisAtBoundary.alive = true := by decide
  have hsame : lineTrigger axisAtBoundary = axisAtBoundary :=
    ((htrigger axisAtBoundary halive).1 rfl).of_next (exec_lineTrigger halive)
  have hline := lineTrigger_axisAtBoundary_line
  rw [hsame] at hline
  exact absurd hline (by decide)

/-! ## CONVERTER_WORD without a strobe (R94, R133) -/

/-- Group 0 reads line 0 out, with its outputs LOW and no strobe yet; channel 0's read-out holds one word, which has not
been through stages 1 to 4. The statement speaks of every state, of this one too. -/
def wordUncorrected : State :=
  { State.reset with groups := [(0, { live := true, reads := some (0, 0) })], readouts := [(0, { words := [0] })] }

theorem exec_converterWord {s : State} (h : s.alive = true) (c : Fin 97) (red green blue : Sample) :
    exec (.converterWord c red green blue) s =
      .next ((converterWord c ⟨red.held, green.held, blue.held⟩ ⟨red.level, green.level, blue.level⟩ s).correctNew c) :=
  congrArg Host.Outcome.next (State.powered_alive h _)

/-- The lane corrects the word, though no new one has come. -/
theorem converterWord_wordUncorrected_lin :
    (((converterWord 0 {} {} wordUncorrected).correctNew 0).readout 0 0).lin.length = 1 := by decide +kernel

/-- Refutes O5: without a strobe CONVERTER_WORD brings no word, but it still corrects one that the channel's read-out
holds uncorrected (`State.correctNew`), and so does not always leave the state as it was. -/
theorem not_lineConverters : ¬ Obligations.LineConverters := by
  unfold Obligations.LineConverters
  rintro ⟨⟨-, -, hnoStrobe, -⟩, -⟩
  have halive : wordUncorrected.alive = true := by decide
  have hsame : (converterWord 0 {} {} wordUncorrected).correctNew 0 = wordUncorrected :=
    (hnoStrobe wordUncorrected 0 {} {} 0 halive rfl rfl rfl).of_next (exec_converterWord halive 0 {} {} {})
  have hlin := converterWord_wordUncorrected_lin
  rw [hsame] at hlin
  exact absurd hlin (by decide)

end Sys2Proof.Machine
end

section
/-!
The Pawn sequencers (R58 to R65): what the evaluation of a group's outputs leaves alone, the issue of an instruction
said once for all opcodes, and the control instructions as what they do to the group that has issued them.
-/

namespace Sys2Proof.Machine

/-! ## What the evaluation of the outputs leaves alone -/

/-- The group without what `State.advance` brings up to a step: the levels, the strobes and the watch of CLAMP. -/
def Group.program (x : Group) : Group :=
  { x with step := 0, ph := [], smp := false, clamp := false, strobes := 0, lastStrobe := none, trains := [],
           clamped := false, clampRise := none, clampFresh := false }

/-- What the program reads and writes is as it was once the outputs have been evaluated (R60). -/
theorem Group.holdTo_program (x : Group) (pixels : Nat) (w : Nat → Nat × Nat) (b : Nat) :
    (x.holdTo pixels w b).1.program = x.program := by
  unfold Group.holdTo
  extract_lets a plain
  split
  · rfl
  · split
    · rfl
    · extract_lets f run
      split
      · rfl
      · split
        · rfl
        · split <;> rfl

@[simp] theorem Group.program_cfg (x : Group) : x.program.cfg = x.cfg := rfl
@[simp] theorem Group.program_runs (x : Group) : x.program.runs = x.runs := rfl
@[simp] theorem Group.program_pc (x : Group) : x.program.pc = x.pc := rfl
@[simp] theorem Group.program_ir (x : Group) : x.program.ir = x.ir := rfl
@[simp] theorem Group.program_controls (x : Group) : x.program.controls = x.controls := rfl
@[simp] theorem Group.program_counters (x : Group) : x.program.counters = x.counters := rfl
@[simp] theorem Group.program_period (x : Group) : x.program.period = x.period := rfl

theorem pawnCondition_program (x : Group) (w : Nat) : pawnCondition x.program w = pawnCondition x w := rfl

@[simp] theorem State.group_putGroup (s : State) (g : Nat) (x : Group) : (s.putGroup g x).group g = x := by
  simp [State.group, State.putGroup, tget]

@[simp] theorem State.group_wr (s : State) (r : Row) (v k i j g : Nat) : (s.wr r v k i j).group g = s.group g := by
  simp [State.group]

/-- Pawn has stopped in a program that has become invalid (R71). -/
theorem State.invalidate_runs (s : State) (g c n : Nat) : ((s.invalidate g c n).group g).runs = false := by
  have hmark (s : State) (y code : Nat) : (s.mark y g code).groups = s.groups := by
    unfold State.mark
    extract_lets
    split <;> rfl
  have hdiscard (s : State) (y : Nat) : (s.discardReadouts y g).groups = s.groups :=
    State.each_proj (·.groups) (fun s i => s.putReadout y (8 * g + i) { s.readout y (8 * g + i) with discarded := true })
      (fun _ _ => rfl) _ s
  unfold State.invalidate
  extract_lets _ _ _ _ s'
  have hruns : (s'.group g).runs = false := by simp [s']
  split
  · split
    · exact hruns
    · rwa [State.group, hmark, hdiscard]
  · exact hruns

/-- A group that still runs once its outputs have been evaluated: its program stands as it did, and nothing but the group
has changed. -/
theorem State.advance_of_runs {s : State} {g b : Nat} (h : ((s.advance g b).group g).runs = true) :
    ((s.advance g b).group g).program = (s.group g).program ∧
      s.advance g b = { s with groups := (s.advance g b).groups } := by
  revert h
  unfold State.advance
  extract_lets _ _ s'
  have hput : (s'.group g).program = (s.group g).program ∧ s' = { s with groups := s'.groups } :=
    ⟨by rw [State.group_putGroup]; exact Group.holdTo_program .., rfl⟩
  split
  · exact fun _ => ⟨rfl, rfl⟩
  · split
    · split
      · exact fun _ => hput
      · intro h
        rw [State.invalidate_runs] at h
        cases h
    · exact fun _ => hput

/-! ## The fetch (R65) -/

/-- Which instruction stands at an address depends on FALLBACK, the active bank, program memory and the settings of the
line whose period the group is in. -/
theorem State.pawnFetch_congr {s t : State} {g : Nat} (hforce : t.force = s.force) (hepochs : t.epochs = s.epochs)
    (hpawn : t.pawn = s.pawn) (hfallback : t.fallback g = s.fallback g)
    (hbank : t.rd Reg.PAWN_STATUS_BANK g = s.rd Reg.PAWN_STATUS_BANK g) (hcfg : (t.group g).cfg = (s.group g).cfg)
    (a : Nat) : t.pawnFetch g a = s.pawnFetch g a := by
  have hpixels : (t.groupCfg g).rd Reg.SG_GEOM_PIXELS g = (s.groupCfg g).rd Reg.SG_GEOM_PIXELS g := by
    simp [State.rd, State.store, State.groupCfg, State.atLine, State.forceAt, hforce, hepochs, hcfg]
  rw [State.pawnFetch, State.pawnFetch, State.pawnWord, State.pawnWord, hfallback, hpixels, hpawn, hbank]

theorem State.pawnFetch_putCounters (s : State) (g : Nat) (cs : List Nat) (a : Nat) :
    (s.putGroup g { s.group g with counters := cs }).pawnFetch g a = s.pawnFetch g a :=
  State.pawnFetch_congr (s := s) (t := s.putGroup g { s.group g with counters := cs }) rfl rfl rfl rfl rfl
    (by rw [State.group_putGroup]) a

theorem State.bank_wr_pc (s : State) (v g : Nat) :
    (s.wr Reg.PAWN_STATUS_PC v g).rd Reg.PAWN_STATUS_BANK g = s.rd Reg.PAWN_STATUS_BANK g :=
  State.rd_wr_ne s Reg.PAWN_STATUS_PC Reg.PAWN_STATUS_BANK _ _ _ _ _ _ _ (by simp [Row.key])

theorem State.fallback_wr_pc (s : State) (v g : Nat) : (s.wr Reg.PAWN_STATUS_PC v g).fallback g = s.fallback g :=
  congrArg (· != 0)
    (State.rd_wr_ne s Reg.PAWN_STATUS_PC Reg.PAWN_STATUS_FALLBACK _ _ _ _ _ _ _ (by simp [Row.key]))

/-- PAWN_STATUS.PC is no part of what is fetched. -/
theorem State.pawnFetch_wr_pc (s : State) (v g a : Nat) :
    (s.wr Reg.PAWN_STATUS_PC v g).pawnFetch g a = s.pawnFetch g a :=
  State.pawnFetch_congr (s := s) (t := s.wr Reg.PAWN_STATUS_PC v g) rfl (by simp) (by simp) (s.fallback_wr_pc v g)
    (s.bank_wr_pc v g) (by simp) a

theorem State.pawnFetch_advance {s : State} {g b : Nat} (h : ((s.advance g b).group g).runs = true) (a : Nat) :
    (s.advance g b).pawnFetch g a = s.pawnFetch g a := by
  obtain ⟨hprogram, hrest⟩ := State.advance_of_runs h
  have hcfg : ((s.advance g b).group g).cfg = (s.group g).cfg := by simpa using congrArg Group.cfg hprogram
  refine State.pawnFetch_congr ?_ ?_ ?_ ?_ ?_ hcfg a <;> rw [hrest] <;> rfl

/-! ## The issue of an instruction (R63, R64) -/

/-- Group `g` has issued an instruction of opcode `op`, whose effect is still to come: its outputs are evaluated up to its
period, and it stands at the next address with the instruction there fetched. -/
def State.issued (s : State) (g op : Nat) : State :=
  let x := s.group g
  let t := (s.advance g (64 * x.period)).wr Reg.PAWN_STATUS_PC x.pc g
  let a := (x.pc + 1) % 1024
  t.putGroup g { t.group g with pc := a, ir := t.pawnFetch g a, controls := if op = 1 then 0 else x.controls + 1 }

/-- An instruction that issues has its effect in the state `issued`. -/
theorem State.Issues.pawnIssue {s : State} {g op : Nat} (h : s.Issues g op) (f : State → Nat → State) :
    s.pawnIssue g op f = f (s.issued g op) (s.group g).ir := by
  obtain ⟨-, hlive, hruns, hop, hdefined, hcontrols, hgoesOn⟩ := h
  by_cases htimed : op = 1 <;> simp_all [State.pawnIssue, State.issued]

theorem State.Issues.completes {s : State} {g op : Nat} {c : Instr} {f : State → Nat → State} {P : State → Prop}
    (h : s.Issues g op) (hx : exec c s = .next (s.powered fun s => s.pawnIssue g op f))
    (hP : P (f (s.issued g op) (s.group g).ir)) : Completes c s P :=
  ⟨_, by rw [hx, State.powered_alive h.1, h.pawnIssue], hP⟩

section
variable {s : State} {g op : Nat} (h : s.Issues g op)
include h

/-- When an instruction issues, the group moves to the next address and counts the instruction (R64, R65). -/
theorem State.Issues.program_issued : ((s.issued g op).group g).program =
    { (s.group g).program with pc := ((s.group g).pc + 1) % 1024, ir := s.pawnFetch g (((s.group g).pc + 1) % 1024),
                               controls := if op = 1 then 0 else (s.group g).controls + 1 } := by
  obtain ⟨-, -, -, -, -, -, hruns⟩ := h
  obtain ⟨hprogram, -⟩ := State.advance_of_runs hruns
  rw [State.issued, State.group_putGroup, State.pawnFetch_wr_pc, State.pawnFetch_advance hruns, State.group_wr,
    ← hprogram]
  rfl

/-- Beside the group, PAWN_STATUS.PC alone moves. -/
theorem State.Issues.issued_eq :
    s.issued g op = { s.wr Reg.PAWN_STATUS_PC (s.group g).pc g with groups := (s.issued g op).groups } := by
  obtain ⟨-, -, -, -, -, -, hruns⟩ := h
  obtain ⟨-, hrest⟩ := State.advance_of_runs hruns
  generalize hG : (s.issued g op).groups = G
  rw [← hG, State.issued, hrest]
  rfl

theorem State.Issues.pawn_issued : (s.issued g op).pawn = s.pawn := by
  rw [h.issued_eq]
  exact State.wr_pawn ..

theorem State.Issues.bank_issued : (s.issued g op).rd Reg.PAWN_STATUS_BANK g = s.rd Reg.PAWN_STATUS_BANK g := by
  rw [h.issued_eq]
  exact s.bank_wr_pc _ g

theorem State.Issues.pawnFetch_issued (a : Nat) : (s.issued g op).pawnFetch g a = s.pawnFetch g a := by
  have hcfg : ((s.issued g op).group g).cfg = (s.group g).cfg := by simpa using congrArg Group.cfg h.program_issued
  refine State.pawnFetch_congr ?_ ?_ h.pawn_issued ?_ h.bank_issued hcfg a
  · rw [h.issued_eq]
    rfl
  · rw [h.issued_eq]
    exact State.wr_epochs ..
  · rw [h.issued_eq]
    exact s.fallback_wr_pc _ g

end

theorem State.rd_pc_issued (s : State) (g op : Nat) :
    (s.issued g op).rd Reg.PAWN_STATUS_PC g = (s.group g).pc % 2 ^ 10 :=
  State.rd_wr_self ..

/-! ## The control instructions (R63, R65) -/

/-- Group `g` of `t` goes on at address `a`, one control instruction after `s`, with the counters `cs`. -/
def State.Continues (s t : State) (g a : Nat) (cs : List Nat) : Prop :=
  (t.group g).program = { (s.group g).program with pc := a, ir := s.pawnFetch g a, counters := cs,
                                                   controls := (s.group g).controls + 1 } ∧
    t.rd Reg.PAWN_STATUS_PC g = (s.group g).pc % 2 ^ 10

theorem State.Continues.counters {s t : State} {g a : Nat} {cs : List Nat} (h : s.Continues t g a cs) :
    (t.group g).counters = cs := by simpa using congrArg Group.counters h.1

theorem State.Continues.controls {s t : State} {g a : Nat} {cs : List Nat} (h : s.Continues t g a cs) :
    (t.group g).controls = (s.group g).controls + 1 := by simpa using congrArg Group.controls h.1

theorem State.Continues.period {s t : State} {g a : Nat} {cs : List Nat} (h : s.Continues t g a cs) :
    (t.group g).period = (s.group g).period := by simpa using congrArg Group.period h.1

theorem State.Continues.goesTo {s t : State} {g a : Nat} {cs : List Nat} (h : s.Continues t g a cs)
    (hruns : (s.group g).runs = true) : s.GoesTo t g a :=
  ⟨by simpa [hruns] using congrArg Group.runs h.1, by simpa using congrArg Group.pc h.1,
    by simpa using congrArg Group.ir h.1, h.2⟩

/-- The counters change where the group stands. -/
theorem State.Continues.putCounters {s t : State} {g a : Nat} {cs : List Nat} (h : s.Continues t g a cs)
    (ds : List Nat) : s.Continues (t.putGroup g { t.group g with counters := ds }) g a ds := by
  refine ⟨?_, h.2⟩
  rw [State.group_putGroup]
  exact congrArg (fun x : Group => { x with counters := ds }) h.1

/-- A taken branch (R65). -/
theorem State.Continues.pawnJump {s t : State} {g a : Nat} {cs : List Nat} (h : s.Continues t g a cs) {b : Nat}
    (hfetch : t.pawnFetch g b = s.pawnFetch g b) : s.Continues (t.pawnJump g b) g b cs := by
  refine ⟨?_, h.2⟩
  rw [State.pawnJump, State.group_putGroup, hfetch]
  exact congrArg (fun x : Group => { x with pc := b, ir := s.pawnFetch g b }) h.1

theorem State.Issues.runs {s : State} {g op : Nat} (h : s.Issues g op) : (s.group g).runs = true := by
  obtain ⟨-, -, hruns, -⟩ := h
  exact hruns

/-- A control instruction that has issued stands at the next address. -/
theorem State.Issues.continues {s : State} {g op : Nat} (h : s.Issues g op) (hop : op ≠ 1) :
    s.Continues (s.issued g op) g (((s.group g).pc + 1) % 1024) (s.group g).counters := by
  refine ⟨?_, s.rd_pc_issued g op⟩
  rw [h.program_issued, if_neg hop]
  rfl

theorem State.Issues.group_counters {s : State} {g op : Nat} (h : s.Issues g op) :
    ((s.issued g op).group g).counters = (s.group g).counters := by
  simpa using congrArg Group.counters h.program_issued

/-- The condition of a JC, as the table of R63 gives it. -/
theorem pawnCondition_iff (x : Group) (w : Nat) : pawnCondition x w = true ↔
    (bitsOf w 24 4 = 0 ∧ x.priming = true) ∨ (bitsOf w 24 4 = 1 ∧ x.flush = true) ∨
      (bitsOf w 24 4 = 2 ∧ bitsOf w 16 7 < 48 ∧ x.number.testBit (bitsOf w 16 7) = true) ∨
      (bitsOf w 24 4 = 3 ∧ x.counters.getD (bitsOf w 16 7 % 4) 0 = 0) := by
  unfold pawnCondition
  split <;> simp_all [Group.counter]

/-- Nothing that a JC tests moves when it issues. -/
theorem State.Issues.pawnCondition_issued {s : State} {g op : Nat} (h : s.Issues g op) (w : Nat) :
    pawnCondition ((s.issued g op).group g) w = pawnCondition (s.group g) w := by
  rw [← pawnCondition_program, h.program_issued]
  rfl

/-- STW writes one word of the active bank, and no other (R63). -/
theorem pawnStw_pawn (g : Nat) (s : State) (w : Nat) : (pawnStw g s w).pawn =
    sput s.pawn (pawnKey g (s.rd Reg.PAWN_STATUS_BANK g) (w % 1024))
      (if w.testBit 10
        then s.pawnWord g (s.rd Reg.PAWN_STATUS_BANK g) (w % 1024) % 2 ^ 32 + 2 ^ 32 * bitsOf w 16 32
        else s.pawnWord g (s.rd Reg.PAWN_STATUS_BANK g) (w % 1024) / 2 ^ 32 * 2 ^ 32 + bitsOf w 16 32) := by
  rw [pawnStw, Nat.shiftLeft_eq, Nat.mul_comm (bitsOf w 16 32)]
  rfl

/-- Settles O3: each instruction is followed from the state in which it has issued. -/
theorem pawnControl : Obligations.PawnControl := by
  unfold Obligations.PawnControl
  refine ⟨fun s g h => ?nop, fun s g h w hw => ?ldc, fun s g h w hw v hv => ?djnz, fun s g h => ?jmp,
    fun s g h w hw arg harg x hx => ?jc, fun s g h w hw bank hbank old hold => ?stw⟩
  case nop =>
    have hnext := h.continues (by decide)
    exact h.completes rfl ⟨hnext.goesTo h.runs, hnext.controls, hnext.counters, hnext.period, h.pawn_issued⟩
  case ldc =>
    subst hw
    have hnext := (h.continues (by decide)).putCounters
      ((s.group g).counters.set (bitsOf (s.group g).ir 16 2) ((s.group g).ir % 2 ^ 16))
    refine h.completes (f := pawnLdc g) rfl ?_
    rw [pawnLdc, h.group_counters]
    exact ⟨hnext.goesTo h.runs, hnext.counters, hnext.period, h.pawn_issued⟩
  case djnz =>
    subst hw
    have hnext := (h.continues (by decide)).putCounters ((s.group g).counters.set (bitsOf (s.group g).ir 16 2) v)
    refine h.completes (f := pawnDjnz g) rfl ?_
    rw [pawnDjnz, Group.counter, h.group_counters, ← hv]
    split
    · exact ⟨hnext.goesTo h.runs, hnext.counters, hnext.period, h.pawn_issued⟩
    · have hjump := hnext.pawnJump (b := (s.group g).ir % 1024)
        (by rw [State.pawnFetch_putCounters, h.pawnFetch_issued])
      exact ⟨hjump.goesTo h.runs, hjump.counters, hjump.period, h.pawn_issued⟩
  case jmp =>
    have hjump := (h.continues (by decide)).pawnJump (h.pawnFetch_issued ((s.group g).ir % 1024))
    exact h.completes rfl ⟨hjump.goesTo h.runs, hjump.counters, hjump.period, h.pawn_issued⟩
  case jc =>
    subst hw harg hx
    have hnext := h.continues (by decide)
    refine h.completes (f := pawnJc g) rfl ?_
    rw [pawnJc, h.pawnCondition_issued]
    simp only [← pawnCondition_iff]
    split
    · have hjump := hnext.pawnJump (h.pawnFetch_issued ((s.group g).ir % 1024))
      exact ⟨hjump.goesTo h.runs, hjump.counters, hjump.period, h.pawn_issued⟩
    · exact ⟨hnext.goesTo h.runs, hnext.counters, hnext.period, h.pawn_issued⟩
  case stw =>
    subst hw hbank hold
    have hnext : s.Continues (pawnStw g (s.issued g 6) (s.group g).ir) g (((s.group g).pc + 1) % 1024)
        (s.group g).counters := h.continues (by decide)
    have hpawn := pawnStw_pawn g (s.issued g 6) (s.group g).ir
    rw [State.pawnWord, h.bank_issued, h.pawn_issued] at hpawn
    refine h.completes (f := pawnStw g) rfl ⟨hnext.goesTo h.runs, ?_, fun k hk => ?_, hnext.counters, hnext.period⟩
    · rw [State.pawnWord, hpawn, sget_sput_self]
      rfl
    · rw [hpawn, sget_sput_ne hk]

end Sys2Proof.Machine
end

section
/-!
Where the statement about Pawn's OUT (R59, R60) says that one evaluation up to the edge step counts the strobes that
the instruction counts in two: up to its period, at its issue, and from there on.
-/

namespace Sys2Proof.Machine

/-- Group 0 is in its first pixel period under the fallback pattern: SMP waves, and rises at steps 48 and 112. An OUT that
changes no output, at edge step 50, is to issue in the next period. The program has already become invalid, with more
strobes than pixels, and yet Pawn runs. No command leaves a group so: `State.invalidate` stops Pawn, and
`State.pawnRestart` runs a program that counts as valid. But the statement speaks of every state, of this one too. -/
def runsThoughInvalid : State :=
  { State.reset with groups := [(0, { live := true, runs := true, invalid := true, ir := 1 <<< 60 + 50 <<< 24, period := 1,
                                      strobes := 2000, modes := [0, 0, 0, 0, 0, 0, 0, 0, 2, 0] })] }

theorem runsThoughInvalid_issues : runsThoughInvalid.Issues 0 1 := by
  unfold State.Issues
  decide +kernel

theorem exec_pawnOut {s : State} (h : s.alive = true) (g : Fin 12) :
    exec (.pawnOut g) s = .next (s.pawnIssue g 1 (pawnOut g)) := congrArg Host.Outcome.next (State.powered_alive h _)

/-- One evaluation up to the edge step of the OUT ends at the strobe at step 48, which makes the program invalid. -/
theorem advance_runsThoughInvalid_strobes : ((runsThoughInvalid.advance 0 114).group 0).strobes = 2001 := by
  decide +kernel

/-- OUT counts that strobe as it issues, and the one at step 112 on the way to its edge step. -/
theorem pawnOut_runsThoughInvalid_strobes :
    ((runsThoughInvalid.pawnIssue 0 1 (pawnOut 0)).group 0).strobes = 2002 := by decide +kernel

/-- Refutes O4: where Pawn runs in a program that is invalid already, each evaluation of the outputs ends at the first
strobe that it finds bad (`State.advance`), so the two of an OUT count more strobes than one. -/
theorem not_pawnHostAndTime : ¬ Obligations.PawnHostAndTime := by
  unfold Obligations.PawnHostAndTime
  rintro ⟨⟨hout, -⟩, -⟩
  have halive : runsThoughInvalid.alive = true := by decide
  have hruns : ((runsThoughInvalid.advance 0 114).group 0).runs = true := by decide +kernel
  have hsmp : ((runsThoughInvalid.advance 0 114).group 0).smp = true := by decide +kernel
  obtain ⟨-, -, -, -, hstrobes, -⟩ :=
    (hout runsThoughInvalid 0 runsThoughInvalid_issues _ rfl 114 (by decide +kernel) hruns hsmp).of_next
      (exec_pawnOut halive 0)
  have hsame : ((runsThoughInvalid.pawnIssue 0 1 (pawnOut 0)).group 0).strobes =
      ((runsThoughInvalid.advance 0 114).group 0).strobes := hstrobes
  rw [pawnOut_runsThoughInvalid_strobes, advance_runsThoughInvalid_strobes] at hsame
  exact absurd hsame (by decide)

end Sys2Proof.Machine
end

section
/-!
Where the statement about Castling (R114, R115, R123) says that a release without a run swaps back as it is decided: a
read-out that the stop of the run left in progress is finished first.
-/

namespace Sys2Proof.Machine

/-- The spare is RETAINED for channel 0 and carries its pixels. The run has been stopped, and group 0 still reads line 0
out. -/
def releasedInReadOut : State :=
  { ((State.reset.wr Reg.CAST_STATUS_STATE 5).wr Reg.CAST_STATUS_CHAN 0).wr Reg.CAST_STATUS_CARRYING 1 with
    groups := [(0, { live := true, inMin := true, reads := some (0, 0) })], cast := { connected := true } }

theorem exec_castReqRelease {s : State} (h : s.alive = true) (v : Word) :
    exec (.castReqRelease v) s = .next (castReqRelease v.toNat s) := congrArg Host.Outcome.next (State.powered_alive h _)

/-- Without a run, a swap that is decided within a read-out of its group waits, for a swap never falls inside a read-out
(R115). -/
theorem State.decideSwap_of_readingOut {s : State} (hrun : s.running = false)
    (hreads : s.readingOut (s.castChan / 8) = true) (back : Bool) :
    s.decideSwap back = { s with cast := { s.cast with swap := some (back, 1) } } := by
  simp [State.decideSwap, hrun, hreads]

/-- The swap back waits, and the crosspoint stays connected until it is made. -/
theorem castReqRelease_releasedInReadOut_connected :
    (castReqRelease (2 ^ 31) releasedInReadOut).cast.connected = true := by
  have hrelease : castReqRelease (2 ^ 31) releasedInReadOut =
      ((releasedInReadOut.castOutcome 0 9).castGo 0).decideSwap true := rfl
  rw [hrelease, State.decideSwap_of_readingOut (by decide +kernel) (by decide +kernel)]
  decide +kernel

/-- Refutes O6: a RELEASE without a run does not always disconnect the crosspoint at once. While the group of the RETAINED
channel is still within a read-out, the swap back is only decided (`State.decideSwap`). -/
theorem not_castling : ¬ Obligations.Castling := by
  unfold Obligations.Castling
  rintro ⟨⟨hreq, -⟩, -⟩
  have halive : releasedInReadOut.alive = true := by decide
  have hretained : releasedInReadOut.castState = 5 := by decide
  have hnoRun : releasedInReadOut.running = false := by decide
  obtain ⟨-, -, -, hrelease⟩ := hreq releasedInReadOut 0x80000000#32 halive 0 (by decide)
  obtain ⟨-, -, -, -, -, hswap, -⟩ :=
    (hrelease (by decide) hretained (by decide) (by decide)).of_next (exec_castReqRelease halive 0x80000000#32)
  obtain ⟨-, hdisconnected, -⟩ := hswap hnoRun
  have hconnected : (castReqRelease (0x80000000#32).toNat releasedInReadOut).cast.connected = true :=
    castReqRelease_releasedInReadOut_connected
  rw [hdisconnected] at hconnected
  exact Bool.noConfusion hconnected

end Sys2Proof.Machine
end

section
/-!
The emission of output lines and the end of a paper-white window (R132, R149, R152, R154, R155, R158, R545): what a lane
leaves with its next line, unit by unit, and what a window that has ended leaves of the gains.
-/

namespace Sys2Proof.Machine

/-! ## Events and reads that a unit leaves alone -/

theorem EventsKept.when {a s : State} (h : EventsKept a s) (b : Bool) {f : State → State}
    (hf : ∀ s, EventsKept s (f s)) : EventsKept a (s.when b f) := by
  cases b
  · exact h
  · exact h.trans (hf s)

theorem EventsKept.each {α : Type} {a s : State} (h : EventsKept a s) {f : State → α → State}
    (hf : ∀ s x, EventsKept s (f s x)) (l : List α) : EventsKept a (s.each l f) := by
  unfold State.each
  induction l generalizing s with
  | nil => exact h
  | cons x l ih => exact ih (h.trans (hf s x))

theorem Frame.onlyChanges {l : List Part} {s t : State} (h : Frame (Part.mask l) s t) : OnlyChanges l s t :=
  fun _ hp => h.same hp

/-- A unit whose frame leaves out `nt` clears no event. -/
theorem Frame.eventsKept {m : Nat} {s t : State} (h : Frame m s t) (hm : m.testBit 4 = false) : EventsKept s t :=
  .of_eq (congrArg Notify.events (h.1 .nt hm))

/-- A field outside the shadowed ones reads as before where `regs` is as before. -/
theorem State.rd_congr {s t : State} (h : t.regs = s.regs) {q : Row} (hq : q.access ≠ .sh) (a b c : Nat) :
    t.rd q a b c = s.rd q a b c := by
  simp [State.rd, State.store, if_neg hq, h]

/-- Between `s` and `t` no event is cleared, and every field below the key `K` reads as before. -/
def KeepsBelow (K : Nat) (s t : State) : Prop :=
  EventsKept s t ∧ ∀ (q : Row) (a b c : Nat), q.key a b c < K → t.rd q a b c = s.rd q a b c

namespace KeepsBelow

variable {K : Nat} {a s : State}

theorem refl (s : State) : KeepsBelow K s s := ⟨.refl s, fun _ _ _ _ _ => rfl⟩

theorem trans {b c : State} (h : KeepsBelow K a b) (g : KeepsBelow K b c) : KeepsBelow K a c :=
  ⟨h.1.trans g.1, fun q x y z hq => (g.2 q x y z hq).trans (h.2 q x y z hq)⟩

theorem wr (h : KeepsBelow K a s) {r : Row} {v k i j : Nat} (hr : K ≤ r.key k i j) : KeepsBelow K a (s.wr r v k i j) :=
  h.trans ⟨(EventsKept.refl s).wr r v k i j, fun _ _ _ _ hq => State.rd_wr_ne (h := Nat.ne_of_lt (Nat.lt_of_lt_of_le hq hr)) ..⟩

theorem wrPair (h : KeepsBelow K a s) {lo hi : Row} {v k i : Nat} (hlo : K ≤ lo.key k i 0) (hhi : K ≤ hi.key k i 0) :
    KeepsBelow K a (s.wrPair lo hi v k i) := (h.wr hlo).wr hhi

theorem raise (h : KeepsBelow K a s) (e : Event) (k : Nat) : KeepsBelow K a (s.raise e k) :=
  h.trans ⟨eventsKept_raise s e k, fun _ _ _ _ _ => (told_raise s e k).rd ..⟩

theorem when (h : KeepsBelow K a s) (b : Bool) {f : State → State} (hf : ∀ s, KeepsBelow K s (f s)) :
    KeepsBelow K a (s.when b f) := by
  cases b
  · exact h
  · exact h.trans (hf s)

theorem each {α : Type} (h : KeepsBelow K a s) {f : State → α → State} (hf : ∀ s x, KeepsBelow K s (f s x))
    (l : List α) : KeepsBelow K a (s.each l f) := by
  unfold State.each
  induction l generalizing s with
  | nil => exact h
  | cons x l ih => exact ih (h.trans (hf s x))

end KeepsBelow

/-! ## The reference feed behind a line (R177, R178) -/

/-- The first key of the reference feed's page, 0x160. -/
abbrev refPageKey : Nat := 0x160 * 4096 * 32

theorem KeepsBelow.refPublish {a s : State} (h : KeepsBelow refPageKey a s) :
    KeepsBelow refPageKey a s.refPublish := by
  unfold State.refPublish
  extract_lets s1 s2 s3 s4 was warn lead s5
  have h1 : KeepsBelow refPageKey a s1 := h.wrPair (by decide) (by decide)
  have h2 : KeepsBelow refPageKey a s2 := (h1.wr (by decide)).wr (by decide)
  have h3 : KeepsBelow refPageKey a s3 := h2.wr (by decide)
  have h4 : KeepsBelow refPageKey a s4 := by
    unfold s4 State.showPendLimit
    split
    · split
      · exact h3.wrPair (by decide) (by decide)
      · exact KeepsBelow.wrPair (s := (s3.take 48).1) h3 (by decide) (by decide)
    · exact h3
  have h5 : KeepsBelow refPageKey a s5 := by
    unfold s5
    split
    · exact ((h4.wrPair (by decide) (by decide)).wr (by decide)).wr (by decide)
    · exact h4
  exact (h5.wr (by decide)).when _ fun s => (KeepsBelow.refl s).raise _ _

theorem KeepsBelow.judgeJob (front : Nat) (s : State) (j : Job) :
    KeepsBelow refPageKey s (s.judgeJob front j) := by
  unfold State.judgeJob
  split
  · exact .refl s
  · extract_lets _ _ _ _ t
    have ht : KeepsBelow refPageKey s t := .refl s
    exact (ht.wr (by decide)).when _ fun s => (KeepsBelow.refl s).raise _ _

/-- As the compare front moves, the reference feed writes its own page. -/
theorem KeepsBelow.refAdvance (s : State) (y : Nat) : KeepsBelow refPageKey s (s.refAdvance y) := by
  unfold State.refAdvance
  split
  · exact .refl s
  · extract_lets _ t
    have ht : KeepsBelow refPageKey s t := .refl s
    exact (ht.each (KeepsBelow.judgeJob y) _).refPublish

/-! ## A lane's line (R149, R152, R154, R158) -/

/-- Lane `k` stands at the next line and has put its line `l` where later stages read it. -/
def State.lineKept (s : State) (k : Nat) (l : OutLine) : State :=
  { s.putLane k { s.lane k with next := (s.lane k).next + 1 } with
    outLines := tput (16 * (s.lane k).next + k) l s.outLines }

/-- What lane `k` leaves with its line `l` (R158): beside keeping it, the lane counts and tells of it, the gains in force
for the line are shown, and the reference feed and the neighbours take what they need of it. -/
def State.lineOut (s : State) (k : Nat) (l : OutLine) (clamped : Bool) : State :=
  let y := (s.lane k).next
  let t := ((s.lineKept k l).laneEvents k l clamped).showGains y ((List.range 8).map (8 * k + ·))
  (t.refAdvance t.lanesFront).boundarySend k y

/-- A lane emits its output line with the tokens of the reference and the marks of its job. -/
theorem State.emitLine_eq (s : State) (k : Nat) : ∃ tokens covered searchable clamped,
    s.emitLine k = s.lineOut k { s.outputLine k (s.lane k).next with
      tokens := tokens, covered := covered, searchable := searchable } clamped :=
  ⟨_, _, _, _, rfl⟩

/-- A lane's counts are none of the registers that show the gains. -/
theorem State.rd_showGains_incomplete (s : State) (y : Nat) (js : List Nat) (k : Nat) :
    (s.showGains y js).rd Reg.LANE_INCOMPLETE_COUNT k = s.rd Reg.LANE_INCOMPLETE_COUNT k := by
  refine State.each_proj (·.rd Reg.LANE_INCOMPLETE_COUNT k) _ (fun s j => ?_) js s
  simp only [State.showGain, State.wrB]
  rw [State.rd_wr_ne, State.rd_wr_ne, State.rd_wr_ne, State.rd_wr_ne] <;> simp only [Row.key] <;> omega

theorem eventsKept_inc_raise (s : State) (r : Row) (e : Event) (k : Nat) : EventsKept s ((s.inc r k).raise e k) :=
  ((EventsKept.refl s).wr r (s.rd r k + 1) k 0 0).raise e k

theorem State.laneEvents_eventsKept (s : State) (k : Nat) (l : OutLine) (clamped : Bool) :
    EventsKept s (s.laneEvents k l clamped) := by
  have hraise (e : Event) (n : Nat) (t : State) : EventsKept t (t.raise e n) := eventsKept_raise t e n
  have hcount (r : Row) (e : Event) (t : State) : EventsKept t ((t.inc r k).raise e k) := eventsKept_inc_raise t r e k
  exact ((((EventsKept.refl s).when _ (hcount _ _)).when _ (hcount _ _)).when _ (hraise _ _)).when _ (hraise _ _)

/-- A line made with replacements is counted and told (R149). -/
theorem State.laneEvents_incomplete (s : State) {k : Nat} {l : OutLine} (hl : l.incomplete = true) (clamped : Bool) :
    (s.laneEvents k l clamped).rd Reg.LANE_INCOMPLETE_COUNT k = (s.rd Reg.LANE_INCOMPLETE_COUNT k + 1) % 2 ^ 32 ∧
      (s.laneEvents k l clamped).eventSet Ev.LANE_ALIGN_INCOMPLETE k = true := by
  have htold (e : Event) (n : Nat) (t : State) :
      (t.raise e n).rd Reg.LANE_INCOMPLETE_COUNT k = t.rd Reg.LANE_INCOMPLETE_COUNT k := (told_raise t e n).rd ..
  have hsingle (t : State) : ((t.inc Reg.LANE_SINGLE_COUNT k).raise Ev.LANE_JOINT_SINGLE k).rd
      Reg.LANE_INCOMPLETE_COUNT k = t.rd Reg.LANE_INCOMPLETE_COUNT k :=
    (htold ..).trans (State.rd_wr_ne (h := by simp only [Row.key]; omega) ..)
  have hraise (e : Event) (n : Nat) (t : State) : EventsKept t (t.raise e n) := eventsKept_raise t e n
  unfold State.laneEvents
  extract_lets single noset t u
  have ht : t = (s.inc Reg.LANE_INCOMPLETE_COUNT k).raise Ev.LANE_ALIGN_INCOMPLETE k := by unfold t; rw [hl]; rfl
  have hu : EventsKept t u := (EventsKept.refl t).when _ fun t => eventsKept_inc_raise t _ _ k
  constructor
  · rw [State.when_proj (·.rd Reg.LANE_INCOMPLETE_COUNT k) _ _ _ (htold ..),
      State.when_proj (·.rd Reg.LANE_INCOMPLETE_COUNT k) _ _ _ (htold ..),
      State.when_proj (·.rd Reg.LANE_INCOMPLETE_COUNT k) t _ _ (hsingle t), ht, htold, State.inc, State.rd_wr_self]
  · refine ((hu.when _ (hraise _ _)).when _ (hraise _ _)).set ?_
    rw [ht]
    exact State.raise_eventSet ..

/-! ## The line that a lane has emitted -/

section
variable (s : State) (k : Nat) (l : OutLine) (clamped : Bool)

/-- Lanes and output lines are not touched again once the line is kept. -/
theorem State.lineOut_frame : Frame 0x180001000013 (s.lineKept k l) (s.lineOut k l clamped) :=
  frame_boundarySend (hc := by decide) (hk := frame_refAdvance (hc := by decide) (hk := frame_showGains
    (hc := by decide) (hk := frame_laneEvents (hc := by decide) (hk := .refl _) ..) ..) ..) ..

theorem State.showGains_frame (y : Nat) (js : List Nat) : Frame 0x3 s (s.showGains y js) :=
  frame_showGains (hc := by decide) (hk := .refl s) ..

theorem State.boundarySend_frame (y : Nat) : Frame 0x100000000002 s (s.boundarySend k y) :=
  frame_boundarySend (hc := by decide) (hk := .refl s) ..

/-- What the lane has told of its line stands: the units behind it clear no event and write other registers. -/
theorem State.lineOut_told (hk : k < 12) :
    EventsKept ((s.lineKept k l).laneEvents k l clamped) (s.lineOut k l clamped) ∧
      (s.lineOut k l clamped).rd Reg.LANE_INCOMPLETE_COUNT k =
        ((s.lineKept k l).laneEvents k l clamped).rd Reg.LANE_INCOMPLETE_COUNT k := by
  have hkey : Reg.LANE_INCOMPLETE_COUNT.key k 0 0 < refPageKey := by simp only [Row.key, refPageKey]; omega
  unfold State.lineOut
  extract_lets y t
  have hshown := State.showGains_frame ((s.lineKept k l).laneEvents k l clamped) y ((List.range 8).map (8 * k + ·))
  obtain ⟨hevents, hreads⟩ := KeepsBelow.refAdvance t t.lanesFront
  have hsent := State.boundarySend_frame (t.refAdvance t.lanesFront) k y
  refine ⟨((hshown.eventsKept rfl).trans hevents).trans (hsent.eventsKept rfl), ?_⟩
  rw [State.rd_congr (hsent.1 .regs rfl) (by decide), hreads _ _ _ _ hkey, State.rd_showGains_incomplete]

end

/-- What LANE_OUTPUT_LINE and JOINT_WAIT_EXPIRY leave where they emit a line (R152, R158). -/
theorem State.emitLine_spec (s : State) {k y : Nat} (hk : k < 12) (hy : y = (s.lane k).next) :
    ((s.emitLine k).lane k).next = y + 1 ∧ (∀ i, i ≠ k → (s.emitLine k).lane i = s.lane i) ∧
      ((tfind (16 * y + k) (s.emitLine k).outLines).map fun l => (l.first, l.time, l.gen, l.pixels)) =
        some ((s.outputLine k y).first, (s.line y).time, s.genAt y, (s.outputLine k y).pixels) ∧
      ((s.outputLine k y).incomplete = true →
        (s.emitLine k).rd Reg.LANE_INCOMPLETE_COUNT k = (s.rd Reg.LANE_INCOMPLETE_COUNT k + 1) % 2 ^ 32 ∧
          (s.emitLine k).eventSet Ev.LANE_ALIGN_INCOMPLETE k = true) ∧
      EventsKept s (s.emitLine k) := by
  subst hy
  obtain ⟨tokens, covered, searchable, clamped, hemit⟩ := s.emitLine_eq k
  rw [hemit]
  generalize hl : { s.outputLine k (s.lane k).next with
    tokens := tokens, covered := covered, searchable := searchable } = l
  obtain ⟨hkept, hcount⟩ := s.lineOut_told k l clamped hk
  have hframe := s.lineOut_frame k l clamped
  have hlanes : (s.lineOut k l clamped).lanes = tput k { s.lane k with next := (s.lane k).next + 1 } s.lanes :=
    hframe.1 .lanes rfl
  have hlines : (s.lineOut k l clamped).outLines = tput (16 * (s.lane k).next + k) l s.outLines :=
    hframe.1 .outLines rfl
  refine ⟨?_, fun i hi => ?_, ?_, fun hinc => ?_,
    ((s.lineKept k l).laneEvents_eventsKept k l clamped).trans hkept⟩
  · simp [State.lane, tget, hlanes]
  · simp [State.lane, tget, hlanes, tfind_tput_ne hi]
  · rw [hlines, tfind_tput_self, ← hl]
    rfl
  · have hinc : l.incomplete = true := by rw [← hl]; exact hinc
    obtain ⟨hcounted, hset⟩ := (s.lineKept k l).laneEvents_incomplete (k := k) hinc clamped
    exact ⟨hcount.trans hcounted, hkept.set hset⟩

/-! ## When a lane emits (R152, R158, R545) -/

theorem State.jointWait_iff (s : State) (k y : Nat) :
    s.jointWait k y = true ↔ k = 11 ∧ s.eastNeighbour = true ∧ (tfind y s.joints).isSome = false := by
  simp [State.jointWait, and_assoc]

section
variable {s : State} {k : Nat}

theorem laneOutputLine_emits (hready : s.laneReady k = true) (hwait : s.jointWait k (s.lane k).next = false) :
    laneOutputLine k s = s.emitLine k := by simp [laneOutputLine, hready, hwait]

theorem laneOutputLine_waits (h : s.laneReady k = false ∨ s.jointWait k (s.lane k).next = true) :
    laneOutputLine k s = s := by
  rcases h with hready | hwait
  · simp [laneOutputLine, hready]
  · simp [laneOutputLine, hwait]

theorem jointWaitExpiry_emits (hready : s.laneReady 11 = true) (hwait : s.jointWait 11 (s.lane 11).next = true) :
    jointWaitExpiry s = s.emitLine 11 := by simp [jointWaitExpiry, hready, hwait]

theorem jointWaitExpiry_idle (h : s.laneReady 11 = false ∨ s.jointWait 11 (s.lane 11).next = false) :
    jointWaitExpiry s = s := by
  rcases h with hready | hwait
  · simp [jointWaitExpiry, hready]
  · simp [jointWaitExpiry, hwait]

end

/-! ## The end of a paper-white window (R154, R155) -/

/-- What a window gives each segment: the gains that follow, and whether one stands at a limit or was starved. -/
def State.windowResults (s : State) (w : PwWindow) (ye : Nat) : List (PwGain × Bool × Bool) :=
  let full := if w.settings.getD 0 1 = 1 then
      ((List.range (ye + 1 - w.start)).map (w.start + ·)).filter s.lineFull
    else []
  (List.range 96).map fun j =>
    pwSegment w ((s.pw.at (ye + 64)).getD j {}) (s.windowValues full (w.settings.getD 1 0) j)

/-- The gains `gs` are to apply from line `y`, and the window is counted as ended. -/
def State.windowCounted (s : State) (y : Nat) (gs : List PwGain) : State :=
  { s with pw := { s.pw with gains := (y, gs) :: s.pw.gains, ended := s.pw.ended + 1 } }.inc Reg.PW_WINDOWS_COUNT

/-- The events of a window that has ended. -/
def State.windowTold (s : State) (late limit starved : Bool) : State :=
  (((s.raise Ev.PW_WINDOW_DONE).when late (·.raise Ev.PW_PW_LATE)).when limit (·.raise Ev.PW_AT_LIMIT)).when starved
    (·.raise Ev.PW_STARVED)

/-- What a window whose last line is `ye` leaves once its statistics are complete; lanes have come to line `front`. -/
def State.windowEnded (s : State) (w : PwWindow) (ye front : Nat) : State :=
  (s.windowCounted (max (ye + 64) front) ((s.windowResults w ye).map (·.1))).windowTold (decide (ye + 64 < front))
    ((s.windowResults w ye).any (·.2.1)) ((s.windowResults w ye).any (·.2.2))

section
variable {s : State} {w : PwWindow} {ye : Nat}

theorem pwWindowEnd_none (h : s.pw.oldest = none) : pwWindowEnd s = s := by
  simp [pwWindowEnd, h]

/-- A window that a reset cut is discarded (R155). -/
theorem pwWindowEnd_cut (h : s.pw.oldest = some (w, ye)) (hcut : w.cut = true) :
    pwWindowEnd s = { s with pw := { s.pw with ended := s.pw.ended + 1 } } := by
  simp [pwWindowEnd, h, hcut]

/-- A window waits until every lane is past the lines that its statistics look at. -/
theorem pwWindowEnd_waits (h : s.pw.oldest = some (w, ye)) (hcut : w.cut = false)
    (hwait : s.running = false ∨ s.allPast (ye + w.settings.getD 1 0) = false) : pwWindowEnd s = s := by
  rcases hwait with hrun | hpast
  · simp [pwWindowEnd, h, hcut, hrun]
  · simp only [pwWindowEnd, h, hcut, hpast]
    simp

theorem pwWindowEnd_done (h : s.pw.oldest = some (w, ye)) (hcut : w.cut = false) (hrun : s.running = true)
    (hpast : s.allPast (ye + w.settings.getD 1 0) = true) :
    pwWindowEnd s = s.windowEnded w ye (s.lanesNext.foldl max 0) := by
  simp only [pwWindowEnd, State.windowEnded, State.windowTold, State.windowCounted, State.windowResults, h, hcut,
    hrun, hpast, Bool.not_true, Bool.or_self, Bool.false_eq_true, if_false]

end

/-- Without a qualifying pixel a segment keeps its gains and is starved (R154). -/
theorem pwSegment_nil (w : PwWindow) (g : PwGain) : (pwSegment w g []).1 = g ∧ (pwSegment w g []).2.2 = true := by
  simp [pwSegment, pwUpdate]

/-- Outside MODE 1 no pixel qualifies (R153). -/
theorem State.windowResults_of_mode {s : State} {w : PwWindow} (hmode : w.settings.getD 0 1 ≠ 1) (ye : Nat) :
    s.windowResults w ye = (List.range 96).map fun j => pwSegment w ((s.pw.at (ye + 64)).getD j {}) [] := by
  rw [State.windowResults, if_neg hmode]
  rfl

section
variable (s : State) (late limit starved : Bool)

theorem State.told_windowTold : Told s (s.windowTold late limit starved) :=
  (((told_raise s _ _).trans (told_when _ _ _ (told_raise _ _ _))).trans (told_when _ _ _ (told_raise _ _ _))).trans
    (told_when _ _ _ (told_raise _ _ _))

theorem State.windowTold_events : EventsKept s (s.windowTold late limit starved) ∧
    (s.windowTold late limit starved).eventSet Ev.PW_WINDOW_DONE = true ∧
    (late = true → (s.windowTold late limit starved).eventSet Ev.PW_PW_LATE = true) ∧
    (starved = true → (s.windowTold late limit starved).eventSet Ev.PW_STARVED = true) := by
  have hraise (e : Event) (t : State) : EventsKept t (t.raise e) := eventsKept_raise t e 0
  unfold State.windowTold
  generalize ht : s.raise Ev.PW_WINDOW_DONE = t
  have hst : EventsKept s t := ht ▸ hraise _ s
  have hlate := (EventsKept.refl t).when late (hraise Ev.PW_PW_LATE)
  have hrest := ((EventsKept.refl (t.when late (·.raise Ev.PW_PW_LATE))).when limit
    (hraise Ev.PW_AT_LIMIT)).when starved (hraise Ev.PW_STARVED)
  refine ⟨(hst.trans hlate).trans hrest, (hlate.trans hrest).set (ht ▸ State.raise_eventSet ..), ?_, ?_⟩
  · rintro rfl
    exact hrest.set (State.raise_eventSet ..)
  · rintro rfl
    exact State.raise_eventSet ..

end

section
variable (s : State) (y : Nat) (gs : List PwGain)

theorem State.windowCounted_pw : (s.windowCounted y gs).pw =
    { s.pw with gains := (y, gs) :: s.pw.gains, ended := s.pw.ended + 1 } := State.wr_pw ..

theorem State.windowCounted_count : (s.windowCounted y gs).rd Reg.PW_WINDOWS_COUNT =
    (s.rd Reg.PW_WINDOWS_COUNT + 1) % 2 ^ 32 := State.rd_wr_self ..

theorem State.windowCounted_eventsKept : EventsKept s (s.windowCounted y gs) :=
  fun p b h => by rwa [State.windowCounted, State.inc, State.wr_nt]

theorem State.windowCounted_onlyChanges : OnlyChanges [.regs, .pw] s (s.windowCounted y gs) := by
  refine .trans (b := { s with pw := { s.pw with gains := (y, gs) :: s.pw.gains, ended := s.pw.ended + 1 } })
    (Frame.set_pw (by decide) (.refl s)).onlyChanges (.mono ?_ (wr_onlyChanges_regs _ ?_ _ _ _ _)) <;> simp

end

/-- A window outside MODE 1 leaves every gain as it was, starved (R153, R154). -/
theorem State.windowResults_starved {s : State} {w : PwWindow} (hmode : w.settings.getD 0 1 ≠ 1) (ye : Nat) :
    (s.windowResults w ye).any (·.2.2) = true ∧
      ∀ j, j < 96 → ((s.windowResults w ye).map (·.1)).getD j {} = (s.pw.at (ye + 64)).getD j {} := by
  have hnil (g : PwGain) := pwSegment_nil w g
  rw [State.windowResults_of_mode hmode]
  exact ⟨by simpa [hnil] using ⟨0, by decide⟩, fun j hj => by simp [hnil, List.getD, hj]⟩

/-- What a window that has ended leaves: its gains wait for their line, and it is counted and told. -/
theorem State.windowEnded_spec (s : State) (w : PwWindow) (ye front : Nat) {t : State}
    (ht : t = s.windowEnded w ye front) :
    t.pw.ended = s.pw.ended + 1 ∧ (t.pw.gains.head?).map (·.1) = some (max (ye + 64) front) ∧
      t.pw.gains.tail = s.pw.gains ∧ t.rd Reg.PW_WINDOWS_COUNT = (s.rd Reg.PW_WINDOWS_COUNT + 1) % 2 ^ 32 ∧
      t.eventSet Ev.PW_WINDOW_DONE = true ∧ (ye + 64 < front → t.eventSet Ev.PW_PW_LATE = true) ∧
      (w.settings.getD 0 1 ≠ 1 → t.eventSet Ev.PW_STARVED = true ∧
        ∀ j, j < 96 → (t.pw.gains.head?).map (fun e => e.2.getD j {}) = some ((s.pw.at (ye + 64)).getD j {})) ∧
      EventsKept s t ∧ OnlyChanges [.regs, .nt, .out, .pw] s t := by
  rw [State.windowEnded] at ht
  generalize max (ye + 64) front = y at ht ⊢
  generalize hgs : (s.windowResults w ye).map (·.1) = gs at ht
  have htold := ht ▸ (s.windowCounted y gs).told_windowTold ..
  obtain ⟨hkept, hdone, hlate, hstarved⟩ := ht ▸ (s.windowCounted y gs).windowTold_events ..
  have hpw : t.pw = { s.pw with gains := (y, gs) :: s.pw.gains, ended := s.pw.ended + 1 } :=
    htold.pw.trans (s.windowCounted_pw y gs)
  rw [hpw]
  refine ⟨rfl, rfl, rfl, (htold.rd ..).trans (s.windowCounted_count y gs), hdone, fun h => hlate (by simpa using h),
    fun hmode => ?_, (s.windowCounted_eventsKept y gs).trans hkept,
    .trans (.mono (by simp) (s.windowCounted_onlyChanges y gs)) (.mono (by simp) htold.onlyChanges)⟩
  obtain ⟨hany, hsame⟩ := State.windowResults_starved (s := s) hmode ye
  exact ⟨hstarved hany, fun j hj => congrArg some (by rw [← hsame j hj, hgs])⟩

/-! ## The statement -/

theorem exec_laneOutputLine {s : State} (h : s.alive = true) (k : Fin 12) :
    exec (.laneOutputLine k) s = .next (laneOutputLine k s) := congrArg Host.Outcome.next (State.powered_alive h _)

theorem exec_jointWaitExpiry {s : State} (h : s.alive = true) :
    exec .jointWaitExpiry s = .next (jointWaitExpiry s) := congrArg Host.Outcome.next (State.powered_alive h _)

theorem exec_pwWindowEnd {s : State} (h : s.alive = true) :
    exec .pwWindowEnd s = .next (pwWindowEnd s) := congrArg Host.Outcome.next (State.powered_alive h _)

/-- Settles O10: a lane that emits leaves what `emitLine_spec` says, and one that waits the state as it was; then the
four ways in which the oldest window can stand. -/
theorem laneOutput : Obligations.LaneOutput := by
  unfold Obligations.LaneOutput
  refine ⟨?_, ?_, ?_, ?_⟩
  · rintro s k halive y rfl
    refine ⟨fun hready hjoint => ?_, fun hwaits => ?_⟩
    · have hnoWait : s.jointWait k (s.lane k).next = false := by
        rw [Bool.eq_false_iff, Ne, State.jointWait_iff]
        rintro ⟨hk, heast, hnone⟩
        simp [hjoint hk heast] at hnone
      refine ⟨_, exec_laneOutputLine halive k, ?_⟩
      rw [laneOutputLine_emits hready hnoWait]
      exact s.emitLine_spec k.isLt rfl
    · exact ⟨_, exec_laneOutputLine halive k, laneOutputLine_waits (hwaits.imp_right (s.jointWait_iff k _).mpr)⟩
  · rintro s halive y rfl
    refine ⟨fun hready heast hnone => ?_, fun hnot => ?_⟩
    · obtain ⟨hnext, -, hline, -, hkept⟩ := s.emitLine_spec (k := 11) (by decide) rfl
      have hpixels := congrArg (Option.map fun e => e.2.2.2) hline
      rw [Option.map_map] at hpixels
      refine ⟨_, exec_jointWaitExpiry halive, ?_⟩
      rw [jointWaitExpiry_emits hready ((s.jointWait_iff 11 _).mpr ⟨rfl, heast, hnone⟩)]
      exact ⟨hnext, hpixels, hkept⟩
    · refine ⟨_, exec_jointWaitExpiry halive, jointWaitExpiry_idle (hnot.imp_right fun h => ?_)⟩
      rw [Bool.eq_false_iff, Ne, State.jointWait_iff]
      rintro ⟨-, heast, hnone⟩
      simp [heast, hnone] at h
  · intro s halive w holdest front hfront ye hye
    have holdest : s.pw.oldest = some (w.1, ye) := by rw [hye, holdest]
    refine ⟨fun hcut => ?_, fun hcut hrun hpast => ?_, fun hcut hwait => ?_⟩
    · refine ⟨_, exec_pwWindowEnd halive, ?_⟩
      rw [pwWindowEnd_cut holdest hcut]
      exact ⟨rfl, rfl, rfl, (Frame.set_pw (by decide) (.refl s)).onlyChanges⟩
    · refine ⟨_, exec_pwWindowEnd halive, ?_⟩
      rw [pwWindowEnd_done holdest hcut hrun hpast]
      exact s.windowEnded_spec w.1 ye front (by rw [hfront])
    · exact ⟨_, exec_pwWindowEnd halive, pwWindowEnd_waits holdest hcut hwait⟩
  · intro s halive hnone
    exact ⟨_, exec_pwWindowEnd halive, pwWindowEnd_none hnone⟩

end Sys2Proof.Machine
end

section
/-!
The Opal images (R141 to R144, R155, R162): a capture from its start to its end, the transfer aperture and the pending
write behind it, and the reset of the paper-white gains.
-/

namespace Sys2Proof.Machine

/-! ## A capture begins, or is ignored (R141) -/

/-- What a write of OPAL_CAP with its GO bit leaves where the capture begins. -/
def State.captureBegun (s : State) (v : Nat) : State :=
  let kind := bitsOf v 1 1
  let start := s.lt.line + 64
  let t := { s with opal := { s.opal with kind := kind, linesLog := max 4 (min 12 (bitsOf v 2 4)), start := start,
                                          captures := (start, none) :: s.opal.captures } }
  (((t.wr Reg.OPAL_CAP_STATUS_STATE 1).wr Reg.OPAL_CAP_STATUS_KIND kind).wr Reg.OPAL_CAP_START_LO start).wr
    Reg.OPAL_CAP_STATUS_LINES 0

/-- What keeps a capture from beginning (R141). -/
def State.captureIgnored (s : State) : Bool :=
  s.capturing || !s.running || s.opal.writes.any fun w => w.1 == s.opal.roles.getD 0 0

theorem opalCapGo_ignored {s : State} {v : Nat} (hgo : v.testBit 0 = true) (h : s.captureIgnored = true) :
    opalCapGo v s = s.raise Ev.OPAL_CAP_IGNORED := by
  rw [State.captureIgnored] at h
  simp only [opalCapGo, hgo, h]
  rfl

theorem opalCapGo_begins {s : State} {v : Nat} (hgo : v.testBit 0 = true) (h : s.captureIgnored = false) :
    opalCapGo v s = s.captureBegun v := by
  rw [State.captureIgnored] at h
  simp only [opalCapGo, hgo, h]
  rfl

/-- A capture that begins shows its kind and its first line, and has accumulated nothing (R141). -/
theorem State.captureBegun_spec (s : State) (v : Nat) {t : State} (ht : t = s.captureBegun v) :
    t.rd Reg.OPAL_CAP_STATUS_STATE = 1 ∧ t.rd Reg.OPAL_CAP_STATUS_KIND = v / 2 % 2 ∧
      t.rd Reg.OPAL_CAP_STATUS_LINES = 0 ∧ t.rd Reg.OPAL_CAP_START_LO = (s.lt.line + 64) % 2 ^ 32 ∧
      t.opal.start = s.lt.line + 64 ∧ t.opal.linesLog = max 4 (min 12 (v / 4 % 16)) ∧
      OnlyChanges [.regs, .opal] s t := by
  have hwr {u : State} (h : OnlyChanges [.regs, .opal] s u) {r : Row} (hr : r.access ≠ .sh) (x : Nat) :
      OnlyChanges [.regs, .opal] s (u.wr r x) := h.trans (.mono (by simp) (wr_onlyChanges_regs u hr x 0 0 0))
  have hopal (o : Opal) : OnlyChanges [.regs, .opal] s { s with opal := o } :=
    (Frame.set_opal (by decide) (.refl s)).onlyChanges
  have hkind : bitsOf v 1 1 = v / 2 % 2 := congrArg (· % 2) (Nat.shiftRight_eq_div_pow v 1)
  have hlog : bitsOf v 2 4 = v / 4 % 16 := congrArg (· % 16) (Nat.shiftRight_eq_div_pow v 2)
  rw [State.captureBegun, hkind, hlog] at ht
  subst ht
  refine ⟨?state, ?kind, ?lines, ?first, ?start, ?log,
    hwr (hwr (hwr (hwr (hopal _) (by decide) _) (by decide) _) (by decide) _) (by decide) _⟩
  case state =>
    rewrite [State.rd_wr_ne, State.rd_wr_ne, State.rd_wr_ne, State.rd_wr_self]
    · rfl
    all_goals decide
  case kind =>
    rewrite [State.rd_wr_ne, State.rd_wr_ne, State.rd_wr_self]
    · exact Nat.mod_mod _ _
    all_goals decide
  case lines => exact State.rd_wr_self ..
  case first =>
    rewrite [State.rd_wr_ne, State.rd_wr_self]
    · rfl
    · decide
  case start => simp only [State.wr_opal]
  case log => simp only [State.wr_opal]

/-! ## A capture ends (R142, R143) -/

theorem State.captureLines_wr (s : State) (r : Row) (v k i j c : Nat) :
    (s.wr r v k i j).captureLines c = s.captureLines c := by
  unfold State.wr
  split <;> rfl

theorem State.rd_putHalf (s : State) (p i v : Nat) (q : Row) (a b c : Nat) :
    (s.putHalf p i v).rd q a b c = s.rd q a b c := by
  unfold State.putHalf
  extract_lets
  split <;> rfl

theorem State.putHalf_kind (s : State) (p i v : Nat) : (s.putHalf p i v).opal.kind = s.opal.kind := by
  unfold State.putHalf
  extract_lets
  split <;> rfl

/-- The staged header of channel `c` is valid for gains and not for a dark capture, as the capture's kind says. -/
def State.headerShows (s : State) (c : Nat) : Prop := s.rd Reg.OPAL_HDR_VALID 4 c = s.opal.kind % 2

/-- What the pixels of a channel leave alone: the header stands where every pixel's write lets it stand. -/
theorem State.each_pixels {β : Type} (g : State → β) (hput : ∀ s p i v, g (State.putHalf s p i v) = g s)
    (hbad : ∀ s, g (State.inc s Reg.OPAL_CAP_BAD_COUNT) = g s) (sums : List (Nat × Nat)) (p : Nat)
    (at' : State → Nat × Nat → Nat) (value : State → Nat × Nat → Nat × Bool) (s : State) :
    g (s.each sums fun s e =>
      (s.putHalf p (at' s e) (value s e).1).when (value s e).2 (·.inc Reg.OPAL_CAP_BAD_COUNT)) = g s :=
  State.each_proj g _ (fun s _ => (State.when_proj g _ _ _ (hbad _)).trans (hput s _ _ _)) sums s

/-- A channel that is written changes no other channel's header, and no kind (R143). -/
theorem State.captureChannel_header (s : State) (c : Nat) :
    (s.captureChannel c).opal.kind = s.opal.kind ∧ (s.captureChannel c).headerShows c ∧
      ∀ d, d ≠ c → (s.captureChannel c).rd Reg.OPAL_HDR_VALID 4 d = s.rd Reg.OPAL_HDR_VALID 4 d := by
  unfold State.captureChannel State.headerShows
  extract_lets rs img px t clipped u
  have hkind : t.opal.kind = s.opal.kind := by
    refine State.each_proj (·.opal.kind) _ (fun s _ => ?_) _ s
    exact State.each_pixels (·.opal.kind) State.putHalf_kind (fun s => by simp [State.inc]) _ _ _ _ s
  have hvalid (d : Nat) : t.rd Reg.OPAL_HDR_VALID 4 d = s.rd Reg.OPAL_HDR_VALID 4 d := by
    refine State.each_proj (·.rd Reg.OPAL_HDR_VALID 4 d) _ (fun s _ => ?_) _ s
    exact State.each_pixels (·.rd Reg.OPAL_HDR_VALID 4 d) (fun s p i v => s.rd_putHalf p i v _ _ _ _)
      (fun s => State.rd_wr_ne (h := by simp only [Row.key]; omega) ..) _ _ _ _ s
  have hkey (d e : Nat) (h : d ≠ e) : Reg.OPAL_HDR_VALID.key 4 d 0 ≠ Reg.OPAL_HDR_VALID.key 4 e 0 := by
    simp only [Row.key]; omega
  have htemp (d : Nat) : Reg.OPAL_HDR_VALID.key 4 d 0 ≠ Reg.OPAL_HDR_TEMP.key 4 c 0 := by simp only [Row.key]; omega
  have hclipped (d : Nat) : Reg.OPAL_HDR_VALID.key 4 d 0 ≠ Reg.OPAL_CAP_CLIPPED_COUNT.key 0 0 0 := by
    simp only [Row.key]; omega
  refine ⟨by simpa [State.wrS, u] using hkind, ?_, fun d hd => ?_⟩
  · rw [State.wrS, State.rd_wr_ne (h := htemp c), State.rd_wr_self]
    simp
  · rw [State.wrS, State.rd_wr_ne (h := htemp d), State.rd_wr_ne (h := hkey d c hd),
      State.rd_wr_ne (h := hclipped d), hvalid]

/-- What each step of a loop makes hold of its own index, and lets stand for the others, holds of every index. -/
theorem State.each_establishes {f : State → Nat → State} {P : State → Nat → Prop} (hself : ∀ s j, P (f s j) j)
    (hother : ∀ s i j, j ≠ i → P s j → P (f s i) j) (l : List Nat) (s : State) :
    ∀ j, j ∈ l ∨ P s j → P (s.each l f) j := by
  induction l generalizing s with
  | nil => exact fun j h => h.resolve_left (by simp)
  | cons i l ih =>
    refine fun j h => ih (f s i) j ?_
    by_cases hij : j = i
    · exact .inr (hij ▸ hself s i)
    · exact h.imp (fun h => (List.mem_cons.mp h).resolve_left hij) (hother s i j hij)

/-- The state in which every channel that has its N read-outs is written (R143). -/
def State.captureFilled (s : State) : State :=
  ((s.wr Reg.OPAL_CAP_CLIPPED_COUNT 0).when (s.opal.kind == 1) (·.wr Reg.OPAL_CAP_BAD_COUNT 0)).each
    ((List.range 96).filter fun c => decide (2 ^ s.opal.linesLog ≤ (s.captureLines c).length)) State.captureChannel

theorem State.captureFilled_frame (s : State) : Frame 0x100003 s s.captureFilled :=
  .each (.when (frame_wr (hc := by decide) (hk := .refl s) ..) fun s => frame_wr (hc := by decide) (hk := .refl s) ..)
    fun s c => frame_captureChannel (hc := by decide) (hk := .refl s) c

theorem State.captureFilled_header (s : State) {c : Nat} (hc : c < 96)
    (hfull : 2 ^ s.opal.linesLog ≤ (s.captureLines c).length) :
    s.captureFilled.rd Reg.OPAL_HDR_VALID 4 c = s.opal.kind % 2 := by
  have hother (u : State) (i j : Nat) (hij : j ≠ i) (h : u.headerShows j) : (u.captureChannel i).headerShows j := by
    obtain ⟨hkind, -, hkept⟩ := u.captureChannel_header i
    rw [State.headerShows, hkept j hij, hkind]
    exact h
  have hkind : s.captureFilled.opal.kind = s.opal.kind := by
    rw [State.captureFilled, State.each_proj (·.opal.kind) _ (fun u i => (u.captureChannel_header i).1),
      State.when_proj (·.opal.kind)] <;> simp
  rw [← hkind]
  exact State.each_establishes (P := State.headerShows) (fun u i => (u.captureChannel_header i).2.1) hother _ _ c
    (.inl (by simpa using ⟨hc, hfull⟩))

section
variable {s : State} (hcap : s.capturing = true)
include hcap

theorem opalCapEnd_full (hfull : 2 ^ s.opal.linesLog ≤ s.capFewest) :
    opalCapEnd s = s.captureFilled.captureEnd 1 := by
  have hlines (c : Nat) : ((s.wr Reg.OPAL_CAP_CLIPPED_COUNT 0).when (s.opal.kind == 1)
      (·.wr Reg.OPAL_CAP_BAD_COUNT 0)).captureLines c = s.captureLines c :=
    (State.when_proj (·.captureLines c) (s.wr Reg.OPAL_CAP_CLIPPED_COUNT 0) (s.opal.kind == 1)
      (·.wr Reg.OPAL_CAP_BAD_COUNT 0) (State.captureLines_wr _ Reg.OPAL_CAP_BAD_COUNT 0 0 0 0 c)).trans
      (s.captureLines_wr Reg.OPAL_CAP_CLIPPED_COUNT 0 0 0 0 c)
  simp only [opalCapEnd, hcap, if_pos hfull, hlines, State.captureFilled]
  rfl

theorem opalCapEnd_short (hshort : s.capFewest < 2 ^ s.opal.linesLog)
    (hlast : s.opal.start + 2 * 2 ^ s.opal.linesLog < s.lt.line) : opalCapEnd s = s.captureEnd 2 := by
  simp [opalCapEnd, hcap, Nat.not_le.mpr hshort, hlast]

theorem opalCapEnd_goesOn (hshort : s.capFewest < 2 ^ s.opal.linesLog)
    (hlast : s.lt.line ≤ s.opal.start + 2 * 2 ^ s.opal.linesLog) : opalCapEnd s = s := by
  simp [opalCapEnd, hcap, Nat.not_le.mpr hshort, Nat.not_lt.mpr hlast]

end

/-- The end of a capture shows its outcome and changes no image and no header (R142). -/
theorem State.captureEnd_spec (s : State) (outcome : Nat) {t : State} (ht : t = s.captureEnd outcome) :
    t.rd Reg.OPAL_CAP_STATUS_STATE = 0 ∧ t.rd Reg.OPAL_CAP_STATUS_OUTCOME = outcome % 2 ^ 4 ∧
      t.opal.memory = s.opal.memory ∧
      (∀ c, t.rd Reg.OPAL_HDR_VALID 4 c = s.rd Reg.OPAL_HDR_VALID 4 c) ∧ EventsKept s t := by
  subst ht
  have hkey (c : Nat) (r : Row) (hr : r.page = 0x140 ∧ r.offset = 0x30 ∧ r.lo < 32) :
      Reg.OPAL_HDR_VALID.key 4 c 0 ≠ r.key 0 0 0 := by
    simp only [Row.key]; omega
  have hstate : Reg.OPAL_CAP_STATUS_STATE.key 0 0 0 ≠ Reg.OPAL_CAP_STATUS_OUTCOME.key 0 0 0 := by decide
  unfold State.captureEnd
  extract_lets last u1 u2 o u3
  have h3 : EventsKept s u3 := (((EventsKept.refl s).wr Reg.OPAL_CAP_STATUS_LINES s.capFewest 0 0 0).wr
    Reg.OPAL_CAP_STATUS_STATE 0 0 0 0).wr Reg.OPAL_CAP_STATUS_OUTCOME outcome 0 0 0
  have hrd (e : Event) (q : Row) (k i : Nat) : (u3.raise e).rd q k i = u2.rd q k i := (told_raise u3 e 0).rd ..
  refine ⟨?_, ?_, ?_, fun c => ?_, h3.raise _ _⟩
  · rewrite [hrd, State.rd_wr_ne (h := hstate), State.rd_wr_self]
    exact Nat.zero_mod _
  · rw [hrd, State.rd_wr_self]
  · simp only [State.raise_opal, u3, u2, u1, o, State.wr_opal]
  · rw [hrd, State.rd_wr_ne (h := hkey c _ (by decide)), State.rd_wr_ne (h := hkey c _ (by decide)),
      State.rd_wr_ne (h := hkey c _ (by decide))]

/-! ## The transfer aperture (R162) -/

theorem State.xferAdvance_opal (s : State) (w : Nat) : (s.xferAdvance w).opal = s.opal :=
  State.when_proj (·.opal) _ _ _ (State.wr_opal ..)

theorem State.xferAdvance_nt (s : State) (w : Nat) : (s.xferAdvance w).nt = s.nt :=
  State.when_proj (·.nt) _ _ _ (State.wr_nt ..)

theorem State.xferAdvance_out (s : State) (w : Nat) : (s.xferAdvance w).out = s.out :=
  State.when_proj (·.out) _ _ _ (State.wr_out ..)

/-- An access to the last word of the window, and no other, moves the window on. -/
theorem State.xferAdvance_addr (s : State) (w : Nat) : (s.xferAdvance w).rd Reg.XFER_ADDR_ADDR =
    if w = 511 then (s.rd Reg.XFER_ADDR_ADDR + 1) % 2 ^ Reg.XFER_ADDR_ADDR.width else s.rd Reg.XFER_ADDR_ADDR := by
  by_cases hw : w = 511
  · simp [State.xferAdvance, hw]
  · have hbeq : (w == 511) = false := beq_false_of_ne hw
    rw [State.xferAdvance, hbeq, if_neg hw, State.when_false]

/-- What an access outside the image, or a refused one, tells stands once the window has moved on. -/
theorem State.raise_xferAdvance (s : State) (e : Event) (w : Nat) :
    ((s.raise e).xferAdvance w).opal = s.opal ∧ ((s.raise e).xferAdvance w).eventSet e = true ∧
      EventsKept s ((s.raise e).xferAdvance w) := by
  have hset : ((s.raise e).xferAdvance w).nt = (s.raise e).nt := State.xferAdvance_nt _ w
  refine ⟨?_, ?_, (eventsKept_raise s e 0).trans (.of_eq (by rw [hset]))⟩
  · rw [State.xferAdvance_opal, State.raise_opal]
  · rw [State.eventSet, hset]
    exact s.raise_eventSet e 0

section
variable {s : State} {w : Nat}

theorem xferWindowAccess_write (s : State) (agent w v : Nat) :
    xferWindowAccess agent w 0 4 (some v) s = xferWrite w (v % 2 ^ 32) s := rfl

theorem xferWindowAccess_read (s : State) (agent w : Nat) : xferWindowAccess agent w 0 4 none s =
    (xferRead w s).1.emit (.readData agent 0x141 (0x800 + 4 * w) (xferRead w s).2) := rfl

theorem xferRead_within (h : s.xferByte w < imageSize (s.rd Reg.XFER_IMAGE_IMAGE)) :
    xferRead w s =
      (s.xferAdvance w, s.imageWord (s.opal.roles.getD (s.rd Reg.XFER_IMAGE_IMAGE) 0) (s.xferByte w)) := by
  simp [xferRead, Nat.not_le.mpr h]

theorem xferRead_beyond (h : imageSize (s.rd Reg.XFER_IMAGE_IMAGE) ≤ s.xferByte w) :
    xferRead w s = ((s.raise Ev.XFER_RANGE).xferAdvance w, 0) := by
  simp [xferRead, h]

theorem xferWrite_refused (h : s.xferByte w < imageSize (s.rd Reg.XFER_IMAGE_IMAGE))
    (hrefused : s.xferRefused (s.rd Reg.XFER_IMAGE_IMAGE) = true) (v : Nat) :
    xferWrite w v s = (s.raise Ev.XFER_REFUSED).xferAdvance w := by
  simp [xferWrite, Nat.not_le.mpr h, hrefused]

/-- A write that nothing turns away waits until it is stored. -/
theorem xferWrite_pends (h : s.xferByte w < imageSize (s.rd Reg.XFER_IMAGE_IMAGE))
    (hrefused : s.xferRefused (s.rd Reg.XFER_IMAGE_IMAGE) = false) (v : Nat) :
    (xferWrite w v s).opal.writes =
        s.opal.writes ++ [(s.opal.roles.getD (s.rd Reg.XFER_IMAGE_IMAGE) 0, s.xferByte w, v)] ∧
      (xferWrite w v s).opal.memory = s.opal.memory ∧ (xferWrite w v s).rd Reg.XFER_ADDR_ADDR =
        if w = 511 then (s.rd Reg.XFER_ADDR_ADDR + 1) % 2 ^ Reg.XFER_ADDR_ADDR.width else s.rd Reg.XFER_ADDR_ADDR := by
  simp only [xferWrite, if_neg (Nat.not_le.mpr h), hrefused, Bool.false_eq_true, if_false, State.xferAdvance_opal,
    State.xferAdvance_addr]
  exact ⟨trivial, trivial, rfl⟩

/-- With no write pending an image's word is the one stored. -/
theorem State.imageWord_stored (h : s.opal.writes = []) (p b : Nat) :
    s.imageWord p b = s.half p (b / 2) + s.half p (b / 2 + 1) <<< 16 := by
  simp [State.imageWord, h]

end

/-! ## The pending write (R141, R162) -/

/-- An Opal set has no reserved halfword. -/
theorem State.putHalf_set {p : Nat} (hp : p < 5) (s : State) (i v : Nat) : s.putHalf p i v =
    { s with opal := { s.opal with memory := tput (p * 1048576 + i) (v % 65536) s.opal.memory } } := by
  simp [State.putHalf, imageKind, hp]

theorem State.half_putHalf_self {p : Nat} (hp : p < 5) (s : State) (i v : Nat) :
    (s.putHalf p i v).half p i = v % 65536 := by
  simp [State.putHalf_set hp, State.half]

theorem State.half_putHalf_ne {p : Nat} (hp : p < 5) (s : State) {i k : Nat} (h : k ≠ i) (v : Nat) :
    (s.putHalf p i v).half p k = s.half p k := by
  have hkey : p * 1048576 + k ≠ p * 1048576 + i := by omega
  simp [State.putHalf_set hp, State.half, State.imageReset, tfind_tput_ne hkey]

theorem xferWriteStored_cons {s : State} {p b v : Nat} {l : List (Nat × Nat × Nat)}
    (h : s.opal.writes = (p, b, v) :: l) : xferWriteStored s =
      (({ s with opal := { s.opal with writes := l } } : State).putHalf p (b / 2) (v % 65536)).putHalf p (b / 2 + 1)
        (v / 65536) := by
  simp [xferWriteStored, h]

/-- The oldest pending write to an Opal set becomes the two halfwords of its word, and no other halfword changes. -/
theorem xferWriteStored_spec {s : State} {p b v : Nat} {l : List (Nat × Nat × Nat)}
    (h : s.opal.writes = (p, b, v) :: l) (hp : p < 5) (hv : v < 2 ^ 32) :
    (xferWriteStored s).half p (b / 2) = v % 2 ^ 16 ∧ (xferWriteStored s).half p (b / 2 + 1) = v / 2 ^ 16 ∧
      (xferWriteStored s).opal.writes = l ∧
      (∀ i, i < 1048576 → i ≠ b / 2 → i ≠ b / 2 + 1 → (xferWriteStored s).half p i = s.half p i) ∧
      OnlyChanges [.opal] s (xferWriteStored s) := by
  refine ⟨?_, ?_, ?_, fun i _ hlo hhi => ?_,
    (frame_xferWriteStored (M := Part.mask [.opal]) (by decide) (.refl s)).onlyChanges⟩ <;> rw [xferWriteStored_cons h]
  · rw [State.half_putHalf_ne hp _ (by omega), State.half_putHalf_self hp]
    omega
  · rw [State.half_putHalf_self hp]
    omega
  · simp [State.putHalf_set hp]
  · rw [State.half_putHalf_ne hp _ hhi, State.half_putHalf_ne hp _ hlo]
    rfl

/-! ## The reset of the paper-white gains (R155) -/

/-- A field that a host's word does not hold reads as before. -/
theorem rd_hostWord_ne {p o : Nat} {q : Row} {a b c : Nat}
    (h : ∀ f ∈ fieldsAt p o, q.key a b c ≠ f.1.key f.2.1 f.2.2.1 f.2.2.2) (s : State) (v : Nat) :
    (s.hostWord p o v).rd q a b c = s.rd q a b c := by
  have hfield (f : Row × Nat × Nat × Nat) (hf : q.key a b c ≠ f.1.key f.2.1 f.2.2.1 f.2.2.2) (s : State) :
      (s.hostField v f).rd q a b c = s.rd q a b c := by
    unfold State.hostField
    extract_lets r x
    split
    · exact State.rd_wr_ne (h := hf) ..
    · exact State.rd_shadowWr ..
    · exact State.rd_wr_ne (h := hf) ..
    · rfl
    · rfl
  unfold State.hostWord
  generalize fieldsAt p o = l at h
  induction l generalizing s with
  | nil => rfl
  | cons f fs ih =>
    rw [State.each_cons, ih _ (fun g hg => h g (List.mem_cons_of_mem f hg)), hfield f (h f List.mem_cons_self)]

/-- The PW_GAIN registers of segment `j` show the gains `g` (R154). -/
def State.Shows (s : State) (g : PwGain) (j : Nat) : Prop :=
  s.rd Reg.PW_GAIN_RED (j / 8) (j % 8) = g.red % 2 ^ 16 ∧ s.rd Reg.PW_GAIN_GREEN (j / 8) (j % 8) = g.green % 2 ^ 16 ∧
    s.rd Reg.PW_GAIN_BLUE (j / 8) (j % 8) = g.blue % 2 ^ 16 ∧
    s.rd Reg.PW_GAIN_AT_LIMIT (j / 8) (j % 8) = (g.redLimit || g.greenLimit || g.blueLimit).toNat

theorem State.showGain_shows (s : State) (g : PwGain) (j : Nat) : (s.showGain j g).Shows g j := by
  unfold State.showGain State.Shows State.wrB
  refine ⟨?_, ?_, ?_, ?_⟩
  · rw [State.rd_wr_ne, State.rd_wr_ne, State.rd_wr_ne, State.rd_wr_self] <;> simp only [Row.key] <;> omega
  · rw [State.rd_wr_ne, State.rd_wr_ne, State.rd_wr_self] <;> simp only [Row.key] <;> omega
  · rw [State.rd_wr_ne, State.rd_wr_self]
    simp only [Row.key]
    omega
  · rw [State.rd_wr_self]
    cases g.redLimit || g.greenLimit || g.blueLimit <;> rfl

/-- The registers of a segment are no other segment's. -/
theorem State.showGain_other {i j : Nat} (h : j ≠ i) (s : State) (g f : PwGain) (hs : s.Shows g j) :
    (s.showGain i f).Shows g j := by
  have hkept (r : Row) (hr : r = Reg.PW_GAIN_RED ∨ r = Reg.PW_GAIN_GREEN ∨ r = Reg.PW_GAIN_BLUE ∨
      r = Reg.PW_GAIN_AT_LIMIT) : (s.showGain i f).rd r (j / 8) (j % 8) = s.rd r (j / 8) (j % 8) := by
    unfold State.showGain State.wrB
    rcases hr with rfl | rfl | rfl | rfl
    all_goals
      rw [State.rd_wr_ne, State.rd_wr_ne, State.rd_wr_ne, State.rd_wr_ne] <;> simp only [Row.key] <;> omega
  obtain ⟨hred, hgreen, hblue, hlimit⟩ := hs
  exact ⟨by rw [hkept _ (.inl rfl), hred], by rw [hkept _ (.inr (.inl rfl)), hgreen],
    by rw [hkept _ (.inr (.inr (.inl rfl))), hblue], by rw [hkept _ (.inr (.inr (.inr rfl))), hlimit]⟩

/-- The registers of the segments `js` show the gains in force for line `y` (R154). -/
theorem State.showGains_shows (s : State) (y : Nat) {js : List Nat} {j : Nat} (hj : j ∈ js) :
    (s.showGains y js).Shows ((s.pw.at y).getD j {}) j := by
  unfold State.showGains
  generalize s.pw.at y = gs
  exact State.each_establishes (P := fun s j => s.Shows (gs.getD j {}) j) (fun s j => s.showGain_shows _ j)
    (fun s i j hij => State.showGain_other hij s _ _) js s j (.inl hj)

/-- The host's word of a reset leaves the run, the lines and the gains as they were. -/
theorem pwReset_hostWord (s : State) (v : Nat) : (s.hostWord 0x147 0x20 v).running = s.running ∧
    (s.hostWord 0x147 0x20 v).lt = s.lt ∧ (s.hostWord 0x147 0x20 v).pw = s.pw := by
  have hframe : Frame 0x7 s (s.hostWord 0x147 0x20 v) := frame_hostWord (hc := by decide) (hk := .refl s) ..
  exact ⟨congrArg (· != 0) (rd_hostWord_ne (by decide) s v), hframe.1 .lt rfl, hframe.1 .pw rfl⟩

theorem pwReset_onlyChanges (s : State) (v : Nat) : OnlyChanges [.regs, .force, .shadow, .pw] s (pwReset v s) :=
  (frame_pwReset (M := Part.mask [.regs, .force, .shadow, .pw]) v (by decide) (.refl s)).onlyChanges

section
variable {s : State} {v : Nat} (hreset : v.testBit 2 = true)
include hreset

/-- In a run the gains are cleared from 64 lines on. -/
theorem pwReset_run (hrun : s.running = true) :
    (pwReset v s).pw.resetAt = some (s.lt.line + 64) ∧ (pwReset v s).pw.gains = (s.lt.line + 64, []) :: s.pw.gains := by
  obtain ⟨hrunning, hlt, hpw⟩ := pwReset_hostWord s v
  have hstate : pwReset v s = ({ s.hostWord 0x147 0x20 v with
      pw := { (s.hostWord 0x147 0x20 v).pw with resetAt := some ((s.hostWord 0x147 0x20 v).lt.line + 64) } } :
      State).pwClear ((s.hostWord 0x147 0x20 v).lt.line + 64) := by
    simp only [pwReset, hreset, hrunning, hrun]
    rfl
  rw [hstate, hlt, hpw]
  exact ⟨rfl, rfl⟩

/-- Without a run they are cleared at once, and shown so. -/
theorem pwReset_idle (hrun : s.running = false) :
    (pwReset v s).pw.gains = [] ∧ ∀ j, j < 96 → (pwReset v s).Shows {} j := by
  obtain ⟨hrunning, -, -⟩ := pwReset_hostWord s v
  have hstate : pwReset v s = ({ s.hostWord 0x147 0x20 v with
      pw := { (s.hostWord 0x147 0x20 v).pw with gains := [], resetAt := none } } : State).showGains 0
        (List.range 96) := by
    simp only [pwReset, hreset, hrunning, hrun]
    rfl
  rw [hstate]
  exact ⟨congrArg PaperWhite.gains ((State.showGains_frame _ 0 (List.range 96)).1 .pw rfl),
    fun j hj => State.showGains_shows _ 0 (List.mem_range.mpr hj)⟩

end

/-! ## The statement -/

theorem exec_opalCapGo {s : State} (h : s.alive = true) (v : Word) :
    exec (.opalCapGo v) s = .next (opalCapGo v.toNat s) := congrArg Host.Outcome.next (State.powered_alive h _)

theorem exec_opalCapEnd {s : State} (h : s.alive = true) :
    exec .opalCapEnd s = .next (opalCapEnd s) := congrArg Host.Outcome.next (State.powered_alive h _)

theorem exec_xferWindowAccess {s : State} (h : s.alive = true) (agent : Agent) (w : Fin 512)
    (value : Option (BitVec 64)) : exec (.xferWindowAccess agent none w 0 4 value) s =
      .next (xferWindowAccess agent w 0 4 (value.map (·.toNat)) s) :=
  congrArg Host.Outcome.next (State.powered_alive h _)

theorem exec_xferWriteStored {s : State} (h : s.alive = true) :
    exec .xferWriteStored s = .next (xferWriteStored s) := congrArg Host.Outcome.next (State.powered_alive h _)

theorem exec_pwReset {s : State} (h : s.alive = true) (v : Word) :
    exec (.pwReset v) s = .next (pwReset v.toNat s) := congrArg Host.Outcome.next (State.powered_alive h _)

/-- Settles O7: captures, the aperture, its pending write and the reset, each by the lemmas of its own section. -/
theorem opalImages : Obligations.OpalImages := by
  unfold Obligations.OpalImages
  refine ⟨?go, ?capEnd, ?xfer, ?stored, ?reset⟩
  case go =>
    intro s v halive ignored hignored
    have hignored : ignored = s.captureIgnored := hignored
    refine ⟨fun hgo h => ⟨_, exec_opalCapGo halive v, ?_⟩, fun hgo h => ⟨_, exec_opalCapGo halive v, ?_⟩⟩
    · rw [opalCapGo_ignored hgo (hignored.symm.trans h)]
      exact ⟨told_raise s _ 0, s.raise_eventSet _ 0, eventsKept_raise s _ 0⟩
    · exact s.captureBegun_spec v.toNat (opalCapGo_begins hgo (hignored.symm.trans h))
  case capEnd =>
    rintro s halive hcap n rfl
    refine ⟨fun hfull => ⟨_, exec_opalCapEnd halive, ?_⟩, fun hshort hlast => ⟨_, exec_opalCapEnd halive, ?_⟩,
      fun hshort hlast => ⟨_, exec_opalCapEnd halive, opalCapEnd_goesOn hcap hshort hlast⟩⟩
    · obtain ⟨hstate, houtcome, -, hheader, hkept⟩ := s.captureFilled.captureEnd_spec 1 rfl
      rw [opalCapEnd_full hcap hfull]
      exact ⟨hstate, houtcome, State.raise_eventSet .., fun c hc hlines =>
        (hheader c).trans (s.captureFilled_header hc hlines), (s.captureFilled_frame.eventsKept rfl).trans hkept⟩
    · obtain ⟨hstate, houtcome, hmemory, -, hkept⟩ := s.captureEnd_spec 2 rfl
      rw [opalCapEnd_short hcap hshort hlast]
      exact ⟨hstate, houtcome, State.raise_eventSet .., hmemory, hkept⟩
  case xfer =>
    rintro s agent w halive image rfl b rfl
    have hword (v : Word) : (v.setWidth 64).toNat % 2 ^ 32 = v.toNat := by
      have hv := v.isLt
      rw [BitVec.toNat_setWidth]
      omega
    have hexec (value : Option (BitVec 64)) := exec_xferWindowAccess halive agent w value
    refine ⟨fun v hin hfree => ⟨_, hexec _, ?_⟩, fun v hin hrefused => ⟨_, hexec _, ?_⟩,
      fun hin hnone => ⟨_, hexec _, ?_⟩, fun hout => ⟨_, hexec _, ?_⟩⟩
    · rw [Option.map_some, xferWindowAccess_write, hword]
      exact xferWrite_pends hin hfree v.toNat
    · rw [Option.map_some, xferWindowAccess_write, hword, xferWrite_refused hin hrefused]
      exact s.raise_xferAdvance Ev.XFER_REFUSED w
    · rw [Option.map_none, xferWindowAccess_read, xferRead_within hin, State.imageWord_stored hnone]
      exact ⟨congrArg _ (s.xferAdvance_out w), s.xferAdvance_opal w⟩
    · rw [Option.map_none, xferWindowAccess_read, xferRead_beyond hout]
      obtain ⟨hopal, hset, hkept⟩ := s.raise_xferAdvance Ev.XFER_RANGE w
      exact ⟨rfl, hopal, hset, hkept⟩
  case stored =>
    intro s p b v l halive hwrites hp hv
    exact ⟨_, exec_xferWriteStored halive, xferWriteStored_spec hwrites hp hv⟩
  case reset =>
    intro s v halive hreset
    refine ⟨fun hrun => ⟨_, exec_pwReset halive v, ?_⟩, fun hrun => ⟨_, exec_pwReset halive v, ?_⟩⟩
    · obtain ⟨hat, hgains⟩ := pwReset_run hreset hrun
      exact ⟨hat, hgains, pwReset_onlyChanges s v.toNat⟩
    · obtain ⟨hgains, hshows⟩ := pwReset_idle hreset hrun
      exact ⟨hgains, hshows, pwReset_onlyChanges s v.toNat⟩

end Sys2Proof.Machine
end

section
/-!
Where the statement about REF_LINES descriptors (R173) says that the context of the queue is still cached once a malformed
descriptor has completed: a load that waits for a cache entry may have evicted it (R373).
-/

namespace Sys2Proof.Machine

/-! ## A context that nothing holds any more, while a load waits (R372, R373) -/

/-- A queue without a begun descriptor and without an operation settles by letting a waiting load begin. -/
theorem State.settle_of_idle {s : State} {q : Nat} {x : Queue} (hq : s.queue q = some x) (hbegun : x.begun = [])
    (hending : x.ending = none) : s.settle q = s.retryStalled := by
  simp [State.settle, hq, hbegun, hending]

theorem State.dropContext_queue (s : State) (q : Nat) : (s.dropContext q).queue q = none := by
  unfold State.dropContext
  split
  · assumption
  · exact tfind_tdel_self q s.fr.queues

theorem State.freeEntry_full {s : State} {q : Nat} {x : Queue}
    (hfull : 8192 ≤ s.fr.queues.length + s.fr.loads.length) (hvictim : s.victim = some (q, x)) :
    s.freeEntry = some (((s.writeFields q).dropContext q).inc Reg.CTXC_EVICTS_COUNT) := by
  rw [State.freeEntry, if_neg (Nat.not_lt.mpr hfull), hvictim]

/-- In a full cache, a load that waits takes the entry of the victim. -/
theorem State.retryStalled_evicts {s : State} {q : Nat} {x : Queue} (hstalled : s.fr.stalled ≠ [])
    (hfull : 8192 ≤ s.fr.queues.length + s.fr.loads.length) (hvictim : s.victim = some (q, x)) :
    s.retryStalled.queue q = none := by
  obtain ⟨waiting, rest, hwaiting⟩ := List.exists_cons_of_ne_nil hstalled
  rw [State.retryStalled, hwaiting, State.freeEntry_full hfull hvictim]
  have hdropped := (s.writeFields q).dropContext_queue q
  rw [State.queue] at hdropped
  simp only [State.queue, State.inc, State.emit_fr, State.wr_fr, hdropped]

/-! ## A malformed descriptor in a full cache -/

/-- Queue 5, RUNNING, of type STREAM_IN, with completion queue 1; at its head a REF_LINES descriptor with index 2. -/
def refusedStream : Queue :=
  { host := [4 + 4 <<< 8, 0x1000, 0, 1 + 3 <<< 16], state := 1, prod := 3, cons := 2, head := some [2] }

/-- Completion queue 1, pinned by its PIN bit. -/
def pinnedCompletion : Queue := { host := [1 + 1 <<< 4 + 4 <<< 8], state := 1 }

/-- Domain 3 is ON, and the reference feed is not enabled. The cache is full: it holds queues 1 and 5, the other 8,190
entries await their loads, and a load of queue 9000 waits for an entry. -/
def crowdedCache : State :=
  { (State.reset.wr Reg.DOM_STATE_STATE 0o2000).wr Reg.TEN_VER_VER 2 with
    fr := { queues := [(1, pinnedCompletion), (5, refusedStream)], loads := List.range' 16 8190, stalled := [9000] } }

/-- The descriptor has begun, its completion record has been written, and it has left queue 5. -/
def crowdedAnswered : State :=
  ((crowdedCache.beginHead 5 [2]).complete 5 [2] 0x02 0 2).onQueue 5
    fun x => { x with begun := x.begun.filter fun b => b.index != 2 }

theorem refLines_malformed {s : State} {q : Nat} {x : Queue} {w : List Nat} (hhead : s.refHead q = some (x, w))
    (hfirst : x.early = false) (hdomain : s.domain 3 = 2) (hlimit : s.refEarly w = false) (hreason : s.refReason q w ≠ 0) :
    refLines q s = (s.finishHead q w 0x02 0 (s.refReason q w)).refMalformed.refWaiting := by
  simp [refLines, State.refTake, hhead, hfirst, hdomain, hlimit, hreason]

theorem State.finishHead_cached {s : State} {q : Nat} {x : Queue} (hq : s.queue q = some x) (w : List Nat)
    (status d0 d1 : Nat) : s.finishHead q w status d0 d1 = (s.beginHead q w).completeBegun q x.cons w status d0 d1 := by
  rw [State.finishHead, hq]

theorem crowdedCache_head : crowdedCache.refHead 5 = some (refusedStream, [2]) := rfl

theorem crowdedCache_domain : crowdedCache.domain 3 = 2 := by decide +kernel

theorem crowdedCache_limit : crowdedCache.refEarly [2] = false := by decide +kernel

theorem crowdedCache_reason : crowdedCache.refReason 5 [2] = 2 := by decide +kernel

theorem refLines_crowdedCache : refLines 5 crowdedCache = (crowdedAnswered.settle 5).refMalformed.refWaiting := by
  have hq : crowdedCache.queue 5 = some refusedStream := rfl
  rw [refLines_malformed crowdedCache_head rfl crowdedCache_domain crowdedCache_limit
    (crowdedCache_reason ▸ by decide), crowdedCache_reason, State.finishHead_cached hq, State.completeBegun,
    State.finishBegun, crowdedAnswered]
  rfl

theorem crowdedAnswered_idle : ∃ x, crowdedAnswered.queue 5 = some x ∧ x.begun = [] ∧ x.ending = none :=
  ⟨_, rfl, by decide +kernel, by decide +kernel⟩

theorem crowdedAnswered_full : 8192 ≤ crowdedAnswered.fr.queues.length + crowdedAnswered.fr.loads.length := by
  have hqueues : crowdedAnswered.fr.queues.length = 2 := by decide +kernel
  have hloads : crowdedAnswered.fr.loads = List.range' 16 8190 := rfl
  have hwaiting : crowdedAnswered.fr.loads.length = 8190 := by rw [hloads, List.length_range']
  omega

/-- Queue 1 is pinned, so it is queue 5 that eviction takes. -/
theorem crowdedAnswered_victim : ∃ x, crowdedAnswered.victim = some (5, x) := by
  have hvictim : crowdedAnswered.victim.map (·.1) = some 5 := by decide +kernel
  obtain ⟨⟨q, x⟩, hx, rfl⟩ := Option.map_eq_some_iff.mp hvictim
  exact ⟨x, hx⟩

theorem State.refMalformed_refWaiting_queue (s : State) (q : Nat) : s.refMalformed.refWaiting.queue q = s.queue q := by
  simp [State.queue, State.refMalformed, State.refWaiting, State.wrB, State.inc]

theorem refLines_crowdedCache_queue : (refLines 5 crowdedCache).queue 5 = none := by
  obtain ⟨x, hq, hbegun, hending⟩ := crowdedAnswered_idle
  obtain ⟨v, hvictim⟩ := crowdedAnswered_victim
  have hstalled : crowdedAnswered.fr.stalled ≠ [] := by decide +kernel
  rw [refLines_crowdedCache, State.refMalformed_refWaiting_queue, State.settle_of_idle hq hbegun hending]
  exact State.retryStalled_evicts hstalled crowdedAnswered_full hvictim

theorem exec_refLines {s : State} (h : s.alive = true) (q : Fin 262144) :
    exec (.refLines q) s = .next (refLines q s) := congrArg Host.Outcome.next (State.powered_alive h _)

/-- Refutes O8: the queue of a malformed descriptor need not be cached afterwards. As the descriptor completes, nothing
holds the context any longer, and a load that waits for an entry evicts it (`State.retryStalled`); CONS, which has passed
the descriptor, then stands in host memory. -/
theorem not_referenceFeed : ¬ Obligations.ReferenceFeed := by
  unfold Obligations.ReferenceFeed
  rintro ⟨hfetch, -⟩
  have halive : crowdedCache.alive = true := by decide
  obtain ⟨hmalformed, -⟩ := hfetch crowdedCache 5 halive refusedStream [2] crowdedCache_head crowdedCache_domain rfl
  have hreason : crowdedCache.refReason 5 [2] ≠ 0 := by rw [crowdedCache_reason]; decide
  obtain ⟨-, -, hcons, -⟩ := (hmalformed hreason crowdedCache_limit).of_next (exec_refLines halive 5)
  have hevicted : (refLines 5 crowdedCache).queue 5 = none := refLines_crowdedCache_queue
  have hcached : ((refLines 5 crowdedCache).queue 5).map (·.cons) = some ((refusedStream.cons + 1) % 2 ^ 32) := hcons
  rw [hevicted] at hcached
  exact absurd hcached (by decide)

end Sys2Proof.Machine
end

section
/-!
Where the statement about tile decisions (R193, R194) says of each failure counter that a decision leaves it at a value of
the field's width: the counters of reasons that do not apply are not written at all.
-/

namespace Sys2Proof.Machine

/-- Row 0 of job 1 is in progress, and every lane is past its last line; no line has been accumulated, so a tile of the row
has reason FEW. REG_FAIL_A.TEX stands at 2^16, above its 16 bits. No command leaves a field so, for a write keeps the bits
of the field's width (`regsPut`). But the statement speaks of every state, of this one too. -/
def texCountBeyondField : State :=
  { State.reset with
    regs := [(Reg.REG_FAIL_A_TEX.key 0 0 0, 2 ^ 16)]
    ref := { jobs := [{ id := 1 }] }
    reg := { current := some (1, 0, 0) }
    lanes := (List.range 12).map fun k => (k, { next := 128 }) }

theorem exec_regTileDecide {s : State} (h : s.alive = true) (c : Fin 1024) :
    exec (.regTileDecide c) s = .next (regTileDecide c s) := congrArg Host.Outcome.next (State.powered_alive h _)

/-- The decision of column 0 leaves REG_FAIL_A.TEX as it was. -/
theorem regTileDecide_texCountBeyondField_tex :
    (regTileDecide 0 texCountBeyondField).rd Reg.REG_FAIL_A_TEX = 2 ^ 16 := by decide +kernel

/-- Refutes O9: a decision writes the counter of the reason that applies (`State.countDecision`) and leaves the others as
they were, so a counter that holds more than its field's width still does, where the statement takes it modulo that
width. -/
theorem not_registrationRows : ¬ Obligations.RegistrationRows := by
  unfold Obligations.RegistrationRows
  rintro ⟨hdecide, -⟩
  have halive : texCountBeyondField.alive = true := by decide
  have hpast : texCountBeyondField.allPast 127 = true := by decide
  obtain ⟨-, -, -, htex, -⟩ :=
    (hdecide texCountBeyondField 0 halive (1, 0, 0) rfl { id := 1 } rfl 128 rfl _ rfl (by decide +kernel)
      (by decide +kernel) rfl hpast _ rfl).of_next (exec_regTileDecide halive 0)
  have hfits : (regTileDecide 0 texCountBeyondField).rd Reg.REG_FAIL_A_TEX < 2 ^ 16 :=
    Nat.lt_of_le_of_lt (Nat.le_of_eq htex) (Nat.mod_lt _ (by decide))
  rw [regTileDecide_texCountBeyondField_tex] at hfits
  exact absurd hfits (by decide)

end Sys2Proof.Machine
end

section
/-!
The records of comparison and products (R213, R218, R222 to R230, R240 to R257): what staging a record leaves, what is
left where a record is dropped, and what each of the commands that stage records makes of the state.
-/

namespace Sys2Proof.Machine

/-- A command of the supplied device completes in the state that its meaning gives. -/
theorem Completes.of_powered {c : Instr} {s : State} (f : State → State) {P : State → Prop} (halive : s.alive = true)
    (hx : exec c s = .next (s.powered f)) (h : P (f s)) : Completes c s P :=
  ⟨f s, hx.trans (congrArg Host.Outcome.next (State.powered_alive halive f)), h⟩

/-! ## Staging (R225, R238) -/

/-- The first key of the context cache's page, 0x302: the fields of comparison and of the products lie below it. -/
abbrev contextPageKey : Nat := 0x302 * 4096 * 32

theorem KeepsBelow.of_same {K : Nat} {s t : State} (hregs : t.regs = s.regs) (hforce : t.force = s.force)
    (hevents : t.nt.events = s.nt.events) : KeepsBelow K s t :=
  ⟨.of_eq hevents, fun q a b c _ => by simp [State.rd, State.store, hregs, hforce]⟩

theorem KeepsBelow.rd_eq {K : Nat} {s t : State} (h : KeepsBelow K s t) {q : Row} {a b c : Nat} (hq : q.key a b c < K) :
    t.rd q a b c = s.rd q a b c := h.2 q a b c hq

/-- The use of a cached context, or the load of one, leaves staging, events and the fields below the cache's page. -/
def KeepsStaging (s t : State) : Prop := KeepsBelow contextPageKey s t ∧ t.fr.staged = s.fr.staged

theorem KeepsStaging.refl (s : State) : KeepsStaging s s := ⟨.refl s, rfl⟩

theorem KeepsStaging.trans {s t u : State} (h : KeepsStaging s t) (g : KeepsStaging t u) : KeepsStaging s u :=
  ⟨h.1.trans g.1, g.2.trans h.2⟩

theorem KeepsStaging.inc {s t : State} (h : KeepsStaging s t) {r : Row} (hr : contextPageKey ≤ r.key 0 0 0) :
    KeepsStaging s (t.inc r) := ⟨h.1.wr hr, by rw [State.inc, State.wr_fr, h.2]⟩

theorem State.writeFields_keepsStaging (s : State) (q : Nat) : KeepsStaging s (s.writeFields q) := by
  unfold State.writeFields
  split
  · exact ⟨.of_same rfl rfl rfl, rfl⟩
  · exact .refl s

theorem State.dropContext_keepsStaging (s : State) (q : Nat) : KeepsStaging s (s.dropContext q) := by
  unfold State.dropContext
  split
  · exact .refl s
  · exact ⟨.of_same rfl rfl rfl, rfl⟩

theorem State.freeEntry_keepsStaging {s t : State} (h : s.freeEntry = some t) : KeepsStaging s t := by
  unfold State.freeEntry at h
  split at h
  · obtain rfl := Option.some.inj h
    exact .refl s
  · split at h
    · cases h
    · obtain rfl := Option.some.inj h
      exact ((s.writeFields_keepsStaging _).trans (State.dropContext_keepsStaging _ _)).inc (by decide)

theorem State.needContext_keepsStaging (s : State) (q : Nat) : KeepsStaging s (s.needContext q) := by
  unfold State.needContext
  split
  · exact .refl s
  · extract_lets t
    have hmiss : KeepsStaging s t := (KeepsStaging.refl s).inc (by decide)
    clear_value t
    split
    next u hfree => exact (hmiss.trans (State.freeEntry_keepsStaging hfree)).trans ⟨.of_same rfl rfl rfl, rfl⟩
    next =>
      have hwait : KeepsStaging t { t with fr := { t.fr with stalled := t.fr.stalled ++ [q] } } :=
        ⟨.of_same rfl rfl rfl, rfl⟩
      obtain ⟨hbelow, hstaged⟩ := (hmiss.trans hwait).inc (r := Reg.CTXC_STALLS_COUNT) (by decide)
      exact ⟨hbelow.raise _ _, by rw [State.raise_fr]; exact hstaged⟩

/-- A record whose kind does not wait for space goes to a stream queue. -/
theorem kindType_of_not_waits {kind : Nat} (h : kindWaits kind = false) : kindType kind = 5 := by
  simp only [kindWaits, decide_eq_false_iff_not] at h
  unfold kindType
  rw [if_neg (by omega), if_neg (by omega)]

/-- A record that can be staged is staged: the queue's context is used, or loaded. -/
theorem State.stage_eq {s : State} {r : Staged} (h : s.Stages r) (hport : r.kind ≠ 4) :
    ∃ t, KeepsStaging s t ∧ t.comp = s.comp ∧ t.mp = s.mp ∧
      s.stage true r = { t with fr := { t.fr with staged := t.fr.staged ++ [r] } } := by
  obtain ⟨htakes, hslot, hspace⟩ := h
  have hwaits : (!kindWaits r.kind && !s.streamSpace r.queue r.blocks) = false := by
    cases hw : kindWaits r.kind
    · simp [hspace (kindType_of_not_waits hw)]
    · simp
  have hrecord : s.takesRecord r = true := by simp [State.takesRecord, htakes, hport]
  refine ⟨if (s.queue r.queue).isSome then s.hit else s.needContext r.queue, ?_, ?_, ?_, ?_⟩
  · split
    · exact (KeepsStaging.refl s).inc (by decide)
    · exact s.needContext_keepsStaging _
  · split
    · exact State.wr_comp ..
    · exact (frame_needContext (M := 0x100010000013) _ (by decide) (.refl s)).1 .comp (by decide)
  · split
    · exact State.wr_mp ..
    · exact (frame_needContext (M := 0x100010000013) _ (by decide) (.refl s)).1 .mp (by decide)
  · simp [State.stage, hrecord, hslot, hwaits]

/-- What staging leaves: the record stands last in staging; comparison, the products and the fields below the cache's
page are as they were, and no event is cleared. -/
theorem State.stage_spec {s : State} {r : Staged} (h : s.Stages r) (hport : r.kind ≠ 4) {t : State}
    (ht : t = s.stage true r) :
    t.fr.staged = s.fr.staged ++ [r] ∧ t.comp = s.comp ∧ t.mp = s.mp ∧ KeepsBelow contextPageKey s t := by
  obtain ⟨u, ⟨hbelow, hstaged⟩, hcomp, hmp, heq⟩ := State.stage_eq h hport
  subst ht
  rw [heq]
  exact ⟨congrArg (· ++ [r]) hstaged, hcomp, hmp, hbelow.trans (.of_same rfl rfl rfl)⟩

theorem State.stage_drops {s : State} {valid : Bool} {r : Staged}
    (h : valid = false ∨ s.queueTakes r.queue r.kind = false ∨ s.slotFree r = false) :
    s.stage valid r = s.recordDropped r := by
  rcases h with h | h | h <;> simp [State.stage, State.takesRecord, h]

/-- What looks at the queues and staging alone does not tell states apart that agree there. -/
theorem State.fr_congr {α : Type} {s t : State} (h : t.fr = s.fr) (g : State → α)
    (hg : ∀ s t : State, g t = g { s with fr := t.fr }) : g t = g s := by
  rw [hg s t, h]

section
variable {s t : State} (h : t.fr = s.fr)
include h

theorem State.queueTakes_congr (q kind : Nat) : t.queueTakes q kind = s.queueTakes q kind :=
  State.fr_congr h (·.queueTakes q kind) fun _ _ => rfl

theorem State.slotFree_congr (r : Staged) : t.slotFree r = s.slotFree r :=
  State.fr_congr h (·.slotFree r) fun _ _ => rfl

theorem State.streamSpace_congr (q n : Nat) : t.streamSpace q n = s.streamSpace q n :=
  State.fr_congr h (·.streamSpace q n) fun _ _ => rfl

theorem State.stages_congr (r : Staged) : t.Stages r ↔ s.Stages r := by
  simp only [State.Stages, State.queueTakes_congr h, State.slotFree_congr h, State.streamSpace_congr h]

end

/-- The state with other contents of comparison. -/
def State.withComp (s : State) (c : Compare) : State := { s with comp := c }

theorem State.stages_withComp (s : State) (c : Compare) (r : Staged) : (s.withComp c).Stages r ↔ s.Stages r :=
  State.stages_congr rfl r

theorem State.stagedOk_stages {s : State} {r : Staged} (h : s.Stages r) (hport : r.kind ≠ 4) :
    s.stagedOk r = (s.stage true r, true) := by
  obtain ⟨hstaged, -⟩ := State.stage_spec h hport rfl
  simp [State.stagedOk, hstaged]

theorem State.recordDropped_fr (s : State) (r : Staged) : (s.recordDropped r).fr = s.fr :=
  (frame_recordDropped (M := 0x10000c000013) r (by decide) (.refl s)).1 .fr (by decide)

theorem State.stagedOk_drops {s : State} {r : Staged} (h : s.queueTakes r.queue r.kind = false) :
    s.stagedOk r = (s.recordDropped r, false) := by
  simp [State.stagedOk, State.stage_drops (.inr (.inl h)), State.recordDropped_fr]

/-! ## Drops (R225, R238) -/

/-- A count with its event: the field holds the count, the event is set and no other is cleared. -/
theorem State.wr_raise_spec (s : State) (r : Row) (v : Nat) (e : Event) {t : State} (ht : t = (s.wr r v).raise e) :
    t.rd r = v % 2 ^ r.width ∧ t.eventSet e = true ∧ EventsKept s t := by
  subst ht
  exact ⟨((told_raise _ _ _).rd ..).trans (State.rd_wr_self ..), State.raise_eventSet ..,
    ((EventsKept.refl s).wr r v 0 0 0).raise e 0⟩

theorem State.onItem_eq (s : State) (n : Option Nat) (f : Item → Item) :
    ∃ items, s.onItem n f = { s with comp := { s.comp with items := items } } := by
  unfold State.onItem
  split
  · exact ⟨_, rfl⟩
  · split <;> exact ⟨_, rfl⟩

/-- Dropping a blob's record counts it, here and with its item (R225). -/
theorem State.recordDropped_blob (s : State) {r : Staged} (hr : r.kind = 0) {t : State} (ht : t = s.recordDropped r) :
    t.comp.closed = s.comp.closed ∧ t.rd Reg.COMP_DROP_BLOB = (s.rd Reg.COMP_DROP_BLOB + 1) % 2 ^ 16 ∧
      t.eventSet Ev.COMP_BLOB_DROP = true ∧ EventsKept s t := by
  obtain ⟨items, hitems⟩ := ((s.inc Reg.COMP_DROP_BLOB).raise Ev.COMP_BLOB_DROP).onItem_eq r.item fun i =>
    { i with dropped := satAdd 16 i.dropped 1 }
  simp only [State.recordDropped, hr, hitems] at ht
  subst ht
  obtain ⟨hrd, hset, hkept⟩ := s.wr_raise_spec Reg.COMP_DROP_BLOB (s.rd Reg.COMP_DROP_BLOB + 1) Ev.COMP_BLOB_DROP rfl
  exact ⟨by simp [State.inc], hrd, hset, hkept⟩

/-- Dropping a verdict counts it for the queue's next one (R225). -/
theorem State.recordDropped_verdict (s : State) {r : Staged} (hr : r.kind = 1) {t : State}
    (ht : t = s.recordDropped r) :
    t.eventSet Ev.COMP_VERDICT_DROP = true ∧
      sget t.comp.lost r.queue = min 65535 (sget s.comp.lost r.queue + 1) ∧ EventsKept s t := by
  simp only [State.recordDropped, hr] at ht
  subst ht
  obtain ⟨-, hset, hkept⟩ :=
    s.wr_raise_spec Reg.COMP_DROP_VERDICT (s.rd Reg.COMP_DROP_VERDICT + 1) Ev.COMP_VERDICT_DROP rfl
  exact ⟨hset, by simp [State.inc, satAdd], hkept⟩

/-- A measurement without a queue is dropped: its count saturates (R238). -/
theorem State.incSat_raise_spec (s : State) {r : Row} (hr : r.width = 16) (e : Event) {t : State}
    (ht : t = (s.incSat r).raise e) :
    t.rd r = min 65535 (s.rd r + 1) ∧ t.eventSet e = true ∧ EventsKept s t := by
  obtain ⟨hrd, hset⟩ := s.wr_raise_spec r (satAdd r.width (s.rd r) 1) e ht
  refine ⟨?_, hset⟩
  rw [hrd, hr, satAdd]
  omega

/-! ## Fields of records (R218, R224, R228, R242, R246) -/

/-- What a field adds to word `i` of its record. -/
def fieldPart (i : Nat) (f : RecField) : Nat := if f.1 = 4 * i then (f.2.2.2 % 2 ^ f.2.2.1) <<< f.2.1 else 0

theorem recordWord_eq_sum (fs : List RecField) (i : Nat) : recordWord fs i = (fs.map (fieldPart i)).sum := by
  suffices h : ∀ w, fs.foldl (fun w f => if f.1 = 4 * i then w + (f.2.2.2 % 2 ^ f.2.2.1) <<< f.2.1 else w) w =
      w + (fs.map (fieldPart i)).sum from (h 0).trans (Nat.zero_add _)
  induction fs with
  | nil => simp
  | cons f fs ih =>
    intro w
    rw [List.foldl_cons, ih, List.map_cons, List.sum_cons, fieldPart]
    split <;> omega

/-- Fields at bit `k` and above leave the bits below clear. -/
theorem two_pow_dvd_recordWord {k i : Nat} {fs : List RecField}
    (h : (fs.all fun f => f.1 != 4 * i || decide (k ≤ f.2.1)) = true) : 2 ^ k ∣ recordWord fs i := by
  rw [recordWord_eq_sum]
  induction fs with
  | nil => exact Nat.dvd_zero _
  | cons f fs ih =>
    rw [List.all_cons, Bool.and_eq_true] at h
    obtain ⟨hfield, hrest⟩ := h
    rw [List.map_cons, List.sum_cons]
    refine Nat.dvd_add ?_ (ih hrest)
    unfold fieldPart
    split
    next hi =>
      rw [hi, bne_self_eq_false, Bool.false_or] at hfield
      rw [Nat.shiftLeft_eq]
      exact Nat.dvd_mul_left_of_dvd (Nat.pow_dvd_pow 2 (of_decide_eq_true hfield)) _
    next => exact Nat.dvd_zero _

/-- A field of `w` bits at bit `b` holds its value, between what stands below and what stands above. -/
theorem recordWord_bits {i b w v : Nat} {lo hi : List RecField} (hlo : recordWord lo i < 2 ^ b)
    (hhi : (hi.all fun f => f.1 != 4 * i || decide (b + w ≤ f.2.1)) = true) :
    recordWord (lo ++ (4 * i, b, w, v) :: hi) i / 2 ^ b % 2 ^ w = v % 2 ^ w := by
  obtain ⟨m, hm⟩ := two_pow_dvd_recordWord hhi
  have hword : recordWord (lo ++ (4 * i, b, w, v) :: hi) i =
      recordWord lo i + 2 ^ b * (v % 2 ^ w + 2 ^ w * m) := by
    simp only [recordWord_eq_sum, List.map_append, List.map_cons, List.sum_append, List.sum_cons] at hm ⊢
    rw [hm, fieldPart, if_pos rfl, Nat.shiftLeft_eq, Nat.mul_add, ← Nat.mul_assoc, ← Nat.pow_add, Nat.mul_comm (2 ^ b)]
  rw [hword, Nat.add_mul_div_left _ _ (Nat.two_pow_pos b), Nat.div_eq_of_lt hlo, Nat.zero_add,
    Nat.add_mul_mod_self_left, Nat.mod_mod]

/-- A record begins with its type. -/
theorem recordWord_type {v : Nat} {fs : List RecField} (h : (fs.all fun f => f.1 != 4 * 0 || decide (8 ≤ f.2.1)) = true) :
    recordWord ((0, 0, 8, v) :: fs) 0 % 2 ^ 8 = v % 2 ^ 8 := by
  rw [← Nat.div_one (recordWord _ 0)]
  exact recordWord_bits (i := 0) (b := 0) (w := 8) (lo := []) (by decide) h

theorem recordWords_getD {n i : Nat} (h : i < n) (fs : List RecField) :
    (recordWords n fs).getD i 0 = recordWord fs i := by
  simp [recordWords, List.getD, h]

theorem recordWords_append_getD {n i : Nat} (h : i < n) (fs : List RecField) (l : List Nat) :
    (recordWords n fs ++ l).getD i 0 = recordWord fs i := by
  have hlen : i < (recordWords n fs).length := by rwa [recordWords, List.length_map, List.length_range]
  rw [← recordWords_getD h fs, List.getD_eq_getElem?_getD, List.getElem?_append_left hlen,
    List.getD_eq_getElem?_getD]

theorem State.verdictRecord_code (s : State) (i : Item) : (s.verdictRecord i).getD 0 0 / 2 ^ 16 % 4 =
    verdictCode i.failing i.uninsp i.compared ((s.atLine i.last).rd Reg.COMP_LIMITS_MAX_UNINSP) := by
  have hlt : verdictCode i.failing i.uninsp i.compared ((s.atLine i.last).rd Reg.COMP_LIMITS_MAX_UNINSP) < 2 ^ 2 := by
    unfold verdictCode
    split
    · decide
    · split
      · decide
      · split <;> decide
  rw [State.verdictRecord, recordWords_getD (by decide)]
  exact (recordWord_bits (i := 0) (b := 16) (w := 2) (lo := [(0, 0, 8, 0x23), (0, 8, 8, 1)]) (by decide) rfl).trans
    (Nat.mod_eq_of_lt hlt)

theorem State.verdictRecord_id (s : State) (i : Item) : (s.verdictRecord i).getD 1 0 = i.id % 2 ^ 32 := by
  rw [State.verdictRecord, recordWords_getD (by decide)]
  simp [recordWord]

theorem State.patchRecord_words (s : State) (n y k last : Nat) (cut : Bool) :
    (s.patchRecord n y k last cut).getD 0 0 % 2 ^ 8 = 0x25 ∧ (s.patchRecord n y k last cut).getD 2 0 = y % 2 ^ 32 ∧
      (s.patchRecord n y k last cut).getD 4 0 = k % 2 ^ 32 := by
  unfold State.patchRecord
  extract_lets cfg last' inset x0 x1 px ref cnt rn scan refs mean sd rm cls any dl da db m d16
  clear_value dl da db mean sd rm any cnt rn
  rw [recordWords_getD (by decide), recordWords_getD (by decide), recordWords_getD (by decide)]
  refine ⟨?_, ?_, ?_⟩
  · exact recordWord_type rfl
  · simp [recordWord]
  · simp [recordWord]

theorem State.markRecord_words (s : State) (n y k last : Nat) (cut : Bool) :
    (s.markRecord n y k last cut).getD 0 0 % 2 ^ 8 = 0x26 ∧ (s.markRecord n y k last cut).getD 2 0 = y % 2 ^ 32 ∧
      (s.markRecord n y k last cut).getD 4 0 = k % 2 ^ 32 := by
  unfold State.markRecord
  extract_lets cfg x0 x1 inks all sound cls format grid valid entry
  clear_value valid entry
  rw [recordWords_append_getD (by decide), recordWords_append_getD (by decide), recordWords_append_getD (by decide)]
  refine ⟨?_, ?_, ?_⟩
  · exact recordWord_type rfl
  · simp [recordWord]
  · simp [recordWord]

/-! ## The labeller (R213 to R217, R252) -/

section
variable (s : State) (y : Nat)

theorem State.gridChange_eventsKept : EventsKept s (s.gridChange y) := by
  unfold State.gridChange
  extract_lets cut items
  with_reducible refine EventsKept.when ?_ _ fun t => eventsKept_raise t _ 0
  exact EventsKept.refl s

theorem State.openItem_eventsKept (cfg : State) (g : Grid) (n r c : Nat) : EventsKept s (s.openItem cfg g y n r c) := by
  unfold State.openItem
  extract_lets x0 x1 start away i cut opened item
  clear_value item
  split
  · exact .refl s
  · with_reducible refine EventsKept.when ?_ _ fun t => eventsKept_raise t _ 0
    exact EventsKept.refl s

theorem State.openItems_eventsKept : EventsKept s (s.openItems y) := by
  unfold State.openItems
  extract_lets cfg g changed t
  have ht : EventsKept s t := by
    unfold t
    split
    · exact s.gridChange_eventsKept y
    · exact .refl s
  clear_value t
  split
  · exact ht
  · split
    · exact ht.each (fun u c => u.openItem_eventsKept y cfg g _ _ c) _
    · exact ht

theorem State.openCrop_eventsKept (b : Blob) : EventsKept s (s.openCrop y b).1 := by
  unfold State.openCrop
  extract_lets
  split
  · exact .refl s
  · split
    · exact eventsKept_inc_raise s Reg.CROP_SHED_COUNT Ev.PROD_CROP_SKIP 0
    · split
      · exact ((EventsKept.refl s).wr _ _ _ _ _).raise _ _
      · split
        · exact ((EventsKept.refl s).wr _ _ _ _ _).raise _ _
        · exact .of_eq rfl

theorem foldl_fst_eventsKept {α β : Type} {f : State × β → α → State × β} (hf : ∀ t b x, EventsKept t (f (t, b) x).1)
    (l : List α) (s : State) (b : β) : EventsKept s (l.foldl f (s, b)).1 := by
  induction l generalizing s b with
  | nil => exact .refl s
  | cons x l ih => exact (hf s b x).trans (ih _ _)

theorem State.openCrops_eventsKept : EventsKept s (s.openCrops y) := by
  unfold State.openCrops
  extract_lets new fresh r
  suffices h : EventsKept s r.1 from h
  unfold r
  refine foldl_fst_eventsKept (fun t bs b => ?_) fresh s []
  exact t.openCrop_eventsKept y b

theorem State.splitBlobs_eventsKept : EventsKept s (s.splitBlobs y) := by
  unfold State.splitBlobs
  extract_lets m p traces t u
  have ht : EventsKept s t := (EventsKept.refl s).when _ fun t => eventsKept_raise t _ 0
  have hu : EventsKept t u :=
    (frame_closeBlobs (M := 0x18000c000003) _ _ _ (by decide) (.refl t)).eventsKept (by decide)
  exact ht.trans hu

end

/-- Line `y` has gone through the labeller, which still stands at it. -/
def State.lineLabelled (s : State) (y : Nat) : State :=
  let r := (s.openItems y).labelRuns y
  let t := (r.1.joinRemotes y).when (!r.2.isEmpty) fun t => (t.inc Reg.COMP_OVERFLOW_COUNT).raise Ev.COMP_LABEL_OVERFLOW
  ((((t.openCrops y).sendFragments y).countLine y r.2).closeBlobs false false (Blob.finished y)).splitBlobs y

theorem State.lineLabelled_eventsKept (s : State) (y : Nat) : EventsKept s (s.lineLabelled y) := by
  unfold State.lineLabelled
  extract_lets r t
  have hruns : EventsKept (s.openItems y) r.1 :=
    (frame_labelRuns (M := 0x4000002) y (by decide) (.refl _)).eventsKept (by decide)
  have hjoin : EventsKept r.1 (r.1.joinRemotes y) :=
    (frame_joinRemotes (M := 0xc000000) y (by decide) (.refl _)).eventsKept (by decide)
  have ht : EventsKept s t :=
    (((s.openItems_eventsKept y).trans hruns).trans hjoin).when _ fun u => eventsKept_inc_raise u _ _ 0
  clear_value t r
  have hcount : Frame 0x18000c000003 (t.openCrops y)
      ((((t.openCrops y).sendFragments y).countLine y r.2).closeBlobs false false (Blob.finished y)) :=
    frame_closeBlobs _ _ _ (by decide) <| frame_countLine _ _ (by decide) <| frame_sendFragments _ (by decide) (.refl _)
  exact ((ht.trans (t.openCrops_eventsKept y)).trans (hcount.eventsKept (by decide))).trans
    (State.splitBlobs_eventsKept _ y)

/-- Line y + 2 has come over the device's boundaries, where it has neighbours (R213, R545). -/
def State.edgesCome (s : State) (y : Nat) : Bool :=
  (!s.westNeighbour || (tfind (2 * (y + 2)) s.comp.edges).isSome) &&
    (!s.eastNeighbour || (tfind (2 * (y + 2) + 1) s.comp.edges).isSome)

section
variable {s : State}

theorem labelLineDone_waits (h : s.running = false ∨ s.allPast (s.comp.next + 2) = false ∨
    s.edgesCome s.comp.next = false) : labelLineDone s = s := by
  rw [labelLineDone]
  refine if_pos ?_
  rcases h with h | h | h
  · simp [h]
  · simp [h]
  · have hedges : _ = false := h
    simp only [State.edgesCome] at hedges
    simp [hedges]

theorem labelLineDone_labels (hrun : s.running = true) (hpast : s.allPast (s.comp.next + 2) = true)
    (hedges : s.edgesCome s.comp.next = true) :
    labelLineDone s = ((s.lineLabelled s.comp.next).withComp
      { (s.lineLabelled s.comp.next).comp with next := s.comp.next + 1 }).showBlobs.dropSilentItems := by
  rw [labelLineDone]
  refine if_neg ?_
  simp only [State.edgesCome] at hedges
  simp [hrun, hpast, hedges]

theorem labelLineDone_spec (hrun : s.running = true) (hpast : s.allPast (s.comp.next + 2) = true)
    (hedges : s.edgesCome s.comp.next = true) {t : State} (ht : t = labelLineDone s) :
    t.comp.next = s.comp.next + 1 ∧ t.outLines = s.outLines ∧
      t.rd Reg.COMP_STATUS_OPEN_BLOBS = min 65535 (t.comp.blobs.filter fun b => !b.ghost).length ∧ EventsKept s t := by
  have hlines : t.outLines = s.outLines := by
    rw [ht]
    exact (frame_labelLineDone (M := 0x18000c000013) (by decide) (.refl s)).1 .outLines (by decide)
  rw [labelLineDone_labels hrun hpast hedges] at ht
  generalize hu : s.lineLabelled s.comp.next = u at ht
  have hkept : EventsKept s u := hu ▸ s.lineLabelled_eventsKept _
  generalize hv : u.withComp { u.comp with next := s.comp.next + 1 } = v at ht
  replace hkept : EventsKept s v := hv ▸ hkept
  have hnext : v.comp.next = s.comp.next + 1 := hv ▸ rfl
  have hcomp : v.showBlobs.comp = v.comp := State.wr_comp ..
  subst ht
  refine ⟨?_, hlines, ?_, ?_⟩
  · exact (congrArg Compare.next hcomp : v.showBlobs.comp.next = v.comp.next).trans hnext
  · have hrd : v.showBlobs.rd Reg.COMP_STATUS_OPEN_BLOBS =
        min 65535 (v.comp.blobs.filter fun b => !b.ghost).length % 2 ^ 16 := State.rd_wr_self ..
    have hblobs : v.showBlobs.dropSilentItems.comp.blobs = v.comp.blobs :=
      (congrArg Compare.blobs hcomp : v.showBlobs.comp.blobs = v.comp.blobs)
    rw [hblobs]
    refine hrd.trans (Nat.mod_eq_of_lt ?_)
    omega
  · exact hkept.trans ((frame_showBlobs (M := 0x3) (base := v) (by decide) (.refl v)).eventsKept (by decide))

end

/-! ## Blobs (R218, R225) -/

section
variable {s : State} {c : ClosedBlob} {rest : List ClosedBlob}

theorem blobRecordStage_eq (hclosed : s.comp.closed = c :: rest) : blobRecordStage s =
    (s.withComp { s.comp with closed := rest }).stage true
      { queue := c.queue, kind := 0, words := c.words, item := c.item } := by
  simp only [blobRecordStage, hclosed]
  rfl

theorem blobRecordStage_stages (hclosed : s.comp.closed = c :: rest) {r : Staged}
    (hr : r = { queue := c.queue, kind := 0, words := c.words, item := c.item }) (h : s.Stages r)
    {t : State} (ht : t = blobRecordStage s) :
    t.comp.closed = rest ∧ t.fr.staged = s.fr.staged ++ [r] ∧ t.comp.items = s.comp.items := by
  rw [blobRecordStage_eq hclosed, ← hr] at ht
  obtain ⟨hstaged, hcomp, -⟩ := State.stage_spec ((s.stages_withComp _ r).mpr h) (by simp [hr]) ht
  rw [hcomp]
  exact ⟨rfl, hstaged, rfl⟩

theorem blobRecordStage_drops (hclosed : s.comp.closed = c :: rest)
    {r : Staged} (hr : r = { queue := c.queue, kind := 0, words := c.words, item := c.item })
    (h : s.queueTakes r.queue 0 = false ∨ s.slotFree r = false) {t : State} (ht : t = blobRecordStage s) :
    t.comp.closed = rest ∧ t.fr = s.fr ∧
      t.rd Reg.COMP_DROP_BLOB = (s.rd Reg.COMP_DROP_BLOB + 1) % 2 ^ Reg.COMP_DROP_BLOB.width ∧
      t.eventSet Ev.COMP_BLOB_DROP = true ∧ EventsKept s t := by
  have hkind : r.kind = 0 := by rw [hr]
  have hfr : (s.withComp { s.comp with closed := rest }).fr = s.fr := rfl
  rw [← State.queueTakes_congr hfr, ← State.slotFree_congr hfr, ← hkind] at h
  rw [blobRecordStage_eq hclosed, ← hr, State.stage_drops (.inr h)] at ht
  obtain ⟨hleft, hrd, hset, hkept⟩ := State.recordDropped_blob _ hkind ht
  exact ⟨hleft, ht ▸ State.recordDropped_fr _ r, hrd, hset, hkept⟩

end

/-! ## Verdicts (R222 to R225, R230) -/

/-- Item `n` is open no more. -/
def State.itemDecided (s : State) (n : Nat) : State := s.withComp { s.comp with items := tdel n s.comp.items }

/-- A verdict of queue `q` has been written: it told of the verdicts dropped before it. -/
def State.verdictWritten (s : State) (q : Nat) : State :=
  let t := s.inc Reg.COMP_VERDICTS_COUNT
  t.withComp { t.comp with lost := sput t.comp.lost q 0 }

/-- The verdict of item `n`, as it is staged. -/
def State.verdictStaged (s : State) (n : Nat) (i : Item) : Staged :=
  { queue := i.queue, kind := 1, words := s.verdictRecord i, item := some n }

section
variable {s : State} {n : Nat} {i : Item}

theorem verdict_part (hnext : s.nextItem = some (n, i)) (hholds : s.holdsItem i = false) :
    verdict s = (s.itemDecided n).emit (.ikito 0 0x14 i.partFrame) := by
  simp only [verdict, hnext]
  exact if_pos (congrArg not hholds)

theorem verdict_here (hnext : s.nextItem = some (n, i)) (hholds : s.holdsItem i = true) {u : State} {ok : Bool}
    (hok : (s.itemDecided n).stagedOk (s.verdictStaged n i) = (u, ok)) :
    verdict s = if ok then u.verdictWritten i.queue else u := by
  have hmodel (p : State × Bool) (hp : (s.itemDecided n).stagedOk (s.verdictStaged n i) = p) :
      verdict s = if p.2 then p.1.verdictWritten i.queue else p.1 := by
    simp only [verdict, hnext, ← hp]
    exact if_neg (ne_true_of_eq_false (congrArg not hholds))
  exact hmodel _ hok

theorem verdict_stages (hnext : s.nextItem = some (n, i)) (hholds : s.holdsItem i = true)
    (h : s.Stages (s.verdictStaged n i)) {t : State} (ht : t = verdict s) :
    t.fr.staged = s.fr.staged ++ [s.verdictStaged n i] ∧ t.comp.items = tdel n s.comp.items ∧
      t.rd Reg.COMP_VERDICTS_COUNT = (s.rd Reg.COMP_VERDICTS_COUNT + 1) % 2 ^ 32 ∧ sget t.comp.lost i.queue = 0 := by
  have hkind : (s.verdictStaged n i).kind ≠ 4 := by simp [State.verdictStaged]
  have hstages : (s.itemDecided n).Stages (s.verdictStaged n i) := (s.stages_withComp _ _).mpr h
  obtain ⟨hstaged, hcomp, -, hbelow⟩ := State.stage_spec hstages hkind rfl
  rw [verdict_here hnext hholds (State.stagedOk_stages hstages hkind), if_pos rfl] at ht
  generalize State.stage _ _ _ = u at hstaged hcomp hbelow ht
  have hitems : (u.inc Reg.COMP_VERDICTS_COUNT).comp.items = u.comp.items := congrArg Compare.items (State.wr_comp ..)
  have hcount : (u.inc Reg.COMP_VERDICTS_COUNT).rd Reg.COMP_VERDICTS_COUNT =
      (u.rd Reg.COMP_VERDICTS_COUNT + 1) % 2 ^ 32 := State.rd_wr_self ..
  have hbefore : u.rd Reg.COMP_VERDICTS_COUNT = s.rd Reg.COMP_VERDICTS_COUNT := hbelow.rd_eq (by decide)
  subst ht
  refine ⟨(congrArg Freuri.staged (State.wr_fr ..)).trans hstaged, hitems.trans (congrArg Compare.items hcomp), ?_,
    sget_sput_self (u.inc Reg.COMP_VERDICTS_COUNT).comp.lost i.queue 0 0⟩
  rw [← hbefore]
  exact hcount

theorem verdict_drops (hnext : s.nextItem = some (n, i)) (hholds : s.holdsItem i = true)
    (h : s.queueTakes i.queue 1 = false) {t : State} (ht : t = verdict s) :
    t.fr = s.fr ∧ t.eventSet Ev.COMP_VERDICT_DROP = true ∧
      sget t.comp.lost i.queue = min 65535 (sget s.comp.lost i.queue + 1) ∧ EventsKept s t := by
  have htakes : (s.itemDecided n).queueTakes i.queue 1 = false := (State.queueTakes_congr rfl _ _).trans h
  rw [verdict_here hnext hholds (State.stagedOk_drops htakes), if_neg (by decide)] at ht
  exact ⟨ht ▸ State.recordDropped_fr _ _, State.recordDropped_verdict _ rfl ht⟩

end

/-! ## Coverage (R225, R228, R229) -/

/-- The staged form of a coverage record. -/
def CovRecord.staged (c : CovRecord) : Staged := { queue := c.queue, kind := 2, words := c.words }

section
variable {s : State} {c : CovRecord}

/-- A coverage record that can be staged is staged and counted. -/
theorem State.stageCover_stages (h : s.Stages c.staged) {t : State} (ht : t = s.stageCover c) :
    t.comp = s.comp ∧ t.fr.staged = s.fr.staged ++ [c.staged] ∧
      t.rd Reg.COV_RECORDS_COUNT = (s.rd Reg.COV_RECORDS_COUNT + 1) % 2 ^ 32 ∧
      t.rd Reg.COMP_STATUS_COV_BACKLOG = s.rd Reg.COMP_STATUS_COV_BACKLOG := by
  have hkind : c.staged.kind ≠ 4 := by simp [CovRecord.staged]
  obtain ⟨hstaged, hcomp, -, hbelow⟩ := State.stage_spec h hkind rfl
  have hcover : s.stageCover c =
      (s.stagedOk c.staged).1.when (s.stagedOk c.staged).2 (·.inc Reg.COV_RECORDS_COUNT) := rfl
  rw [hcover, State.stagedOk_stages h hkind] at ht
  generalize hu : s.stage true c.staged = u at hstaged hcomp hbelow ht
  have hbefore : u.rd Reg.COV_RECORDS_COUNT = s.rd Reg.COV_RECORDS_COUNT := hbelow.rd_eq (by decide)
  replace ht : t = u.inc Reg.COV_RECORDS_COUNT := ht
  subst ht
  refine ⟨(State.wr_comp ..).trans hcomp, (congrArg Freuri.staged (State.wr_fr ..)).trans hstaged, ?_, ?_⟩
  · rw [← hbefore]
    exact State.rd_wr_self ..
  · exact (State.rd_wr_ne _ _ _ _ _ _ _ _ _ _ (by decide)).trans (hbelow.rd_eq (by decide))

theorem coverageRecordStage_stages {rest : List CovRecord} (hclosed : s.comp.coverClosed = c :: rest)
    (h : s.Stages c.staged) {t : State} (ht : t = coverageRecordStage s) :
    t.comp.coverClosed = rest ∧ t.fr.staged = s.fr.staged ++ [c.staged] ∧
      t.rd Reg.COV_RECORDS_COUNT = (s.rd Reg.COV_RECORDS_COUNT + 1) % 2 ^ 32 := by
  have hslot : s.coverSlot = true := h.2.1
  have hstage : coverageRecordStage s = (s.withComp { s.comp with coverClosed := rest }).stageCover c := by
    simp only [coverageRecordStage, hclosed]
    exact if_neg (by simp [hslot])
  obtain ⟨hcomp, hstaged, hcount, -⟩ := State.stageCover_stages ((s.stages_withComp _ _).mpr h) (ht.trans hstage)
  exact ⟨congrArg Compare.coverClosed hcomp, hstaged, hcount⟩

theorem State.enterBacklog_eq (s : State) : ∃ b, s.enterBacklog =
    ((s.wr Reg.COMP_STATUS_COV_BACKLOG 1).withComp
      { s.comp with coverClosed := [], cover := [], backlog := some b }).raise Ev.COMP_COV_BACKLOG := by
  unfold State.enterBacklog
  exact ⟨_, rfl⟩

/-- Coverage enters backlog, and says so. -/
theorem State.enterBacklog_spec (s : State) {t : State} (ht : t = s.enterBacklog) :
    t.rd Reg.COMP_STATUS_COV_BACKLOG = 1 ∧ t.comp.coverClosed = [] ∧ t.comp.cover = [] ∧
      t.comp.backlog.isSome = true ∧ t.eventSet Ev.COMP_COV_BACKLOG = true ∧ EventsKept s t := by
  obtain ⟨b, heq⟩ := s.enterBacklog_eq
  generalize hu : State.withComp _ _ = u at heq
  have hkept : EventsKept s u := hu ▸ (EventsKept.refl s).wr Reg.COMP_STATUS_COV_BACKLOG 1 0 0 0
  have hshown : u.rd Reg.COMP_STATUS_COV_BACKLOG = 1 := hu ▸ s.rd_wr_self Reg.COMP_STATUS_COV_BACKLOG 1 0 0 0
  have hcomp : t.comp = { s.comp with coverClosed := [], cover := [], backlog := some b } := by
    rw [ht, heq, State.raise_comp, ← hu]
    rfl
  rw [hcomp, ht, heq]
  exact ⟨((told_raise u _ 0).rd ..).trans hshown, rfl, rfl, rfl, u.raise_eventSet _ 0, hkept.raise _ 0⟩

theorem coverageRecordStage_backlog {rest : List CovRecord} (hclosed : s.comp.coverClosed = c :: rest)
    (htakes : s.queueTakes c.queue 2 = true) (hslot : s.coverSlot = false) :
    coverageRecordStage s = s.enterBacklog := by
  simp [coverageRecordStage, hclosed, htakes, hslot]

variable {a b : Nat}

theorem State.backlogRecords_one (hleft : s.comp.coverLeft = []) (hlog : s.comp.backlog = some (a, b)) :
    s.backlogRecords = [s.backlogRecord (a, b)] := by
  simp [State.backlogRecords, hleft, hlog]

theorem covBacklogResume_waits (hleft : s.comp.coverLeft = []) (hlog : s.comp.backlog = some (a, b))
    (htakes : s.queueTakes (s.backlogRecord (a, b)).queue 2 = true) (hslot : s.coverSlot = false) :
    covBacklogResume s = s := by
  simp [covBacklogResume, State.backlogRecords_one hleft hlog, htakes, hslot]

theorem covBacklogResume_stages (hleft : s.comp.coverLeft = []) (hlog : s.comp.backlog = some (a, b))
    (hc : c = s.backlogRecord (a, b))
    (htakes : s.queueTakes c.queue 2 = true) (hslot : s.coverSlot = true) {t : State} (ht : t = covBacklogResume s) :
    t.comp.backlog = none ∧ t.rd Reg.COMP_STATUS_COV_BACKLOG = 0 ∧ t.fr.staged = s.fr.staged ++ [c.staged] ∧
      t.rd Reg.COV_RECORDS_COUNT = (s.rd Reg.COV_RECORDS_COUNT + 1) % 2 ^ 32 := by
  generalize hu : s.withComp { s.comp with coverLeft := [], backlog := none } = u
  have hresume : covBacklogResume s = (u.wrB Reg.COMP_STATUS_COV_BACKLOG false).stageCover c := by
    simp only [covBacklogResume, State.backlogRecords_one hleft hlog, ← hc, hleft]
    rw [if_neg (by simp [hslot]), ← hu]
    rfl
  have hfr : (u.wrB Reg.COMP_STATUS_COV_BACKLOG false).fr = s.fr := (State.wr_fr ..).trans (hu ▸ rfl)
  have hspace : kindType c.staged.kind ≠ 5 := by simp [CovRecord.staged, kindType]
  have hstages : s.Stages c.staged := ⟨htakes, hslot, fun h => absurd h hspace⟩
  obtain ⟨hcomp, hstaged, hcount, hlogged⟩ :=
    State.stageCover_stages ((State.stages_congr hfr _).mpr hstages) (ht.trans hresume)
  refine ⟨?_, hlogged.trans (State.rd_wr_self ..), by rw [hstaged, hfr], ?_⟩
  · rw [hcomp, State.wrB, State.wr_comp, ← hu]
    rfl
  · rw [hcount, State.wrB, State.rd_wr_ne _ _ _ _ _ _ _ _ _ _ (by decide), ← hu]
    rfl

end

/-! ## Products (R238, R257) -/

/-- The state with other contents of the products. -/
def State.withMp (s : State) (p : Products) : State := { s with mp := p }

/-- A record of product queue `q`, as it is staged. -/
def State.productStaged (s : State) (q kind : Nat) (words : List Nat) : Staged :=
  { queue := s.rd Reg.PROD_Q_QUEUE 0 q, kind := kind, words := words }

/-- `t` has the queues, the staging and the fields of `s`: all that the staging of a product's record looks at. -/
def SameQueues (s t : State) : Prop := t.fr = s.fr ∧ ∀ (r : Row) (k i : Nat), t.rd r k i = s.rd r k i

section
variable {s u t : State} (hsame : SameQueues s u) {q kind : Nat} {words : List Nat}
include hsame

theorem State.stageProduct_stages (hvalid : s.on Reg.PROD_Q_VALID 0 q = true)
    (h : s.Stages (s.productStaged q kind words)) (hport : kind ≠ 4) (ht : t = u.stageProduct q kind words) :
    t.fr.staged = s.fr.staged ++ [s.productStaged q kind words] ∧ t.mp = u.mp ∧ KeepsBelow contextPageKey u t := by
  obtain ⟨hfr, hrd⟩ := hsame
  have hon : u.on Reg.PROD_Q_VALID 0 q = true := by rw [State.on, hrd]; exact hvalid
  have hqueue : u.stageProduct q kind words = u.stage true (s.productStaged q kind words) := by
    rw [State.stageProduct, hon, hrd, State.productStaged]
  obtain ⟨hstaged, -, hmp, hbelow⟩ := State.stage_spec ((State.stages_congr hfr _).mpr h) hport (ht.trans hqueue)
  exact ⟨by rw [hstaged, hfr], hmp, hbelow⟩

theorem State.stageProduct_drops (hvalid : s.on Reg.PROD_Q_VALID 0 q = false) :
    u.stageProduct q kind words = u.recordDropped (s.productStaged q kind words) := by
  obtain ⟨hfr, hrd⟩ := hsame
  have hon : u.on Reg.PROD_Q_VALID 0 q = false := by rw [State.on, hrd]; exact hvalid
  rw [State.stageProduct, hon, hrd, State.stage_drops (.inl rfl), State.productStaged]

end

theorem SameQueues.withMp (s : State) (p : Products) : SameQueues s (s.withMp p) := ⟨rfl, fun _ _ _ => rfl⟩

/-- A window that was cut short is told of. -/
theorem SameQueues.truncated {s u : State} (h : SameQueues s u) (cut : Bool) :
    SameQueues s (u.when cut (·.raise Ev.PROD_TRUNC)) := by
  have htold : Told u (u.when cut (·.raise Ev.PROD_TRUNC)) := told_when _ _ _ (told_raise u _ 0)
  exact ⟨htold.fr.trans h.1, fun r k i => (htold.rd r k i 0).trans (h.2 r k i)⟩

theorem State.truncated_spec (u : State) (cut : Bool) {v : State} (hv : v = u.when cut (·.raise Ev.PROD_TRUNC)) :
    v.mp = u.mp ∧ EventsKept u v ∧ (cut = true → v.eventSet Ev.PROD_TRUNC = true) := by
  subst hv
  refine ⟨(told_when _ _ _ (told_raise u _ 0)).mp, (EventsKept.refl u).when cut fun t => eventsKept_raise t _ 0, ?_⟩
  rintro rfl
  exact u.raise_eventSet _ 0

/-! ## Patches and marks (R240 to R248) -/

section
variable {s t : State} {p : Products} {cut : Bool} {kind : Nat} {words : List Nat}

/-- A measured window whose queue takes its record: the record is staged, and the products move on. -/
theorem measured_stages (hvalid : s.on Reg.PROD_Q_VALID 0 0 = true) (h : s.Stages (s.productStaged 0 kind words))
    (hport : kind ≠ 4) (ht : t = ((s.withMp p).when cut (·.raise Ev.PROD_TRUNC)).stageProduct 0 kind words) :
    t.mp = p ∧ t.fr.staged = s.fr.staged ++ [s.productStaged 0 kind words] ∧
      (cut = true → t.eventSet Ev.PROD_TRUNC = true) := by
  obtain ⟨hmp, -, hset⟩ := (s.withMp p).truncated_spec cut rfl
  obtain ⟨hstaged, hmp', hbelow⟩ := State.stageProduct_stages ((SameQueues.withMp s p).truncated cut) hvalid h hport ht
  exact ⟨hmp'.trans hmp, hstaged, fun hcut => hbelow.1.set (hset hcut)⟩

/-- A measured window without a queue: the products move on, and its record is dropped. -/
theorem measured_drops (hvalid : s.on Reg.PROD_Q_VALID 0 0 = false) {c : Row} (hc : c.width = 16)
    (hdrop : ∀ u : State, u.recordDropped (s.productStaged 0 kind words) = (u.incSat c).raise Ev.PROD_MEAS_DROP)
    (ht : t = ((s.withMp p).when cut (·.raise Ev.PROD_TRUNC)).stageProduct 0 kind words) :
    t.mp = p ∧ t.fr = s.fr ∧ t.rd c = min 65535 (s.rd c + 1) ∧ t.eventSet Ev.PROD_MEAS_DROP = true ∧
      EventsKept s t := by
  have hsame := (SameQueues.withMp s p).truncated cut
  rw [State.stageProduct_drops hsame hvalid, hdrop] at ht
  generalize hu : (s.withMp p).when cut (·.raise Ev.PROD_TRUNC) = u at ht hsame
  obtain ⟨hmp, hkept, -⟩ := (s.withMp p).truncated_spec cut hu.symm
  obtain ⟨hrd, hset, hkept'⟩ := u.incSat_raise_spec hc _ ht
  rw [hsame.2] at hrd
  have htold : t.mp = u.mp ∧ t.fr = u.fr := by simp [ht, State.incSat]
  exact ⟨htold.1.trans hmp, htold.2.trans hsame.1, hrd, hset, hkept.trans hkept'⟩

variable {w : Nat × Nat × Nat × Bool} {n : Nat}

theorem patchMeasured_eq (hw : s.windowDue (patchEntry n) (sget s.mp.patchFrom n) = some w) : patchMeasured n s =
    ((s.withMp { s.mp with patchFrom := sput s.mp.patchFrom n (w.1 + 1) }).when w.2.2.2
      (·.raise Ev.PROD_TRUNC)).stageProduct 0 5 (s.patchRecord n w.1 w.2.1 w.2.2.1 w.2.2.2) := by
  simp only [patchMeasured, hw]
  rfl

theorem markMeasured_eq (hw : s.windowDue (markEntry n) (sget s.mp.markFrom n) = some w) : markMeasured n s =
    ((s.withMp { s.mp with markFrom := sput s.mp.markFrom n (w.1 + 1) }).when w.2.2.2
      (·.raise Ev.PROD_TRUNC)).stageProduct 0 6 (s.markRecord n w.1 w.2.1 w.2.2.1 w.2.2.2) := by
  simp only [markMeasured, hw]
  rfl

end

/-! ## The preview (R249 to R251) -/

/-- The preview stands at the line after its present one. -/
def State.previewPassed (s : State) : State := s.withMp { s.mp with prevIndex := s.mp.prevIndex + 1 }

/-- The preview line of the lines from `first` to `last` is staged, or dropped. -/
def State.previewStaged (s : State) (first last : Nat) : State :=
  let u := s.previewPassed.stageProduct 1 8 (s.prevRecord first last)
  if s.previewPassed.fr.staged.length < u.fr.staged.length then u.withMp { u.mp with prevLost := 0 } else u

section
variable {s t : State} {first fy : Nat}

theorem prevShed_spec (ht : t = s.previewPassed.prevShed) :
    t.mp.prevIndex = s.mp.prevIndex + 1 ∧ t.rd Reg.PREV_DROP_COUNT = (s.rd Reg.PREV_DROP_COUNT + 1) % 2 ^ 32 ∧
      t.eventSet Ev.PROD_PREV_DROP = true ∧ t.fr = s.fr ∧ EventsKept s t := by
  generalize hu : s.previewPassed.withMp
    { s.previewPassed.mp with prevLost := satAdd 16 s.previewPassed.mp.prevLost 1 } = u
  replace ht : t = (u.inc Reg.PREV_DROP_COUNT).raise Ev.PROD_PREV_DROP := by rw [ht, ← hu]; rfl
  obtain ⟨hrd, hset, hkept⟩ := u.wr_raise_spec Reg.PREV_DROP_COUNT _ _ ht
  have hleft : t.mp = u.mp ∧ t.fr = u.fr := by simp [ht, State.inc]
  rw [hleft.1, hleft.2, hrd]
  subst hu
  exact ⟨rfl, rfl, hset, rfl, hkept⟩

/-- A preview line of `fy` lines without a change of geometry: it waits for its last line, is passed over, shed, or
staged. -/
theorem previewRecord_eq (hstop : s.mp.stopAt = none)
    (hfirst : first = s.mp.prevBase + s.mp.prevIndex * (s.atLine s.mp.prevBase).rd Reg.PREV_GEOM_FY)
    (hfy : fy = (s.atLine first).rd Reg.PREV_GEOM_FY) (hpos : 0 < fy)
    (hsame : ∀ i, i < fy → s.prevChange (first + i) = false) :
    previewRecord s =
      if s.linesEnd < first + fy then s
      else if !(s.atLine first).on Reg.MP_CTL_PREV_EN ||
          s.mp.prevIndex % max 1 ((s.atLine first).rd Reg.PREV_GEOM_SKIP) != 0 then s.previewPassed
      else if 1 ≤ s.previewPassed.shedLevel then s.previewPassed.prevShed
      else s.previewStaged first (first + fy - 1) := by
  have hnow : s.prevChange first = false := hsame 0 hpos
  have hnone : ((List.range (fy - 1)).map (first + 1 + ·)).find? s.prevChange = none := by
    rw [List.find?_eq_none]
    intro y hy
    obtain ⟨i, hi, rfl⟩ := List.mem_map.mp hy
    have hlt : 1 + i < fy := by have := List.mem_range.mp hi; omega
    rw [Nat.add_assoc, hsame _ hlt]
    exact Bool.false_ne_true
  have hends : (s.linesEnd ≤ first ∨ s.linesEnd ≤ first + fy - 1) ↔ s.linesEnd < first + fy := by omega
  unfold previewRecord
  extract_lets start base index cfg height change toChange last next src passed u
  have hstart : first = start := hfirst
  have hheight : fy = height := hfy.trans (by rw [hstart])
  clear_value start height
  subst hstart hheight
  have hchange : change = none := hnone
  have hto : toChange = first + fy - 1 := by simp only [toChange, hchange]
  have hlast : last = first + fy - 1 := by simp only [last, hstop, hto]
  have hbase : base = s.mp.prevBase := if_neg (ne_true_of_eq_false hnow)
  have hindex : index = s.mp.prevIndex := if_neg (ne_true_of_eq_false hnow)
  have hpassed : passed = s.previewPassed := by
    have hnext : next = (s.mp.prevBase, s.mp.prevIndex + 1) := by simp only [next, hchange, hbase, hindex]
    simp only [passed, hnext]
    rfl
  clear_value passed last index
  subst hpassed hlast hindex
  by_cases hwaits : s.linesEnd < first + fy
  · rw [if_pos hwaits]
    exact if_pos (hends.mpr hwaits)
  · rw [if_neg hwaits]
    exact if_neg (mt hends.mp hwaits)

end

section
variable {s t : State}

theorem previewStaged_stages {first last : Nat} (hvalid : s.on Reg.PROD_Q_VALID 0 1 = true)
    (h : s.Stages (s.productStaged 1 8 (s.prevRecord first last))) (ht : t = s.previewStaged first last) :
    t.mp.prevIndex = s.mp.prevIndex + 1 ∧
      t.fr.staged = s.fr.staged ++ [s.productStaged 1 8 (s.prevRecord first last)] ∧ t.mp.prevLost = 0 := by
  obtain ⟨hstaged, hmp, -⟩ := State.stageProduct_stages (SameQueues.withMp s _) hvalid h (by decide) rfl
  have hmore : s.previewPassed.fr.staged.length <
      (s.previewPassed.stageProduct 1 8 (s.prevRecord first last)).fr.staged.length := by
    rw [State.previewPassed, hstaged, List.length_append]
    exact Nat.lt_succ_self _
  rw [State.previewStaged, if_pos hmore] at ht
  subst ht
  exact ⟨congrArg Products.prevIndex hmp, hstaged, rfl⟩

/-! ## Crops (R252 to R255) -/

theorem cropTokenRefill_spec (ht : t = cropTokenRefill s) :
    t.mp.tokens = (if s.rd Reg.CROP_RATE_PER_S = 0 then s.mp.tokens
      else min (s.rd Reg.CROP_RATE_BURST) (s.mp.tokens + 1)) ∧ OnlyChanges [.mp] s t := by
  refine ⟨?_, ht ▸ Frame.onlyChanges (frame_cropTokenRefill (by decide) (.refl s))⟩
  rw [ht, cropTokenRefill]
  split <;> rfl

/-- Crop buffer `n` is free again. -/
def State.cropReleased (s : State) (n : Nat) : State := s.withMp { s.mp with crops := tdel n s.mp.crops }

/-- The crop in buffer `n` is staged and counted, or dropped. -/
def State.cropStaged (s : State) (n : Nat) (c : Crop) (v : List Nat) : State :=
  let u := (s.cropReleased n).stageProduct 2 9 (s.cropRecord c c.height v)
  if (s.cropReleased n).fr.staged.length < u.fr.staged.length then u.inc Reg.CROP_DONE_COUNT else u

section
variable {n : Nat} {c : Crop} {v : List Nat}

/-- A crop whose lines are held and whose blob has closed is discarded, or staged. -/
theorem cropComplete_eq (hstop : s.mp.stopAt = none) (hc : tfind n s.mp.crops = some c) (hv : c.result = some v)
    (hheld : c.y0 + c.height ≤ s.linesEnd) :
    cropComplete n s = if c.failOnly && v.getD 4 0 == 0 then s.cropReleased n else s.cropStaged n c v := by
  unfold cropComplete
  split
  next hnone => exact absurd (hc.symm.trans hnone) (by simp)
  next c' hsome =>
  obtain rfl := Option.some.inj (hc.symm.trans hsome)
  split
  next hnone => exact absurd (hv.symm.trans hnone) (by simp)
  next v' hresult =>
  obtain rfl := Option.some.inj (hv.symm.trans hresult)
  extract_lets rows
  have hrows : rows = c.height := by simp only [rows, hstop]
  clear_value rows
  subst hrows
  exact if_neg (Nat.not_lt.mpr hheld)

theorem cropStaged_stages (hvalid : s.on Reg.PROD_Q_VALID 0 2 = true)
    (h : s.Stages (s.productStaged 2 9 (s.cropRecord c c.height v))) (ht : t = s.cropStaged n c v) :
    t.mp.crops = tdel n s.mp.crops ∧
      t.fr.staged = s.fr.staged ++ [s.productStaged 2 9 (s.cropRecord c c.height v)] ∧
      t.rd Reg.CROP_DONE_COUNT = (s.rd Reg.CROP_DONE_COUNT + 1) % 2 ^ 32 := by
  obtain ⟨hstaged, hmp, hbelow⟩ := State.stageProduct_stages (SameQueues.withMp s _) hvalid h (by decide) rfl
  rw [State.cropStaged, State.cropReleased] at ht
  generalize State.stageProduct _ _ _ _ = u at hstaged hmp hbelow ht
  have hmore : s.fr.staged.length < u.fr.staged.length := by
    rw [hstaged, List.length_append]
    exact Nat.lt_succ_self _
  replace ht : t = u.inc Reg.CROP_DONE_COUNT := ht.trans (if_pos hmore)
  have hbefore : u.rd Reg.CROP_DONE_COUNT = s.rd Reg.CROP_DONE_COUNT := hbelow.rd_eq (by decide)
  subst ht
  refine ⟨congrArg Products.crops ((State.wr_mp ..).trans hmp),
    (congrArg Freuri.staged (State.wr_fr ..)).trans hstaged, ?_⟩
  rw [← hbefore]
  exact State.rd_wr_self ..

end
end

/-! ## The statement -/

/-- Settles O11: clause by clause, what the command's meaning leaves where its record is staged, held back or dropped;
what `stage` itself leaves is said once, by `State.stage_spec`. -/
theorem records : Obligations.Records := by
  unfold Obligations.Records
  refine ⟨⟨?_, ?_, ?_, ?_, ?_⟩, ?_, ?_, ?_, ?_, ?_⟩
  · rintro s halive edges rfl
    exact ⟨fun hrun hpast hedges => .of_powered labelLineDone halive rfl (labelLineDone_spec hrun hpast hedges rfl),
      fun hwaits => .of_powered labelLineDone halive rfl (labelLineDone_waits hwaits)⟩
  · intro s halive c rest hclosed r hr
    exact ⟨fun h => .of_powered blobRecordStage halive rfl (blobRecordStage_stages hclosed hr h rfl),
      fun h => .of_powered blobRecordStage halive rfl (blobRecordStage_drops hclosed hr h rfl)⟩
  · rintro s halive n i hnext r rfl
    refine ⟨fun hholds => .of_powered verdict halive rfl ?_, fun hholds h => .of_powered verdict halive rfl ?_,
      fun hholds h => .of_powered verdict halive rfl (verdict_drops hnext hholds h rfl)⟩
    · rw [verdict_part hnext hholds]
      exact ⟨rfl, rfl, Frame.onlyChanges (frame_emit _ (by decide) (Frame.set_comp (by decide) (.refl s)))⟩
    · obtain ⟨hstaged, hitems, hcount, hlost⟩ := verdict_stages hnext hholds h rfl
      exact ⟨hstaged, hitems, s.verdictRecord_code i, s.verdictRecord_id i, hcount, hlost⟩
  · rintro s halive c rest hclosed q rfl r rfl
    refine ⟨fun h => .of_powered coverageRecordStage halive rfl (coverageRecordStage_stages hclosed h rfl),
      fun htakes hslot => .of_powered coverageRecordStage halive rfl ?_⟩
    exact s.enterBacklog_spec (coverageRecordStage_backlog hclosed htakes hslot)
  · rintro s halive hleft a b hlog q rfl
    exact ⟨fun htakes hslot => .of_powered covBacklogResume halive rfl (covBacklogResume_waits hleft hlog htakes hslot),
      fun htakes hslot => .of_powered covBacklogResume halive rfl
        (covBacklogResume_stages hleft hlog rfl htakes hslot rfl)⟩
  · rintro s n halive w hw r rfl
    have hfrom := sget_sput_self s.mp.patchFrom n (w.1 + 1) 0
    obtain ⟨htype, hline, hrepeat⟩ := s.patchRecord_words n w.1 w.2.1 w.2.2.1 w.2.2.2
    refine ⟨fun hvalid h => .of_powered (patchMeasured n) halive rfl ?_,
      fun hvalid => .of_powered (patchMeasured n) halive rfl ?_⟩
    · obtain ⟨hmp, hstaged, hset⟩ := measured_stages hvalid h (by decide) (patchMeasured_eq hw)
      exact ⟨(congrArg (fun p => sget p.patchFrom n) hmp).trans hfrom, hstaged, htype, hline, hrepeat, hset⟩
    · obtain ⟨hmp, hleft⟩ := measured_drops hvalid (c := Reg.MEAS_DROP_PATCH) rfl (fun u => rfl) (patchMeasured_eq hw)
      exact ⟨(congrArg (fun p => sget p.patchFrom n) hmp).trans hfrom, hleft⟩
  · rintro s n halive w hw r rfl
    have hfrom := sget_sput_self s.mp.markFrom n (w.1 + 1) 0
    obtain ⟨htype, hline, hrepeat⟩ := s.markRecord_words n w.1 w.2.1 w.2.2.1 w.2.2.2
    refine ⟨fun hvalid h => .of_powered (markMeasured n) halive rfl ?_,
      fun hvalid => .of_powered (markMeasured n) halive rfl ?_⟩
    · obtain ⟨hmp, hstaged, hset⟩ := measured_stages hvalid h (by decide) (markMeasured_eq hw)
      exact ⟨(congrArg (fun p => sget p.markFrom n) hmp).trans hfrom, hstaged, htype, hline, hrepeat, hset⟩
    · obtain ⟨hmp, hleft⟩ := measured_drops hvalid (c := Reg.MEAS_DROP_MARK) rfl (fun u => rfl) (markMeasured_eq hw)
      exact ⟨(congrArg (fun p => sget p.markFrom n) hmp).trans hfrom, hleft⟩
  · intro s halive hstop first hfirst fy hfy hpos hsame
    have heq := previewRecord_eq hstop hfirst hfy hpos hsame
    refine ⟨fun hwaits => .of_powered previewRecord halive rfl ?_,
      fun hends hoff => .of_powered previewRecord halive rfl ?_, fun hends hon hturn =>
      ⟨fun hshed => .of_powered previewRecord halive rfl ?_, ?_⟩⟩
    · rw [heq, if_pos hwaits]
    · rw [heq, if_neg (Nat.not_lt.mpr hends), if_pos (by simp [hoff])]
      exact ⟨rfl, rfl, (Frame.set_mp (by decide) (.refl s)).onlyChanges⟩
    · rw [heq, if_neg (Nat.not_lt.mpr hends), if_neg (by simp [hon, hturn])]
      exact prevShed_spec (if_pos hshed)
    · rintro hshed hvalid r rfl h
      refine .of_powered previewRecord halive rfl ?_
      have hkeeps : ¬ 1 ≤ s.previewPassed.shedLevel := by
        change ¬ 1 ≤ s.shedLevel
        omega
      rw [heq, if_neg (Nat.not_lt.mpr hends), if_neg (by simp [hon, hturn]), if_neg hkeeps]
      exact previewStaged_stages hvalid h rfl
  · intro s halive
    exact .of_powered cropTokenRefill halive rfl (cropTokenRefill_spec rfl)
  · intro s n halive hstop c hc v hv hheld
    have heq := cropComplete_eq hstop hc hv hheld
    refine ⟨fun hfail hsound => .of_powered (cropComplete n) halive rfl ?_, ?_⟩
    · rw [heq, if_pos (by rw [hfail, hsound]; rfl)]
      exact ⟨rfl, (Frame.set_mp (by decide) (.refl s)).onlyChanges⟩
    · rintro hkept hvalid r rfl h
      refine .of_powered (cropComplete n) halive rfl ?_
      have hstays : ¬ (c.failOnly && v.getD 4 0 == 0) = true := by
        rw [Bool.and_eq_true, beq_iff_eq]
        rintro ⟨hfail, hsound⟩
        rcases hkept with hnot | hbad
        · exact absurd (hfail.symm.trans hnot) (by decide)
        · exact hbad hsound
      rw [heq, if_neg hstays]
      exact cropStaged_stages hvalid h rfl

end Sys2Proof.Machine
end

section
/-!
Where the statement about Beryl frames (R263, R390) says of each DMA channel that the end of a frame adds a request to
those pending, as a number: the count of pending requests is a field, and keeps the bits of its width.
-/

namespace Sys2Proof.Machine

/-- Port 0 is in RUN with an array of 32 columns and 16 rows, and its frame has all of them. DMA channel 0 follows the
port's request line. DMA_STATUS.REQ_PEND of the channel stands at 2^8, above its 8 bits. No command leaves a field so, for
a write keeps the bits of the field's width (`regsPut`). But the statement speaks of every state, of this one too. -/
def requestsBeyondField : State :=
  { State.reset with
    regs := [(Reg.BR_STATUS_STATE.key 0 0 0, 2), (Reg.DMA_CTL_REQ_EN.key 0 0 0, 1), (Reg.DMA_CTL_REQ_SEL.key 0 0 0, 1),
      (Reg.DMA_STATUS_REQ_PEND.key 0 0 0, 2 ^ 8)]
    beryl := { ports := [(0, { en := true, geom := [32, 16, 1, 0, 0], frame := some { rows := List.replicate 16 {} } })] } }

/-- A channel that follows the line, and whose count of requests is not at its end, has one request more (R390). -/
theorem State.pacedBy.rd_pend {s u : State} {l c : Nat} (h : s.pacedBy u l) (hc : c < 64)
    (hen : s.on Reg.DMA_CTL_REQ_EN c = true) (hsel : s.rd Reg.DMA_CTL_REQ_SEL c = l)
    (hroom : s.rd Reg.DMA_STATUS_REQ_PEND c ≠ 255) :
    u.rd Reg.DMA_STATUS_REQ_PEND c = s.rd Reg.DMA_STATUS_REQ_PEND c + 1 := by
  rw [h c hc, if_pos ⟨hen, hsel, hroom⟩]

theorem exec_berylFrameEnd {s : State} (h : s.alive = true) (p : Fin 4) :
    exec (.berylFrameEnd p) s = .next (berylFrameEnd p s) := congrArg Host.Outcome.next (State.powered_alive h _)

/-- The request that the end of the frame makes is stored in the field's 8 bits. -/
theorem berylFrameEnd_requestsBeyondField_pend :
    (berylFrameEnd 0 requestsBeyondField).rd Reg.DMA_STATUS_REQ_PEND = 1 := by decide +kernel

/-- Refutes O46: at the end of a complete frame a channel that follows the port's line, and whose count of pending requests
is not 255, counts one more modulo the width of the field (`State.paceChannel`), where the statement has the sum itself. -/
theorem not_berylFrames : ¬ Obligations.BerylFrames := by
  unfold Obligations.BerylFrames
  rintro ⟨-, -, hframeEnd, -⟩
  have halive : requestsBeyondField.alive = true := by decide
  have hcomplete : requestsBeyondField.brComplete 0 ≠ none := by decide
  obtain ⟨-, -, -, -, -, hpaced, -⟩ :=
    ((hframeEnd requestsBeyondField 0 halive).2 hcomplete).of_next (exec_berylFrameEnd halive 0)
  have hsum : (berylFrameEnd 0 requestsBeyondField).rd Reg.DMA_STATUS_REQ_PEND 0 =
      requestsBeyondField.rd Reg.DMA_STATUS_REQ_PEND 0 + 1 :=
    hpaced.rd_pend (by decide) (by decide) (by decide) (by decide)
  rw [berylFrameEnd_requestsBeyondField_pend] at hsum
  exact absurd hsum (by decide)

end Sys2Proof.Machine
end

section
/-!
Where the statement about the precision front end (R294, R298) says that the end of a step's window changes registers and
the front end's own part alone: what the step drove is switched off, which the crosspoint pins show.
-/

namespace Sys2Proof.Machine

/-- The front end is ready, and its configuration has one slot: slot 0, with source S0 at 10 µA on pin 3. -/
def sourceSlotReady : State :=
  { State.reset with
    regs := [(Reg.TB_STATUS_LOCKED.key 0 0 0, 1)]
    force := [(Reg.PFE_CTL_EN.key 0 0 0, 1), (Reg.SLOT_MODE.key 0 0 0, 1), (Reg.SLOT_S0_EN.key 0 0 0, 1),
      (Reg.SLOT_S0_PIN.key 0 0 0, 3)] }

/-- The periodic trigger has started the scan of `sourceSlotReady`: its step 0 is in progress, and drives pin 3. -/
def sourceStep : State := pfeScanTimer sourceSlotReady

theorem exec_pfeStepEnd {s : State} (h : s.alive = true) (va vb : Int) :
    exec (.pfeStepEnd va vb) s = .next (pfeStepEnd va vb s) := congrArg Host.Outcome.next (State.powered_alive h _)

/-- At the end of the step's window the source goes off, and nothing drives a pin in the check step that follows. -/
theorem pfeStepEnd_sourceStep_out :
    (pfeStepEnd 0 0 sourceStep).out = .drive "S0" 3 0 :: sourceStep.out := by decide +kernel

/-- Refutes O13: the end of a step's window adds an output for each source or bias that it switches off or on
(`State.pfeExcite`), where the statement has the outputs unchanged. -/
theorem not_precisionFrontEnd : ¬ Obligations.PrecisionFrontEnd := by
  unfold Obligations.PrecisionFrontEnd
  rintro ⟨-, -, hstepEnd, -⟩
  have halive : sourceStep.alive = true := by decide +kernel
  have hbusy : sourceStep.on Reg.PFE_STATUS_BUSY = true := by decide +kernel
  have hwindow : sourceStep.pfe.check = none := by decide +kernel
  have hstep : sourceStep.rd Reg.PFE_STATUS_STEP < 8 := by decide +kernel
  obtain ⟨-, -, -, -, honly⟩ :=
    ((hstepEnd sourceStep 0 0 halive hbusy hwindow _ rfl _ rfl).2 hstep).of_next (exec_pfeStepEnd halive 0 0)
  have hout : (pfeStepEnd 0 0 sourceStep).out = sourceStep.out := honly .out (by decide)
  rw [pfeStepEnd_sourceStep_out] at hout
  exact List.cons_ne_self _ _ hout

end Sys2Proof.Machine
end

section
/-!
Where the statement about scans and the servo boundary (R301, R390) says of each DMA channel that the end of a scan adds a
request to those pending, as a number: the count of pending requests is a field, and keeps the bits of its width.
-/

namespace Sys2Proof.Machine

/-- The check step of a scan without slots has ended. DMA channel 0 follows request line 5, that of the front end, and its
DMA_STATUS.REQ_PEND stands at 2^8, above its 8 bits (as in `requestsBeyondField`): no command leaves it so, but the
statement speaks of every state. -/
def scanRequestsBeyondField : State :=
  { State.reset with
    regs := [(Reg.PFE_STATUS_BUSY.key 0 0 0, 1), (Reg.DMA_CTL_REQ_EN.key 0 0 0, 1), (Reg.DMA_CTL_REQ_SEL.key 0 0 0, 5),
      (Reg.DMA_STATUS_REQ_PEND.key 0 0 0, 2 ^ 8)]
    pfe := { check := some (4194304, 4194304) } }

theorem exec_pfeScanEnd {s : State} (h : s.alive = true) : exec .pfeScanEnd s = .next (pfeScanEndCmd s) :=
  congrArg Host.Outcome.next (State.powered_alive h _)

/-- The request that the end of the scan makes is stored in the field's 8 bits. -/
theorem pfeScanEndCmd_scanRequestsBeyondField_pend :
    (pfeScanEndCmd scanRequestsBeyondField).rd Reg.DMA_STATUS_REQ_PEND = 1 := by decide +kernel

/-- Refutes O47: at the end of a scan a channel that follows the front end's line, and whose count of pending requests is
not 255, counts one more modulo the width of the field (`State.paceChannel`), where the statement has the sum itself. -/
theorem not_scansAndServo : ¬ Obligations.ScansAndServo := by
  unfold Obligations.ScansAndServo
  rintro ⟨hscanEnd, -⟩
  have halive : scanRequestsBeyondField.alive = true := by decide
  obtain ⟨hresults, -⟩ := (hscanEnd scanRequestsBeyondField halive).2 _ rfl _ _ rfl _ rfl
  obtain ⟨-, -, -, -, -, -, hpaced, -⟩ := hresults.of_next (exec_pfeScanEnd halive)
  have hsum : (pfeScanEndCmd scanRequestsBeyondField).rd Reg.DMA_STATUS_REQ_PEND 0 =
      scanRequestsBeyondField.rd Reg.DMA_STATUS_REQ_PEND 0 + 1 :=
    hpaced.rd_pend (by decide) (by decide) (by decide) (by decide)
  rw [pfeScanEndCmd_scanRequestsBeyondField_pend] at hsum
  exact absurd hsum (by decide)

end Sys2Proof.Machine
end
